-- ==== Sys2Proof/Word.lean ====
section
/-! DEFINITION. The words of the block: 32-bit registers (R13), bytes, and their plainest arithmetic. -/

namespace Sys2Proof

/-- A register, an indirect word, a descriptor word: 32 bits (R13, R60). -/
abbrev Word := BitVec 32

/-- One byte of memory or of a frame. -/
abbrev Byte := BitVec 8

end Sys2Proof
end

