-- ==== Sys2Proof/Syntax.lean ====
section
/-! DEFINITION. The commands of the block: one constructor per row of spec/opcode_table.json, with the row's operands and
with what the environment brings to the step (a frame's contents, a response of memory, a measured value). -/

namespace Sys2Proof

/-- The agents whose identity a register access carries (R393). -/
inductive Agent where
  | host
  | fw
  | tc
  deriving DecidableEq, Repr

/-- What the ECC of a word answers when it is read (R196, R321, R455). -/
inductive Ecc where
  | ok
  | corrected
  | uncorrectable
  deriving DecidableEq, Repr

/-- An on-chip SRAM word that a step finds in error: STRUCT of R321 (8: the groundsheet store, R196), the word index, the item
of the step that the word belongs to (a layer slot, a cell's position in a frame), and whether it is uncorrectable. -/
structure Upset where
  struct : Nat
  word   : Nat
  item   : Nat
  uncorr : Bool
  deriving DecidableEq, Repr

/-- The live state of the PCIe link (HIF_STATUS, R391). -/
structure PcieLink where
  up     : Bool
  speed  : Nat
  width  : Nat
  dstate : Nat
  aspm   : Nat
  deriving DecidableEq, Repr

/-- The function's configuration bits a host write changes (R375, R362, R365): Max_Payload_Size and Max_Read_Request_Size as codes
(128 bytes doubled so often), the enables of Relaxed Ordering and No Snoop, and the completion timeout range. -/
structure PcieCfg where
  busMaster  : Bool
  msixEn     : Bool
  funcMask   : Bool
  pmeEn      : Bool
  maxPayload : Nat
  maxRead    : Nat
  relaxed    : Bool
  noSnoop    : Bool
  cplRange   : Nat
  deriving DecidableEq, Repr

/-- One sample row data segment: row, pixel offset, and its samples in sampling order at the stream's depth (R38, R40). -/
structure Seg where
  row     : Nat
  offset  : Nat
  samples : List Nat
  deriving DecidableEq, Repr

/-- An ST 2110-20 packet as its headers and segments (R38). -/
structure Rtp where
  pt     : Nat
  ts     : Word
  seq    : Word
  marker : Bool
  segs   : List Seg
  deriving DecidableEq, Repr

/-- A PTP message's header fields that R282 filters on, and its bytes. -/
structure Ptp where
  messageType : Nat
  version     : Nat
  minor       : Nat
  domain      : Nat
  sdo         : Nat
  clockId     : BitVec 64
  portNumber  : BitVec 16
  deriving DecidableEq, Repr

/-- The IPv4 UDP addressing of a frame (R36, R284). -/
structure Udp where
  srcIp   : Word
  dstIp   : Word
  dstPort : Nat
  deriving DecidableEq, Repr

/-- An Ethernet frame at an IG or SV port: its length, its FCS verdict, what the classifier reads, and its contents. -/
structure NetFrame where
  len       : Nat
  fcsError  : Bool
  etherType : BitVec 16
  udp       : Option Udp
  rtp       : Option Rtp
  ptp       : Option Ptp
  payload   : List Byte
  raw       : List Byte
  deriving DecidableEq, Repr

/-- A frame arriving at a tile port: its bytes without the FCS, and the FCS verdict (R250). -/
structure TileFrame where
  bytes    : List Byte
  fcsError : Bool
  deriving DecidableEq, Repr

/-- A frame received on an SDI input (R52, R53): its format, payload identifier, lines with CRC errors, its picture,
and its frame rate in mHz. -/
structure SdiFrame where
  sampling : Nat
  depth    : Nat
  width    : Nat
  height   : Nat
  st352    : Word
  crcLines : Nat
  rows     : List Seg
  complete : Bool
  milliHz  : Nat
  deriving DecidableEq, Repr

/-- The network port a packet came in by. -/
inductive Via where
  | ig (i : Nat)
  | sv (i : Nat)
  deriving DecidableEq, Repr

/-- Best-effort requesters of the fabric (R107, R108). -/
inductive BeWho where
  | blt
  | dma
  | host
  | mgt
  deriving DecidableEq, Repr

/-- A best-effort transfer waiting at a pseudo-channel: for DMA, the channel it belongs to (R347); its 64-byte unit's address. -/
structure BeReq where
  who   : BeWho
  chan  : Nat
  write : Bool
  addr  : Nat
  deriving DecidableEq, Repr

/-- How a descriptor fetch ended (R341). -/
inductive FetchEnd where
  | ok
  | error
  | timeout
  deriving DecidableEq, Repr

/-- Which response of a DMA channel reported an error (R344). -/
inductive RespKind where
  | read
  | write
  | flush
  deriving DecidableEq, Repr

/-- Fields of SET (R211). -/
structure SetF where
  setB : Bool
  setX : Bool
  setC : Bool
  b    : BitVec 11
  x    : BitVec 6
  c    : BitVec 8
  deriving DecidableEq, Repr

/-- Fields of ADD (R211). -/
structure AddF where
  db : BitVec 11
  dx : BitVec 6
  dc : BitVec 8
  deriving DecidableEq, Repr

/-- Fields of WAIT_BAND (R211). -/
structure WaitBandF where
  rel  : Bool
  band : BitVec 11
  ofs  : BitVec 16
  deriving DecidableEq, Repr

/-- Fields of SEND (R211). -/
structure SendF where
  mode    : Bool
  relB    : Bool
  relX    : Bool
  relC    : Bool
  band    : BitVec 10
  rx      : BitVec 6
  rxcell0 : BitVec 8
  countM1 : BitVec 4
  cx0     : BitVec 10
  deriving DecidableEq, Repr

/-- The twelve pitch-table instructions (R210, R211). -/
inductive PitchOp where
  | nop
  | set (f : SetF)
  | add (f : AddF)
  | loop (countM1 : BitVec 12)
  | endloop
  | waitBand (f : WaitBandF)
  | waitTime (t : BitVec 32)
  | waitEvent (line : BitVec 9) (tmo : BitVec 32)
  | send (f : SendF)
  | close
  | signal
  | seqEnd
  deriving DecidableEq, Repr

/-- What a JTAG operation does after an unlock (R393, R412). -/
inductive TapOp where
  | idcode
  | bypass (bits : List Bool)
  | boundary
  | readReg (addr : Nat)
  | haltCore (core : Nat)
  | runCore (core : Nat)
  | stepCore (core : Nat)
  | readMem (addr len : Nat)
  | writeMem (addr : Nat) (data : List Byte)
  | readSram (addr len : Nat)
  | writeSram (addr : Nat) (data : List Byte)
  deriving DecidableEq, Repr

/-- What ended the PCIE domain's run (R431). -/
inductive PcieResetBy where
  | perstN
  | hotReset
  | linkDisable
  | refLoss
  deriving DecidableEq, Repr

/-- Which PLL or reference a system loss concerns (R429): REF_SYS itself, or a system PLL's lock. -/
inductive SysLoss where
  | ref
  | pll
  deriving DecidableEq, Repr

/-- The commands of the block. Operands: `a` agent, `v` value written, `p` tile port, `k` frame, `n` phase, `b` band. -/
inductive Instr where
  -- register access and the host interface
  | registerWrite (a : Agent) (addr : Nat) (v : Word)
  | rcRead (a : Agent) (addr : Nat)
  | w1cWrite (a : Agent) (addr : Nat) (v : Word)
  | partialAccess (a : Agent) (addr : Nat) (write : Bool)
  | indDataRead (a : Agent) (page : Nat) (ecc : Ecc)
  | indDataWrite (a : Agent) (page : Nat) (v : Word)
  | pageLockWrite (a : Agent) (page : Nat) (v : Word)
  | parityMismatch (page off : Nat)
  | pageDisable (a : Agent) (page : Nat) (v : Word)
  | pageEnable (a : Agent) (page : Nat) (v : Word)
  | pageSoftReset (a : Agent) (page : Nat) (v : Word)
  | softResetDone (page : Nat)
  | bar2Read (addr len : Nat)
  | bar2Write (addr : Nat) (data : List Byte)
  | pcieLinkChange (l : PcieLink)
  -- ingest
  | igLinkChange (i : Nat) (up align : Bool) (lanes : Nat)
  | igFrameRx (i : Nat) (f : NetFrame)
  | bufferAssign (st : Nat) (clocks : Nat)
  | frameCloseTimeout (st : Nat)
  | fencePublish (st buf : Nat)
  | streamEnable (a : Agent) (st : Nat) (w0 : Word)
  | streamDisable (a : Agent) (st : Nat) (w0 : Word)
  | ingestEnable (a : Agent) (v : Word)
  | ingestDisable (a : Agent) (v : Word)
  | sdiLockChange (i : Nat) (carrier lock : Bool) (lines : Nat) (rate12g : Bool := true)
  | sdiFrameRx (i : Nat) (f : SdiFrame)
  -- layers and awnings
  | commit (a : Agent) (mask : Word)
  | commitCheckDone (upsets : List Upset)
  | commitCancel (a : Agent) (mask : Word)
  | layerLatch (k n : Nat) (upsets : List Upset)
  | placementPacket (via : Via) (srcIp : Word) (dstPort frameBytes : Nat) (payload : List Byte)
  | awningGroupLatch (k n g : Nat)
  -- span builder, fetch, fabric
  | spanBuildStart (k n : Nat)
  | spanBuildDone (k n clocks : Nat)
  | spanSwap (k n : Nat)
  | fetchRelease (k n b : Nat)
  | fetchDataReturn (id : Nat)
  | fabricSlotGrant (pc : Nat) (be : List BeReq) (ecc0 ecc1 : Ecc)
  | arbitrationWindowEnd (pc : Nat)
  | recheckGo (a : Agent) (v : Word)
  | recheckDone
  -- cell calibration
  | contextGranuleReturn (id : Nat)
  | calEnable (a : Agent) (v : Word)
  | flipGo (a : Agent) (v : Word)
  | scrubCheck (ecc0 ecc1 : Ecc)
  -- deadlines and groundsheet
  | bandEnter (k n b : Nat)
  | compositionStepDone (upsets : List Upset)
  | bandDeadline (k n b : Nat)
  | gsFillGo (a : Agent) (v : Word)
  | gsFillDone
  -- pitch sequencers
  | seqRestart (p k n : Nat) (upsets : List Upset)
  | nop (p : Nat)
  | set (p : Nat) (f : SetF)
  | add (p : Nat) (f : AddF)
  | loop (p : Nat) (countM1 : BitVec 12)
  | endloop (p : Nat)
  | waitBand (p : Nat) (f : WaitBandF)
  | waitBandRelease (p : Nat)
  | waitTime (p : Nat) (t : BitVec 32)
  | waitTimeRelease (p : Nat)
  | waitEvent (p : Nat) (line : BitVec 9) (tmo : BitVec 32)
  | waitEventRelease (p : Nat)
  | waitEventTimeout (p : Nat)
  | send (p : Nat) (f : SendF)
  | pixelFrameStart (p : Nat) (upsets : List Upset)
  | close (p : Nat)
  | closeRelease (p : Nat)
  | signal (p : Nat)
  | seqEnd (p : Nat)
  | loadCheckGo (a : Agent) (p : Nat) (v : Word)
  | loadCheckDone (p : Nat)
  | swapGo (a : Agent) (p : Nat) (v : Word)
  | swapCancel (a : Agent) (p : Nat) (v : Word)
  | seqEnable (a : Agent) (p : Nat) (v : Word)
  | seqDisable (a : Agent) (p : Nat) (v : Word)
  -- tile ports and egress
  | tileLinkChange (p : Nat) (up lock : Bool)
  | tileFrameRx (p : Nat) (f : TileFrame)
  | farOkLoss (p : Nat)
  | timeFrameTick
  | lanternQueue (k n : Nat)
  | egressSelect (p : Nat)
  | txFrameDone (p : Nat)
  | gateWindowOpen (p : Nat)
  | sessionDoorbell (a : Agent) (p se : Nat) (v : Word)
  | sessionDescReadDone (p se : Nat) (hd : List Byte) (err : Bool := false)
  | sessionAckTimeout (p se : Nat)
  | sessionComplete (p se : Nat)
  | mqDoorbell (a : Agent) (p : Nat) (v : Word)
  | mqDescReadDone (p : Nat) (hd : List Byte) (err : Bool := false)
  | queueSample (p : Nat)
  | sampleClear (a : Agent) (p : Nat) (v : Word)
  -- time
  | timeCounterTick
  | incOfsWrite (a : Agent) (v : Word)
  | captureGo (a : Agent) (v : Word)
  | captureArm (a : Agent) (v : Word)
  | captureEvent
  | ppsEnd
  | stepOffset (a : Agent) (v : Word)
  | stepAbsolute (a : Agent) (v : Word)
  | svLinkChange (i : Nat) (up lock : Bool)
  | svFrameRx (i : Nat) (f : NetFrame)
  | ptpMessage (via : Via) (m : Ptp) (raw : List Byte)
  | syncTimeout
  | holdoverEnd (a : Agent) (v : Word)
  | lockedWrite (a : Agent) (v : Word)
  | phaseEnable (a : Agent) (v : Word)
  | phaseDisable (a : Agent) (v : Word)
  | phaseStart (k n : Nat)
  | offsetApplyGo (a : Agent) (v : Word)
  | offsetApplyEffect
  -- redundant pair
  | twinEnable (a : Agent) (v : Word)
  | twinDisable (a : Agent) (v : Word)
  | twinLinkChange (l : Nat) (up : Bool)
  | healthRecord (l : Nat) (r : List Byte)
  | timeRecord (l : Nat) (r : List Byte)
  | commitRecord (l : Nat) (r : List Byte)
  | cancelRecord (l : Nat) (r : List Byte)
  | digestRecord (l : Nat) (r : List Byte)
  | flipRecord (l : Nat) (r : List Byte)
  | placeRecord (l : Nat) (r : List Byte)
  | fenceRecord (l : Nat) (r : List Byte)
  | digestSend
  | digestCompare
  | mirroredCancelApply
  | placeApply
  | fencePairReady
  | healthSend (k n : Nat)
  | twinTimeSend
  | peerLoss
  | searchTimeout
  | join
  | phaseYield (k n : Nat)
  -- blitter and DMA
  | bltCopy (a : Agent) (v : Word) (rows : Nat)
  | bltFill (a : Agent) (v : Word) (rows : Nat)
  | bltCopyBlend (a : Agent) (v : Word) (rows : Nat)
  | bltCopyConvert (a : Agent) (v : Word) (rows : Nat)
  | bltAbort (a : Agent) (v : Word) (rows bytes : Nat)
  | bltDone
  | bltMemError (write : Bool) (rows bytes addr : Nat)
  | dmaGo (a : Agent) (ch : Nat) (v : Word)
  | dmaTrigger (ch : Nat)
  | dmaDescFetchDone (ch : Nat) (res : FetchEnd) (hd : List Byte)
  | dmaDescCheck (ch : Nat)
  | dmaDescComplete (ch : Nat) (hd : List Byte)
  | dmaResponseError (ch : Nat) (kind : RespKind) (addr moved : Nat) (hd : List Byte)
  | dmaTimeout (ch : Nat) (addr moved : Nat) (hd : List Byte) (issued : Nat := 0)
  | dmaDrainDone (ch : Nat)
  | dmaAbort (a : Agent) (ch : Nat) (ctrl : Bool) (v : Word) (moved : Nat) (hd : List Byte)
  | dmaErrClear (a : Agent) (ch : Nat) (v : Word)
  -- interrupts and events
  | irqInputRise (src : Nat)
  | irqOffer (src : Nat)
  | moderationExpiry (vec : Nat)
  | offerWithdraw (src : Nat)
  | claim (a : Agent) (k : Nat)
  | hostClaim (a : Agent) (vec : Nat)
  | cpl (a : Agent) (k : Nat) (v : Word)
  | hostCpl (a : Agent) (v : Word)
  | swSourceSet (a : Agent) (v : Word)
  | swSourceClear (a : Agent) (v : Word)
  | d0Entry
  | swPulse (a : Agent) (v : Word)
  -- trusted core, roles, audit, firmware
  | tcBoot
  | auditRecordWrite (norOk : Bool)
  | imageUpdate (a : Agent) (v : Word)
  | imageUpdateDone (norOk : Bool := true)
  | attest (a : Agent) (v : Word)
  | attestDone
  | fwMemoryAccess (core addr : Nat) (write : Bool) (len : Nat) (data : List Byte)
  | wdtKick (a : Agent) (v : Word)
  | watchdogExpiry (core : Nat)
  | coreFault (core : Nat)
  | coreRestart (core : Nat)
  | txqDoorbell (a : Agent) (v : Word)
  | sessionChallenge (a : Agent) (v : Word)
  | challengeReady (nonce : List Byte)
  | challengeExpiry
  | sessionOpen (a : Agent) (v : Word)
  | sessionVerifyDone
  | sessionClose (a : Agent) (v : Word)
  | sessionIdleTimeout
  | sessionMaxTimeout
  | reqSubmit (a : Agent) (v : Word) (nr : List Byte)
  | reqApprove (a : Agent) (v : Word)
  | approvalVerifyDone
  | reqWithdraw (a : Agent) (v : Word)
  | reqTimeout
  | rights (norOk : Bool := true)
  | enrol (norOk : Bool := true)
  | fwkey
  | debug
  | jump
  | debugRelock (a : Agent) (v : Word)
  -- resets, clocks, power
  | powerOnReset
  | resetPin (ns : Nat)
  | devRst (a : Agent) (v : Word)
  | resetRelease
  | sramInitDone
  | hbmTrained
  | refSysLoss (what : SysLoss)
  | octetPllUnlock (o : Nat)
  | igPllUnlock (i : Nat)
  | refSdiLoss
  | refAonLoss
  | pcieDomainReset (why : PcieResetBy)
  | supplyDip
  | thermalTrip
  | hbmRetrain (m : Nat)
  | standbyEnter (a : Agent) (v : Word)
  | standbyLeave (a : Agent) (v : Word)
  | standbyTransitionDone
  | railSample (mv ma : List Nat)
  | malformedRecord (l : Nat) (r : List Byte)
  | configurationWrite (c : PcieCfg) (pmeClear : Bool := false)
  | tapAccess (op : TapOp)
  | transmitDone (port kind : Nat)
  | hbmRetrainingDone (m : Nat)
  | octetPllRelock (o : Nat)
  | igPllRelock (i : Nat)
  | refSdiReturn
  | refAonReturn
  | pcieDomainRelease
  | completionTimeout
  | sessionLockoutEnd
  | powerSample (mw mj : Nat)
  | temperatureSample (dies : List (BitVec 16)) (hbms : List Nat)
  | frequencyMeasurement (khz : List Nat)
  deriving DecidableEq, Repr

end Sys2Proof
end

