-- ==== Sys2Proof/Decode.lean ====
section
/-! DEFINITION. The words the block reads as commands. The command table gives its rows no bits, so no word of it spells a
command; the one encoding the spec gives is that of the pitch instructions (R210, R211), decoded and encoded here. -/

namespace Sys2Proof

/-- The command that a word spells by the table's bits. No row of spec/opcode_table.json gives bits, so no word spells one. -/
def decodeTableWord (_nbits _w : Nat) : Option Instr := none

/-- One bit of a Boolean. -/
def bit1 (b : Bool) : BitVec 1 := BitVec.ofBool b

/-- The 64-bit word of a pitch instruction, opcode in [63:58], reserved bits zero (R210, R211). -/
def encodePitch : PitchOp → BitVec 64
  | .nop => 0x00#6 ++ 0#58
  | .set f => 0x01#6 ++ bit1 f.setB ++ bit1 f.setX ++ bit1 f.setC ++ 0#23 ++ f.c ++ 0#2 ++ f.x ++ 0#5 ++ f.b
  | .add f => 0x02#6 ++ 0#26 ++ f.dc ++ 0#2 ++ f.dx ++ 0#5 ++ f.db
  | .loop c => 0x03#6 ++ 0#46 ++ c
  | .endloop => 0x04#6 ++ 0#58
  | .waitBand f => 0x05#6 ++ bit1 f.rel ++ 0#25 ++ f.ofs ++ 0#5 ++ f.band
  | .waitTime t => 0x06#6 ++ 0#26 ++ t
  | .waitEvent l t => 0x07#6 ++ 0#10 ++ t ++ 0#7 ++ l
  | .send f =>
    0x08#6 ++ bit1 f.mode ++ bit1 f.relB ++ bit1 f.relX ++ bit1 f.relC ++ 0#16 ++ f.cx0 ++ f.countM1 ++ f.rxcell0 ++
      f.rx ++ f.band
  | .close => 0x09#6 ++ 0#58
  | .signal => 0x0A#6 ++ 0#58
  | .seqEnd => 0x0B#6 ++ 0#58

/-- Bit `b` of a pitch word. -/
def pbit (w : BitVec 64) (b : Nat) : Bool := w.getLsbD b

/-- The fields that an opcode names, reserved bits left unread; none for a reserved opcode (R210, R211). -/
def pitchFields (w : BitVec 64) : Option PitchOp :=
  match (w.extractLsb' 58 6).toNat with
  | 0x00 => some .nop
  | 0x01 => some (.set ⟨pbit w 57, pbit w 56, pbit w 55, w.extractLsb' 0 11, w.extractLsb' 16 6, w.extractLsb' 24 8⟩)
  | 0x02 => some (.add ⟨w.extractLsb' 0 11, w.extractLsb' 16 6, w.extractLsb' 24 8⟩)
  | 0x03 => some (.loop (w.extractLsb' 0 12))
  | 0x04 => some .endloop
  | 0x05 => some (.waitBand ⟨pbit w 57, w.extractLsb' 0 11, w.extractLsb' 16 16⟩)
  | 0x06 => some (.waitTime (w.extractLsb' 0 32))
  | 0x07 => some (.waitEvent (w.extractLsb' 0 9) (w.extractLsb' 16 32))
  | 0x08 => some (.send ⟨pbit w 57, pbit w 56, pbit w 55, pbit w 54, w.extractLsb' 0 10, w.extractLsb' 10 6,
      w.extractLsb' 16 8, w.extractLsb' 24 4, w.extractLsb' 28 10⟩)
  | 0x09 => some .close
  | 0x0A => some .signal
  | 0x0B => some .seqEnd
  | _ => none

/-- The pitch instruction a word holds; none for a reserved opcode or a reserved bit set (R210, cause 1 of R219). -/
def decodePitch (w : BitVec 64) : Option PitchOp :=
  match pitchFields w with
  | some op => if encodePitch op = w then some op else none
  | none => none

end Sys2Proof
end

