-- ==== Sys2Proof/Config.lean ====
section
/-! DEFINITION. What the manual leaves open, as constants without a body: nothing can be proved of their values. -/

namespace Sys2Proof

/-- GRADE of CHIP_ID: 0 for a YZ8-256-C0, 1 for a YZ8-256-E0 (R1, R391). Log entry 6. -/
opaque Config.gradeE0 : Bool

/-- UNIQUE_ID of the die (R391). Log entry 6. -/
opaque Config.uniqueId : BitVec 64

/-- The `n`-th free bit: a value the manual leaves open and the machine goes on with. Log entry 4. -/
opaque Config.freeBit : Nat → Bool

/-- The `n`-th free byte (R340: what a descriptor whose source and destination overlap writes). Log entry 4. -/
opaque Config.freeByte : Nat → BitVec 8

/-- The `n`-th free word (R198: a cell read from an unready or released ring slot). Log entry 4. -/
opaque Config.freeWord : Nat → BitVec 32

/-- SLH-DSA verification (FIPS 205, R397, R408, R414): key, context string, message, signature. Log entry 7. -/
opaque Config.slhVerify : List Byte → List Byte → List Byte → List Byte → Bool

/-- DIE_SECRET of OTP at manufacture, byte `i` (R396). Log entry 7. -/
opaque Config.dieSecretByte : Nat → Byte

/-- The attestation signature over a report (R401), 17,088 bytes, by the key pair derived from a die secret: `i`-th byte of the
signature of `m`. Log entry 7. -/
opaque Config.attestSigByte : List Byte → List Byte → Nat → Byte

/-- The attestation public key derived from a die secret, 32 bytes (R401). Log entry 7. -/
opaque Config.attestKeyByte : List Byte → Nat → Byte

/-- The configuration block's HMAC under the key derived from a die secret (R395): byte `i` of the HMAC of `m`. Log entry 7. -/
opaque Config.configHmacByte : List Byte → List Byte → Nat → Byte

/-- SHA-256 of the ROM, byte `i` (R400). Log entry 7. -/
opaque Config.romHashByte : Nat → Byte

/-- Public key of maker slot `s` (0 or 1) at manufacture, byte `i` (R407). Log entry 7. -/
opaque Config.makerKeyByte : Nat → Nat → Byte

/-- IDCODE of the TAP (R393), whose value the manual does not give. Log entry 146. -/
opaque Config.tapIdcode : BitVec 32

end Sys2Proof
end

