-- ==== Sys2Proof/Machine/Bits.lean ====
section
/-! DEFINITION. Fields of words (R8), byte orders (R9), signed values (R11), CRC-32 and SHA-256. -/

namespace Sys2Proof.Machine

/-- Bits [hi:lo] of a register value, as a number (R8). -/
def fld (w : Word) (hi lo : Nat) : Nat := (w.toNat / 2 ^ lo) % 2 ^ (hi + 1 - lo)

/-- Bit `b` of a register value (R8). -/
def bit (w : Word) (b : Nat) : Bool := w.toNat.testBit b

/-- `w` with bits [hi:lo] replaced by the low bits of `v`. -/
def setFld (w : Word) (hi lo v : Nat) : Word :=
  BitVec.ofNat 32 (w.toNat - fld w hi lo * 2 ^ lo + (v % 2 ^ (hi + 1 - lo)) * 2 ^ lo)

/-- `w` with bit `b` set to `v`. -/
def setBit (w : Word) (b : Nat) (v : Bool) : Word := setFld w b b v.toNat

/-- A word from a number, modulo 2^32. -/
def w32 (n : Nat) : Word := BitVec.ofNat 32 n

/-- A word from an integer, two's complement. -/
def w32i (n : Int) : Word := BitVec.ofInt 32 n

/-- Bits [hi:lo] of a number. -/
def nfld (w hi lo : Nat) : Nat := (w / 2 ^ lo) % 2 ^ (hi + 1 - lo)

/-- The low `n` bits of `v` as a two's-complement number (R11). -/
def toSigned (n v : Nat) : Int :=
  let x := v % 2 ^ n
  if x < 2 ^ (n - 1) then (x : Int) else (x : Int) - 2 ^ n

/-- `v` modulo 2^n, of an integer. -/
def wrapTo (n : Nat) (v : Int) : Nat := (v % (2 ^ n : Int)).toNat

/-- `v` held between `lo` and `hi`. -/
def clampN (lo hi v : Nat) : Nat := if v < lo then lo else if hi < v then hi else v

/-- An integer held between `lo` and `hi`. -/
def clampI (lo hi v : Int) : Int := if v < lo then lo else if hi < v then hi else v

/-- Round up to a whole quotient. -/
def ceilDiv (a b : Nat) : Nat := (a + b - 1) / b

/-- A number whose bits are the Booleans, bit 0 first. -/
def ofBits : List Bool → Nat
  | [] => 0
  | b :: bs => b.toNat + 2 * ofBits bs

/-- Bytes of a number, least significant first (R9: memory structures). -/
def leBytes : Nat → Nat → List Byte
  | 0, _ => []
  | n + 1, v => BitVec.ofNat 8 v :: leBytes n (v / 256)

/-- The number of little-endian bytes. -/
def ofLe : List Byte → Nat
  | [] => 0
  | b :: bs => b.toNat + 256 * ofLe bs

/-- Bytes of a number, most significant first (R9: network structures). -/
def beBytes (n v : Nat) : List Byte := (leBytes n v).reverse

/-- The number of big-endian bytes. -/
def ofBe (bs : List Byte) : Nat := ofLe bs.reverse

/-- `n` bytes of a structure at offset `o`. -/
def bytesAt (bs : List Byte) (o n : Nat) : List Byte := (bs.drop o).take n

/-- A big-endian field of `n` bytes at offset `o`. -/
def beAt (bs : List Byte) (o n : Nat) : Nat := ofBe (bytesAt bs o n)

/-- A little-endian field of `n` bytes at offset `o`. -/
def leAt (bs : List Byte) (o n : Nat) : Nat := ofLe (bytesAt bs o n)

/-- One byte, zero past the end. -/
def byteAt (bs : List Byte) (o : Nat) : Byte := bs.getD o 0

/-- `bs` brought to `n` bytes by zeros or by cutting. -/
def padTo (n : Nat) (bs : List Byte) : List Byte := (bs ++ List.replicate n 0).take n

/-- The bytes of an ASCII text. -/
def ascii (t : String) : List Byte := t.toList.map fun c => BitVec.ofNat 8 c.toNat

/-- One byte of a reflected CRC-32 step, polynomial 0xEDB88320. -/
def crcBits : Nat → Nat → Nat
  | 0, c => c
  | n + 1, c => crcBits n (if c % 2 = 1 then (c / 2) ^^^ 0xEDB88320 else c / 2)

/-- The running CRC-32 register over more bytes. -/
def crcRun (c : Nat) (bs : List Byte) : Nat := bs.foldl (fun c b => crcBits 8 (c ^^^ b.toNat)) c

/-- The IEEE 802.3 CRC-32 of a byte string. -/
def crc32 (bs : List Byte) : Nat := crcRun 0xFFFFFFFF bs ^^^ 0xFFFFFFFF

/-- An Ethernet frame with its FCS, which is sent from its least significant byte on. -/
def withFcs (b : List Byte) : List Byte := b ++ leBytes 4 (crc32 b)

/-- A number of 256 bits as its eight 32-bit words, the topmost first. -/
def octad (v : Nat) : List Nat := (List.range 8).map fun i => v / 2 ^ (32 * (7 - i)) % 2 ^ 32

/-- Additive constants of SHA-256's rounds (FIPS 180-4), eight rounds to a numeral. -/
def digestAdds : List Nat :=
  octad 0x428a2f9871374491b5c0fbcfe9b5dba53956c25b59f111f1923f82a4ab1c5ed5 ++
  octad 0xd807aa9812835b01243185be550c7dc372be5d7480deb1fe9bdc06a7c19bf174 ++
  octad 0xe49b69c1efbe47860fc19dc6240ca1cc2de92c6f4a7484aa5cb0a9dc76f988da ++
  octad 0x983e5152a831c66db00327c8bf597fc7c6e00bf3d5a7914706ca635114292967 ++
  octad 0x27b70a852e1b21384d2c6dfc53380d13650a7354766a0abb81c2c92e92722c85 ++
  octad 0xa2bfe8a1a81a664bc24b8b70c76c51a3d192e819d6990624f40e3585106aa070 ++
  octad 0x19a4c1161e376c082748774c34b0bcb5391c0cb34ed8aa4a5b9cca4f682e6ff3 ++
  octad 0x748f82ee78a5636f84c878148cc7020890befffaa4506cebbef9a3f7c67178f2

/-- The chaining value before the first block, as the two halves that a round shifts along. -/
def digestStart : List Nat × List Nat :=
  let w := octad 0x6a09e667bb67ae853c6ef372a54ff53a510e527f9b05688c1f83d9ab5be0cd19
  (w.take 4, w.drop 4)

/-- Exclusive or of a 32-bit number turned right by each of some distances. -/
def turned (x : Nat) (by_ : List Nat) : Nat := by_.foldl (fun acc n => acc ^^^ (x * 2 ^ 32 + x) / 2 ^ n % 2 ^ 32) 0

/-- The words that a block's rounds take: a window of sixteen, oldest first, moves along by one word per round. -/
def roundWords : Nat → List Nat → List Nat
  | 0, _ => []
  | n + 1, win =>
    let old := win.headD 0
    let low := win.getD 1 0
    let high := win.getD 14 0
    let next := old + win.getD 9 0 + (turned low [7, 18] ^^^ low / 8) + (turned high [17, 19] ^^^ high / 1024)
    old :: roundWords n (win.drop 1 ++ [next % 2 ^ 32])

/-- A round: each half takes one new word in front and lets its last one go. `x` is the round's constant plus its word. -/
def digestRound (v : List Nat × List Nat) (x : Nat) : List Nat × List Nat :=
  match v with
  | ([p0, p1, p2, p3], [q0, q1, q2, q3]) =>
    let pick := (q0 &&& q1) ||| ((0xFFFFFFFF ^^^ q0) &&& q2)
    let most := (p0 &&& p1) ||| (p2 &&& (p0 ||| p1))
    let sum := q3 + x + pick + turned q0 [6, 11, 25]
    ([(sum + most + turned p0 [2, 13, 22]) % 2 ^ 32, p0, p1, p2], [(p3 + sum) % 2 ^ 32, q0, q1, q2])
  | _ => v

/-- The chaining value after one more block of 64 bytes. -/
def digestBlock (v : List Nat × List Nat) (block : List Byte) : List Nat × List Nat :=
  let words := roundWords 64 ((List.range 16).map fun i => beAt block (4 * i) 4)
  let r := (List.zipWith (· + ·) digestAdds words).foldl digestRound v
  let add (l m : List Nat) : List Nat := List.zipWith (fun a b => (a + b) % 2 ^ 32) l m
  (add v.1 r.1, add v.2 r.2)

/-- `n` blocks of a padded message. -/
def digestBlocks : Nat → List Nat × List Nat → List Byte → List Nat × List Nat
  | 0, v, _ => v
  | n + 1, v, m => digestBlocks n (digestBlock v (m.take 64)) (m.drop 64)

/-- SHA-256 of a byte string (R397, R400, R416): 32 bytes. The padding is a one bit, zeros, and the length in bits. -/
def sha256 (m : List Byte) : List Byte :=
  let blocks := m.length / 64 + (if m.length % 64 < 56 then 1 else 2)
  let tail := 0x80 :: List.replicate (64 * blocks - m.length - 9) 0 ++ beBytes 8 (8 * m.length)
  let v := digestBlocks blocks digestStart (m ++ tail)
  (v.1 ++ v.2).flatMap (beBytes 4)

end Sys2Proof.Machine
end

