-- ==== Sys2Proof/Machine/RegMap.lean ====
section
/-! DEFINITION. The BAR0 byte address of every register of the spec's register tables (R376 and each page's table), by name.
An indexed page takes its instance first; a register array takes its index last. -/

namespace Sys2Proof.Machine

-- page GBL
abbrev Reg.GBL.CHIP_ID : Nat := 0x80
abbrev Reg.GBL.UNIQUE_ID_LO : Nat := 0x84
abbrev Reg.GBL.UNIQUE_ID_HI : Nat := 0x88
abbrev Reg.GBL.HIF_CTRL : Nat := 0x8C
abbrev Reg.GBL.HIF_STATUS : Nat := 0x90
abbrev Reg.GBL.BAR2_UNMAPPED : Nat := 0x94
abbrev Reg.GBL.HOST_CPL_TMO : Nat := 0x98
abbrev Reg.GBL.HOST_CPL_ERR : Nat := 0x9C
abbrev Reg.GBL.ACCESS_ERR : Nat := 0xA0
abbrev Reg.GBL.SCRATCH (i : Nat) : Nat := 0xB0 + 0x4 * i
abbrev Reg.GBL.PAR_PAGES (i : Nat) : Nat := 0x100 + 0x4 * i

-- page CRU
abbrev Reg.CRU.CRU_STATUS : Nat := 0x1080
abbrev Reg.CRU.RESET_CAUSE : Nat := 0x1084
abbrev Reg.CRU.DEV_RST : Nat := 0x1088
abbrev Reg.CRU.PWR_CTRL : Nat := 0x108C
abbrev Reg.CRU.PWR_STATE : Nat := 0x1090
abbrev Reg.CRU.OCTET_LOCK : Nat := 0x1094
abbrev Reg.CRU.IG_LOCK : Nat := 0x1098
abbrev Reg.CRU.OCTET_UNLOCKS : Nat := 0x109C
abbrev Reg.CRU.FAULT_SEL : Nat := 0x10A0
abbrev Reg.CRU.FAULT_STATUS : Nat := 0x10A4
abbrev Reg.CRU.DOM_FREQ (i : Nat) : Nat := 0x1100 + 0x4 * i

-- page PWR
abbrev Reg.PWR.PWR_STATUS : Nat := 0x2080
abbrev Reg.PWR.TEMP_MAX : Nat := 0x2084
abbrev Reg.PWR.TEMP_WARN_TH : Nat := 0x2088
abbrev Reg.PWR.TEMP_PEAK : Nat := 0x208C
abbrev Reg.PWR.POWER : Nat := 0x2090
abbrev Reg.PWR.POWER_TH : Nat := 0x2094
abbrev Reg.PWR.POWER_PEAK : Nat := 0x2098
abbrev Reg.PWR.ENERGY_LO : Nat := 0x209C
abbrev Reg.PWR.ENERGY_HI : Nat := 0x20A0
abbrev Reg.PWR.RAIL_V (i : Nat) : Nat := 0x2100 + 0x8 * i
abbrev Reg.PWR.RAIL_I (i : Nat) : Nat := 0x2104 + 0x8 * i
abbrev Reg.PWR.RAIL_LO_TH (i : Nat) : Nat := 0x2180 + 0x8 * i
abbrev Reg.PWR.RAIL_HI_TH (i : Nat) : Nat := 0x2184 + 0x8 * i

-- page MEM
abbrev Reg.MEM.MEM_STATUS (p : Nat) : Nat := 0x4080 + 0x1000 * p
abbrev Reg.MEM.ECC_CORR (p : Nat) : Nat := 0x4084 + 0x1000 * p
abbrev Reg.MEM.ECC_UNCORR (p : Nat) : Nat := 0x4088 + 0x1000 * p
abbrev Reg.MEM.LAST_UNCORR_LO (p : Nat) : Nat := 0x408C + 0x1000 * p
abbrev Reg.MEM.LAST_UNCORR_HI (p : Nat) : Nat := 0x4090 + 0x1000 * p
abbrev Reg.MEM.RETRAINS (p : Nat) : Nat := 0x4094 + 0x1000 * p
abbrev Reg.MEM.RD_BYTES_LO (p : Nat) : Nat := 0x4098 + 0x1000 * p
abbrev Reg.MEM.RD_BYTES_HI (p : Nat) : Nat := 0x409C + 0x1000 * p
abbrev Reg.MEM.WR_BYTES_LO (p : Nat) : Nat := 0x40A0 + 0x1000 * p
abbrev Reg.MEM.WR_BYTES_HI (p : Nat) : Nat := 0x40A4 + 0x1000 * p
abbrev Reg.MEM.TEMP_LIMIT (p : Nat) : Nat := 0x40A8 + 0x1000 * p

-- page FAB
abbrev Reg.FAB.SHARES : Nat := 0x10080
abbrev Reg.FAB.ADMIT_EFF : Nat := 0x10084
abbrev Reg.FAB.DISP_GRANTS_LO : Nat := 0x10088
abbrev Reg.FAB.DISP_GRANTS_HI : Nat := 0x1008C
abbrev Reg.FAB.ING_GRANTS_LO : Nat := 0x10090
abbrev Reg.FAB.ING_GRANTS_HI : Nat := 0x10094
abbrev Reg.FAB.BE_GRANTS_LO : Nat := 0x10098
abbrev Reg.FAB.BE_GRANTS_HI : Nat := 0x1009C
abbrev Reg.FAB.DISP_OVER : Nat := 0x100A0
abbrev Reg.FAB.DISP_WAIT_MAX : Nat := 0x100A4
abbrev Reg.FAB.ING_WAIT_MAX : Nat := 0x100A8
abbrev Reg.FAB.BE_WAIT_MAX : Nat := 0x100AC

-- page IGS
abbrev Reg.IGS.IGS_CTRL : Nat := 0x20080
abbrev Reg.IGS.FENCE_BASE_LO : Nat := 0x20084
abbrev Reg.IGS.FENCE_BASE_HI : Nat := 0x20088
abbrev Reg.IGS.ALLOC_LAT_MAX : Nat := 0x2008C
abbrev Reg.IGS.FRAMES_FENCED : Nat := 0x20090
abbrev Reg.IGS.FRAMES_DROPPED : Nat := 0x20094
abbrev Reg.IGS.FRAMES_INCOMPLETE : Nat := 0x20098

-- page IG
abbrev Reg.IG.PORT_CTRL (p : Nat) : Nat := 0x21080 + 0x1000 * p
abbrev Reg.IG.PORT_STATUS (p : Nat) : Nat := 0x21084 + 0x1000 * p
abbrev Reg.IG.IPV4_ADDR (p : Nat) : Nat := 0x21088 + 0x1000 * p
abbrev Reg.IG.STORE_RATE (p : Nat) : Nat := 0x2108C + 0x1000 * p
abbrev Reg.IG.RX_FRAMES_LO (p : Nat) : Nat := 0x21090 + 0x1000 * p
abbrev Reg.IG.RX_FRAMES_HI (p : Nat) : Nat := 0x21094 + 0x1000 * p
abbrev Reg.IG.RX_BYTES_LO (p : Nat) : Nat := 0x21098 + 0x1000 * p
abbrev Reg.IG.RX_BYTES_HI (p : Nat) : Nat := 0x2109C + 0x1000 * p
abbrev Reg.IG.FCS_ERR (p : Nat) : Nat := 0x210A0 + 0x1000 * p
abbrev Reg.IG.UNMATCHED (p : Nat) : Nat := 0x210A4 + 0x1000 * p
abbrev Reg.IG.BUF_OVF (p : Nat) : Nat := 0x210A8 + 0x1000 * p
abbrev Reg.IG.BUF_PEAK (p : Nat) : Nat := 0x210AC + 0x1000 * p

-- page SD
abbrev Reg.SD.SDI_CTRL (p : Nat) : Nat := 0x38080 + 0x1000 * p
abbrev Reg.SD.SDI_STATUS (p : Nat) : Nat := 0x38084 + 0x1000 * p
abbrev Reg.SD.ST352 (p : Nat) : Nat := 0x38088 + 0x1000 * p
abbrev Reg.SD.CRC_ERR (p : Nat) : Nat := 0x3808C + 0x1000 * p
abbrev Reg.SD.LINES (p : Nat) : Nat := 0x38090 + 0x1000 * p
abbrev Reg.SD.FRAMES (p : Nat) : Nat := 0x38094 + 0x1000 * p

-- page LYR
abbrev Reg.LYR.LYR_CTRL : Nat := 0x40080
abbrev Reg.LYR.LATCH_LEAD : Nat := 0x40084
abbrev Reg.LYR.COMMIT : Nat := 0x40088
abbrev Reg.LYR.COMMIT_CTRL : Nat := 0x4008C
abbrev Reg.LYR.COMMIT_CANCEL : Nat := 0x40090
abbrev Reg.LYR.QUEUED : Nat := 0x40094
abbrev Reg.LYR.CHECKING : Nat := 0x40098
abbrev Reg.LYR.COMMIT_LAST : Nat := 0x4009C
abbrev Reg.LYR.COMMIT_LAST_PH : Nat := 0x400A0
abbrev Reg.LYR.COMMIT_REFUSED : Nat := 0x400A4
abbrev Reg.LYR.REFUSE_INFO : Nat := 0x400A8
abbrev Reg.LYR.COMMIT_COUNT : Nat := 0x400AC
abbrev Reg.LYR.NOTREADY_COUNT : Nat := 0x400B0
abbrev Reg.LYR.HOLD_COUNT : Nat := 0x400B4
abbrev Reg.LYR.STAGE_BUSY : Nat := 0x400B8
abbrev Reg.LYR.PH_LAYERS (i : Nat) : Nat := 0x400C0 + 0x4 * i

-- page AWN
abbrev Reg.AWN.AWN_CTRL : Nat := 0x41080
abbrev Reg.AWN.MAX_AGE : Nat := 0x41084
abbrev Reg.AWN.EXTRAP_MAX : Nat := 0x41088
abbrev Reg.AWN.PAIR_MIN : Nat := 0x4108C
abbrev Reg.AWN.FORMAT_DROP : Nat := 0x41090
abbrev Reg.AWN.SRC_IP (i : Nat) : Nat := 0x41100 + 0x40 * i
abbrev Reg.AWN.T0_OFS (i : Nat) : Nat := 0x41104 + 0x40 * i
abbrev Reg.AWN.G_STEP (i : Nat) : Nat := 0x41108 + 0x40 * i
abbrev Reg.AWN.POL_CIR (i : Nat) : Nat := 0x4110C + 0x40 * i
abbrev Reg.AWN.POL_PIR (i : Nat) : Nat := 0x41110 + 0x40 * i
abbrev Reg.AWN.POL_BURST (i : Nat) : Nat := 0x41114 + 0x40 * i
abbrev Reg.AWN.A_STATUS (i : Nat) : Nat := 0x41118 + 0x40 * i
abbrev Reg.AWN.CUR_X (i : Nat) : Nat := 0x4111C + 0x40 * i
abbrev Reg.AWN.CUR_Y (i : Nat) : Nat := 0x41120 + 0x40 * i
abbrev Reg.AWN.CUR_W (i : Nat) : Nat := 0x41124 + 0x40 * i
abbrev Reg.AWN.CUR_H (i : Nat) : Nat := 0x41128 + 0x40 * i
abbrev Reg.AWN.RX_OK (i : Nat) : Nat := 0x4112C + 0x40 * i
abbrev Reg.AWN.DROP_AGE (i : Nat) : Nat := 0x41130 + 0x40 * i
abbrev Reg.AWN.DROP_ORDER (i : Nat) : Nat := 0x41134 + 0x40 * i
abbrev Reg.AWN.DROP_POLICE (i : Nat) : Nat := 0x41138 + 0x40 * i
abbrev Reg.AWN.DROP_SRC (i : Nat) : Nat := 0x4113C + 0x40 * i

-- page SPB
abbrev Reg.SPB.SPB_CTRL : Nat := 0x48080
abbrev Reg.SPB.FETCH_AHEAD : Nat := 0x48084
abbrev Reg.SPB.BANK_STATUS : Nat := 0x48088
abbrev Reg.SPB.STALE_PHASES : Nat := 0x4808C
abbrev Reg.SPB.LAST_STALE : Nat := 0x48090
abbrev Reg.SPB.BUILD_TIME_MAX : Nat := 0x48094
abbrev Reg.SPB.BUILD_TIME_LAST : Nat := 0x48098
abbrev Reg.SPB.DEPTH_TRUNC : Nat := 0x4809C
abbrev Reg.SPB.RECHECK : Nat := 0x480A0
abbrev Reg.SPB.RECHECK_STATUS : Nat := 0x480A4
abbrev Reg.SPB.ADMIT_INFO : Nat := 0x480A8
abbrev Reg.SPB.FETCH_EXPIRED : Nat := 0x480AC
abbrev Reg.SPB.FETCH_BYTES_LO : Nat := 0x480B0
abbrev Reg.SPB.FETCH_BYTES_HI : Nat := 0x480B4
abbrev Reg.SPB.ADMIT_PEAK (i : Nat) : Nat := 0x480C0 + 0x4 * i

-- page SC
abbrev Reg.SC.SC_STATUS (p : Nat) : Nat := 0x50080 + 0x1000 * p
abbrev Reg.SC.STEP_H (p : Nat) : Nat := 0x50084 + 0x1000 * p
abbrev Reg.SC.STEP_V (p : Nat) : Nat := 0x50088 + 0x1000 * p
abbrev Reg.SC.READ_RANGE (p : Nat) : Nat := 0x5008C + 0x1000 * p
abbrev Reg.SC.OUT_PIX_LO (p : Nat) : Nat := 0x50090 + 0x1000 * p
abbrev Reg.SC.OUT_PIX_HI (p : Nat) : Nat := 0x50094 + 0x1000 * p
abbrev Reg.SC.CLAMP_COUNT (p : Nat) : Nat := 0x50098 + 0x1000 * p
abbrev Reg.SC.POOL_CTRL (p : Nat) : Nat := 0x50100 + 0x1000 * p
abbrev Reg.SC.COEF_SEL (p : Nat) : Nat := 0x50104 + 0x1000 * p
abbrev Reg.SC.POOL_USE (p : Nat) : Nat := 0x50108 + 0x1000 * p
abbrev Reg.SC.ASSIGN_INFO (p : Nat) : Nat := 0x5010C + 0x1000 * p
abbrev Reg.SC.ASSIGN_LOST (p : Nat) : Nat := 0x50110 + 0x1000 * p

-- page CLR
abbrev Reg.CLR.POST_SEL : Nat := 0x70080
abbrev Reg.CLR.CSC_CLAMP : Nat := 0x70084
abbrev Reg.CLR.W24_CLAMP : Nat := 0x70088
abbrev Reg.CLR.BLEND_CLAMP : Nat := 0x7008C
abbrev Reg.CLR.POST_CLIP : Nat := 0x70090
abbrev Reg.CLR.PH_OUT (i : Nat) : Nat := 0x700C0 + 0x4 * i

-- page CAL
abbrev Reg.CAL.CAL_CTRL : Nat := 0x78080
abbrev Reg.CAL.COPY0_BASE_LO : Nat := 0x78084
abbrev Reg.CAL.COPY0_BASE_HI : Nat := 0x78088
abbrev Reg.CAL.COPY1_BASE_LO : Nat := 0x7808C
abbrev Reg.CAL.COPY1_BASE_HI : Nat := 0x78090
abbrev Reg.CAL.CAL_STATUS : Nat := 0x78094
abbrev Reg.CAL.SEL_NEXT_LO : Nat := 0x78098
abbrev Reg.CAL.SEL_NEXT_HI : Nat := 0x7809C
abbrev Reg.CAL.FLIP : Nat := 0x780A0
abbrev Reg.CAL.FLIP_STATUS : Nat := 0x780A4
abbrev Reg.CAL.SEL_ACTIVE_LO : Nat := 0x780A8
abbrev Reg.CAL.SEL_ACTIVE_HI : Nat := 0x780AC
abbrev Reg.CAL.FLIP_IGNORED : Nat := 0x780B0
abbrev Reg.CAL.COPY0_FAIL : Nat := 0x780B4
abbrev Reg.CAL.COPY1_FAIL : Nat := 0x780B8
abbrev Reg.CAL.BOTH_FAIL : Nat := 0x780BC
abbrev Reg.CAL.LAST_FAIL : Nat := 0x780C0
abbrev Reg.CAL.CAL_CLAMP : Nat := 0x780C4
abbrev Reg.CAL.FORCE_GS_CELLS : Nat := 0x780C8
abbrev Reg.CAL.SCRUB_PASSES : Nat := 0x780CC
abbrev Reg.CAL.SCRUB_REPAIR : Nat := 0x780D0
abbrev Reg.CAL.SCRUB_MISMATCH : Nat := 0x780D4
abbrev Reg.CAL.SCRUB_LOST : Nat := 0x780D8
abbrev Reg.CAL.CHAIN_PACK (i : Nat) : Nat := 0x78100 + 0x4 * i

-- page DLS
abbrev Reg.DLS.DLS_CTRL : Nat := 0x80080
abbrev Reg.DLS.CANVAS : Nat := 0x80084
abbrev Reg.DLS.DLS_STATUS : Nat := 0x80088
abbrev Reg.DLS.LATE_BANDS : Nat := 0x8008C
abbrev Reg.DLS.LATE_CELLS : Nat := 0x80090
abbrev Reg.DLS.LAST_LATE : Nat := 0x80094
abbrev Reg.DLS.SLACK_MIN : Nat := 0x80098
abbrev Reg.DLS.START_DELAY_MAX : Nat := 0x8009C
abbrev Reg.DLS.GS_ONLY_BANDS : Nat := 0x800A0
abbrev Reg.DLS.PORT_LAG : Nat := 0x800A4
abbrev Reg.DLS.LAST_PORT_LAG : Nat := 0x800A8
abbrev Reg.DLS.GS_ECC_CORR : Nat := 0x800AC
abbrev Reg.DLS.GS_ECC_UNCORR : Nat := 0x800B0
abbrev Reg.DLS.GS_FILL_VALUE : Nat := 0x800B4
abbrev Reg.DLS.GS_FILL_FIRST : Nat := 0x800B8
abbrev Reg.DLS.GS_FILL_COUNT : Nat := 0x800BC
abbrev Reg.DLS.GS_FILL : Nat := 0x800C0
abbrev Reg.DLS.GS_FILL_STATUS : Nat := 0x800C4
abbrev Reg.DLS.PH_TS (i : Nat) : Nat := 0x80100 + 0x4 * i
abbrev Reg.DLS.PH_LATE (i : Nat) : Nat := 0x80120 + 0x4 * i

-- page TP
abbrev Reg.TP.SEQ_CTRL (p : Nat) : Nat := 0x100080 + 0x1000 * p
abbrev Reg.TP.ACTIVE (p : Nat) : Nat := 0x100084 + 0x1000 * p
abbrev Reg.TP.NEXT_ENTRY (p : Nat) : Nat := 0x100088 + 0x1000 * p
abbrev Reg.TP.CHECK (p : Nat) : Nat := 0x10008C + 0x1000 * p
abbrev Reg.TP.CHECK_STATUS (p : Nat) : Nat := 0x100090 + 0x1000 * p
abbrev Reg.TP.SWAP (p : Nat) : Nat := 0x100094 + 0x1000 * p
abbrev Reg.TP.SWAP_STATUS (p : Nat) : Nat := 0x100098 + 0x1000 * p
abbrev Reg.TP.GUY (p : Nat) : Nat := 0x10009C + 0x1000 * p
abbrev Reg.TP.SEQ_MARGIN (p : Nat) : Nat := 0x1000A0 + 0x1000 * p
abbrev Reg.TP.SEQ_STATUS (p : Nat) : Nat := 0x1000A4 + 0x1000 * p
abbrev Reg.TP.GUY_SKIP (p : Nat) : Nat := 0x1000A8 + 0x1000 * p
abbrev Reg.TP.GUY_SKIP_CELLS (p : Nat) : Nat := 0x1000AC + 0x1000 * p
abbrev Reg.TP.OVERRUN (p : Nat) : Nat := 0x1000B0 + 0x1000 * p
abbrev Reg.TP.EVT_TIMEOUT (p : Nat) : Nat := 0x1000B4 + 0x1000 * p
abbrev Reg.TP.CELL_MISS (p : Nat) : Nat := 0x1000B8 + 0x1000 * p
abbrev Reg.TP.STORE_GUARD (p : Nat) : Nat := 0x1000BC + 0x1000 * p
abbrev Reg.TP.SWAP_REFUSED (p : Nat) : Nat := 0x1000C0 + 0x1000 * p
abbrev Reg.TP.START_LAG_MAX (p : Nat) : Nat := 0x1000C4 + 0x1000 * p
abbrev Reg.TP.PFRAMES_LO (p : Nat) : Nat := 0x1000C8 + 0x1000 * p
abbrev Reg.TP.PFRAMES_HI (p : Nat) : Nat := 0x1000CC + 0x1000 * p
abbrev Reg.TP.PORT_CTRL (p : Nat) : Nat := 0x100100 + 0x1000 * p
abbrev Reg.TP.PORT_STATUS (p : Nat) : Nat := 0x100104 + 0x1000 * p
abbrev Reg.TP.GATE_CTRL (p : Nat) : Nat := 0x100108 + 0x1000 * p
abbrev Reg.TP.C_CIR (p : Nat) : Nat := 0x10010C + 0x1000 * p
abbrev Reg.TP.C_PIR (p : Nat) : Nat := 0x100110 + 0x1000 * p
abbrev Reg.TP.C_BURST (p : Nat) : Nat := 0x100114 + 0x1000 * p
abbrev Reg.TP.M_RATE (p : Nat) : Nat := 0x100118 + 0x1000 * p
abbrev Reg.TP.M_BURST (p : Nat) : Nat := 0x10011C + 0x1000 * p
abbrev Reg.TP.RPOL_CIR (p : Nat) : Nat := 0x100120 + 0x1000 * p
abbrev Reg.TP.RPOL_PIR (p : Nat) : Nat := 0x100124 + 0x1000 * p
abbrev Reg.TP.RPOL_BURST (p : Nat) : Nat := 0x100128 + 0x1000 * p
abbrev Reg.TP.WFQ_V (p : Nat) : Nat := 0x10012C + 0x1000 * p
abbrev Reg.TP.MQ_CFG (p : Nat) : Nat := 0x100130 + 0x1000 * p
abbrev Reg.TP.MQ_RING_LO (p : Nat) : Nat := 0x100134 + 0x1000 * p
abbrev Reg.TP.MQ_RING_HI (p : Nat) : Nat := 0x100138 + 0x1000 * p
abbrev Reg.TP.MQ_IDX (p : Nat) : Nat := 0x10013C + 0x1000 * p
abbrev Reg.TP.TX_FRAMES_T (p : Nat) : Nat := 0x100140 + 0x1000 * p
abbrev Reg.TP.TX_FRAMES_C (p : Nat) : Nat := 0x100144 + 0x1000 * p
abbrev Reg.TP.TX_FRAMES_M (p : Nat) : Nat := 0x100148 + 0x1000 * p
abbrev Reg.TP.TX_LINK_DOWN (p : Nat) : Nat := 0x10014C + 0x1000 * p
abbrev Reg.TP.GATE_HOLD (p : Nat) : Nat := 0x100150 + 0x1000 * p
abbrev Reg.TP.P_BLOCKED (p : Nat) : Nat := 0x100154 + 0x1000 * p
abbrev Reg.TP.LANT_REPLACED (p : Nat) : Nat := 0x100158 + 0x1000 * p
abbrev Reg.TP.MQ_DROPPED (p : Nat) : Nat := 0x10015C + 0x1000 * p
abbrev Reg.TP.RX_FRAMES (p : Nat) : Nat := 0x100160 + 0x1000 * p
abbrev Reg.TP.RX_FCS_ERR (p : Nat) : Nat := 0x100164 + 0x1000 * p
abbrev Reg.TP.RET_POLICE_DROP (p : Nat) : Nat := 0x100168 + 0x1000 * p
abbrev Reg.TP.RET_YELLOW (p : Nat) : Nat := 0x10016C + 0x1000 * p
abbrev Reg.TP.TX_BYTES_LO (p : Nat) : Nat := 0x100170 + 0x1000 * p
abbrev Reg.TP.TX_BYTES_HI (p : Nat) : Nat := 0x100174 + 0x1000 * p
abbrev Reg.TP.GATE_START (p i : Nat) : Nat := 0x100180 + 0x1000 * p + 0x10 * i
abbrev Reg.TP.GATE_LEN (p i : Nat) : Nat := 0x100184 + 0x1000 * p + 0x10 * i
abbrev Reg.TP.GATE_PERIOD (p i : Nat) : Nat := 0x100188 + 0x1000 * p + 0x10 * i
abbrev Reg.TP.GATE_CFG (p i : Nat) : Nat := 0x10018C + 0x1000 * p + 0x10 * i
abbrev Reg.TP.SAMPLE_CTRL (p : Nat) : Nat := 0x100200 + 0x1000 * p
abbrev Reg.TP.SAMPLE_CLEAR (p : Nat) : Nat := 0x100204 + 0x1000 * p
abbrev Reg.TP.DEPTH_MIN (p i : Nat) : Nat := 0x100210 + 0x1000 * p + 0x10 * i
abbrev Reg.TP.DEPTH_MAX (p i : Nat) : Nat := 0x100214 + 0x1000 * p + 0x10 * i
abbrev Reg.TP.DELAY_MIN (p i : Nat) : Nat := 0x100218 + 0x1000 * p + 0x10 * i
abbrev Reg.TP.DELAY_MAX (p i : Nat) : Nat := 0x10021C + 0x1000 * p + 0x10 * i
abbrev Reg.TP.HIST (p i : Nat) : Nat := 0x100240 + 0x1000 * p + 0x4 * i
abbrev Reg.TP.SESS_CFG (p i : Nat) : Nat := 0x100400 + 0x1000 * p + 0x10 * i
abbrev Reg.TP.SESS_RING_LO (p i : Nat) : Nat := 0x100404 + 0x1000 * p + 0x10 * i
abbrev Reg.TP.SESS_RING_HI (p i : Nat) : Nat := 0x100408 + 0x1000 * p + 0x10 * i
abbrev Reg.TP.SESS_IDX (p i : Nat) : Nat := 0x10040C + 0x1000 * p + 0x10 * i

-- page TLG
abbrev Reg.TLG.TLG_CTRL : Nat := 0x200080
abbrev Reg.TLG.ETHERTYPE : Nat := 0x200084
abbrev Reg.TLG.HTL_DA_HI : Nat := 0x200088
abbrev Reg.TLG.HTL_DA_LO : Nat := 0x20008C
abbrev Reg.TLG.MAC_BASE_HI : Nat := 0x200090
abbrev Reg.TLG.MAC_BASE_LO : Nat := 0x200094
abbrev Reg.TLG.DEV_TAG : Nat := 0x200098
abbrev Reg.TLG.HOLD : Nat := 0x20009C
abbrev Reg.TLG.TIME_PER : Nat := 0x2000A0
abbrev Reg.TLG.SESSION : Nat := 0x2000A4
abbrev Reg.TLG.LANT_LOSS : Nat := 0x2000A8
abbrev Reg.TLG.LANT_SEG : Nat := 0x2000AC
abbrev Reg.TLG.RX_NONHTL : Nat := 0x2000B0
abbrev Reg.TLG.RX_BADVER : Nat := 0x2000B4
abbrev Reg.TLG.RX_FOREIGN : Nat := 0x2000B8
abbrev Reg.TLG.RX_OTHER_END : Nat := 0x2000BC
abbrev Reg.TLG.RX_LOOPED : Nat := 0x2000C0
abbrev Reg.TLG.RET_TO_FW : Nat := 0x2000C4
abbrev Reg.TLG.ACK_STALE : Nat := 0x2000C8
abbrev Reg.TLG.SESS_FAIL : Nat := 0x2000CC
abbrev Reg.TLG.LAST_SESS_FAIL : Nat := 0x2000D0
abbrev Reg.TLG.FAR_OK (i : Nat) : Nat := 0x2000E0 + 0x4 * i

-- page TIM
abbrev Reg.TIM.TIM_CTRL : Nat := 0x220080
abbrev Reg.TIM.TIM_STATUS : Nat := 0x220084
abbrev Reg.TIM.SYNC_STATE : Nat := 0x220088
abbrev Reg.TIM.INC_NS : Nat := 0x22008C
abbrev Reg.TIM.INC_FRAC : Nat := 0x220090
abbrev Reg.TIM.INC_OFS : Nat := 0x220094
abbrev Reg.TIM.STEP_SEC_LO : Nat := 0x220098
abbrev Reg.TIM.STEP_SEC_HI : Nat := 0x22009C
abbrev Reg.TIM.STEP_NS : Nat := 0x2200A0
abbrev Reg.TIM.STEP : Nat := 0x2200A4
abbrev Reg.TIM.STEP_COUNT : Nat := 0x2200A8
abbrev Reg.TIM.STEP_REFUSED : Nat := 0x2200AC
abbrev Reg.TIM.LAST_REFUSED_LO : Nat := 0x2200B0
abbrev Reg.TIM.LAST_REFUSED_HI : Nat := 0x2200B4
abbrev Reg.TIM.JUMP_MAX : Nat := 0x2200B8
abbrev Reg.TIM.SRC : Nat := 0x2200BC
abbrev Reg.TIM.MASTER_ID_HI : Nat := 0x2200C0
abbrev Reg.TIM.MASTER_ID_LO : Nat := 0x2200C4
abbrev Reg.TIM.MASTER_PORT : Nat := 0x2200C8
abbrev Reg.TIM.SYNC_TMO : Nat := 0x2200CC
abbrev Reg.TIM.SYNC_RX : Nat := 0x2200D0
abbrev Reg.TIM.SYNC_TIMEOUTS : Nat := 0x2200D4
abbrev Reg.TIM.PTP_DROP : Nat := 0x2200D8
abbrev Reg.TIM.INC_HELD : Nat := 0x2200DC
abbrev Reg.TIM.UTC_OFS : Nat := 0x2200E0
abbrev Reg.TIM.PH_RATE : Nat := 0x2200E4
abbrev Reg.TIM.FRAME_OFS : Nat := 0x2200E8
abbrev Reg.TIM.SLOT_MIN : Nat := 0x2200EC
abbrev Reg.TIM.PSEQ_NOW : Nat := 0x2200F0
abbrev Reg.TIM.PH_CFG_BUSY : Nat := 0x2200F4
abbrev Reg.TIM.PH_OFS (i : Nat) : Nat := 0x220100 + 0x4 * i
abbrev Reg.TIM.PH_OFS_NEXT (i : Nat) : Nat := 0x220120 + 0x4 * i
abbrev Reg.TIM.FRAME_OFS_NEXT : Nat := 0x220140
abbrev Reg.TIM.OFS_APPLY : Nat := 0x220144
abbrev Reg.TIM.OFS_STATUS : Nat := 0x220148
abbrev Reg.TIM.CAP_CTRL : Nat := 0x220150
abbrev Reg.TIM.CAP : Nat := 0x220154
abbrev Reg.TIM.CAP_SEC_HI : Nat := 0x220158
abbrev Reg.TIM.CAP_SEC_LO : Nat := 0x22015C
abbrev Reg.TIM.CAP_NS : Nat := 0x220160
abbrev Reg.TIM.CAP_FRAC : Nat := 0x220164
abbrev Reg.TIM.CAP_STATUS : Nat := 0x220168
abbrev Reg.TIM.PPS_CTRL : Nat := 0x220170

-- page SV
abbrev Reg.SV.PORT_CTRL (p : Nat) : Nat := 0x221080 + 0x1000 * p
abbrev Reg.SV.PORT_STATUS (p : Nat) : Nat := 0x221084 + 0x1000 * p
abbrev Reg.SV.IPV4_ADDR (p : Nat) : Nat := 0x221088 + 0x1000 * p
abbrev Reg.SV.RX_FRAMES (p : Nat) : Nat := 0x22108C + 0x1000 * p
abbrev Reg.SV.RX_FCS_ERR (p : Nat) : Nat := 0x221090 + 0x1000 * p
abbrev Reg.SV.PTP_RX (p : Nat) : Nat := 0x221094 + 0x1000 * p
abbrev Reg.SV.FWD_DROP (p : Nat) : Nat := 0x221098 + 0x1000 * p
abbrev Reg.SV.TX_FRAMES (p : Nat) : Nat := 0x22109C + 0x1000 * p

-- page TWN
abbrev Reg.TWN.TWN_CTRL : Nat := 0x230080
abbrev Reg.TWN.TWN_STATUS : Nat := 0x230084
abbrev Reg.TWN.ETHERTYPE : Nat := 0x230088
abbrev Reg.TWN.MIRROR_DELAY : Nat := 0x23008C
abbrev Reg.TWN.CHECK_ALLOW : Nat := 0x230090
abbrev Reg.TWN.HEALTH_LEAD : Nat := 0x230094
abbrev Reg.TWN.PEER_TMO : Nat := 0x230098
abbrev Reg.TWN.JOIN_PHASES : Nat := 0x23009C
abbrev Reg.TWN.TIME_PER : Nat := 0x2300A0
abbrev Reg.TWN.SDI_MATCH : Nat := 0x2300A4
abbrev Reg.TWN.OFS_MAX : Nat := 0x2300A8
abbrev Reg.TWN.PEER_OFS : Nat := 0x2300AC
abbrev Reg.TWN.PEER_DLY : Nat := 0x2300B0
abbrev Reg.TWN.OWN_ACT_CRC : Nat := 0x2300B4
abbrev Reg.TWN.PEER_ACT_CRC : Nat := 0x2300B8
abbrev Reg.TWN.OWN_AWN_CRC : Nat := 0x2300BC
abbrev Reg.TWN.PEER_AWN_CRC : Nat := 0x2300C0
abbrev Reg.TWN.OWN_CAL_CRC : Nat := 0x2300C4
abbrev Reg.TWN.PEER_CAL_CRC : Nat := 0x2300C8
abbrev Reg.TWN.AGREE_REFUSED : Nat := 0x2300CC
abbrev Reg.TWN.AGREE_INFO : Nat := 0x2300D0
abbrev Reg.TWN.LATE_REC : Nat := 0x2300D4
abbrev Reg.TWN.REC_BAD : Nat := 0x2300D8
abbrev Reg.TWN.REC_RX0 : Nat := 0x2300DC
abbrev Reg.TWN.REC_RX1 : Nat := 0x2300E0
abbrev Reg.TWN.YIELD_PHASES : Nat := 0x2300E4
abbrev Reg.TWN.PEER_LOST : Nat := 0x2300E8
abbrev Reg.TWN.JOINS : Nat := 0x2300EC
abbrev Reg.TWN.FLT_SRAM_CORR : Nat := 0x2300F0
abbrev Reg.TWN.FLT_SRAM_UNCORR : Nat := 0x2300F4
abbrev Reg.TWN.FLT_LAST : Nat := 0x2300F8

-- page BLT
abbrev Reg.BLT.BLT_CTRL : Nat := 0x240080
abbrev Reg.BLT.SRC_BASE_LO : Nat := 0x240084
abbrev Reg.BLT.SRC_BASE_HI : Nat := 0x240088
abbrev Reg.BLT.SRC_STRIDE : Nat := 0x24008C
abbrev Reg.BLT.SRC_DIM : Nat := 0x240090
abbrev Reg.BLT.SRC_FMT : Nat := 0x240094
abbrev Reg.BLT.SRC_XY : Nat := 0x240098
abbrev Reg.BLT.DST_BASE_LO : Nat := 0x24009C
abbrev Reg.BLT.DST_BASE_HI : Nat := 0x2400A0
abbrev Reg.BLT.DST_STRIDE : Nat := 0x2400A4
abbrev Reg.BLT.DST_DIM : Nat := 0x2400A8
abbrev Reg.BLT.DST_FMT : Nat := 0x2400AC
abbrev Reg.BLT.DST_XY : Nat := 0x2400B0
abbrev Reg.BLT.SIZE : Nat := 0x2400B4
abbrev Reg.BLT.FILL (i : Nat) : Nat := 0x2400B8 + 0x4 * i
abbrev Reg.BLT.GO : Nat := 0x2400C8
abbrev Reg.BLT.STATUS : Nat := 0x2400CC
abbrev Reg.BLT.ERR : Nat := 0x2400D0
abbrev Reg.BLT.ERR_ROW : Nat := 0x2400D4
abbrev Reg.BLT.GO_IGNORED : Nat := 0x2400D8
abbrev Reg.BLT.OPS_DONE : Nat := 0x2400DC
abbrev Reg.BLT.BYTES_LO : Nat := 0x2400E0
abbrev Reg.BLT.BYTES_HI : Nat := 0x2400E4

-- page DMA
abbrev Reg.DMA.DMA_CTRL : Nat := 0x248080
abbrev Reg.DMA.RUNNING : Nat := 0x248084
abbrev Reg.DMA.IN_ERROR : Nat := 0x248088
abbrev Reg.DMA.BYTES_LO : Nat := 0x24808C
abbrev Reg.DMA.BYTES_HI : Nat := 0x248090

-- page DC
abbrev Reg.DC.CH_CTRL (p : Nat) : Nat := 0x249080 + 0x1000 * p
abbrev Reg.DC.CH_CMD (p : Nat) : Nat := 0x249084 + 0x1000 * p
abbrev Reg.DC.DESC_PTR_LO (p : Nat) : Nat := 0x249088 + 0x1000 * p
abbrev Reg.DC.DESC_PTR_HI (p : Nat) : Nat := 0x24908C + 0x1000 * p
abbrev Reg.DC.STATUS (p : Nat) : Nat := 0x249090 + 0x1000 * p
abbrev Reg.DC.ERR (p : Nat) : Nat := 0x249094 + 0x1000 * p
abbrev Reg.DC.HOP_MAX (p : Nat) : Nat := 0x249098 + 0x1000 * p
abbrev Reg.DC.BUS_TMO (p : Nat) : Nat := 0x24909C + 0x1000 * p
abbrev Reg.DC.HOP_COUNT (p : Nat) : Nat := 0x2490A0 + 0x1000 * p
abbrev Reg.DC.RESIDUAL (p : Nat) : Nat := 0x2490A4 + 0x1000 * p
abbrev Reg.DC.CUR_DESC_LO (p : Nat) : Nat := 0x2490A8 + 0x1000 * p
abbrev Reg.DC.CUR_DESC_HI (p : Nat) : Nat := 0x2490AC + 0x1000 * p
abbrev Reg.DC.ERR_ADDR_LO (p : Nat) : Nat := 0x2490B0 + 0x1000 * p
abbrev Reg.DC.ERR_ADDR_HI (p : Nat) : Nat := 0x2490B4 + 0x1000 * p
abbrev Reg.DC.GO_IGNORED (p : Nat) : Nat := 0x2490B8 + 0x1000 * p
abbrev Reg.DC.TRIG_MISSED (p : Nat) : Nat := 0x2490BC + 0x1000 * p
abbrev Reg.DC.RUNS (p : Nat) : Nat := 0x2490C0 + 0x1000 * p
abbrev Reg.DC.BYTES_LO (p : Nat) : Nat := 0x2490C4 + 0x1000 * p
abbrev Reg.DC.BYTES_HI (p : Nat) : Nat := 0x2490C8 + 0x1000 * p

-- page ICU
abbrev Reg.ICU.ICU_CTRL : Nat := 0x260080
abbrev Reg.ICU.PRIGROUP : Nat := 0x260084
abbrev Reg.ICU.TGT_EN : Nat := 0x260088
abbrev Reg.ICU.SPURIOUS_CPL : Nat := 0x26008C
abbrev Reg.ICU.SW_SET : Nat := 0x260090
abbrev Reg.ICU.CLAIM (i : Nat) : Nat := 0x2600A0 + 0x8 * i
abbrev Reg.ICU.CPL (i : Nat) : Nat := 0x2600A4 + 0x8 * i
abbrev Reg.ICU.RUN_PRI (i : Nat) : Nat := 0x2600D0 + 0x4 * i
abbrev Reg.ICU.HOST_CPL : Nat := 0x2600E8
abbrev Reg.ICU.HELD_LO : Nat := 0x2600F0
abbrev Reg.ICU.HELD_HI : Nat := 0x2600F4
abbrev Reg.ICU.HOST_CLAIM (i : Nat) : Nat := 0x260100 + 0x4 * i
abbrev Reg.ICU.HOST_MOD (i : Nat) : Nat := 0x260200 + 0x4 * i

-- page EVF
abbrev Reg.EVF.EVF_CTRL : Nat := 0x261080
abbrev Reg.EVF.SW_PULSE : Nat := 0x261084
abbrev Reg.EVF.BAND_MATCH : Nat := 0x261088
abbrev Reg.EVF.MERGED : Nat := 0x26108C
abbrev Reg.EVF.LAST_MERGED : Nat := 0x261090

-- page SEC
abbrev Reg.SEC.SEC_STATUS : Nat := 0x280080
abbrev Reg.SEC.SESS_CTRL : Nat := 0x280084
abbrev Reg.SEC.SESS_STATUS : Nat := 0x280088
abbrev Reg.SEC.SESS_IDLE : Nat := 0x28008C
abbrev Reg.SEC.SESS_MAX : Nat := 0x280090
abbrev Reg.SEC.SESS_FAILS : Nat := 0x280094
abbrev Reg.SEC.REQ_CTRL : Nat := 0x280098
abbrev Reg.SEC.REQ_STATUS : Nat := 0x28009C
abbrev Reg.SEC.REQ_TMO : Nat := 0x2800A0
abbrev Reg.SEC.ATTEST : Nat := 0x2800A4
abbrev Reg.SEC.ATT_STATUS : Nat := 0x2800A8
abbrev Reg.SEC.UPD_ADDR_LO : Nat := 0x2800AC
abbrev Reg.SEC.UPD_ADDR_HI : Nat := 0x2800B0
abbrev Reg.SEC.UPD_LEN : Nat := 0x2800B4
abbrev Reg.SEC.UPD_CTRL : Nat := 0x2800B8
abbrev Reg.SEC.UPD_STATUS : Nat := 0x2800BC
abbrev Reg.SEC.DEBUG_RELOCK : Nat := 0x2800C0
abbrev Reg.SEC.CFG_GEN : Nat := 0x2800C4
abbrev Reg.SEC.SVN : Nat := 0x2800C8

-- page AUD
abbrev Reg.AUD.AUD_STATUS : Nat := 0x281080
abbrev Reg.AUD.EPOCH : Nat := 0x281084
abbrev Reg.AUD.SEQ_LO : Nat := 0x281088
abbrev Reg.AUD.SEQ_HI : Nat := 0x28108C
abbrev Reg.AUD.FIRST_LO : Nat := 0x281090
abbrev Reg.AUD.FIRST_HI : Nat := 0x281094
abbrev Reg.AUD.LOST : Nat := 0x281098
abbrev Reg.AUD.NOR_ERR : Nat := 0x28109C
abbrev Reg.AUD.HEAD_HASH (i : Nat) : Nat := 0x2810A0 + 0x4 * i

-- page MGT
abbrev Reg.MGT.CORE_STATUS : Nat := 0x2C0080
abbrev Reg.MGT.WDT_KICK : Nat := 0x2C0084
abbrev Reg.MGT.WDT_MS : Nat := 0x2C0088
abbrev Reg.MGT.RESTARTS : Nat := 0x2C008C
abbrev Reg.MGT.LAST_RESTART : Nat := 0x2C0090
abbrev Reg.MGT.FW_FAULT : Nat := 0x2C0094
abbrev Reg.MGT.FW_FAULT_ADDR_LO : Nat := 0x2C0098
abbrev Reg.MGT.FW_FAULT_ADDR_HI : Nat := 0x2C009C
abbrev Reg.MGT.FW_FAULT_INFO : Nat := 0x2C00A0
abbrev Reg.MGT.WIN_BASE_LO (i : Nat) : Nat := 0x2C00C0 + 0x10 * i
abbrev Reg.MGT.WIN_BASE_HI (i : Nat) : Nat := 0x2C00C4 + 0x10 * i
abbrev Reg.MGT.WIN_SIZE (i : Nat) : Nat := 0x2C00C8 + 0x10 * i
abbrev Reg.MGT.WIN_PERM (i : Nat) : Nat := 0x2C00CC + 0x10 * i
abbrev Reg.MGT.HOST_WIN_LO : Nat := 0x2C0140
abbrev Reg.MGT.HOST_WIN_HI : Nat := 0x2C0144
abbrev Reg.MGT.HOST_WIN_SIZE : Nat := 0x2C0148
abbrev Reg.MGT.RXQ_BASE : Nat := 0x2C0150
abbrev Reg.MGT.RXQ_CFG : Nat := 0x2C0154
abbrev Reg.MGT.RXQ_IDX : Nat := 0x2C0158
abbrev Reg.MGT.TXQ_BASE : Nat := 0x2C015C
abbrev Reg.MGT.TXQ_CFG : Nat := 0x2C0160
abbrev Reg.MGT.TXQ_IDX : Nat := 0x2C0164
abbrev Reg.MGT.RX_DROP : Nat := 0x2C0168

-- the common header (R377), by page index
abbrev Reg.HDR.PAGE_ID (pg : Nat) : Nat := 0x1000 * pg + 0x0
abbrev Reg.HDR.PAGE_VER (pg : Nat) : Nat := 0x1000 * pg + 0x4
abbrev Reg.HDR.PAGE_CAPS (pg : Nat) : Nat := 0x1000 * pg + 0x8
abbrev Reg.HDR.PAGE_CTRL (pg : Nat) : Nat := 0x1000 * pg + 0xC
abbrev Reg.HDR.PAGE_STATUS (pg : Nat) : Nat := 0x1000 * pg + 0x10
abbrev Reg.HDR.PAGE_ERR (pg : Nat) : Nat := 0x1000 * pg + 0x14
abbrev Reg.HDR.PAGE_IRQ_RAW (pg : Nat) : Nat := 0x1000 * pg + 0x18
abbrev Reg.HDR.PAGE_IRQ_EN (pg : Nat) : Nat := 0x1000 * pg + 0x1C
abbrev Reg.HDR.PAGE_IRQ_STAT (pg : Nat) : Nat := 0x1000 * pg + 0x20
abbrev Reg.HDR.PAGE_LOCK (pg : Nat) : Nat := 0x1000 * pg + 0x24
abbrev Reg.HDR.PAGE_LOCK_VIOL (pg : Nat) : Nat := 0x1000 * pg + 0x28
abbrev Reg.HDR.PAGE_PAR_ADDR (pg : Nat) : Nat := 0x1000 * pg + 0x2C
abbrev Reg.HDR.IND_ADDR (pg : Nat) : Nat := 0x1000 * pg + 0x30
abbrev Reg.HDR.IND_DATA (pg : Nat) : Nat := 0x1000 * pg + 0x34
abbrev Reg.HDR.IND_CTRL (pg : Nat) : Nat := 0x1000 * pg + 0x38
abbrev Reg.HDR.PAGE_RIGHTS (pg : Nat) : Nat := 0x1000 * pg + 0x3C

-- first page index of each page or indexed set (R376)
abbrev Page.GBL : Nat := 0x0
abbrev Page.CRU : Nat := 0x1
abbrev Page.PWR : Nat := 0x2
abbrev Page.MEM (p : Nat) : Nat := 0x4 + p
abbrev Page.FAB : Nat := 0x10
abbrev Page.IGS : Nat := 0x20
abbrev Page.IG (p : Nat) : Nat := 0x21 + p
abbrev Page.SD (p : Nat) : Nat := 0x38 + p
abbrev Page.LYR : Nat := 0x40
abbrev Page.AWN : Nat := 0x41
abbrev Page.SPB : Nat := 0x48
abbrev Page.SC (p : Nat) : Nat := 0x50 + p
abbrev Page.CLR : Nat := 0x70
abbrev Page.CAL : Nat := 0x78
abbrev Page.DLS : Nat := 0x80
abbrev Page.TP (p : Nat) : Nat := 0x100 + p
abbrev Page.TLG : Nat := 0x200
abbrev Page.TIM : Nat := 0x220
abbrev Page.SV (p : Nat) : Nat := 0x221 + p
abbrev Page.TWN : Nat := 0x230
abbrev Page.BLT : Nat := 0x240
abbrev Page.DMA : Nat := 0x248
abbrev Page.DC (p : Nat) : Nat := 0x249 + p
abbrev Page.ICU : Nat := 0x260
abbrev Page.EVF : Nat := 0x261
abbrev Page.SEC : Nat := 0x280
abbrev Page.AUD : Nat := 0x281
abbrev Page.MGT : Nat := 0x2C0

end Sys2Proof.Machine
end

