-- ==== Sys2Proof/Machine/RegTable.lean ====
section
/-! DEFINITION. The register tables of the spec as data: pages (R376), and per page each register's offset, array step and count,
access type (R14), reset value, and the bits a write may change (reserved bits and read-only fields left out, R10). -/

namespace Sys2Proof.Machine

/-- Access types (R14); `rwTc` is a register marked (TC) (R402, R424). -/
inductive Acc where
  | ro | rw | w1c | wo | rc | rwTc
  deriving DecidableEq, Repr

/-- Kinds of register page (R4, R376). -/
inductive PageKind where
  | gbl | cru | pwr | mem | fab | igs | ig | sd | lyr | awn | spb | sc | clr | cal | dls | tp | tlg | tim | sv | twn | blt | dma | dc | icu | evf | sec | aud | mgt
  deriving DecidableEq, Repr

/-- One row of a register table: registers at `off + step * i` for `i < count`. -/
structure RegRow where
  off   : Nat
  step  : Nat
  count : Nat
  acc   : Acc
  reset : Nat
  mask  : Nat
  deriving DecidableEq, Repr

/-- The directory of R376: kind, first page index, number of pages. -/
def pageDirectory : List (PageKind × Nat × Nat) :=
  [(.gbl, 0x0, 1), (.cru, 0x1, 1), (.pwr, 0x2, 1), (.mem, 0x4, 4), (.fab, 0x10, 1), (.igs, 0x20, 1), (.ig, 0x21, 16), (.sd, 0x38, 8), (.lyr, 0x40, 1), (.awn, 0x41, 1), (.spb, 0x48, 1), (.sc, 0x50, 32), (.clr, 0x70, 1), (.cal, 0x78, 1), (.dls, 0x80, 1), (.tp, 0x100, 256), (.tlg, 0x200, 1), (.tim, 0x220, 1), (.sv, 0x221, 2), (.twn, 0x230, 1), (.blt, 0x240, 1), (.dma, 0x248, 1), (.dc, 0x249, 16), (.icu, 0x260, 1), (.evf, 0x261, 1), (.sec, 0x280, 1), (.aud, 0x281, 1), (.mgt, 0x2C0, 1)]

/-- The registers of a GBL page at 0x080 and above. -/
def gblRows : List RegRow :=
  [⟨0x80, 0x0, 1, .ro, 0x25600B1, 0xFFFFFFFF⟩,
   ⟨0x84, 0x0, 1, .ro, 0x0, 0xFFFFFFFF⟩,
   ⟨0x88, 0x0, 1, .ro, 0x0, 0xFFFFFFFF⟩,
   ⟨0x8C, 0x0, 1, .rw, 0x1, 0x3⟩,
   ⟨0x90, 0x0, 1, .ro, 0x0, 0xFFFFFFFF⟩,
   ⟨0x94, 0x0, 1, .rc, 0x0, 0xFFFFFFFF⟩,
   ⟨0x98, 0x0, 1, .rc, 0x0, 0xFFFFFFFF⟩,
   ⟨0x9C, 0x0, 1, .rc, 0x0, 0xFFFFFFFF⟩,
   ⟨0xA0, 0x0, 1, .rc, 0x0, 0xFFFFFFFF⟩,
   ⟨0xB0, 0x4, 4, .rw, 0x0, 0xFFFFFFFF⟩,
   ⟨0x100, 0x4, 24, .ro, 0x0, 0xFFFFFFFF⟩]

/-- The registers of a CRU page at 0x080 and above. -/
def cruRows : List RegRow :=
  [⟨0x80, 0x0, 1, .ro, 0x0, 0xFFFFFFFF⟩,
   ⟨0x84, 0x0, 1, .w1c, 0x1, 0x7F⟩,
   ⟨0x88, 0x0, 1, .wo, 0x0, 0xFFFFFFFF⟩,
   ⟨0x8C, 0x0, 1, .rw, 0x0, 0x1⟩,
   ⟨0x90, 0x0, 1, .ro, 0x0, 0xFFFFFFFF⟩,
   ⟨0x94, 0x0, 1, .ro, 0x0, 0xFFFFFFFF⟩,
   ⟨0x98, 0x0, 1, .ro, 0x0, 0xFFFFFFFF⟩,
   ⟨0x9C, 0x0, 1, .rc, 0x0, 0xFFFFFFFF⟩,
   ⟨0xA0, 0x0, 1, .rw, 0x59, 0x7F⟩,
   ⟨0xA4, 0x0, 1, .ro, 0x0, 0xFFFFFFFF⟩,
   ⟨0x100, 0x4, 70, .ro, 0x0, 0xFFFFFFFF⟩]

/-- The registers of a PWR page at 0x080 and above. -/
def pwrRows : List RegRow :=
  [⟨0x80, 0x0, 1, .ro, 0x0, 0xFFFFFFFF⟩,
   ⟨0x84, 0x0, 1, .ro, 0x0, 0xFFFFFFFF⟩,
   ⟨0x88, 0x0, 1, .rw, 0x640, 0xFFFF⟩,
   ⟨0x8C, 0x0, 1, .rc, 0x0, 0xFFFFFFFF⟩,
   ⟨0x90, 0x0, 1, .ro, 0x0, 0xFFFFFFFF⟩,
   ⟨0x94, 0x0, 1, .rw, 0x395F8, 0xFFFFF⟩,
   ⟨0x98, 0x0, 1, .rc, 0x0, 0xFFFFFFFF⟩,
   ⟨0x9C, 0x0, 1, .ro, 0x0, 0xFFFFFFFF⟩,
   ⟨0xA0, 0x0, 1, .ro, 0x0, 0xFFFFFFFF⟩,
   ⟨0x100, 0x8, 9, .ro, 0x0, 0xFFFFFFFF⟩,
   ⟨0x104, 0x8, 9, .ro, 0x0, 0xFFFFFFFF⟩,
   ⟨0x180, 0x8, 9, .rw, 0x0, 0xFFFF⟩,
   ⟨0x184, 0x8, 9, .rw, 0x0, 0xFFFF⟩]

/-- The registers of a MEM page at 0x080 and above. -/
def memRows : List RegRow :=
  [⟨0x80, 0x0, 1, .ro, 0x0, 0xFFFFFFFF⟩,
   ⟨0x84, 0x0, 1, .rc, 0x0, 0xFFFFFFFF⟩,
   ⟨0x88, 0x0, 1, .rc, 0x0, 0xFFFFFFFF⟩,
   ⟨0x8C, 0x0, 1, .ro, 0x0, 0xFFFFFFFF⟩,
   ⟨0x90, 0x0, 1, .ro, 0x0, 0xFFFFFFFF⟩,
   ⟨0x94, 0x0, 1, .rc, 0x0, 0xFFFFFFFF⟩,
   ⟨0x98, 0x0, 1, .ro, 0x0, 0xFFFFFFFF⟩,
   ⟨0x9C, 0x0, 1, .ro, 0x0, 0xFFFFFFFF⟩,
   ⟨0xA0, 0x0, 1, .ro, 0x0, 0xFFFFFFFF⟩,
   ⟨0xA4, 0x0, 1, .ro, 0x0, 0xFFFFFFFF⟩,
   ⟨0xA8, 0x0, 1, .rw, 0x5F, 0xFF⟩]

/-- The registers of a FAB page at 0x080 and above. -/
def fabRows : List RegRow :=
  [⟨0x80, 0x0, 1, .rw, 0xA46, 0xFFFF⟩,
   ⟨0x84, 0x0, 1, .rw, 0xD9, 0xFF⟩,
   ⟨0x88, 0x0, 1, .ro, 0x0, 0xFFFFFFFF⟩,
   ⟨0x8C, 0x0, 1, .ro, 0x0, 0xFFFFFFFF⟩,
   ⟨0x90, 0x0, 1, .ro, 0x0, 0xFFFFFFFF⟩,
   ⟨0x94, 0x0, 1, .ro, 0x0, 0xFFFFFFFF⟩,
   ⟨0x98, 0x0, 1, .ro, 0x0, 0xFFFFFFFF⟩,
   ⟨0x9C, 0x0, 1, .ro, 0x0, 0xFFFFFFFF⟩,
   ⟨0xA0, 0x0, 1, .rc, 0x0, 0xFFFFFFFF⟩,
   ⟨0xA4, 0x0, 1, .rc, 0x0, 0xFFFFFFFF⟩,
   ⟨0xA8, 0x0, 1, .rc, 0x0, 0xFFFFFFFF⟩,
   ⟨0xAC, 0x0, 1, .rc, 0x0, 0xFFFFFFFF⟩]

/-- The registers of a IGS page at 0x080 and above. -/
def igsRows : List RegRow :=
  [⟨0x80, 0x0, 1, .rw, 0x0, 0x3⟩,
   ⟨0x84, 0x0, 1, .rw, 0x0, 0xFFFFF000⟩,
   ⟨0x88, 0x0, 1, .rw, 0x0, 0xFFFFFFFF⟩,
   ⟨0x8C, 0x0, 1, .rc, 0x0, 0xFFFFFFFF⟩,
   ⟨0x90, 0x0, 1, .rc, 0x0, 0xFFFFFFFF⟩,
   ⟨0x94, 0x0, 1, .rc, 0x0, 0xFFFFFFFF⟩,
   ⟨0x98, 0x0, 1, .rc, 0x0, 0xFFFFFFFF⟩]

/-- The registers of a IG page at 0x080 and above. -/
def igRows : List RegRow :=
  [⟨0x80, 0x0, 1, .rw, 0x1400, 0xFF0F⟩,
   ⟨0x84, 0x0, 1, .ro, 0x0, 0xFFFFFFFF⟩,
   ⟨0x88, 0x0, 1, .rw, 0x0, 0xFFFFFFFF⟩,
   ⟨0x8C, 0x0, 1, .ro, 0x0, 0xFFFFFFFF⟩,
   ⟨0x90, 0x0, 1, .ro, 0x0, 0xFFFFFFFF⟩,
   ⟨0x94, 0x0, 1, .ro, 0x0, 0xFFFFFFFF⟩,
   ⟨0x98, 0x0, 1, .ro, 0x0, 0xFFFFFFFF⟩,
   ⟨0x9C, 0x0, 1, .ro, 0x0, 0xFFFFFFFF⟩,
   ⟨0xA0, 0x0, 1, .rc, 0x0, 0xFFFFFFFF⟩,
   ⟨0xA4, 0x0, 1, .rc, 0x0, 0xFFFFFFFF⟩,
   ⟨0xA8, 0x0, 1, .rc, 0x0, 0xFFFFFFFF⟩,
   ⟨0xAC, 0x0, 1, .rc, 0x0, 0xFFFFFFFF⟩]

/-- The registers of a SD page at 0x080 and above. -/
def sdRows : List RegRow :=
  [⟨0x80, 0x0, 1, .rw, 0x0, 0x1⟩,
   ⟨0x84, 0x0, 1, .ro, 0x0, 0xFFFFFFFF⟩,
   ⟨0x88, 0x0, 1, .ro, 0x0, 0xFFFFFFFF⟩,
   ⟨0x8C, 0x0, 1, .rc, 0x0, 0xFFFFFFFF⟩,
   ⟨0x90, 0x0, 1, .ro, 0x0, 0xFFFFFFFF⟩,
   ⟨0x94, 0x0, 1, .rc, 0x0, 0xFFFFFFFF⟩]

/-- The registers of a LYR page at 0x080 and above. -/
def lyrRows : List RegRow :=
  [⟨0x80, 0x0, 1, .rw, 0x0, 0x1⟩,
   ⟨0x84, 0x0, 1, .rw, 0x190, 0x7FF⟩,
   ⟨0x88, 0x0, 1, .wo, 0x0, 0xFFFFFFFF⟩,
   ⟨0x8C, 0x0, 1, .rw, 0x0, 0xF⟩,
   ⟨0x90, 0x0, 1, .wo, 0x0, 0xFFFFFFFF⟩,
   ⟨0x94, 0x0, 1, .ro, 0x0, 0xFFFFFFFF⟩,
   ⟨0x98, 0x0, 1, .ro, 0x0, 0xFFFFFFFF⟩,
   ⟨0x9C, 0x0, 1, .ro, 0x0, 0xFFFFFFFF⟩,
   ⟨0xA0, 0x0, 1, .ro, 0x0, 0xFFFFFFFF⟩,
   ⟨0xA4, 0x0, 1, .w1c, 0x0, 0xFFFFFFFF⟩,
   ⟨0xA8, 0x0, 1, .ro, 0x0, 0xFFFFFFFF⟩,
   ⟨0xAC, 0x0, 1, .rc, 0x0, 0xFFFFFFFF⟩,
   ⟨0xB0, 0x0, 1, .rc, 0x0, 0xFFFFFFFF⟩,
   ⟨0xB4, 0x0, 1, .rc, 0x0, 0xFFFFFFFF⟩,
   ⟨0xB8, 0x0, 1, .rc, 0x0, 0xFFFFFFFF⟩,
   ⟨0xC0, 0x4, 8, .ro, 0x0, 0xFFFFFFFF⟩]

/-- The registers of a AWN page at 0x080 and above. -/
def awnRows : List RegRow :=
  [⟨0x80, 0x0, 1, .rw, 0x0, 0xFFFF0001⟩,
   ⟨0x84, 0x0, 1, .rw, 0x2710, 0xFFFFF⟩,
   ⟨0x88, 0x0, 1, .rw, 0x4E20, 0xFFFF⟩,
   ⟨0x8C, 0x0, 1, .rw, 0x1F4, 0x3FFF⟩,
   ⟨0x90, 0x0, 1, .rc, 0x0, 0xFFFFFFFF⟩,
   ⟨0x100, 0x40, 8, .rw, 0x0, 0xFFFFFFFF⟩,
   ⟨0x104, 0x40, 8, .rw, 0x0, 0xFFFFFFFF⟩,
   ⟨0x108, 0x40, 8, .rw, 0x0, 0xFFFFFFFF⟩,
   ⟨0x10C, 0x40, 8, .rw, 0x0, 0xFFFFF⟩,
   ⟨0x110, 0x40, 8, .rw, 0x0, 0xFFFFF⟩,
   ⟨0x114, 0x40, 8, .rw, 0x0, 0xFFFFFFFF⟩,
   ⟨0x118, 0x40, 8, .ro, 0x0, 0xFFFFFFFF⟩,
   ⟨0x11C, 0x40, 8, .ro, 0x0, 0xFFFFFFFF⟩,
   ⟨0x120, 0x40, 8, .ro, 0x0, 0xFFFFFFFF⟩,
   ⟨0x124, 0x40, 8, .ro, 0x0, 0xFFFFFFFF⟩,
   ⟨0x128, 0x40, 8, .ro, 0x0, 0xFFFFFFFF⟩,
   ⟨0x12C, 0x40, 8, .rc, 0x0, 0xFFFFFFFF⟩,
   ⟨0x130, 0x40, 8, .rc, 0x0, 0xFFFFFFFF⟩,
   ⟨0x134, 0x40, 8, .rc, 0x0, 0xFFFFFFFF⟩,
   ⟨0x138, 0x40, 8, .rc, 0x0, 0xFFFFFFFF⟩,
   ⟨0x13C, 0x40, 8, .rc, 0x0, 0xFFFFFFFF⟩]

/-- The registers of a SPB page at 0x080 and above. -/
def spbRows : List RegRow :=
  [⟨0x80, 0x0, 1, .rw, 0x1, 0x1⟩,
   ⟨0x84, 0x0, 1, .rw, 0x4, 0xF⟩,
   ⟨0x88, 0x0, 1, .ro, 0x0, 0xFFFFFFFF⟩,
   ⟨0x8C, 0x0, 1, .rc, 0x0, 0xFFFFFFFF⟩,
   ⟨0x90, 0x0, 1, .ro, 0x0, 0xFFFFFFFF⟩,
   ⟨0x94, 0x0, 1, .rc, 0x0, 0xFFFFFFFF⟩,
   ⟨0x98, 0x0, 1, .ro, 0x0, 0xFFFFFFFF⟩,
   ⟨0x9C, 0x0, 1, .rc, 0x0, 0xFFFFFFFF⟩,
   ⟨0xA0, 0x0, 1, .wo, 0x0, 0x1⟩,
   ⟨0xA4, 0x0, 1, .ro, 0x0, 0xFFFFFFFF⟩,
   ⟨0xA8, 0x0, 1, .ro, 0x0, 0xFFFFFFFF⟩,
   ⟨0xAC, 0x0, 1, .rc, 0x0, 0xFFFFFFFF⟩,
   ⟨0xB0, 0x0, 1, .ro, 0x0, 0xFFFFFFFF⟩,
   ⟨0xB4, 0x0, 1, .ro, 0x0, 0xFFFFFFFF⟩,
   ⟨0xC0, 0x4, 8, .ro, 0x0, 0xFFFFFFFF⟩]

/-- The registers of a SC page at 0x080 and above. -/
def scRows : List RegRow :=
  [⟨0x80, 0x0, 1, .ro, 0x0, 0xFFFFFFFF⟩,
   ⟨0x84, 0x0, 1, .ro, 0x0, 0xFFFFFFFF⟩,
   ⟨0x88, 0x0, 1, .ro, 0x0, 0xFFFFFFFF⟩,
   ⟨0x8C, 0x0, 1, .ro, 0x0, 0xFFFFFFFF⟩,
   ⟨0x90, 0x0, 1, .ro, 0x0, 0xFFFFFFFF⟩,
   ⟨0x94, 0x0, 1, .ro, 0x0, 0xFFFFFFFF⟩,
   ⟨0x98, 0x0, 1, .rc, 0x0, 0xFFFFFFFF⟩,
   ⟨0x100, 0x0, 1, .rw, 0x1, 0x1⟩,
   ⟨0x104, 0x0, 1, .rw, 0x0, 0xFFFFFFFF⟩,
   ⟨0x108, 0x0, 1, .ro, 0x0, 0xFFFFFFFF⟩,
   ⟨0x10C, 0x0, 1, .ro, 0x0, 0xFFFFFFFF⟩,
   ⟨0x110, 0x0, 1, .rc, 0x0, 0xFFFFFFFF⟩]

/-- The registers of a CLR page at 0x080 and above. -/
def clrRows : List RegRow :=
  [⟨0x80, 0x0, 1, .rw, 0x0, 0xFF⟩,
   ⟨0x84, 0x0, 1, .rc, 0x0, 0xFFFFFFFF⟩,
   ⟨0x88, 0x0, 1, .rc, 0x0, 0xFFFFFFFF⟩,
   ⟨0x8C, 0x0, 1, .rc, 0x0, 0xFFFFFFFF⟩,
   ⟨0x90, 0x0, 1, .rc, 0x0, 0xFFFFFFFF⟩,
   ⟨0xC0, 0x4, 8, .rw, 0x1, 0x7⟩]

/-- The registers of a CAL page at 0x080 and above. -/
def calRows : List RegRow :=
  [⟨0x80, 0x0, 1, .rw, 0x8, 0x1F⟩,
   ⟨0x84, 0x0, 1, .rw, 0x0, 0xC0000000⟩,
   ⟨0x88, 0x0, 1, .rw, 0x0, 0x1F⟩,
   ⟨0x8C, 0x0, 1, .rw, 0x0, 0xC0000000⟩,
   ⟨0x90, 0x0, 1, .rw, 0x0, 0x1F⟩,
   ⟨0x94, 0x0, 1, .ro, 0x0, 0xFFFFFFFF⟩,
   ⟨0x98, 0x0, 1, .rw, 0x0, 0xFFFFFFFF⟩,
   ⟨0x9C, 0x0, 1, .rw, 0x0, 0xFFFFFFFF⟩,
   ⟨0xA0, 0x0, 1, .wo, 0x0, 0x1⟩,
   ⟨0xA4, 0x0, 1, .ro, 0x2, 0xFFFFFFFF⟩,
   ⟨0xA8, 0x0, 1, .ro, 0x0, 0xFFFFFFFF⟩,
   ⟨0xAC, 0x0, 1, .ro, 0x0, 0xFFFFFFFF⟩,
   ⟨0xB0, 0x0, 1, .rc, 0x0, 0xFFFFFFFF⟩,
   ⟨0xB4, 0x0, 1, .rc, 0x0, 0xFFFFFFFF⟩,
   ⟨0xB8, 0x0, 1, .rc, 0x0, 0xFFFFFFFF⟩,
   ⟨0xBC, 0x0, 1, .rc, 0x0, 0xFFFFFFFF⟩,
   ⟨0xC0, 0x0, 1, .ro, 0x0, 0xFFFFFFFF⟩,
   ⟨0xC4, 0x0, 1, .rc, 0x0, 0xFFFFFFFF⟩,
   ⟨0xC8, 0x0, 1, .rc, 0x0, 0xFFFFFFFF⟩,
   ⟨0xCC, 0x0, 1, .ro, 0x0, 0xFFFFFFFF⟩,
   ⟨0xD0, 0x0, 1, .rc, 0x0, 0xFFFFFFFF⟩,
   ⟨0xD4, 0x0, 1, .rc, 0x0, 0xFFFFFFFF⟩,
   ⟨0xD8, 0x0, 1, .rc, 0x0, 0xFFFFFFFF⟩,
   ⟨0x100, 0x4, 16, .rw, 0xAAAAAAAA, 0xFFFFFFFF⟩]

/-- The registers of a DLS page at 0x080 and above. -/
def dlsRows : List RegRow :=
  [⟨0x80, 0x0, 1, .rw, 0x1000400, 0x3FF1F03⟩,
   ⟨0x84, 0x0, 1, .rw, 0x4000400, 0x7FF07FF⟩,
   ⟨0x88, 0x0, 1, .ro, 0x0, 0xFFFFFFFF⟩,
   ⟨0x8C, 0x0, 1, .rc, 0x0, 0xFFFFFFFF⟩,
   ⟨0x90, 0x0, 1, .rc, 0x0, 0xFFFFFFFF⟩,
   ⟨0x94, 0x0, 1, .ro, 0x0, 0xFFFFFFFF⟩,
   ⟨0x98, 0x0, 1, .rc, 0x0, 0xFFFFFFFF⟩,
   ⟨0x9C, 0x0, 1, .rc, 0x0, 0xFFFFFFFF⟩,
   ⟨0xA0, 0x0, 1, .rc, 0x0, 0xFFFFFFFF⟩,
   ⟨0xA4, 0x0, 1, .rc, 0x0, 0xFFFFFFFF⟩,
   ⟨0xA8, 0x0, 1, .ro, 0x0, 0xFFFFFFFF⟩,
   ⟨0xAC, 0x0, 1, .rc, 0x0, 0xFFFFFFFF⟩,
   ⟨0xB0, 0x0, 1, .rc, 0x0, 0xFFFFFFFF⟩,
   ⟨0xB4, 0x0, 1, .rw, 0x0, 0x3FFFFFFF⟩,
   ⟨0xB8, 0x0, 1, .rw, 0x0, 0xFFFFF⟩,
   ⟨0xBC, 0x0, 1, .rw, 0x0, 0x1FFFFF⟩,
   ⟨0xC0, 0x0, 1, .wo, 0x0, 0x1⟩,
   ⟨0xC4, 0x0, 1, .ro, 0x0, 0xFFFFFFFF⟩,
   ⟨0x100, 0x4, 8, .rw, 0x0, 0xFFFFFFFF⟩,
   ⟨0x120, 0x4, 8, .rc, 0x0, 0xFFFFFFFF⟩]

/-- The registers of a TP page at 0x080 and above. -/
def tpRows : List RegRow :=
  [⟨0x80, 0x0, 1, .rw, 0x0, 0xFF03⟩,
   ⟨0x84, 0x0, 1, .ro, 0x0, 0xFFFFFFFF⟩,
   ⟨0x88, 0x0, 1, .rw, 0x0, 0x7FF⟩,
   ⟨0x8C, 0x0, 1, .wo, 0x0, 0x1⟩,
   ⟨0x90, 0x0, 1, .ro, 0x0, 0xFFFFFFFF⟩,
   ⟨0x94, 0x0, 1, .wo, 0x0, 0x3F⟩,
   ⟨0x98, 0x0, 1, .ro, 0x0, 0xFFFFFFFF⟩,
   ⟨0x9C, 0x0, 1, .rw, 0xA28, 0xFFFF⟩,
   ⟨0xA0, 0x0, 1, .rw, 0xC8, 0xFFFF⟩,
   ⟨0xA4, 0x0, 1, .ro, 0x0, 0xFFFFFFFF⟩,
   ⟨0xA8, 0x0, 1, .rc, 0x0, 0xFFFFFFFF⟩,
   ⟨0xAC, 0x0, 1, .rc, 0x0, 0xFFFFFFFF⟩,
   ⟨0xB0, 0x0, 1, .rc, 0x0, 0xFFFFFFFF⟩,
   ⟨0xB4, 0x0, 1, .rc, 0x0, 0xFFFFFFFF⟩,
   ⟨0xB8, 0x0, 1, .rc, 0x0, 0xFFFFFFFF⟩,
   ⟨0xBC, 0x0, 1, .rc, 0x0, 0xFFFFFFFF⟩,
   ⟨0xC0, 0x0, 1, .rc, 0x0, 0xFFFFFFFF⟩,
   ⟨0xC4, 0x0, 1, .rc, 0x0, 0xFFFFFFFF⟩,
   ⟨0xC8, 0x0, 1, .ro, 0x0, 0xFFFFFFFF⟩,
   ⟨0xCC, 0x0, 1, .ro, 0x0, 0xFFFFFFFF⟩,
   ⟨0x100, 0x0, 1, .rw, 0x1400, 0x7F01⟩,
   ⟨0x104, 0x0, 1, .ro, 0x0, 0xFFFFFFFF⟩,
   ⟨0x108, 0x0, 1, .rw, 0x7, 0x7⟩,
   ⟨0x10C, 0x0, 1, .rw, 0x0, 0x1FFFFFF⟩]  ++
  [⟨0x110, 0x0, 1, .rw, 0x0, 0x1FFFFFF⟩,
   ⟨0x114, 0x0, 1, .rw, 0x24002400, 0xFFFFFFFF⟩,
   ⟨0x118, 0x0, 1, .rw, 0x186A0, 0x1FFFFFF⟩,
   ⟨0x11C, 0x0, 1, .rw, 0x4000, 0xFFFF⟩,
   ⟨0x120, 0x0, 1, .rw, 0x0, 0x1FFFFFF⟩,
   ⟨0x124, 0x0, 1, .rw, 0x0, 0x1FFFFFF⟩,
   ⟨0x128, 0x0, 1, .rw, 0x0, 0xFFFFFFFF⟩,
   ⟨0x12C, 0x0, 1, .ro, 0x0, 0xFFFFFFFF⟩,
   ⟨0x130, 0x0, 1, .rw, 0x4, 0x1F⟩,
   ⟨0x134, 0x0, 1, .rw, 0x0, 0xFFFFF000⟩,
   ⟨0x138, 0x0, 1, .rw, 0x0, 0xFFFFFFFF⟩,
   ⟨0x13C, 0x0, 1, .rw, 0x0, 0xFFFF⟩,
   ⟨0x140, 0x0, 1, .rc, 0x0, 0xFFFFFFFF⟩,
   ⟨0x144, 0x0, 1, .rc, 0x0, 0xFFFFFFFF⟩,
   ⟨0x148, 0x0, 1, .rc, 0x0, 0xFFFFFFFF⟩,
   ⟨0x14C, 0x0, 1, .rc, 0x0, 0xFFFFFFFF⟩,
   ⟨0x150, 0x0, 1, .rc, 0x0, 0xFFFFFFFF⟩,
   ⟨0x154, 0x0, 1, .rc, 0x0, 0xFFFFFFFF⟩,
   ⟨0x158, 0x0, 1, .rc, 0x0, 0xFFFFFFFF⟩,
   ⟨0x15C, 0x0, 1, .rc, 0x0, 0xFFFFFFFF⟩,
   ⟨0x160, 0x0, 1, .rc, 0x0, 0xFFFFFFFF⟩,
   ⟨0x164, 0x0, 1, .rc, 0x0, 0xFFFFFFFF⟩,
   ⟨0x168, 0x0, 1, .rc, 0x0, 0xFFFFFFFF⟩,
   ⟨0x16C, 0x0, 1, .rc, 0x0, 0xFFFFFFFF⟩]  ++
  [⟨0x170, 0x0, 1, .ro, 0x0, 0xFFFFFFFF⟩,
   ⟨0x174, 0x0, 1, .ro, 0x0, 0xFFFFFFFF⟩,
   ⟨0x180, 0x10, 8, .rw, 0x0, 0x3FFFFFF⟩,
   ⟨0x184, 0x10, 8, .rw, 0x0, 0x3FFFFFF⟩,
   ⟨0x188, 0x10, 8, .rw, 0x0, 0xFFFFFFFF⟩,
   ⟨0x18C, 0x10, 8, .rw, 0x0, 0xFFFFF03⟩,
   ⟨0x200, 0x0, 1, .rw, 0x64, 0x3FFFF⟩,
   ⟨0x204, 0x0, 1, .wo, 0x0, 0x1⟩,
   ⟨0x210, 0x10, 3, .ro, 0xFFFFFFFF, 0xFFFFFFFF⟩,
   ⟨0x214, 0x10, 3, .ro, 0x0, 0xFFFFFFFF⟩,
   ⟨0x218, 0x10, 3, .ro, 0xFFFFFFFF, 0xFFFFFFFF⟩,
   ⟨0x21C, 0x10, 3, .ro, 0x0, 0xFFFFFFFF⟩,
   ⟨0x240, 0x4, 16, .ro, 0x0, 0xFFFFFFFF⟩,
   ⟨0x400, 0x10, 64, .rw, 0x401, 0x1FFF⟩,
   ⟨0x404, 0x10, 64, .rw, 0x0, 0xFFFFF000⟩,
   ⟨0x408, 0x10, 64, .rw, 0x0, 0xFFFFFFFF⟩,
   ⟨0x40C, 0x10, 64, .rw, 0x0, 0xFFFF⟩]

/-- The registers of a TLG page at 0x080 and above. -/
def tlgRows : List RegRow :=
  [⟨0x80, 0x0, 1, .rw, 0x0, 0xF⟩,
   ⟨0x84, 0x0, 1, .rw, 0x88B5, 0xFFFF⟩,
   ⟨0x88, 0x0, 1, .rw, 0x14B, 0xFFFF⟩,
   ⟨0x8C, 0x0, 1, .rw, 0x5748544C, 0xFFFFFFFF⟩,
   ⟨0x90, 0x0, 1, .rw, 0x0, 0xFFFF⟩,
   ⟨0x94, 0x0, 1, .rw, 0x0, 0xFFFFFF00⟩,
   ⟨0x98, 0x0, 1, .rw, 0x0, 0xFFFFFFFF⟩,
   ⟨0x9C, 0x0, 1, .rw, 0x9600018, 0xFFFFFFFF⟩,
   ⟨0xA0, 0x0, 1, .rw, 0x3E8, 0xFFFF⟩,
   ⟨0xA4, 0x0, 1, .rw, 0x301F4, 0xFFFFF⟩,
   ⟨0xA8, 0x0, 1, .rw, 0x8, 0xFF⟩,
   ⟨0xAC, 0x0, 1, .rw, 0x10, 0x1F⟩,
   ⟨0xB0, 0x0, 1, .rc, 0x0, 0xFFFFFFFF⟩,
   ⟨0xB4, 0x0, 1, .rc, 0x0, 0xFFFFFFFF⟩,
   ⟨0xB8, 0x0, 1, .rc, 0x0, 0xFFFFFFFF⟩,
   ⟨0xBC, 0x0, 1, .rc, 0x0, 0xFFFFFFFF⟩,
   ⟨0xC0, 0x0, 1, .rc, 0x0, 0xFFFFFFFF⟩,
   ⟨0xC4, 0x0, 1, .rc, 0x0, 0xFFFFFFFF⟩,
   ⟨0xC8, 0x0, 1, .rc, 0x0, 0xFFFFFFFF⟩,
   ⟨0xCC, 0x0, 1, .rc, 0x0, 0xFFFFFFFF⟩,
   ⟨0xD0, 0x0, 1, .ro, 0x0, 0xFFFFFFFF⟩,
   ⟨0xE0, 0x4, 8, .ro, 0x0, 0xFFFFFFFF⟩]

/-- The registers of a TIM page at 0x080 and above. -/
def timRows : List RegRow :=
  [⟨0x80, 0x0, 1, .rw, 0x0, 0xF⟩,
   ⟨0x84, 0x0, 1, .ro, 0x0, 0xFFFFFFFF⟩,
   ⟨0x88, 0x0, 1, .rw, 0x0, 0x1⟩,
   ⟨0x8C, 0x0, 1, .ro, 0x2, 0xFFFFFFFF⟩,
   ⟨0x90, 0x0, 1, .ro, 0x0, 0xFFFFFFFF⟩,
   ⟨0x94, 0x0, 1, .wo, 0x0, 0xFFFFFFFF⟩,
   ⟨0x98, 0x0, 1, .rw, 0x0, 0xFFFFFFFF⟩,
   ⟨0x9C, 0x0, 1, .rw, 0x0, 0xFFFF⟩,
   ⟨0xA0, 0x0, 1, .rw, 0x0, 0xFFFFFFFF⟩,
   ⟨0xA4, 0x0, 1, .wo, 0x0, 0x3⟩,
   ⟨0xA8, 0x0, 1, .rc, 0x0, 0xFFFFFFFF⟩,
   ⟨0xAC, 0x0, 1, .rc, 0x0, 0xFFFFFFFF⟩,
   ⟨0xB0, 0x0, 1, .ro, 0x0, 0xFFFFFFFF⟩,
   ⟨0xB4, 0x0, 1, .ro, 0x0, 0xFFFFFFFF⟩,
   ⟨0xB8, 0x0, 1, .rw, 0x3E8, 0xFFFFFFFF⟩,
   ⟨0xBC, 0x0, 1, .rw, 0x7F10, 0xFFF1F⟩,
   ⟨0xC0, 0x0, 1, .rw, 0x0, 0xFFFFFFFF⟩,
   ⟨0xC4, 0x0, 1, .rw, 0x0, 0xFFFFFFFF⟩,
   ⟨0xC8, 0x0, 1, .rw, 0x0, 0xFFFF⟩,
   ⟨0xCC, 0x0, 1, .rw, 0x7A120, 0xFFFFFF⟩,
   ⟨0xD0, 0x0, 1, .rc, 0x0, 0xFFFFFFFF⟩,
   ⟨0xD4, 0x0, 1, .rc, 0x0, 0xFFFFFFFF⟩,
   ⟨0xD8, 0x0, 1, .rc, 0x0, 0xFFFFFFFF⟩,
   ⟨0xDC, 0x0, 1, .rc, 0x0, 0xFFFFFFFF⟩]  ++
  [⟨0xE0, 0x0, 1, .rw, 0x25, 0xFFFF⟩,
   ⟨0xE4, 0x0, 1, .rw, 0x1109, 0x1F0F⟩,
   ⟨0xE8, 0x0, 1, .rw, 0x0, 0xFFFFFFFF⟩,
   ⟨0xEC, 0x0, 1, .ro, 0x0, 0xFFFFFFFF⟩,
   ⟨0xF0, 0x0, 1, .ro, 0x0, 0xFFFFFFFF⟩,
   ⟨0xF4, 0x0, 1, .rc, 0x0, 0xFFFFFFFF⟩,
   ⟨0x100, 0x4, 8, .rw, 0x0, 0xFFFFFFFF⟩,
   ⟨0x120, 0x4, 8, .rw, 0x0, 0xFFFFFFFF⟩,
   ⟨0x140, 0x0, 1, .rw, 0x0, 0xFFFFFFFF⟩,
   ⟨0x144, 0x0, 1, .wo, 0x0, 0x1⟩,
   ⟨0x148, 0x0, 1, .ro, 0x0, 0xFFFFFFFF⟩,
   ⟨0x150, 0x0, 1, .rw, 0x0, 0x3FF⟩,
   ⟨0x154, 0x0, 1, .wo, 0x0, 0x1⟩,
   ⟨0x158, 0x0, 1, .ro, 0x0, 0xFFFFFFFF⟩,
   ⟨0x15C, 0x0, 1, .ro, 0x0, 0xFFFFFFFF⟩,
   ⟨0x160, 0x0, 1, .ro, 0x0, 0xFFFFFFFF⟩,
   ⟨0x164, 0x0, 1, .ro, 0x0, 0xFFFFFFFF⟩,
   ⟨0x168, 0x0, 1, .ro, 0x0, 0xFFFFFFFF⟩,
   ⟨0x170, 0x0, 1, .rw, 0x3E8, 0xFFFF⟩]

/-- The registers of a SV page at 0x080 and above. -/
def svRows : List RegRow :=
  [⟨0x80, 0x0, 1, .rw, 0x1400, 0xFF0F⟩,
   ⟨0x84, 0x0, 1, .ro, 0x0, 0xFFFFFFFF⟩,
   ⟨0x88, 0x0, 1, .rw, 0x0, 0xFFFFFFFF⟩,
   ⟨0x8C, 0x0, 1, .rc, 0x0, 0xFFFFFFFF⟩,
   ⟨0x90, 0x0, 1, .rc, 0x0, 0xFFFFFFFF⟩,
   ⟨0x94, 0x0, 1, .rc, 0x0, 0xFFFFFFFF⟩,
   ⟨0x98, 0x0, 1, .rc, 0x0, 0xFFFFFFFF⟩,
   ⟨0x9C, 0x0, 1, .rc, 0x0, 0xFFFFFFFF⟩]

/-- The registers of a TWN page at 0x080 and above. -/
def twnRows : List RegRow :=
  [⟨0x80, 0x0, 1, .rw, 0x0, 0x3⟩,
   ⟨0x84, 0x0, 1, .ro, 0x0, 0xFFFFFFFF⟩,
   ⟨0x88, 0x0, 1, .rw, 0x88B6, 0xFFFF⟩,
   ⟨0x8C, 0x0, 1, .rw, 0x64, 0x3FF⟩,
   ⟨0x90, 0x0, 1, .rw, 0x4B0, 0x1FFF⟩,
   ⟨0x94, 0x0, 1, .rw, 0x32, 0x1FF⟩,
   ⟨0x98, 0x0, 1, .rw, 0x1F4, 0x1FFFF⟩,
   ⟨0x9C, 0x0, 1, .rw, 0x8, 0xFF⟩,
   ⟨0xA0, 0x0, 1, .rw, 0x64, 0x3FFF⟩,
   ⟨0xA4, 0x0, 1, .rw, 0x64, 0x3FFF⟩,
   ⟨0xA8, 0x0, 1, .rw, 0xC8, 0xFFFF⟩,
   ⟨0xAC, 0x0, 1, .ro, 0x0, 0xFFFFFFFF⟩,
   ⟨0xB0, 0x0, 1, .ro, 0x0, 0xFFFFFFFF⟩,
   ⟨0xB4, 0x0, 1, .ro, 0x0, 0xFFFFFFFF⟩,
   ⟨0xB8, 0x0, 1, .ro, 0x0, 0xFFFFFFFF⟩,
   ⟨0xBC, 0x0, 1, .ro, 0x0, 0xFFFFFFFF⟩,
   ⟨0xC0, 0x0, 1, .ro, 0x0, 0xFFFFFFFF⟩,
   ⟨0xC4, 0x0, 1, .ro, 0x0, 0xFFFFFFFF⟩,
   ⟨0xC8, 0x0, 1, .ro, 0x0, 0xFFFFFFFF⟩,
   ⟨0xCC, 0x0, 1, .rc, 0x0, 0xFFFFFFFF⟩,
   ⟨0xD0, 0x0, 1, .ro, 0x0, 0xFFFFFFFF⟩,
   ⟨0xD4, 0x0, 1, .rc, 0x0, 0xFFFFFFFF⟩,
   ⟨0xD8, 0x0, 1, .rc, 0x0, 0xFFFFFFFF⟩,
   ⟨0xDC, 0x0, 1, .rc, 0x0, 0xFFFFFFFF⟩]  ++
  [⟨0xE0, 0x0, 1, .rc, 0x0, 0xFFFFFFFF⟩,
   ⟨0xE4, 0x0, 1, .rc, 0x0, 0xFFFFFFFF⟩,
   ⟨0xE8, 0x0, 1, .rc, 0x0, 0xFFFFFFFF⟩,
   ⟨0xEC, 0x0, 1, .rc, 0x0, 0xFFFFFFFF⟩,
   ⟨0xF0, 0x0, 1, .rc, 0x0, 0xFFFFFFFF⟩,
   ⟨0xF4, 0x0, 1, .rc, 0x0, 0xFFFFFFFF⟩,
   ⟨0xF8, 0x0, 1, .ro, 0x0, 0xFFFFFFFF⟩]

/-- The registers of a BLT page at 0x080 and above. -/
def bltRows : List RegRow :=
  [⟨0x80, 0x0, 1, .rw, 0x0, 0x7⟩,
   ⟨0x84, 0x0, 1, .rw, 0x0, 0xFFFFF000⟩,
   ⟨0x88, 0x0, 1, .rw, 0x0, 0x1F⟩,
   ⟨0x8C, 0x0, 1, .rw, 0x0, 0x1FFFFF⟩,
   ⟨0x90, 0x0, 1, .rw, 0x0, 0xFFFFFFFF⟩,
   ⟨0x94, 0x0, 1, .rw, 0x0, 0xF⟩,
   ⟨0x98, 0x0, 1, .rw, 0x0, 0xFFFFFFFF⟩,
   ⟨0x9C, 0x0, 1, .rw, 0x0, 0xFFFFF000⟩,
   ⟨0xA0, 0x0, 1, .rw, 0x0, 0x1F⟩,
   ⟨0xA4, 0x0, 1, .rw, 0x0, 0x1FFFFF⟩,
   ⟨0xA8, 0x0, 1, .rw, 0x0, 0xFFFFFFFF⟩,
   ⟨0xAC, 0x0, 1, .rw, 0x0, 0xF⟩,
   ⟨0xB0, 0x0, 1, .rw, 0x0, 0xFFFFFFFF⟩,
   ⟨0xB4, 0x0, 1, .rw, 0x0, 0xFFFFFFFF⟩,
   ⟨0xB8, 0x4, 4, .rw, 0x0, 0xFFFFFFFF⟩,
   ⟨0xC8, 0x0, 1, .wo, 0x0, 0x3⟩,
   ⟨0xCC, 0x0, 1, .ro, 0x0, 0xFFFFFFFF⟩,
   ⟨0xD0, 0x0, 1, .w1c, 0x0, 0x1F⟩,
   ⟨0xD4, 0x0, 1, .ro, 0x0, 0xFFFFFFFF⟩,
   ⟨0xD8, 0x0, 1, .rc, 0x0, 0xFFFFFFFF⟩,
   ⟨0xDC, 0x0, 1, .rc, 0x0, 0xFFFFFFFF⟩,
   ⟨0xE0, 0x0, 1, .ro, 0x0, 0xFFFFFFFF⟩,
   ⟨0xE4, 0x0, 1, .ro, 0x0, 0xFFFFFFFF⟩]

/-- The registers of a DMA page at 0x080 and above. -/
def dmaRows : List RegRow :=
  [⟨0x80, 0x0, 1, .rw, 0x1, 0x1⟩,
   ⟨0x84, 0x0, 1, .ro, 0x0, 0xFFFFFFFF⟩,
   ⟨0x88, 0x0, 1, .ro, 0x0, 0xFFFFFFFF⟩,
   ⟨0x8C, 0x0, 1, .ro, 0x0, 0xFFFFFFFF⟩,
   ⟨0x90, 0x0, 1, .ro, 0x0, 0xFFFFFFFF⟩]

/-- The registers of a DC page at 0x080 and above. -/
def dcRows : List RegRow :=
  [⟨0x80, 0x0, 1, .rw, 0x0, 0x1FF7⟩,
   ⟨0x84, 0x0, 1, .wo, 0x0, 0x3⟩,
   ⟨0x88, 0x0, 1, .rw, 0x0, 0xFFFFFFC0⟩,
   ⟨0x8C, 0x0, 1, .rw, 0x0, 0xFFFFFFFF⟩,
   ⟨0x90, 0x0, 1, .ro, 0x0, 0xFFFFFFFF⟩,
   ⟨0x94, 0x0, 1, .w1c, 0x0, 0xFF⟩,
   ⟨0x98, 0x0, 1, .rw, 0x1000, 0xFFFF⟩,
   ⟨0x9C, 0x0, 1, .rw, 0x3E8, 0xFFFF⟩,
   ⟨0xA0, 0x0, 1, .ro, 0x0, 0xFFFFFFFF⟩,
   ⟨0xA4, 0x0, 1, .ro, 0x0, 0xFFFFFFFF⟩,
   ⟨0xA8, 0x0, 1, .ro, 0x0, 0xFFFFFFFF⟩,
   ⟨0xAC, 0x0, 1, .ro, 0x0, 0xFFFFFFFF⟩,
   ⟨0xB0, 0x0, 1, .ro, 0x0, 0xFFFFFFFF⟩,
   ⟨0xB4, 0x0, 1, .ro, 0x0, 0xFFFFFFFF⟩,
   ⟨0xB8, 0x0, 1, .rc, 0x0, 0xFFFFFFFF⟩,
   ⟨0xBC, 0x0, 1, .rc, 0x0, 0xFFFFFFFF⟩,
   ⟨0xC0, 0x0, 1, .rc, 0x0, 0xFFFFFFFF⟩,
   ⟨0xC4, 0x0, 1, .ro, 0x0, 0xFFFFFFFF⟩,
   ⟨0xC8, 0x0, 1, .ro, 0x0, 0xFFFFFFFF⟩]

/-- The registers of a ICU page at 0x080 and above. -/
def icuRows : List RegRow :=
  [⟨0x80, 0x0, 1, .rw, 0x1, 0x1⟩,
   ⟨0x84, 0x0, 1, .rw, 0x0, 0x7⟩,
   ⟨0x88, 0x0, 1, .rw, 0x10, 0x1F⟩,
   ⟨0x8C, 0x0, 1, .rc, 0x0, 0xFFFFFFFF⟩,
   ⟨0x90, 0x0, 1, .wo, 0x0, 0x800003FF⟩,
   ⟨0xA0, 0x8, 5, .rc, 0x0, 0xFFFFFFFF⟩,
   ⟨0xA4, 0x8, 5, .wo, 0x0, 0x3FF⟩,
   ⟨0xD0, 0x4, 5, .ro, 0x100, 0xFFFFFFFF⟩,
   ⟨0xE8, 0x0, 1, .wo, 0x0, 0x3FF⟩,
   ⟨0xF0, 0x0, 1, .ro, 0x0, 0xFFFFFFFF⟩,
   ⟨0xF4, 0x0, 1, .ro, 0x0, 0xFFFFFFFF⟩,
   ⟨0x100, 0x4, 64, .rc, 0x0, 0xFFFFFFFF⟩,
   ⟨0x200, 0x4, 64, .rw, 0x0, 0xFFFF⟩]

/-- The registers of a EVF page at 0x080 and above. -/
def evfRows : List RegRow :=
  [⟨0x80, 0x0, 1, .rw, 0x1, 0x1⟩,
   ⟨0x84, 0x0, 1, .wo, 0x0, 0x1FF⟩,
   ⟨0x88, 0x0, 1, .rw, 0x0, 0x3FFF⟩,
   ⟨0x8C, 0x0, 1, .rc, 0x0, 0xFFFFFFFF⟩,
   ⟨0x90, 0x0, 1, .ro, 0x0, 0xFFFFFFFF⟩]

/-- The registers of a SEC page at 0x080 and above. -/
def secRows : List RegRow :=
  [⟨0x80, 0x0, 1, .ro, 0x0, 0xFFFFFFFF⟩,
   ⟨0x84, 0x0, 1, .wo, 0x0, 0xF7⟩,
   ⟨0x88, 0x0, 1, .ro, 0x0, 0xFFFFFFFF⟩,
   ⟨0x8C, 0x0, 1, .rw, 0x384, 0x1FFFF⟩,
   ⟨0x90, 0x0, 1, .rw, 0x1E0, 0x7FF⟩,
   ⟨0x94, 0x0, 1, .rc, 0x0, 0xFFFFFFFF⟩,
   ⟨0x98, 0x0, 1, .wo, 0x0, 0xF7⟩,
   ⟨0x9C, 0x0, 1, .ro, 0x0, 0xFFFFFFFF⟩,
   ⟨0xA0, 0x0, 1, .rw, 0x258, 0x1FFFF⟩,
   ⟨0xA4, 0x0, 1, .wo, 0x0, 0x1⟩,
   ⟨0xA8, 0x0, 1, .ro, 0x0, 0xFFFFFFFF⟩,
   ⟨0xAC, 0x0, 1, .rw, 0x0, 0xFFFFF000⟩,
   ⟨0xB0, 0x0, 1, .rw, 0x0, 0x1F⟩,
   ⟨0xB4, 0x0, 1, .rw, 0x0, 0xFFFFFF⟩,
   ⟨0xB8, 0x0, 1, .wo, 0x0, 0x1⟩,
   ⟨0xBC, 0x0, 1, .ro, 0x0, 0xFFFFFFFF⟩,
   ⟨0xC0, 0x0, 1, .wo, 0x0, 0x1⟩,
   ⟨0xC4, 0x0, 1, .ro, 0x0, 0xFFFFFFFF⟩,
   ⟨0xC8, 0x0, 1, .ro, 0x0, 0xFFFFFFFF⟩]

/-- The registers of a AUD page at 0x080 and above. -/
def audRows : List RegRow :=
  [⟨0x80, 0x0, 1, .ro, 0x0, 0xFFFFFFFF⟩,
   ⟨0x84, 0x0, 1, .ro, 0x0, 0xFFFFFFFF⟩,
   ⟨0x88, 0x0, 1, .ro, 0x0, 0xFFFFFFFF⟩,
   ⟨0x8C, 0x0, 1, .ro, 0x0, 0xFFFFFFFF⟩,
   ⟨0x90, 0x0, 1, .ro, 0x0, 0xFFFFFFFF⟩,
   ⟨0x94, 0x0, 1, .ro, 0x0, 0xFFFFFFFF⟩,
   ⟨0x98, 0x0, 1, .rc, 0x0, 0xFFFFFFFF⟩,
   ⟨0x9C, 0x0, 1, .rc, 0x0, 0xFFFFFFFF⟩,
   ⟨0xA0, 0x4, 8, .ro, 0x0, 0xFFFFFFFF⟩]

/-- The registers of a MGT page at 0x080 and above. -/
def mgtRows : List RegRow :=
  [⟨0x80, 0x0, 1, .ro, 0x0, 0xFFFFFFFF⟩,
   ⟨0x84, 0x0, 1, .wo, 0x0, 0xF⟩,
   ⟨0x88, 0x0, 1, .rwTc, 0x1F4, 0xFFFF⟩,
   ⟨0x8C, 0x0, 1, .rc, 0x0, 0xFFFFFFFF⟩,
   ⟨0x90, 0x0, 1, .ro, 0x0, 0xFFFFFFFF⟩,
   ⟨0x94, 0x0, 1, .rc, 0x0, 0xFFFFFFFF⟩,
   ⟨0x98, 0x0, 1, .ro, 0x0, 0xFFFFFFFF⟩,
   ⟨0x9C, 0x0, 1, .ro, 0x0, 0xFFFFFFFF⟩,
   ⟨0xA0, 0x0, 1, .ro, 0x0, 0xFFFFFFFF⟩,
   ⟨0xC0, 0x10, 8, .rwTc, 0x0, 0xFFFFF000⟩,
   ⟨0xC4, 0x10, 8, .rwTc, 0x0, 0x1F⟩,
   ⟨0xC8, 0x10, 8, .rwTc, 0x0, 0xFFFFFF⟩,
   ⟨0xCC, 0x10, 8, .rwTc, 0x0, 0x7⟩,
   ⟨0x140, 0x0, 1, .rwTc, 0x0, 0xFFFFF000⟩,
   ⟨0x144, 0x0, 1, .rwTc, 0x0, 0xFFFFFFFF⟩,
   ⟨0x148, 0x0, 1, .rwTc, 0x0, 0xFFFFFFFF⟩,
   ⟨0x150, 0x0, 1, .rw, 0x0, 0x3FF000⟩,
   ⟨0x154, 0x0, 1, .rw, 0x8, 0x1F⟩,
   ⟨0x158, 0x0, 1, .rw, 0x0, 0xFFFF0000⟩,
   ⟨0x15C, 0x0, 1, .rw, 0x0, 0x3FF000⟩,
   ⟨0x160, 0x0, 1, .rw, 0x8, 0x1F⟩,
   ⟨0x164, 0x0, 1, .rw, 0x0, 0xFFFF⟩,
   ⟨0x168, 0x0, 1, .rc, 0x0, 0xFFFFFFFF⟩]

/-- The table of each kind of page. -/
def pageRows : PageKind → List RegRow
  | .gbl => gblRows
  | .cru => cruRows
  | .pwr => pwrRows
  | .mem => memRows
  | .fab => fabRows
  | .igs => igsRows
  | .ig => igRows
  | .sd => sdRows
  | .lyr => lyrRows
  | .awn => awnRows
  | .spb => spbRows
  | .sc => scRows
  | .clr => clrRows
  | .cal => calRows
  | .dls => dlsRows
  | .tp => tpRows
  | .tlg => tlgRows
  | .tim => timRows
  | .sv => svRows
  | .twn => twnRows
  | .blt => bltRows
  | .dma => dmaRows
  | .dc => dcRows
  | .icu => icuRows
  | .evf => evfRows
  | .sec => secRows
  | .aud => audRows
  | .mgt => mgtRows

end Sys2Proof.Machine
end

