-- ==== Sys2Proof/Machine/Store.lean ====
section
/-! DEFINITION. Sparse stores: a list of (key, value) pairs in one canonical form, keys strictly rising and no entry equal to
what an unlisted key reads as. Memory, register file, tables and per-port states are stores. -/

namespace Sys2Proof.Machine

/-- A sparse store over natural keys. -/
abbrev Store (α : Type) := List (Nat × α)

/-- The value at key `k`, `d k` where nothing is listed. -/
def Store.get {α : Type} (d : Nat → α) : Store α → Nat → α
  | [], k => d k
  | (j, v) :: m, k => if j = k then v else Store.get d m k

/-- Put `(k, v)` into a rising list, replacing an entry at `k`. -/
def Store.insert {α : Type} (k : Nat) (v : α) : Store α → Store α
  | [] => [(k, v)]
  | (j, w) :: m => if k < j then (k, v) :: (j, w) :: m else if j = k then (k, v) :: m else (j, w) :: Store.insert k v m

/-- Take every entry at `k` out of a list. -/
def Store.erase {α : Type} (k : Nat) : Store α → Store α
  | [] => []
  | (j, w) :: m => if j = k then Store.erase k m else (j, w) :: Store.erase k m

/-- Write `v` at `k`, keeping the canonical form. -/
def Store.set {α : Type} [DecidableEq α] (d : Nat → α) (m : Store α) (k : Nat) (v : α) : Store α :=
  if v = d k then Store.erase k m else Store.insert k v m

/-- Write the values of a list at consecutive keys from `k`. -/
def Store.setList {α : Type} [DecidableEq α] (d : Nat → α) : Store α → Nat → List α → Store α
  | m, _, [] => m
  | m, k, v :: vs => Store.setList d (Store.set d m k v) (k + 1) vs

/-- Change every listed value, keeping the canonical form. -/
def Store.mapV {α : Type} [DecidableEq α] (d : Nat → α) (f : α → α) : Store α → Store α
  | [] => []
  | (j, v) :: m => if f v = d j then Store.mapV d f m else (j, f v) :: Store.mapV d f m

/-- `n` consecutive values from key `k`. -/
def Store.slice {α : Type} (d : Nat → α) (m : Store α) (k n : Nat) : List α :=
  (List.range n).map fun i => Store.get d m (k + i)

/-- All keys of the list lie above `b`, rising strictly, and no entry equals its default. -/
def Store.wfFrom {α : Type} [DecidableEq α] (d : Nat → α) : Nat → Store α → Bool
  | _, [] => true
  | b, (j, v) :: m => decide (b ≤ j) && !decide (v = d j) && Store.wfFrom d (j + 1) m

/-- The canonical form. -/
def Store.wf {α : Type} [DecidableEq α] (d : Nat → α) (m : Store α) : Bool := Store.wfFrom d 0 m

end Sys2Proof.Machine
end

