-- ==== Sys2Proof/Machine/State.lean ====
section
/-! DEFINITION. The state of the block as plain data, and the state right after reset. -/

namespace Sys2Proof.Machine

/-- Why the machine stops. No meaning of this model stops: the spec gives every command an effect, so no one raises it.
It is safe: the type has the one constructor that the interface asks a closed type to have. -/
inductive Fault where
  /-- Raised by no command of this model (safe). -/
  | none
  deriving DecidableEq, Repr

/-- Why a command is refused. -/
inductive Refusal where
  /-- Raised by Dispatch for a command that has no meaning yet; safe, since a refused command proves nothing. -/
  | notModelled (mnemonic : String)
  deriving DecidableEq, Repr

/-! ### Interrupts and events (R351 to R371) -/

/-- A source's state in the interrupt controller (R355, R356, R358, R360), with its input as the controller last saw it. Targets: 0 to 3
cores, 4 TC, 5 host, 7 none. -/
structure SrcState where
  level    : Bool
  pending  : Bool
  active   : Bool
  holder   : Nat
  offer    : Option Nat
  withdraw : Option Nat
  deriving DecidableEq, Repr

/-- The interrupt controller: entries' writable bits, source states, software flags, event causes seen and not yet acted
on, the core last chosen by a tie, held vectors, running moderation timers (end instants), the MSI-X table and pending bits. -/
structure IcuSt where
  cfg     : Store Word
  src     : Store SrcState
  sw      : Store Bool
  risen   : Store Bool
  lastTie : Nat
  held    : Store Bool
  timers  : Store Nat
  msix    : Store Word
  pba     : Store Bool
  deriving DecidableEq, Repr

/-- The event fabric: per line the pulses carried (R371) and the CORE clock of the last one (R368). -/
structure EvfSt where
  counts : Store Nat
  last   : Store (Option Nat)
  deriving DecidableEq, Repr

/-! ### Roles, firmware and audit (R393 to R425) -/

/-- An open software session (R408, R409). -/
structure Session where
  role   : Nat
  slot   : Nat
  opened : Nat
  active : Nat
  deriving DecidableEq, Repr

/-- A challenge: its slot, nonce, and the instant it was placed (R408). -/
structure Challenge where
  slot  : Nat
  nonce : List Byte
  at_   : Nat
  deriving DecidableEq, Repr

/-- A pending dual-approval request (R412, R414): approvals are (slot, role) pairs; `busy` is a slot under verification. -/
structure Request where
  id        : Nat
  body      : List Byte
  digest    : List Byte
  approvals : List (Nat × Nat)
  busy      : Option Nat
  since     : Nat
  deriving DecidableEq, Repr

/-- A key-table slot (R407). -/
structure KeySlot where
  role  : Nat
  seq   : Nat
  key   : List Byte
  label : List Byte
  deriving DecidableEq, Repr

/-- An image-key slot of OTP (R396). -/
structure FwKey where
  hash       : List Byte
  programmed : Bool
  revoked    : Bool
  deriving DecidableEq, Repr

/-- The one-time-programmable store (R396): image keys, hashes of the maker keys (an unlisted one is that of Config's key),
SVN_MIN, EPOCH, and the bytes of DIE_SECRET (an unlisted one is Config's). -/
structure OtpSt where
  fwKeys : Store FwKey
  makers : Store (List Byte)
  secret : Store Byte
  svnMin : Nat
  epoch  : Nat
  deriving DecidableEq, Repr

/-- A configuration block copy (R395). -/
structure CfgBlock where
  gen    : Nat
  keys   : Store KeySlot
  rights : Store Nat
  hmac   : List Byte
  deriving DecidableEq, Repr

/-- The SPI NOR device (R395): board data, configuration copies, image slots, the preferred slot, the log's records. -/
structure NorSt where
  board     : List Byte
  cfg0      : Option CfgBlock
  cfg1      : Option CfgBlock
  slotA     : List Byte
  slotB     : List Byte
  preferred : Nat
  log       : Store (List Byte)
  deriving DecidableEq, Repr

/-- The trusted core's side of SEC: session, challenge, requests, window, keys, measurements, its own SRAM (R394). Instants are
in TIME clocks. -/
structure SecSt where
  booted    : Bool
  sess      : Option Session
  chalReq   : Option Nat
  chal      : Option Challenge
  opening   : Option Nat
  fails     : Nat
  lockedAt  : Option Nat
  win       : Store Word
  priv      : Store Word
  nonce     : List Byte
  req       : Option Request
  reqId     : Nat
  digest    : List Byte
  report    : List Byte
  attNonce  : Option (List Byte)
  update    : Option (Nat × Nat)
  keys      : Store KeySlot
  rights    : Store Nat
  meas      : List (List Byte)
  sram      : Store Byte
  deriving DecidableEq, Repr

/-- An audit record's content before it is written: kind, agent, role, argument bytes, and its time (R416). -/
structure AudRec where
  kind  : Nat
  agent : Nat
  role  : Nat
  args  : List Byte
  sec   : Nat
  ns    : Nat
  deriving DecidableEq, Repr

/-- The audit queue (R418): waiting records, records lost since space ran out, the next SEQ, the newest record's hash. -/
structure AudSt where
  queue : List AudRec
  lost  : Nat
  next  : Nat
  head  : List Byte
  deriving DecidableEq, Repr

/-- A component that a boot loaded into MGT SRAM (R397, R398): whether it is MC code, its offset there, its length, its hash. -/
structure LoadedPart where
  code   : Bool
  load   : Nat
  length : Nat
  hash   : List Byte
  deriving DecidableEq, Repr

/-- The management cluster: MGT SRAM, watchdog start instants, recent restarts (core, instant), cores halted and awaiting
restart with their cause, cores debug halted, cores stepped whose instruction may still access memory (R412), frames on their way
out: (port, kind, index in the transmit ring), and the components loaded, in manifest order. -/
structure MgtSt where
  sram     : Store Byte
  kicked   : Store Nat
  restarts : List (Nat × Nat)
  waiting  : List (Nat × Nat)
  dbgHalt  : List Nat
  stepped  : List Nat
  txBusy   : List (Nat × Nat × Nat)
  parts    : List LoadedPart
  deriving DecidableEq, Repr

/-! ### Resets, clocks, power (R426 to R441) -/

/-- Power states of R436, in PWR_STATE's order. -/
inductive PwrMode where
  | active | entering | standby | leaving
  deriving DecidableEq, Repr

/-- Resets, references, locks and pins: `held` a device reset in force; `pcieUp` the PCIE domain released, `pcieHold` a PCIE domain
reset in force; `tripped` the thermal trip latch; `cool` whether Tj has been below 105 °C since; `hot` since when a sensor has been at
or above 125 °C (R438); `presets` the transmit preset that each SerDes lane has taken (R452). -/
structure ResetSt where
  held     : Bool
  por      : Bool
  refSys   : Bool
  refPcie  : Bool
  refSdi   : Bool
  refAon   : Bool
  sysLock  : Bool
  octets   : Word
  igs      : Word
  sramDone : Bool
  hbmDone  : Bool
  pcieUp   : Bool
  pcieHold : Bool
  tripped  : Bool
  cool     : Bool
  pwr      : PwrMode
  pwrNext  : Option Bool
  hot      : Option Nat
  presets  : Store Nat
  deriving DecidableEq, Repr

/-- The function's configuration space that software sets, and the link (R375, R391, R365): PME_Status, PM_PME messages sent, and
whether a message waits for the link to return to L0 (R364). -/
structure PcieSt where
  link      : PcieLink
  cfg       : PcieCfg
  pmeStatus : Bool
  pmeSent   : Nat
  l0Asked   : Bool
  subVendor : Nat
  subDevice : Nat
  deriving DecidableEq, Repr

/-! ### Time and phases (R272 to R300) -/

/-- The time counter in units of 2^-32 ns, real time since the release of reset in TIME clocks (never stepped), the Sync
watch's start, the PPS pin with the clock it rose in, whether an armed capture has seen its pulse, the port timing table
(R299), the last multiples (ns) at which tile and twin time frames were queued (R236, R317), the steps accepted, the last whole
second reached (R276), and the TIME clocks for which the CORE, FAB and octet clocks have been gated (R436). -/
structure TimeSt where
  count   : Nat
  uptime  : Nat
  watch   : Option Nat
  pps     : Bool
  ppsAt   : Nat
  capSeen : Bool
  timing  : Store Word
  tlg     : Nat
  twn     : Nat
  steps   : Nat
  ppsSec  : Nat
  gated   : Nat
  deriving DecidableEq, Repr

/-- An accepted offset change waiting for its frame (R294). -/
structure OfsPend where
  frame : Nat
  fofs  : Word
  ofs   : List Word
  deriving DecidableEq, Repr

/-- The phase grid: the next slot to start, the slot in progress, a pending offset change, and per slot its sampled
latch lead (R72); phase instants reached so far; the slot whose lanterns have been queued (R238). -/
structure GridSt where
  next  : Option (Nat × Nat)
  cur   : Option (Nat × Nat)
  pend  : Option OfsPend
  leads : List (Nat × Nat × Nat)
  count : Nat
  lant  : Option (Nat × Nat)
  deriving DecidableEq, Repr

/-- Answers on the way out of the block: the word a register read returned, per agent (0 host, 1 firmware, 2 TC), the bytes
of the last BAR2 read, of the last firmware read, of the last JTAG access and of the last frame of firmware sent (R290). -/
structure OutSt where
  word : Store Word
  bar2 : List Byte
  fw   : List Byte
  tap  : List Byte
  net  : List Byte
  deriving DecidableEq, Repr

/-! ### Ingest (R33 to R59) -/

/-- A two-bucket policer's contents in 2^-16 byte and the TIME clock of its last update (R268). -/
structure Bucket where
  tc  : Nat
  tp  : Nat
  at_ : Nat
  deriving DecidableEq, Repr

/-- A buffer's state (R47); PINNED is derived from what the phases reference. -/
inductive BufMode where
  | free | opened | fenced
  deriving DecidableEq, Repr

/-- A ring buffer: state, FRAME_SEQ, INCOMPLETE, the CORE clock from which the latch sees its fence (R46), and the pair-ready instant
of that fence in ns, if it has one (R313). -/
structure Buf where
  mode    : BufMode
  seq     : Nat
  inc     : Bool
  visible : Nat
  pairAt  : Option Nat
  deriving DecidableEq, Repr

/-- A frame in formation (R40): `buf` once assigned, `asked` while it waits for an assignment, `held` packets' segments
that wait with it, `nA` and `nB` the packets written from either path (R41, R51). -/
structure OpenFrame where
  ts       : Word
  discard  : Bool
  first    : Option Nat
  marker   : Option Nat
  markedAt : Nat
  recv     : List Nat
  buf      : Option Nat
  asked    : Bool
  dropped  : Bool
  held     : List (Nat × Nat × Nat × List Seg)
  nA       : Nat
  nB       : Nat
  deriving DecidableEq, Repr

/-- A completed or closed frame on its way to its fence (R45): its buffer, flags, packets from either path, MISSING count; from
step 1 on its FRAME_SEQ and the time of step 1 in ns. -/
structure FencePend where
  buf     : Nat
  ts      : Word
  inc     : Bool
  nA      : Nat
  nB      : Nat
  missing : Nat
  done    : Option (Nat × Nat)
  deriving DecidableEq, Repr

/-- A stream's engine: open frames oldest first, the marker before them, the sequence window, closed frames still inside
the window, buffers, the newest fenced buffer, fences on the way, policers of both paths, the timestamp of the discarded
first frame, and the copies that path B has brought: sequence number, packet, and its IG clock (R41). -/
structure Stream where
  frames  : List OpenFrame
  prev    : Option Nat
  top     : Option Nat
  seen    : List Nat
  closed  : List (Word × Nat)
  fresh   : Bool
  bufs    : Store Buf
  newest  : Option Nat
  count   : Nat
  fences  : List FencePend
  polA    : Option Bucket
  polB    : Option Bucket
  quiet   : Option Word
  copies  : List (Nat × Nat × Nat)
  deriving DecidableEq, Repr

/-- An ingest write of up to 64 bytes waiting at the fabric (R107, R108): its stream and buffer, its port (16 to 23 for SDI, 24 for
a fence record), the cells it writes, the packet it belongs to and that packet's bytes, which leave the port buffer when all of the
packet is written (R37), and the FAB clock it was released in. -/
structure IngWrite where
  st    : Nat
  buf   : Nat
  port  : Nat
  addr  : Nat
  cells : List (Nat × Byte)
  pkt   : Nat
  frees : Nat
  at_   : Nat
  deriving DecidableEq, Repr

/-- Ingest: the stream table's words (R55), the counters and causes of the status entries (R56), engines, port buffer
fills (R37), writes waiting, packets written so far, physical links: (up, aligned, lanes) per IG port and (carrier, lock, lines) per
SDI input. -/
structure IngSt where
  cfg     : Store Word
  stat    : Store Word
  streams : Store Stream
  fill    : Store Nat
  writes  : List IngWrite
  packets : Nat
  igLink  : Store (Bool × Bool × Nat)
  sdi     : Store (Bool × Bool × Nat)
  deriving DecidableEq, Repr

/-! ### Layers and awnings (R60 to R89) -/

/-- A queued commit request (R67): group mask, target phase, whether its check has passed, whether its verdict is being
formed, and in a pair its origin device, sequence number and the instants and digests of R311. -/
structure CommitReq where
  mask    : Word
  target  : Option Nat
  ready   : Bool
  id      : Nat
  peer    : Bool
  effect  : Nat
  deriving DecidableEq, Repr

/-- A layer's latched state in one phase (R76): words 0 to 2 and the descriptor snapshot. -/
structure Latched where
  w0   : Word
  seq  : Nat
  desc : List Word
  deriving DecidableEq, Repr

/-- What a layer latched last in a phase: its stream, buffer, FRAME_SEQ and INCOMPLETE (R73, R74). -/
structure LayerRef where
  st  : Nat
  buf : Nat
  seq : Nat
  inc : Bool
  deriving DecidableEq, Repr

/-- The layer block: both descriptor banks (word key 32 l + w), the request queue, latched states (key 128 n + l),
references and previous buffers, the stream buffers that an earlier frame of a phase is still reading (R47), and the groups that a
cancel named in the clock of a latch not yet taken (R71). -/
structure LyrSt where
  staged  : Store Word
  active  : Store Word
  queue   : List CommitReq
  latched : Store Latched
  refs    : Store (Option LayerRef)
  reading : List (Nat × Nat × Nat)
  late    : Word
  deriving DecidableEq, Repr

/-- A placement packet as recorded (R77): the 48 bytes of its payload. -/
structure Place where
  raw : List Byte
  deriving DecidableEq, Repr

/-- An awning: packets held, whether CUR has been set, its policer (R79, R82, R87). STALE, MODE, CUR and LAST_SEQ live in
its registers. -/
structure Awning where
  p1     : Option Place
  p2     : Option Place
  curSet : Bool
  pol    : Option Bucket
  deriving DecidableEq, Repr

/-! ### Spans, fetch and the fabric (R90 to R115) -/

/-- A band directory entry (R96). -/
structure DirEnt where
  first   : Nat
  count   : Nat
  trunc   : Bool
  fetch64 : Nat
  deriving DecidableEq, Repr

/-- A span entry (R96). -/
structure SpanEnt where
  cx0   : Nat
  len   : Nat
  depth : Nat
  mask  : Nat
  deriving DecidableEq, Repr

/-- A span bank: header fields, the listed slots, directory and span array (R96). -/
structure SpanBank where
  phase : Nat
  valid : Bool
  list  : List Nat
  bands : Nat
  seq   : Nat
  clk   : Nat
  dir   : Store DirEnt
  spans : Store SpanEnt
  deriving DecidableEq, Repr

/-- The span builder: both banks, which is active, the slot whose build runs, whether the active table was kept under
R98, builds completed, a recheck asked for with the number below which requests were written before it (R112), and the slot
whose build completed last. -/
structure SpbSt where
  bank0   : SpanBank
  bank1   : SpanBank
  active  : Bool
  build   : Option (Nat × Nat)
  kept    : Bool
  builds  : Nat
  recheck : Option Nat
  done    : Option (Nat × Nat)
  deriving DecidableEq, Repr

/-- What a display request fetches for: a layer's source, an awning's, or cell contexts of copy `c` (R102, R174). -/
inductive FetchKind where
  | layer (slot : Nat)
  | awning (slot : Nat)
  | context (copy : Nat)
  deriving DecidableEq, Repr

/-- A fetch request of at most one granule (R103): what it is for, its granule address, the 64-byte units it needs, those
granted with the bytes read, whether a byte read was poisoned, its deadline tag (ps), and the FAB clock of its release. -/
structure FetchReq where
  id      : Nat
  k       : Nat
  n       : Nat
  b       : Nat
  kind    : FetchKind
  addr    : Nat
  units   : List Nat
  granted : List Nat
  data    : Store Byte
  poison  : List Nat
  tag     : Int
  at_     : Nat
  discard : Bool
  deriving DecidableEq, Repr

/-- A granule resident in the staging buffer (R103): its phase slot, the band it was fetched for, the 64-byte units
of it that were read, its bytes by device address, the 32-byte words of it that came poisoned, and the CORE clock of its coming. -/
structure Granule where
  k      : Nat
  n      : Nat
  b      : Nat
  kind   : FetchKind
  addr   : Nat
  units  : List Nat
  data   : Store Byte
  poison : List Nat
  at_    : Nat
  deriving DecidableEq, Repr

/-- A pseudo-channel's window (R108): slot, grants to display and ingest, round-robin place, shares in force, and the last
channel of DMA granted in each priority (R347). -/
structure PcWin where
  slot   : Nat
  disp   : Nat
  ing    : Nat
  rr     : Nat
  shares : Word
  deriving DecidableEq, Repr

/-- The fabric: windows per pseudo-channel, requests waiting or partly granted, granules resident, next request id, and
since when a best-effort requester has waited (key 8 pc + requester; FAB clock plus 1), the DMA channel served next (key 2 pc + priority, R347). -/
structure FabSt where
  wins  : Store PcWin
  reqs  : List FetchReq
  stage : List Granule
  next  : Nat
  beAt  : Store Nat
  dmaRr : Store Nat
  deriving DecidableEq, Repr

/-! ### Bands and the output ring (R183 to R203) -/

/-- What phase slot (k, n) works from (R185, R156, R126, R169): S and the slot's end in ns, band slot ts in ps, canvas, lead
in use, handoff, fetch-ahead; output controls; scaler copies and bypass; the layers visible at its latch with their latched states,
the scalers assigned (layer slot, scalers) and layers not composed (R135); at X(n) the calibration values; the span bank in use and its staleness; placements latched (key 256 slot + group), bands released,
band groups latched, and whether a safe action or a lost descriptor has touched the slot (R318). -/
structure PhaseCtx where
  k        : Nat
  n        : Nat
  start    : Int
  stop     : Int
  ts       : Nat
  wc       : Nat
  bands    : Nat
  lead     : Nat
  hand     : Nat
  ahead    : Nat
  postSel  : Word
  phOut    : Word
  coefSel  : Word
  bypass   : Bool
  layers   : List (Nat × Latched)
  scalers  : List (Nat × List Nat)
  lost     : List Nat
  handed   : Bool
  xDone    : Bool
  bank     : Bool
  stale    : Bool
  calEn    : Bool
  defPack  : Nat
  primary  : Nat
  sel      : Nat
  packs    : List Word
  base0    : Nat
  base1    : Nat
  place    : Store (Int × Int × Nat × Nat)
  released : Nat
  groups   : Nat
  parity   : Bool
  deriving DecidableEq, Repr

/-- A composed cell: its 256 output words (red, green, blue codes packed in one number, 16 bits each) and their depth. -/
structure Cell where
  depth : Nat
  px    : List Nat
  deriving DecidableEq, Repr

/-- A band's ring slot (R186, R189): the controls sampled at C(n, b) (R197), the CORE clock in which the slices entered, steps
complete, why a step cannot complete at all (0, or the cause of R203), cells composed, substitution flags, whether its contents are
final (R190), and whether its deadline has been judged. -/
structure BandSlot where
  k       : Nat
  n       : Nat
  b       : Nat
  wc      : Nat
  enabled : Bool
  gsAll   : Bool
  entered : Option Nat
  steps   : Nat
  stall   : Nat
  cells   : Store Cell
  subst   : Store Bool
  final   : Bool
  judged  : Bool
  deriving DecidableEq, Repr

/-- The deadline scheduler: phase contexts newest first, the context of each phase's previous latch (key n) and previous span
boundary (key 8 + n) since device reset (R388), ring slots newest first, the CORE clock up to which an aborted band held the slices,
groundsheet words, the errors that stored words carry (R196), and a fill in progress: value, next index, end, CORE clock at which it
stands there. -/
structure DlsSt where
  ctxs  : List PhaseCtx
  prev  : Store (Option PhaseCtx)
  ring  : List BandSlot
  busy  : Nat
  gs    : Store Word
  gsErr : Store Ecc
  fill  : Option (Word × Nat × Nat × Nat)
  deriving DecidableEq, Repr

/-! ### Scalers, colour, calibration (R116 to R182) -/

/-- The checked context of a cell in a phase (R174, R175): its 32 bytes, or none where both copies failed, and
the CORE clock in which it was settled. -/
structure CellCtx where
  k    : Nat
  n    : Nat
  cell : Nat
  ctx  : Option (List Byte)
  at_  : Nat
  deriving DecidableEq, Repr

/-- Stores of the colour path: scaler coefficients by word of SC0's window (R125), LUT words by word of CLR's window (R163). -/
structure LutSt where
  coef : Store Word
  lut  : Store Word
  deriving DecidableEq, Repr

/-- Calibration: a pending flip's captured selection (R178), contexts checked for phases in progress, the scrubber's next
cell (R176). -/
structure CalSt where
  flip  : Option Nat
  ctxs  : List CellCtx
  scrub : Nat
  deriving DecidableEq, Repr

/-! ### Tile ports: sequencer, transmitter, sessions (R204 to R271) -/

/-- What a sequencer holds at (R212); `since` is the issue instant (TIME clocks) of a WAIT_EVENT, `seen` whether its line
has pulsed since. -/
inductive SeqWait where
  | none
  | band (b ofs : Nat)
  | time (t : Nat)
  | event (line tmo since : Nat) (seen : Bool)
  | frame
  | close
  deriving DecidableEq, Repr

/-- A running pitch table: its phase slot, registers (R206), open loops' return words, the wait, SEQ_CTRL as sampled at the
restart (R222, R388), and the nominal times of R217 in ps. -/
structure SeqRun where
  k     : Nat
  n     : Nat
  pc    : Nat
  br    : Nat
  xr    : Nat
  cr    : Nat
  lc    : List Nat
  ret   : List Nat
  wait  : SeqWait
  nomT  : Int
  nomW  : Int
  ended : Bool
  deriving DecidableEq, Repr

/-- The pixel frame of the SEND in progress (R213): fields, FIDX, its start clock (TOk clocks) and nominal start (ps),
and whether a C or M frame has already been counted as delaying it. -/
structure PixSend where
  band    : Nat
  mode    : Bool
  rx      : Nat
  first   : Nat
  count   : Nat
  cx0     : Nat
  fidx    : Nat
  start   : Nat
  nominal : Int
  blocked : Bool
  deriving DecidableEq, Repr

/-- Integrity of one receiver in a phase (R233). -/
structure RxAcc where
  ic    : Nat
  cells : Nat
  subst : Nat
  part  : Bool
  deriving DecidableEq, Repr

/-- A class T frame waiting: whether it is a time frame (ORIGIN inserted at egress), its HTL bytes, its queueing instant, and the
TOk clock it was queued in (R256). -/
structure TFrame where
  time  : Bool
  bytes : List Byte
  at_   : Nat
  clk   : Nat
  deriving DecidableEq, Repr

/-- A class M frame waiting: whether it is an ECHO (T1_NS inserted at egress), its HTL bytes, queueing instant, whether
GATE_HOLD has counted it. -/
structure MFrame where
  echo  : Bool
  bytes : List Byte
  at_   : Nat
  held  : Bool
  deriving DecidableEq, Repr

/-- A request of a control session (R245, R263): OP, length, DATA address, its HTL frame, CSEQ, times sent, the TIME clock in
which its last copy left, whether it is the opening NOP, the STATUS and data of the answer that completes it, and whether it
completes as failed. -/
structure CReq where
  op    : Nat
  dlen  : Nat
  data  : Nat
  frame : List Byte
  cseq  : Nat
  tries : Nat
  sent  : Option Nat
  nop   : Bool
  acked : Option (Nat × List Byte)
  fail  : Bool
  deriving DecidableEq, Repr

/-- A control session's engine: the request in hand, whether it is backlogged (since when), WFQ tags (R264), whether the
opening NOP has completed, CSEQ of the last request made, and whether GATE_HOLD has counted the head. STOPPED, OUTSTANDING
and CSEQ show in SESS_CFG. -/
structure CSession where
  req     : Option CReq
  ready   : Option Nat
  s       : Nat
  f       : Nat
  opened  : Bool
  cseq    : Nat
  held    : Bool
  deriving DecidableEq, Repr

/-- Egress classes (R255). -/
inductive TxClass where
  | t | p | c | m
  deriving DecidableEq, Repr

/-- A frame on the wire: class, Ethernet bytes to the FCS (R225), the TOk clock it ends in, and for M queue frames the ring index. -/
structure TxFrame where
  cls   : TxClass
  bytes : List Byte
  stop  : Nat
  sess  : Nat
  mq    : Option Nat
  deriving DecidableEq, Repr

/-- A tile port: physical link, pitch store words (IND_ADDR / 4), the active region (entry and words, R221), the checked region, a load check running (entry and
parameters as taken at the GO), a pending swap (entry, length, target), SEQ_CTRL as sampled at the last restart and the slot
of that restart and the TOk clock it fell in, the pitch words that the phase meets in error (R321), the run, SENDs executed in the
phase (R226, R239), the SEND in progress, when the previous pixel frame ends and when the wire is free (TOk clocks), the frame on
the wire, FIDX counters by type, integrity of the phase, lantern capture, queues, shapers, policer, the phase instant of the last
far-end lantern (R251), the step last told to receivers (R295), the last instant of queue sampling in ns (R269). -/
structure TilePort where
  linkUp   : Bool
  lock     : Bool
  store    : Store Word
  active   : Option (Nat × Nat)
  checking : Option (Nat × List (List Nat))
  checked  : Option (Nat × Nat)
  swap     : Option (Nat × Nat × Option Nat)
  seqCtl   : Option Word
  last     : Option (Nat × Nat)
  lastAt   : Nat
  errs     : List Upset
  run      : Option SeqRun
  sends    : Nat
  send     : Option PixSend
  lastP    : Nat
  txFree   : Nat
  tx       : Option TxFrame
  fidx     : Store Nat
  acc      : Store RxAcc
  skipped  : Bool
  stopped  : Bool
  origin   : Nat
  segs     : List (List Byte)
  poll     : Nat
  tq       : List TFrame
  lantern  : Option MFrame
  mq       : Option (Nat × MFrame)
  mqBusy   : Bool
  sess     : Store CSession
  shaper   : Option (Int × Int × Nat)
  credit   : Option (Int × Nat)
  pol      : Option Bucket
  farAt    : Option Nat
  stepSeen : Nat
  sampled  : Nat
  deriving DecidableEq, Repr

/-! ### Redundant pair (R301 to R320) -/

/-- A mirrored operation (R310): a commit's mask and captured COMMIT_CTRL, a cancel's mask, a flip's SEL_NEXT, a placement
packet's source address and payload. -/
inductive MirOp where
  | commit (mask ctrl : Word)
  | cancel (mask : Word)
  | flip (sel : Nat)
  | place (src : Word) (payload : List Byte)
  deriving DecidableEq, Repr

/-- A mirrored operation that has not yet taken effect: ORIGIN (true: device B), RSEQ, effective instant E in ns, what it is;
of a commit, this device's digest once sent and the partner's once accepted. -/
structure MirPend where
  origin : Bool
  rseq   : Nat
  e      : Nat
  op     : MirOp
  own    : Option Word
  peer   : Option Word
  deriving DecidableEq, Repr

/-- A fence of one device of the pair (R313): stream, SDI, RTP_TS, DONE in ns, E in ns, INCOMPLETE; of this device's own,
the buffer and FRAME_SEQ it fenced; whether a partner record has matched. -/
structure FenceRec where
  stream  : Nat
  sdi     : Bool
  ts      : Word
  done    : Nat
  e       : Nat
  inc     : Bool
  buf     : Nat
  seq     : Nat
  matched : Bool
  deriving DecidableEq, Repr

/-- A HEALTH record's comparable fields (R316, R317). -/
structure Health where
  pseq  : Nat
  act   : Word
  awn   : Word
  cal   : Word
  fence : Bool
  deriving DecidableEq, Repr

/-- TWN's own state: link locks, the RSEQ windows of both origins newest first, own record count, pending operations in
order of acceptance, own and partner fences waiting to match, matched buffers waiting for their instant (stream, buffer,
FRAME_SEQ, ns), the instants (TIME clocks) of the last record and of the search, what the search has heard, the partner's
last T3 with its ingress time (ns), HEALTH records of both sides newest first, the joining count, the join instant (ns),
whether this device is the one joining, consecutive equal HEALTH pairs since DIVERGE, whether the partner's HEALTH of a phase (PSEQ) showed PAIRED and not impaired, phases yielded,
fences published in a slot (slot, stream, matched), the phase of the last HEALTH sent, and the last Ethernet
frame sent on both links (R305). -/
structure TwnSt where
  link0    : Bool
  link1    : Bool
  winA     : List Nat
  winB     : List Nat
  rseq     : Nat
  ops      : List MirPend
  ownF     : List FenceRec
  peerF    : List FenceRec
  ready    : List (Nat × Nat × Nat × Nat)
  lastRec  : Nat
  searchAt : Nat
  heardAny : Bool
  heardRun : Bool
  echo     : Option (Nat × Nat)
  ownH     : List Health
  peerH    : List Health
  peerImp  : List (Nat × Bool)
  count    : Nat
  joinAt   : Option Nat
  equal    : Nat
  diverge  : Bool
  pairFrom : Option Nat
  joiner   : Bool
  yielded  : List (Nat × Nat)
  slotF    : List FenceRec
  sent     : List Byte
  deriving DecidableEq, Repr

/-! ### Blitter and DMA (R327 to R350) -/

/-- A blitter rectangle's surface as captured at GO (R327): base, stride, width, height, format, corner. -/
structure BltSurf where
  base   : Nat
  stride : Nat
  w      : Nat
  h      : Nat
  fmt    : Nat
  x      : Nat
  y      : Nat
  deriving DecidableEq, Repr

/-- A stream's shape in the address map (R340): its first line's start, bytes per line, line step and lines. -/
structure Shape where
  base  : Nat
  len   : Nat
  step  : Int
  lines : Nat
  deriving DecidableEq, Repr

/-- A running operation: its captured parameters, the row order (R330), rows complete, and the shapes of streams that have ended
while it ran (R340). -/
structure BltOp where
  op     : Nat
  premul : Bool
  src    : BltSurf
  dst    : BltSurf
  w      : Nat
  h      : Nat
  fill   : List Byte
  up     : Bool
  rows   : Nat
  met    : List Shape
  deriving DecidableEq, Repr

/-- A DMA descriptor's fields (R339). -/
structure DmaDesc where
  src    : Nat
  dst    : Nat
  sLen   : Nat
  sStep  : Int
  sLines : Nat
  dLen   : Nat
  dStep  : Int
  dLines : Nat
  next   : Nat
  last   : Bool
  evt    : Bool
  resv   : Bool
  deriving DecidableEq, Repr

/-- What a running channel is doing: reading the descriptor it needs, about to check the current one, moving its data. -/
inductive DmaPhase where
  | idle | fetch | check | move | drain
  deriving DecidableEq, Repr

/-- A DMA channel beside its registers: phase, current descriptor, the descriptor fetched ahead and how that fetch ended,
stream bytes of the current descriptor issued as writes, the state a drain ends in (true: ERROR), a trigger seen; the shapes of
streams that have ended while the descriptor ran (R340), the FAB clock its requests began in, the values of BUS_TMO written
while the channel ran with their FAB clocks, and the addresses of requests that have timed out (R345). -/
structure DmaCh where
  phase : DmaPhase
  desc  : Option DmaDesc
  ahead : Option (FetchEnd × Option DmaDesc)
  moved : Nat
  error : Bool
  trig  : Bool
  met   : List Shape
  since : Nat
  tmos  : List (Nat × Nat)
  late  : List Nat
  deriving DecidableEq, Repr

/-- Per-page safety: registers found mismatching by BAR0 address (R387), pages whose safe action is held to its release point
(R388), pages in soft reset (R390), pages whose PAGE_LOCK has been written (R385). -/
structure ParSt where
  bad  : Store Bool
  safe : Store Bool
  busy : Store Bool
  once : Store Bool
  deriving DecidableEq, Repr
/-! ### The whole block -/

/-- The state of the block: the queue of waiting commands, the counter of free values (log entry 4), the register file by BAR0
byte address (R376), indirect pointers by agent and page (key 8192 agent + page, bit 12 for IND_CTRL; R383), answers,
device memory (R374), its 32-byte words in error (R455), what has been written to host memory, and the parts of the block. -/
structure State where
  pending : List Instr
  free    : Nat
  regs    : Store Word
  ptrs    : Store Word
  out     : OutSt
  mem     : Store Byte
  poison  : Store Bool
  hostMem : Store Byte
  par     : ParSt
  rst     : ResetSt
  pcie    : PcieSt
  time    : TimeSt
  grid    : GridSt
  ing     : IngSt
  lyr     : LyrSt
  awn     : Store Awning
  spb     : SpbSt
  fab     : FabSt
  dls     : DlsSt
  lut     : LutSt
  cal     : CalSt
  ports   : Store TilePort
  twn     : TwnSt
  blt     : Option BltOp
  dma     : Store DmaCh
  icu     : IcuSt
  evf     : EvfSt
  sec     : SecSt
  otp     : OtpSt
  nor     : NorSt
  aud     : AudSt
  mgt     : MgtSt
  deriving DecidableEq, Repr

/-! ### Reset values of the parts. A value that no rule gives is empty or zero (log entry 3). -/

/-- Empty span bank (R96, R434). -/
def SpanBank.reset : SpanBank := ⟨0, false, [], 1024, 0, 0, [], []⟩

/-- A tile port after reset. -/
def TilePort.reset : TilePort where
  linkUp := false
  lock := false
  store := []
  active := none
  checking := none
  checked := none
  swap := none
  seqCtl := none
  last := none
  lastAt := 0
  errs := []
  run := none
  sends := 0
  send := none
  lastP := 0
  txFree := 0
  tx := none
  fidx := []
  acc := []
  skipped := false
  stopped := false
  origin := 0
  segs := []
  poll := 0
  tq := []
  lantern := none
  mq := none
  mqBusy := false
  sess := []
  shaper := none
  credit := none
  pol := none
  farAt := none
  stepSeen := 0
  sampled := 0

/-- An ingest stream's engine after reset (R50). -/
def Stream.reset : Stream := ⟨[], none, none, [], [], false, [], none, 0, [], none, none, none, []⟩

/-- A free buffer (R47). -/
def Buf.reset : Buf := ⟨.free, 0, false, 0, none⟩

/-- An awning with no history (R79). -/
def Awning.reset : Awning := ⟨none, none, false, none⟩

/-- A DMA channel at rest. -/
def DmaCh.reset : DmaCh := ⟨.idle, none, none, 0, false, false, [], 0, [], []⟩

/-- A control session at rest. -/
def CSession.reset : CSession := ⟨none, none, 0, 0, false, 0, false⟩

/-- An interrupt source at rest (R356). -/
def SrcState.reset : SrcState := ⟨false, false, false, 7, none, none⟩

/-- A pseudo-channel's first window (R108). -/
def PcWin.reset : PcWin := ⟨0, 0, 0, 0, 0xA46⟩

/-- TWN in OFF (R314). -/
def TwnSt.reset : TwnSt where
  link0 := false
  link1 := false
  winA := []
  winB := []
  rseq := 0
  ops := []
  ownF := []
  peerF := []
  ready := []
  lastRec := 0
  searchAt := 0
  heardAny := false
  heardRun := false
  echo := none
  ownH := []
  peerH := []
  peerImp := []
  count := 0
  joinAt := none
  equal := 0
  diverge := false
  pairFrom := none
  joiner := false
  yielded := []
  slotF := []
  sent := []

/-- The trusted core before its boot. -/
def SecSt.reset : SecSt where
  booted := false
  sess := none
  chalReq := none
  chal := none
  opening := none
  fails := 0
  lockedAt := none
  win := []
  priv := []
  nonce := []
  req := none
  reqId := 0
  digest := []
  report := []
  attNonce := none
  update := none
  keys := []
  rights := []
  meas := []
  sram := []

/-- OTP as made (R396): no image key programmed by the model, minimum version and epoch 0. Log entry 8. -/
def OtpSt.reset : OtpSt := ⟨[], [], [], 0, 0⟩

/-- SPI NOR as erased: no board data, configuration, image or log. Log entry 8. -/
def NorSt.reset : NorSt := ⟨[], none, none, [], [], 0, []⟩

/-- No record queued (R418); the next SEQ is 0. -/
def AudSt.reset : AudSt := ⟨[], 0, 0, []⟩

/-- The management cluster before the boot (R420): cores are held. -/
def MgtSt.reset : MgtSt := ⟨[], [], [], [], [], [], [], []⟩

/-- The block as a device reset leaves what such a reset resets (R431), all references present, reset released:
every register at its table's value, no command waiting. -/
def State.reset : State where
  pending := []
  free := 0
  regs := []
  ptrs := []
  out := ⟨[], [], [], [], []⟩
  mem := []
  poison := []
  hostMem := []
  par := ⟨[], [], [], []⟩
  rst := ⟨false, false, true, true, true, true, true, 0xFFFFFFFF, 0xFFFF, false, false, false, false, false, true, .active, none, none, []⟩
  pcie := ⟨⟨false, 0, 0, 0, 0⟩, ⟨false, false, false, false, 0, 2, true, true, 0⟩, false, 0, false, 0x1F7C, 0⟩
  time := ⟨0, 0, none, false, 0, false, [], 0, 0, 0, 0, 0⟩
  grid := ⟨none, none, none, [], 0, none⟩
  ing := ⟨[], [], [], [], [], 0, [], []⟩
  lyr := ⟨[], [], [], [], [], [], 0⟩
  awn := []
  spb := ⟨.reset, .reset, false, none, false, 0, none, none⟩
  fab := ⟨[], [], [], 0, [], []⟩
  dls := ⟨[], [], [], 0, [], [], none⟩
  lut := ⟨[], []⟩
  cal := ⟨none, [], 0⟩
  ports := []
  twn := .reset
  blt := none
  dma := []
  icu := ⟨[], [], [], [], 0, [], [], [], []⟩
  evf := ⟨[], []⟩
  sec := .reset
  otp := .reset
  nor := .reset
  aud := .reset
  mgt := .reset

end Sys2Proof.Machine
end

