-- ==== Sys2Proof/Machine/Regs.lean ====
section
/-! DEFINITION. The register file: what an unwritten register holds (R14, the reset columns), reads, writes and counters of the
stored words. -/

namespace Sys2Proof.Machine

/-- Page index of a BAR0 byte address (R372). -/
def pageOf (addr : Nat) : Nat := addr / 0x1000

/-- Kind, first index and instance of a page, none for an index the directory does not list (R376). -/
def pageInfo (pg : Nat) : Option (PageKind × Nat × Nat) :=
  (pageDirectory.find? fun d => decide (d.2.1 ≤ pg) && decide (pg < d.2.1 + d.2.2)).map
    fun d => (d.1, d.2.1, pg - d.2.1)

/-- Does the row hold the register at this offset. -/
def RegRow.covers (r : RegRow) (off : Nat) : Bool :=
  if r.step = 0 then off == r.off
  else decide (r.off ≤ off) && (off - r.off) % r.step == 0 && decide ((off - r.off) / r.step < r.count)

/-- The table row of a register at 0x080 or above. -/
def rowAt (k : PageKind) (off : Nat) : Option RegRow := (pageRows k).find? fun r => r.covers off

/-- Reset thresholds of the rails, LO and HI in mV (R440). -/
def railLimits : List (Nat × Nat) :=
  [(712, 788), (807, 893), (712, 788), (1140, 1260), (1710, 1890), (712, 788), (1045, 1155), (380, 420), (1710, 1890)]

/-- Identity and threshold registers whose reset value is per die, per grade or per rail (R391, R440). -/
def resetSpecial (addr : Nat) : Option Word :=
  if addr = Reg.GBL.CHIP_ID then some (if Config.gradeE0 then 0x025601B1 else 0x025600B1)
  else if addr = Reg.GBL.UNIQUE_ID_LO then some (Config.uniqueId.setWidth 32)
  else if addr = Reg.GBL.UNIQUE_ID_HI then some ((Config.uniqueId >>> 32).setWidth 32)
  else if pageOf addr = Page.PWR ∧ 0x180 ≤ addr % 0x1000 ∧ addr % 0x1000 < 0x1C8 then
    let l := railLimits.getD ((addr % 0x1000 - 0x180) / 8) (0, 0)
    some (w32 (if addr % 8 = 0 then l.1 else l.2))
  else none

/-- Reset values of the common header (R377). PAGE_ID, PAGE_CAPS and PAGE_RIGHTS are views. -/
def resetHeader (off : Nat) : Word :=
  if off = 0x04 then 0x100 else if off = 0x0C then 1 else if off = 0x1C then 0x80000000 else 0

/-- What a register holds after reset (R377 and the tables); 0 where no register stands. -/
def resetWord (addr : Nat) : Word :=
  match resetSpecial addr with
  | some w => w
  | none =>
    match pageInfo (pageOf addr) with
    | none => 0
    | some d =>
      if addr % 0x1000 < 0x40 then resetHeader (addr % 0x1000)
      else match rowAt d.1 (addr % 0x1000) with
        | some r => w32 r.reset
        | none => 0

/-- The stored word of a register. -/
def rd (s : State) (addr : Nat) : Word := Store.get resetWord s.regs addr

/-- A write of a register's stored word; its parity bit is made anew (R386). -/
def wr (s : State) (addr : Nat) (v : Word) : State :=
  { s with regs := Store.set resetWord s.regs addr v, par := { s.par with bad := Store.erase addr s.par.bad } }

/-- A stored word as a number. -/
def rdN (s : State) (addr : Nat) : Nat := (rd s addr).toNat

/-- Bits [hi:lo] of a stored word. -/
def rdF (s : State) (addr hi lo : Nat) : Nat := fld (rd s addr) hi lo

/-- Bit `b` of a stored word. -/
def rdB (s : State) (addr b : Nat) : Bool := bit (rd s addr) b

/-- Write bits [hi:lo] of a stored word. -/
def wrF (s : State) (addr hi lo v : Nat) : State := wr s addr (setFld (rd s addr) hi lo v)

/-- Write bit `b` of a stored word. -/
def wrB (s : State) (addr b : Nat) (v : Bool) : State := wr s addr (setBit (rd s addr) b v)

/-- Set the bits of a mask in a stored word. -/
def orReg (s : State) (addr : Nat) (m : Word) : State := wr s addr (rd s addr ||| m)

/-- Add to a counter that saturates at 0xFFFF_FFFF. -/
def bumpN (s : State) (addr n : Nat) : State := wr s addr (w32 (min 0xFFFFFFFF (rdN s addr + n)))

/-- Count one event in a saturating counter. -/
def bump (s : State) (addr : Nat) : State := bumpN s addr 1

/-- Count one event where a condition holds. -/
def bumpIf (c : Bool) (s : State) (addr : Nat) : State := if c then bump s addr else s

/-- Add to a 64-bit counter held in a LO/HI pair of registers. -/
def bump64 (s : State) (lo hi n : Nat) : State :=
  let v := rdN s lo + 2 ^ 32 * rdN s hi + n
  wr (wr s lo (w32 v)) hi (w32 (v / 2 ^ 32))

/-- Raise a register that holds a peak. -/
def peak (s : State) (addr v : Nat) : State := if rdN s addr < v then wr s addr (w32 v) else s

/-- Write a LO/HI pair. -/
def wr64 (s : State) (lo hi : Nat) (v : Nat) : State := wr (wr s lo (w32 v)) hi (w32 (v / 2 ^ 32))

/-- The 64-bit value of a LO/HI pair. -/
def rd64 (s : State) (lo hi : Nat) : Nat := rdN s lo + 2 ^ 32 * rdN s hi

/-- Write a register that software writes too. -/
def wrCfg (s : State) (addr : Nat) (v : Word) : State := wr s addr v

/-- Default functions of stores whose unlisted entries are plain zero or false. -/
def zeroW : Nat → Word := fun _ => 0
def zeroN : Nat → Nat := fun _ => 0
def zeroB : Nat → Byte := fun _ => 0
def noB : Nat → Bool := fun _ => false

end Sys2Proof.Machine
end

