-- ==== Sys2Proof/Machine/Ops.lean ====
section
/-! DEFINITION. Operations that every family shares: running a command while reset is off, clocks and instants, free values,
the stores behind the registers, interrupts, event lines, audit records, rights and locks, device and host memory, policers. -/

namespace Sys2Proof.Machine

/-- A command's outcome: nothing happens while a device reset is held (R431); the block never stops. -/
def live (s t : State) : Host.Outcome State Fault Refusal := .next (if s.rst.held then s else t)

/-- The wall's part of the device is driven: not in STANDBY nor on the way there (R435, R436). The gated clocks are taken to come
back with the links, as LEAVING begins (log entry 132). -/
def serdesOn (s : State) : Bool := s.rst.pwr == .active || s.rst.pwr == .leaving

/-- The outcome of a command that a block in the CORE, FAB or octet clocks carries out by itself: nothing happens while those clocks
are gated (R436). -/
def wall (s t : State) : Host.Outcome State Fault Refusal := live s (if serdesOn s then t else s)

/-! ### Free values (log entry 4) -/

/-- The next free bit and the state that has used it. -/
def freshBit (s : State) : Bool × State := (Config.freeBit s.free, { s with free := s.free + 1 })

/-- The next free word and the state that has used it. -/
def freshWord (s : State) : Word × State := (Config.freeWord s.free, { s with free := s.free + 1 })

/-! ### Clocks and instants -/

/-- TIME clocks since the release of reset in which the CORE, FAB and octet clocks ran (R436). -/
def wallClk (s : State) : Nat := s.time.uptime - s.time.gated

/-- CORE clocks since the release of reset, at 1.25 GHz (R426). -/
def coreClk (s : State) : Nat := wallClk s * 5 / 2

/-- FAB clocks, at 1.6 GHz. -/
def fabClk (s : State) : Nat := wallClk s * 16 / 5

/-- MGMT clocks, at 1 GHz. -/
def mgmtClk (s : State) : Nat := s.time.uptime * 2

/-- TOk clocks, at 390.625 MHz. -/
def tileClk (s : State) : Nat := wallClk s * 25 / 32

/-- IG clocks, at 390.625 MHz. -/
def igClk (s : State) : Nat := s.time.uptime * 25 / 32

/-- TIME clocks of a duration in microseconds, at 500 MHz. -/
def usClocks (us : Nat) : Nat := us * 500

/-- The counter in whole ns (R273). -/
def nowNs (s : State) : Nat := s.time.count / 2 ^ 32

/-- The counter is at or past an instant in ps. -/
def reached (s : State) (ps : Int) : Bool := decide (ps * 2 ^ 32 ≤ (s.time.count : Int) * 1000)

/-- The counter's value in ps, rounded down. -/
def nowPs (s : State) : Nat := s.time.count * 1000 / 2 ^ 32

/-- Real time elapsed since an instant of the TIME clock is at least `us` microseconds. -/
def elapsedUs (s : State) (since us : Nat) : Bool := decide (since + usClocks us ≤ s.time.uptime)

/-- The clock in which `us` microseconds run out is over: what arrives in that clock still counts where a rule has it win. -/
def overUs (s : State) (since us : Nat) : Bool := decide (since + usClocks us < s.time.uptime)

/-! ### Stores behind the registers -/

/-- Tile port `p`. -/
def port (s : State) (p : Nat) : TilePort := Store.get (fun _ => TilePort.reset) s.ports p

/-- Replace tile port `p`. -/
def setPort (s : State) (p : Nat) (x : TilePort) : State :=
  { s with ports := Store.set (fun _ => TilePort.reset) s.ports p x }

/-- Engine of ingest stream `i`. -/
def stream (s : State) (i : Nat) : Stream := Store.get (fun _ => Stream.reset) s.ing.streams i

/-- Replace the engine of stream `i`. -/
def setStream (s : State) (i : Nat) (x : Stream) : State :=
  { s with ing := { s.ing with streams := Store.set (fun _ => Stream.reset) s.ing.streams i x } }

/-- Buffer `j` of a stream engine. -/
def Stream.buf (x : Stream) (j : Nat) : Buf := Store.get (fun _ => Buf.reset) x.bufs j

/-- Replace buffer `j` of a stream engine. -/
def Stream.setBuf (x : Stream) (j : Nat) (b : Buf) : Stream :=
  { x with bufs := Store.set (fun _ => Buf.reset) x.bufs j b }

/-- Awning `a`. -/
def awning (s : State) (a : Nat) : Awning := Store.get (fun _ => Awning.reset) s.awn a

/-- Replace awning `a`. -/
def setAwning (s : State) (a : Nat) (x : Awning) : State := { s with awn := Store.set (fun _ => Awning.reset) s.awn a x }

/-- DMA channel `c`. -/
def dmaCh (s : State) (c : Nat) : DmaCh := Store.get (fun _ => DmaCh.reset) s.dma c

/-- Replace DMA channel `c`. -/
def setDma (s : State) (c : Nat) (x : DmaCh) : State := { s with dma := Store.set (fun _ => DmaCh.reset) s.dma c x }

/-- State of interrupt source `i` (R356). -/
def srcSt (s : State) (i : Nat) : SrcState := Store.get (fun _ => SrcState.reset) s.icu.src i

/-- Replace the state of interrupt source `i`. -/
def setSrc (s : State) (i : Nat) (x : SrcState) : State :=
  { s with icu := { s.icu with src := Store.set (fun _ => SrcState.reset) s.icu.src i x } }

/-! ### Safe actions (R387 to R389) -/

/-- A safe action's cause holds: PAGE_ERR.PARITY, or PAGE_CTRL.EN = 0. -/
def safeCause (s : State) (pg : Nat) : Bool := rdB s (Reg.HDR.PAGE_ERR pg) 0 || !rdB s (Reg.HDR.PAGE_CTRL pg) 0

/-- Pages whose safe action is none beyond the report (R388, R389). -/
def noSafeAction (pg : Nat) : Bool := [Page.GBL, Page.TLG, Page.TWN, Page.MGT].contains pg

/-- Pages whose safe action each phase gives up at its own next latch (R388). -/
def latchReleased (pg : Nat) : Bool :=
  match pageInfo pg with
  | some (k, _, _) => [PageKind.lyr, .sc, .clr].contains k
  | none => false

/-- Where a safe action held for phase `n` is noted. -/
def safeKey (pg n : Nat) : Nat := pg + 4096 * (n + 1)

/-- The page's safe action is in force (R388). -/
def safe (s : State) (pg : Nat) : Bool :=
  !noSafeAction pg && (safeCause s pg || Store.get noB s.par.safe pg ||
    (latchReleased pg && (List.range 8).any fun n => Store.get noB s.par.safe (safeKey pg n)))

/-- Pages whose safe action ends when its cause does; the others hold it to their release point (R388). -/
def releasesAtOnce (pg : Nat) : Bool :=
  match pageInfo pg with
  | some (k, _, _) => [PageKind.cru, .pwr, .mem, .igs, .ig, .sv, .blt, .dma, .dc, .icu, .evf, .sec, .aud].contains k
  | none => true

/-- Note or clear a held safe action. -/
def setSafe (s : State) (key : Nat) (v : Bool) : State := { s with par := { s.par with safe := Store.set noB s.par.safe key v } }

/-- Hold the safe action of a page to its release point. -/
def holdSafe (s : State) (pg : Nat) : State :=
  if releasesAtOnce pg || noSafeAction pg then s
  else if latchReleased pg then
    (List.range (min 8 (rdF s Reg.TIM.PH_RATE 11 8))).foldl (fun s n => setSafe s (safeKey pg n) true) s
  else setSafe s pg true

/-- A release point of the page's safe action has come (R388). -/
def releaseSafe (s : State) (pg : Nat) : State := if safeCause s pg then s else setSafe s pg false

/-- The latch of phase `n` has come for a page released there (R388). -/
def releaseLatch (n : Nat) (s : State) (pg : Nat) : State := if safeCause s pg then s else setSafe s (safeKey pg n) false

/-! ### Interrupt causes and event lines -/

/-- The interrupt source of a page (R353). -/
def sourceOf (pg : Nat) : Option Nat :=
  match pageInfo pg with
  | none => none
  | some (k, _, i) =>
    match k with
    | .gbl => some 0 | .cru => some 1 | .pwr => some 2 | .mem => some (4 + i) | .fab => some 8 | .igs => some 9
    | .ig => some (10 + i) | .sd => some (26 + i) | .lyr => some 34 | .awn => some 35 | .spb => some 36
    | .clr => some 37 | .cal => some 38 | .dls => some 39 | .tlg => some 40 | .tim => some 41 | .sv => some (42 + i)
    | .twn => some 44 | .blt => some 45 | .dma => some 46 | .dc => some (48 + i) | .icu => some 64 | .evf => some 65
    | .sec => some 66 | .aud => some 67 | .mgt => some 68 | .sc => some (96 + i) | .tp => some (256 + i)

/-- An event cause of a page (R351): where its enable bit is set and the input does not stand at 1 already, the page's source has risen
and IRQ_INPUT_RISE may act. -/
def raiseE (s : State) (pg b : Nat) : State :=
  if rdB s (Reg.HDR.PAGE_IRQ_EN pg) b then
    match sourceOf pg with
    | some i => if (srcSt s i).level then s else { s with icu := { s.icu with risen := Store.set noB s.icu.risen i true } }
    | none => s
  else s

/-- A sequencer's WAIT_EVENT sees a pulse of its line (R212, R367). -/
def TilePort.seePulse (l : Nat) (x : TilePort) : TilePort :=
  match x.run with
  | some r =>
    match r.wait with
    | .event line tmo since seen => { x with run := some { r with wait := .event line tmo since (seen || line == l) } }
    | _ => x
  | none => x

/-- The consumers of the fabric see a pulse of line `l` (R367): DMA triggers, an armed capture, waiting sequencers. -/
def notify (s : State) (l : Nat) : State :=
  let hit (c : Nat) : Bool :=
    rdB s (Reg.DC.CH_CTRL c) 2 && rdF s (Reg.DC.CH_CTRL c) 12 4 == l
  let s := (List.range 16).foldl (fun s c => if hit c then setDma s c { dmaCh s c with trig := true } else s) s
  let armed := rdB s Reg.TIM.CAP_CTRL 9 && rdF s Reg.TIM.CAP_CTRL 8 0 == l
  { s with
    time := { s.time with capSeen := s.time.capSeen || armed }
    ports := Store.mapV (fun _ => TilePort.reset) (TilePort.seePulse l) s.ports }

/-- A producer's pulse on line `l` (R366 to R369): not carried with EVF_CTRL.EN = 0, merged within 16 CORE clocks of the line's
previous pulse, counted and seen otherwise; the fabric runs in the CORE clock, so none is carried while that is gated (R436). Under
EVF's safe action EN acts as 1 and line 9 does not pulse (R388). -/
def pulse (s : State) (l : Nat) : State :=
  if (safe s Page.EVF && l == 9) || !serdesOn s then s
  else if !(rdB s Reg.EVF.EVF_CTRL 0 || safe s Page.EVF) then s
  else
    let merged := match Store.get (fun _ => none) s.evf.last l with
      | some c => decide (coreClk s < c + 16)
      | none => false
    if merged then
      raiseE (wr (bump s Reg.EVF.MERGED) Reg.EVF.LAST_MERGED (w32 (2 ^ 31 + l))) Page.EVF 0
    else
      let n := Store.get zeroN s.evf.counts l
      notify { s with evf := { counts := Store.set zeroN s.evf.counts l (min 0xFFFFFFFF (n + 1))
                               last := Store.set (fun _ => none) s.evf.last l (some (coreClk s)) } } l

/-! ### Roles, rights, locks and the audit queue (R384, R385, R410, R416 to R418) -/

/-- AGENT of an audit record. -/
def agentCode : Agent → Nat
  | .host => 0
  | .fw => 1
  | .tc => 2

/-- Role of the open session, 0 where none is open: 1 operator, 2 installer, 3 maker (R408). -/
def sessRole (s : State) : Nat := match s.sec.sess with | some x => x.role | none => 0

/-- Slot of the open session, 0xFF where none is open. -/
def sessSlot (s : State) : Nat := match s.sec.sess with | some x => x.slot | none => 0xFF

/-- The time an audit record bears (R416): the counter, or time since reset before TIME_VALID. -/
def auditTime (s : State) : Nat × Nat :=
  let ns := if rdB s Reg.TIM.TIM_STATUS 0 then nowNs s else 2 * s.time.uptime
  (ns / 1000000000, ns % 1000000000)

/-- Queue an audit record (R418): 256 places; past them events are counted in LOST, and the first record after space returns
is a LOST record with the count. -/
def audit (s : State) (kind agent role : Nat) (args : List Byte) : State :=
  let t := auditTime s
  let r : AudRec := ⟨kind, agent, role, padTo 12 args, t.1, t.2⟩
  if s.aud.queue.length < 256 then
    if s.aud.lost = 0 then { s with aud := { s.aud with queue := s.aud.queue ++ [r] } }
    else
      let l : AudRec := ⟨0x0D, 2, 0, padTo 12 (leBytes 8 s.aud.lost), t.1, t.2⟩
      if s.aud.queue.length < 255 then { s with aud := { s.aud with queue := s.aud.queue ++ [l, r], lost := 0 } }
      else lose { s with aud := { s.aud with queue := s.aud.queue ++ [l], lost := 1 } }
  else lose { s with aud := { s.aud with lost := s.aud.lost + 1 } }
where
  /-- An event lost for want of space counts and is a cause (R418, R424). -/
  lose (s : State) : State := raiseE (bump s Reg.AUD.LOST) Page.AUD 1

/-- The factory map of rights words by page index (R410). -/
def factoryRights (pg : Nat) : Nat :=
  match pageInfo pg with
  | none => 0x04
  | some (k, _, i) =>
    match k with
    | .gbl => 0x27
    | .cru | .pwr | .mem => 0x67
    | .fab | .igs | .ig | .sd | .spb | .sc | .clr | .twn | .dma => 0x25
    | .cal | .tp | .tlg | .tim | .sv => 0x27
    | .lyr | .awn | .dls | .blt => 0x35
    | .dc => if i < 12 then 0x35 else 0x06
    | .mgt => 0x06
    | .icu | .evf => 0x07
    | .sec | .aud => 0x05

/-- The rights word of a page in force (R384, R410). -/
def rightsWord (s : State) (pg : Nat) : Nat := Store.get factoryRights s.sec.rights pg

/-- Why rights refuse a write of a page, as WRITE_REFUSED's cause: 1 rights, 2 role (R384, R410; SEC's safe action, R388). -/
def rightsRefusal (s : State) (a : Agent) (pg : Nat) : Option Nat :=
  let w := rightsWord s pg
  let roles := nfld w 6 4
  match a with
  | .tc => none
  | .fw => if safe s Page.SEC then some 1 else if w.testBit 1 then none else some 1
  | .host =>
    if safe s Page.SEC then some 1
    else if !w.testBit 0 then some 1
    else if roles == 0 then none
    else if sessRole s ≠ 0 ∧ roles.testBit (sessRole s - 1) then none
    else some 2

/-- Bit `b` of PAGE_LOCK as it acts (R385, R387). -/
def lockBit (s : State) (pg b : Nat) : Bool :=
  Store.get noB s.par.bad (Reg.HDR.PAGE_LOCK pg) || rdB s (Reg.HDR.PAGE_LOCK pg) b

/-- A refused write (R384, R385): PAGE_LOCK_VIOL, PAGE_ERR.LOCK_VIOL and a WRITE_REFUSED record with its cause. -/
def refuseWrite (s : State) (a : Agent) (addr : Nat) (v : Word) (cause : Nat) : State :=
  let pg := pageOf addr
  let s := bump s (Reg.HDR.PAGE_LOCK_VIOL pg)
  let s := wrB s (Reg.HDR.PAGE_ERR pg) 1 true
  let host := a == .host
  audit s 0x02 (agentCode a) (if host then sessRole s else 0)
    (leBytes 2 pg ++ leBytes 2 (addr % 0x1000) ++ leBytes 4 v.toNat ++
      [BitVec.ofNat 8 cause, BitVec.ofNat 8 (if host then sessSlot s else 0xFF)])

/-- Which PAGE_LOCK bit covers a write (R378, R385). -/
inductive LockKind where
  | cfg | cmd | ind | hdr | open
  deriving DecidableEq, Repr

/-- The lock of a kind is set on the page. -/
def locked (s : State) (pg : Nat) : LockKind → Bool
  | .cfg => lockBit s pg 0
  | .cmd => lockBit s pg 1
  | .ind => lockBit s pg 2
  | .hdr => lockBit s pg 3
  | .open => false

/-- Why a write is refused, as WRITE_REFUSED's cause: rights and roles first, then the lock. -/
def writeRefusal (s : State) (a : Agent) (pg : Nat) (k : LockKind) : Option Nat :=
  match rightsRefusal s a pg with
  | some c => some c
  | none => if locked s pg k then some 0 else none

/-- RST_BUSY of a page: writes to it are dropped meanwhile (R390). -/
def rstBusy (s : State) (pg : Nat) : Bool := Store.get noB s.par.busy pg

/-- A software write accepted under the session's role keeps the session from idling (R409). -/
def touchSession (s : State) (a : Agent) (pg : Nat) (t : State) : State :=
  match t.sec.sess with
  | some x =>
    if a == .host && nfld (rightsWord s pg) 6 4 != 0 then
      { t with sec := { t.sec with sess := some { x with active := t.time.uptime } } }
    else t
  | none => t

/-- A write by agent `a` of `v` to `addr` that is to have the effect `t`, subject to soft reset, rights, roles and locks. -/
def guarded (s : State) (a : Agent) (addr : Nat) (v : Word) (k : LockKind) (t : State) : State :=
  if rstBusy s (pageOf addr) then s
  else match writeRefusal s a (pageOf addr) k with
    | some c => refuseWrite s a addr v c
    | none => touchSession s a (pageOf addr) t

/-! ### Indirect windows (R383) -/

/-- Reset of indirect pointers: IND_ADDR 0, IND_CTRL 4 (R377). -/
def ptrDefault (k : Nat) : Word := if k / 4096 % 2 = 1 then 4 else 0

/-- An agent's IND_ADDR of a page. -/
def indAddr (s : State) (a : Agent) (pg : Nat) : Nat := (Store.get ptrDefault s.ptrs (8192 * agentCode a + pg)).toNat

/-- An agent's IND_CTRL.STRIDE of a page. -/
def indStride (s : State) (a : Agent) (pg : Nat) : Nat :=
  (Store.get ptrDefault s.ptrs (8192 * agentCode a + 4096 + pg)).toNat

/-- Write an agent's pointer: IND_ADDR, or IND_CTRL with `c`. -/
def setPtr (s : State) (a : Agent) (pg : Nat) (c : Bool) (v : Word) : State :=
  { s with ptrs := Store.set ptrDefault s.ptrs (8192 * agentCode a + 4096 * c.toNat + pg) v }

/-- IND_ADDR advances by STRIDE after an access to IND_DATA. -/
def indAdvance (s : State) (a : Agent) (pg : Nat) : State := setPtr s a pg false (w32 (indAddr s a pg + indStride s a pg))

/-- The word of the window that an access to IND_DATA meets: bits [1:0] of IND_ADDR are ignored. -/
def indWord (s : State) (a : Agent) (pg : Nat) : Nat := indAddr s a pg / 4

/-- A write through IND_DATA that is to have the effect `t`; the walk goes on even where it is refused. -/
def indGuarded (s : State) (a : Agent) (pg : Nat) (v : Word) (t : State) : State :=
  if rstBusy s pg then s else indAdvance (guarded s a (Reg.HDR.IND_DATA pg) v .ind t) a pg

/-! ### Device memory and host memory (R374, R455) -/

/-- Bytes of device memory. -/
def memBytes : Nat := 0x1800000000

/-- What an unlisted byte of memory reads as (log entry 2). -/
def memDefault : Nat → Byte := fun _ => 0

/-- Lies a range wholly in device memory. -/
def inMem (a n : Nat) : Bool := decide (a + n ≤ memBytes)

/-- `n` bytes of device memory. -/
def memRead (s : State) (a n : Nat) : List Byte := Store.slice memDefault s.mem a n

/-- A 32-byte word overlapping the range holds an uncorrectable error (R455). -/
def memPoisoned (s : State) (a n : Nat) : Bool :=
  (List.range (ceilDiv (a % 32 + n) 32)).any fun i => Store.get noB s.poison (a / 32 + i)

/-- Words of 32 bytes that a write of `n` bytes at `a` covers whole lose their error (R455). -/
def healed (p : Store Bool) (a n : Nat) : Store Bool :=
  (List.range ((a + n) / 32 - ceilDiv a 32)).foldl (fun p i => Store.set noB p (ceilDiv a 32 + i) false) p

/-- Write bytes to device memory; addresses past its end hold nothing. -/
def memWrite (s : State) (a : Nat) (bs : List Byte) : State :=
  let bs := bs.take (memBytes - a)
  { s with mem := Store.setList memDefault s.mem a bs, poison := healed s.poison a bs.length }

/-- The stack of a device address (R106). -/
def pseudoChannel (a : Nat) : Nat :=
  (nfld a 14 8 ^^^ nfld a 21 15 ^^^ nfld a 28 22 ^^^ nfld a 35 29) ^^^ (nfld a 36 36 * 64)

/-- Count one 64-byte transfer of device memory on its stack (R455). -/
def countTransfer (s : State) (a : Nat) (write : Bool) : State :=
  let k := pseudoChannel a / 32
  if write then bump64 s (Reg.MEM.WR_BYTES_LO k) (Reg.MEM.WR_BYTES_HI k) 64
  else bump64 s (Reg.MEM.RD_BYTES_LO k) (Reg.MEM.RD_BYTES_HI k) 64

/-- One 32-byte word read at address `a`, met as `e`: corrected errors count; an uncorrectable one stays with the stored word, and
every read of it counts and is recorded. -/
def readWord32 (s : State) (a : Nat) (e : Ecc) : Bool × State :=
  let k := pseudoChannel a / 32
  let s := if e == .uncorrectable then { s with poison := Store.set noB s.poison (a / 32) true } else s
  let s := if e == .corrected then bump s (Reg.MEM.ECC_CORR k) else s
  if Store.get noB s.poison (a / 32) then
    let s := bump s (Reg.MEM.ECC_UNCORR k)
    let s := wr s (Reg.MEM.LAST_UNCORR_LO k) (w32 (a / 256 * 256))
    (true, raiseE (wr s (Reg.MEM.LAST_UNCORR_HI k) (w32 (2 ^ 31 + a / 2 ^ 32 % 32))) (Page.MEM k) 0)
  else (false, s)

/-- A read of `n` bytes of device memory by any requester: each 32-byte word in error counts and is recorded (R455). -/
def noteRead (s : State) (a n : Nat) : State :=
  (List.range (ceilDiv (a % 32 + n) 32)).foldl (fun s i => (readWord32 s (a / 32 * 32 + 32 * i) .ok).2) s

/-- First byte of host memory in the device address map (R374). -/
def hostBase : Nat := 2 ^ 63

/-- Write bytes through the device address map (R374): device memory, host memory while bus mastering is enabled; a write
anywhere else is refused. -/
def devWrite (s : State) (a : Nat) (bs : List Byte) : State :=
  if a < memBytes then memWrite s a bs
  else if hostBase ≤ a ∧ s.pcie.cfg.busMaster then
    { s with hostMem := Store.setList memDefault s.hostMem (a - hostBase) bs }
  else s

/-- May an address be accessed at all (R374). -/
def devAccessible (s : State) (a : Nat) : Bool :=
  decide (a < memBytes) || (decide (hostBase ≤ a) && s.pcie.cfg.busMaster)

/-- Bytes read through the device address map: device memory is the model's; the answer of host memory is what the command
brings; an address that may not be accessed reads as zeros. -/
def devRead (s : State) (a n : Nat) (hd : List Byte) : List Byte :=
  if a < memBytes then memRead s a n
  else if hostBase ≤ a ∧ s.pcie.cfg.busMaster then padTo n hd
  else List.replicate n 0

/-- A completion of a read of host memory at `a` with UR, CA or poisoned data (R391). -/
def noteHostErr (s : State) (a : Nat) : State :=
  if hostBase ≤ a then raiseE (bump s Reg.GBL.HOST_CPL_ERR) Page.GBL 2 else s

/-- A read through the device address map notes what it meets in device memory (R455). -/
def noteDevRead (s : State) (a n : Nat) : State := if a + n ≤ memBytes then noteRead s a n else s

/-! ### On-chip SRAM (R321) -/

/-- An SRAM word met in error: corrected words count in FLT_SRAM_CORR; an uncorrectable one in FLT_SRAM_UNCORR, the first of
them in FLT_LAST, and the TWN cause SRAM_UNCORR. -/
def noteUpset (s : State) (u : Upset) : State :=
  if u.uncorr then
    let s := bump s Reg.TWN.FLT_SRAM_UNCORR
    let s := if rdB s Reg.TWN.FLT_LAST 31 then s
      else wr s Reg.TWN.FLT_LAST (w32 (2 ^ 31 + (u.struct % 16 + 256 * (u.word % 2 ^ 20))))
    raiseE s Page.TWN 7
  else bump s Reg.TWN.FLT_SRAM_CORR

/-- All words of R321's structures met in error in a step; the groundsheet store follows R196. -/
def noteUpsets (s : State) (us : List Upset) : State := (us.filter fun u => decide (u.struct < 8)).foldl noteUpset s

/-- An uncorrectable word of a structure among those met. -/
def lostIn (us : List Upset) (struct : Nat) : Bool := us.any fun u => u.uncorr && u.struct == struct

/-- An uncorrectable word of a structure among those met that belongs to an item. -/
def lostItem (us : List Upset) (struct item : Nat) : Bool :=
  us.any fun u => u.uncorr && u.struct == struct && u.item == item

/-! ### Policers (R268) -/

/-- A policer's verdict. -/
inductive Colour where
  | green | yellow | red
  deriving DecidableEq, Repr

/-- What a bucket gains in `dt` clocks of `hz` at `bps` bits per second, in 2^-16 byte; where the exact gain is no multiple of
2^-16 byte the manual does not say how it rounds, and a free bit decides (log entry 9). -/
def bucketGain (up : Bool) (bps dt hz : Nat) : Nat :=
  let num := bps * dt * 65536
  let den := 8 * hz
  if num % den = 0 then num / den else num / den + up.toNat

/-- Judge a packet of `len` bytes: rates in bit/s, sizes in bytes, at clock `now` of the owning block's clock of `hz`; none is a full
policer. -/
def police (up : Bool) (b : Option Bucket) (cir pir cbs pbs len now hz : Nat) : Colour × Option Bucket :=
  let full : Bucket := ⟨cbs * 65536, pbs * 65536, now⟩
  let b := b.getD full
  let dt := now - b.at_
  let tc := min (cbs * 65536) (b.tc + bucketGain up cir dt hz)
  let tp := min (pbs * 65536) (b.tp + bucketGain up (max pir cir) dt hz)
  let l := len * 65536
  if tp < l then (.red, some ⟨tc, tp, now⟩)
  else if tc < l then (.yellow, some ⟨tc, tp - l, now⟩)
  else (.green, some ⟨tc - l, tp - l, now⟩)

/-! ### Small list operations -/

/-- Replace the first entry that satisfies `p`. -/
def replaceFirst {α : Type} (p : α → Bool) (f : α → α) : List α → List α
  | [] => []
  | x :: xs => if p x then f x :: xs else x :: replaceFirst p f xs

/-- Insert before the first entry not smaller under `lt`. -/
def insertBy {α : Type} (lt : α → α → Bool) (x : α) : List α → List α
  | [] => [x]
  | y :: ys => if lt x y then x :: y :: ys else y :: insertBy lt x ys

/-- Sort by insertion. -/
def sortBy {α : Type} (lt : α → α → Bool) (l : List α) : List α := l.foldr (insertBy lt) []

end Sys2Proof.Machine
end

