-- ==== Sys2Proof/Machine/Phase.lean ====
section
/-! DEFINITION. The phase grid (R22, R291 to R294), and the instants of a phase slot from its sampled parameters (R72, R183, R98,
R208). Slot starts are in ns of the counter, band instants in ps. -/

namespace Sys2Proof.Machine

/-- Rates of R291: numerator, denominator, PERIOD_NS, and the largest N of R22. -/
def rateTable : List (Nat × Nat × Nat × Nat) :=
  [(24000, 1001, 41708333, 8), (24, 1, 41666667, 8), (25, 1, 40000000, 8), (30000, 1001, 33366667, 8),
   (30, 1, 33333333, 8), (48000, 1001, 20854167, 8), (48, 1, 20833333, 8), (50, 1, 20000000, 8),
   (60000, 1001, 16683333, 8), (60, 1, 16666667, 8), (100, 1, 10000000, 4), (120000, 1001, 8341667, 4),
   (120, 1, 8333333, 4)]

/-- The parameters of a grid: rate, PERIOD_NS, N, the largest N, EQUAL, frame offset in ns, phase offsets in ns. -/
structure GridP where
  num    : Nat
  den    : Nat
  period : Nat
  nmax   : Nat
  nph    : Nat
  equal  : Bool
  fofs   : Int
  pofs   : List Nat
  deriving DecidableEq, Repr

/-- The grid of PH_RATE with given offsets; none where RATE is reserved (R291). -/
def gridOf (rate : Word) (fofs : Word) (pofs : List Word) : Option GridP :=
  (rateTable[fld rate 3 0]?).map fun r =>
    ⟨r.1, r.2.1, r.2.2.1, r.2.2.2, fld rate 11 8, bit rate 12, toSigned 32 fofs.toNat, pofs.map (·.toNat)⟩

/-- The grid of the registers. -/
def curGrid (s : State) : Option GridP :=
  gridOf (rd s Reg.TIM.PH_RATE) (rd s Reg.TIM.FRAME_OFS) ((List.range 8).map fun i => rd s (Reg.TIM.PH_OFS i))

/-- The grid that frame `k` uses: a pending offset change from its frame on (R294). -/
def gridAt (s : State) (k : Nat) : Option GridP :=
  match s.grid.pend with
  | some o => if o.frame ≤ k then gridOf (rd s Reg.TIM.PH_RATE) o.fofs o.ofs else curGrid s
  | none => curGrid s

/-- Alignment instant A(k) in ns (R292). -/
def GridP.align (g : GridP) (k : Nat) : Nat := k * g.den * 1000000000 / g.num

/-- Offset Pn in ns (R292). -/
def GridP.offset (g : GridP) (n : Nat) : Nat :=
  if g.equal then n * g.den * 1000000000 / (g.num * g.nph) else g.pofs.getD n 0

/-- Slot start S(k, n) in ns (R292). -/
def GridP.start (g : GridP) (k n : Nat) : Int := (g.align k : Int) + g.fofs + g.offset n

/-- Length of slot `n`, the last one with A(k + 1) − A(k) taken as its floor (R292). -/
def GridP.slot (g : GridP) (n : Nat) : Int :=
  if n + 1 < g.nph then (g.offset (n + 1) : Int) - g.offset n
  else ((g.den * 1000000000 / g.num : Nat) : Int) + g.offset 0 - g.offset n

/-- The shortest slot, SLOT_MIN (R292). -/
def GridP.slotMin (g : GridP) : Int := ((List.range g.nph).map g.slot).foldl min (g.slot 0)

/-- Offsets ascend within a period (R292, EQUAL = 0). -/
def GridP.ascending (g : GridP) : Bool :=
  g.equal || ((List.range (g.nph - 1)).all fun n => decide (g.offset n < g.offset (n + 1))) &&
    decide (g.offset (g.nph - 1) < g.offset 0 + g.period)

/-- Cause 2 of R297: N of 0, above R22's largest, or N × f above 480. -/
def GridP.badCount (g : GridP) : Bool :=
  g.nph == 0 || decide (g.nmax < g.nph) || decide (480 * g.den < g.nph * g.num)

/-- The first cause of R297 among 2 to 4 that a grid meets; none: it is valid under R291 and R292. -/
def gridFault (g : Option GridP) : Option Nat :=
  match g with
  | none => some 2
  | some g =>
    if g.badCount then some 2
    else if !g.ascending || decide (g.slotMin < 2083333) then some 3
    else if decide ((g.period : Int) ≤ g.fofs.natAbs) then some 4
    else none

/-- SLOT_MIN of the registers in ns; 0 where RATE or N gives no slot. -/
def slotMin (s : State) : Nat :=
  match curGrid s with
  | some g => if g.nph = 0 then 0 else g.slotMin.toNat
  | none => 0

/-- Phase count NPH as the register holds it. -/
def nph (s : State) : Nat := rdF s Reg.TIM.PH_RATE 11 8

/-- Slot start in ns, 0 where the rate is reserved. -/
def slotStart (s : State) (k n : Nat) : Int :=
  match gridAt s k with
  | some g => g.start k n
  | none => 0

/-- The slot after (k, n). -/
def nextSlot (s : State) (k n : Nat) : Nat × Nat := if n + 1 < nph s then (k, n + 1) else (k + 1, 0)

/-- The slot before (k, n). -/
def prevSlot (s : State) (k n : Nat) : Nat × Nat := if n = 0 then (k - 1, nph s - 1) else (k, n - 1)

/-- Start of the slot after (k, n): the display instant of the phase (R292). -/
def slotStop (s : State) (k n : Nat) : Int := let x := nextSlot s k n; slotStart s x.1 x.2

/-- The first frame whose S(k, 0) is at or after `t` ns (R293, R280). -/
def firstFrame (g : GridP) (t : Nat) : Nat :=
  let u := ((t : Int) - g.fofs - g.offset 0).toNat
  ceilDiv (u * g.num) (g.den * 1000000000)

/-- The counter in ns, rounded up. -/
def nowNsUp (s : State) : Nat := ceilDiv s.time.count (2 ^ 32)

/-- The first frame whose S(k, 0) is at or after `t` ns on the grid that each frame uses (R280, R293, R294): a frame before a pending
offset change by the old offsets, else by the new. -/
def firstSlotFrame (s : State) (g : GridP) (t : Nat) : Nat :=
  let k := firstFrame g t
  match s.grid.pend with
  | some o =>
    if k < o.frame then k
    else match gridAt s o.frame with
      | some h => max o.frame (firstFrame h t)
      | none => k
  | none => k

/-- The first whole multiple of `us` µs after `t` ns. -/
def nextMultiple (t us : Nat) : Nat := (t / (us * 1000) + 1) * (us * 1000)

/-- A slot has been published (R293). -/
def issuing (s : State) : Bool := s.grid.next.isSome

/-- 50 ms in ns. -/
def ms50 : Nat := 50000000

/-- PSEQ of a slot (R292). -/
def pseq (k n : Nat) : Nat := (k % 2 ^ 29) * 8 + n % 8

/-- PSEQ of the slot in progress; 0 while PH_RUN = 0 (R296). -/
def pseqNow (s : State) : Nat :=
  if rdB s Reg.TIM.TIM_STATUS 1 then match s.grid.cur with | some x => pseq x.1 x.2 | none => 0 else 0

/-- Slot (k, n) is published or in progress. -/
def slotKnown (s : State) (k n : Nat) : Bool :=
  s.grid.next == some (k, n) || s.grid.cur == some (k, n)

/-- Latch lead of a slot in µs as sampled (R72); as LATCH_LEAD stands where no sample is held. -/
def leadOf (s : State) (k n : Nat) : Nat :=
  match s.grid.leads.find? fun e => e.1 == k && e.2.1 == n with
  | some e => e.2.2
  | none => rdN s Reg.LYR.LATCH_LEAD

/-- Latch point TL of a slot in ps (R72). -/
def latchAt (s : State) (k n : Nat) : Int := (slotStart s k n - 1000 * (leadOf s k n : Int)) * 1000

/-- Band slots of the output ring (R186). -/
def ringSlots (wc : Nat) : Nat := min 18 (131072 / wc)

/-! ### Latched states (R76) -/

/-- A layer that is absent from a phase. -/
def Latched.absent : Latched := ⟨0, 0, []⟩

/-- Latched state of layer `l` in phase `n`. -/
def latched (s : State) (n l : Nat) : Latched := Store.get (fun _ => Latched.absent) s.lyr.latched (128 * n + l)

/-- VISIBLE of a latched state. -/
def Latched.visible (x : Latched) : Bool := bit x.w0 0

/-- BUF of a latched state. -/
def Latched.buf (x : Latched) : Nat := fld x.w0 6 4

/-- Visible layers of phase `n`. -/
def visibleLayers (s : State) (n : Nat) : List (Nat × Latched) :=
  ((List.range 128).map fun l => (l, latched s n l)).filter fun e => e.2.visible

/-! ### The context of a slot -/

/-- The parameters of slot (k, n) as the registers stand (R185, R126, R156); calibration values are taken at X(n) (R169). -/
def newCtx (s : State) (k n : Nat) : PhaseCtx where
  k := k
  n := n
  start := slotStart s k n
  stop := slotStop s k n
  ts := rdN s (Reg.DLS.PH_TS n)
  wc := 16 * rdF s Reg.DLS.CANVAS 10 0
  bands := rdF s Reg.DLS.CANVAS 26 16
  lead := min (rdF s Reg.DLS.DLS_CTRL 12 8) (ringSlots (16 * rdF s Reg.DLS.CANVAS 10 0) - 2)
  hand := rdF s Reg.DLS.DLS_CTRL 25 16
  ahead := rdF s Reg.SPB.FETCH_AHEAD 3 0
  postSel := rd s Reg.CLR.POST_SEL
  phOut := rd s (Reg.CLR.PH_OUT n)
  coefSel := rd s (Reg.SC.COEF_SEL 0)
  bypass := rdB s (Reg.SC.POOL_CTRL 0) 0
  layers := visibleLayers s n
  scalers := []
  lost := []
  handed := false
  xDone := false
  bank := s.spb.active
  stale := false
  calEn := rdB s Reg.CAL.CAL_CTRL 0
  defPack := rdF s Reg.CAL.CAL_CTRL 3 2
  primary := rdF s Reg.CAL.CAL_CTRL 4 4
  sel := rd64 s Reg.CAL.SEL_ACTIVE_LO Reg.CAL.SEL_ACTIVE_HI
  packs := (List.range 16).map fun j => rd s (Reg.CAL.CHAIN_PACK j)
  base0 := rd64 s Reg.CAL.COPY0_BASE_LO Reg.CAL.COPY0_BASE_HI
  base1 := rd64 s Reg.CAL.COPY1_BASE_LO Reg.CAL.COPY1_BASE_HI
  place := []
  released := 0
  groups := 0
  parity := false

/-- The context of slot (k, n), if its latch has been taken. -/
def findCtx (s : State) (k n : Nat) : Option PhaseCtx := s.dls.ctxs.find? fun c => c.k == k && c.n == n

/-- The context of slot (k, n); from the registers where its latch has not been taken (log entry 11). -/
def ctxOf (s : State) (k n : Nat) : PhaseCtx := (findCtx s k n).getD (newCtx s k n)

/-- What phase `n` sampled at its previous latch since device reset (R388). -/
def prevLatch (s : State) (n : Nat) : Option PhaseCtx := Store.get (fun _ => none) s.dls.prev n

/-- What phase `n` sampled at its previous span boundary since device reset (R388). -/
def prevBound (s : State) (n : Nat) : Option PhaseCtx := Store.get (fun _ => none) s.dls.prev (8 + n)

/-- Keep a context as the previous latch's (key n) or the previous boundary's (key 8 + n). -/
def notePrev (s : State) (key : Nat) (c : PhaseCtx) : State :=
  { s with dls := { s.dls with prev := Store.set (fun _ => none) s.dls.prev key (some c) } }

/-- The latch of the next slot falls in the present clock and has not been taken. -/
def latchDue (s : State) : Bool :=
  match s.grid.next with
  | some (k, n) =>
    (findCtx s k n).isNone && reached s (latchAt s k n) && decide ((nowPs s : Int) < latchAt s k n + 2000)
  | none => false

/-- Replace the context of a slot. -/
def setCtx (s : State) (c : PhaseCtx) : State :=
  { s with dls := { s.dls with ctxs := replaceFirst (fun x => x.k == c.k && x.n == c.n) (fun _ => c) s.dls.ctxs } }

/-- Put a new context at the head, keeping the two newest older ones of every phase. -/
def pushCtx (s : State) (c : PhaseCtx) : State :=
  let keep (x : PhaseCtx) : Bool := !(x.k == c.k && x.n == c.n) && !(x.n == c.n && decide (x.k + 2 < c.k))
  { s with dls := { s.dls with ctxs := c :: s.dls.ctxs.filter keep } }

/-- Egress instant E(n, b) in ps (R183). -/
def PhaseCtx.egress (c : PhaseCtx) (b : Nat) : Int := c.start * 1000 + b * c.ts

/-- Start of composition C(n, b) in ps; `b` may be negative for X(n) (R183, R184). -/
def PhaseCtx.begin_ (c : PhaseCtx) (b : Int) : Int := c.start * 1000 + (b - c.lead) * c.ts

/-- Span boundary X(n) = C(n, −FETCH_AHEAD) in ps (R98). -/
def PhaseCtx.boundary (c : PhaseCtx) : Int := c.begin_ (-(c.ahead : Int))

/-- Band deadline DL(n, b) in ps (R183). -/
def PhaseCtx.deadline (c : PhaseCtx) (b : Nat) : Int := c.egress b - 800 * c.hand

/-- Release of the ring slot F(n, b) in ps (R183). -/
def PhaseCtx.release (c : PhaseCtx) (b : Nat) : Int := c.egress b + 2 * c.ts

/-- Window close WC(n) in ps (R208). -/
def PhaseCtx.close (c : PhaseCtx) : Int := c.start * 1000 + c.bands * c.ts

/-- Packing code of a chain for the phase (R169, R181). -/
def PhaseCtx.pack (c : PhaseCtx) (chain : Nat) : Nat :=
  if c.calEn then nfld ((c.packs.getD (chain / 16) 0).toNat) (2 * (chain % 16) + 1) (2 * (chain % 16)) else c.defPack

/-- Band time in CORE clocks (R187). -/
def bandClocks (wc : Nat) : Nat := 256 * ceilDiv wc 1024

end Sys2Proof.Machine
end

