-- ==== Sys2Proof/Machine/Operands.lean ====
section
/-! DEFINITION. Operand forms: surface formats (R33, R34, R117), ingest stream entries (R39, R55), layer descriptors (R62), and the
geometry of a placed layer (R90, R119 to R123, R128 to R131). -/

namespace Sys2Proof.Machine

/-! ### Surface formats (R34) -/

/-- Pixels and bytes of a format's unit; none for a reserved code. -/
def fmtUnit (f : Nat) : Option (Nat × Nat) :=
  match f with
  | 0 => some (1, 4) | 1 => some (1, 4) | 2 => some (1, 8) | 3 => some (1, 8) | 4 => some (1, 8) | 5 => some (1, 4)
  | 6 => some (8, 20) | 7 => some (2, 8) | 8 => some (2, 4) | _ => none

/-- Pixels of a unit, 1 for a reserved code. -/
def unitPx (f : Nat) : Nat := match fmtUnit f with | some u => u.1 | none => 1

/-- Bytes of a unit, 0 for a reserved code. -/
def unitBytes (f : Nat) : Nat := match fmtUnit f with | some u => u.2 | none => 0

/-- A 4:2:2 format. -/
def fmt422 (f : Nat) : Bool := f == 6 || f == 7 || f == 8

/-- A YCbCr format: read as opaque. -/
def fmtYcc (f : Nat) : Bool := f == 5 || fmt422 f

/-- offset(x). -/
def pxOffset (f x : Nat) : Nat := unitBytes f * (x / unitPx f)

/-- Row size of `w` pixels. -/
def rowBytes (f w : Nat) : Nat := ceilDiv w (unitPx f) * unitBytes f

/-- Bits [lo + n − 1:lo] of the little-endian value at byte `off` of a row, n at most 16. -/
def rowBits (row : Nat → Byte) (off lo n : Nat) : Nat :=
  let o := off + lo / 8
  ((row o).toNat + 256 * (row (o + 1)).toNat + 65536 * (row (o + 2)).toNat) / 2 ^ (lo % 8) % 2 ^ n

/-- Channel `c` of pixel `x` and its width: R, G, B, A or Y, Cb, Cr; alpha of a YCbCr format reads as nothing. -/
def rawChan (f : Nat) (row : Nat → Byte) (x c : Nat) : Nat × Nat :=
  let o := pxOffset f x
  let pair (y : Nat) : Nat := if c = 0 then (if y % 2 = 0 then 1 else 3) else if c = 1 then 0 else 2
  match f with
  | 0 => (rowBits row o (8 * c) 8, 8)
  | 1 => if c = 3 then (rowBits row o 30 2, 2) else (rowBits row o (10 * c) 10, 10)
  | 2 => (rowBits row o (16 * c + 4) 12, 12)
  | 3 => (rowBits row o (16 * c) 16, 16)
  | 4 => (rowBits row o (16 * c) 16, 16)
  | 5 => (rowBits row o (if c = 0 then 10 else if c = 1 then 0 else 20) 10, 10)
  | 6 => (rowBits row o (10 * (4 * (x % 8 / 2) + pair x)) 10, 10)
  | 7 => (rowBits row o (16 * pair x + 4) 12, 12)
  | _ => (rowBits row o (8 * pair x) 8, 8)

/-- Widening to 16 bits by bit replication (R117). -/
def widen (n v : Nat) : Nat := if n = 2 then v * 0x5555 else if n = 16 then v else v * 2 ^ (16 - n) + v / 2 ^ (2 * n - 16)

/-- Divide, rounding to nearest, ties to even. -/
def divEven (a b : Nat) : Nat :=
  let q := a / b
  let r := a % b
  if 2 * r < b then q else if b < 2 * r then q + 1 else if q % 2 = 0 then q else q + 1

/-- A binary16 value as S5.16 (R117): 1.0 is 0x1_0000. -/
def halfToS516 (h : Nat) : Int :=
  let e := h / 1024 % 32
  let m := h % 1024
  let mag : Nat :=
    if e = 31 then (if m = 0 then 16 * 65536 else 0)
    else if e = 0 then divEven m 256
    else if 9 ≤ e then (1024 + m) * 2 ^ (e - 9) else divEven (1024 + m) (2 ^ (9 - e))
  if h / 32768 = 1 then -(min mag (16 * 65536) : Int) else min mag (16 * 65536 - 1)

/-- Full scale of alpha and of 1.0 in a format (R117). -/
def fullScale (f : Nat) : Int := if f = 4 then 0x10000 else 0xFFFF

/-- A working sample from its raw value (R117). -/
def unpackChan (f : Nat) (v : Nat × Nat) : Int := if f = 4 then halfToS516 v.1 else widen v.2 v.1

/-! ### Surfaces -/

/-- A surface: format, base, stride, width, height. -/
structure Surf where
  fmt    : Nat
  base   : Nat
  stride : Nat
  w      : Nat
  h      : Nat
  deriving DecidableEq, Repr

/-- One channel of a surface pixel as a working sample, alpha included (R117, R118); coordinates are held to the surface. -/
def Surf.sample (src : Surf) (bytes : Nat → Byte) (noAlpha : Bool) (x y : Int) (c : Nat) : Int :=
  let f := src.fmt
  let cx := (clampI 0 ((src.w : Int) - 1) x).toNat
  let cy := (clampI 0 ((src.h : Int) - 1) y).toNat
  let row (o : Nat) : Byte := bytes (src.base + cy * src.stride + o)
  let chroma (k : Int) : Int := unpackChan f (rawChan f row (2 * (clampI 0 ((src.w : Int) / 2 - 1) k).toNat) c)
  if c = 3 then (if noAlpha || fmtYcc f then fullScale f else unpackChan f (rawChan f row cx 3))
  else if fmt422 f && decide (1 ≤ c) then
    let k : Int := ((cx / 2 : Nat) : Int)
    if cx % 2 = 0 then chroma k
    else clampI 0 0xFFFF ((-chroma (k - 1) + 9 * chroma k + 9 * chroma (k + 1) - chroma (k + 2) + 8) / 16)
  else unpackChan f (rawChan f row cx c)

/-- A normalised sample N(s) of the integer formats (R141). -/
def normalise (f : Nat) (v : Int) : Int := if f = 4 then v else v + v / 32768

/-! ### Ingest streams (R39, R55) -/

/-- Reset words of the stream table: RING_DEPTH 2, CLOSE_WIN 1000. -/
def igsDefault (k : Nat) : Word := if k % 16 = 0 then 0x02000000 else if k % 16 = 12 then 1000 else 0

/-- Configuration word `w` of stream `i`. -/
def igsCfg (s : State) (i w : Nat) : Word := Store.get igsDefault s.ing.cfg (16 * i + w)

/-- Surface format of a sampling and depth (R39); none where the combination is refused. -/
def streamFormat (sampling depth : Nat) : Option Nat :=
  match sampling, depth with
  | 0, 0 => some 0 | 0, 1 => some 1 | 0, 2 => some 2 | 0, 3 => some 3
  | 1, 0 => some 5 | 1, 1 => some 5
  | 2, 0 => some 8 | 2, 1 => some 6 | 2, 2 => some 7
  | _, _ => none

/-- The format of stream `i`. -/
def streamFmt (s : State) (i : Nat) : Option Nat :=
  streamFormat (fld (igsCfg s i 0) 19 16) (fld (igsCfg s i 0) 22 20)

/-- Address of buffer `j` of stream `i`. -/
def streamBase (s : State) (i j : Nat) : Nat :=
  fld (igsCfg s i 9) 4 0 * 2 ^ 32 + fld (igsCfg s i 8) 31 12 * 4096 + j * fld (igsCfg s i 10) 23 0 * 4096

/-- The surface of a stream's buffer; format 16, which no surface has, where R39 refuses its combination. -/
def streamSurf (s : State) (i j : Nat) : Surf :=
  ⟨(streamFmt s i).getD 16, streamBase s i j, fld (igsCfg s i 11) 20 0, fld (igsCfg s i 1) 14 0, fld (igsCfg s i 1) 30 16⟩

/-- A surface meets R33: base, stride and size. -/
def surfOk (x : Surf) : Bool :=
  (fmtUnit x.fmt).isSome && decide (1 ≤ x.w) && decide (x.w ≤ 32768) && decide (1 ≤ x.h) && decide (x.h ≤ 32768) &&
    x.stride % 256 == 0 && decide (rowBytes x.fmt x.w ≤ x.stride) && decide (x.stride ≤ 0x100000 - 256) &&
    x.base % 4096 == 0 && decide (x.base < memBytes) &&
    (!fmt422 x.fmt || x.w % 2 == 0)

/-- Bytes that a group of received samples stores, and the pixels it covers: one pixel of an RGB or 4:4:4 format, a pair of a
4:2:2 format (R34, R39). -/
def storeGroup (f depth : Nat) (v : List Nat) : List Byte :=
  let n := if depth = 0 then 8 else if depth = 1 then 10 else if depth = 2 then 12 else 16
  let x (i : Nat) : Nat := v.getD i 0 % 2 ^ n
  match f with
  | 0 => leBytes 4 (x 0 + x 1 * 2 ^ 8 + x 2 * 2 ^ 16 + 0xFF * 2 ^ 24)
  | 1 => leBytes 4 (x 0 + x 1 * 2 ^ 10 + x 2 * 2 ^ 20 + 3 * 2 ^ 30)
  | 2 => leBytes 8 (x 0 * 2 ^ 4 + x 1 * 2 ^ 20 + x 2 * 2 ^ 36 + 0xFFF * 2 ^ 52)
  | 3 => leBytes 8 (x 0 + x 1 * 2 ^ 16 + x 2 * 2 ^ 32 + 0xFFFF * 2 ^ 48)
  | 5 =>
    let u := if depth = 0 then 4 else 1
    leBytes 4 (x 0 * u + x 1 * u * 2 ^ 10 + x 2 * u * 2 ^ 20)
  | 6 => leBytes 5 (x 0 + x 1 * 2 ^ 10 + x 2 * 2 ^ 20 + x 3 * 2 ^ 30)
  | 7 => leBytes 8 (x 0 * 2 ^ 4 + x 1 * 2 ^ 20 + x 2 * 2 ^ 36 + x 3 * 2 ^ 52)
  | _ => leBytes 4 (x 0 + x 1 * 2 ^ 8 + x 2 * 2 ^ 16 + x 3 * 2 ^ 24)

/-- Samples and pixels of a group. -/
def groupSize (f : Nat) : Nat × Nat := if fmt422 f then (4, 2) else (3, 1)

/-- Cut a list into pieces of `n`, dropping an incomplete last one. -/
def chunks {α : Type} (n : Nat) : Nat → List α → List (List α)
  | 0, _ => []
  | fuel + 1, l => if l.length < n ∨ n = 0 then [] else l.take n :: chunks n fuel (l.drop n)

/-- The bytes of a group at pixel `x` of a row `w` pixels wide, with their offset in the row. Samples at or beyond the width are
not written but as the zeros that R34 gives the rest of the row's last unit. -/
def groupCells (f depth w x : Nat) (v : List Nat) : List (Nat × Byte) :=
  if w ≤ x then []
  else
    let g := groupSize f
    let gb := (storeGroup f depth v).length
    let o := gb * (x / g.2)
    let body := (storeGroup f depth v).zipIdx.map fun e => (o + e.2, e.1)
    let tail := if w ≤ x + g.2 then
        (List.range (rowBytes f w - (o + gb))).map fun i => (o + gb + i, (0 : Byte))
      else []
    body ++ tail

/-- The addressed bytes of a row data segment (R38, R40). -/
def segCells (x : Surf) (depth : Nat) (g : Seg) : List (Nat × Byte) :=
  if x.h ≤ g.row then []
  else
    let q := groupSize x.fmt
    let groups := chunks q.1 g.samples.length g.samples
    (groups.zipIdx.flatMap fun e => groupCells x.fmt depth x.w (g.offset + q.2 * e.2) e.1).map fun c =>
      (x.base + g.row * x.stride + c.1, c.2)

/-! ### Layer descriptors (R62) -/

/-- Word `i` of a descriptor. -/
def dw (d : List Word) (i : Nat) : Word := d.getD i 0

/-- Staged descriptor of layer `l`. -/
def stagedDesc (s : State) (l : Nat) : List Word := Store.slice zeroW s.lyr.staged (32 * l) 32

/-- Active descriptor of layer `l`. -/
def activeDesc (s : State) (l : Nat) : List Word := Store.slice zeroW s.lyr.active (32 * l) 32

abbrev dEn (d : List Word) : Bool := bit (dw d 0) 0
abbrev dAwning (d : List Word) : Bool := bit (dw d 0) 1
abbrev dAwnId (d : List Word) : Nat := fld (dw d 0) 4 2
abbrev dMask (d : List Word) : Nat := fld (dw d 0) 15 8
abbrev dGroup (d : List Word) : Nat := fld (dw d 0) 20 16
abbrev dPolicy (d : List Word) : Nat := fld (dw d 0) 25 24
abbrev dNewOnly (d : List Word) : Bool := bit (dw d 0) 26
abbrev dAcceptInc (d : List Word) : Bool := bit (dw d 0) 27
abbrev dZ (d : List Word) : Nat := fld (dw d 1) 7 0
abbrev dBlend (d : List Word) : Nat := fld (dw d 1) 11 8
abbrev dPremul (d : List Word) : Bool := bit (dw d 1) 12
abbrev dNarrow (d : List Word) : Bool := bit (dw d 1) 13
abbrev dIgnoreA (d : List Word) : Bool := bit (dw d 1) 14
abbrev dClipEn (d : List Word) : Bool := bit (dw d 1) 15
abbrev dPreLut (d : List Word) : Nat := fld (dw d 1) 20 16
abbrev dPreLutEn (d : List Word) : Bool := bit (dw d 1) 21
abbrev dCscEn (d : List Word) : Bool := bit (dw d 1) 22
abbrev dOpaque (d : List Word) : Bool := bit (dw d 1) 23
abbrev dKind (d : List Word) : Bool := bit (dw d 2) 0
abbrev dStream (d : List Word) : Nat := fld (dw d 2) 13 8
abbrev dAlpha (d : List Word) : Nat := fld (dw d 15) 15 0
abbrev dTag (d : List Word) : Word := dw d 23

/-- Does a layer belong to the layer set of phase `n` (R66). -/
def dIn (d : List Word) (n : Nat) : Bool := dEn d && (dMask d).testBit n

/-- CSC halfword `j`, S3.13 (R62). -/
def dCsc (d : List Word) (j : Nat) : Int :=
  toSigned 16 (fld (dw d (16 + j / 2)) (16 * (j % 2) + 15) (16 * (j % 2)))

/-- The placement that the descriptor gives: X, Y, W, H in 1/16 px. -/
def dPlace (d : List Word) : Int × Int × Nat × Nat :=
  (toSigned 32 (dw d 9).toNat, toSigned 32 (dw d 10).toNat, (dw d 11).toNat, (dw d 12).toNat)

/-- The surface a layer reads: its own, or buffer `j` of its stream. -/
def dSurf (s : State) (d : List Word) (j : Nat) : Surf :=
  if dKind d then streamSurf s (dStream d) j
  else ⟨fld (dw d 2) 19 16, fld (dw d 4) 4 0 * 2 ^ 32 + fld (dw d 3) 31 12 * 4096, fld (dw d 5) 20 0,
    fld (dw d 6) 15 0, fld (dw d 6) 31 16⟩

/-- The source identity of a layer (R65). -/
def dIdentity (d : List Word) : Nat × List Nat :=
  if dKind d then (1, [dStream d])
  else (0, [fld (dw d 2) 19 16, fld (dw d 3) 31 12, fld (dw d 4) 4 0, fld (dw d 5) 20 0, (dw d 6).toNat])

/-! ### The geometry of a placed layer -/

/-- A layer's geometry: source, crop, destination in 1/16 px, edge mode in effect, clip in px, decimation, steps, decimated size,
bypass, and its stripes (own first, own end, read first, read last), none where R119 or R129 is broken. -/
structure Geom where
  src     : Surf
  cx      : Nat
  cy      : Nat
  cw      : Nat
  ch      : Nat
  dx      : Int
  dy      : Int
  dw      : Nat
  dh      : Nat
  edge    : Nat
  clip    : Option (Nat × Nat × Nat × Nat)
  decH    : Nat
  decV    : Nat
  stepH   : Nat
  stepV   : Nat
  wd      : Nat
  hd      : Nat
  bypass  : Bool
  stripes : Option (List (Nat × Nat × Int × Int))
  deriving DecidableEq, Repr

/-- The quotient rounded to nearest, halves away from zero (R82). -/
def rnd (a : Int) (b : Nat) : Int :=
  if b = 0 then 0
  else if a < 0 then -(((2 * a.natAbs + b) / (2 * b) : Nat) : Int) else (((2 * a.natAbs + b) / (2 * b) : Nat) : Int)

/-- The decimation factor of an axis; none where the ratio is outside 1/64 to 32 (R119). -/
def decimation (crop dst : Nat) : Option Nat :=
  if dst = 0 ∨ 16 * crop * 64 < dst ∨ 32 * dst < 16 * crop then none
  else if 16 * crop ≤ 8 * dst then some 1 else if 16 * crop ≤ 16 * dst then some 2 else some 4

/-- Read ranges of `n` stripes (R130): cut at `lo` and `hi` at the outer edges. -/
def stripeRanges (wd n : Nat) (lo hi : Int) : List (Nat × Nat × Int × Int) :=
  (List.range n).map fun j =>
    let b0 := j * wd / n
    let b1 := (j + 1) * wd / n
    let first : Int := (b0 : Int) - 4
    let last : Int := (b1 : Int) + 3
    (b0, b1, if j = 0 then max first lo else first, if j + 1 = n then min last hi else last)

/-- The stripes of a layer (R129): the fewest, up to four, whose read ranges hold at most 8192 columns. -/
def stripesOf (wd edge cropX dec surfW : Nat) : Option (List (Nat × Nat × Int × Int)) :=
  let area := edge % 2 == 1
  let lo : Int := if area then -((ceilDiv cropX dec : Nat) : Int) else 0
  let hi : Int := if area then (((surfW - 1 - cropX) / dec : Nat) : Int) else (wd : Int) - 1
  ([1, 2, 3, 4].map fun n => stripeRanges wd n lo hi).find? fun l => l.all fun e => decide (e.2.2.2 - e.2.2.1 + 1 ≤ 8192)

/-- Edge mode in effect: an awning's 1 and 3 act as 0 and 2 (R123). -/
def edgeOf (d : List Word) : Nat :=
  let e := fld (dw d 22) 9 8
  if dAwning d && e % 2 == 1 then e - 1 else e

/-- Decimation of a layer's axis: an awning's is fixed from half its descriptor size, and the limits hold at both ends (R120). -/
def axisDec (awn : Bool) (crop dst : Nat) : Option Nat :=
  if awn then
    match decimation crop (max 1 (dst / 2)), decimation crop (2 * dst) with
    | some d, some _ => some d
    | _, _ => none
  else decimation crop dst

/-- The geometry of a descriptor on a surface at a placement, with BYPASS_EN. -/
def geomOf (d : List Word) (src : Surf) (place : Int × Int × Nat × Nat) (bypassEn : Bool) : Geom :=
  let cw := fld (dw d 8) 15 0
  let ch := fld (dw d 8) 31 16
  let cx := fld (dw d 7) 15 0
  let own := dPlace d
  let (x, y, w, h) := place
  let awn := dAwning d
  let edge := edgeOf d
  let dh := axisDec awn cw own.2.2.1
  let dv := axisDec awn ch own.2.2.2
  let bypass := bypassEn && !awn && 16 * cw == w && 16 * ch == h && x % 16 == 0 && y % 16 == 0
  let qh := dh.getD 1
  let qv := dv.getD 1
  let wd := ceilDiv cw qh
  { src := src, cx := cx, cy := fld (dw d 7) 31 16, cw := cw, ch := ch
    dx := x, dy := y, dw := w, dh := h, edge := edge
    clip := if dClipEn d then some (fld (dw d 13) 15 0, fld (dw d 13) 31 16, fld (dw d 14) 15 0, fld (dw d 14) 31 16) else none
    decH := qh, decV := qv
    stepH := (rnd ((16 * cw * 2 ^ 28 : Nat) : Int) (qh * w)).toNat
    stepV := (rnd ((16 * ch * 2 ^ 28 : Nat) : Int) (qv * h)).toNat
    wd := wd, hd := ceilDiv ch qv, bypass := bypass
    stripes :=
      if bypass then some []
      else if dh.isSome && dv.isSome && (fmtUnit src.fmt).isSome then stripesOf wd edge cx qh src.w else none }

/-- Tap origin and filter phase of a canvas coordinate (R121). -/
def tapAt (p : Nat) (d : Int) (step : Nat) : Int × Nat :=
  let u := ((16 * (p : Int) + 8 - d) * step) / 16 - 2 ^ 27 + 2 ^ 21
  (u / 2 ^ 28, ((u / 2 ^ 22) % 64).toNat)

/-- The covered region in 1/16 px, clipped by the clip rectangle and the canvas (R17, R90): x0, x1, y0, y1; none: empty. -/
def Geom.covered (g : Geom) (wc hc : Nat) : Option (Int × Int × Int × Int) :=
  let c := g.clip.getD (0, 0, wc, hc)
  let x0 := max (max g.dx 0) (16 * c.1)
  let y0 := max (max g.dy 0) (16 * c.2.1)
  let x1 := min (min (g.dx + g.dw) (16 * wc)) (16 * c.2.2.1)
  let y1 := min (min (g.dy + g.dh) (16 * hc)) (16 * c.2.2.2)
  if x0 < x1 ∧ y0 < y1 then some (x0, x1, y0, y1) else none

/-- Coverage of a canvas pixel in 1/256 (R123, R128). -/
def Geom.cov (g : Geom) (x y : Nat) : Nat :=
  let inClip := match g.clip with
    | some c => decide (c.1 ≤ x) && decide (x < c.2.2.1) && decide (c.2.1 ≤ y) && decide (y < c.2.2.2)
    | none => true
  let px : Int := 16 * x
  let py : Int := 16 * y
  if !inClip then 0
  else if g.bypass || decide (g.edge < 2) then
    if g.dx ≤ px + 8 ∧ px + 8 < g.dx + g.dw ∧ g.dy ≤ py + 8 ∧ py + 8 < g.dy + g.dh then 256 else 0
  else
    ((min (px + 16) (g.dx + g.dw) - max px g.dx).toNat) * ((min (py + 16) (g.dy + g.dh) - max py g.dy).toNat)

/-! ### What is read for a layer (R102, R136) -/

/-- Source rows that canvas rows `ya` to `yb` need: first and last; first above last where there are none. -/
def Geom.rows (g : Geom) (ya yb : Nat) : Int × Int :=
  if g.bypass then
    let y0 := g.dy / 16
    (g.cy + max 0 ((ya : Int) - y0), g.cy + min ((g.ch : Int) - 1) ((yb : Int) - y0))
  else
    let a := (tapAt ya g.dy g.stepV).1 - 2
    let b := (tapAt yb g.dy g.stepV).1 + 3
    let cut (v : Int) : Int := if g.edge % 2 = 0 then clampI 0 ((g.hd : Int) - 1) v else v
    let top : Int := (g.src.h : Int) - 1
    (clampI 0 top (g.cy + g.decV * cut a), clampI 0 top (g.cy + g.decV * cut b + g.decV - 1))

/-- The 64-byte units of a row, as offsets / 64, that source columns `a` to `b` touch: first and end. -/
def Geom.units (g : Geom) (a b : Int) : Nat × Nat :=
  let top : Int := (g.src.w : Int) - 1
  let a := (clampI 0 top a).toNat
  let b := (clampI 0 top b).toNat
  (pxOffset g.src.fmt a / 64, (pxOffset g.src.fmt b + unitBytes g.src.fmt - 1) / 64 + 1)

/-- Source columns that canvas columns `xa` to `xb` need of stripe `j` among `m`; first above last where there are none. -/
def Geom.stripeCols (g : Geom) (m j : Nat) (e : Nat × Nat × Int × Int) (xa xb : Nat) : Int × Int :=
  let ia := (tapAt xa g.dx g.stepH).1
  let ib := (tapAt xb g.dx g.stepH).1
  let a := if j = 0 then ia else max ia e.1
  let b := if j + 1 = m then ib else min ib ((e.2.1 : Int) - 1)
  if b < a then (1, 0)
  else
    let cut (v : Int) : Int := if g.edge % 2 = 0 then clampI 0 ((g.wd : Int) - 1) v else v
    let k0 := max (cut (a - 3)) e.2.2.1
    let k1 := min (cut (b + 4)) e.2.2.2
    if k1 < k0 then (1, 0) else (g.cx + g.decH * k0, g.cx + g.decH * k1 + g.decH - 1)

/-- Unit ranges of a row that runs of canvas columns need, one list per stripe. -/
def Geom.unitRuns (g : Geom) (runs : List (Nat × Nat)) : List (List (Nat × Nat)) :=
  if g.bypass then
    let x0 := g.dx / 16
    [runs.filterMap fun r =>
      let a := max 0 ((r.1 : Int) - x0)
      let b := min ((g.cw : Int) - 1) ((r.2 : Int) - x0)
      if b < a then none else some (g.units (g.cx + a) (g.cx + b))]
  else
    let st := g.stripes.getD []
    st.zipIdx.map fun e => runs.filterMap fun r =>
      let c := g.stripeCols st.length e.2 e.1 r.1 r.2
      if c.2 < c.1 then none else some (g.units c.1 c.2)

/-- Members of unit ranges, each once, rising. -/
def rangeUnits (rs : List (Nat × Nat)) : List Nat :=
  (rs.flatMap fun r => (List.range (r.2 - r.1)).map (r.1 + ·)).foldl (fun acc u => if acc.contains u then acc else acc ++ [u]) []

/-- Runs of adjacent cell columns as canvas columns, from a rising list. -/
def cellRuns : List Nat → List (Nat × Nat)
  | [] => []
  | c :: cs =>
    match cellRuns cs with
    | (a, b) :: rest => if a = 16 * (c + 1) then (16 * c, b) :: rest else (16 * c, 16 * c + 15) :: (a, b) :: rest
    | [] => [(16 * c, 16 * c + 15)]

end Sys2Proof.Machine
end

