-- ==== Sys2Proof/Machine/Pair.lean ====
section
/-! DEFINITION. What the redundant pair shares with the blocks it mirrors: records sent (R304 to R307), captured operations (R309, R310)
and the matching of fences (R313). -/

namespace Sys2Proof.Machine

/-- The device takes part in a pair (R301). -/
def twnOn (s : State) : Bool := rdB s Reg.TWN.TWN_CTRL 0

/-- ROLE: true for device B. -/
def twnRole (s : State) : Bool := rdB s Reg.TWN.TWN_CTRL 1

/-- STATE (R314): 0 OFF, 1 SEARCH, 2 JOINING, 3 PAIRED, 4 SOLO. -/
def twnState (s : State) : Nat := rdF s Reg.TWN.TWN_STATUS 2 0

/-- ROLE_CLASH (R302). -/
def twnClash (s : State) : Bool := rdB s Reg.TWN.TWN_STATUS 17

/-- MIRROR_DELAY in ns. -/
def mirrorDelay (s : State) : Nat := rdF s Reg.TWN.MIRROR_DELAY 9 0 * 1000

/-- Seconds and nanoseconds of an instant in ns, big-endian, as records carry them. -/
def recTime (ns : Nat) : List Byte := beBytes 6 (ns / 1000000000) ++ beBytes 4 (ns % 1000000000)

/-- The bytes of a record (R306). -/
def recordBytes (s : State) (type rseq e : Nat) (payload : List Byte) : List Byte :=
  beBytes 1 (0x10 + type) ++ beBytes 1 (twnRole s).toNat ++ beBytes 2 (20 + payload.length) ++ beBytes 4 rseq ++ recTime e ++
    [0, 0] ++ payload

/-- The Ethernet frame of a record: destination, MAC_BASE with a last byte of 0, EtherType, the record padded to 46 bytes, FCS (R305). -/
def twinFrame (s : State) (r : List Byte) : List Byte :=
  withFcs ([0x01, 0x4B, 0x57, 0x54, 0x57, 0x4E] ++ beBytes 2 (rdF s Reg.TLG.MAC_BASE_HI 15 0) ++
    beBytes 3 (rdF s Reg.TLG.MAC_BASE_LO 31 8) ++ [0] ++ beBytes 2 (rdF s Reg.TWN.ETHERTYPE 15 0) ++ padTo (max 46 r.length) r)

/-- Send a record on both links (R304). -/
def sendRecord (s : State) (type e : Nat) (payload : List Byte) : State :=
  if !twnOn s then s
  else { s with twn := { s.twn with
    rseq := (s.twn.rseq + 1) % 2 ^ 32, sent := twinFrame s (recordBytes s type s.twn.rseq e payload) } }

/-- Mirrored operations are kept in the order in which they take effect: E, then ORIGIN, then RSEQ (R312). -/
def opBefore (a b : MirPend) : Bool :=
  decide (a.e < b.e) || (a.e == b.e && ((!a.origin && b.origin) || (a.origin == b.origin && decide (a.rseq < b.rseq))))

/-- A mirrored operation joins those that have not taken effect. -/
def addOp (s : State) (o : MirPend) : State := { s with twn := { s.twn with ops := insertBy opBefore o s.twn.ops } }

/-- Send a record of the agreement: a device that has seen a role clash mirrors nothing and takes no part in it (R302). -/
def mirrorRecord (s : State) (type e : Nat) (payload : List Byte) : State :=
  if twnClash s then s else sendRecord s type e payload

/-- Capture an operation and mirror it with its effective instant E (R309, R310). -/
def captureOp (s : State) (type : Nat) (op : MirOp) (payload : List Byte) : State :=
  let e := nowNs s + mirrorDelay s
  let r := s.twn.rseq
  let s := mirrorRecord s type e payload
  addOp s ⟨twnRole s, r, e, op, none, none⟩

/-- Two fences of the pair match (R313). -/
def fencesMatch (s : State) (a b : FenceRec) : Bool :=
  a.stream == b.stream && a.sdi == b.sdi &&
    (if a.sdi then decide (((a.done : Int) - b.done).natAbs ≤ rdF s Reg.TWN.SDI_MATCH 13 0 * 1000) else a.ts == b.ts)

/-- A pair of matched fences becomes pair-ready at the later E, unless the frame is incomplete on either device. -/
def pairFence (s : State) (own peer : FenceRec) : State :=
  let mark (l : List FenceRec) : List FenceRec := replaceFirst (· == own) (fun f => { f with matched := true }) l
  let t := { s.twn with slotF := mark s.twn.slotF }
  let t := if own.inc || peer.inc then t
    else { t with ready := t.ready ++ [(own.stream, own.buf, own.seq, max own.e peer.e)] }
  { s with twn := t }

/-- A matched buffer is pair-ready from its instant on, where it still holds the frame of the match: (stream, buffer, FRAME_SEQ, ns). -/
def makePaired (s : State) (e : Nat × Nat × Nat × Nat) : State :=
  let x := stream s e.1
  let b := x.buf e.2.1
  if b.mode == .fenced && b.seq == e.2.2.1 then setStream s e.1 (x.setBuf e.2.1 { b with pairAt := some e.2.2.2 }) else s

/-- Matches whose pair-ready instant lies at or before `t` ps take effect (R309, R313). -/
def settleReady (s : State) (t : Int) : State :=
  let due (e : Nat × Nat × Nat × Nat) : Bool := decide ((e.2.2.2 : Int) * 1000 ≤ t)
  (s.twn.ready.filter due).foldl makePaired { s with twn := { s.twn with ready := s.twn.ready.filter fun e => !due e } }

/-- Two buffers, the one with the later FRAME_SEQ. -/
def laterBuf (x : Stream) (best : Option Nat) (j : Nat) : Option Nat :=
  match best with
  | some i => if (x.buf i).seq < (x.buf j).seq then some j else best
  | none => some j

/-- The newest buffer of a stream that is pair-ready by `t` ps; at any instant, without one. -/
def newestPaired (x : Stream) (t : Option Int) : Option Nat :=
  let by_ (e : Nat) : Bool := match t with | some t => decide ((e : Int) * 1000 ≤ t) | none => true
  ((List.range 8).filter fun j => (x.buf j).mode == .fenced && (match (x.buf j).pairAt with | some e => by_ e | none => false)).foldl
    (laterBuf x) none

/-- A fence of this device enters the matching. -/
def addOwnFence (s : State) (f : FenceRec) : State :=
  let s := { s with twn := { s.twn with slotF := s.twn.slotF ++ [f] } }
  match s.twn.peerF.find? (fencesMatch s f) with
  | some p => pairFence { s with twn := { s.twn with peerF := s.twn.peerF.erase p } } f p
  | none => { s with twn := { s.twn with ownF := s.twn.ownF ++ [f] } }

/-- A fence record of the partner enters the matching. -/
def addPeerFence (s : State) (p : FenceRec) : State :=
  match s.twn.ownF.find? (fun f => fencesMatch s f p) with
  | some f => pairFence { s with twn := { s.twn with ownF := s.twn.ownF.erase f } } f p
  | none => { s with twn := { s.twn with peerF := s.twn.peerF ++ [p] } }

/-- A fence becomes known (R310): its record is sent, and it waits for its match. -/
def mirrorFence (s : State) (st : Nat) (sdi : Bool) (ts : Word) (inc : Bool) (buf seq done : Nat) : State :=
  if !twnOn s then s
  else
    let now := nowNs s
    let e := now + mirrorDelay s
    let s := mirrorRecord s 8 e (beBytes 1 st ++ beBytes 1 (inc.toNat + 2 * sdi.toNat) ++ [0, 0] ++ beBytes 4 ts.toNat ++
      recTime done ++ [0, 0])
    addOwnFence s ⟨st, sdi, ts, done, e, inc, buf, seq, false⟩

/-- Readiness of slot (k, n) follows R313: PAIRED, from the first latch at or after the join instant. -/
def pairLatch (s : State) (k n : Nat) : Bool :=
  twnOn s && twnState s == 3 &&
    (match s.twn.pairFrom with | some j => decide ((j : Int) * 1000 ≤ latchAt s k n) | none => true)

end Sys2Proof.Machine
end

