-- ==== Sys2Proof/Machine/Check.lean ====
section
/-! DEFINITION. The checks of a commit request: descriptors and set (R68, R69), scaler assignment (R129, R133, R134), contributors
(R90 to R95), planned fetch (R102, R136) and admission (R110, R111). -/

namespace Sys2Proof.Machine

/-! ### Descriptor check (R68, part 1) -/

/-- A reserved encoding or field (cause 1). -/
def descReserved (d : List Word) : Bool :=
  let z (i hi lo : Nat) : Bool := fld (dw d i) hi lo == 0
  !(z 0 7 5 && z 0 23 21 && z 0 31 28 && z 1 31 24 && z 2 7 1 && z 2 15 14 && z 2 31 20 && z 3 11 0 && z 4 31 5 &&
      z 5 31 21 && z 15 31 16 && z 22 31 10 && (List.range 8).all fun i => dw d (24 + i) == 0) ||
    dPolicy d == 3 || decide (4 < dBlend d) || (!dKind d && decide (8 < fld (dw d 2) 19 16)) || decide (0x8000 < dAlpha d)

/-- The crop lies inside the source and is not empty (cause 3). -/
def cropOk (d : List Word) (src : Surf) : Bool :=
  let cw := fld (dw d 8) 15 0
  let ch := fld (dw d 8) 31 16
  decide (1 ≤ cw) && decide (1 ≤ ch) && decide (fld (dw d 7) 15 0 + cw ≤ src.w) && decide (fld (dw d 7) 31 16 + ch ≤ src.h)

/-- Destination and clip rectangles are in range (cause 4). -/
def placeOk (d : List Word) : Bool :=
  let (x, y, w, h) := dPlace d
  let xy (v : Int) : Bool := decide (-1048576 ≤ v) && decide (v ≤ 1048575)
  let wh (v : Nat) : Bool := decide (1 ≤ v) && decide (v ≤ 1048576)
  let c (i hi lo : Nat) : Nat := fld (dw d i) hi lo
  xy x && xy y && wh w && wh h &&
    (!dClipEn d || (decide (c 13 15 0 < c 14 15 0) && decide (c 13 31 16 < c 14 31 16) && decide (c 14 15 0 ≤ 16384) &&
      decide (c 14 31 16 ≤ 16384)))

/-- The lowest cause that a member breaks (R69); none: it passes. -/
def descFault (s : State) (d : List Word) : Option Nat :=
  if descReserved d then some 1
  else if !dEn d then none
  else if !surfOk (dSurf s d 0) then some 2
  else if !cropOk d (dSurf s d 0) then some 3
  else if !placeOk d then some 4
  else none

/-- Slots whose staged GROUP lies in a mask, in order of GROUP, then slot (R68). -/
def membersOf (s : State) (mask : Word) : List Nat :=
  (List.range 32).flatMap fun g =>
    if bit mask g then (List.range 128).filter fun l => dGroup (stagedDesc s l) == g else []

/-- Copy the members of a request from the staged into a bank of descriptors. -/
def applyMembers (s : State) (mask : Word) (bank : Store Word) : Store Word :=
  (membersOf s mask).foldl (fun b l => Store.setList zeroW b (32 * l) (stagedDesc s l)) bank

/-- The active bank with the requests before the `i`-th and that one applied (R68). -/
def candidate (s : State) (i : Nat) : Store Word :=
  (s.lyr.queue.take (i + 1)).foldl (fun b r => applyMembers s r.mask b) s.lyr.active

/-- Descriptor of slot `l` in a bank. -/
def bankDesc (b : Store Word) (l : Nat) : List Word := Store.slice zeroW b (32 * l) 32

/-- The enabled layers of phase `n` in a bank, rising. -/
def enabledIn (b : Store Word) (n : Nat) : List Nat := (List.range 128).filter fun l => dIn (bankDesc b l) n

/-! ### Scaler assignment -/

/-- BYPASS_EN as a check reads it. -/
def bypassNow (s : State) : Bool := rdB s (Reg.SC.POOL_CTRL 0) 0

/-- Why a layer's geometry cannot be assigned, as REASON of R139; none: it takes the bypass or has stripes. -/
def geomReason (d : List Word) (g : Geom) : Option Nat :=
  let own := dPlace d
  if g.bypass then none
  else if (axisDec (dAwning d) g.cw own.2.2.1).isNone then some 1
  else if (axisDec (dAwning d) g.ch own.2.2.2).isNone then some 2
  else if g.stripes.isNone then some 3
  else none

/-- The first layer of a phase that cannot be assigned, with its reason (R134); else the scalers that the phase needs. For reason 4
the layer is the one at which the count first passes 32 (log entry 130). -/
def assignNeed (s : State) (b : Store Word) : List Nat → Nat → Except (Nat × Nat) Nat
  | [], used => .ok used
  | l :: ls, used =>
    let d := bankDesc b l
    let g := geomOf d (dSurf s d 0) (dPlace d) (bypassNow s)
    match geomReason d g with
    | some r => .error (l, r)
    | none =>
      let used' := used + (g.stripes.getD []).length
      if 32 < used' then .error (l, 4) else assignNeed s b ls used'

/-- The assignment part of the check over the phases: the first failure (phase, layer, reason), else the largest need. -/
def assignCheck (s : State) (b : Store Word) : List Nat → Nat → Except (Nat × Nat × Nat) Nat
  | [], most => .ok most
  | n :: ns, most =>
    match assignNeed s b (enabledIn b n) 0 with
    | .error e => .error (n, e.1, e.2)
    | .ok u => assignCheck s b ns (max most u)

/-! ### Contributors (R90 to R95) -/

/-- A layer as the span rules see it: its slot, stacking order, geometry, and whether it may occlude. -/
structure Cover where
  slot : Nat
  z    : Nat
  geom : Geom
  occ  : Bool
  deriving DecidableEq, Repr

/-- R91 point 2: the blend and source make an occluder. -/
def mayOcclude (d : List Word) (fmt : Nat) : Bool :=
  dBlend d == 4 || (dBlend d == 0 && dAlpha d == 0x8000 && (dOpaque d || dIgnoreA d || fmtYcc fmt))

/-- Cell columns of band `b` that a layer touches: first and end (R90). -/
def Cover.touch (c : Cover) (wc hc b : Nat) : Nat × Nat :=
  match c.geom.covered wc hc with
  | none => (0, 0)
  | some (x0, x1, y0, y1) =>
    if y0 < 256 * ((b : Int) + 1) ∧ 256 * (b : Int) < y1 then ((x0 / 256).toNat, ((x1 + 255) / 256).toNat) else (0, 0)

/-- Cell columns of band `b` that a layer contains: first and end (R90). -/
def Cover.contain (c : Cover) (wc hc b : Nat) : Nat × Nat :=
  match c.geom.covered wc hc with
  | none => (0, 0)
  | some (x0, x1, y0, y1) =>
    if y0 ≤ 256 * (b : Int) ∧ 256 * ((b : Int) + 1) ≤ y1 then (((x0 + 255) / 256).toNat, (x1 / 256).toNat) else (0, 0)

/-- Stacking order (R63). -/
def below (a b : Nat × Nat) : Bool := decide (a.1 < b.1) || (a.1 == b.1 && decide (a.2 < b.2))

/-- Layers in stacking order, lowest first. -/
def stacked (cs : List Cover) : List Cover := sortBy (fun a b => below (a.z, a.slot) (b.z, b.slot)) cs

/-- Is a column inside a half-open range. -/
def inRange (r : Nat × Nat) (c : Nat) : Bool := decide (r.1 ≤ c) && decide (c < r.2)

/-- Contributors of a cell among layers in stacking order (R92): lowest first. -/
def contribs (wc hc b c : Nat) : List Cover → List Cover
  | [] => []
  | x :: xs =>
    let hidden := xs.any fun y => y.occ && inRange (y.contain wc hc b) c
    if inRange (x.touch wc hc b) c && !hidden then x :: contribs wc hc b c xs else contribs wc hc b c xs

/-- Contributors of every cell of band `b`. -/
def bandStacks (wc hc b : Nat) (cs : List Cover) : List (List Cover) :=
  (List.range (wc / 16)).map fun c => contribs wc hc b c cs

/-- The columns of a band where a slot contributes. -/
def columnsOf (piles : List (List Nat)) (slot : Nat) : List Nat :=
  (piles.zipIdx.filter fun e => e.1.contains slot).map (·.2)

/-! ### Planned fetch of a layer (R102, R136) -/

/-- Members of `u` that `v` lacks. -/
def lacking (u v : List Nat) : Nat := (u.filter fun x => !v.contains x).length

/-- Rows of a range. -/
def rowCount (r : Int × Int) : Nat := (r.2 - r.1 + 1).toNat

/-- Rows common to two ranges. -/
def rowsShared (r q : Int × Int) : Nat := rowCount (max r.1 q.1, min r.2 q.2)

/-- 64-byte units of rows `r` by unit set `u` that rows `q` by unit set `v` do not hold. -/
def newUnits (r : Int × Int) (u : List Nat) (q : Int × Int) (v : List Nat) : Nat :=
  let shared := rowsShared r q
  (rowCount r - shared) * u.length + shared * lacking u v

/-- A layer's need in a band from the columns where it contributes: rows, and unit sets, one per stripe. -/
def Geom.need (g : Geom) (b : Nat) (cols : List Nat) : (Int × Int) × List (List Nat) :=
  if cols.isEmpty then ((0, -1), [])
  else (g.rows (16 * b) (16 * b + 15), (g.unitRuns (cellRuns cols)).map rangeUnits)

/-- Units that band `b` reads anew, the overlap of stripes once per stripe. -/
def Geom.planned (g : Geom) (b : Nat) (cols prev : List Nat) : Nat :=
  let x := g.need b cols
  let y := if b = 0 then ((0, -1), []) else g.need (b - 1) prev
  ((x.2.zipIdx.map fun e => newUnits x.1 e.1 y.1 (y.2.getD e.2 [])).foldl (· + ·) 0)

/-- N(l, b) of R110: every unit once. -/
def Geom.checkBytes (g : Geom) (b : Nat) (cols prev : List Nat) : Nat :=
  let x := g.need b cols
  let y := if b = 0 then ((0, -1), []) else g.need (b - 1) prev
  let all (l : List (List Nat)) : List Nat := (l.flatten).eraseDups
  64 * newUnits x.1 (all x.2) y.1 (all y.2)

/-! ### Admission (R110, R111) -/

/-- The band parameters that a check takes for phase `n` (R185): those of its previous latch while phase instants are issued, the
registers' before any (log entry 134). -/
def checkCtx (s : State) (n : Nat) : PhaseCtx :=
  if issuing s then (prevLatch s n).getD (newCtx s 0 n) else newCtx s 0 n

/-- SHARES as it acts: its reset value under FAB's safe action (R388). -/
def sharesNow (s : State) : Word := if safe s Page.FAB then 0xA46 else rd s Reg.FAB.SHARES

/-- ADMIT_EFF as it acts. -/
def admitEff (s : State) : Nat := if safe s Page.FAB then 0xD9 else rdF s Reg.FAB.ADMIT_EFF 7 0

/-- Rd × t in millionths of a byte, for t in ps (R110). -/
def rateMicro (s : State) (t : Nat) : Nat := fld (sharesNow s) 7 0 * admitEff s * 128 * t

/-- Aw(a) of R110. -/
def awningBytes (d : List Word) (src : Surf) : Nat :=
  let rows := ceilDiv (512 * fld (dw d 8) 31 16) (dPlace d).2.2.2 + 5
  rows * 64 * (ceilDiv (rowBytes src.fmt (fld (dw d 8) 15 0)) 64 + 1)

/-- What the check sees of a layer. -/
def coverOf (s : State) (d : List Word) (l : Nat) : Cover :=
  let src := dSurf s d 0
  ⟨l, dZ d, geomOf d src (dPlace d) (bypassNow s), !dKind d && mayOcclude d src.fmt⟩

/-- tbuild of R97 in CORE clocks. -/
def buildClocks (bands layers : Nat) : Nat := 2048 + bands * (64 + 3 * layers)

/-- Display bytes F(b) of bands 0 up, given the contributing slots of every cell. -/
def bandBytes (covers : List Cover) (fixed : Nat) (piles : List (List (List Nat))) : List Nat :=
  piles.zipIdx.map fun e =>
    fixed + ((covers.map fun c =>
      c.geom.checkBytes e.2 (columnsOf e.1 c.slot) (columnsOf (piles.getD (e.2 - 1) []) c.slot)).foldl (· + ·) 0)

/-- The backlog of R111 in millionths of a byte: the first band beyond the limit, or the largest backlog. -/
def backlogCheck (per lim : Nat) : Nat → Nat → Nat → List Nat → Except Nat Nat
  | _, _, most, [] => .ok most
  | b, u, most, f :: fs =>
    let u' := f * 1000000 + (u - per)
    if lim < u' then .error b else backlogCheck per lim (b + 1) u' (max most u') fs

/-- The first failing band and condition of phase `n` for a bank (R111), or the phase's PEAK and DEPTH_MAX. The band of a condition
that concerns no one band is 0 (log entry 127). -/
def admitPhase (s : State) (bank : Store Word) (n : Nat) : Except (Nat × Nat) (Nat × Nat) :=
  let c := checkCtx s n
  let wc := c.wc
  let bands := c.bands
  let hc := 16 * bands
  let ts := c.ts
  let fa := c.ahead
  let ls := enabledIn bank n
  let awns := ls.filter fun l => dAwning (bankDesc bank l)
  let plain := ls.filter fun l => !dAwning (bankDesc bank l)
  let fits := match curGrid s with
    | some g => decide (wc * hc * g.nph * g.num ≤ 64424509440 * g.den)
    | none => false
  if !fits then .error (0, 1)
  else if ts < wc * 200 then .error (0, 2)
  else if slotMin s * 1000 < (bands + fa) * ts then .error (0, 3)
  else if rdN s Reg.LYR.LATCH_LEAD * 1000000 <
      (2048 + buildClocks bands plain.length) * 800 + (c.lead + fa) * ts then .error (0, 4)
  else
    let covers := stacked (plain.map fun l => coverOf s (bankDesc bank l) l)
    let piles := (List.range bands).map fun b => (bandStacks wc hc b covers).map fun st => st.map (·.slot)
    let depth (st : List (List Nat)) : Nat := (st.map List.length).foldl max 0 + awns.length
    match (List.range bands).find? fun b => decide (16 < depth (piles.getD b [])) with
    | some b => .error (b, 5)
    | none =>
      let aw := (awns.map fun l => awningBytes (bankDesc bank l) (dSurf s (bankDesc bank l) 0)).foldl (· + ·) 0
      let k := if rdB s Reg.CAL.CAL_CTRL 0 then 64 * ceilDiv (2 * wc) 64 else 0
      let f := bandBytes covers (aw + k) piles
      let lim := rateMicro s (fa * ts)
      match backlogCheck (rateMicro s ts) lim 0 0 0 f with
      | .error b => .error (b, 6)
      | .ok most =>
        match (List.range bands).find? fun b => decide (0x1000000 < ((f.drop b).take fa).foldl (· + ·) 0) with
        | some b => .error (b, 7)
        | none =>
          if rateMicro s (min ts 1638400) < aw * 1000000 then .error (0, 8)
          else .ok (most * 1024 / lim, (piles.map depth).foldl max awns.length)

/-- Phases the check runs over. -/
def phasesNow (s : State) : List Nat := List.range (min (nph s) 8)

/-- ADMIT_INFO of a failure. -/
def admitInfo (s : State) (n b c : Nat) : State :=
  wr s Reg.SPB.ADMIT_INFO (w32 (2 ^ 31 + (n + 16 * (b % 1024) + 2 ^ 16 * c)))

/-- The admission check of a bank over all phases (R111): whether it passes, and the state with ADMIT_INFO of a failure; with
`peaks`, ADMIT_PEAK of each phase that passes. -/
def admitAll (peaks : Bool) (bank : Store Word) : State → List Nat → Bool × State
  | s, [] => (true, s)
  | s, n :: ns =>
    match admitPhase s bank n with
    | .error e => (false, admitInfo s n e.1 e.2)
    | .ok r => admitAll peaks bank
        (if peaks then wr s (Reg.SPB.ADMIT_PEAK n) (w32 (min r.1 0xFFFF + 2 ^ 16 * min r.2 255)) else s) ns

/-- The admission check: an invalid phase grid fails condition 1 for phase 0 and band 0. -/
def admitBank (peaks : Bool) (s : State) (bank : Store Word) : Bool × State :=
  if (gridFault (curGrid s)).isSome then (false, admitInfo s 0 0 1) else admitAll peaks bank s (phasesNow s)

/-! ### Set check (R68, part 2) and the verdict (R69) -/

/-- A request's failure: cause, group, and the layer where one is at fault. -/
structure Refuse where
  cause : Nat
  group : Nat
  layer : Option Nat
  deriving DecidableEq, Repr

/-- The lowest group of a mask. -/
def lowGroup (mask : Word) : Nat := ((List.range 32).find? fun g => bit mask g).getD 0

/-- The lowest member of the request among enabled awnings that share an AWN_ID (cause 7). -/
def sharedAwning (s : State) (mask : Word) (bank : Store Word) : Option Nat :=
  let awns := (List.range 128).filter fun l => dEn (bankDesc bank l) && dAwning (bankDesc bank l)
  let shares (l : Nat) : Bool := awns.any fun m => m != l && dAwnId (bankDesc bank m) == dAwnId (bankDesc bank l)
  let own := (awns.filter shares).filter fun l => (membersOf s mask).contains l
  if (awns.filter shares).isEmpty then none else some (own.headD ((awns.filter shares).headD 0))

/-- The set check of the `i`-th request: none where it passes, and the state with what the check leaves in the registers. -/
def setCheck (s : State) (i : Nat) (mask : Word) : Option Refuse × State :=
  let bank := candidate s i
  let grp (l : Nat) : Nat := dGroup (bankDesc bank l)
  if (phasesNow s).any fun n => decide (64 < (enabledIn bank n).length) then (some ⟨6, lowGroup mask, none⟩, s)
  else match sharedAwning s mask bank with
    | some l => (some ⟨7, grp l, some l⟩, s)
    | none =>
      match assignCheck s bank (phasesNow s) 0 with
      | .error (n, l, r) =>
        let s := wr s (Reg.SC.ASSIGN_INFO 0) (w32 (2 ^ 31 + (n + 16 * l + 2 ^ 12 * r)))
        if r = 4 then (some ⟨5, lowGroup mask, none⟩, s) else (some ⟨5, grp l, some l⟩, s)
      | .ok most =>
        let r := admitBank true s bank
        if r.1 then (none, wrF r.2 (Reg.SC.POOL_USE 0) 13 8 most) else (some ⟨8, lowGroup mask, none⟩, r.2)

/-- The check of the `i`-th queued request (R68): its first failure, if any, and the state it leaves. `lost`: a descriptor word
was uncorrectable, which refuses with cause 1 (R321). -/
def checkRequest (s : State) (i : Nat) (r : CommitReq) (lost : List Nat) : Option Refuse × State :=
  let ms := membersOf s r.mask
  let faultOf (l : Nat) : Option Nat := if lost.contains l then some 1 else descFault s (stagedDesc s l)
  match ms.find? fun l => (faultOf l).isSome with
  | some l => (some ⟨(faultOf l).getD 1, dGroup (stagedDesc s l), some l⟩, s)
  | none =>
    match lost with
    | l :: _ => (some ⟨1, dGroup (activeDesc s l), some l⟩, s)
    | [] => setCheck s i r.mask

/-- COMMIT_REFUSE (R69): groups of the mask into COMMIT_REFUSED, and REFUSE_INFO. -/
def refuseCommit (s : State) (mask : Word) (r : Refuse) : State :=
  let s := orReg s Reg.LYR.COMMIT_REFUSED mask
  wr s Reg.LYR.REFUSE_INFO (w32 (r.group + 2 ^ 8 * (r.layer.getD 0) + 2 ^ 15 * r.layer.isSome.toNat + 2 ^ 16 * r.cause))

end Sys2Proof.Machine
end

