-- ==== Sys2Proof/Machine/Layers.lean ====
section
/-! DEFINITION. Layers: commit requests, their checks and cancelling, the latch of a phase, and the layer window (R60 to R76, R88). -/

namespace Sys2Proof.Machine

/-! ### The queue of commit requests (R67 to R71) -/

/-- Groups of a list of requests. -/
def groupsOf (l : List CommitReq) : Word := l.foldl (fun m r => m ||| r.mask) 0

/-- QUEUED. -/
def queuedGroups (s : State) : Word := groupsOf s.lyr.queue

/-- CHECKING. -/
def checkingGroups (s : State) : Word := groupsOf (s.lyr.queue.filter fun r => !r.ready)

/-- Replace the queue. -/
def setQueue (s : State) (q : List CommitReq) : State := { s with lyr := { s.lyr with queue := q } }

/-- A number for a new request, above those of the queue and of a recheck asked for. -/
def newReqId (s : State) : Nat := max ((s.lyr.queue.map fun r => r.id + 1).foldl max 0) (s.spb.recheck.getD 0)

/-- A request reaches the layer block with a mask and COMMIT_CTRL (R67); a mirrored one is applied at no latch before `effect`
(R311). Where several of R67's cases hold, the one reported is the model's choice: 9, then 10, then 11 (log entry 124). -/
def enterCommit (s : State) (mask ctrl : Word) (peer : Bool) (effect : Nat) : State :=
  let both := mask &&& queuedGroups s
  let target := if bit ctrl 0 then some (fld ctrl 3 1) else none
  let bad := match target with | some m => decide (nph s ≤ m) | none => false
  if mask = 0 then s
  else if both ≠ 0 then refuseCommit s mask ⟨9, lowGroup both, none⟩
  else if 8 ≤ s.lyr.queue.length then refuseCommit s mask ⟨10, lowGroup mask, none⟩
  else if bad then refuseCommit s mask ⟨11, lowGroup mask, none⟩
  else setQueue s (s.lyr.queue ++ [⟨mask, target, false, newReqId s, peer, effect⟩])

/-- Take requests out of the queue; each request after a removed one returns to the checking state (R71). -/
def removeReqs (gone : CommitReq → Bool) : Bool → List CommitReq → List CommitReq
  | _, [] => []
  | hit, r :: rs =>
    if gone r then removeReqs gone true rs
    else (if hit then { r with ready := false } else r) :: removeReqs gone hit rs

/-- R71: a cancel reaches the layer block. -/
def cancelGroups (s : State) (mask : Word) : State :=
  setQueue s (removeReqs (fun r => r.mask &&& mask != 0) false s.lyr.queue)

/-- A cancel operation whose effective instant is at or before `t` ps. -/
def cancelDue (t : Int) (o : MirPend) : Bool :=
  match o.op with
  | .cancel _ => decide ((o.e : Int) * 1000 ≤ t)
  | _ => false

/-- Mirrored cancels with E at or before `t` ps take effect, in their order (R310). -/
def settleCancels (s : State) (t : Int) : State :=
  let rest := { s with twn := { s.twn with ops := s.twn.ops.filter fun o => !cancelDue t o } }
  (s.twn.ops.filter (cancelDue t)).foldl (fun s o => match o.op with | .cancel m => cancelGroups s m | _ => s) rest

/-- R67: a write of COMMIT; in a pair it is captured and mirrored (R310). -/
def execCommit (a : Agent) (mask : Word) (s : State) : Host.Outcome State Fault Refusal :=
  let ctrl := rd s Reg.LYR.COMMIT_CTRL
  live s (guarded s a Reg.LYR.COMMIT mask .cmd
    (if mask = 0 then s
     else if twnOn s then
      captureOp s 3 (.commit mask ctrl) (beBytes 4 mask.toNat ++ beBytes 1 (fld ctrl 3 0) ++ [0, 0, 0])
     else enterCommit s mask ctrl false 0))

/-- R71: a cancel by this device's software; one that comes in the clock of a latch takes effect after it. -/
def cancelNow (s : State) (mask : Word) : State :=
  if latchDue s then { s with lyr := { s.lyr with late := s.lyr.late ||| mask } } else cancelGroups s mask

/-- After a latch: a cancel of its clock takes effect (R71). -/
def settleLate (s : State) : State :=
  if s.lyr.late = 0 then s else { cancelGroups s s.lyr.late with lyr := { (cancelGroups s s.lyr.late).lyr with late := 0 } }

/-- R71: a write of COMMIT_CANCEL; in a pair it is captured and mirrored (R310). -/
def execCommitCancel (a : Agent) (mask : Word) (s : State) : Host.Outcome State Fault Refusal :=
  live s (guarded s a Reg.LYR.COMMIT_CANCEL mask .cmd
    (if twnOn s then captureOp s 4 (.cancel mask) (beBytes 4 mask.toNat) else cancelNow s mask))

/-- The request under check: the first without a verdict; none while a recheck must come first (R68, R112). -/
def underCheck (s : State) : Option (Nat × CommitReq) :=
  match (s.lyr.queue.zipIdx.find? fun e => !e.1.ready) with
  | some e =>
    match s.spb.recheck with
    | some b => if e.1.id < b then some (e.2, e.1) else none
    | none => some (e.2, e.1)
  | none => none

/-- R68, R69: the check of a request returns its verdict. -/
def execCommitCheckDone (upsets : List Upset) (s : State) : Host.Outcome State Fault Refusal :=
  wall s (match underCheck s with
    | none => s
    | some (i, r) =>
      let t := noteUpsets s upsets
      let lost := (upsets.filter fun u => u.uncorr && u.struct == 1).map (·.item)
      match checkRequest t i r lost with
      | (none, t) => setQueue t (replaceFirst (· == r) (fun x => { x with ready := true }) t.lyr.queue)
      | (some f, t) => refuseCommit (setQueue t (t.lyr.queue.erase r)) r.mask f)

/-! ### Latched states and references (R73 to R76) -/

/-- What layer `l` latched last in phase `n`. -/
def layerRef (s : State) (n l : Nat) : Option LayerRef := Store.get (fun _ => none) s.lyr.refs (128 * n + l)

/-- Set what layer `l` latched last in phase `n`. -/
def setRef (s : State) (n l : Nat) (r : Option LayerRef) : State :=
  { s with lyr := { s.lyr with refs := Store.set (fun _ => none) s.lyr.refs (128 * n + l) r } }

/-- The previous buffer of a stream layer in a phase (R74): none where it was disabled or its identity changed since (FRAME_SEQ 0
marks a buffer that is pinned and no more). -/
def prevBuf (s : State) (n l : Nat) : Option LayerRef :=
  match layerRef s n l with
  | some r => if r.seq = 0 then none else some r
  | none => none

/-- What applying a member does to the layer's references: a disabled layer has none, a changed identity keeps them as pins only
(R47, R65, R74). -/
def touchRefs (old new : List Word) (l : Nat) (s : State) (n : Nat) : State :=
  if !dEn new then setRef s n l none
  else if dIdentity old == dIdentity new then s
  else setRef s n l ((layerRef s n l).map fun r => { r with seq := 0 })

/-- Apply a request (R73 step 1): each member's staged descriptor is copied into the active bank. -/
def applyRequest (s : State) (r : CommitReq) : State :=
  let bank := s.lyr.active
  let t := (membersOf s r.mask).foldl (fun t l =>
    (List.range 8).foldl (touchRefs (bankDesc bank l) (stagedDesc s l) l) t) s
  bump { t with lyr := { t.lyr with active := applyMembers s r.mask bank } } Reg.LYR.COMMIT_COUNT

/-- Requests taken from the head of the queue at the latch of phase `n` at TL `tl` (R73 step 1, R311): the groups applied. -/
def applyHead (n : Nat) (tl : Int) : List CommitReq → State → Word → State × Word
  | [], s, m => (setQueue s [], m)
  | r :: rs, s, m =>
    let other := match r.target with | some t => t != n | none => false
    if !r.ready || other || decide (tl < (r.effect : Int) * 1000) then (setQueue s (r :: rs), m)
    else applyHead n tl rs (applyRequest s r) (m ||| r.mask)

/-- Requests whose target phase no longer runs are removed and refused (R67). -/
def dropTargets (s : State) : State :=
  let gone (r : CommitReq) : Bool := match r.target with | some t => decide (nph s ≤ t) | none => false
  let t := setQueue s (removeReqs gone false s.lyr.queue)
  (s.lyr.queue.filter gone).foldl (fun t r => refuseCommit t r.mask ⟨11, lowGroup r.mask, none⟩) t

/-- The buffer that a stream layer finds newest at the latch: of those whose fence the latch sees (R46, R73); in a pair, given TL in ps,
of those pair-ready at or before it (R313). -/
def newestBuf (s : State) (pair : Option Int) (st : Nat) : Option (Nat × Buf) :=
  let x := stream s st
  let seen (j : Nat) : Bool := (x.buf j).mode == .fenced && decide ((x.buf j).visible ≤ coreClk s)
  let j := match pair with
    | some tl => newestPaired x (some tl)
    | none => ((List.range 8).filter seen).foldl (laterBuf x) none
  j.map fun j => (j, x.buf j)

/-- The state of a layer that latches buffer `j`. -/
def takeBuf (d : List Word) (held : Bool) (j seq : Nat) (inc : Bool) : Latched :=
  ⟨w32 (1 + 2 * held.toNat + 16 * j + 128 * inc.toNat), seq, d⟩

/-- A layer that is ready (R73 step 2): what it latches; none: it is not ready. -/
def readyState (s : State) (pair : Option Int) (n l : Nat) (d : List Word) : Option Latched :=
  if !dKind d then some ⟨1, 0, d⟩
  else match newestBuf s pair (dStream d) with
    | none => none
    | some (j, b) =>
      let last := match prevBuf s n l with | some r => r.seq | none => 0
      if (!b.inc || dAcceptInc d) && (!dNewOnly d || decide (last < b.seq)) then some (takeBuf d false j b.seq b.inc) else none

/-- A layer that is not ready, under REPEAT or HIDE (R74). -/
def policyState (s : State) (n l : Nat) (d : List Word) : Latched :=
  match prevBuf s n l with
  | some r => if dPolicy d = 1 then ⟨8, 0, d⟩ else takeBuf d true r.buf r.seq r.inc
  | none => ⟨if dPolicy d = 1 then 12 else 4, 0, d⟩

/-- What a latch makes of a phase: its states by slot, layers not ready, groups held. -/
structure LatchOut where
  states   : List Latched
  notReady : Nat
  holds    : Nat
  deriving DecidableEq, Repr

/-- Steps 2 to 4 of R73 for phase `n`; `lost` the layers with an uncorrectable descriptor word (R321). -/
def resolve (s : State) (pair : Option Int) (n : Nat) (lost : List Nat) : LatchOut :=
  let set := (List.range 128).filter fun l => dIn (activeDesc s l) n && !lost.contains l
  let late := set.filter fun l => (readyState s pair n l (activeDesc s l)).isNone
  let groups := ((late.filter fun l => dPolicy (activeDesc s l) == 2).map fun l => dGroup (activeDesc s l)).eraseDups
  let one (l : Nat) : Latched :=
    let d := activeDesc s l
    let p := latched s n l
    if lost.contains l then .absent
    else if (p.w0 != 0 && groups.contains (dGroup p.desc)) || (dIn d n && groups.contains (dGroup d)) then
      if p.w0 = 0 then .absent else { p with w0 := p.w0 ||| 2 }
    else if !dIn d n then .absent
    else (readyState s pair n l d).getD (policyState s n l d)
  ⟨(List.range 128).map one, late.length, groups.length⟩

/-- The pin and reference that a latched state leaves (R73 steps 2 and 4). -/
def refOf (s : State) (n l : Nat) (x : Latched) : Option LayerRef :=
  if !x.visible then layerRef s n l
  else if !dKind x.desc then none
  else
    let same := dEn (activeDesc s l) && dIdentity x.desc == dIdentity (activeDesc s l)
    some ⟨dStream x.desc, x.buf, if same then x.seq else 0, bit x.w0 7⟩

/-- Store the states of a latch, with the pins they take; buffers that the slot reads are noted until its last band is composed. -/
def storeLatch (s : State) (k n : Nat) (o : LatchOut) : State :=
  let ls := o.states.zipIdx
  let lat := ls.foldl (fun m e => Store.set (fun _ => Latched.absent) m (128 * n + e.2) e.1) s.lyr.latched
  let refs := ls.foldl (fun m e => Store.set (fun _ => none) m (128 * n + e.2) (refOf s n e.2 e.1)) s.lyr.refs
  let reads := (o.states.filter fun x => x.visible && dKind x.desc).map fun x => (8 * k + n, dStream x.desc, x.buf)
  let old := s.lyr.reading.filter fun e => !(e.1 % 8 == n && decide (e.1 / 8 + 1 < k))
  { s with lyr := { s.lyr with latched := lat, refs := refs, reading := old ++ reads } }

/-! ### Scaler assignment at the latch (R133, R135) -/

/-- A visible layer's surface and geometry at its descriptor placement. -/
def latchedGeom (s : State) (x : Latched) (bypass : Bool) : Geom :=
  geomOf x.desc (dSurf s x.desc x.buf) (dPlace x.desc) bypass

/-- Assign scalers to visible layers in slot order: (layer, scalers) of those composed, and the layers lost. -/
def assignLayers (s : State) (bypass : Bool) : List (Nat × Latched) → List Nat → List (Nat × List Nat) × List Nat
  | [], _ => ([], [])
  | (l, x) :: rest, free =>
    let g := latchedGeom s x bypass
    let m := (g.stripes.getD []).length
    if (geomReason x.desc g).isSome || decide (free.length < m) then
      let r := assignLayers s bypass rest free
      (r.1, l :: r.2)
    else
      let r := assignLayers s bypass rest (free.drop m)
      ((l, free.take m) :: r.1, r.2)

/-! ### The latch (R72, R73, R185) -/

/-- Pages whose safe action impairs a phase (R318). -/
def impairPages : List Nat :=
  [Page.LYR, Page.AWN, Page.SPB, Page.CLR, Page.CAL, Page.DLS] ++ (List.range 32).map Page.SC

/-- A safe action that impairs is in force. -/
def impairing (s : State) : Bool := impairPages.any (safe s)

/-- The slot's context: the samples of R126, R156 and R185, or those of the phase's previous latch under a safe action (R388). -/
def latchCtx (s : State) (k n : Nat) : PhaseCtx :=
  let c := newCtx s k n
  let p := prevLatch s n
  let c := if safeCause s Page.CLR then
      { c with
        postSel := (p.map (·.postSel)).getD (resetWord Reg.CLR.POST_SEL)
        phOut := (p.map (·.phOut)).getD (resetWord (Reg.CLR.PH_OUT n)) }
    else c
  if safeCause s (Page.SC 0) then
    { c with
      coefSel := (p.map (·.coefSel)).getD (resetWord (Reg.SC.COEF_SEL 0))
      bypass := (p.map (·.bypass)).getD (bit (resetWord (Reg.SC.POOL_CTRL 0)) 0) }
  else c

/-- LEAD_SHORT (R187). -/
def PhaseCtx.leadShort (c : PhaseCtx) : Bool :=
  decide (c.ts < 800 * bandClocks c.wc) ||
    decide ((c.lead : Int) * c.ts - 800 * c.hand < 800 * (2048 + bandClocks c.wc))

/-- DLS_STATUS of the phase just sampled (R186, R187, R201). -/
def noteSample (s : State) (c : PhaseCtx) : State :=
  let q := ringSlots c.wc
  let s := wrB s Reg.DLS.DLS_STATUS 1 (decide (q - 2 < rdF s Reg.DLS.DLS_CTRL 12 8))
  let s := wrB s Reg.DLS.DLS_STATUS 2 c.leadShort
  wrF (wrF s Reg.DLS.DLS_STATUS 12 8 c.lead) Reg.DLS.DLS_STATUS 20 16 q

/-- The latch of slot (k, n) (R73), with assignment and samples. -/
def latchSlot (s : State) (k n : Nat) (upsets : List Upset) : State :=
  let s := noteUpsets s upsets
  let s := ([Page.LYR, Page.CLR] ++ (List.range 32).map Page.SC).foldl (releaseLatch n) s
  let tl := latchAt s k n
  let s := dropTargets (settleReady (settleCancels s tl) tl)
  let held := safeCause s Page.LYR
  let on := rdB s Reg.LYR.LYR_CTRL 0
  let pair := if pairLatch s k n then some tl else none
  let lost := (upsets.filter fun u => u.uncorr && u.struct == 1).map (·.item)
  let r := if held || !on then (s, 0) else applyHead n tl s.lyr.queue s 0
  let s := r.1
  let s := if r.2 = 0 then s else wr (wr s Reg.LYR.COMMIT_LAST r.2) Reg.LYR.COMMIT_LAST_PH (w32 n)
  let o : LatchOut :=
    if held then ⟨(List.range 128).map fun l => if lost.contains l then .absent else latched s n l, 0, 0⟩
    else if !on then ⟨List.replicate 128 .absent, 0, 0⟩
    else resolve s pair n lost
  let s := storeLatch s k n o
  let s := bumpN (bumpN s Reg.LYR.NOTREADY_COUNT o.notReady) Reg.LYR.HOLD_COUNT o.holds
  let s := if 0 < o.holds then raiseE s Page.LYR 1 else s
  let c := latchCtx s k n
  let s := wr s (Reg.LYR.PH_LAYERS n) (w32 (c.layers.length + 256 * o.notReady))
  let free := (List.range 32).filter fun i => !safeCause s (Page.SC i)
  let a := assignLayers s c.bypass c.layers free
  let s := bumpN s (Reg.SC.ASSIGN_LOST 0) a.2.length
  let s := if a.2.isEmpty then s else raiseE s (Page.SC 0) 0
  let c := { c with scalers := a.1, lost := a.2, parity := impairing s || !lost.isEmpty }
  let s := settleLate (notePrev (pushCtx (noteSample s c) c) n c)
  let s := pulse s (16 + n)
  if r.2 = 0 then s else pulse s 24

/-- R72, R73: TL(n) of slot (k, n) is reached. -/
def execLayerLatch (k n : Nat) (upsets : List Upset) (s : State) : Host.Outcome State Fault Refusal :=
  wall s (if slotKnown s k n && decide (n < 8) && (findCtx s k n).isNone && reached s (latchAt s k n) then
    latchSlot s k n upsets else s)

/-! ### The layer window (R60, R70, R76, R88) -/

/-- A word of the window at a byte offset. -/
def readLayerWindow (s : State) (off : Nat) : Word :=
  if off < 0x4000 then Store.get zeroW s.lyr.staged (off / 4)
  else if off < 0x8000 then Store.get zeroW s.lyr.active ((off - 0x4000) / 4)
  else if off < 0xC000 then
    let i := (off - 0x8000) / 16
    let x := latched s (i / 128) (i % 128)
    match off / 4 % 4 with
    | 0 => x.w0
    | 1 => w32 x.seq
    | 2 => w32 (x.seq / 2 ^ 32)
    | _ => if x.w0 = 0 then 0 else dTag x.desc
  else 0

/-- A write through the window: the staged bank, guarded while its group is queued; the active bank is read only. -/
def writeLayerWindow (s : State) (off : Nat) (v : Word) : State :=
  if off < 0x4000 then
    let q := queuedGroups s
    let busy := bit q (dGroup (stagedDesc s (off / 0x80))) || (off / 4 % 32 == 0 && bit q (fld v 20 16))
    if busy then bump s Reg.LYR.STAGE_BUSY
    else { s with lyr := { s.lyr with staged := Store.set zeroW s.lyr.staged (off / 4) v } }
  else if off < 0x8000 then bump s Reg.LYR.STAGE_BUSY
  else s

end Sys2Proof.Machine
end

