-- ==== Sys2Proof/Machine/Fetch.lean ====
section
/-! DEFINITION. Display fetch requests (R102 to R104, R136, R166): what they cover, and how they enter the fabric. -/

namespace Sys2Proof.Machine

/-- Units of 64 bytes gathered into granules of 256 bytes: granule number and the units of it. -/
def granulesOf : List Nat → List (Nat × List Nat)
  | [] => []
  | u :: us =>
    match granulesOf us with
    | (g, l) :: rest => if g = u / 4 then (g, u % 4 :: l) :: rest else (u / 4, [u % 4]) :: (g, l) :: rest
    | [] => [(u / 4, [u % 4])]

/-- Put requests for units of a source into the fabric, in issue order, for band `b` with its deadline tag. -/
def issueFetch (c : PhaseCtx) (b : Nat) (kind : FetchKind) (s : State) (units : List Nat) : State :=
  (granulesOf units).foldl (fun s e =>
    let r : FetchReq := ⟨s.fab.next, c.k, c.n, b, kind, 256 * e.1, e.2, [], [], [], c.begin_ b, fabClk s, false⟩
    { s with fab := { s.fab with reqs := s.fab.reqs ++ [r], next := s.fab.next + 1 } }) s

/-- Addresses / 64 of unit `u` in rows of a range. -/
def rowUnits (src : Surf) (r : Int × Int) (us : List Nat) : List Nat :=
  (List.range (rowCount r)).flatMap fun i => us.map fun u => (src.base + (r.1.toNat + i) * src.stride) / 64 + u

/-- Units that band `b` of a layer reads anew, by stripe (R102, R136). -/
def layerUnits (g : Geom) (b : Nat) (cols prev : List Nat) : List (List Nat) :=
  let x := g.need b cols
  let y := if b = 0 then ((0, -1), []) else g.need (b - 1) prev
  x.2.zipIdx.map fun e =>
    let old := y.2.getD e.2 []
    (List.range (rowCount x.1)).flatMap fun i =>
      let row : Int := x.1.1 + i
      let us := if y.1.1 ≤ row ∧ row ≤ y.1.2 then e.1.filter fun u => !old.contains u else e.1
      rowUnits g.src (row, row) us

/-- Units that an awning's placement requires in band `b`, by stripe: whole read ranges (R136). -/
def awningUnits (g : Geom) (b : Nat) : List (List Nat) :=
  let rows := g.rows (16 * b) (16 * b + 15)
  (g.stripes.getD []).map fun e =>
    let u := g.units (g.cx + g.decH * e.2.2.1) (g.cx + g.decH * e.2.2.2 + g.decH - 1)
    rowUnits g.src rows (rangeUnits [u])

/-- The awning's geometry in a phase at a placement. -/
def awningGeom (s : State) (c : PhaseCtx) (x : Latched) (place : Int × Int × Nat × Nat) : Geom :=
  geomOf x.desc (dSurf s x.desc x.buf) place c.bypass

/-- Layers of a slot that R135 composes, with the states its latch gave them (R94, R100); awnings drop out under AWN's safe action (R388). -/
def composedLayers (s : State) (c : PhaseCtx) : List (Nat × Latched) :=
  c.layers.filter fun e => !c.lost.contains e.1 && !(dAwning e.2.desc && safe s Page.AWN)

end Sys2Proof.Machine
end

