-- ==== Sys2Proof/Machine/Htl.lean ====
section
/-! DEFINITION. Timestamps at the reference plane (R288, R289), HTL frames (R225, R226), and what a tile port queues and starts
(R255 to R258). -/

namespace Sys2Proof.Machine

/-- Reset words of the port timing table: tile, ingest, service ports; ASYM 0 (R299). -/
def timingDefault (k : Nat) : Word :=
  if k % 2 = 1 then 0 else if k / 2 < 256 then 0x03D40268 else if k / 2 < 272 then 0x048802C0 else 0x058C0340

/-- A word of the port timing table (R299): entry `e`, word 0 or 1. -/
def timingWord (s : State) (e i : Nat) : Word := Store.get timingDefault s.time.timing (2 * e + i)

/-- The counter in 2^-16 ns. -/
def now16 (s : State) : Int := (s.time.count / 2 ^ 16 : Nat)

/-- ASYM of entry `e` in 1/16 ns (R299). -/
def asym (s : State) (e : Nat) : Int := toSigned 32 (timingWord s e 1).toNat

/-- Egress time of a frame that leaves now, in 2^-16 ns (R288). -/
def egressTime (s : State) (e : Nat) : Int := now16 s + (fld (timingWord s e 0) 15 0 - asym s e) * 4096

/-- Ingress time of a frame that arrives now, in 2^-16 ns (R288). -/
def ingressTime (s : State) (e : Nat) : Int := now16 s - (fld (timingWord s e 0) 31 16 + asym s e) * 4096

/-- Seconds (48 bits), nanoseconds and 16-bit fraction of a time in 2^-16 ns. -/
def splitTime (t : Int) : Nat × Nat × Nat :=
  let ns := t / 65536
  (wrapTo 48 (ns / 1000000000), (ns % 1000000000).toNat, (t % 65536).toNat)

/-- SEQ_CTRL as its END and CHAIN act on a port: as sampled at the last restart, at their reset values before the first one (R222). -/
def seqCtlOf (s : State) (p : Nat) : Word :=
  match (port s p).seqCtl with
  | some w => w
  | none => 0

/-- END of a port. -/
def portEnd (s : State) (p : Nat) : Nat := fld (seqCtlOf s p) 1 1

/-- CHAIN of a port. -/
def portChain (s : State) (p : Nat) : Nat := fld (seqCtlOf s p) 15 8

/-- The port is enabled and HTL runs (R252, R255). -/
def portOn (s : State) (p : Nat) : Bool := rdB s (Reg.TP.PORT_CTRL p) 0 && rdB s Reg.TLG.TLG_CTRL 0

/-- The port's link is up (R270). -/
def portLink (s : State) (p : Nat) : Bool := rdB s (Reg.TP.PORT_CTRL p) 0 && (port s p).linkUp

/-- The Ethernet header of the port's HTL frames (R225). -/
def ethHeader (s : State) (p : Nat) : List Byte :=
  beBytes 2 (rdF s Reg.TLG.HTL_DA_HI 15 0) ++ beBytes 4 (rdN s Reg.TLG.HTL_DA_LO) ++
    beBytes 2 (rdF s Reg.TLG.MAC_BASE_HI 15 0) ++ beBytes 3 (rdF s Reg.TLG.MAC_BASE_LO 31 8) ++ beBytes 1 p ++
    beBytes 2 (rdF s Reg.TLG.ETHERTYPE 15 0)

/-- PSEQ of a frame queued now: that of the slot in progress, which runs out after PH_EN is cleared (R226, R293); 0 outside any slot
(log entry 133). -/
def slotPseq (s : State) : Nat :=
  match s.grid.cur with
  | some x => if rdB s Reg.TIM.TIM_STATUS 1 || !reached s ((ctxOf s x.1 x.2).stop * 1000) then pseq x.1 x.2 else 0
  | none => 0

/-- The common header of a frame the port sends (R226). -/
def htlHeader (s : State) (p type pseq len fidx : Nat) : List Byte :=
  beBytes 1 (0x10 + type) ++ beBytes 1 (portEnd s p + 2 * (rdF s Reg.TLG.TLG_CTRL 3 3)) ++ beBytes 1 (portChain s p) ++
    [0] ++ beBytes 4 pseq ++ beBytes 2 len ++ beBytes 2 fidx ++ beBytes 4 (rdN s Reg.TLG.DEV_TAG)

/-- The next FIDX of a type, and the state that has counted it (R226). -/
def takeFidx (s : State) (p type : Nat) : Nat × State :=
  let x := port s p
  let n := Store.get zeroN x.fidx type
  (n, setPort s p { x with fidx := Store.set zeroN x.fidx type ((n + 1) % 65536) })

/-- Ethernet bytes of a frame with an HTL frame of `n` bytes: header, padding to 46, FCS (R225). -/
def ethBytes (n : Nat) : Nat := 18 + max 46 n

/-- L of a frame of `n` Ethernet bytes (R257). -/
def rateLen (s : State) (p n : Nat) : Nat :=
  let m := n + rdF s (Reg.TP.PORT_CTRL p) 13 8
  if rdB s (Reg.TP.PORT_CTRL p) 14 then ceilDiv (m * 66) 64 else m

/-- Wire time of a frame of `n` Ethernet bytes, in TOk clocks (R257). -/
def wireTime (n : Nat) : Nat := ceilDiv (n + 20) 8

/-- Replace bytes of a frame from an offset. -/
def putBytes (bs : List Byte) (o : Nat) (v : List Byte) : List Byte := bs.take o ++ v ++ bs.drop (o + v.length)

/-- The Ethernet frame of an HTL frame: header, padding with zeros to 46 bytes, FCS (R225). -/
def ethFrame (s : State) (p : Nat) (htl : List Byte) : List Byte :=
  withFcs (ethHeader s p ++ padTo (max 46 htl.length) htl)

/-- The transmitter of port `p` starts an HTL frame: it occupies the wire for its wire time; with LINK = 0 idle is sent in
its place and TX_LINK_DOWN counts (R258). -/
def startTx (s : State) (p : Nat) (cls : TxClass) (htl : List Byte) (se : Nat) (mq : Option Nat) : State :=
  let n := ethBytes htl.length
  let up := portLink s p
  let bytes := if up then ethFrame s p htl else []
  let stop := tileClk s + wireTime n
  let s := setPort s p { port s p with tx := some ⟨cls, bytes, stop, se, mq⟩, txFree := stop }
  if up then bump64 s (Reg.TP.TX_BYTES_LO p) (Reg.TP.TX_BYTES_HI p) n else bump s (Reg.TP.TX_LINK_DOWN p)

/-- Queue a class T frame; a port that is off discards it (R255). -/
def queueT (s : State) (p : Nat) (time : Bool) (htl : List Byte) : State :=
  let x := port s p
  if portOn s p then setPort s p { x with tq := x.tq ++ [⟨time, htl, s.time.uptime, tileClk s⟩] } else s

/-- Queue a time frame on port `p`, ORIGIN left to egress (R236, R295). -/
def queueTime (s : State) (p : Nat) : State :=
  if portOn s p then
    let r := takeFidx s p 3
    let st := rd s Reg.TIM.SYNC_STATE
    let step := decide (s.time.steps ≠ (port s p).stepSeen)
    let body := List.replicate 20 0 ++ beBytes 2 (rdF s Reg.TIM.UTC_OFS 15 0) ++
      beBytes 1 (fld st 0 0 + 2 * fld st 1 1 + 4 * step.toNat) ++ [0]
    let htl := htlHeader s p 3 (slotPseq s) 40 r.1 ++ body
    let s := r.2
    let s := setPort s p { port s p with stepSeen := s.time.steps }
    queueT s p true htl
  else s

/-- Queue a time frame on every tile port (R236, R281). -/
def queueTimeAll (s : State) : State :=
  if rdB s Reg.TLG.TLG_CTRL 2 && serdesOn s then (List.range 256).foldl queueTime s else s

/-! ### The receive ring of firmware (R406) -/

/-- Bytes of MGT SRAM. -/
def sramBytes : Nat := 0x400000

/-- Write bytes to MGT SRAM; past its end there is nothing. -/
def sramWrite (s : State) (a : Nat) (bs : List Byte) : State :=
  { s with mgt := { s.mgt with sram := Store.setList memDefault s.mgt.sram a (bs.take (sramBytes - a)) } }

/-- An address of MGT SRAM holds firmware code, which none but the TC writes after its load (R398, R402). -/
def holdsCode (s : State) (a : Nat) : Bool :=
  s.mgt.parts.any fun c => c.code && decide (c.load ≤ a) && decide (a < c.load + c.length)

/-- A write to MGT SRAM by an agent other than the TC: bytes of firmware code stay. -/
def sramStore (s : State) (a : Nat) (bs : List Byte) : State :=
  sramWrite s a (bs.zipIdx.map fun e => if holdsCode s (a + e.2) then Store.get memDefault s.mgt.sram (a + e.2) else e.1)

/-- Read bytes of MGT SRAM. -/
def sramRead (s : State) (a n : Nat) : List Byte := Store.slice memDefault s.mgt.sram a n

/-- The receive ring of firmware is on and holds a free place (R406). -/
def fwRoom (s : State) : Bool :=
  let cfg := rd s Reg.MGT.RXQ_CFG
  let idx := rd s Reg.MGT.RXQ_IDX
  bit cfg 0 && decide (wrapTo 16 ((fld idx 15 0 : Int) - fld idx 31 16) < 2 ^ fld cfg 4 1)

/-- Hand a frame to firmware (R406): a descriptor and a buffer of the receive ring, or RX_DROP where the ring is full or off.
`kind` 0 IG, 1 SV, 2 tile return, 3 PTP; `t` the ingress time in 2^-16 ns. -/
def fwReceive (s : State) (prt kind : Nat) (t : Option Int) (frame : List Byte) : State :=
  let cfg := rd s Reg.MGT.RXQ_CFG
  let size := 2 ^ fld cfg 4 1
  let prod := rdF s Reg.MGT.RXQ_IDX 15 0
  if !fwRoom s then raiseE (bump s Reg.MGT.RX_DROP) Page.MGT 3
  else
    let base := rdN s Reg.MGT.RXQ_BASE
    let i := prod % size
    let tm := splitTime (t.getD 0)
    let tm := if t.isSome then tm else (0, 0, 0)
    let len := min frame.length 9216
    let desc := leBytes 2 len ++ leBytes 1 prt ++ leBytes 1 kind ++ leBytes 4 t.isSome.toNat ++ leBytes 8 tm.1 ++
      leBytes 8 tm.2.1 ++ leBytes 8 tm.2.2
    let s := sramStore s (base + 32 * i) desc
    let s := sramStore s (base + 32 * size + 9216 * i) (frame.take 9216)
    wrF s Reg.MGT.RXQ_IDX 15 0 (prod + 1)

end Sys2Proof.Machine
end

