-- ==== Sys2Proof/Machine/Time.lean ====
section
/-! DEFINITION. Time and phase alignment (R272 to R300). -/

namespace Sys2Proof.Machine

/-- Seconds of the counter run modulo 2^48 (R272). -/
def counterModulus : Nat := 2 ^ 48 * 1000000000 * 2 ^ 32

/-- The increment in force, in 2^-32 ns (R274). -/
def increment (s : State) : Nat := rdN s Reg.TIM.INC_NS * 2 ^ 32 + rdN s Reg.TIM.INC_FRAC

/-- The increment is frozen: holdover without HOLD_STEER, or the TIM safe action (R286, R388). -/
def incFrozen (s : State) : Bool :=
  safe s Page.TIM || (rdB s Reg.TIM.SYNC_STATE 1 && !rdB s Reg.TIM.TIM_CTRL 1)

/-- Set HOLDOVER with a cause; LOCKED is cleared with it (R286). -/
def enterHoldover (s : State) (cause : Nat) : State := wrCfg s Reg.TIM.SYNC_STATE (w32 (2 + 4 * cause))

/-- R272, R276: one TIME clock. A whole second is reached once: a backward step does not bring it again, and a forward step that
passes it raises the pin in the next clock (R279). -/
def execTimeCounterTick (s : State) : Host.Outcome State Fault Refusal :=
  let c := s.time.count + increment s
  let sec := 1000000000 * 2 ^ 32
  let whole := decide (s.time.ppsSec < c / sec)
  let en := rdB s Reg.TIM.TIM_CTRL 3
  let up := s.time.uptime + 1
  live s { s with time := { s.time with
    count := c % counterModulus
    uptime := up
    pps := en && (whole || s.time.pps)
    ppsAt := if en && whole then up else s.time.ppsAt
    ppsSec := if whole then c % counterModulus / sec else s.time.ppsSec
    gated := if serdesOn s then s.time.gated else s.time.gated + 1 } }

/-- R274: INC_OFS. -/
def execIncOfsWrite (a : Agent) (v : Word) (s : State) : Host.Outcome State Fault Refusal :=
  let o := clampI (-8589935) 8589935 (toSigned 32 v.toNat)
  let inc := (2 ^ 33 + o).toNat
  live s (guarded s a Reg.TIM.INC_OFS v .cmd
    (if incFrozen s then bump s Reg.TIM.INC_HELD
     else wr (wr s Reg.TIM.INC_NS (w32 (inc / 2 ^ 32))) Reg.TIM.INC_FRAC (w32 inc)))

/-- Latch the counter into the CAP registers, with VALID and SOURCE, and pulse the capture line (R275, R366). -/
def capture (s : State) (source : Nat) : State :=
  let ns := nowNs s
  let sec := ns / 1000000000
  let s := wr s Reg.TIM.CAP_SEC_HI (w32 (sec / 2 ^ 32 % 2 ^ 16))
  let s := wr s Reg.TIM.CAP_SEC_LO (w32 sec)
  let s := wr s Reg.TIM.CAP_NS (w32 (ns % 1000000000))
  let s := wr s Reg.TIM.CAP_FRAC (w32 s.time.count)
  let s := wr s Reg.TIM.CAP_STATUS (w32 (1 + 2 * source))
  pulse s 29

/-- R275: CAP.GO. -/
def execCaptureGo (a : Agent) (v : Word) (s : State) : Host.Outcome State Fault Refusal :=
  live s (guarded s a Reg.TIM.CAP v .cmd (if bit v 0 then capture s 0 else s))

/-- R275: CAP_CTRL written with ARM. -/
def execCaptureArm (a : Agent) (v : Word) (s : State) : Host.Outcome State Fault Refusal :=
  let t := wrCfg s Reg.TIM.CAP_CTRL (v &&& 0x3FF)
  let t := if bit v 9 then
      { wrB t Reg.TIM.CAP_STATUS 0 false with time := { t.time with capSeen := false } }
    else t
  live s (guarded s a Reg.TIM.CAP_CTRL v .cfg t)

/-- R275: the armed line has pulsed. -/
def execCaptureEvent (s : State) : Host.Outcome State Fault Refusal :=
  let t := { s with time := { s.time with capSeen := false } }
  live s (if s.time.capSeen && rdB s Reg.TIM.CAP_CTRL 9 then capture (wrCfg t Reg.TIM.CAP_CTRL (setBit (rd t Reg.TIM.CAP_CTRL) 9 false)) 1
    else s)

/-- R276: WIDTH µs after the second TIME_PPS_OUT goes low. -/
def execPpsEnd (s : State) : Host.Outcome State Fault Refusal :=
  live s (if s.time.pps && elapsedUs s s.time.ppsAt (rdF s Reg.TIM.PPS_CTRL 15 0)
    then { s with time := { s.time with pps := false } } else s)

/-- Frames that come again after a backward resynchronisation have no history: contexts, bands, requests and restarts of frames from
`k` on are forgotten. -/
def forgetFrom (s : State) (k : Nat) : State :=
  { s with
    dls := { s.dls with ctxs := s.dls.ctxs.filter (fun c => decide (c.k < k)), ring := s.dls.ring.filter (fun r => decide (r.k < k)) }
    cal := { s.cal with ctxs := s.cal.ctxs.filter (fun c => decide (c.k < k)) }
    fab := { s.fab with reqs := s.fab.reqs.filter (fun r => decide (r.k < k)), stage := s.fab.stage.filter (fun r => decide (r.k < k)) }
    lyr := { s.lyr with reading := s.lyr.reading.filter (fun e => decide (e.1 < 8 * k)) }
    ports := Store.mapV (fun _ => TilePort.reset)
      (fun x => { x with last := x.last.filter (fun e => decide (e.1 < k)) }) s.ports }

/-- Publish the slots from the first frame 50 ms ahead: its first slot is the next, its latch lead is sampled (R293, R72). A slot that
still runs out stays the one in progress. -/
def publish (s : State) (fromNs : Nat) : State :=
  match curGrid s with
  | none => s
  | some g =>
    let k := firstSlotFrame s g fromNs
    let s := forgetFrom s k
    { s with grid := { s.grid with next := some (k, 0), leads := [(k, 0, rdN s Reg.LYR.LATCH_LEAD)] } }

/-- What a step of `d` (2^-32 ns) does to phase instants (R280): with |δ| of SLOT_MIN or more they resynchronise, and no slot is in
progress. -/
def stepPhases (s : State) (d : Int) : State :=
  if rdB s Reg.TIM.TIM_CTRL 0 ∧ slotMin s * 2 ^ 32 ≤ d.natAbs then
    let s := wrB (wrB s Reg.TIM.TIM_STATUS 1 false) Reg.TIM.TIM_STATUS 2 true
    publish { s with grid := { s.grid with cur := none } } (nowNsUp s + ms50)
  else s

/-- A step request for the counter value `t` (2^-32 ns), judged and carried out (R277 to R281). -/
def stepRequest (s : State) (abs : Bool) (t : Int) : State :=
  let d := t - s.time.count
  if rdB s Reg.TIM.TIM_STATUS 0 ∧ rdN s Reg.TIM.JUMP_MAX * 1000 * 2 ^ 32 < d.natAbs then
    let s := bump s Reg.TIM.STEP_REFUSED
    let s := wr64 s Reg.TIM.LAST_REFUSED_LO Reg.TIM.LAST_REFUSED_HI (wrapTo 64 (d.tdiv (2 ^ 32)))
    raiseE (enterHoldover s 2) Page.TIM 1
  else
    let c := (t % counterModulus).toNat
    let s := { s with time := { s.time with count := c, steps := s.time.steps + 1 } }
    let s := bump s Reg.TIM.STEP_COUNT
    let s := if abs then wrB s Reg.TIM.TIM_STATUS 0 true else s
    queueTimeAll (stepPhases s d)

/-- STEP_SEC of the registers, 48 bits. -/
def stepSec (s : State) : Nat := rdN s Reg.TIM.STEP_SEC_LO + 2 ^ 32 * rdF s Reg.TIM.STEP_SEC_HI 15 0

/-- R277, SET = 0: the registers hold a signed offset. -/
def execStepOffset (a : Agent) (v : Word) (s : State) : Host.Outcome State Fault Refusal :=
  let d := toSigned 48 (stepSec s) * 1000000000 + toSigned 32 (rdN s Reg.TIM.STEP_NS)
  live s (guarded s a Reg.TIM.STEP v .cmd
    (if bit v 0 && !bit v 1 then stepRequest s false (s.time.count + d * 2 ^ 32) else s))

/-- R277, SET = 1: the registers hold an absolute time. -/
def execStepAbsolute (a : Agent) (v : Word) (s : State) : Host.Outcome State Fault Refusal :=
  let t := stepSec s * 1000000000 + rdN s Reg.TIM.STEP_NS
  live s (guarded s a Reg.TIM.STEP v .cmd
    (if bit v 0 && bit v 1 then stepRequest s true ((t * 2 ^ 32 : Nat) : Int) else s))

/-! ### Service ports and PTP (R282 to R285) -/

/-- LINK of service port `i` as PORT_STATUS shows it. -/
def svLink (s : State) (i : Nat) : Bool := rdB s (Reg.SV.PORT_CTRL i) 0 && rdB s (Reg.SV.PORT_STATUS i) 0

/-- R284: link and block lock of a service port; a fall of LINK is a cause. -/
def execSvLinkChange (i : Nat) (up lock : Bool) (s : State) : Host.Outcome State Fault Refusal :=
  let fell := svLink s i && !up
  let t := wr s (Reg.SV.PORT_STATUS i) (w32 (up.toNat + 2 * lock.toNat))
  live s (if i < 2 then (if fell then raiseE t (Page.SV i) 0 else t) else s)

/-- A frame is PTP (R36 rule 2, R284 rule 2). -/
def isPtp (f : NetFrame) : Bool :=
  f.etherType == 0x88F7 || (match f.udp with | some u => u.dstPort == 319 || u.dstPort == 320 | none => false)

/-- A frame goes to the awning block (R36, R284 rule 3). -/
def isPlacement (s : State) (f : NetFrame) : Bool :=
  match f.udp with
  | some u => u.dstPort ≠ 0 && u.dstPort == rdF s Reg.AWN.AWN_CTRL 31 16
  | none => false

/-- R284: a frame at a service port. Its PTP or placement contents act in the command of their own that follows. -/
def execSvFrameRx (i : Nat) (f : NetFrame) (s : State) : Host.Outcome State Fault Refusal :=
  let c := rd s (Reg.SV.PORT_CTRL i)
  let t := bump s (Reg.SV.RX_FRAMES i)
  let r :=
    if f.fcsError then bump t (Reg.SV.RX_FCS_ERR i)
    else if safe s (Page.SV i) then bump t (Reg.SV.FWD_DROP i)
    else if bit c 1 && isPtp f then bump t (Reg.SV.PTP_RX i)
    else if bit c 2 && isPlacement s f then t
    else if bit c 3 then fwReceive t i 1 (some (ingressTime s (272 + i))) f.raw
    else bump t (Reg.SV.FWD_DROP i)
  live s (if decide (i < 2) && svLink s i then r else s)

/-- The IG port receives (R36). -/
def igUp (s : State) (i : Nat) : Bool :=
  rdB s (Reg.IG.PORT_CTRL i) 0 && (Store.get (fun _ => (false, false, 0)) s.ing.igLink i).1

/-- A port hears PTP: it receives, outside its page's safe action, with PTP_EN set (R36, R284). -/
def ptpPort (s : State) : Via → Bool
  | .ig i => decide (i < 16) && igUp s i && !safe s (Page.IG i) && rdB s (Reg.IG.PORT_CTRL i) 1
  | .sv i => decide (i < 2) && svLink s i && !safe s (Page.SV i) && rdB s (Reg.SV.PORT_CTRL i) 1

/-- Port number of a PTP message's port as SRC.PORT numbers ports (R296), and its entry in the timing table. -/
def viaPort : Via → Nat × Nat
  | .ig i => (i, 256 + i)
  | .sv i => (16 + i, 272 + i)

/-- The header filter of R282. -/
def ptpPasses (s : State) (m : Ptp) : Bool :=
  let src := rd s Reg.TIM.SRC
  m.version == 2 && decide (m.minor < 2) && m.domain == fld src 15 8 && m.sdo == fld src 19 16 &&
    (decide (m.messageType < 4) || (decide (8 ≤ m.messageType) && decide (m.messageType < 14)))

/-- A Sync is accepted for the watch (R285). -/
def syncAccepted (s : State) (via : Via) (m : Ptp) : Bool :=
  m.messageType == 0 && (viaPort via).1 == rdF s Reg.TIM.SRC 4 0 &&
    (rdB s Reg.TIM.TIM_CTRL 2 ||
      (m.clockId.toNat == 2 ^ 32 * rdN s Reg.TIM.MASTER_ID_HI + rdN s Reg.TIM.MASTER_ID_LO &&
        m.portNumber.toNat == rdF s Reg.TIM.MASTER_PORT 15 0))

/-- R283, R285: a PTP message that came by a port which hears PTP. -/
def execPtpMessage (via : Via) (m : Ptp) (raw : List Byte) (s : State) : Host.Outcome State Fault Refusal :=
  let p := viaPort via
  let ts := if m.messageType < 4 then some (ingressTime s p.2) else none
  let t := if syncAccepted s via m then
      { bump s Reg.TIM.SYNC_RX with time := { s.time with watch := some s.time.uptime } }
    else s
  live s (if !ptpPort s via then s else if ptpPasses s m then fwReceive t p.1 3 ts raw else bump s Reg.TIM.PTP_DROP)

/-- R285: SYNC_TMO has passed with no accepted Sync, one of the clock in which it expires included. -/
def execSyncTimeout (s : State) : Host.Outcome State Fault Refusal :=
  let due := match s.time.watch with
    | some w => overUs s w (rdN s Reg.TIM.SYNC_TMO)
    | none => false
  let t := { s with time := { s.time with watch := none } }
  live s (if due then bump (enterHoldover t 1) Reg.TIM.SYNC_TIMEOUTS else s)

/-- A write of SYNC_STATE (R286, R298): a 1 to HOLDOVER ends holdover and the TIM safe action's hold, unless the safe action's
cause still stands; LOCKED is judged against HOLDOVER as it is then. -/
def writeSyncState (s : State) (v : Word) : State :=
  let was := rdB s Reg.TIM.SYNC_STATE 1
  let s1 := if bit v 1 then releaseSafe s Page.TIM else s
  let stays := was && (!bit v 1 || safe s1 Page.TIM)
  let cause := if stays then rdF s1 Reg.TIM.SYNC_STATE 3 2 else 0
  let locked := bit v 0 && !stays
  let s2 := wrCfg s1 Reg.TIM.SYNC_STATE (w32 (locked.toNat + 2 * stays.toNat + 4 * cause))
  if was && !stays then { s2 with time := { s2.time with watch := some s2.time.uptime } } else s2

/-- A write of SYNC_STATE by an agent. A lock never blocks the clearing of HOLDOVER, a W1C bit (R385): with the page's CFG lock set a
write of 1 to it clears it, LOCKED kept; any other write is refused (log entry 136). -/
def syncStateWrite (s : State) (a : Agent) (v : Word) : State :=
  if bit v 1 && locked s Page.TIM .cfg then
    guarded s a Reg.TIM.SYNC_STATE v .open (writeSyncState s (setBit v 0 (rdB s Reg.TIM.SYNC_STATE 0)))
  else guarded s a Reg.TIM.SYNC_STATE v .cfg (writeSyncState s v)

/-- R286: a write of 1 to HOLDOVER. -/
def execHoldoverEnd (a : Agent) (v : Word) (s : State) : Host.Outcome State Fault Refusal := live s (syncStateWrite s a v)

/-- R298: a write of LOCKED. -/
def execLockedWrite (a : Agent) (v : Word) (s : State) : Host.Outcome State Fault Refusal := live s (syncStateWrite s a v)

/-! ### Phase instants (R293, R294) -/

/-- SLOT_MIN shows the grid's shortest slot as last formed: at an accepted write of the grid's registers or of PH_EN, and at an offset
change (log entry 137). -/
def showSlotMin (s : State) : State := wr s Reg.TIM.SLOT_MIN (w32 (slotMin s))

/-- Why PH_EN is refused (R293, R297). -/
def phRefusal (s : State) : Option Nat :=
  if rdB s Reg.TIM.TIM_STATUS 0 then gridFault (curGrid s) else some 1

/-- A write of TIM_CTRL: with PPS_EN = 0 the pin goes low (R276); a rise of PH_EN is judged and starts the phases, which keep their
instants where they already run (R293, log entry 13); PH_EN = 0 stops them. -/
def writeTimCtrl (s : State) (v : Word) : State :=
  let on := rdB s Reg.TIM.TIM_CTRL 0
  let t := wrCfg s Reg.TIM.TIM_CTRL (v &&& 0xF)
  let t := { t with time := { t.time with pps := t.time.pps && bit v 3 } }
  if !bit v 0 then
    let t := wrF t Reg.TIM.TIM_STATUS 2 1 0
    { t with grid := { t.grid with next := none, leads := [] } }
  else if on then t
  else match phRefusal s with
    | some c =>
      raiseE (wrF (wrCfg t Reg.TIM.TIM_CTRL (v &&& 0xE)) Reg.TIM.TIM_STATUS 7 4 c) Page.TIM 2
    | none => publish (showSlotMin (wrF t Reg.TIM.TIM_STATUS 7 4 0)) (nowNsUp s + ms50)

/-- R293: a write of TIM_CTRL with PH_EN = 1. -/
def execPhaseEnable (a : Agent) (v : Word) (s : State) : Host.Outcome State Fault Refusal :=
  live s (guarded s a Reg.TIM.TIM_CTRL v .cfg (writeTimCtrl s v))

/-- R293: a write of TIM_CTRL with PH_EN = 0. -/
def execPhaseDisable (a : Agent) (v : Word) (s : State) : Host.Outcome State Fault Refusal :=
  live s (guarded s a Reg.TIM.TIM_CTRL v .cfg (writeTimCtrl s v))

/-- R293, R72, R251: S(k, n) is reached. -/
def execPhaseStart (k n : Nat) (s : State) : Host.Outcome State Fault Refusal :=
  let nx := nextSlot s k n
  let t := { s with grid := { s.grid with
    cur := some (k, n)
    next := some nx
    leads := ((nx.1, nx.2, rdN s Reg.LYR.LATCH_LEAD) :: s.grid.leads).take 16
    count := s.grid.count + 1 }, twn := { s.twn with slotF := [] } }
  let t := wrF t Reg.TIM.TIM_STATUS 2 1 1
  live s (if s.grid.next == some (k, n) && reached s (slotStart s k n * 1000) then pulse t n else s)

/-- The offsets of the NEXT registers. -/
def nextOffsets (s : State) : Word × List Word :=
  (rd s Reg.TIM.FRAME_OFS_NEXT, (List.range 8).map fun i => rd s (Reg.TIM.PH_OFS_NEXT i))

/-- The first frame whose A(k) is 50 ms ahead of the GO (R294). -/
def applyFrame (s : State) (g : GridP) : Nat :=
  ceilDiv ((nowNsUp s + ms50) * g.num) (g.den * 1000000000)

/-- Why an OFS_APPLY.GO is refused (R294, R297). -/
def ofsRefusal (s : State) : Option Nat :=
  if rdB s Reg.TIM.OFS_STATUS 0 || !rdB s Reg.TIM.TIM_CTRL 0 then some 6
  else
    let x := nextOffsets s
    let new := gridOf (rd s Reg.TIM.PH_RATE) x.1 x.2
    match gridFault new with
    | some c => some c
    | none =>
      match new, curGrid s with
      | some g, some old =>
        let k := applyFrame s g
        if g.start k 0 - old.start (k - 1) (old.nph - 1) < min old.slotMin g.slotMin then some 5 else none
      | _, _ => some 2

/-- R294: OFS_APPLY.GO. The NEXT values are taken at the GO (log entry 14). -/
def execOffsetApplyGo (a : Agent) (v : Word) (s : State) : Host.Outcome State Fault Refusal :=
  let x := nextOffsets s
  let r :=
    if bit v 0 then
      match ofsRefusal s, curGrid s with
      | none, some g =>
        let t := wr s Reg.TIM.OFS_STATUS 1
        { t with grid := { t.grid with pend := some ⟨applyFrame s g, x.1, x.2⟩ } }
      | c, _ => raiseE (wrF s Reg.TIM.OFS_STATUS 7 4 (c.getD 2)) Page.TIM 3
    else s
  live s (guarded s a Reg.TIM.OFS_APPLY v .cmd r)

/-- R294: frame k has come; the new values stand in FRAME_OFS and PH_OFS. -/
def execOffsetApplyEffect (s : State) : Host.Outcome State Fault Refusal :=
  live s (match s.grid.pend with
    | some o =>
      if reached s (slotStart s o.frame 0 * 1000) then
        let t := { s with grid := { s.grid with pend := none } }
        let t := wrCfg t Reg.TIM.FRAME_OFS o.fofs
        let t := (o.ofs.zipIdx).foldl (fun t e => wrCfg t (Reg.TIM.PH_OFS e.2) e.1) t
        showSlotMin (wrB t Reg.TIM.OFS_STATUS 0 false)
      else s
    | none => s)

end Sys2Proof.Machine
end

