-- ==== Sys2Proof/Machine/Ingest.lean ====
section
/-! DEFINITION. Ingest: ports, classification, frames and fences, buffer rotation, stream entries, SDI inputs (R33 to R59). -/

namespace Sys2Proof.Machine

/-! ### Shared pieces -/

/-- Count one event in status word `w` of stream `st` (R56); saturating. -/
def statBump (s : State) (st w : Nat) : State :=
  let k := 8 * st + w
  let v := (Store.get zeroW s.ing.stat k).toNat
  { s with ing := { s.ing with stat := Store.set zeroW s.ing.stat k (w32 (min 0xFFFFFFFF (v + 1))) } }

/-- W0.EN of a stream. -/
def streamOn (s : State) (st : Nat) : Bool := bit (igsCfg s st 0) 0

/-- SRC of a stream (R35). -/
def streamSrc (s : State) (st : Nat) : Nat := fld (igsCfg s st 0) 2 1

/-- The SDI input's state: carrier, lock, lines. -/
def sdiState (s : State) (i : Nat) : Bool × Bool × Nat := Store.get (fun _ => (false, false, 0)) s.ing.sdi i

/-- Bytes in port `i`'s buffer (R37). -/
def fillOf (s : State) (i : Nat) : Nat := Store.get zeroN s.ing.fill i

/-- Change the fill of port `i`. -/
def setFill (s : State) (i v : Nat) : State := { s with ing := { s.ing with fill := Store.set zeroN s.ing.fill i v } }

/-- Buffer `j` of stream `st` is pinned (R47): a layer's last latched buffer, or still read by an earlier frame. -/
def pinned (s : State) (st j : Nat) : Bool :=
  (s.lyr.refs.any fun e => match e.2 with | some r => r.st == st && r.buf == j | none => false) ||
    s.lyr.reading.any fun e => e.2.1 == st && e.2.2 == j

/-- Bytes written by a packet or picture, gathered into the 64-byte transfers that carry them. -/
def gatherCells : List (Nat × Byte) → List (Nat × List (Nat × Byte))
  | [] => []
  | c :: cs =>
    match gatherCells cs with
    | (a, l) :: rest => if a = c.1 / 64 then (a, c :: l) :: rest else (c.1 / 64, [c]) :: (a, l) :: rest
    | [] => [(c.1 / 64, [c])]

/-- Queue the data writes of a packet's segments into buffer `buf` (R40): what the fabric grants in order. The packet's `len` bytes
leave the port's buffer when all of them are done (R37). -/
def queueWrites (s : State) (st buf prt len : Nat) (segs : List Seg) : State :=
  let depth := fld (igsCfg s st 0) 22 20
  let cells := segs.flatMap (segCells (streamSurf s st buf) depth)
  let parts := gatherCells cells
  let n := parts.length
  let ws : List IngWrite := parts.map fun e => ⟨st, buf, prt, 64 * e.1, e.2, s.ing.packets, len, fabClk s⟩
  let s := { s with ing := { s.ing with writes := s.ing.writes ++ ws, packets := s.ing.packets + 1 } }
  if n = 0 then setFill s prt (fillOf s prt - len) else s

/-- Bytes of waiting packets leave the port buffers when their frame is dropped or abandoned. -/
def dropHeld (s : State) (held : List (Nat × Nat × Nat × List Seg)) : State :=
  held.foldl (fun s h => setFill s h.2.1 (fillOf s h.2.1 - h.2.2.1)) s

/-! ### Frames (R40, R45) -/

/-- Distance from `a` up to `b` modulo 2^32. -/
def seqUp (a b : Nat) : Nat := wrapTo 32 ((b : Int) - a)

/-- Every sequence number from the first to the marker has come (R40). -/
def OpenFrame.complete (f : OpenFrame) : Bool :=
  match f.first, f.marker with
  | some a, some b => (f.recv.filter fun q => decide (seqUp a q ≤ seqUp a b)).length == seqUp a b + 1
  | _, _ => false

/-- The lowest of the received numbers, by signed difference. -/
def lowestSeq : List Nat → Nat
  | [] => 0
  | q :: qs => qs.foldl (fun m x => if toSigned 32 (seqUp m x) < 0 then x else m) q

/-- The highest of the received numbers. -/
def highestSeq : List Nat → Nat
  | [] => 0
  | q :: qs => qs.foldl (fun m x => if 0 < toSigned 32 (seqUp m x) then x else m) q

/-- MISSING of a frame that closes (R40, R51). -/
def OpenFrame.missing (f : OpenFrame) : Nat :=
  let a := f.first.getD (lowestSeq f.recv)
  let b := f.marker.getD (highestSeq f.recv)
  let n := seqUp a b + 1
  n - (f.recv.filter fun q => decide (seqUp a q < n)).length

/-- Take a frame out of formation; its timestamp stays known for late packets. -/
def removeFrame (s : State) (st : Nat) (f : OpenFrame) : State :=
  let x := stream s st
  setStream s st { x with
    frames := x.frames.erase f
    closed := (f.ts, highestSeq f.recv) :: x.closed
    quiet := if f.discard then some f.ts else x.quiet }

/-- The fence record of R51, with the time of R45's step 1. -/
def fenceRecord (f : FencePend) (seq ns : Nat) : List Byte :=
  let sec := ns / 1000000000
  leBytes 8 seq ++ leBytes 4 f.ts.toNat ++
    leBytes 4 (1 + 2 * f.inc.toNat + (if 0 < f.nA then 4 else 0) + (if 0 < f.nB then 8 else 0) + 256 * f.buf) ++
    leBytes 4 (ns % 1000000000) ++ leBytes 4 (sec % 2 ^ 32) ++ leBytes 4 (sec / 2 ^ 32 % 65536) ++ leBytes 4 f.missing

/-- Address of the fence record of stream `st` and buffer `buf` (R51). -/
def fenceAddr (s : State) (st buf : Nat) : Nat :=
  rdN s Reg.IGS.FENCE_BASE_HI * 2 ^ 32 + rdF s Reg.IGS.FENCE_BASE_LO 31 12 * 4096 + (st * 8 + buf) * 32

/-- A frame has data writes waiting at the fabric. -/
def writesWait (s : State) (st buf : Nat) : Bool := s.ing.writes.any fun w => w.st == st && w.buf == buf

/-- R45's step 1, once every data write of a fence's frame is acknowledged: its FRAME_SEQ and DONE are settled, and a record in device
memory joins the ingest writes (step 2). -/
def noteWritten (s : State) (st buf : Nat) : State :=
  let x := stream s st
  match x.fences.find? fun f => f.buf == buf && f.done.isNone with
  | none => s
  | some f =>
    if writesWait s st buf then s
    else
      let seq := x.count + 1 + (x.fences.filter fun g => g.done.isSome).length
      let a := fenceAddr s st buf
      let t := setStream s st { x with
        fences := replaceFirst (· == f) (fun g => { g with done := some (seq, nowNs s) }) x.fences }
      if rdB s Reg.IGS.IGS_CTRL 1 && decide (a < memBytes) then
        let cells := (fenceRecord f seq (nowNs s)).zipIdx.map fun e => (a + e.2, e.1)
        { t with ing := { t.ing with writes := t.ing.writes ++ [⟨st, buf, 24, a / 64 * 64, cells, t.ing.packets, 0, fabClk s⟩]
                                     packets := t.ing.packets + 1 } }
      else t

/-- A frame goes on its way to its fence (R45). Until the fence is published its buffer still shows as open (log entry 121). -/
def pendFence (s : State) (st : Nat) (f : OpenFrame) (buf : Nat) (inc : Bool) (missing : Nat) : State :=
  let x := stream s st
  noteWritten (setStream s st { x with fences := x.fences ++ [⟨buf, f.ts, inc, f.nA, f.nB, missing, none⟩] }) st buf

/-- A buffer returns to the free state. -/
def freeBuf (s : State) (st buf : Nat) : State := setStream s st ((stream s st).setBuf buf Buf.reset)

/-- FRAME_COMPLETE (R40): the frame is complete; a discarded or dropped one leaves nothing. -/
def finishFrame (s : State) (st : Nat) (f : OpenFrame) : State :=
  let s := removeFrame s st f
  match f.buf with
  | some b => pendFence s st f b false 0
  | none => s

/-- A frame closes without completing (R40, R45). -/
def closeFrame (s : State) (st : Nat) (f : OpenFrame) : State :=
  let s := dropHeld (removeFrame s st f) f.held
  if f.discard || f.dropped then s
  else
    let s := raiseE (bump (statBump s st 6) Reg.IGS.FRAMES_INCOMPLETE) Page.IGS 2
    match f.buf with
    | some b => if bit (igsCfg s st 0) 12 then pendFence s st f b true f.missing else freeBuf s st b
    | none => s

/-- Finish the frames that are complete and wait for no buffer, oldest first. -/
def settleFrames : Nat → State → Nat → State
  | 0, s, _ => s
  | n + 1, s, st =>
    match (stream s st).frames.find? fun f => f.complete && !f.asked with
    | some f => settleFrames n (finishFrame s st f) st
    | none => s

/-! ### Packets (R36 to R44) -/

/-- The path by which an enabled stream takes a packet of port `i`: true for path A. -/
def pathOf (s : State) (i st : Nat) (u : Udp) : Option Bool :=
  let c (w : Nat) := igsCfg s st w
  let hit (prt ip p src : Nat) : Bool :=
    prt == i && ip == u.dstIp.toNat && p == u.dstPort && (src == 0 || src == u.srcIp.toNat)
  if !streamOn s st || decide (2 ≤ streamSrc s st) then none
  else if hit (fld (c 0) 7 4) (c 3).toNat (fld (c 4) 15 0) (c 6).toNat then some true
  else if streamSrc s st = 1 && hit (fld (c 0) 11 8) (c 5).toNat (fld (c 4) 31 16) (c 7).toNat then some false
  else none

/-- The lowest-numbered enabled stream that takes a packet (R36 rule 4), with its path. -/
def matchStream (s : State) (i : Nat) (u : Udp) : Option (Nat × Bool) :=
  (List.range 64).findSome? fun st => (pathOf s i st u).map fun a => (st, a)

/-- A stream's policer judges a packet of `len` bytes, OVH included (R44); CIR 0 disables it. -/
def policeStream (s : State) (st : Nat) (a : Bool) (len : Nat) : Colour × State :=
  let cir := fld (igsCfg s st 13) 16 0
  if cir = 0 then (.green, s)
  else
    let f := freshBit s
    let x := stream f.2 st
    let b := igsCfg s st 15
    let r := police f.1 (if a then x.polA else x.polB) (cir * 1000000) (fld (igsCfg s st 14) 16 0 * 1000000)
      (fld b 15 0 * 1024) (fld b 31 16 * 1024) len (igClk s) 390625000
    (r.1, setStream f.2 st (if a then { x with polA := r.2 } else { x with polB := r.2 }))

/-- A packet with a timestamp not seen before opens a frame (R40): a third one closes the older of the two open; the first after
enabling is discarded; any other waits for its buffer. -/
def openFrame (s : State) (st : Nat) (ts : Word) : State :=
  let x := stream s st
  let s := match x.frames with
    | f :: _ :: _ => closeFrame s st f
    | _ => s
  let x := stream s st
  let f : OpenFrame := {
    ts := ts, discard := x.fresh, first := x.prev.map fun m => (m + 1) % 2 ^ 32, marker := none, markedAt := 0, recv := []
    buf := none, asked := !x.fresh, dropped := false, held := [], nA := 0, nB := 0 }
  setStream s st { x with frames := x.frames ++ [f], fresh := false, prev := none }

/-- A marker packet fixes where the next frame starts (R40). -/
def noteMarker (s : State) (st : Nat) (ts : Word) (q : Nat) : State :=
  let x := stream s st
  let start (l : List OpenFrame) : List OpenFrame := l.map fun g => { g with first := some ((q + 1) % 2 ^ 32) }
  match x.frames with
  | [f] => if f.ts = ts ∧ x.prev.isNone then setStream s st { x with prev := some q } else s
  | [f, g] =>
    if f.ts = ts then setStream s st { x with frames := f :: start [g] }
    else if x.prev.isNone then setStream s st { x with prev := some q } else s
  | _ => s

/-- The window of 65,536 sequence numbers moves up to `q` where it is newer (R40). -/
def Stream.slide (x : Stream) (q : Nat) : Stream :=
  let top := match x.top with
    | some t => if 0 < toSigned 32 (seqUp t q) then q else t
    | none => q
  let near (v : Nat) : Bool := decide (seqUp v top < 65536) || decide (0 < toSigned 32 (seqUp top v))
  { x with top := some top, seen := q :: x.seen.filter near, closed := x.closed.filter fun c => near c.2 }

/-- A new sequence number of an open frame: recorded, and its segments written, held or dropped. -/
def takePacket (s : State) (st prt len : Nat) (a : Bool) (r : Rtp) : State :=
  let q := r.seq.toNat
  let x := (stream s st).slide q
  match x.frames.find? fun f => f.ts == r.ts with
  | none => setStream s st x
  | some f =>
    let mark := r.marker && f.marker.isNone
    let live := !f.discard && !f.dropped
    let g : OpenFrame := { f with
      recv := q :: f.recv
      marker := if mark then some q else f.marker
      markedAt := if mark then s.time.uptime else f.markedAt
      held := if f.asked then f.held ++ [(q, prt, len, r.segs)] else f.held
      nA := f.nA + a.toNat
      nB := f.nB + (!a).toNat }
    let copies := if a || !live then x.copies else (q, s.ing.packets, igClk s) :: x.copies.filter fun c => c.2.2 == igClk s
    let s := setStream s st { x with frames := replaceFirst (· == f) (fun _ => g) x.frames, copies := copies }
    let s := if live then
        let s := setFill s prt (fillOf s prt + len)
        peak s (Reg.IG.BUF_PEAK prt) (ceilDiv (fillOf s prt) 1024)
      else s
    let s := match f.buf with
      | some b => if live then queueWrites s st b prt len r.segs else s
      | none => s
    let s := if mark then noteMarker s st r.ts q else s
    settleFrames 2 s st

/-- Path A's copy of a packet that path B has brought in this very IG clock (R41): it is written in place of path B's, while the frame
still waits for its buffer, is open, or is on its way to its fence. -/
def preferA (s : State) (st prt len : Nat) (r : Rtp) (tag : Nat) : State :=
  let q := r.seq.toNat
  let x := stream s st
  let gone := s.ing.writes.find? fun w => w.pkt == tag && w.st == st
  let s := match gone with
    | some w => setFill { s with ing := { s.ing with writes := s.ing.writes.filter fun v => !(v.pkt == tag && v.st == st) } } w.port
        (fillOf s w.port - w.frees)
    | none => s
  let s := setFill s prt (fillOf s prt + len)
  let s := peak s (Reg.IG.BUF_PEAK prt) (ceilDiv (fillOf s prt) 1024)
  let s := setStream s st { x with copies := x.copies.filter fun c => c.1 != q }
  let x := stream s st
  match x.frames.find? fun f => f.ts == r.ts with
  | some f =>
    let old := f.held.find? fun h => h.1 == q
    let g : OpenFrame := { f with
      nA := f.nA + 1, nB := f.nB - 1, held := f.held.map fun h => if h.1 == q then (q, prt, len, r.segs) else h }
    let s := setStream s st { x with frames := replaceFirst (· == f) (fun _ => g) x.frames }
    match f.buf, old with
    | some b, _ => queueWrites s st b prt len r.segs
    | none, some h => setFill s h.2.1 (fillOf s h.2.1 - h.2.2.1)
    | none, none => s
  | none =>
    match x.fences.find? fun f => f.ts == r.ts with
    | some f =>
      noteWritten (queueWrites (setStream s st { x with
        fences := replaceFirst (· == f) (fun f => { f with nA := f.nA + 1, nB := f.nB - 1 }) x.fences }) st f.buf prt len r.segs)
        st f.buf
    | none => s

/-- Frame formation (R40, R41): older than the window is late, a number already received is a duplicate, a packet of a completed
or closed frame is late. -/
def framePacket (s : State) (st prt len : Nat) (a : Bool) (r : Rtp) : State :=
  let x := stream s st
  let q := r.seq.toNat
  let old := match x.top with
    | some t => decide (toSigned 32 (seqUp t q) < 0) && decide (65536 ≤ seqUp q t)
    | none => false
  if old then statBump s st 4
  else if x.seen.contains q then
    match x.copies.find? fun c => a && c.1 == q && c.2.2 == igClk s with
    | some c => preferA s st prt len r c.2.1
    | none => s
  else if x.frames.any fun f => f.ts == r.ts then takePacket s st prt len a r
  else if x.closed.any fun c => c.1 == r.ts then
    if x.quiet == some r.ts then s else statBump s st 4
  else takePacket (openFrame s st r.ts) st prt len a r

/-- Longest Ethernet frame that a stream accepts (R38). -/
def maxFrameBytes : Nat := 9216

/-- A packet of a stream (R36 rule 4): its length, the port buffer, the payload type, the policer, then its frame. A frame longer than
R38 accepts leaves no trace but the port's own counts (log entry 120). -/
def streamPacket (s : State) (st i : Nat) (a : Bool) (f : NetFrame) : State :=
  if !rdB s Reg.IGS.IGS_CTRL 0 || decide (maxFrameBytes < f.len) then s
  else if 0x100000 < fillOf s i + f.len then raiseE (bump s (Reg.IG.BUF_OVF i)) (Page.IG i) 0
  else
    let c2 := igsCfg s st 2
    match f.rtp with
    | none =>
      let p := policeStream s st a (f.len + rdF s (Reg.IG.PORT_CTRL i) 15 8)
      if p.1 == .red then statBump p.2 st 5 else p.2
    | some r =>
      if bit c2 15 && r.pt != fld c2 14 8 then statBump s st 4
      else
        let p := policeStream s st a (f.len + rdF s (Reg.IG.PORT_CTRL i) 15 8)
        if p.1 == .red then statBump p.2 st 5 else framePacket p.2 st i f.len a r

/-- R36: a frame received on an IG port. PTP and placement contents act in the commands of their own that follow. -/
def execIgFrameRx (i : Nat) (f : NetFrame) (s : State) : Host.Outcome State Fault Refusal :=
  let c := rd s (Reg.IG.PORT_CTRL i)
  let t := bump64 s (Reg.IG.RX_FRAMES_LO i) (Reg.IG.RX_FRAMES_HI i) 1
  let t := bump64 t (Reg.IG.RX_BYTES_LO i) (Reg.IG.RX_BYTES_HI i) f.len
  let rest (t : State) : State :=
    if bit c 3 then fwReceive t i 0 (some (ingressTime s (256 + i))) f.raw else bump t (Reg.IG.UNMATCHED i)
  let r :=
    if f.fcsError then bump t (Reg.IG.FCS_ERR i)
    else if safe s (Page.IG i) then bump t (Reg.IG.UNMATCHED i)
    else if bit c 1 && isPtp f then t
    else if bit c 2 && isPlacement s f then t
    else match f.udp with
      | some u =>
        match matchStream s i u with
        | some (st, a) => streamPacket t st i a f
        | none => rest t
      | none => rest t
  live s (if decide (i < 16) && igUp s i then r else s)

/-- The physical link of an IG port. -/
def setIgLink (s : State) (i : Nat) (l : Bool × Bool × Nat) : State :=
  { s with ing := { s.ing with igLink := Store.set (fun _ => (false, false, 0)) s.ing.igLink i l } }

/-- R36, R58: an IG port gains or loses link; it cannot gain it while its PLL is unlocked (R429) or in STANDBY (R435). -/
def execIgLinkChange (i : Nat) (up align : Bool) (lanes : Nat) (s : State) : Host.Outcome State Fault Refusal :=
  let on := bit s.rst.igs i && serdesOn s
  live s (if i < 16 then setIgLink s i (if on then (up, align, lanes % 16) else (false, false, 0)) else s)

/-! ### Buffers and fences (R45 to R48, R51) -/

/-- RING_DEPTH of a stream. -/
def ringDepth (s : State) (st : Nat) : Nat := fld (igsCfg s st 0) 27 24

/-- Two indices, the one with the smaller key. -/
def lesser (a b : Option (Nat × Nat)) : Option (Nat × Nat) :=
  match a, b with
  | some x, some y => if y.1 < x.1 then some y else some x
  | none, y => y
  | x, none => x

/-- The buffer that a new frame gets (R48): the lowest free one, else the oldest fenced one that is neither pinned nor the newest
fenced nor, in a pair, the newest pair-ready one (R313). -/
def eligible (s : State) (st : Nat) : Option Nat :=
  let x := stream s st
  let js := List.range (ringDepth s st)
  match js.find? fun j => (x.buf j).mode == .free with
  | some j => some j
  | none =>
    let keep (j : Nat) : Bool := x.newest == some j || (twnOn s && twnState s == 3 && newestPaired x none == some j)
    let c := js.filter fun j => (x.buf j).mode == .fenced && !pinned s st j && !keep j
    ((c.map fun j => some ((x.buf j).seq, j)).foldl lesser none).map (·.2)

/-- The first frame of a stream that waits for a buffer gets `b`, or is dropped whole. -/
def assignTo (s : State) (st : Nat) (f : OpenFrame) (b : Option Nat) : State :=
  let x := stream s st
  let put (g : OpenFrame) : State := setStream s st { x with frames := replaceFirst (· == f) (fun _ => g) x.frames }
  match b with
  | some j =>
    let s := put { f with asked := false, buf := some j, held := [] }
    let s := setStream s st ((stream s st).setBuf j ⟨.opened, 0, false, 0, none⟩)
    let s := f.held.foldl (fun s h => queueWrites s st j h.2.1 h.2.2.1 h.2.2.2) s
    if decide (streamSrc s st = 2) && !f.complete then
      freeBuf (setStream s st { stream s st with frames := [] }) st j
    else settleFrames 2 s st
  | none =>
    let s := dropHeld (put { f with asked := false, dropped := true, held := [] }) f.held
    let s := raiseE (bump (statBump s st 7) Reg.IGS.FRAMES_DROPPED) Page.IGS 1
    settleFrames 2 s st

/-- R48: the assignment of a buffer, `clocks` CORE clocks after the frame's first packet, at most 64. A latch of the same clock comes
first, so the assignment sees its pins. -/
def execBufferAssign (st : Nat) (clocks : Nat) (s : State) : Host.Outcome State Fault Refusal :=
  live s (match (stream s st).frames.find? fun f => f.asked with
    | some f =>
      if decide (st < 64) && !latchDue s then
        assignTo (peak s Reg.IGS.ALLOC_LAT_MAX (min clocks 64)) st f (if safe s Page.IGS then none else eligible s st)
      else s
    | none => s)

/-- R40: CLOSE_WIN has elapsed after the marker of a frame that has not completed. The closure comes after the clock of expiry, so a
packet of that clock still completes the frame (R42). -/
def execFrameCloseTimeout (st : Nat) (s : State) : Host.Outcome State Fault Refusal :=
  let due (f : OpenFrame) : Bool :=
    f.marker.isSome && !f.complete && overUs s f.markedAt (fld (igsCfg s st 12) 13 0) && streamSrc s st != 2
  live s (match (stream s st).frames.find? due with
    | some f => settleFrames 2 (closeFrame s st f) st
    | none => s)

/-- Write a fence record that lies in host memory; one in device memory has been an ingest write (R51, R107). -/
def hostFenceRecord (s : State) (st : Nat) (f : FencePend) (seq ns : Nat) : State :=
  let a := fenceAddr s st f.buf
  if rdB s Reg.IGS.IGS_CTRL 1 && decide (memBytes ≤ a) then devWrite s a (fenceRecord f seq ns) else s

/-- R45: every data write of the frame and its record are acknowledged; the buffer becomes the newest fenced one, and the stream's line
pulses. Fences are published in the order of their FRAME_SEQ. -/
def execFencePublish (st buf : Nat) (s : State) : Host.Outcome State Fault Refusal :=
  let x := stream s st
  live s (match x.fences.find? fun f => f.buf == buf with
    | some f =>
      match f.done with
      | none => s
      | some d =>
        if writesWait s st buf || d.1 != x.count + 1 then s
        else
          let t := hostFenceRecord s st f d.1 d.2
          let y : Stream := { x with fences := x.fences.erase f, count := d.1, newest := some buf }
          let t := setStream t st (y.setBuf buf ⟨.fenced, d.1, f.inc, coreClk s + 8, none⟩)
          let t := bump t Reg.IGS.FRAMES_FENCED
          pulse (mirrorFence t st (streamSrc s st == 2) f.ts f.inc buf d.1 d.2) (64 + st)
    | none => s)

/-! ### Stream entries (R43, R50, R55, R57) -/

/-- Stored bits per second of a stream, times 1001 (R43). -/
def storedRate (s : State) (st : Nat) : Nat :=
  let c1 := igsCfg s st 1
  let c2 := igsCfg s st 2
  let f := (streamFmt s st).getD 16
  let bits := 8 * unitBytes f / unitPx f
  fld c1 14 0 * fld c1 30 16 * bits * fld c2 6 0 * (if bit c2 7 then 1000 else 1001)

/-- The inputs a stream uses: IG ports 0 to 15, SDI inputs as 16 to 23 (R35). -/
def inputsOf (s : State) (st : Nat) : List Nat :=
  let c := igsCfg s st 0
  match streamSrc s st with
  | 0 => [fld c 7 4]
  | 1 => [fld c 7 4, fld c 11 8]
  | 2 => [16 + fld c 7 4]
  | _ => []

/-- Enabled streams on an input, `st` counted among them. -/
def streamsOn (s : State) (st i : Nat) : List Nat :=
  (List.range 64).filter fun j => (streamOn s j || j == st) && (inputsOf s j).contains i

/-- Total stored rate of a list of streams, in bits per second times 1001. -/
def totalRate (s : State) (l : List Nat) : Nat := (l.map (storedRate s)).foldl (· + ·) 0

/-- The first cause of R57 that refuses stream `st`, as its entry stands. -/
def streamRefusal (s : State) (st : Nat) : Option Nat :=
  let c0 := igsCfg s st 0
  let w := fld (igsCfg s st 1) 14 0
  let h := fld (igsCfg s st 1) 30 16
  let fps := fld (igsCfg s st 2) 6 0
  let fmt := (streamFmt s st).getD 16
  let src := streamSrc s st
  let d := ringDepth s st
  let space := fld (igsCfg s st 10) 23 0 * 4096
  let stride := fld (igsCfg s st 11) 20 0
  let ins := inputsOf s st
  let limit := if src = 2 then 1500000000 else 12500000000
  if 2 < fld c0 19 16 then some 1
  else if (streamFmt s st).isNone then some 2
  else if w < 16 ∨ 16384 < w ∨ h < 16 ∨ 16384 < h ∨ fps < 1 ∨ 120 < fps ∨ (fmt422 fmt ∧ w % 2 = 1) then some 3
  else if src = 3 ∨ (src = 1 ∧ fld c0 7 4 = fld c0 11 8) ∨ (src = 2 ∧ 7 < fld c0 7 4) then some 4
  else if ins.any fun i => decide (limit * 8 * 1001 < totalRate s (streamsOn s st i)) then some 5
  else if ins.any fun i => decide ((if src = 2 then 1 else 16) < (streamsOn s st i).length) then some 6
  else if d < 2 ∨ 8 < d ∨ space < stride * h ∨ space = 0 ∨
      memBytes < streamBase s st (d - 1) + (h - 1) * stride + rowBytes fmt w then some 7
  else if stride % 256 ≠ 0 ∨ stride < rowBytes fmt w ∨ 0x100000 - 256 < stride then some 8
  else none

/-- Write a word of the stream table. -/
def putCfg (s : State) (st w : Nat) (v : Word) : State :=
  { s with ing := { s.ing with cfg := Store.set igsDefault s.ing.cfg (16 * st + w) v } }

/-- Open frames of a stream are abandoned: no fence, no count, buffers free (R50). -/
def abandonFrames (s : State) (st : Nat) : State :=
  let fs := (stream s st).frames
  let s := fs.foldl (fun s f => match f.buf with | some b => freeBuf s st b | none => s) s
  let s := fs.foldl (fun s f => dropHeld s f.held) s
  setStream s st { stream s st with frames := [] }

/-- The engine starts anew: the next frame is the first (R40), the fence state of buffers not pinned is clear (R50), and with it the
fences still on their way. -/
def startStream (s : State) (st : Nat) : State :=
  let x := stream s st
  let js := List.range 8
  let y := js.foldl (fun y j => if pinned s st j then y else y.setBuf j Buf.reset) x
  let best := (js.filter fun j => (y.buf j).mode == .fenced).foldl (laterBuf y) none
  setStream s st { y with
    frames := [], prev := none, top := none, seen := [], closed := [], fresh := true, newest := best
    quiet := none, fences := [], copies := [] }

/-- Writable bits of word 0 of a stream entry (R55). -/
def streamMask0 : Word := 0x0F7F1FF7

/-- A write of word 0 of a stream entry: EN rising is checked and starts the stream, EN falling abandons its frames. -/
def writeStream0 (s : State) (st : Nat) (v : Word) : State :=
  let was := streamOn s st
  let t := putCfg s st 0 (v &&& streamMask0)
  if bit v 0 && !was then
    match streamRefusal t st with
    | none => startStream t st
    | some c =>
      let t := putCfg s st 0 (setBit (v &&& streamMask0) 0 false)
      let k := 8 * st
      let old := Store.get zeroW t.ing.stat k
      raiseE { t with ing := { t.ing with stat := Store.set zeroW t.ing.stat k (setFld old 7 4 c) } } Page.IGS 0
  else if was && !bit v 0 then abandonFrames t st
  else t

/-- Writable bits of the other words. -/
def streamMask (w : Nat) : Word :=
  match w with
  | 1 => 0x7FFF7FFF | 2 => 0x0000FFFF | 8 => 0xFFFFF000 | 9 => 0x1F | 10 => 0xFFFFFF | 11 => 0x1FFFFF
  | 12 => 0x3FFF | 13 => 0x1FFFF | 14 => 0x1FFFF | _ => 0xFFFFFFFF

/-- Bring a stream's policers to the present before their parameters change; CIR leaving 0 fills them (R268). -/
def settleStream (s : State) (st : Nat) : State :=
  if fld (igsCfg s st 13) 16 0 = 0 then setStream s st { stream s st with polA := none, polB := none }
  else (policeStream (policeStream s st true 0).2 st false 0).2

/-- A write of a word of a stream's configuration entry (R55, R456). -/
def writeStreamWord (s : State) (st w : Nat) (v : Word) : State :=
  if w = 0 then writeStream0 s st v
  else if w = 12 then putCfg s st 12 (w32 (clampN 10 10000 (fld v 13 0)))
  else putCfg (if 13 ≤ w then settleStream s st else s) st w (v &&& streamMask w)

/-- R43: word 0 of a stream's entry written with EN = 1 through the indirect window. -/
def execStreamEnable (a : Agent) (st : Nat) (w0 : Word) (s : State) : Host.Outcome State Fault Refusal :=
  live s (if decide (st < 64) && bit w0 0 && indWord s a Page.IGS == 16 * st then
    indGuarded s a Page.IGS w0 (writeStream0 s st w0) else s)

/-- R50: word 0 written with EN = 0. -/
def execStreamDisable (a : Agent) (st : Nat) (w0 : Word) (s : State) : Host.Outcome State Fault Refusal :=
  live s (if decide (st < 64) && !bit w0 0 && indWord s a Page.IGS == 16 * st then
    indGuarded s a Page.IGS w0 (writeStream0 s st w0) else s)

/-- A write of IGS_CTRL: EN falling abandons the open frames of every stream; with EN rising the next frame of each enabled stream
is a first frame (R50). -/
def writeIgsCtrl (s : State) (v : Word) : State :=
  let was := rdB s Reg.IGS.IGS_CTRL 0
  let t := wrCfg s Reg.IGS.IGS_CTRL (v &&& 3)
  if was && !bit v 0 then (List.range 64).foldl abandonFrames t
  else if bit v 0 && !was then
    (List.range 64).foldl (fun t st => if streamOn t st then
      setStream t st { stream t st with fresh := true, prev := none } else t) t
  else t

/-- R50: IGS_CTRL.EN set. -/
def execIngestEnable (a : Agent) (v : Word) (s : State) : Host.Outcome State Fault Refusal :=
  live s (guarded s a Reg.IGS.IGS_CTRL v .cfg (writeIgsCtrl s v))

/-- R50: IGS_CTRL.EN cleared. -/
def execIngestDisable (a : Agent) (v : Word) (s : State) : Host.Outcome State Fault Refusal :=
  live s (guarded s a Reg.IGS.IGS_CTRL v .cfg (writeIgsCtrl s v))

/-- Status word `w` of stream `st` (R56). What ACTIVE takes as receiving, and what NEWEST and FRAME_SEQ read once enabling has cleared
the newest fence, are the model's choices (log entries 46 and 122). -/
def streamStatus (s : State) (st w : Nat) : Word :=
  let x := stream s st
  let c := igsCfg s st 0
  let map (p : Nat → Bool) : Nat := ofBits ((List.range 8).map p)
  let stored := Store.get zeroW s.ing.stat (8 * st + w)
  match w with
  | 0 =>
    let receiving := if streamSrc s st = 2 then (sdiState s (fld c 7 4)).2.1 && rdB s (Reg.SD.SDI_CTRL (fld c 7 4)) 0
      else (inputsOf s st).any (igUp s)
    let act := streamOn s st && rdB s Reg.IGS.IGS_CTRL 0 && receiving
    let fenced (j : Nat) : Bool := (x.buf j).mode == .fenced
    w32 (act.toNat + fld stored 7 4 * 16 + map (fun j => (x.buf j).mode == .opened) * 2 ^ 8 +
      map (fun j => fenced j && pinned s st j) * 2 ^ 16 + map fenced * 2 ^ 24)
  | 1 => w32 (x.newest.getD 0)
  | 2 => w32 (match x.newest with | some j => (x.buf j).seq | none => 0)
  | 3 => w32 ((match x.newest with | some j => (x.buf j).seq | none => 0) / 2 ^ 32)
  | _ => stored

/-- STORE_RATE of an IG port in MB/s (R58), rounded down. -/
def storeRate (s : State) (i : Nat) : Nat :=
  totalRate s ((List.range 64).filter fun j => streamOn s j && (inputsOf s j).contains i) / (8 * 1001 * 1000000)

/-! ### SDI (R52, R53) -/

/-- The stream that SDI input `i` feeds. -/
def sdiStream (s : State) (i : Nat) : Option Nat :=
  (List.range 64).find? fun st => streamOn s st && streamSrc s st == 2 && fld (igsCfg s st 0) 7 4 == i

/-- Fences of an SDI stream whose frame is not wholly written go with the lock (R45): their buffers are free again. -/
def dropUnwritten (s : State) (st : Nat) : State :=
  let x := stream s st
  let gone := x.fences.filter fun f => f.done.isNone
  gone.foldl (fun s f => freeBuf s st f.buf) (setStream s st { x with fences := x.fences.filter fun f => f.done.isSome })

/-- Carrier, lock and lines of an SDI input. A frame that loses lock before its last active line is written is never
fenced (R45). -/
def setSdi (s : State) (i : Nat) (carrier lock : Bool) (lines : Nat) : State :=
  let fell := (sdiState s i).2.1 && !lock
  let t := { s with ing := { s.ing with sdi := Store.set (fun _ => (false, false, 0)) s.ing.sdi i (carrier, lock, lines) } }
  if fell then
      let t := raiseE t (Page.SD i) 0
      match sdiStream t i with
      | some st => dropUnwritten (abandonFrames t st) st
      | none => t
    else t

/-- R52: carrier and lock of an SDI input change. It locks to the line rate of 12G-SDI alone, not without REF_SDI (R429) nor in
STANDBY (R435). -/
def execSdiLockChange (i : Nat) (carrier lock : Bool) (lines : Nat) (s : State) (rate12g : Bool := true) : Host.Outcome State Fault Refusal :=
  live s (if i < 8 then setSdi s i (carrier && serdesOn s) (lock && rate12g && s.rst.refSdi && serdesOn s) lines else s)

/-- The pictures, frame rates, samplings and depths that an SDI input receives (R52). -/
def sdiAccepted (f : SdiFrame) : Bool :=
  let hz (lo hi : Nat) : Bool := decide (lo * 1000 ≤ f.milliHz) && decide (f.milliHz ≤ hi * 1000)
  let film : Bool := decide (23976 ≤ f.milliHz)
  let uhd : Bool := (f.width == 3840 || f.width == 4096) && f.height == 2160
  f.depth == 1 &&
    (uhd && f.sampling == 2 && film && hz 0 60 || uhd && (f.sampling == 0 || f.sampling == 1) && film && hz 0 30 ||
      f.width == 1920 && f.height == 1080 && f.sampling == 2 && hz 100 120)

/-- R53: a frame received on an SDI input. One that R52 does not list, or that differs from the stream's entry, is not written and sets
MISMATCH; a matching frame clears it when it is written. -/
def execSdiFrameRx (i : Nat) (f : SdiFrame) (s : State) : Host.Outcome State Fault Refusal :=
  let t := bump (wr (bumpN s (Reg.SD.CRC_ERR i) f.crcLines) (Reg.SD.ST352 i) f.st352) (Reg.SD.FRAMES i)
  let t := releaseSafe t (Page.SD i)
  let r := match sdiStream t i with
    | none => t
    | some st =>
      let c0 := igsCfg t st 0
      let c1 := igsCfg t st 1
      if !rdB t Reg.IGS.IGS_CTRL 0 || safe t (Page.SD i) then t
      else if sdiAccepted f && fld c0 19 16 == f.sampling && fld c0 22 20 == f.depth && fld c1 14 0 == f.width && fld c1 30 16 == f.height then
        let x := stream t st
        let g : OpenFrame := {
          ts := 0, discard := false, first := some 0, marker := if f.complete then some 0 else none, markedAt := 0, recv := [0]
          buf := none, asked := true, dropped := false, held := [(0, 16 + i, 0, f.rows)], nA := 1, nB := 0 }
        setStream t st { x with frames := x.frames ++ [g] }
      else wrB t (Reg.SD.SDI_STATUS i) 2 true
  live s (if decide (i < 8) && rdB s (Reg.SD.SDI_CTRL i) 0 && (sdiState s i).2.1 then r else s)

end Sys2Proof.Machine
end

