-- ==== Sys2Proof/Machine/Awnings.lean ====
section
/-! DEFINITION. Awnings: placement packets and the placement of every band group (R77 to R89, R312). -/

namespace Sys2Proof.Machine

/-! ### Fields of a placement packet (R77) -/

/-- AWN_ID. -/
def Place.id (p : Place) : Nat := beAt p.raw 3 1 % 8

/-- VEL_VALID. -/
def Place.velValid (p : Place) : Bool := (beAt p.raw 4 2).testBit 0

/-- RESTART. -/
def Place.restart (p : Place) : Bool := (beAt p.raw 4 2).testBit 1

/-- SEQ. -/
def Place.seq (p : Place) : Nat := beAt p.raw 6 2

/-- The timestamp in ns. -/
def Place.time (p : Place) : Int := beAt p.raw 8 6 * 1000000000 + beAt p.raw 14 4

/-- A signed 32-bit field at a byte offset. -/
def Place.signed (p : Place) (o : Nat) : Int := toSigned 32 (beAt p.raw o 4)

/-- An unsigned 32-bit field at a byte offset. -/
def Place.word (p : Place) (o : Nat) : Nat := beAt p.raw o 4

/-- A payload is well formed (R77). -/
def placeFormed (pl : List Byte) : Bool :=
  decide (48 ≤ pl.length) && beAt pl 0 2 == 0x504C && beAt pl 2 1 == 1 && decide (beAt pl 14 4 ≤ 999999999) &&
    beAt pl 28 4 != 0 && beAt pl 32 4 != 0

/-! ### Receipt (R78, R79, R87) -/

/-- The policer of awning `i` judges a packet of `len` bytes, OVH included; POL_CIR 0 disables it. -/
def policeAwning (s : State) (i len : Nat) : Colour × State :=
  let cir := rdF s (Reg.AWN.POL_CIR i) 19 0
  if cir = 0 then (.green, s)
  else
    let f := freshBit s
    let x := awning f.2 i
    let r := police f.1 x.pol (cir * 1000) (rdF s (Reg.AWN.POL_PIR i) 19 0 * 1000) (rdF s (Reg.AWN.POL_BURST i) 15 0)
      (rdF s (Reg.AWN.POL_BURST i) 31 16) len (coreClk s) 1250000000
    (r.1, setAwning f.2 i { x with pol := r.2 })

/-- Test 4 of R78, then R79: record the packet or count it in DROP_ORDER. -/
def recordPlace (s : State) (p : Place) : State :=
  let i := p.id
  let x := awning s i
  let later := match x.p2 with | some q => decide (q.time < p.time) | none => true
  if !p.restart && !later then bump s (Reg.AWN.DROP_ORDER i)
  else
    let y : Awning :=
      if p.restart then { x with p1 := none, p2 := some p }
      else match x.p2 with
        | none => { x with p2 := some p }
        | some q =>
          if rdN s Reg.AWN.PAIR_MIN * 1000 ≤ p.time - q.time then { x with p1 := some q, p2 := some p }
          else { x with p2 := some p }
    let s := bump (setAwning s i y) (Reg.AWN.RX_OK i)
    let s := wrB (wrB s (Reg.AWN.A_STATUS i) 0 true) (Reg.AWN.A_STATUS i) 1 y.p1.isSome
    wrF (wrB s (Reg.AWN.A_STATUS i) 2 false) (Reg.AWN.A_STATUS i) 31 16 p.seq

/-- A placement operation whose effective instant is at or before `t` ps. -/
def placeDue (t : Int) (o : MirPend) : Bool :=
  match o.op with
  | .place _ _ => decide ((o.e : Int) * 1000 ≤ t)
  | _ => false

/-- Mirrored placements with E at or before `t` ps are recorded, in the order of E, ORIGIN and RSEQ (R312). -/
def settlePlaces (s : State) (t : Int) : State :=
  let rest := { s with twn := { s.twn with ops := s.twn.ops.filter fun o => !placeDue t o } }
  (s.twn.ops.filter (placeDue t)).foldl (fun s o => match o.op with | .place _ raw => recordPlace s ⟨raw⟩ | _ => s) rest

/-- Tests 1 to 3 of R78; the packet that passes is recorded, or in a pair captured and mirrored (R312). -/
def judgePlace (s : State) (srcIp : Word) (len : Nat) (p : Place) : State :=
  let i := p.id
  if rd s (Reg.AWN.SRC_IP i) ≠ 0 ∧ rd s (Reg.AWN.SRC_IP i) ≠ srcIp then bump s (Reg.AWN.DROP_SRC i)
  else
    let r := policeAwning s i len
    let s := r.2
    if r.1 == .red then bump s (Reg.AWN.DROP_POLICE i)
    else if rdN s Reg.AWN.MAX_AGE * 1000 * 2 ^ 32 < ((s.time.count : Int) - p.time * 2 ^ 32).natAbs then bump s (Reg.AWN.DROP_AGE i)
    else if twnOn s then captureOp s 7 (.place srcIp p.raw) (beBytes 4 srcIp.toNat ++ p.raw)
    else recordPlace s p

/-- The port by which a placement packet came passes it to the awning block (R36, R284), with its OVH. -/
def placePort (s : State) : Via → Option Nat
  | .ig i =>
    if decide (i < 16) && igUp s i && !safe s (Page.IG i) && rdB s (Reg.IG.PORT_CTRL i) 2 then
      some (rdF s (Reg.IG.PORT_CTRL i) 15 8) else none
  | .sv i =>
    if decide (i < 2) && svLink s i && !safe s (Page.SV i) && rdB s (Reg.SV.PORT_CTRL i) 2 then
      some (rdF s (Reg.SV.PORT_CTRL i) 15 8) else none

/-- R77, R78: a placement packet reaches the awning block. -/
def execPlacementPacket (via : Via) (srcIp : Word) (dstPort frameBytes : Nat) (payload : List Byte) (s : State) :
    Host.Outcome State Fault Refusal :=
  wall s (match placePort s via with
    | some ovh =>
      if dstPort = 0 ∨ dstPort ≠ rdF s Reg.AWN.AWN_CTRL 31 16 then s
      else if placeFormed payload then judgePlace s srcIp (frameBytes + ovh) ⟨payload.take 48⟩
      else bump s Reg.AWN.FORMAT_DROP
    | none => s)

/-! ### The band-group latch (R80 to R84) -/

/-- Scan time ts(n, g) in ns (R81). -/
def scanTime (s : State) (c : PhaseCtx) (i g : Nat) : Int :=
  c.stop + toSigned 32 (rdN s (Reg.AWN.T0_OFS i)) + (g * rdN s (Reg.AWN.G_STEP i) / 1000 : Nat)

/-- "now" of the latch in units of 2^-32 ps: its nominal instant in a pair (R312), the counter otherwise. -/
def latchNow (s : State) (c : PhaseCtx) (g : Nat) : Int :=
  if twnOn s then c.begin_ (4 * g : Nat) * 2 ^ 32 else (s.time.count : Int) * 1000

/-- The placement from held packets (R82): X, Y, W, H before the clamps, and MODE. -/
def extrapolate (p1 : Option Place) (p2 : Place) (dt : Int) : (Int × Int × Int × Int) × Nat :=
  match p1 with
  | some p =>
    let den := (p2.time - p.time).toNat
    let line (a b : Int) : Int := b + rnd ((b - a) * dt) den
    ((line (p.signed 20) (p2.signed 20), line (p.signed 24) (p2.signed 24), line (p.word 28) (p2.word 28),
      line (p.word 32) (p2.word 32)), 3)
  | none =>
    if p2.velValid then
      ((p2.signed 20 + rnd (p2.signed 36 * dt) 1000000000, p2.signed 24 + rnd (p2.signed 40 * dt) 1000000000,
        (p2.word 28 : Int), (p2.word 32 : Int)), 2)
    else ((p2.signed 20, p2.signed 24, (p2.word 28 : Int), (p2.word 32 : Int)), 1)

/-- The clamps of R82 against the descriptor's size. -/
def clampPlace (p : Int × Int × Int × Int) (w h : Nat) : Int × Int × Nat × Nat :=
  (clampI (-1048576) 1048575 p.1, clampI (-1048576) 1048575 p.2.1,
    (clampI (max 1 (w / 2) : Nat) (2 * w : Nat) p.2.2.1).toNat, (clampI (max 1 (h / 2) : Nat) (2 * h : Nat) p.2.2.2).toNat)

/-- Write CUR of awning `i`. -/
def setCur (s : State) (i : Nat) (p : Int × Int × Nat × Nat) : State :=
  let s := wr (wr s (Reg.AWN.CUR_X i) (w32i p.1)) (Reg.AWN.CUR_Y i) (w32i p.2.1)
  let s := wr (wr s (Reg.AWN.CUR_W i) (w32 p.2.2.1)) (Reg.AWN.CUR_H i) (w32 p.2.2.2)
  setAwning s i { awning s i with curSet := true }

/-- CUR of awning `i`. -/
def curOf (s : State) (i : Nat) : Int × Int × Nat × Nat :=
  (toSigned 32 (rdN s (Reg.AWN.CUR_X i)), toSigned 32 (rdN s (Reg.AWN.CUR_Y i)), rdN s (Reg.AWN.CUR_W i), rdN s (Reg.AWN.CUR_H i))

/-- The procedure of R82 for awning `i` of a latched descriptor. -/
def placeAwning (s : State) (c : PhaseCtx) (g i : Nat) (own : Int × Int × Nat × Nat) : State :=
  let x := awning s i
  let st := Reg.AWN.A_STATUS i
  let at_ := latchNow s c g
  match (if rdB s Reg.AWN.AWN_CTRL 0 then x.p2 else none) with
  | none => wrB (wrF (setCur s i own) st 4 3 0) st 2 false
  | some p =>
    if (rdN s Reg.AWN.MAX_AGE : Int) * 1000000 * 2 ^ 32 < at_ - p.time * 1000 * 2 ^ 32 then
      let s' := if x.curSet then s else setCur s i own
      if rdB s st 2 then s' else pulse (wrB s' st 2 true) (32 + i)
    else
      let lim : Int := rdN s Reg.AWN.EXTRAP_MAX * 1000
      let r := extrapolate x.p1 p (clampI (-lim) lim (scanTime s c i g - p.time))
      wrF (wrB (setCur s i (clampPlace r.1 own.2.2.1 own.2.2.2)) st 2 false) st 4 3 r.2

/-- Latch the placement of a visible awning's layer for a band group and release its requests (R80, R104). -/
def latchAwning (c : PhaseCtx) (g : Nat) (s : State) (e : Nat × Latched) : State :=
  let i := dAwnId e.2.desc
  let s := placeAwning s c g i (dPlace e.2.desc)
  let p := curOf s i
  let c' := { ctxOf s c.k c.n with place := Store.set (fun _ => (0, 0, 0, 0)) (ctxOf s c.k c.n).place (256 * e.1 + g) p }
  let s := setCtx s c'
  if c.lost.contains e.1 || safe s Page.AWN then s
  else
    let geom := awningGeom s c e.2 p
    let cov : Cover := ⟨e.1, 0, geom, false⟩
    (List.range 4).foldl (fun s j =>
      let b := 4 * g + j
      let t := cov.touch c.wc (16 * c.bands) b
      if b < c.bands ∧ t.1 < t.2 then (awningUnits geom b).foldl (issueFetch c b (.awning e.1)) s else s) s

/-- R80, R82: C(n, 4g) of slot (k, n) is reached. -/
def execAwningGroupLatch (k n g : Nat) (s : State) : Host.Outcome State Fault Refusal :=
  wall s (match findCtx s k n with
    | some c =>
      if c.groups == g && decide (4 * g < c.bands) && reached s (c.begin_ (4 * g : Nat)) then
        let s := setCtx (releaseSafe (settlePlaces s (c.begin_ (4 * g : Nat))) Page.AWN) { c with groups := g + 1 }
        (c.layers.filter fun e => dAwning e.2.desc).foldl (latchAwning { c with groups := g + 1 } g) s
      else s
    | none => s)

end Sys2Proof.Machine
end

