-- ==== Sys2Proof/Machine/PitchCheck.lean ====
section
/-! DEFINITION. The load check of a pitch table: the dry run with its nominal time model (R215 to R219). Times are in ps. -/

namespace Sys2Proof.Machine

/-- One TOk clock, 2.56 ns, in ps (R204). -/
def toClockPs : Nat := 2560

/-- Bits per pixel of a packing code: 24, 30, 36, 48 (R169, R181). -/
def packBits (code : Nat) : Nat :=
  match code % 4 with
  | 0 => 24
  | 1 => 30
  | 2 => 36
  | _ => 48

/-- Payload bytes of `c` cells at `k` bits per pixel (R213). -/
def payloadBytes (c k : Nat) : Nat := c * 32 * k

/-- Bytes on the wire of a pixel frame with payload `p` (R214). -/
def frameWire (p : Nat) : Nat := p + 70

/-- Wire time of a frame of `f` bytes, in TOk clocks (R214). -/
def wireClocks (f : Nat) : Nat := ceilDiv f 8

/-- The parameters of one phase for the check (R216). -/
structure DryParams where
  ts     : Nat
  bands  : Nat
  cols   : Nat
  tphi   : Nat
  pack   : Nat
  guy    : Nat
  margin : Nat
  deriving DecidableEq, Repr

/-- The dry run's registers, nominal times, and what it has met: failures (cause, word, band), per band frames and payload. -/
structure DryState where
  pc     : Nat
  br     : Nat
  xr     : Nat
  cr     : Nat
  loops  : List (Nat × Nat)
  t      : Int
  w      : Int
  wait   : Option Nat
  closes : Nat
  hi     : Nat
  done   : Bool
  fails  : List (Nat × Nat × Nat)
  sent   : Store (Nat × Nat)
  deriving DecidableEq, Repr

/-- Record a failure of condition `c` at word `a`, band `b`. -/
def dryFail (d : DryState) (c b : Nat) : DryState := { d with fails := d.fails ++ [(c, d.pc, b)] }

/-- Record a failure where `p` holds. -/
def dryFailIf (p : Bool) (d : DryState) (c b : Nat) : DryState := if p then dryFail d c b else d

/-- Band value of a field, relative to BR or not (R211). -/
def pitchBand (rel : Bool) (br v : Nat) : Nat := if rel then (br + v) % 2048 else v

/-- Registers after SET (R212). -/
def pitchSet (f : SetF) (br xr cr : Nat) : Nat × Nat × Nat :=
  (if f.setB then f.b.toNat else br, if f.setX then f.x.toNat else xr, if f.setC then f.c.toNat else cr)

/-- Registers after ADD (R212). -/
def pitchAdd (f : AddF) (br xr cr : Nat) : Nat × Nat × Nat :=
  ((br + f.db.toNat) % 2048, (xr + f.dx.toNat) % 64, (cr + f.dc.toNat) % 256)

/-- A wait that ends at nominal time `t`: condition 11's limit Tφ − 2 µs, then the time of the next issue (R217). -/
def dryWait (p : DryParams) (d : DryState) (t : Int) (b : Nat) : DryState :=
  let d := dryFailIf (decide (t > (p.tphi : Int) - 2000000)) d 11 b
  { d with t := t + toClockPs }

/-- The SEND of the time model, with conditions 5 to 8 and 10 (R217, R219). -/
def drySend (p : DryParams) (d : DryState) (f : SendF) : DryState :=
  let b := pitchBand f.relB d.br f.band.toNat
  let c := f.countM1.toNat + 1
  let first := if f.relC then (d.cr + f.rxcell0.toNat) % 256 else f.rxcell0.toNat
  let payload := payloadBytes c p.pack
  let wire := wireClocks (frameWire payload) * toClockPs
  let start := max (d.t + 16 * toClockPs) d.w
  let stop := start + wire
  let slot : Int := (b * p.ts + p.ts : Nat) - (p.margin : Int)
  let d := dryFailIf (decide (p.bands ≤ b) || decide (256 < first + c) ||
    (f.mode && decide (p.cols < f.cx0.toNat + c))) d 5 b
  let d := dryFailIf (decide (d.wait ≠ some b)) d 6 b
  let d := dryFailIf (decide (9236 < frameWire payload)) d 7 b
  let d := dryFailIf (decide (slot ≤ start) || decide (slot < stop)) d 8 b
  let d := dryFailIf (decide (p.guy < wire) || decide (((p.bands * p.ts : Nat) : Int) - p.guy ≤ start)) d 10 b
  let n := Store.get (fun _ => (0, 0)) d.sent b
  { d with w := stop, t := start + toClockPs,
           sent := Store.set (fun _ => (0, 0)) d.sent b (n.1 + 1, n.2 + payload) }

/-- The bands that break the frame rule (R218), and the first of them. -/
def frameRuleBad (sent : Store (Nat × Nat)) : Option Nat :=
  (sent.find? fun e => decide (3 * e.2.2 < 3290 * e.2.1)).map (·.1)

/-- END: conditions 2 (open loops), 11 (no CLOSE), 9 (R218). -/
def dryEnd (d : DryState) : DryState :=
  let d := dryFailIf (!d.loops.isEmpty) d 2 0
  let d := dryFailIf (decide (d.closes ≠ 1)) d 11 0
  let d := match frameRuleBad d.sent with
    | some b => dryFail d 9 b
    | none => d
  { d with done := true }

/-- Issue one instruction in the dry run. -/
def dryIssue (p : DryParams) (d : DryState) (op : PitchOp) : DryState :=
  let quiet := match op with
    | .nop => true
    | .signal => true
    | .seqEnd => true
    | _ => false
  let d := dryFailIf (decide (0 < d.closes) && !quiet) d 11 0
  let next (d : DryState) : DryState := { d with pc := d.pc + 1 }
  let tick (d : DryState) : DryState := { d with t := d.t + toClockPs }
  match op with
  | .nop => next (tick d)
  | .signal => next (tick d)
  | .set f =>
    let r := pitchSet f d.br d.xr d.cr
    next (tick { d with br := r.1, xr := r.2.1, cr := r.2.2 })
  | .add f =>
    let r := pitchAdd f d.br d.xr d.cr
    next (tick { d with br := r.1, xr := r.2.1, cr := r.2.2 })
  | .loop c =>
    if d.loops.length = 4 then { dryFail d 2 0 with done := true }
    else next (tick { d with loops := (d.pc + 1, c.toNat) :: d.loops })
  | .endloop =>
    match d.loops with
    | [] => { dryFail d 2 0 with done := true }
    | (ret, n) :: rest =>
      if n = 0 then next (tick { d with loops := rest })
      else tick { d with loops := (ret, n - 1) :: rest, pc := ret }
  | .waitBand f =>
    let b := pitchBand f.rel d.br f.band.toNat
    let d := dryFailIf (match d.wait with | some w => decide (b < w) | none => false) d 6 b
    next (dryWait p { d with wait := some b } (max d.t ((b * p.ts + f.ofs.toNat * 1000 : Nat) : Int)) b)
  | .waitTime t => next (dryWait p d (max d.t ((t.toNat * 1000 : Nat) : Int)) 0)
  | .waitEvent _ tmo => next (dryWait p d (d.t + (tmo.toNat * 1000 : Nat)) 0)
  | .send f => next (drySend p d f)
  | .close =>
    next (dryWait p { d with closes := d.closes + 1 } (max d.t ((p.bands * p.ts : Nat) : Int)) 0)
  | .seqEnd => dryEnd d

/-- The dry run: `fuel` is one more than the instructions it may execute; one more, or passing word 2047, fails condition 3, the
first at the instruction too many, the second at word 2047 (R219). -/
def dryRun (p : DryParams) (fetch : Nat → BitVec 64) : Nat → DryState → DryState
  | 0, d => d
  | fuel + 1, d =>
    if d.done then d
    else if 2048 ≤ d.pc then { dryFail { d with pc := 2047 } 3 0 with done := true }
    else if fuel = 0 then { dryFail d 3 0 with done := true }
    else
      let d := { d with hi := max d.hi d.pc }
      match decodePitch (fetch d.pc) with
      | none => { dryFail d 1 0 with done := true }
      | some op => dryRun p fetch fuel (dryIssue p d op)

/-- The dry run's start: registers clear, times at −1000 ns (R206, R217). -/
def dryStart (entry : Nat) : DryState :=
  ⟨entry, 0, 0, 0, [], -1000000, -1000000, none, 0, entry, false, [], []⟩

/-- A failure of a check: cause, word, phase, band. -/
structure CheckFail where
  cause : Nat
  addr  : Nat
  phase : Nat
  band  : Nat
  deriving DecidableEq, Repr

/-- The first failure with the lowest cause of one phase. -/
def lowestFail : List (Nat × Nat × Nat) → Option (Nat × Nat × Nat)
  | [] => none
  | f :: fs =>
    match lowestFail fs with
    | none => some f
    | some g => if g.1 < f.1 then some g else some f

/-- The failures of one phase, condition 12 before the run and condition 4 over the words executed. -/
def phaseFails (p : DryParams) (d : DryState) (entry : Nat) (active : Option (Nat × Nat)) : List (Nat × Nat × Nat) :=
  let c12 := if 13 * p.tphi < 16 * (p.bands * p.ts) then [(12, entry, 0)] else []
  let c4 := match active with
    | some (e, len) =>
      if 0 < len && decide (entry < e + len) && decide (e ≤ d.hi) then [(4, max entry e, 0)] else []
    | none => []
  c12 ++ c4 ++ d.fails

/-- The verdict over phases in ascending order: the lowest cause, then the lowest phase (R219); and the region's last word. -/
def checkPhases (fetch : Nat → BitVec 64) (entry : Nat) (active : Option (Nat × Nat)) :
    Nat → List DryParams → Option CheckFail × Nat
  | _, [] => (none, entry)
  | n, p :: ps =>
    let d := dryRun p fetch 262145 (dryStart entry)
    let r := checkPhases fetch entry active (n + 1) ps
    let mine := (lowestFail (phaseFails p d entry active)).map fun f => (⟨f.1, f.2.1, n, f.2.2⟩ : CheckFail)
    let best := match mine, r.1 with
      | none, o => o
      | some m, none => some m
      | some m, some o => if o.cause < m.cause then some o else some m
    (best, max d.hi r.2)

end Sys2Proof.Machine
end

