-- ==== Sys2Proof/Machine/Ring.lean ====
section
/-! DEFINITION. Cell contexts and the cell map (R164 to R175), groundsheet words (R193, R196), and what a port reads from the
output ring (R198, R213, R230). -/

namespace Sys2Proof.Machine

/-! ### Contexts -/

/-- Address of the context of cell `i` in copy `c`, bank `bk` (R166). -/
def ctxAddr (base i bk : Nat) : Nat := base + bk * 0x2000000 + i * 32

/-- The bank that a selection names for a cell's range of 16 bands (R177). -/
def ctxBank (sel cell : Nat) : Nat := (sel / 2 ^ (cell / 16384)) % 2

/-- A context's CRC matches its bytes and its cell index (R165). -/
def ctxPasses (ctx : List Byte) (cell : Nat) : Bool :=
  leAt ctx 0x1C 4 == crc32 (bytesAt ctx 0 0x1C ++ leBytes 4 cell)

/-- The flags word of a context (R164). -/
def ctxFlags (ctx : List Byte) : Word := w32 (leAt ctx 0x18 4)

/-- Matrix coefficient Mrc, raw (R164, R167). -/
def ctxMatrix (ctx : List Byte) (r c : Nat) : Int :=
  if bit (ctxFlags ctx) 0 then toSigned 16 (leAt ctx (2 * (3 * r + c)) 2) else if r = c then 16384 else 0

/-- Black offset Or (R164, R167). -/
def ctxOffset (ctx : List Byte) (r : Nat) : Int :=
  if bit (ctxFlags ctx) 1 then toSigned 16 (leAt ctx (0x12 + 2 * r) 2) else 0

/-- FORCE_GS (R168). -/
def ctxForce (ctx : List Byte) : Bool := bit (ctxFlags ctx) 2

/-- MAPPED (R170). -/
def ctxMapped (ctx : List Byte) : Bool := bit (ctxFlags ctx) 3

/-- CHAIN, RX and RXCELL (R164). -/
def ctxPlace (ctx : List Byte) : Nat × Nat × Nat :=
  let w := ctxFlags ctx
  (fld w 11 4, fld w 17 12, fld w 25 18)

/-- The checked context of a cell in a phase: none while it has not been read, some none where both copies failed (R175). -/
def heldCtx (s : State) (k n cell : Nat) : Option (Option (List Byte)) :=
  (s.cal.ctxs.find? fun c => c.k == k && c.n == n && c.cell == cell).map (·.ctx)

/-- The context a cell's map entry comes from: as checked for the phase, or as memory holds it where the phase has not read
it (log entry 15); none: the cell is treated as unmapped (R175). -/
def mapCtx (s : State) (c : PhaseCtx) (cell : Nat) : Option (List Byte) :=
  match heldCtx s c.k c.n cell with
  | some r => r
  | none =>
    let bk := ctxBank c.sel cell
    let x0 := memRead s (ctxAddr c.base0 cell bk) 32
    let x1 := memRead s (ctxAddr c.base1 cell bk) 32
    if ctxPasses x0 cell then some x0 else if ctxPasses x1 cell then some x1 else none

/-- A cell counts as mapped: MAPPED of its context, or any cell of the canvas with CAL off (R189). -/
def cellMapped (s : State) (c : PhaseCtx) (cell : Nat) : Bool :=
  if c.calEn then match mapCtx s c cell with | some x => ctxMapped x | none => false else true

/-- The cell index of a cell column in a band (R19). -/
def cellIndex (cx b : Nat) : Nat := b * 1024 + cx

/-- The lowest column of band `b` whose cell the map gives to a chain, receiver and position (R213, MODE 0). -/
def findCell (s : State) (c : PhaseCtx) (b chain rx pos : Nat) : Option Nat :=
  if c.calEn then
    (List.range (c.wc / 16)).find? fun cx =>
      match mapCtx s c (cellIndex cx b) with
      | some x => ctxMapped x && ctxPlace x == (chain, rx, pos)
      | none => false
  else none

/-! ### Groundsheet words -/

/-- The index that a fill in progress has come to, 64 cells per CORE clock (R195). -/
def fillReach (s : State) (next stop at_ : Nat) : Nat := min stop (next + 64 * (coreClk s - at_))

/-- A stored word carries no error. -/
def gsOk : Nat → Ecc := fun _ => .ok

/-- The groundsheet word of a cell (R193), as far as a fill in progress has come (R195). -/
def gsWord (s : State) (cell : Nat) : Word :=
  match s.dls.fill with
  | some (v, next, stop, at_) =>
    if next ≤ cell ∧ cell < fillReach s next stop at_ then v else Store.get zeroW s.dls.gs cell
  | none => Store.get zeroW s.dls.gs cell

/-- A 10-bit drive code at depth `n` (R193). -/
def gsExpand (n c : Nat) : Nat :=
  match n with
  | 8 => min ((c + 2) / 4) 255
  | 10 => c
  | 12 => c * 4 + c / 256
  | _ => c * 64 + c / 16

/-- Three codes as one pixel word of depth `n` (R160). -/
def packPixel (n r g b : Nat) : Nat := r * 2 ^ (2 * n) + g * 2 ^ n + b

/-- The pixel word of a groundsheet word at depth `n`. -/
def gsPixel (n : Nat) (w : Word) : Nat :=
  packPixel n (gsExpand n (fld w 29 20)) (gsExpand n (fld w 19 10)) (gsExpand n (fld w 9 0))

/-- Pixel words of `k` bits, concatenated most significant bit first (R160). -/
def pixelBytes (k : Nat) (px : List Nat) : List Byte :=
  beBytes (px.length * k / 8) (px.foldl (fun a w => a * 2 ^ k + w % 2 ^ k) 0)

/-- A fill in progress as far as it has come: words written, their errors cleared (R195, R196). -/
def settleFill (s : State) : State :=
  match s.dls.fill with
  | some (v, next, stop, at_) =>
    let e := fillReach s next stop at_
    { s with dls := { s.dls with
      gs := Store.setList zeroW s.dls.gs next (List.replicate (e - next) v)
      gsErr := Store.setList gsOk s.dls.gsErr next (List.replicate (e - next) Ecc.ok)
      fill := some (v, max next e, stop, coreClk s) } }
  | none => s

/-- The error of a stored word as a read that finds `e` meets it: the worse of the two (R196). -/
def gsMeets (s : State) (cell : Nat) (e : Ecc) : Ecc :=
  let old := Store.get gsOk s.dls.gsErr cell
  if e == .uncorrectable || old == .uncorrectable then .uncorrectable else if e == .corrected then .corrected else old

/-- A groundsheet read of a cell's word that finds `e` (R196): what it returns, counted. An error belongs to the word and stays with
it until a write. -/
def gsRead (s : State) (cell : Nat) (e : Ecc) : Word × State :=
  let s := settleFill s
  let w := Store.get zeroW s.dls.gs cell
  let m := gsMeets s cell e
  let s := { s with dls := { s.dls with gsErr := Store.set gsOk s.dls.gsErr cell m } }
  match m with
  | .uncorrectable => (0, raiseE (bump s Reg.DLS.GS_ECC_UNCORR) Page.DLS 4)
  | .corrected => (w, bump s Reg.DLS.GS_ECC_CORR)
  | .ok => (w, s)

/-! ### Reading the ring -/

/-- The ring slot of band `b` of slot (k, n). -/
def ringSlot (s : State) (k n b : Nat) : Option BandSlot :=
  s.dls.ring.find? fun r => r.k == k && r.n == n && r.b == b

/-- Band `b` is ready for a WAIT_BAND (R190): its slot is final, or has been released already. -/
def bandReady (s : State) (c : PhaseCtx) (b : Nat) : Bool :=
  match ringSlot s c.k c.n b with
  | some r => r.final
  | none => reached s (c.release b)

/-- What a position of a frame turns out to carry: its bytes, whether its GSMAP bit is set, whether no cell was found, and the
groundsheet word captured for the lantern. -/
structure CellOut where
  bytes : List Byte
  gs    : Bool
  miss  : Bool
  word  : Word
  deriving DecidableEq, Repr

/-- Where a position's pixels come from. -/
inductive CellFrom where
  | miss
  | sheet
  | composed (px : List Nat)
  deriving DecidableEq, Repr

/-- The source of a cell's pixels (R198, R175, R321, R388): the groundsheet under the port's safe action, after F(n, b), where the
cell is flagged, where its ring word is lost or its context failed; its composed words; the groundsheet where the ring holds no
composed words of the cell for the port's packing, since nothing else may be sent (R324, log entry 16). -/
def cellFrom (s : State) (c : PhaseCtx) (p b cx n : Nat) (lost : Bool) : CellFrom :=
  if safe s (Page.TP p) || lost || reached s (c.release b + 800) then .sheet
  else match ringSlot s c.k c.n b with
    | none => .sheet
    | some r =>
      if Store.get noB r.subst cx then .sheet
      else if heldCtx s c.k c.n (cellIndex cx b) == some none then .sheet
      else match Store.get (fun _ => (⟨0, []⟩ : Cell)) r.cells cx with
        | ⟨d, px⟩ => if d == n && px.length == 256 then .composed px else .sheet

/-- Read one position: `cx` none where no cell was found. `cap`: the frame is captured for the lantern (R239). `u` the upsets
of this position. -/
def readCell (s : State) (c : PhaseCtx) (p b k j : Nat) (cx : Option Nat) (cap : Bool) (us : List Upset) : CellOut × State :=
  let n := k / 3
  match cx with
  | none => (⟨List.replicate (32 * k) 0, true, true, 0⟩, bump s (Reg.TP.CELL_MISS p))
  | some cx =>
    let cell := cellIndex cx b
    let src := cellFrom s c p b cx n (lostItem us 6 j)
    let late := reached s (c.release b + 800)
    let s := if late then
        raiseE (wr (bump s Reg.DLS.PORT_LAG) Reg.DLS.LAST_PORT_LAG (w32 (2 ^ 31 + p))) Page.DLS 3
      else s
    let uses := cap || src == .sheet
    let mine := us.filter fun u => u.struct == 8 && u.item == j
    let e : Ecc := if mine.isEmpty then .ok else if mine.any (·.uncorr) then .uncorrectable else .corrected
    let g := if uses then gsRead s cell e else (gsWord s cell, s)
    match src with
    | .composed px =>
      let word (v : Nat) : Nat := packPixel n (v % 2 ^ 16) (v / 2 ^ 16 % 2 ^ 16) (v / 2 ^ 32)
      (⟨pixelBytes k (px.map word), false, false, g.1⟩, g.2)
    | _ => (⟨pixelBytes k (List.replicate 256 (gsPixel n g.1)), true, false, g.1⟩, g.2)

/-- Read the positions of a frame in order. -/
def readCells (s : State) (c : PhaseCtx) (p b k : Nat) (cap : Bool) (us : List Upset) :
    Nat → List (Option Nat) → List CellOut × State
  | _, [] => ([], s)
  | j, cx :: rest =>
    let r := readCell s c p b k j cx cap us
    let q := readCells r.2 c p b k cap us (j + 1) rest
    (r.1 :: q.1, q.2)

end Sys2Proof.Machine
end

