-- ==== Sys2Proof/Machine/Spans.lean ====
section
/-! DEFINITION. The span builder: building, swapping and reading span tables, calibration samples at the span boundary, the release
of fetch, and rechecks (R90 to R103, R112, R114, R169, R177 to R179). -/

namespace Sys2Proof.Machine

/-! ### Span tables (R96) -/

/-- A directory entry of the empty table. -/
def dirDefault (b : Nat) : DirEnt := ⟨b, 1, false, 0⟩

/-- A span entry of the empty table. -/
def spanDefault (i : Nat) : SpanEnt := if i < 1024 then ⟨0, 1024, 0, 0⟩ else ⟨0, 0, 0, 0⟩

/-- The staged bank. -/
def stagedBank (s : State) : SpanBank := if s.spb.active then s.spb.bank0 else s.spb.bank1

/-- The active bank. -/
def activeBank (s : State) : SpanBank := if s.spb.active then s.spb.bank1 else s.spb.bank0

/-- Replace the staged bank. -/
def setStaged (s : State) (b : SpanBank) : State :=
  if s.spb.active then { s with spb := { s.spb with bank0 := b } } else { s with spb := { s.spb with bank1 := b } }

/-- Directory entry `b`. -/
def SpanBank.dirAt (x : SpanBank) (b : Nat) : DirEnt := Store.get dirDefault x.dir b

/-- Span entry `i`. -/
def SpanBank.spanAt (x : SpanBank) (i : Nat) : SpanEnt := Store.get spanDefault x.spans i

/-- Slots that contribute to each cell column of band `b` of a table, in ascending order of the list. -/
def SpanBank.band (x : SpanBank) (b cols : Nat) : List (List Nat) :=
  let d := x.dirAt b
  let spans := (List.range d.count).map fun i => x.spanAt (d.first + i)
  (List.range cols).map fun c =>
    match spans.find? fun e => inRange (e.cx0, e.cx0 + e.len) c with
    | some e => (x.list.zipIdx.filter fun k => e.mask.testBit k.2).map (·.1)
    | none => []

/-! ### Building (R97) -/

/-- A composed non-awning layer as the build sees it. -/
def latchedCover (s : State) (c : PhaseCtx) (e : Nat × Latched) : Cover :=
  let g := latchedGeom s e.2 c.bypass
  ⟨e.1, dZ e.2.desc, g, mayOcclude e.2.desc g.src.fmt⟩

/-- The layers a table lists: non-awning layers that R135 composes, at most 64. -/
def listedLayers (s : State) (c : PhaseCtx) : List (Nat × Latched) :=
  ((composedLayers s c).filter fun e => !dAwning e.2.desc).take 64

/-- Awnings that R135 composes. -/
def floating (s : State) (c : PhaseCtx) : List (Nat × Latched) :=
  (composedLayers s c).filter fun e => dAwning e.2.desc

/-- Keep the highest `room` contributors (R95). -/
def truncate (room : Nat) (l : List Nat) : List Nat := l.drop (l.length - room)

/-- Runs of equal contributor sets: first column, length, set. -/
def spanRuns : Nat → List (List Nat) → List (Nat × Nat × List Nat)
  | _, [] => []
  | c, x :: xs =>
    match spanRuns (c + 1) xs with
    | (_, n, y) :: rest => if x == y then (c, n + 1, x) :: rest else (c, 1, x) :: (c + 1, n, y) :: rest
    | [] => [(c, 1, x)]

/-- A set of slots as a mask over the listed layers. -/
def maskOf (list set : List Nat) : Nat := ofBits (list.map set.contains)

/-- The contributing slots of each cell of each band, before and after R95. -/
def buildSets (s : State) (c : PhaseCtx) : List (List (List Nat) × List (List Nat)) :=
  let covers := stacked ((listedLayers s c).map (latchedCover s c))
  let room := 16 - (floating s c).length
  (List.range c.bands).map fun b =>
    let full := (bandStacks c.wc (16 * c.bands) b covers).map fun st => st.map (·.slot)
    (full, full.map (truncate room))

/-- FETCH_64 of a band: units planned for the listed layers. -/
def plannedUnits (covers : List Cover) (b : Nat) (cur prev : List (List Nat)) : Nat :=
  ((covers.map fun c => c.geom.planned b (columnsOf cur c.slot) (columnsOf prev c.slot)).foldl (· + ·) 0)

/-- Write a band's spans, then its directory entry, from span index `i`: the bank and the next index. That bands follow each other
in the span array without a gap, from index 0, is the model's choice (log entry 126). -/
def writeBand (list : List Nat) (b i fetch64 : Nat) (trunc : Bool) (sets : List (List Nat)) (x : SpanBank) : SpanBank × Nat :=
  let runs := spanRuns 0 sets
  let ents := runs.map fun r => (⟨r.1, r.2.1, r.2.2.length, maskOf list r.2.2⟩ : SpanEnt)
  ({ x with
      spans := Store.setList spanDefault x.spans i ents
      dir := Store.set dirDefault x.dir b ⟨i, runs.length, trunc, fetch64⟩ }, i + runs.length)

/-- The first `m` bands of a build into a bank: the bank, and the cells truncated. -/
def buildTable (s : State) (c : PhaseCtx) (m : Nat) (x : SpanBank) : SpanBank × Nat :=
  let sets := buildSets s c
  let covers := (listedLayers s c).map (latchedCover s c)
  let cut (e : List (List Nat) × List (List Nat)) : Nat := ((e.1.zip e.2).filter fun p => p.1 != p.2).length
  let step (acc : SpanBank × Nat × Nat) (e : (List (List Nat) × List (List Nat)) × Nat) : SpanBank × Nat × Nat :=
    let prev := ((sets.map (·.2)).getD (e.2 - 1) [])
    let r := writeBand x.list e.2 acc.2.1 (plannedUnits covers e.2 e.1.2 prev) (decide (0 < cut e.1)) e.1.2 acc.1
    (r.1, r.2, acc.2.2 + cut e.1)
  let r := (sets.zipIdx.take m).foldl step (x, 0, 0)
  (r.1, r.2.2)

/-- Bands that the build of slot (k, n) has written so far: the header within 2048 CORE clocks of its start, then a band in every
64 + 3 × Lv clocks, the terms of R97's bound (log entry 61). -/
def builtBands (s : State) (c : PhaseCtx) : Nat :=
  let clocks := (((nowPs s : Int) - (latchAt s c.k c.n + 1638400)) / 800).toNat
  min c.bands ((clocks - 2048) / (64 + 3 * (listedLayers s c).length))

/-- The staged bank as written so far (R97, R114). -/
def stagedNow (s : State) : SpanBank :=
  match s.spb.build with
  | some (k, n) =>
    match findCtx s k n with
    | some c => (buildTable s c (builtBands s c) (stagedBank s)).1
    | none => stagedBank s
  | none => stagedBank s

/-- A build is abandoned: the bank keeps what has been written (R97, R98). -/
def dropBuild (s : State) : State :=
  let t := setStaged s (stagedNow s)
  { t with spb := { t.spb with build := none } }

/-- R97: the latched state of slot (k, n) has been handed over; the header is written, and an unfinished build is abandoned. -/
def execSpanBuildStart (k n : Nat) (s : State) : Host.Outcome State Fault Refusal :=
  wall s (match findCtx s k n with
    | some c =>
      if c.xDone || s.spb.build == some (k, n) || s.spb.done == some (k, n) || !reached s (latchAt s k n + 1638400) then s
      else
        let s := releaseSafe s Page.SPB
        if safe s Page.SPB || !rdB s Reg.SPB.SPB_CTRL 0 then s
        else
          let s := dropBuild s
          let x := stagedBank s
          let t := setStaged s { x with phase := n, valid := false, list := (listedLayers s c).map (·.1), bands := c.bands }
          { t with spb := { t.spb with build := some (k, n) } }
    | none => s)

/-- R97: the build completes after `clocks` CORE clocks, at most tbuild. -/
def execSpanBuildDone (k n clocks : Nat) (s : State) : Host.Outcome State Fault Refusal :=
  wall s (match findCtx s k n with
    | some c =>
      if s.spb.build == some (k, n) && decide (clocks ≤ buildClocks c.bands (listedLayers s c).length) &&
          reached s (latchAt s k n + 1638400 + 800 * clocks) then
        let r := buildTable s c c.bands (stagedBank s)
        let seq := s.spb.builds + 1
        let t := setStaged s { r.1 with seq := seq, clk := clocks, valid := true }
        let t := { t with spb := { t.spb with build := none, builds := seq, done := some (k, n) } }
        let t := peak (wr t Reg.SPB.BUILD_TIME_LAST (w32 clocks)) Reg.SPB.BUILD_TIME_MAX clocks
        if 0 < r.2 then raiseE (bumpN t Reg.SPB.DEPTH_TRUNC r.2) Page.SPB 1 else t
      else s
    | none => s)

/-! ### The span boundary (R98, R169, R177 to R179) -/

/-- Flips that take effect at a boundary with nominal X(n) of `x` ps (R178, R310): the pending one, then mirrored ones in order. -/
def flipsAt (s : State) (x : Int) : List Nat :=
  s.cal.flip.toList ++ s.twn.ops.filterMap fun o =>
    match o.op with
    | .flip sel => if (o.e : Int) * 1000 ≤ x then some sel else none
    | _ => none

/-- FLIP_APPLY and OLD_FREE at the boundary of phase `n`; nothing moves under CAL's safe action. -/
def boundaryFlip (s : State) (n : Nat) (x : Int) : State :=
  if safe s Page.CAL then s
  else match (flipsAt s x).getLast? with
    | none => wrB s Reg.CAL.FLIP_STATUS 1 true
    | some sel =>
      let gone (o : MirPend) : Bool := match o.op with | .flip _ => decide ((o.e : Int) * 1000 ≤ x) | _ => false
      let s := { s with
        cal := { s.cal with flip := none }
        twn := { s.twn with ops := s.twn.ops.filter fun o => !gone o } }
      let s := wr64 s Reg.CAL.SEL_ACTIVE_LO Reg.CAL.SEL_ACTIVE_HI sel
      pulse (wrF (wrB s Reg.CAL.FLIP_STATUS 1 false) Reg.CAL.FLIP_STATUS 6 4 n) 27

/-- The calibration values of a slot: as they stand, or those of the phase's previous boundary under CAL's safe action (R388). -/
def calSample (s : State) (c : PhaseCtx) : PhaseCtx :=
  let q := newCtx s c.k c.n
  if safe s Page.CAL then
    match prevBound s c.n with
    | some p =>
      { c with calEn := p.calEn, defPack := p.defPack, primary := p.primary, sel := p.sel, packs := p.packs, base0 := p.base0,
               base1 := p.base1 }
    | none =>
      { c with calEn := false, defPack := 2, primary := 0, sel := 0, packs := List.replicate 16 0xAAAAAAAA, base0 := 0, base1 := 0 }
  else
    { c with calEn := q.calEn, defPack := q.defPack, primary := q.primary, sel := q.sel, packs := q.packs, base0 := q.base0,
             base1 := q.base1 }

/-- Granules and contexts of slots other than this one and the one before it are forgotten: composition has used them, or no longer
can (R103). -/
def sweepStage (s : State) (k n : Nat) : State :=
  let p := prevSlot s k n
  let keep (a b : Nat) : Bool := (a == k && b == n) || (a == p.1 && b == p.2)
  { s with
    fab := { s.fab with stage := s.fab.stage.filter fun g => keep g.k g.n }
    cal := { s.cal with ctxs := s.cal.ctxs.filter fun x => keep x.k x.n } }

/-- R98: X(n) of slot (k, n): the banks swap if its build has completed, else the active bank is kept and the phase is stale. -/
def boundary (s : State) (c : PhaseCtx) : State :=
  let s := sweepStage s c.k c.n
  let s := releaseSafe s Page.CAL
  let s := boundaryFlip s c.n c.boundary
  let swap := s.spb.done == some (c.k, c.n) && !safe s Page.SPB && rdB s Reg.SPB.SPB_CTRL 0
  let s :=
    if swap then pulse { s with spb := { s.spb with active := !s.spb.active, kept := false, done := none } } 25
    else
      let s := wr (bump s Reg.SPB.STALE_PHASES) Reg.SPB.LAST_STALE (w32 (c.n + 8))
      pulse (raiseE { s with spb := { s.spb with kept := true } } Page.SPB 0) 26
  let c := calSample s c
  let c := { c with bank := s.spb.active, stale := !swap, xDone := true, parity := c.parity || impairing s }
  notePrev (setCtx s c) (8 + c.n) c

/-- R98: the span boundary of slot (k, n) is reached. -/
def execSpanSwap (k n : Nat) (s : State) : Host.Outcome State Fault Refusal :=
  wall s (match findCtx s k n with
    | some c => if !c.xDone && reached s c.boundary then boundary s c else s
    | none => s)

/-! ### Fetch release (R102, R103, R166) -/

/-- Contributing slots of each cell of a band in a slot: the table's, cut to what phase n composes where the table is kept (R100). -/
def bandSets (s : State) (c : PhaseCtx) (b : Nat) : List (List Nat) :=
  let x := if c.bank then s.spb.bank1 else s.spb.bank0
  let live := (composedLayers s c).map (·.1)
  if x.bands ≤ b then List.replicate (c.wc / 16) []
  else
    let sets := x.band b (c.wc / 16)
    if c.stale then sets.map fun l => l.filter live.contains else sets

/-- Units of the contexts of band `b` in copy `copy` (R166, R177). -/
def contextUnits (c : PhaseCtx) (copy b : Nat) : List Nat :=
  let a := ctxAddr (if copy = 1 then c.base1 else c.base0) (1024 * b) (ctxBank c.sel (1024 * b))
  (List.range (ceilDiv (2 * c.wc) 64)).map fun i => a / 64 + i

/-- The requests of a band's non-awning layers and contexts. -/
def releaseBand (s : State) (c : PhaseCtx) (b : Nat) : State :=
  let cur := bandSets s c b
  let prev := if b = 0 then [] else bandSets s c (b - 1)
  let plain := (composedLayers s c).filter fun e => !dAwning e.2.desc
  let s' := plain.foldl (fun t e =>
    (layerUnits (latchedGeom s e.2 c.bypass) b (columnsOf cur e.1) (columnsOf prev e.1)).foldl (issueFetch c b (.layer e.1)) t) s
  if c.calEn then issueFetch c b (.context c.primary) s' (contextUnits c c.primary b) else s'

/-- When the requests of band `b` are released: C(n, b − FETCH_AHEAD), X(n) for the first ones. -/
def PhaseCtx.releaseAt (c : PhaseCtx) (b : Nat) : Int := if b < c.ahead then c.boundary else c.begin_ ((b : Int) - c.ahead)

/-- R103: the requests of band `b` of slot (k, n) are released. -/
def execFetchRelease (k n b : Nat) (s : State) : Host.Outcome State Fault Refusal :=
  wall s (match findCtx s k n with
    | some c =>
      if c.xDone && c.released == b && decide (b < c.bands) && reached s (c.releaseAt b) then
        releaseBand (setCtx s { c with released := b + 1 }) { c with released := b + 1 } b
      else s
    | none => s)

/-- R103: all transfers of a layer's or awning's request have been granted; its data is staged, or discarded where its band is
late (R105). -/
def execFetchDataReturn (id : Nat) (s : State) : Host.Outcome State Fault Refusal :=
  wall s (match s.fab.reqs.find? fun r => r.id == id with
    | some r =>
      let ctx := match r.kind with | .context _ => true | _ => false
      if ctx || r.granted.length != r.units.length then s
      else
        let f := { s.fab with reqs := s.fab.reqs.erase r }
        if r.discard then { s with fab := f }
        else { s with fab := { f with stage := f.stage ++ [⟨r.k, r.n, r.b, r.kind, r.addr, r.units, r.data, r.poison, coreClk s⟩] } }
    | none => s)

/-! ### Recheck (R112) -/

/-- R112: a write of RECHECK. -/
def execRecheckGo (a : Agent) (v : Word) (s : State) : Host.Outcome State Fault Refusal :=
  let t := wrB { s with spb := { s.spb with recheck := some (newReqId s) } } Reg.SPB.RECHECK_STATUS 0 true
  live s (guarded s a Reg.SPB.RECHECK v .cmd (if bit v 0 && s.spb.recheck.isNone then t else s))

/-- R112: the recheck returns, once every request written before it has its verdict. -/
def execRecheckDone (s : State) : Host.Outcome State Fault Refusal :=
  wall s (match s.spb.recheck with
    | some b =>
      if s.lyr.queue.any fun r => !r.ready && decide (r.id < b) then s
      else
        let r := admitBank false s s.lyr.active
        let t := wr { r.2 with spb := { r.2.spb with recheck := none } } Reg.SPB.RECHECK_STATUS (w32 (2 * r.1.toNat))
        if r.1 then t else raiseE t Page.SPB 2
    | none => s)

/-! ### The span window and BANK_STATUS (R114) -/

/-- A byte of a bank's header (R96). LIST bytes beyond NL read zero, which R96 leaves open (log entry 125). -/
def SpanBank.headByte (x : SpanBank) (o : Nat) : Nat :=
  let w0 := x.phase + 8 * x.valid.toNat + 256 * x.list.length + 2 ^ 16 * x.bands
  if o < 4 then w0 / 256 ^ o % 256
  else if o < 8 then x.seq / 256 ^ (o - 4) % 256
  else if o < 12 then x.clk / 256 ^ (o - 8) % 256
  else if 16 ≤ o then x.list.getD (o - 16) 0 else 0

/-- A word of a bank at a byte offset (R96, R97). -/
def SpanBank.word (x : SpanBank) (o : Nat) : Word :=
  if o < 0x1000 then w32 (x.headByte o + 256 * x.headByte (o + 1) + 65536 * x.headByte (o + 2) + 2 ^ 24 * x.headByte (o + 3))
  else if o < 0x3000 then
    let d := x.dirAt ((o - 0x1000) / 8)
    if o % 8 = 0 then w32 (d.first + 2 ^ 19 * d.count + 2 ^ 28 * d.trunc.toNat) else w32 d.fetch64
  else if o < 0x407000 then
    let e := x.spanAt ((o - 0x3000) / 16)
    match (o - 0x3000) / 4 % 4 with
    | 0 => w32 (e.cx0 + 2 ^ 10 * e.len + 2 ^ 21 * e.depth)
    | 1 => 0
    | 2 => w32 e.mask
    | _ => w32 (e.mask / 2 ^ 32)
  else 0

/-- The SPB window at a byte offset. -/
def readSpanWindow (s : State) (off : Nat) : Word :=
  let o := off / 4 * 4
  if o < 0x600000 then (if s.spb.active then stagedNow s else s.spb.bank0).word o
  else if 0x800000 ≤ o ∧ o < 0xE00000 then (if s.spb.active then s.spb.bank1 else stagedNow s).word (o - 0x800000)
  else 0

/-- BANK_STATUS. -/
def bankStatus (s : State) : Word :=
  let a := activeBank s
  let g := stagedBank s
  w32 (s.spb.active.toNat + 2 * s.spb.build.isSome.toNat + 4 * g.valid.toNat + 16 * a.phase + 256 * g.phase +
    2 ^ 11 * s.spb.kept.toNat)

end Sys2Proof.Machine
end

