-- ==== Sys2Proof/Machine/Colour.lean ====
section
/-! DEFINITION. From surface bytes to output words: unpacking, decimation, filtering and coverage (R117 to R131), the colour
pipeline, blending, calibration, post-blend tables, quantisation and dither (R140 to R160, R167). -/

namespace Sys2Proof.Machine

/-! ### Stores of the colour path -/

/-- Coefficient words after reset (R127), by word of SC0's window (R125). -/
def coefDefault (k : Nat) : Word :=
  let p := k / 8 % 64
  let w := k % 8
  if 0x8000 ≤ k then 0
  else if k / 0x2000 % 2 = 0 then
    if w = 1 then w32 (256 * (64 - p) * 65536) else if w = 2 then w32 (256 * p) else 0
  else if w = 1 then w32 (256 * (64 - p) + 256 * p * 65536) else 0

/-- A coefficient: copy, axis (1 vertical), set, phase, tap. -/
def coefAt (s : State) (copy axis set phase tap : Nat) : Int :=
  let w := Store.get coefDefault s.lut.coef (0x4000 * copy + 0x2000 * axis + 0x200 * set + 8 * phase + tap / 2)
  toSigned 16 (fld w (16 * (tap % 2) + 15) (16 * (tap % 2)))

/-- The input at which a post-blend segment starts (R155). -/
def postStart (i : Nat) : Nat := if i < 256 then i else (i % 256 + 256) * 2 ^ (i / 256 - 1)

/-- LUT words after reset (R147, R155), by word of CLR's window (R163). -/
def lutDefault (k : Nat) : Word :=
  if k < 0x40000 then
    if k / 0x800 % 4 < 3 ∧ k % 0x800 ≤ 1024 then w32 (k % 0x800 * 1024) else 0
  else if k < 0x80000 then
    if k / 0x1000 % 4 < 3 ∧ k % 0x1000 ≤ 3328 then w32 (min (postStart (k % 0x1000)) 0xFFFFF) else 0
  else 0

/-- Entry of a pre-blend table (R146). -/
def preEntry (s : State) (set ch i : Nat) : Int :=
  fld (Store.get lutDefault s.lut.lut (0x2000 * set + 0x800 * ch + i)) 23 0

/-- Entry of a post-blend table (R153). -/
def postEntry (s : State) (copy set ch i : Nat) : Int :=
  fld (Store.get lutDefault s.lut.lut (0x40000 + 0x20000 * copy + 0x4000 * set + 0x1000 * ch + i)) 19 0

/-! ### Scaler path (R116 to R123) -/

/-- A contributor as composition sees it: slot, stacking order, descriptor, geometry, how its bytes are read, its scalers. -/
structure PixSrc where
  slot    : Nat
  z       : Nat
  d       : List Word
  g       : Geom
  bytes   : Nat → Byte
  scalers : List Nat

/-- What composition counts: clamps of the CSC, of W24 entry, of the blend, of the post-blend input, of calibration, and pixels
and clamps of scalers. -/
structure Tally where
  csc   : Nat
  w24   : Nat
  blend : Nat
  clip  : Nat
  cal   : Nat
  sc    : List (Nat × Nat × Nat)
  deriving DecidableEq, Repr

/-- Nothing counted. -/
def Tally.zero : Tally := ⟨0, 0, 0, 0, 0, []⟩

/-- Counts of two parts together. -/
def Tally.add (a b : Tally) : Tally :=
  ⟨a.csc + b.csc, a.w24 + b.w24, a.blend + b.blend, a.clip + b.clip, a.cal + b.cal, b.sc ++ a.sc⟩

/-- One channel of a contributor's surface pixel (R117, R118). -/
def PixSrc.surface (q : PixSrc) (x y : Int) (c : Nat) : Int := q.g.src.sample q.bytes (dIgnoreA q.d) x y c

/-- A decimated sample (R119). -/
def PixSrc.decimated (q : PixSrc) (k r : Int) (c : Nat) : Int :=
  let avg (n : Nat) (f : Nat → Int) : Int := (((List.range n).map f).foldl (· + ·) 0 + n / 2) / n
  avg q.g.decV fun j => avg q.g.decH fun i =>
    q.surface (q.g.cx + q.g.decH * k + i) (q.g.cy + q.g.decV * r + j) c

/-- Taps beyond the crop under the edge mode (R123). -/
def Geom.cut (g : Geom) (n : Nat) (k : Int) : Int := if g.edge % 2 = 0 then clampI 0 ((n : Int) - 1) k else k

/-- Vertical filter at decimated column `k` (R122). -/
def PixSrc.vertical (q : PixSrc) (s : State) (c : PhaseCtx) (k : Int) (iv : Int × Nat) (ch : Nat) : Int :=
  let set := fld (dw q.d 22) 7 4
  let copy := (bit c.coefSel (16 + set)).toNat
  let sum := ((List.range 6).map fun j =>
    coefAt s copy 1 set iv.2 j * q.decimated (q.g.cut q.g.wd k) (q.g.cut q.g.hd (iv.1 + j - 2)) ch).foldl (· + ·) 0
  clampI (-4194304) 4194303 ((sum + 2048) / 4096)

/-- Limits of satO for a channel (R122). -/
def outLimits (f ch : Nat) : Int × Int :=
  if ch = 3 then (0, fullScale f) else if f = 4 then (-1048576, 1048575) else (0, 0xFFFF)

/-- One channel of a scaled pixel and whether satO changed it (R122). -/
def PixSrc.scaled (q : PixSrc) (s : State) (c : PhaseCtx) (x y ch : Nat) : Int × Bool :=
  let ih := tapAt x q.g.dx q.g.stepH
  let iv := tapAt y q.g.dy q.g.stepV
  let set := fld (dw q.d 22) 3 0
  let copy := (bit c.coefSel set).toNat
  let sum := ((List.range 8).map fun j =>
    coefAt s copy 0 set ih.2 j * q.vertical s c (ih.1 + j - 3) iv ch).foldl (· + ·) 0
  let v := (sum + 32768) / 65536
  let l := outLimits q.g.src.fmt ch
  let o := clampI l.1 l.2 v
  (o, o != v)

/-- The scaler that owns a canvas column (R130). -/
def PixSrc.owner (q : PixSrc) (x : Nat) : Option Nat :=
  let ih := (tapAt x q.g.dx q.g.stepH).1
  let st := q.g.stripes.getD []
  let j := (st.zipIdx.find? fun e => decide (ih < (e.1.2.1 : Int))).map (·.2)
  q.scalers[j.getD (st.length - 1)]?

/-- The four channels of a covered pixel, with what the scaler counts (R122, R128). -/
def PixSrc.pixel (q : PixSrc) (s : State) (c : PhaseCtx) (x y : Nat) : List Int × Tally :=
  if q.g.bypass then
    let at_ (ch : Nat) : Int := q.surface (q.g.cx + ((x : Int) - q.g.dx / 16)) (q.g.cy + ((y : Int) - q.g.dy / 16)) ch
    ([at_ 0, at_ 1, at_ 2, clampI 0 (fullScale q.g.src.fmt) (at_ 3)], .zero)
  else
    let vs := (List.range 4).map (q.scaled s c x y)
    let n := (vs.filter (·.2)).length
    (vs.map (·.1), { Tally.zero with sc := match q.owner x with | some i => [(i, 1, n)] | none => [] })

/-! ### Stages 1 to 5 (R141 to R148) -/

/-- The constants of R143: Yb, Yw, Cc, Cl, Ch. -/
def yccConst (f : Nat) : Int × Int × Int × Int × Int :=
  if f = 8 then (4112, 60396, 32897, 4112, 61681)
  else if f = 7 then (4097, 60175, 32777, 4097, 61456)
  else (4100, 60219, 32801, 4100, 61501)

/-- Saturation to S5.16. -/
def satS516 (v : Int) : Int := clampI (-1048576) 1048575 v

/-- Stage 2 of a YCbCr pixel. -/
def rangeYcc (f : Nat) (narrow : Bool) (v : List Int) : List Int :=
  let (yb, yw, cc, cl, ch) := yccConst f
  let y := v.getD 0 0
  let c (i : Nat) : Int :=
    satS516 (if narrow then rnd ((v.getD i 0 - cc) * 65536) (ch - cl).toNat else v.getD i 0 - cc)
  [satS516 (if narrow then rnd ((y - yb) * 65536) (yw - yb).toNat else y), c 1, c 2]

/-- The CSC of R145 with its clamp count. -/
def cscStage (d : List Word) (fbits : Nat) (lo hi : Int) (v : List Int) : List Int × Nat :=
  if !dCscEn d then (v, 0)
  else
    let row (r : Nat) : Int :=
      (dCsc d (4 * r) * v.getD 0 0 + dCsc d (4 * r + 1) * v.getD 1 0 + dCsc d (4 * r + 2) * v.getD 2 0 +
        dCsc d (4 * r + 3) * 2 ^ fbits + 4096) / 8192
    let raw := [row 0, row 1, row 2]
    (raw.map (clampI lo hi), (raw.filter fun x => clampI lo hi x != x).length)

/-- Stage 4 of one channel: the pre-blend table or the direct conversion, and whether a clamp changed it (R146, R148). -/
def stage4 (s : State) (d : List Word) (ch : Nat) (v : Int) : Int × Bool :=
  if dPreLutEn d then
    let x := clampI 0 0x10000 v
    let i := (x / 64).toNat
    let f := x % 64
    let e (j : Nat) : Int := preEntry s (dPreLut d) ch j
    (if i = 1024 then e 1024 else e i + ((e (i + 1) - e i) * f + 32) / 64, x != v)
  else
    let x := clampI 0 0xFFFFFF (v * 16)
    (x, x != v * 16)

/-- Stage 4 of a pixel. -/
def stage4All (s : State) (d : List Word) (v : List Int) : List Int × Nat :=
  let r := v.zipIdx.map fun e => stage4 s d e.2 e.1
  (r.map (·.1), (r.filter (·.2)).length)

/-- Stages 1 to 5 of a pixel: W24 colour, alpha in U1.20, counts. -/
def colourOf (s : State) (q : PixSrc) (v : List Int) : List Int × Int × Tally :=
  let f := q.g.src.fmt
  let a : Int := if dIgnoreA q.d || fmtYcc f then 0x100000 else normalise f (v.getD 3 0) * 16
  let w := (v.take 3).map (normalise f)
  if fmtYcc f then
    let x := cscStage q.d 16 (-1048576) 1048575 (rangeYcc f (dNarrow q.d) w)
    let y := stage4All s q.d x.1
    (y.1, a, { Tally.zero with csc := x.2, w24 := y.2 })
  else
    let y := stage4All s q.d w
    let x := cscStage q.d 20 0 0xFFFFFF y.1
    (x.1, a, { Tally.zero with csc := x.2, w24 := y.2 })

/-! ### Blending (R149 to R152) -/

/-- r(p, q) of R149. -/
def mul20 (p q : Int) : Int := (p * q + 2 ^ 19) / 2 ^ 20

/-- 1.0 in U1.20. -/
def one20 : Int := 0x100000

/-- One channel of the blend before its clamp (R151). -/
def blendChan (mode : Nat) (premul : Bool) (c a m sa d da : Int) : Int :=
  let src := if premul then mul20 c m else mul20 c sa
  let bare := if premul then c else mul20 c a
  match mode with
  | 0 => src + mul20 d (one20 - sa)
  | 1 => src + d
  | 2 => mul20 src d + mul20 src (one20 - da) + mul20 d (one20 - sa)
  | 3 => src + d - mul20 src d
  | _ => mul20 bare m + mul20 d (one20 - m)

/-- The destination alpha after a contributor (R151). -/
def blendAlpha (mode : Nat) (a m sa da : Int) : Int :=
  clampI 0 one20
    (if mode = 1 then min one20 (sa + da) else if mode = 4 then mul20 a m + mul20 da (one20 - m)
     else sa + mul20 da (one20 - sa))

/-- Blend one contributor's pixel onto (d, da). -/
def blendOnto (q : PixSrc) (cov : Nat) (c : List Int) (a : Int) (d : List Int) (da : Int) : List Int × Int × Nat :=
  let g : Int := dAlpha q.d
  let m := (cov * g + 4) / 8
  let sa := (a * cov * g + 2 ^ 22) / 2 ^ 23
  let raw := (List.range 3).map fun i => blendChan (dBlend q.d) (dPremul q.d) (c.getD i 0) a m sa (d.getD i 0) da
  (raw.map (clampI 0 0xFFFFFF), blendAlpha (dBlend q.d) a m sa da, (raw.filter fun x => clampI 0 0xFFFFFF x != x).length)

/-- Apply the contributors of a pixel from the lowest to the highest (R152). -/
def blendAll (s : State) (c : PhaseCtx) (x y : Nat) : List PixSrc → List Int → Int → Tally → List Int × Tally
  | [], d, _, t => (d, t)
  | q :: qs, d, da, t =>
    let cov := q.g.cov x y
    if cov = 0 then blendAll s c x y qs d da t
    else
      let p := q.pixel s c x y
      let v := colourOf s q p.1
      let b := blendOnto q cov v.1 v.2.1 d da
      blendAll s c x y qs b.1 b.2.1 (((t.add p.2).add v.2.2).add { Tally.zero with blend := b.2.2 })

/-! ### Calibration, post-blend tables, quantisation (R153 to R159, R167) -/

/-- Stage 7 (R167): none passes the pixel unchanged. -/
def calibrate (ctx : Option (List Byte)) (d : List Int) : List Int × Nat :=
  match ctx with
  | none => (d, 0)
  | some x =>
    let row (r : Nat) : Int :=
      (ctxMatrix x r 0 * d.getD 0 0 + ctxMatrix x r 1 * d.getD 1 0 + ctxMatrix x r 2 * d.getD 2 0 + ctxOffset x r * 2 ^ 14 +
        2 ^ 13) / 2 ^ 14
    let raw := [row 0, row 1, row 2]
    (raw.map (clampI 0 0xFFFFFF), (raw.filter fun v => clampI 0 0xFFFFFF v != v).length)

/-- Stage 8 of one channel (R153, R154), and whether POST_CLIP counts it. -/
def postBlend (s : State) (c : PhaseCtx) (ch v : Nat) : Nat × Bool :=
  if bit c.phOut 0 then
    let e (i : Nat) : Int := postEntry s (bit c.postSel c.n).toNat c.n ch i
    if 0x100000 ≤ v then ((e 3328).toNat, decide (0x100000 < v))
    else if v < 512 then ((e v).toNat, false)
    else
      let sh := Nat.log2 v - 8
      let i := 256 * sh + v / 2 ^ sh
      ((e i + ((e (i + 1) - e i) * (v % 2 ^ sh : Nat) + 2 ^ (sh - 1)) / 2 ^ sh).toNat, false)
  else (min v 0xFFFFF, decide (0xFFFFF < v))

/-- The ordered-dither matrix (R158). -/
def ditherMatrix : List (List Nat) :=
  [[0, 32, 8, 40, 2, 34, 10, 42], [48, 16, 56, 24, 50, 18, 58, 26], [12, 44, 4, 36, 14, 46, 6, 38],
   [60, 28, 52, 20, 62, 30, 54, 22], [3, 35, 11, 43, 1, 33, 9, 41], [51, 19, 59, 27, 49, 17, 57, 25],
   [15, 47, 7, 39, 13, 45, 5, 37], [63, 31, 55, 23, 61, 29, 53, 21]]

/-- Quantise one code at depth `n` without diffusion (R157). -/
def quantise (mode n x y v : Nat) : Nat :=
  let sh := 20 - n
  let t := if mode = 1 then ((ditherMatrix.getD (y % 8) []).getD (x % 8) 0) * 2 ^ sh / 64 else 2 ^ (sh - 1)
  min ((v + t) / 2 ^ sh) (2 ^ n - 1)

/-- Error diffusion along one row (R159): `acc` holds the errors due to this row's pixels from the row above and, as it goes, from
the left; the results and the errors due to the next row, by column. -/
def diffuseRow (n : Nat) : List (Nat × Int) → Int → List Int → List Nat × List Int
  | [], _, below => ([], below)
  | (v, acc) :: rest, left, below =>
    let sh := 20 - n
    let u := clampI 0 0xFFFFF ((v : Int) + (acc + left + 8) / 16)
    let q := min ((u + 2 ^ (sh - 1)) / 2 ^ sh) (2 ^ n - 1)
    let e := u - q * 2 ^ sh
    let b (i : Nat) : Int := below.getD i 0
    let below' := match below.length with
      | 0 => [5 * e, e]
      | m + 1 => below.take (m - 1) ++ (if m = 0 then [b m + 5 * e] else [b (m - 1) + 3 * e, b m + 5 * e]) ++ [e]
    let r := diffuseRow n rest (7 * e) below'
    (q.toNat :: r.1, r.2)

/-- Error diffusion over the rows of a cell's channel. -/
def diffuse (n : Nat) : List (List Nat) → List Int → List (List Nat)
  | [], _ => []
  | row :: rows, acc =>
    let r := diffuseRow n (row.zipIdx.map fun e => (e.1, acc.getD e.2 0)) 0 []
    r.1 :: diffuse n rows (r.2.take 16)

/-- The codes of one channel of a cell, raster order, brought to depth `n` (R157, R159). -/
def quantiseCell (mode n cx b : Nat) (v : List Nat) : List Nat :=
  if mode = 2 then (diffuse n (chunks 16 17 v) []).flatten
  else v.zipIdx.map fun e => quantise mode n (16 * cx + e.2 % 16) (16 * b + e.2 / 16) e.1

/-! ### A cell -/

/-- The composed words of a cell at depth `n` (R152 to R159), with what composing it counts. -/
def composeCell (s : State) (c : PhaseCtx) (b cx : Nat) (srcs : List PixSrc) (ctx : Option (List Byte)) (n : Nat) : Cell × Tally :=
  let px := (List.range 256).map fun i =>
    let x := 16 * cx + i % 16
    let y := 16 * b + i / 16
    let r := blendAll s c x y srcs [0, 0, 0] 0 .zero
    let k := calibrate ctx r.1
    let p := (k.1.zipIdx).map fun e => postBlend s c e.2 e.1.toNat
    (p.map (·.1), r.2.add { Tally.zero with cal := k.2, clip := (p.filter (·.2)).length })
  let chan (i : Nat) : List Nat := quantiseCell (fld c.phOut 2 1) n cx b (px.map fun e => e.1.getD i 0)
  let words := ((chan 0).zip ((chan 1).zip (chan 2))).map fun e => e.1 + 2 ^ 16 * e.2.1 + 2 ^ 32 * e.2.2
  (⟨n, words⟩, px.foldl (fun t e => t.add e.2) .zero)

end Sys2Proof.Machine
end

