-- ==== Sys2Proof/Machine/Fabric.lean ====
section
/-! DEFINITION. The memory fabric: arbitration windows and slots (R106 to R109, R347), reads with their ECC (R455), ingest writes, and
the withdrawal of late requests (R105). -/

namespace Sys2Proof.Machine

/-- Window of pseudo-channel `pc`. -/
def pcWin (s : State) (pc : Nat) : PcWin := Store.get (fun _ => PcWin.reset) s.fab.wins pc

/-- Replace the window of pseudo-channel `pc`. -/
def setWin (s : State) (pc : Nat) (w : PcWin) : State :=
  { s with fab := { s.fab with wins := Store.set (fun _ => PcWin.reset) s.fab.wins pc w } }

/-- A window of 256 slots ends: the next one starts with the shares as they stand (R108, R109), FAB's safe action ending here
(R388). -/
def newWindow (s : State) (pc : Nat) : State :=
  let s := releaseSafe s Page.FAB
  setWin s pc { pcWin s pc with slot := 0, disp := 0, ing := 0, shares := sharesNow s }

/-- R108: the 256th slot of a window has been used. -/
def execArbitrationWindowEnd (pc : Nat) (s : State) : Host.Outcome State Fault Refusal :=
  wall s (if decide (pc < 128) && (pcWin s pc).slot == 256 then newWindow s pc else s)

/-- Quotas of display and ingest in a window (R108). -/
def quotas (s : State) (w : PcWin) : Nat × Nat :=
  let v := if safe s Page.FAB then 0xA46 else w.shares
  (ceilDiv (256 * fld v 7 0) 100, ceilDiv (256 * fld v 15 8) 100)

/-! ### Grants -/

/-- A band's composition has ended: what was fetched for it has been consumed (R103). -/
def bandOver (s : State) (k n b : Nat) : Bool :=
  match ringSlot s k n b with
  | some r => r.final
  | none => match findCtx s k n with | some c => reached s (c.release b) | none => true

/-- Bytes of the fetch staging buffer in use (R103): data granted and not yet consumed by composition, and the contexts of bands not
yet composed. -/
def stagedBytes (s : State) : Nat :=
  let add (l : List Nat) : Nat := l.foldl (· + ·) 0
  64 * add (s.fab.reqs.map fun r => r.granted.length) +
    64 * add ((s.fab.stage.filter fun g => !bandOver s g.k g.n g.b).map fun g => g.units.length) +
    32 * (s.cal.ctxs.filter fun x => !bandOver s x.k x.n (x.cell / 1024)).length

/-- A transfer finds room in the 16 MiB of the staging buffer; one that finds none waits (R103, log entry 63). -/
def stageRoom (s : State) : Bool := decide (stagedBytes s + 64 ≤ 0x1000000)

/-- The display request that a pseudo-channel serves next: the earliest tag, then the order of issue (R107). -/
def nextDisplay (s : State) (pc : Nat) : Option FetchReq :=
  let c := s.fab.reqs.filter fun r => pseudoChannel r.addr == pc && decide (r.granted.length < r.units.length) && stageRoom s
  c.foldl (fun best r =>
    match best with
    | some q => if r.tag < q.tag ∨ (r.tag = q.tag ∧ r.id < q.id) then some r else best
    | none => some r) none

/-- Grant one transfer of a display request: its bytes are read and kept with it. -/
def grantDisplay (s : State) (r : FetchReq) (e0 e1 : Ecc) : State :=
  match r.units.find? fun u => !r.granted.contains u with
  | none => s
  | some u =>
    let a := r.addr + 64 * u
    let p0 := readWord32 (countTransfer s a false) a e0
    let p1 := readWord32 p0.2 (a + 32) e1
    let t := p1.2
    let bad := (if p0.1 then [a / 32] else []) ++ (if p1.1 then [a / 32 + 1] else [])
    let r' := { r with
      granted := r.granted ++ [u]
      data := Store.setList zeroB r.data a (memRead s a 64)
      poison := r.poison ++ bad }
    let t := { t with fab := { t.fab with reqs := replaceFirst (fun x => x.id == r.id) (fun _ => r') t.fab.reqs } }
    let t := bump64 (bump64 t Reg.FAB.DISP_GRANTS_LO Reg.FAB.DISP_GRANTS_HI 1) Reg.SPB.FETCH_BYTES_LO Reg.SPB.FETCH_BYTES_HI 64
    peak t Reg.FAB.DISP_WAIT_MAX (fabClk s - r.at_)

/-- The oldest ingest write of a pseudo-channel. -/
def nextIngest (s : State) (pc : Nat) : Option IngWrite := s.ing.writes.find? fun w => pseudoChannel w.addr == pc

/-- Write single bytes of one 64-byte unit; a 32-byte word wholly written loses its error (R455). -/
def writeCells (s : State) (a : Nat) (cells : List (Nat × Byte)) : State :=
  let whole (w : Nat) : Bool := (List.range 32).all fun i => cells.any fun c => c.1 == 32 * w + i
  let heal (p : Store Bool) (w : Nat) : Store Bool := if whole w then Store.set noB p w false else p
  { s with
    mem := cells.foldl (fun m c => if c.1 < memBytes then Store.set memDefault m c.1 c.2 else m) s.mem
    poison := heal (heal s.poison (a / 32)) (a / 32 + 1) }

/-- The last data write of a frame is done: step 1 of R45 for its fence, and for an SDI frame MISMATCH clears (R59). -/
def frameWritten (s : State) (w : IngWrite) : State :=
  let last := !writesWait s w.st w.buf && (stream s w.st).fences.any fun f => f.buf == w.buf && f.done.isNone
  let s := if last && decide (16 ≤ w.port) && decide (w.port < 24) then wrB s (Reg.SD.SDI_STATUS (w.port - 16)) 2 false else s
  noteWritten s w.st w.buf

/-- Grant an ingest write: its bytes are in memory; a packet wholly written leaves the port's buffer (R37). -/
def grantIngest (s : State) (w : IngWrite) : State :=
  let t := writeCells (countTransfer s w.addr true) w.addr w.cells
  let t := { t with ing := { t.ing with writes := t.ing.writes.erase w } }
  let t := if decide (w.port < 16) && !(t.ing.writes.any fun v => v.pkt == w.pkt) then setFill t w.port (fillOf t w.port - w.frees)
    else t
  let t := frameWritten t w
  let t := bump64 t Reg.FAB.ING_GRANTS_LO Reg.FAB.ING_GRANTS_HI 1
  peak t Reg.FAB.ING_WAIT_MAX (fabClk s - w.at_)

/-- A best-effort requester's place in the round robin of R108. -/
def beIndex : BeWho → Nat
  | .blt => 2
  | .dma => 3
  | .host => 4
  | .mgt => 5

/-- The DMA channel that takes a slot (R347): priority first, then round robin from the one after the channel last served. -/
def dmaChannel (s : State) (pc : Nat) (chans : List Nat) : Option (Nat × Nat) :=
  let level (p : Nat) : List Nat := chans.filter fun c => (rdB s (Reg.DC.CH_CTRL c) 1).toNat == p
  let pick (p : Nat) : Option (Nat × Nat) :=
    let next := Store.get zeroN s.fab.dmaRr (2 * pc + p)
    (((List.range 16).map fun i => (next + i) % 16).find? fun c => (level p).contains c).map fun c => (c, p)
  match pick 1 with
  | some x => some x
  | none => pick 0

/-- What one 32-byte word of a best-effort read meets at memory: a corrected error counts; an uncorrectable one stays with the
word, and the requester's own command counts its reading (R455, log entry 139). -/
def meetBest (s : State) (a : Nat) (e : Ecc) : State :=
  match e with
  | .ok => s
  | .corrected => bump s (Reg.MEM.ECC_CORR (pseudoChannel a / 32))
  | .uncorrectable => { s with poison := Store.set noB s.poison (a / 32) true }

/-- Grant a best-effort transfer: what the data does is the requester's own command. -/
def grantBest (s : State) (pc who : Nat) (be : List BeReq) (e0 e1 : Ecc) : State :=
  let mine := be.filter fun r => beIndex r.who == who
  let served := if who = 3 then dmaChannel s pc (mine.map (·.chan)) else none
  let req : Option BeReq := match served with
    | some c => mine.find? fun r => r.chan == c.1
    | none => mine.head?
  let write : Bool := match req with | some r => r.write | none => false
  let s := match req with
    | some r => if r.write then s else meetBest (meetBest s (r.addr / 64 * 64) e0) (r.addr / 64 * 64 + 32) e1
    | none => s
  let k := pc / 32
  let t := if write then bump64 s (Reg.MEM.WR_BYTES_LO k) (Reg.MEM.WR_BYTES_HI k) 64
    else bump64 s (Reg.MEM.RD_BYTES_LO k) (Reg.MEM.RD_BYTES_HI k) 64
  let t := bump64 t Reg.FAB.BE_GRANTS_LO Reg.FAB.BE_GRANTS_HI 1
  let since := Store.get zeroN s.fab.beAt (8 * pc + who)
  let t := peak t Reg.FAB.BE_WAIT_MAX (if since = 0 then 0 else fabClk s + 1 - since)
  let t := { t with fab := { t.fab with beAt := Store.set zeroN t.fab.beAt (8 * pc + who) 0 } }
  match served with
  | some c => { t with fab := { t.fab with dmaRr := Store.set zeroN t.fab.dmaRr (2 * pc + c.2) ((c.1 + 1) % 16) } }
  | none => t

/-- Note since when each best-effort requester has waited at a pseudo-channel (its FAB clock plus 1; 0: it does not wait). -/
def noteWaits (s : State) (pc : Nat) (be : List BeReq) : State :=
  (List.range 4).foldl (fun s i =>
    let who := i + 2
    let key := 8 * pc + who
    let old := Store.get zeroN s.fab.beAt key
    let now := if be.any fun r => beIndex r.who == who then (if old = 0 then fabClk s + 1 else old) else 0
    { s with fab := { s.fab with beAt := Store.set zeroN s.fab.beAt key now } }) s

/-- Who takes a slot of a window (R108): 0 display, 1 ingest, 2 to 5 best effort, with whether it is a share within quota. -/
def slotWinner (s : State) (w : PcWin) (disp ing : Bool) (be : List BeReq) : Option (Nat × Bool) :=
  let q := quotas s w
  if disp && decide (w.disp < q.1) then some (0, true)
  else if ing && decide (w.ing < q.2) then some (1, true)
  else
    let wants (i : Nat) : Bool := if i = 0 then disp else if i = 1 then ing else be.any fun r => beIndex r.who == i
    (((List.range 6).map fun i => (w.rr + i) % 6).find? wants).map fun i => (i, false)

/-- One transfer slot of pseudo-channel `pc` (R108). A stack whose link is retraining grants nothing. -/
def slotGrant (s : State) (pc : Nat) (be : List BeReq) (e0 e1 : Ecc) : State :=
  let s := if (pcWin s pc).slot = 256 then newWindow s pc else s
  let be := be.filter fun r => pseudoChannel r.addr == pc
  let s := noteWaits s pc be
  let w := pcWin s pc
  let d := nextDisplay s pc
  let i := nextIngest s pc
  let win := if rdB s (Reg.MEM.MEM_STATUS (pc / 32)) 1 then none else slotWinner s w d.isSome i.isSome be
  let w' := { w with slot := w.slot + 1 }
  match win with
  | none => setWin s pc w'
  | some (0, quota) =>
    let w' := if quota then { w' with disp := w.disp + 1 } else { w' with rr := 1 }
    let t := match d with | some r => grantDisplay s r e0 e1 | none => s
    bumpIf (!quota) (setWin t pc w') Reg.FAB.DISP_OVER
  | some (1, quota) =>
    let w' := if quota then { w' with ing := w.ing + 1 } else { w' with rr := 2 }
    setWin (match i with | some x => grantIngest s x | none => s) pc w'
  | some (who, _) => setWin (grantBest s pc who be e0 e1) pc { w' with rr := (who + 1) % 6 }

/-- R108: a 64-byte transfer slot of a pseudo-channel. `be`: the best-effort transfers waiting there; `ecc0`, `ecc1`: what the two
32-byte words of a read meet. -/
def execFabricSlotGrant (pc : Nat) (be : List BeReq) (ecc0 ecc1 : Ecc) (s : State) : Host.Outcome State Fault Refusal :=
  wall s (if pc < 128 then slotGrant s pc be ecc0 ecc1 else s)

/-! ### Withdrawal (R105) -/

/-- Requests of band `b` of a slot none of whose transfers has been granted are withdrawn and counted; the others complete and are
discarded. -/
def withdraw (s : State) (k n b : Nat) : State :=
  let mine (r : FetchReq) : Bool := r.k == k && r.n == n && r.b == b
  let gone := (s.fab.reqs.filter fun r => mine r && r.granted.isEmpty).length
  let reqs := (s.fab.reqs.filter fun r => !(mine r && r.granted.isEmpty)).map fun r =>
    if mine r then { r with discard := true } else r
  let s := bumpN { s with fab := { s.fab with reqs := reqs } } Reg.SPB.FETCH_EXPIRED gone
  if 0 < gone then raiseE s Page.SPB 3 else s

end Sys2Proof.Machine
end

