-- ==== Sys2Proof/Machine/Compose.lean ====
section
/-! DEFINITION. Composition of bands and their deadlines (R183 to R203), with the groundsheet store's fills (R195) and its window
(R202). -/

namespace Sys2Proof.Machine

/-! ### Contributors of a band -/

/-- A byte that a contributor reads: from its staged granules, or from device memory where none holds it. -/
def stagedByte (s : State) (gs : List Granule) (a : Nat) : Byte :=
  match gs.find? fun g => g.addr == a / 256 * 256 && g.units.contains (a % 256 / 64) with
  | some g => Store.get zeroB g.data a
  | none => Store.get memDefault s.mem a

/-- Granules of one kind that band `b` of a slot may use: its own, and for rows read before those of earlier bands (R102). -/
def granules (s : State) (c : PhaseCtx) (b : Nat) (kind : FetchKind) : List Granule :=
  s.fab.stage.filter fun g => g.k == c.k && g.n == c.n && decide (g.b ≤ b) && g.kind == kind

/-- An awning's placement in band `b`: as latched for its band group, else its descriptor's (R80). -/
def placeAt (c : PhaseCtx) (e : Nat × Latched) (b : Nat) : Int × Int × Nat × Nat :=
  let p := Store.get (fun _ => ((0, 0, 0, 0) : Int × Int × Nat × Nat)) c.place (256 * e.1 + b / 4)
  if p.2.2.1 = 0 then dPlace e.2.desc else p

/-- The geometry of a composed layer in band `b`. -/
def bandGeom (s : State) (c : PhaseCtx) (e : Nat × Latched) (b : Nat) : Geom :=
  if dAwning e.2.desc then awningGeom s c e.2 (placeAt c e b) else latchedGeom s e.2 c.bypass

/-- What a composed layer's requests are for. -/
def kindOf (e : Nat × Latched) : FetchKind := if dAwning e.2.desc then .awning e.1 else .layer e.1

/-- A composed layer as a contributor of band `b`. -/
def pixSrc (s : State) (c : PhaseCtx) (b : Nat) (e : Nat × Latched) : PixSrc :=
  let gs := granules s c b (kindOf e)
  ⟨e.1, dZ e.2.desc, e.2.desc, bandGeom s c e b, stagedByte s gs, ((c.scalers.find? fun x => x.1 == e.1).map (·.2)).getD []⟩

/-- Contributors of a cell in stacking order (R63, R93, R94): the table's, and every awning. -/
def cellSources (srcs : List PixSrc) (set : List Nat) : List PixSrc :=
  sortBy (fun a b => below (a.z, a.slot) (b.z, b.slot)) (srcs.filter fun q => dAwning q.d || set.contains q.slot)

/-! ### Inputs of a step (R188) -/

/-- Steps of a band. -/
def bandSteps (wc : Nat) : Nat := ceilDiv (wc / 16) 64

/-- Cell columns of step `i`. -/
def stepCells (wc i : Nat) : List Nat := (List.range 64).filterMap fun j => if 64 * i + j < wc / 16 then some (64 * i + j) else none

/-- The latest of two arrivals, none where one is still to come. -/
def laterOf (a b : Option Nat) : Option Nat := match a, b with | some x, some y => some (max x y) | _, _ => none

/-- When a unit became resident for a kind of request; one that came poisoned is no input: the step stalls (R188, R323). -/
def unitAt (gs : List Granule) (u : Nat) : Option Nat :=
  (gs.find? fun g => g.addr == 256 * (u / 4) && g.units.contains (u % 4) && !g.poison.contains (2 * u) &&
    !g.poison.contains (2 * u + 1)).map (·.at_)

/-- Columns of a step where a composed layer contributes: the table's cells, or the cells that an awning's placement touches. -/
def stepCols (s : State) (c : PhaseCtx) (b : Nat) (sets : List (List Nat)) (e : Nat × Latched) (cells : List Nat) : List Nat :=
  if dAwning e.2.desc then
    let t := (⟨e.1, 0, bandGeom s c e b, false⟩ : Cover).touch c.wc (16 * c.bands) b
    cells.filter (inRange t)
  else cells.filter fun cx => (sets.getD cx []).contains e.1

/-- Units that a composed layer gives to columns of a band (R102). -/
def colUnits (s : State) (c : PhaseCtx) (b : Nat) (sets : List (List Nat)) (cells : List Nat) (e : Nat × Latched) : List Nat :=
  let g := bandGeom s c e b
  let x := g.need b (stepCols s c b sets e cells)
  rowUnits g.src x.1 x.2.flatten.eraseDups

/-- When all bytes that a layer gives a step became resident. An awning's are due by the first pixel, 2048 CORE clocks after the
slices take the step up (R104). -/
def layerReady (s : State) (c : PhaseCtx) (b : Nat) (sets : List (List Nat)) (cells : List Nat) (e : Nat × Latched) : Option Nat :=
  let t := ((colUnits s c b sets cells e).map (unitAt (granules s c b (kindOf e)))).foldl laterOf (some 0)
  if dAwning e.2.desc then t.map (· - 2048) else t

/-- When the contexts of a step's cells were settled. -/
def ctxReady (s : State) (c : PhaseCtx) (b : Nat) (cells : List Nat) : Option Nat :=
  if c.calEn then
    (cells.map fun cx => (s.cal.ctxs.find? fun x => x.k == c.k && x.n == c.n && x.cell == cellIndex cx b).map (·.at_)).foldl
      laterOf (some 0)
  else some 0

/-- When the layer data and the contexts of step `i` became resident. -/
def stepReady (s : State) (c : PhaseCtx) (b : Nat) (sets : List (List Nat)) (i : Nat) : Option Nat × Option Nat :=
  let cells := stepCells c.wc i
  (((composedLayers s c).map (layerReady s c b sets cells)).foldl laterOf (some 0), ctxReady s c b cells)

/-- CORE clocks in which the slices take steps `i` up, the first no earlier than `from_`; the list ends before a step that lacks
input. -/
def stepStarts (s : State) (c : PhaseCtx) (b : Nat) (sets : List (List Nat)) : Nat → Nat → Nat → List Nat
  | 0, _, _ => []
  | fuel + 1, i, from_ =>
    let r := stepReady s c b sets i
    match laterOf r.1 r.2 with
    | none => []
    | some t => max from_ t :: stepStarts s c b sets fuel (i + 1) (max from_ t + 256)

/-- Starts of a band's steps. -/
def bandStarts (s : State) (c : PhaseCtx) (r : BandSlot) : List Nat :=
  match r.entered with
  | some e => stepStarts s c r.b (bandSets s c r.b) (bandSteps c.wc) 0 e
  | none => []

/-! ### Ring slots (R186, R189, R190) -/

/-- Replace a ring slot. -/
def setSlot (s : State) (r : BandSlot) : State :=
  { s with dls := { s.dls with
    ring := replaceFirst (fun x => x.k == r.k && x.n == r.n && x.b == r.b) (fun _ => r) s.dls.ring } }

/-- The slots that stay when a band takes one: the `q` newest, and one that a port may still read in the clock of its release
(R186, R198). -/
def keptSlots (s : State) (q : Nat) : List BandSlot :=
  s.dls.ring.take q ++ (s.dls.ring.drop q).filter fun r =>
    match findCtx s r.k r.n with | some c => !reached s (c.release r.b + 800) | none => false

/-- A band takes a ring slot; EN and GS_ALL are sampled, the DLS safe action counting as GS_ALL and ending here (R186, R197, R388). -/
def newSlot (s : State) (c : PhaseCtx) (b : Nat) : BandSlot × State :=
  let s := releaseSafe s Page.DLS
  let r : BandSlot := ⟨c.k, c.n, b, c.wc, rdB s Reg.DLS.DLS_CTRL 0, rdB s Reg.DLS.DLS_CTRL 1 || safe s Page.DLS, none, 0, 0, [], [],
    false, false⟩
  let s := { s with dls := { s.dls with ring := r :: keptSlots s (ringSlots c.wc - 1) } }
  let c' := ctxOf s c.k c.n
  let s := setCtx s { c' with parity := c'.parity || impairing s }
  (r, if r.enabled then s else withdraw s c.k c.n b)

/-- All columns of a band flagged. -/
def allSubst (wc : Nat) : Store Bool := Store.setList noB [] 0 (List.replicate (wc / 16) true)

/-- The granules of a slot that outlive band `b`: those fetched for later bands, and rows of band `b` or before that band b + 1 needs
and does not read again (R102, R103). -/
def keptGranules (s : State) (c : PhaseCtx) (b : Nat) : List Granule :=
  let sets := bandSets s c (b + 1)
  let wanted (kind : FetchKind) : List Nat :=
    ((composedLayers s c).filter fun e => kindOf e == kind && !dAwning e.2.desc).flatMap fun e =>
      if b + 1 < c.bands then colUnits s c (b + 1) sets (List.range (c.wc / 16)) e else []
  let kinds := (s.fab.stage.filter fun g => g.k == c.k && g.n == c.n && decide (g.b ≤ b)).map (·.kind) |>.eraseDups
  let keep := kinds.map fun x => (x, wanted x)
  s.fab.stage.filter fun g =>
    !(g.k == c.k && g.n == c.n && decide (g.b ≤ b)) ||
      keep.any fun e => e.1 == g.kind && g.units.any fun u => e.2.contains (g.addr / 64 + u)

/-- A band's contents are final: the whole band is substituted under EN = 0 or GS_ALL; composition has consumed what was fetched for
it; band-ready fires; after the last band the slot's buffers are no longer read (R47, R103, R190, R369). -/
def finalise (s : State) (c : PhaseCtx) (r : BandSlot) : State :=
  let s := setSlot s { r with final := true, subst := if r.gsAll || !r.enabled then allSubst r.wc else r.subst }
  let s := { s with fab := { s.fab with stage := keptGranules s c r.b } }
  let last := r.b + 1 == c.bands
  let s := if last then
      { s with lyr := { s.lyr with reading := s.lyr.reading.filter fun e => e.1 != 8 * r.k + r.n } }
    else s
  let m := rd s Reg.EVF.BAND_MATCH
  let s := pulse s 8
  let s := if fld m 9 0 == r.b && (bit m 13 || fld m 12 10 == r.n) then pulse s 9 else s
  if last then pulse s 10 else s

/-! ### Scaler registers (R137, R138) -/

/-- What SCn shows of its assignment while a phase is composed, in band `b`. A scaler that is not assigned shows 0 in every field, and
a column left of the crop shows in two's complement: R137 leaves both open (log entries 128, 129). -/
def showScaler (c : PhaseCtx) (b : Nat) (s : State) (i : Nat) : State :=
  match c.scalers.find? fun a => a.2.contains i with
  | none =>
    wr (wr (wr (wr s (Reg.SC.SC_STATUS i) 0) (Reg.SC.STEP_H i) 0) (Reg.SC.STEP_V i) 0) (Reg.SC.READ_RANGE i) 0
  | some a =>
    let x := ((c.layers.find? fun e => e.1 == a.1).map (·.2)).getD .absent
    let g := bandGeom s c (a.1, x) b
    let j := (a.2.zipIdx.find? fun e => e.1 == i).map (·.2) |>.getD 0
    let st := (g.stripes.getD []).getD j (0, 0, 0, 0)
    let code (d : Nat) : Nat := if d = 4 then 2 else d - 1
    let s := wr s (Reg.SC.SC_STATUS i) (w32 (1 + 4 * a.1 + 2 ^ 9 * c.n + 2 ^ 12 * j + 2 ^ 14 * (a.2.length - 1) +
      2 ^ 16 * code g.decH + 2 ^ 18 * code g.decV + 2 ^ 20 * g.edge))
    let s := wr (wr s (Reg.SC.STEP_H i) (w32 g.stepH)) (Reg.SC.STEP_V i) (w32 g.stepV)
    wr s (Reg.SC.READ_RANGE i) (w32 (wrapTo 16 st.2.2.1 + 2 ^ 16 * wrapTo 16 st.2.2.2))

/-- The scaler pages and IN_USE as the composition of a phase or of a band group starts. -/
def showPool (s : State) (c : PhaseCtx) (b : Nat) : State :=
  let s := (List.range 32).foldl (showScaler c b) s
  wrF s (Reg.SC.POOL_USE 0) 5 0 ((c.scalers.map fun a => a.2.length).foldl (· + ·) 0)

/-! ### Entering a band (R184) -/

/-- Bands in composition or waiting for the slices, oldest first. -/
def inFlight (s : State) : List BandSlot := (s.dls.ring.filter fun r => r.enabled && !r.final).reverse

/-- The slices have left a band; one that an uncorrectable word stalls holds them until its deadline (R321). -/
def left (s : State) (r : BandSlot) : Bool :=
  match findCtx s r.k r.n with
  | none => true
  | some c =>
    let st := bandStarts s c r
    r.stall == 0 && r.entered.isSome && st.length == bandSteps c.wc && decide (st.getLastD 0 + 256 ≤ coreClk s)

/-- The slices are free for a band. -/
def slicesFree (s : State) (k n b : Nat) : Bool :=
  decide (s.dls.busy ≤ coreClk s) &&
    ((inFlight s).takeWhile fun r => !(r.k == k && r.n == n && r.b == b)).all (left s)

/-- Delay of an entry beyond C(n, b) in CORE clocks; an entry in the tick of the counter in which C(n, b) falls has none (R184). -/
def entryDelay (s : State) (c : PhaseCtx) (b : Nat) : Nat :=
  let d := (nowPs s : Int) - c.begin_ b
  if d < 2000 then 0 else (d / 800).toNat

/-- A band of the same slot and band group has been entered before. -/
def groupShown (s : State) (r : BandSlot) : Bool :=
  s.dls.ring.any fun x => x.k == r.k && x.n == r.n && x.b / 4 == r.b / 4 && x.entered.isSome

/-- The slices enter a band that has its slot, where they are free; the first band entered of a band group shows in the scaler
pages (R137, R138). -/
def enterSlot (s : State) (c : PhaseCtx) (r : BandSlot) : State :=
  if r.enabled && !r.final && r.entered.isNone && slicesFree s r.k r.n r.b then
    let shown := groupShown s r
    let s := setSlot s { r with entered := some (coreClk s) }
    let s := if shown then s else showPool s c r.b
    peak s Reg.DLS.START_DELAY_MAX (entryDelay s c r.b)
  else s

/-- R184: C(n, b) has come; the band takes its slot, and the slices enter it now or, by a later such step, when they are free. -/
def execBandEnter (k n b : Nat) (s : State) : Host.Outcome State Fault Refusal :=
  wall s (match findCtx s k n with
    | some c =>
      if c.bands ≤ b || !reached s (c.begin_ (b : Nat)) then s
      else match ringSlot s k n b with
        | some r => enterSlot s c r
        | none =>
          if reached s (c.deadline b) then s
          else let x := newSlot s c b; enterSlot x.2 c x.1
    | none => s)

/-! ### A step completes (R188) -/

/-- Depth of a packing code (R157). -/
def packDepth (code : Nat) : Nat := [8, 10, 12, 16].getD (code % 4) 8

/-- What composition knows of a cell: its context, the depth of its words, whether it is mapped, whether it is flagged by
FORCE_GS, whether both copies failed. -/
structure CellPlan where
  ctx    : Option (List Byte)
  depth  : Nat
  mapped : Bool
  force  : Bool
  lost   : Bool
  deriving DecidableEq, Repr

/-- The plan of a cell (R157, R168, R169, R170, R175). A cell whose context failed in both copies has no context for stage 7 to apply:
it passes d unchanged, and what stage 8 clips of it counts; its result is discarded (log entry 131). -/
def planOf (s : State) (c : PhaseCtx) (cell : Nat) : CellPlan :=
  if !c.calEn then ⟨none, packDepth c.defPack, true, false, false⟩
  else match heldCtx s c.k c.n cell with
    | some (some x) =>
      if ctxMapped x then ⟨some x, packDepth (c.pack (ctxPlace x).1), true, ctxForce x, false⟩
      else ⟨some x, 16, false, ctxForce x, false⟩
    | _ => ⟨none, 16, false, false, true⟩

/-- Compose one cell into the band's slot. -/
def composeInto (s : State) (c : PhaseCtx) (srcs : List PixSrc) (sets : List (List Nat)) (r : BandSlot × Tally × Nat) (cx : Nat) :
    BandSlot × Tally × Nat :=
  let p := planOf s c (cellIndex cx r.1.b)
  let x := composeCell s c r.1.b cx (cellSources srcs (sets.getD cx [])) p.ctx p.depth
  let flag := p.force || p.lost
  let slot := if flag then { r.1 with subst := Store.set noB r.1.subst cx true }
    else if p.mapped then { r.1 with cells := Store.set (fun _ => (⟨0, []⟩ : Cell)) r.1.cells cx x.1 } else r.1
  (slot, r.2.1.add x.2, r.2.2 + p.force.toNat)

/-- Add a tally to the counters. -/
def addTally (s : State) (t : Tally) : State :=
  let s := bumpN (bumpN s Reg.CLR.CSC_CLAMP t.csc) Reg.CLR.W24_CLAMP t.w24
  let s := bumpN (bumpN s Reg.CLR.BLEND_CLAMP t.blend) Reg.CLR.POST_CLIP t.clip
  let s := bumpN s Reg.CAL.CAL_CLAMP t.cal
  (List.range 32).foldl (fun s i =>
    let mine := t.sc.filter fun e => e.1 == i
    let px := (mine.map fun e => e.2.1).foldl (· + ·) 0
    let n := (mine.map fun e => e.2.2).foldl (· + ·) 0
    bumpN (bump64 s (Reg.SC.OUT_PIX_LO i) (Reg.SC.OUT_PIX_HI i) px) (Reg.SC.CLAMP_COUNT i) n) s

/-- Why an uncorrectable word stalls a step (R321): 2 for context data of the staging buffer (item 1), 1 otherwise, 0 for none. -/
def stallCause (us : List Upset) : Nat :=
  let hit := us.filter fun u => u.uncorr && decide (2 ≤ u.struct) && decide (u.struct ≤ 5)
  if hit.isEmpty then 0 else if hit.all fun u => u.struct == 3 && u.item == 1 then 2 else 1

/-- SLACK_MIN (R201): 1 plus the fewest clocks from completion to DL. -/
def noteSlack (s : State) (c : PhaseCtx) (b : Nat) : State :=
  let v := 1 + ((c.deadline b - nowPs s) / 800).toNat
  let old := rdN s Reg.DLS.SLACK_MIN
  if old = 0 ∨ v < old then wr s Reg.DLS.SLACK_MIN (w32 v) else s

/-- The next step of a band completes, with the cells of it. -/
def finishStep (s : State) (c : PhaseCtx) (r : BandSlot) : State :=
  let sets := bandSets s c r.b
  let srcs := (composedLayers s c).map (pixSrc s c r.b)
  let x := (stepCells c.wc r.steps).foldl (composeInto s c srcs sets) (r, .zero, 0)
  let r' := { x.1 with steps := r.steps + 1 }
  let s := bumpN (addTally (setSlot s r') x.2.1) Reg.CAL.FORCE_GS_CELLS x.2.2
  if r'.steps == bandSteps c.wc then finalise (noteSlack s c r.b) c r' else s

/-- R188: a composition step completes: that of the oldest band in composition, 2304 CORE clocks after the slices took it up. -/
def execCompositionStepDone (upsets : List Upset) (s : State) : Host.Outcome State Fault Refusal :=
  wall s (match (inFlight s).find? fun r => r.entered.isSome with
    | none => s
    | some r =>
      match findCtx s r.k r.n with
      | none => s
      | some c =>
        match (bandStarts s c r)[r.steps]? with
        | none => s
        | some t =>
          if r.stall ≠ 0 ∨ coreClk s < t + 2304 ∨ reached s (c.deadline r.b + 800) then s
          else
            let s := noteUpsets s upsets
            if stallCause upsets ≠ 0 then setSlot s { r with stall := stallCause upsets } else finishStep s c r)

/-! ### The deadline (R189, R190, R203) -/

/-- LAST_LATE.CAUSE (R203). -/
def lateCause (s : State) (c : PhaseCtx) (r : BandSlot) : Nat :=
  match r.entered with
  | none => 3
  | some e =>
    if r.stall ≠ 0 then r.stall
    else
      let st := bandStarts s c r
      let i := st.length
      let due := if i = 0 then e else st.getLastD 0 + 256
      if i = bandSteps c.wc ∨ coreClk s < due then 4
      else if (stepReady s c r.b (bandSets s c r.b) i).1.isNone then 1 else 2

/-- What a late band counts and reports: `n` mapped cells, the first flagged cell column, the cause of R203. -/
def noteLate (s : State) (c : PhaseCtx) (r : BandSlot) (n first cause : Nat) : State :=
  let s := bumpN (bumpN (bump s Reg.DLS.LATE_BANDS) Reg.DLS.LATE_CELLS n) (Reg.DLS.PH_LATE c.n) n
  let s := wr s Reg.DLS.LAST_LATE (w32 (2 ^ 31 + (c.n + 16 * r.b + 2 ^ 16 * first + 2 ^ 26 * cause)))
  withdraw (raiseE s Page.DLS 0) r.k r.n r.b

/-- A cell is replaced by its context's FORCE_GS (R168). -/
def cellForced (s : State) (c : PhaseCtx) (cell : Nat) : Bool :=
  c.calEn && match mapCtx s c cell with | some x => ctxForce x | none => false

/-- A late band: its cells from the first incomplete step are flagged; those under FORCE_GS keep their own count and are not late
(R168, R189); the other mapped ones count as late, and the band is aborted. -/
def lateBand (s : State) (c : PhaseCtx) (r : BandSlot) : BandSlot × State :=
  let first := 64 * r.steps
  let cells := (List.range (c.wc / 16)).filter fun cx => decide (first ≤ cx) && !Store.get noB r.subst cx
  let forced := cells.filter fun cx => cellForced s c (cellIndex cx r.b)
  let n := (cells.filter fun cx => cellMapped s c (cellIndex cx r.b) && !cellForced s c (cellIndex cx r.b)).length
  let s := noteLate (bumpN s Reg.CAL.FORCE_GS_CELLS forced.length) c r n first (lateCause s c r)
  ({ r with subst := cells.foldl (fun m cx => Store.set noB m cx true) r.subst },
    { s with dls := { s.dls with busy := max s.dls.busy (coreClk s + 1) } })

/-- The judgement of a band at DL(n, b). -/
def judgeBand (s : State) (c : PhaseCtx) (r : BandSlot) : State :=
  let s := bumpIf (r.gsAll || !r.enabled) s Reg.DLS.GS_ONLY_BANDS
  if r.final then setSlot s { r with judged := true }
  else
    let x := if r.enabled then lateBand s c r else (r, s)
    finalise x.2 c { x.1 with judged := true }

/-- R189: DL(n, b) is reached. -/
def execBandDeadline (k n b : Nat) (s : State) : Host.Outcome State Fault Refusal :=
  wall s (match findCtx s k n with
    | some c =>
      if c.bands ≤ b || !reached s (c.deadline b) then s
      else match ringSlot s k n b with
        | some r => if r.judged then s else judgeBand s c r
        | none =>
          if reached s (c.release b) then s
          else let x := newSlot s c b; judgeBand x.2 c x.1
    | none => s)

/-! ### Groundsheet fills and window (R195, R196, R202) -/

/-- R195: a write of GS_FILL. -/
def execGsFillGo (a : Agent) (v : Word) (s : State) : Host.Outcome State Fault Refusal :=
  let first := rdF s Reg.DLS.GS_FILL_FIRST 19 0
  let stop := min 0x100000 (first + rdF s Reg.DLS.GS_FILL_COUNT 20 0)
  let t :=
    if rdB s Reg.DLS.GS_FILL_STATUS 0 then wrB s Reg.DLS.GS_FILL_STATUS 1 true
    else { wr s Reg.DLS.GS_FILL_STATUS 1 with
      dls := { s.dls with fill := some (rd s Reg.DLS.GS_FILL_VALUE, first, stop, coreClk s) } }
  live s (guarded s a Reg.DLS.GS_FILL v .cmd (if bit v 0 then t else s))

/-- R195: the fill has written its last word. -/
def execGsFillDone (s : State) : Host.Outcome State Fault Refusal :=
  wall s (match s.dls.fill with
    | some (v, next, stop, at_) =>
      if fillReach s next stop at_ = stop ∨ stop ≤ next then
        let s := wrB s Reg.DLS.GS_FILL_STATUS 0 false
        { s with dls := { s.dls with
          gs := Store.setList zeroW s.dls.gs next (List.replicate (stop - next) v)
          gsErr := Store.setList gsOk s.dls.gsErr next (List.replicate (stop - next) Ecc.ok)
          fill := none } }
      else s
    | none => s)

/-- A write of the groundsheet window at a byte offset: bits [31:30] are reserved, and an error of the word clears (R193, R196). -/
def writeSheet (s : State) (off : Nat) (v : Word) : State :=
  if off / 4 < 0x100000 then
    let s := settleFill s
    { s with dls := { s.dls with
      gs := Store.set zeroW s.dls.gs (off / 4) (v &&& 0x3FFFFFFF)
      gsErr := Store.set gsOk s.dls.gsErr (off / 4) .ok } }
  else s

/-- A read of the groundsheet window at a byte offset, with its error (R196, R202). -/
def readSheet (s : State) (off : Nat) (e : Ecc) : Word × State :=
  if off / 4 < 0x100000 then gsRead s (off / 4) e else (0, s)

end Sys2Proof.Machine
end

