-- ==== Sys2Proof/Machine/Sequencer.lean ====
section
/-! DEFINITION. Pitch sequencers: restart, instructions, pixel frames, phase marks, load checks and swaps (R204 to R223, R230 to R235). -/

namespace Sys2Proof.Machine

/-! ### Parameters and the program -/

/-- Instruction word `w` of a port's pitch store (R220). -/
def pitchWord (x : TilePort) (w : Nat) : BitVec 64 :=
  BitVec.ofNat 64 ((Store.get zeroW x.store (2 * w)).toNat + 2 ^ 32 * (Store.get zeroW x.store (2 * w + 1)).toNat)

/-- Entry and length in words of the active table (R221). -/
def activeTable (s : State) (p : Nat) : Option (Nat × Nat) := (port s p).active

/-- ACTIVE of a region: LEN shows the words modulo 2048, so a table of the whole store shows 0 (log entry 135). -/
def activeWord (e len : Nat) : Word := w32 (2 ^ 31 + (e + len % 2048 * 4096))

/-- The sequencer of the port is enabled, as EN acts (R222, R388). -/
def seqOn (s : State) (p : Nat) : Bool :=
  if safe s (Page.TP p) then bit (seqCtlOf s p) 0 else rdB s (Reg.TP.SEQ_CTRL p) 0

/-- The running table of a port that has not ended. -/
def runOf (s : State) (p : Nat) : Option SeqRun :=
  match (port s p).run with
  | some r => if r.ended then none else some r
  | none => none

/-- The sequencer stops for the phase, with no mark (R222, R321). -/
def stopRun (s : State) (p : Nat) : State := setPort s p { port s p with run := none, send := none, stopped := true }

/-- Replace the run of a port. The word that it comes to is read: one met in error counts, and an uncorrectable one stops the
sequencer for the phase (R321, STRUCT 7). -/
def setRun (s : State) (p : Nat) (r : SeqRun) : State :=
  if r.wait == .none && !r.ended then
    let us := (port s p).errs.filter fun u => u.word == r.pc
    let t := noteUpsets (setPort s p { port s p with run := some r }) us
    if lostIn us 7 then stopRun t p else t
  else setPort s p { port s p with run := some r }

/-- The parameters of the phase a run belongs to (R208). -/
def runCtx (s : State) (r : SeqRun) : PhaseCtx := ctxOf s r.k r.n

/-- Carry out an instruction: it acts where the port's table runs, holds at no wait, and has `op` at its program counter. -/
def issue (s : State) (p : Nat) (op : PitchOp) (f : SeqRun → State) : State :=
  match runOf s p with
  | some r =>
    if r.wait == .none ∧ decodePitch (pitchWord (port s p) r.pc) = some op then f r else s
  | none => s

/-- The next instruction after one clock; the nominal time advances with it (R217). -/
def SeqRun.next (r : SeqRun) : SeqRun := { r with pc := r.pc + 1, nomT := r.nomT + toClockPs }

/-- A wait is over: the next instruction issues in the following clock. -/
def SeqRun.release (r : SeqRun) : SeqRun := { r with wait := .none, pc := r.pc + 1 }

/-! ### Restart (R206, R207, R221, R222) -/

/-- A checked region becomes the active table at a restart of phase `n` (R221). -/
def takeTable (s : State) (p n e len : Nat) : State :=
  let t := setPort s p { port s p with swap := none, active := some (e, len) }
  wr (wr t (Reg.TP.ACTIVE p) (activeWord e len)) (Reg.TP.SWAP_STATUS p) (w32 (2 * n + 16))

/-- A pending swap meets the restart of phase `n` (R221). -/
def applySwap (s : State) (p n : Nat) : State :=
  let x := port s p
  let st := Reg.TP.SWAP_STATUS p
  match x.swap with
  | none => s
  | some (e, len, target) =>
    match target with
    | some t =>
      if nph s ≤ t then
        bump (wr (setPort s p { x with swap := none }) st (w32 (fld (rd s st) 3 1 * 2))) (Reg.TP.SWAP_REFUSED p)
      else if t = n then takeTable s p n e len
      else s
    | none => takeTable s p n e len

/-- A run at the entry word, registers clear (R206); nominal times at −1000 ns (R217). -/
def freshRun (k n entry : Nat) : SeqRun where
  k := k
  n := n
  pc := entry
  br := 0
  xr := 0
  cr := 0
  lc := []
  ret := []
  wait := .none
  nomT := -1000000
  nomW := -1000000
  ended := false

/-- The active table starts for slot (k, n), if there is one and the sequencer is enabled (R206, R222). -/
def startTable (s : State) (p k n : Nat) : State :=
  match activeTable s p with
  | some (e, _) => if seqOn s p then setRun s p (freshRun k n e) else s
  | none => s

/-- R207: the restart of port `p` for slot (k, n), 1 µs before S(k, n). A pixel frame on the wire completes; an unfinished
table counts as an overrun. `us` are the words of the pitch store that reads of the phase meet in error (R321). -/
def restart (s : State) (p k n : Nat) (us : List Upset) : State :=
  let s := if (runOf s p).isSome then raiseE (bump s (Reg.TP.OVERRUN p)) (Page.TP p) 2 else s
  let s := applySwap s p n
  let s := releaseSafe s (Page.TP p)
  let s := if safe s (Page.TP p) then s
    else setPort s p { port s p with seqCtl := some (rd s (Reg.TP.SEQ_CTRL p)) }
  let x := port s p
  let s := setPort s p { x with
    last := some (k, n), lastAt := tileClk s, errs := us.filter fun u => u.struct == 7
    run := none, sends := 0, send := none, acc := [], skipped := false, stopped := false, segs := [] }
  startTable s p k n

/-- R207, R293: R(n) of the next slot is reached while phases run and the port has not been restarted for it. -/
def execSeqRestart (p k n : Nat) (upsets : List Upset) (s : State) : Host.Outcome State Fault Refusal :=
  wall s (if decide (p < 256) && s.grid.next == some (k, n) && rdB s Reg.TIM.TIM_STATUS 1 &&
      reached s (slotStart s k n * 1000 - 1000000) && (port s p).last != some (k, n) then restart s p k n upsets else s)

/-! ### Instructions (R212) -/

/-- NOP. -/
def execNop (p : Nat) (s : State) : Host.Outcome State Fault Refusal :=
  wall s (issue s p .nop fun r => setRun s p r.next)

/-- SET: loads the selected registers. -/
def execSet (p : Nat) (f : SetF) (s : State) : Host.Outcome State Fault Refusal :=
  wall s (issue s p (.set f) fun r =>
    let v := pitchSet f r.br r.xr r.cr
    setRun s p { r.next with br := v.1, xr := v.2.1, cr := v.2.2 })

/-- ADD: adds to all three registers. -/
def execAdd (p : Nat) (f : AddF) (s : State) : Host.Outcome State Fault Refusal :=
  wall s (issue s p (.add f) fun r =>
    let v := pitchAdd f r.br r.xr r.cr
    setRun s p { r.next with br := v.1, xr := v.2.1, cr := v.2.2 })

/-- LOOP: opens the next level. -/
def execLoop (p : Nat) (countM1 : BitVec 12) (s : State) : Host.Outcome State Fault Refusal :=
  wall s (issue s p (.loop countM1) fun r =>
    setRun s p { r.next with lc := countM1.toNat :: r.lc, ret := (r.pc + 1) :: r.ret })

/-- ENDLOOP: iterates the innermost level or closes it. -/
def execEndloop (p : Nat) (s : State) : Host.Outcome State Fault Refusal :=
  wall s (issue s p .endloop fun r =>
    match r.lc, r.ret with
    | c :: cs, a :: as =>
      if c = 0 then setRun s p { r.next with lc := cs, ret := as }
      else setRun s p { r.next with lc := (c - 1) :: cs, pc := a }
    | _, _ => setRun s p r.next)

/-- WAIT_BAND: holds at its band and offset. -/
def execWaitBand (p : Nat) (f : WaitBandF) (s : State) : Host.Outcome State Fault Refusal :=
  wall s (issue s p (.waitBand f) fun r =>
    let b := pitchBand f.rel r.br f.band.toNat
    let t : Int := (b * (runCtx s r).ts + f.ofs.toNat * 1000 : Nat)
    setRun s p { r with wait := .band b f.ofs.toNat, nomT := max r.nomT t + toClockPs })

/-- WAIT_BAND releases: the band is ready and E(n, b) + OFS reached. -/
def execWaitBandRelease (p : Nat) (s : State) : Host.Outcome State Fault Refusal :=
  wall s (match runOf s p with
    | some r =>
      match r.wait with
      | .band b ofs =>
        let c := runCtx s r
        if bandReady s c b && reached s (c.egress b + 1000 * ofs) then setRun s p r.release else s
      | _ => s
    | none => s)

/-- WAIT_TIME: holds until S(n) + T. -/
def execWaitTime (p : Nat) (t : BitVec 32) (s : State) : Host.Outcome State Fault Refusal :=
  wall s (issue s p (.waitTime t) fun r =>
    setRun s p { r with wait := .time t.toNat, nomT := max r.nomT ((t.toNat * 1000 : Nat) : Int) + toClockPs })

/-- WAIT_TIME releases. -/
def execWaitTimeRelease (p : Nat) (s : State) : Host.Outcome State Fault Refusal :=
  wall s (match runOf s p with
    | some r =>
      match r.wait with
      | .time t => if reached s ((slotStart s r.k r.n + t) * 1000) then setRun s p r.release else s
      | _ => s
    | none => s)

/-- WAIT_EVENT: only pulses after its issue release it. -/
def execWaitEvent (p : Nat) (line : BitVec 9) (tmo : BitVec 32) (s : State) : Host.Outcome State Fault Refusal :=
  wall s (issue s p (.waitEvent line tmo) fun r =>
    setRun s p { r with wait := .event line.toNat tmo.toNat s.time.uptime false
                        nomT := r.nomT + (tmo.toNat * 1000 : Nat) + toClockPs })

/-- WAIT_EVENT releases on a pulse of its line. -/
def execWaitEventRelease (p : Nat) (s : State) : Host.Outcome State Fault Refusal :=
  wall s (match runOf s p with
    | some r =>
      match r.wait with
      | .event _ _ _ true => setRun s p r.release
      | _ => s
    | none => s)

/-- WAIT_EVENT runs to its timeout; a pulse in the same clock wins. -/
def execWaitEventTimeout (p : Nat) (s : State) : Host.Outcome State Fault Refusal :=
  wall s (match runOf s p with
    | some r =>
      match r.wait with
      | .event _ tmo since false =>
        if since * 2 + tmo < s.time.uptime * 2 then bump (setRun s p r.release) (Reg.TP.EVT_TIMEOUT p) else s
      | _ => s
    | none => s)

/-- Integrity of receiver `x` so far (R233). -/
def rxAcc (a : Store RxAcc) (x : Nat) : RxAcc := Store.get (fun _ => ⟨0, 0, 0, false⟩) a x

/-- Replace the integrity of receiver `x`; a receiver that a SEND of the phase names stays listed. -/
def setAcc (a : Store RxAcc) (x : Nat) (v : RxAcc) : Store RxAcc := Store.insert x v a

/-- SEND: builds a frame that starts 16 clocks later or when the previous pixel frame has left (R213, R214); the phase names its
receiver (R233). -/
def execSend (p : Nat) (f : SendF) (s : State) : Host.Outcome State Fault Refusal :=
  wall s (issue s p (.send f) fun r =>
    let x := port s p
    let k := packBits ((runCtx s r).pack (portChain s p))
    let c := f.countM1.toNat + 1
    let nominal := max (r.nomT + 16 * toClockPs) r.nomW
    let wire : Int := (wireClocks (frameWire (payloadBytes c k)) * toClockPs : Nat)
    let frame : PixSend := {
      band := pitchBand f.relB r.br f.band.toNat
      mode := f.mode
      rx := if f.relX then (r.xr + f.rx.toNat) % 64 else f.rx.toNat
      first := if f.relC then (r.cr + f.rxcell0.toNat) % 256 else f.rxcell0.toNat
      count := c
      cx0 := f.cx0.toNat
      fidx := x.sends
      start := max (tileClk s + 16) x.lastP
      nominal := nominal
      blocked := false }
    setPort s p { x with
      send := some frame
      sends := x.sends + 1
      acc := setAcc x.acc frame.rx (rxAcc x.acc frame.rx)
      run := some { r with wait := .frame, nomT := nominal + toClockPs, nomW := nominal + wire } })

/-- CLOSE: holds until WC(n). -/
def execClose (p : Nat) (s : State) : Host.Outcome State Fault Refusal :=
  wall s (issue s p .close fun r =>
    let c := runCtx s r
    setRun s p { r with wait := .close, nomT := max r.nomT ((c.bands * c.ts : Nat) : Int) + toClockPs })

/-- SIGNAL: pulses the port's sequencer event line. -/
def execSignal (p : Nat) (s : State) : Host.Outcome State Fault Refusal :=
  wall s (issue s p .signal fun r => pulse (setRun s p r.next) (256 + p))

/-- END: nothing more until the next restart. -/
def execSeqEnd (p : Nat) (s : State) : Host.Outcome State Fault Refusal :=
  wall s (issue s p .seqEnd fun r => setRun s p { r with ended := true })

/-! ### Pixel frames (R209, R213, R214, R230 to R233, R239) -/

/-- ICELL of one cell (R232). -/
def icell (pseq chain x pos pack : Nat) (bytes : List Byte) : Nat :=
  crc32 (beBytes 4 pseq ++ beBytes 1 chain ++ beBytes 1 x ++ beBytes 1 pos ++ beBytes 1 pack ++ bytes)

/-- A skipped frame (R209): counted, its receiver's record marked PART; the next instruction issues. -/
def skipFrame (s : State) (p : Nat) (r : SeqRun) (f : PixSend) : State :=
  let x := port s p
  let s := setPort s p { x with
    send := none
    skipped := true
    acc := setAcc x.acc f.rx { rxAcc x.acc f.rx with part := true } }
  let s := setRun s p r.release
  let s := bumpN (bump s (Reg.TP.GUY_SKIP p)) (Reg.TP.GUY_SKIP_CELLS p) f.count
  raiseE s (Page.TP p) 1

/-- The pixel frame starts on the wire: its cells are read, framed and accumulated (R213, R230, R232, R239). -/
def sendFrame (s : State) (p : Nat) (r : SeqRun) (f : PixSend) (us : List Upset) : State :=
  let c := runCtx s r
  let chain := portChain s p
  let code := c.pack chain
  let k := packBits code
  let g := (port s p).origin
  let cap := decide (g ≤ f.fidx) && decide (f.fidx < g + rdF s Reg.TLG.LANT_SEG 4 0)
  let cols := (List.range f.count).map fun j =>
    if f.mode then some (f.cx0 + j) else findCell s c f.band chain f.rx (f.first + j)
  let misses := cols.any fun x => x.isNone
  let q := readCells (noteUpsets s us) c p f.band k cap us 0 cols
  let s := q.2
  let s := if misses then raiseE s (Page.TP p) 3 else s
  let outs := q.1
  let gsmap := ofBits (outs.map (·.gs))
  let ph := pseq r.k r.n
  let htl := htlHeader s p 1 ph (32 + f.count * 32 * k) (f.fidx % 65536) ++ beBytes 2 f.band ++ beBytes 1 f.rx ++
    beBytes 1 f.first ++ beBytes 1 f.count ++ beBytes 1 code ++ beBytes 2 gsmap ++
    beBytes 2 (if f.mode then f.cx0 + 2 ^ 15 else 0) ++ List.replicate 6 0 ++ outs.flatMap (·.bytes)
  let x := port s p
  let a := rxAcc x.acc f.rx
  let ics := (outs.zipIdx).map fun e => icell ph chain f.rx (f.first + e.2) code e.1.bytes
  let a := { a with ic := ics.foldl (· ^^^ ·) a.ic, cells := a.cells + f.count,
                    subst := a.subst + (outs.filter (·.gs)).length }
  let seg := beBytes 1 f.rx ++ beBytes 1 f.first ++ beBytes 1 f.count ++ [0] ++
    outs.flatMap fun o => beBytes 4 o.word.toNat
  let lag := ((nowPs s : Int) - r_start s r - f.nominal) / toClockPs
  let s := setPort s p { x with
    send := none
    acc := setAcc x.acc f.rx a
    segs := if cap then x.segs ++ [seg] else x.segs
    lastP := tileClk s + wireTime (ethBytes htl.length) }
  let s := setRun (startTx s p .p htl 0 none) p r.release
  let s := bump64 s (Reg.TP.PFRAMES_LO p) (Reg.TP.PFRAMES_HI p) 1
  peak s (Reg.TP.START_LAG_MAX p) lag.toNat
where
  /-- S(n) of the run's slot, in ps. -/
  r_start (s : State) (r : SeqRun) : Int := slotStart s r.k r.n * 1000

/-- The start instant lies in the guy band or past the window: the TOk clock beginning now reaches WC(n) − GUY (R209). -/
def inGuy (s : State) (p : Nat) (r : SeqRun) : Bool :=
  let c := runCtx s r
  decide (c.close - 1000 * (rdF s (Reg.TP.GUY p) 15 0 : Int) < nowPs s + toClockPs)

/-- Start clock of the SEND in progress: 16 clocks after its issue, when the previous pixel frame has left, and when what came before
it on the wire has (R214, R256). -/
def TilePort.startAt (x : TilePort) (f : PixSend) : Nat := max f.start x.txFree

/-- The head of class T was queued before the start clock of the SEND in progress, and goes first (R214, R256). -/
def TilePort.headFirst (x : TilePort) (f : PixSend) : Bool :=
  match x.tq with
  | h :: _ => decide (h.clk < x.startAt f)
  | [] => false

/-- R214, R209: the frame's start clock is reached with the transmitter free and no class T frame queued before it. A port that is
off discards the frame as it starts (R255). -/
def execPixelFrameStart (p : Nat) (upsets : List Upset) (s : State) : Host.Outcome State Fault Refusal :=
  let x := port s p
  wall s (match x.send, runOf s p with
    | some f, some r =>
      if decide (tileClk s < x.startAt f) || x.tx.isSome || x.headFirst f then s
      else if inGuy s p r then skipFrame s p r f
      else if portOn s p then sendFrame s p r f upsets
      else setRun (setPort s p { x with send := none }) p r.release
    | _, _ => s)

/-! ### Phase marks (R212 CLOSE, R234) -/

/-- The device's marks of slot (k, n) are discarded: a role clash, SEARCH or JOINING, a yielded phase, or a phase latched
before the join (R302, R314, R316, R319). -/
def marksDiscarded (s : State) (k n : Nat) : Bool :=
  let st := rdF s Reg.TWN.TWN_STATUS 2 0
  rdB s Reg.TWN.TWN_CTRL 0 &&
    (rdB s Reg.TWN.TWN_STATUS 17 || st == 1 || st == 2 || s.twn.yielded.contains (k, n) ||
      (s.twn.joiner && match s.twn.pairFrom with | some j => decide (latchAt s k n < (j : Int) * 1000) | none => false))

/-- PERIOD_NS of the grid (R291). -/
def periodNs (s : State) : Nat := match curGrid s with | some g => g.period | none => 0

/-- The record of one receiver in a mark. -/
def markRecord (e : Nat × RxAcc) : List Byte :=
  beBytes 1 e.1 ++ beBytes 1 e.2.part.toNat ++ beBytes 2 e.2.cells ++ beBytes 2 e.2.subst ++ [0, 0] ++ beBytes 4 e.2.ic

/-- The mark of the run's phase. -/
def markFrame (s : State) (p : Nat) (r : SeqRun) : List Byte × State :=
  let x := port s p
  let d := splitTime ((ctxOf s r.k r.n).stop * 65536)
  let len := 44 + 12 * x.acc.length
  let i := takeFidx s p 2
  let body := beBytes 6 d.1 ++ beBytes 4 d.2.1 ++ beBytes 2 x.skipped.toNat ++ beBytes 4 (periodNs s) ++
    beBytes 1 (nph s) ++ [0, 0, 0] ++ beBytes 8 ((x.acc.map fun e => 2 ^ e.1).foldl (· + ·) 0) ++
    x.acc.flatMap markRecord
  (htlHeader s p 2 (pseq r.k r.n) len i.1 ++ body, i.2)

/-- CLOSE releases at WC(n) and queues the mark, unless the pair discards it. -/
def execCloseRelease (p : Nat) (s : State) : Host.Outcome State Fault Refusal :=
  wall s (match runOf s p with
    | some r =>
      match r.wait with
      | .close =>
        if reached s (runCtx s r).close then
          let t := if marksDiscarded s r.k r.n then s
            else let m := markFrame s p r; queueT m.2 p false m.1
          setRun t p r.release
        else s
      | _ => s
    | none => s)

/-! ### Load check and swap (R215 to R221) -/

/-- The check's parameters of phase `n` as the registers stand (R216). -/
def checkParams (s : State) (p n : Nat) : List Nat :=
  let chain := rdF s (Reg.TP.SEQ_CTRL p) 15 8
  let code := if rdB s Reg.CAL.CAL_CTRL 0 then
      rdF s (Reg.CAL.CHAIN_PACK (chain / 16)) (2 * (chain % 16) + 1) (2 * (chain % 16))
    else rdF s Reg.CAL.CAL_CTRL 3 2
  [rdN s (Reg.DLS.PH_TS n), rdF s Reg.DLS.CANVAS 26 16, rdF s Reg.DLS.CANVAS 10 0, slotMin s * 1000, packBits code,
    rdF s (Reg.TP.GUY p) 15 0 * 1000, rdF s (Reg.TP.SEQ_MARGIN p) 15 0 * 1000]

/-- Parameters as the dry run takes them. -/
def toDry (l : List Nat) : DryParams :=
  ⟨l.getD 0 0, l.getD 1 0, l.getD 2 0, l.getD 3 0, l.getD 4 0, l.getD 5 0, l.getD 6 0⟩

/-- R215: CHECK.GO. An empty parameter list stands for an invalid phase grid (cause 13). -/
def execLoadCheckGo (a : Agent) (p : Nat) (v : Word) (s : State) : Host.Outcome State Fault Refusal :=
  let x := port s p
  let params := if (gridFault (curGrid s)).isSome then [] else (List.range (nph s)).map (checkParams s p)
  let t := wr (setPort s p { x with checking := some (rdF s (Reg.TP.NEXT_ENTRY p) 10 0, params) }) (Reg.TP.CHECK_STATUS p) 1
  live s (guarded s a (Reg.TP.CHECK p) v .cmd (if bit v 0 && x.checking.isNone then t else s))

/-- The verdict of a check: the failure reported, and the last word of the region. -/
def checkVerdict (s : State) (p : Nat) (entry : Nat) (params : List (List Nat)) : Option CheckFail × Nat :=
  if params.isEmpty then (some ⟨13, entry, 0, 0⟩, entry)
  else checkPhases (pitchWord (port s p)) entry (activeTable s p) 0 (params.map toDry)

/-- CHECK_STATUS of a failure (R219). -/
def checkWord (stale : Nat) (f : CheckFail) : Word :=
  w32 (stale + f.cause * 16 + f.addr % 2048 * 256 + f.phase * 2 ^ 19 + f.band % 1024 * 2 ^ 22)

/-- R219: the check ends with its verdict. -/
def execLoadCheckDone (p : Nat) (s : State) : Host.Outcome State Fault Refusal :=
  let x := port s p
  let st := Reg.TP.CHECK_STATUS p
  wall s (match x.checking with
    | none => s
    | some (e, params) =>
      let stale := rdF s st 2 2 * 4
      match checkVerdict s p e params with
      | (none, hi) => wr (setPort s p { x with checking := none, checked := some (e, hi + 1 - e) }) st (w32 (2 + stale))
      | (some f, _) =>
        raiseE (wr (setPort s p { x with checking := none, checked := none }) st (checkWord stale f)) (Page.TP p) 0)

/-- The checked table may be swapped in: PASS with BUSY = 0 and STALE = 0 for the entry now in NEXT_ENTRY (R221). -/
def swapAllowed (s : State) (p : Nat) : Option (Nat × Nat) :=
  if rdF s (Reg.TP.CHECK_STATUS p) 2 0 = 2 then
    match (port s p).checked with
    | some (e, len) => if e = rdF s (Reg.TP.NEXT_ENTRY p) 10 0 then some (e, len) else none
    | none => none
  else none

/-- A write of SWAP: CANCEL withdraws a pending swap; GO asks for one with the target of the same write (R221). A write of both
cancels first. A GO in the clock of a restart is applied at that restart. -/
def writeSwap (s : State) (p : Nat) (v : Word) : State :=
  let st := Reg.TP.SWAP_STATUS p
  let s := if bit v 5 && (port s p).swap.isSome then wrB (setPort s p { port s p with swap := none }) st 0 false else s
  let x := port s p
  let target := if bit v 1 then some (fld v 4 2) else none
  let badPhase := bit v 1 && decide (nph s ≤ fld v 4 2)
  if !bit v 0 then s
  else match swapAllowed s p with
    | some (e, len) =>
      if badPhase then bump s (Reg.TP.SWAP_REFUSED p)
      else
        let t := wr (setPort s p { x with swap := some (e, len, target) }) st (w32 (1 + fld (rd s st) 3 1 * 2))
        match x.last with
        | some (k, n) =>
          let u := applySwap t p n
          if x.lastAt ≠ tileClk s then t else if (port u p).swap.isNone then startTable u p k n else u
        | none => t
    | none => bump s (Reg.TP.SWAP_REFUSED p)

/-- R221: SWAP.GO. -/
def execSwapGo (a : Agent) (p : Nat) (v : Word) (s : State) : Host.Outcome State Fault Refusal :=
  live s (guarded s a (Reg.TP.SWAP p) v .cmd (writeSwap s p v))

/-- R221: SWAP.CANCEL. -/
def execSwapCancel (a : Agent) (p : Nat) (v : Word) (s : State) : Host.Outcome State Fault Refusal :=
  live s (guarded s a (Reg.TP.SWAP p) v .cmd (writeSwap s p v))

/-! ### Enable (R222) -/

/-- The bits of SEQ_CTRL that a write changes. -/
def seqCtlMask : Word := 0xFF03

/-- R222: SEQ_CTRL written with EN = 1: the sequencer first runs at the next restart. -/
def execSeqEnable (a : Agent) (p : Nat) (v : Word) (s : State) : Host.Outcome State Fault Refusal :=
  live s (guarded s a (Reg.TP.SEQ_CTRL p) v .cfg (wrCfg s (Reg.TP.SEQ_CTRL p) (v &&& seqCtlMask)))

/-- R222: SEQ_CTRL written with EN = 0: the sequencer stops at once with no mark; under the safe action SEQ_CTRL acts as
sampled at the last restart (R388). -/
def execSeqDisable (a : Agent) (p : Nat) (v : Word) (s : State) : Host.Outcome State Fault Refusal :=
  let t := wrCfg s (Reg.TP.SEQ_CTRL p) (v &&& seqCtlMask)
  let t := if bit v 0 || safe s (Page.TP p) then t
    else stopRun t p
  live s (guarded s a (Reg.TP.SEQ_CTRL p) v .cfg t)

end Sys2Proof.Machine
end

