-- ==== Sys2Proof/Machine/Egress.lean ====
section
/-! DEFINITION. Tile ports beside their sequencers: link and return frames (R250 to R254), time and lantern frames (R236 to R239),
the choice of the next frame, gates and shapers (R255 to R266), control sessions (R245, R263, R264), the discovery queue (R267)
and queue sampling (R269). -/

namespace Sys2Proof.Machine

/-! ### Link and arriving frames -/

/-- The physical link of a tile port becomes `up`. LINK falls with it on an enabled port (R258, R270). -/
def setTileLink (s : State) (p : Nat) (up lock : Bool) : State :=
  let t := setPort s p { port s p with linkUp := up, lock := lock }
  if portLink s p && !up then raiseE t (Page.TP p) 9 else t

/-- R258, R270: the physical link of a tile port changes; it cannot come up while its octet PLL is unlocked (R429) or in
STANDBY (R435). -/
def execTileLinkChange (p : Nat) (up lock : Bool) (s : State) : Host.Outcome State Fault Refusal :=
  let on := bit s.rst.octets (p / 8) && serdesOn s
  live s (if p < 256 then setTileLink s p (up && on) (lock && on) else s)

/-- Session `se` of a port. -/
def session (s : State) (p se : Nat) : CSession := Store.get (fun _ => CSession.reset) (port s p).sess se

/-- Replace session `se` of a port. -/
def setSession (s : State) (p se : Nat) (x : CSession) : State :=
  let y := port s p
  setPort s p { y with sess := Store.set (fun _ => CSession.reset) y.sess se x }

/-- Show OUTSTANDING of a session (R271). -/
def setOutstanding (s : State) (p se : Nat) (b : Bool) : State :=
  wr s (Reg.TP.SESS_CFG p se) (setBit (rd s (Reg.TP.SESS_CFG p se)) 15 b)

/-- A session's request ends: nothing is in hand. -/
def CSession.idle (x : CSession) : CSession := { x with req := none, ready := none, held := false }

/-- R245: an ACK for session `se`: it completes the outstanding request of that CSEQ, or is stale. The opening NOP completes no
descriptor. -/
def sessionAck (s : State) (p se cseq status : Nat) (body : List Byte) : State :=
  let x := session s p se
  match x.req with
  | some r =>
    if r.cseq = cseq ∧ r.sent.isSome ∧ r.acked.isNone ∧ !r.fail then
      let y : CSession :=
        if r.nop then { x.idle with opened := true }
        else { x with req := some { r with acked := some (status, body) }, ready := none, held := false }
      setOutstanding (setSession s p se y) p se false
    else bump s Reg.TLG.ACK_STALE
  | none => bump s Reg.TLG.ACK_STALE

/-- The return policer of a port judges a frame of `n` Ethernet bytes (R254); a CIR of 0 disables it. -/
def policeReturn (s : State) (p n : Nat) : Colour × State :=
  let cir := rdF s (Reg.TP.RPOL_CIR p) 24 0
  if cir = 0 then (.green, s)
  else
    let f := freshBit s
    let b := rd s (Reg.TP.RPOL_BURST p)
    let r := police f.1 (port s p).pol (cir * 1000) (rdF s (Reg.TP.RPOL_PIR p) 24 0 * 1000) (fld b 15 0) (fld b 31 16)
      (rateLen s p n) (tileClk s) 390625000
    (r.1, setPort f.2 p { port s p with pol := r.2 })

/-- Phase instants so far, one that is reached now included (R251). -/
def instantsSeen (s : State) : Nat :=
  s.grid.count + (match s.grid.next with | some (k, n) => (reached s (slotStart s k n * 1000)).toNat | none => 0)

/-- R251: a far-end lantern: the count of phase instants starts anew, after an instant of the same clock, and FAR_OK is 1. -/
def farLantern (s : State) (p : Nat) : State :=
  let s := setPort s p { port s p with farAt := some (instantsSeen s) }
  pulse (wrB s (Reg.TLG.FAR_OK (p / 32)) (p % 32) true) 28

/-- R250 from rule 5: an HTL frame of the port's chain. -/
def htlArrives (s : State) (p : Nat) (f : TileFrame) (h : List Byte) : State :=
  let type := (byteAt h 0).toNat % 16
  let own := (byteAt h 1).toNat % 2 == portEnd s p
  let kind := (byteAt h 16).toNat
  if type = 6 then
    if !own && kind != 4 then bump s Reg.TLG.RX_OTHER_END
    else
      let q := policeReturn s p (f.bytes.length + 4)
      match q.1 with
      | .red => raiseE (bump q.2 (Reg.TP.RET_POLICE_DROP p)) (Page.TP p) 8
      | c =>
        let s := bumpIf (c == .yellow) q.2 (Reg.TP.RET_YELLOW p)
        if kind = 3 then
          sessionAck s p (byteAt h 17).toNat (beAt h 18 2) (beAt h 22 2) ((h.take (beAt h 8 2)).drop 36)
        else
          bumpIf (fwRoom s) (fwReceive s p 2 (some (ingressTime s p)) f.bytes) Reg.TLG.RET_TO_FW
  else if type = 4 && !own then farLantern s p
  else bump s Reg.TLG.RX_LOOPED

/-- R250, R252, R253: a frame arrives at a tile port whose link is up. -/
def execTileFrameRx (p : Nat) (f : TileFrame) (s : State) : Host.Outcome State Fault Refusal :=
  let t := bump s (Reg.TP.RX_FRAMES p)
  let h := f.bytes.drop 14
  let r :=
    if f.fcsError then bump t (Reg.TP.RX_FCS_ERR p)
    else if !rdB s Reg.TLG.TLG_CTRL 0 then t
    else if beAt f.bytes 12 2 ≠ rdF s Reg.TLG.ETHERTYPE 15 0 then bump t Reg.TLG.RX_NONHTL
    else if (byteAt h 0).toNat / 16 ≠ 1 then bump t Reg.TLG.RX_BADVER
    else if (byteAt h 2).toNat ≠ portChain s p then bump t Reg.TLG.RX_FOREIGN
    else htlArrives t p f h
  live s (if decide (p < 256) && portLink s p then r else s)

/-- FAR_OK of a port is 1 while fewer than LANT_LOSS phase instants have passed since its last far-end lantern (R251). -/
def farOk (s : State) (p : Nat) : Bool :=
  match (port s p).farAt with
  | some c => decide (s.grid.count < c + rdF s Reg.TLG.LANT_LOSS 7 0)
  | none => false

/-- FAR_OK of a port shows whether it holds; its fall is a cause. -/
def settleFarOk (s : State) (p : Nat) : State :=
  let was := rdB s (Reg.TLG.FAR_OK (p / 32)) (p % 32)
  let t := wrB s (Reg.TLG.FAR_OK (p / 32)) (p % 32) (farOk s p)
  if was && !farOk s p then raiseE t Page.TLG 1 else t

/-- R251: LANT_LOSS phase instants have passed without a far-end lantern; FAR_OK falls. -/
def execFarOkLoss (p : Nat) (s : State) : Host.Outcome State Fault Refusal :=
  wall s (if decide (p < 256) && rdB s (Reg.TLG.FAR_OK (p / 32)) (p % 32) && !farOk s p then settleFarOk s p else s)

/-! ### Time frames and lanterns -/

/-- The newest whole multiple of `us` µs that the counter has reached, in ns. -/
def multipleOf (s : State) (us : Nat) : Nat := nowNs s / (us * 1000) * (us * 1000)

/-- R236, R279: the counter has passed a whole multiple of TIME_PER. Multiples that a step passes are taken one by one, in order; one
already taken does not come again. With TIME_EN = 0, and while the octet clocks are gated, they pass unseen (log entry 33). -/
def execTimeFrameTick (s : State) : Host.Outcome State Fault Refusal :=
  let per := rdF s Reg.TLG.TIME_PER 15 0
  let seen := rdB s Reg.TLG.TLG_CTRL 2 && serdesOn s
  let m := if seen then nextMultiple s.time.tlg per else multipleOf s per
  live s (if s.time.tlg < m && decide (m ≤ nowNs s) then queueTimeAll { s with time := { s.time with tlg := m } } else s)

/-- The lantern of a port as it is queued (R238, R239): its bytes, and the state with the type's FIDX taken. -/
def lanternFrame (s : State) (p : Nat) : List Byte × State :=
  let x := port s p
  let st := rd s Reg.TIM.SYNC_STATE
  let run := seqOn s p && (activeTable s p).isSome
  let d := rd s Reg.DLS.DLS_CTRL
  let gs := bit d 1 || !bit d 0
  let hold := rd s Reg.TLG.HOLD
  let segs := x.segs.flatten
  let i := takeFidx s p 4
  (htlHeader s p 4 (slotPseq s) (24 + segs.length) i.1 ++
    beBytes 1 (run.toNat + 2 * fld st 0 0 + 4 * fld st 1 1 + 8 * gs.toNat) ++ beBytes 1 x.poll ++
    beBytes 2 (fld hold 15 0) ++ beBytes 2 (fld hold 31 16) ++ beBytes 2 x.segs.length ++ segs, i.2)

/-- SENDs that the port's table has executed in a phase (R239). -/
def sendsOf (x : TilePort) (k n : Nat) : Nat := if x.last = some (k, n) then x.sends else 0

/-- One port queues its lantern; one still unsent is replaced (R255). Its capture origin and poll go on. -/
def queueLantern (k n : Nat) (s : State) (p : Nat) : State :=
  if portOn s p then
    let f := lanternFrame s p
    let x := port f.2 p
    let g := x.origin + rdF s Reg.TLG.LANT_SEG 4 0
    let t := setPort f.2 p { x with
      lantern := some ⟨false, f.1, s.time.uptime, false⟩
      poll := (x.poll + 1) % 64
      origin := if sendsOf x k n ≤ g then 0 else g
      segs := [] }
    bumpIf x.lantern.isSome t (Reg.TP.LANT_REPLACED p)
  else s

/-- R238: WC(n) of the slot in progress is reached; each port queues one lantern. -/
def execLanternQueue (k n : Nat) (s : State) : Host.Outcome State Fault Refusal :=
  let on := rdB s Reg.TLG.TLG_CTRL 0 && rdB s Reg.TLG.TLG_CTRL 1
  let t := (List.range 256).foldl (queueLantern k n) s
  let t := { t with grid := { t.grid with lant := some (k, n) } }
  wall s (if on && s.grid.cur == some (k, n) && s.grid.lant != some (k, n) && reached s (ctxOf s k n).close then t else s)

/-! ### Shapers and credits (R265, R266) -/

/-- What a rate of `kbps` adds in `dt` TOk clocks, in 2^-16 byte; a free bit decides the rounding (log entry 9). -/
def toGain (up : Bool) (kbps dt : Nat) : Nat :=
  let num := kbps * 1000 * dt * 65536
  let den := 8 * 390625000
  if num % den = 0 then num / den else num / den + up.toNat

/-- The class C buckets now, in 2^-16 byte. -/
def shaperNow (s : State) (p : Nat) : Int × Int :=
  let b := rd s (Reg.TP.C_BURST p)
  let cbs : Int := fld b 15 0 * 65536
  let pbs : Int := fld b 31 16 * 65536
  match (port s p).shaper with
  | none => (cbs, pbs)
  | some (c, q, t) =>
    let cir := rdF s (Reg.TP.C_CIR p) 24 0
    let dt := tileClk s - t
    let up := Config.freeBit s.free
    (min cbs (c + toGain up cir dt), min pbs (q + toGain up (max cir (rdF s (Reg.TP.C_PIR p) 24 0)) dt))

/-- The class M credit now, in 2^-16 byte. -/
def creditNow (s : State) (p : Nat) : Int :=
  let top : Int := rdF s (Reg.TP.M_BURST p) 15 0 * 65536
  match (port s p).credit with
  | none => top
  | some (m, t) => min top (m + toGain (Config.freeBit s.free) (rdF s (Reg.TP.M_RATE p) 24 0) (tileClk s - t))

/-- Bring both to the present clock, as before a change of their rates and sizes. -/
def settlePort (s : State) (p : Nat) : State :=
  let c := shaperNow s p
  let m := creditNow s p
  let t := tileClk s
  let x := port s p
  { setPort s p { x with shaper := some (c.1, c.2, t), credit := some (m, t) } with free := s.free + 1 }

/-- Class C may start (R265). -/
def shaperOpen (s : State) (p : Nat) : Bool :=
  rdF s (Reg.TP.C_CIR p) 24 0 == 0 || (decide (0 ≤ (shaperNow s p).1) && decide (0 ≤ (shaperNow s p).2))

/-- Class M may start (R266). -/
def creditOpen (s : State) (p : Nat) : Bool := rdF s (Reg.TP.M_RATE p) 24 0 != 0 && decide (0 ≤ creditNow s p)

/-- A class C frame of length `l` is charged. -/
def chargeShaper (s : State) (p l : Nat) : State :=
  if rdF s (Reg.TP.C_CIR p) 24 0 = 0 then s
  else
    let s := settlePort s p
    let x := port s p
    setPort s p { x with shaper := x.shaper.map fun e => (e.1 - l * 65536, e.2.1 - l * 65536, e.2.2) }

/-- A class M frame of length `l` is charged. -/
def chargeCredit (s : State) (p l : Nat) : State :=
  let s := settlePort s p
  let x := port s p
  setPort s p { x with credit := x.credit.map fun e => (e.1 - l * 65536, e.2) }

/-! ### Gates (R259 to R261) -/

/-- The gate list is bypassed (R261); never under the port's safe action while phases run (R388). -/
def gateBypass (s : State) (p : Nat) : Bool :=
  let g := rd s (Reg.TP.GATE_CTRL p)
  !rdB s Reg.TIM.TIM_STATUS 1 ||
    (!safe s (Page.TP p) && (!bit g 0 || (bit g 2 && !rdB s (Reg.TP.SEQ_CTRL p) 0)))

/-- The turn is open (R260); it alone is under the port's safe action (R388). -/
def turnOpen (s : State) (p : Nat) : Bool := safe s (Page.TP p) || rdB s (Reg.TP.GATE_CTRL p) 1

/-- The end of entry `e`'s newest occurrence begun at or before `t` ns of the slot of phase `n`, for class bit `c`. -/
def gateEnd (s : State) (p n c e : Nat) (t : Int) : Option Int :=
  let cfg := rd s (Reg.TP.GATE_CFG p e)
  let start := rdF s (Reg.TP.GATE_START p e) 25 0
  let len := rdF s (Reg.TP.GATE_LEN p e) 25 0
  let per := rdN s (Reg.TP.GATE_PERIOD p e)
  if safe s (Page.TP p) || !bit cfg c || !bit cfg (8 + n) || len = 0 || decide (t < (start : Int)) then none
  else
    let d := (t - start).toNat
    let k := if per = 0 then 0 else min (fld cfg 27 16) (((d + 1) * 1000 - 1) / per)
    some ((start + k * per / 1000 + len : Nat) : Int)

/-- Extend an open interval over what is open where it ends; ps from the slot start. -/
def gateReach (s : State) (p n c : Nat) (wc stop : Int) : Nat → Int → Int
  | 0, t => t
  | fuel + 1, t =>
    let ends := (List.range 8).filterMap fun e => (gateEnd s p n c e (t / 1000)).map (· * 1000)
    let ends := if turnOpen s p && decide (wc ≤ t) then stop :: ends else ends
    let u := min stop (ends.foldl max t)
    if t < u then gateReach s p n c wc stop fuel u else t

/-- The end of the open window of class bit `c` (0 C, 1 M) at the present instant, in ps of the counter; none: closed. -/
def gateWindow (s : State) (p c : Nat) : Option Int :=
  match s.grid.cur with
  | none => none
  | some (k, n) =>
    let x := ctxOf s k n
    let base := x.start * 1000
    let now : Int := nowPs s - base
    let e := gateReach s p n c (x.close - base) (x.stop * 1000 - base) 33000 now
    if now < e then some (base + e) else none

/-- What the gate says of a frame of `n` Ethernet bytes: it fits, is held inside an open window, or no window is open. -/
inductive GateSays where
  | fits | holds | closed
  deriving DecidableEq, Repr

/-- The fit test of R261: the frame may end in the TOk clock that contains the window's end. -/
def gateFit (s : State) (p n : Nat) (w : Option Int) : GateSays :=
  if gateBypass s p then .fits
  else match w with
    | none => .closed
    | some e => if (nowPs s : Int) + wireTime n * toClockPs < e + toClockPs then .fits else .holds

/-! ### Weighted fair queueing (R264) -/

/-- Is tag `a` before tag `b`, by the signed 32-bit difference. -/
def tagBefore (a b : Nat) : Bool := decide (toSigned 32 (wrapTo 32 ((a : Int) - b)) < 0)

/-- The later of two tags. -/
def tagMax (a b : Nat) : Nat := if tagBefore a b then b else a

/-- A session becomes backlogged: its tags are formed. A port that is off discards the frame as it is queued (R255): the request
counts as sent in the clock of its discarding and waits for its ACK (log entry 23). -/
def backlog (s : State) (p se : Nat) (x : CSession) (r : CReq) : State :=
  let w := max 1 (rdF s (Reg.TP.SESS_CFG p se) 7 0)
  let a := tagMax (rdN s (Reg.TP.WFQ_V p)) x.f
  let l := rateLen s p (ethBytes r.frame.length)
  if portOn s p then
    setSession s p se { x with
      req := some r
      ready := some s.time.uptime
      held := false
      s := a
      f := (a + ceilDiv (l * 256) w) % 2 ^ 32 }
  else
    let t := setSession s p se { x with
      req := some { r with tries := r.tries + 1, sent := some s.time.uptime }, ready := none, held := false }
    wrF (setOutstanding t p se true) (Reg.TP.SESS_CFG p se) 31 16 r.cseq

/-- Backlogged sessions of a port with their requests, smallest finish tag first, ties to the lowest number. -/
def backlogged (x : TilePort) : List (Nat × CSession × CReq) :=
  let l := x.sess.filterMap fun e =>
    match e.2.req with
    | some r => if e.2.ready.isSome then some (e.1, e.2, r) else none
    | none => none
  l.foldl (fun acc e => insertBy (fun a b => tagBefore a.2.1.f b.2.1.f) e acc) []

/-! ### The choice of the next frame (R256) -/

/-- The head of class T starts; a time frame takes ORIGIN as it leaves (R236, R288). -/
def startT (s : State) (p : Nat) (f : TFrame) (rest : List TFrame) : State :=
  let o := splitTime (egressTime s p)
  let bytes := if f.time then
      putBytes f.bytes 16 (beBytes 6 o.1 ++ beBytes 4 o.2.1 ++ beBytes 2 o.2.2)
    else f.bytes
  let s := setPort s p { port s p with tq := rest }
  bump (startTx s p .t bytes 0 none) (Reg.TP.TX_FRAMES_T p)

/-- The head of session `se` starts: V advances, the aggregate is charged, ACK_TMO runs from now (R245, R264, R265). -/
def startC (s : State) (p se : Nat) (x : CSession) (r : CReq) : State :=
  let s := setSession s p se { x with
    ready := none
    held := false
    req := some { r with tries := r.tries + 1, sent := some s.time.uptime } }
  let s := wr s (Reg.TP.WFQ_V p) (w32 (tagMax (rdN s (Reg.TP.WFQ_V p)) x.f))
  let s := chargeShaper s p (rateLen s p (ethBytes r.frame.length))
  let s := wrF (setOutstanding s p se true) (Reg.TP.SESS_CFG p se) 31 16 r.cseq
  bump (startTx s p .c r.frame se none) (Reg.TP.TX_FRAMES_C p)

/-- A class M frame starts; an ECHO takes T1_NS as it leaves (R241). -/
def startM (s : State) (p : Nat) (f : MFrame) (idx : Option Nat) : State :=
  let bytes := if f.echo then putBytes f.bytes 24 (beBytes 4 (wrapTo 32 (egressTime s p / 65536))) else f.bytes
  let s := chargeCredit s p (rateLen s p (ethBytes bytes.length))
  let x := port s p
  let x := if idx.isSome then { x with mq := none, mqBusy := true } else { x with lantern := none }
  bump (startTx (setPort s p x) p .m bytes 0 idx) (Reg.TP.TX_FRAMES_M p)

/-- Class C among the backlogged sessions in order: the first head that fits starts; those found not to fit are held, each
counted once (R261). The flag says whether a frame started. -/
def selectC (p : Nat) (w : Option Int) : State → List (Nat × CSession × CReq) → Bool × State
  | s, [] => (false, s)
  | s, (se, x, r) :: rest =>
    match gateFit s p (ethBytes r.frame.length) w with
    | .fits => (true, startC s p se x r)
    | .closed => selectC p w s rest
    | .holds =>
      if x.held then selectC p w s rest
      else selectC p w (bump (setSession s p se { x with held := true }) (Reg.TP.GATE_HOLD p)) rest

/-- Class M: the lantern before the firmware queue's head. -/
def selectM (s : State) (p : Nat) (w : Option Int) : State :=
  let x := port s p
  let head (s : State) : State :=
    match x.mq with
    | none => s
    | some (i, f) =>
      match gateFit s p (ethBytes f.bytes.length) w with
      | .fits => startM s p f (some i)
      | .closed => s
      | .holds =>
        if f.held then s
        else bump (setPort s p { port s p with mq := some (i, { f with held := true }) }) (Reg.TP.GATE_HOLD p)
  match x.lantern with
  | none => head s
  | some f =>
    match gateFit s p (ethBytes f.bytes.length) w with
    | .fits => startM s p f none
    | .closed => head s
    | .holds =>
      if f.held then head s
      else head (bump (setPort s p { port s p with lantern := some { f with held := true } }) (Reg.TP.GATE_HOLD p))

/-- Classes C and M in order. -/
def selectCM (s : State) (p : Nat) : State :=
  let r := if shaperOpen s p then selectC p (gateWindow s p 0) s (backlogged (port s p)) else (false, s)
  if r.1 then r.2 else if creditOpen r.2 p then selectM r.2 p (gateWindow r.2 p 1) else r.2

/-- A pixel frame is pending with its start clock reached, and no class T frame was queued before that. -/
def pixelFirst (s : State) (p : Nat) : Bool :=
  let x := port s p
  match x.send with
  | some f => decide (x.startAt f ≤ tileClk s) && !x.headFirst f
  | none => false

/-- R256: one TOk clock of a free transmitter. A due pixel frame starts in PIXEL_FRAME_START, before a class T frame that was queued
in its start clock or later. -/
def selectFrame (s : State) (p : Nat) : State :=
  let x := port s p
  if !portOn s p || x.tx.isSome || !serdesOn s then s
  else if pixelFirst s p then s
  else match x.tq with
    | f :: rest => startT s p f rest
    | [] => selectCM s p

/-- R256. -/
def execEgressSelect (p : Nat) (s : State) : Host.Outcome State Fault Refusal :=
  live s (if p < 256 then selectFrame s p else s)

/-- R259, R260: a window opens; frames it makes eligible are considered in the same clock (R256). -/
def execGateWindowOpen (p : Nat) (s : State) : Host.Outcome State Fault Refusal :=
  live s (if p < 256 then selectFrame s p else s)

/-! ### The discovery queue (R267) -/

/-- Base of the M queue's ring. -/
def mqBase (s : State) (p : Nat) : Nat :=
  2 ^ 32 * rdN s (Reg.TP.MQ_RING_HI p) + 4096 * rdF s (Reg.TP.MQ_RING_LO p) 31 12

/-- Address of the descriptor of index `i`. -/
def mqDesc (s : State) (p i : Nat) : Nat := mqBase s p + 16 * (i % 2 ^ rdF s (Reg.TP.MQ_CFG p) 4 1)

/-- Complete the descriptor of index `i` with its word 0x0C, and advance CONS. -/
def mqComplete (s : State) (p i w : Nat) : State :=
  let s := devWrite s (mqDesc s p i + 0x0C) (leBytes 4 w)
  wrF s (Reg.TP.MQ_IDX p) 31 16 (i + 1)

/-- R257, R256, R267: the frame on the wire has left. A pixel frame whose start clock came meanwhile counts as delayed by a class C
or M frame. -/
def execTxFrameDone (p : Nat) (s : State) : Host.Outcome State Fault Refusal :=
  let x := port s p
  wall s (match x.tx with
    | none => s
    | some f =>
      if tileClk s < f.stop then s
      else
        let t := setPort s p { x with tx := none }
        let low := f.cls == .c || f.cls == .m
        let t := match x.send with
          | some q =>
            if low && decide (q.start < f.stop) && !q.blocked then
              raiseE (bump (setPort t p { port t p with send := some { q with blocked := true } }) (Reg.TP.P_BLOCKED p))
                (Page.TP p) 6
            else t
          | none => t
        match f.mq with
        | some i => mqComplete (setPort t p { port t p with mqBusy := false }) p i 1
        | none => t)

/-- R267: a write of MQ_IDX.PROD. -/
def execMqDoorbell (a : Agent) (p : Nat) (v : Word) (s : State) : Host.Outcome State Fault Refusal :=
  let r := Reg.TP.MQ_IDX p
  live s (guarded s a r v .cfg (wrCfg s r (setFld (rd s r) 15 0 v.toNat)))

/-- Some of the addresses read lie in host memory. -/
def hostRead (as : List Nat) : Bool := as.any fun a => decide (hostBase ≤ a)

/-- The common header fields that the port fills in a firmware frame (R267). -/
def fillHeader (s : State) (p fidx : Nat) (h : List Byte) : List Byte :=
  let b1 := (byteAt h 1).toNat / 4 * 4 + portEnd s p + 2 * rdF s Reg.TLG.TLG_CTRL 3 3
  let h := putBytes h 1 (beBytes 1 b1 ++ beBytes 1 (portChain s p) ++ [0] ++ beBytes 4 (slotPseq s))
  putBytes h 10 (beBytes 2 fidx ++ beBytes 4 (rdN s Reg.TLG.DEV_TAG))

/-- R267: a descriptor and its frame have been read. `hd` brings the bytes that lie in host memory: the descriptor's, then the
frame's. A port that is off discards the frame: CONS passes it, its descriptor unwritten (R255, log entry 23). Where host memory's
answer reports an error (`err`), that is counted and the descriptor stays pending (R391, log entry 138). -/
def execMqDescReadDone (p : Nat) (hd : List Byte) (s : State) (err : Bool := false) : Host.Outcome State Fault Refusal :=
  let x := port s p
  let idx := rd s (Reg.TP.MQ_IDX p)
  let i := fld idx 31 16
  let d := mqDesc s p i
  let desc := devRead s d 16 hd
  let hd2 := if d < memBytes then hd else hd.drop 16
  let len := nfld (leAt desc 8 4) 13 0
  let h := devRead s (leAt desc 0 8) len hd2
  let good := decide (16 ≤ len) && decide (len ≤ 9198) && (byteAt h 0).toNat % 16 == 7
  let f := takeFidx s p 7
  let t := setPort f.2 p { port f.2 p with
    mq := some (i, ⟨(byteAt h 16).toNat == 3, fillHeader s p f.1 h, s.time.uptime, false⟩) }
  let t := if portOn s p then t else wrF s (Reg.TP.MQ_IDX p) 31 16 (i + 1)
  let bad := raiseE (bump (mqComplete s p i 2) (Reg.TP.MQ_DROPPED p)) (Page.TP p) 7
  wall s (if decide (p < 256) && rdB s (Reg.TP.MQ_CFG p) 0 && x.mq.isNone && !x.mqBusy && fld idx 15 0 != i then
      (if err && hostRead [d, leAt desc 0 8] then noteHostErr s hostBase
       else noteDevRead (noteDevRead (if good then t else bad) d 16) (leAt desc 0 8) len) else s)

/-! ### Control sessions (R245, R263) -/

/-- STOPPED of a session. -/
def stopped (s : State) (p se : Nat) : Bool := rdB s (Reg.TP.SESS_CFG p se) 14

/-- The session may take its next pending descriptor (R263). -/
def sessReady (s : State) (p se : Nat) : Bool :=
  rdB s (Reg.TP.SESS_CFG p se) 8 && !stopped s p se && (session s p se).req.isNone &&
    rdF s (Reg.TP.SESS_IDX p se) 15 0 != rdF s (Reg.TP.SESS_IDX p se) 31 16

/-- The HTL frame of a request (R245). -/
def controlFrame (s : State) (p se op cseq addr dlen : Nat) (data : List Byte) : List Byte × State :=
  let i := takeFidx s p 5
  (htlHeader s p 5 (slotPseq s) (28 + data.length) i.1 ++ beBytes 1 op ++ beBytes 1 se ++ beBytes 2 cseq ++ beBytes 4 addr ++
    beBytes 2 dlen ++ [0, 0] ++ data, i.2)

/-- The opening NOP of a session that first has a descriptor pending (R245): CSEQ 0, made by the engine. -/
def openSession (s : State) (p se : Nat) : State :=
  let x := session s p se
  if sessReady s p se && !x.opened then
    let f := controlFrame s p se 3 0 0 0 []
    backlog f.2 p se { session f.2 p se with cseq := 0 } ⟨3, 0, 0, f.1, 0, 0, none, true, none, false⟩
  else s

/-- R263: a write of SESS_IDX: PROD, and the restart of a stopped session. -/
def execSessionDoorbell (a : Agent) (p se : Nat) (v : Word) (s : State) : Host.Outcome State Fault Refusal :=
  let r := Reg.TP.SESS_IDX p se
  let t := wrCfg s r (setFld (rd s r) 15 0 v.toNat)
  let t := wr t (Reg.TP.SESS_CFG p se) (setBit (rd t (Reg.TP.SESS_CFG p se)) 14 false)
  live s (guarded s a r v .cfg (openSession t p se))

/-- Address of the descriptor of index `i` of a session's ring. -/
def sessDesc (s : State) (p se i : Nat) : Nat :=
  2 ^ 32 * rdN s (Reg.TP.SESS_RING_HI p se) + 4096 * rdF s (Reg.TP.SESS_RING_LO p se) 31 12 +
    32 * (i % 2 ^ rdF s (Reg.TP.SESS_CFG p se) 12 9)

/-- R263, R264: the read of the next descriptor, and of a WRITE's data, completes. `hd` brings the bytes that lie in host memory:
the descriptor's, then the data's. An OP that is none of the three completes with STATUS 4 unsent. Where host memory's answer reports
an error (`err`), that is counted and the descriptor stays pending (R391, log entry 138). -/
def execSessionDescReadDone (p se : Nat) (hd : List Byte) (s : State) (err : Bool := false) : Host.Outcome State Fault Refusal :=
  let x := session s p se
  let d := sessDesc s p se (rdF s (Reg.TP.SESS_IDX p se) 31 16)
  let desc := devRead s d 32 hd
  let hd2 := if d < memBytes then hd else hd.drop 32
  let op := leAt desc 0 1
  let dlen := leAt desc 8 2
  let data := if op = 2 then devRead s (leAt desc 0x10 8) dlen hd2 else []
  let cseq := (x.cseq + 1) % 65536
  let f := controlFrame s p se op cseq (leAt desc 4 4) dlen data
  let req : CReq := ⟨op, dlen, leAt desc 0x10 8, f.1, cseq, 0, none, false, none, false⟩
  let t := if op = 0 ∨ 3 < op then
      setSession s p se { x with cseq := cseq, req := some { req with frame := [], acked := some (4, []) } }
    else backlog f.2 p se { session f.2 p se with cseq := cseq } req
  wall s (if decide (p < 256) && decide (se < 64) && sessReady s p se && x.opened then
    (if err && hostRead (d :: if op = 2 then [leAt desc 0x10 8] else []) then noteHostErr s hostBase
     else noteDevRead (noteDevRead t d 32) (leAt desc 0x10 8) data.length) else s)

/-- A session stops after its last retry (R245). The opening NOP completes no descriptor. -/
def stopSession (s : State) (p se : Nat) (x : CSession) (r : CReq) : State :=
  let s := setSession s p se (if r.nop then x.idle else { x with req := some { r with fail := true } })
  let c := Reg.TP.SESS_CFG p se
  let s := setOutstanding (wr s c (setBit (rd s c) 14 true)) p se false
  let s := wr (bump s Reg.TLG.SESS_FAIL) Reg.TLG.LAST_SESS_FAIL
    (w32 (2 ^ 31 + (p + se * 256 + portEnd s p * 2 ^ 30)))
  raiseE (raiseE s (Page.TP p) 4) Page.TLG 0

/-- R245: ACK_TMO has passed since the last copy left: the frame is due again, or the session stops. -/
def execSessionAckTimeout (p se : Nat) (s : State) : Host.Outcome State Fault Refusal :=
  let x := session s p se
  let c := rd s Reg.TLG.SESSION
  wall s (match x.req with
    | some r =>
      match r.sent with
      | some t =>
        if r.acked.isSome || r.fail || x.ready.isSome || !overUs s t (fld c 15 0) then s
        else if r.tries ≤ fld c 19 16 then backlog s p se x r
        else stopSession s p se x r
      | none => s
    | none => s)

/-- R263: the answered or failed request completes: returned data, words 0x18 and 0x1C, CONS. -/
def completeReq (s : State) (p se : Nat) (x : CSession) (r : CReq) (status : Nat) (body : List Byte) : State :=
  let idx := Reg.TP.SESS_IDX p se
  let i := rdF s idx 31 16
  let d := sessDesc s p se i
  let read := r.op == 1 && !r.fail
  let data := body.take r.dlen
  let st := if read && decide (data.length < r.dlen) then 3 else status
  let s := if read then devWrite s r.data data else s
  let s := devWrite s (d + 0x18) (leBytes 4 (1 + 2 * r.fail.toNat + 16 * (r.tries % 16) + 65536 * st) ++ leBytes 4 r.cseq)
  let s := wrF s idx 31 16 (i + 1)
  let s := setSession s p se x.idle
  raiseE s (Page.TP p) 5

/-- R263. -/
def execSessionComplete (p se : Nat) (s : State) : Host.Outcome State Fault Refusal :=
  let x := session s p se
  wall s (match x.req with
    | some r =>
      if r.nop then s
      else match r.acked with
        | some a => completeReq s p se x r a.1 a.2
        | none => if r.fail then completeReq s p se x r 0 [] else s
    | none => s)

/-- Clearing EN of a session abandons its request, descriptor unwritten (R263). -/
def abandonSession (s : State) (p se : Nat) : State :=
  setOutstanding (setSession s p se (session s p se).idle) p se false

/-! ### Sampling (R269) -/

/-- Lengths and queueing instants of the frames that wait in class `c`: 0 T, 1 C, 2 M. -/
def waiting (s : State) (p c : Nat) : List (Nat × Nat) :=
  let x := port s p
  let len (b : List Byte) : Nat := rateLen s p (ethBytes b.length)
  match c with
  | 0 => x.tq.map fun f => (len f.bytes, f.at_)
  | 1 => x.sess.filterMap fun e =>
      match e.2.req, e.2.ready with
      | some r, some t => some (len r.frame, t)
      | _, _ => none
  | _ => (match x.lantern with | some f => [(len f.bytes, f.at_)] | none => []) ++
      (match x.mq with | some e => [(len e.2.bytes, e.2.at_)] | none => [])

/-- Depth in bytes and delay in ns of a class. -/
def sampleOf (s : State) (p c : Nat) : Nat × Nat :=
  let l := waiting s p c
  let oldest := l.foldl (fun m e => min m e.2) s.time.uptime
  ((l.map (·.1)).foldl (· + ·) 0, min 0xFFFFFFFF (2 * (s.time.uptime - oldest)))

/-- Lower a register that holds a minimum. -/
def trough (s : State) (addr v : Nat) : State := if v < rdN s addr then wr s addr (w32 v) else s

/-- One class is sampled `n` times in one clock. -/
def sampleClass (p n : Nat) (s : State) (c : Nat) : State :=
  let v := sampleOf s p c
  let ctl := rd s (Reg.TP.SAMPLE_CTRL p)
  let s := peak (trough s (Reg.TP.DEPTH_MIN p c) v.1) (Reg.TP.DEPTH_MAX p c) v.1
  let s := peak (trough s (Reg.TP.DELAY_MIN p c) v.2) (Reg.TP.DELAY_MAX p c) v.2
  if min 2 (fld ctl 11 10) = c then
    bumpN s (Reg.TP.HIST p (min 15 ((if bit ctl 12 then v.2 else v.1) / 2 ^ fld ctl 17 13))) n
  else s

/-- R269, R279: the counter has crossed a whole multiple of INT µs; of several that a step passes, each takes its sample in this
clock. While the octet clocks are gated they pass unseen (log entry 33). -/
def execQueueSample (p : Nat) (s : State) : Host.Outcome State Fault Refusal :=
  let int := rdF s (Reg.TP.SAMPLE_CTRL p) 9 0
  let m := multipleOf s int
  let n := (m - nextMultiple (port s p).sampled int) / (int * 1000) + 1
  let t := setPort s p { port s p with sampled := m }
  let t := if serdesOn s then [0, 1, 2].foldl (sampleClass p n) t else t
  live s (if decide (p < 256) && decide ((port s p).sampled < m) then t else s)

/-- The port's last sample was taken in the present clock. -/
def sampledNow (s : State) (p : Nat) : Bool :=
  let m := (port s p).sampled * 2 ^ 32
  serdesOn s && decide (0 < m) && decide (m ≤ s.time.count) && decide (s.time.count < m + increment s)

/-- R269: SAMPLE_CLEAR.GO. A sample of the same clock is taken after the clear. -/
def execSampleClear (a : Agent) (p : Nat) (v : Word) (s : State) : Host.Outcome State Fault Refusal :=
  let one (s : State) (c : Nat) : State :=
    wr (wr (wr (wr s (Reg.TP.DEPTH_MIN p c) 0xFFFFFFFF) (Reg.TP.DEPTH_MAX p c) 0) (Reg.TP.DELAY_MIN p c) 0xFFFFFFFF)
      (Reg.TP.DELAY_MAX p c) 0
  let t := (List.range 16).foldl (fun s i => wr s (Reg.TP.HIST p i) 0) ([0, 1, 2].foldl one s)
  let t := if sampledNow s p then [0, 1, 2].foldl (sampleClass p 1) t else t
  live s (guarded s a (Reg.TP.SAMPLE_CLEAR p) v .cmd (if bit v 0 then t else s))

end Sys2Proof.Machine
end

