-- ==== Sys2Proof/Machine/Blit.lean ====
section
/-! DEFINITION. The blitter (R327 to R336, R348). -/

namespace Sys2Proof.Machine

/-! ### Surfaces and rectangles -/

/-- Largest row order, width and height fields of a surface as the registers hold them at GO. -/
def bltSurf (s : State) (lo hi stride dim fmt xy : Nat) : BltSurf :=
  ⟨rdF s hi 4 0 * 2 ^ 32 + rdF s lo 31 12 * 4096, rdF s stride 20 0, rdF s dim 15 0, rdF s dim 31 16, rdF s fmt 3 0,
    rdF s xy 15 0, rdF s xy 31 16⟩

/-- The surface of a captured rectangle. -/
def BltSurf.surf (x : BltSurf) : Surf := ⟨x.fmt, x.base, x.stride, x.w, x.h⟩

/-- The operation that a GO would start (R327): all parameters as captured. -/
def captureBlt (s : State) : BltOp :=
  let src := bltSurf s Reg.BLT.SRC_BASE_LO Reg.BLT.SRC_BASE_HI Reg.BLT.SRC_STRIDE Reg.BLT.SRC_DIM Reg.BLT.SRC_FMT Reg.BLT.SRC_XY
  let dst := bltSurf s Reg.BLT.DST_BASE_LO Reg.BLT.DST_BASE_HI Reg.BLT.DST_STRIDE Reg.BLT.DST_DIM Reg.BLT.DST_FMT Reg.BLT.DST_XY
  let op := rdF s Reg.BLT.BLT_CTRL 1 0
  let same := src.base == dst.base && src.stride == dst.stride && src.fmt == dst.fmt
  let fill := (List.range 4).flatMap fun m => leBytes 4 (rdN s (Reg.BLT.FILL m))
  { op := op, premul := rdB s Reg.BLT.BLT_CTRL 2, src := src, dst := dst, w := rdF s Reg.BLT.SIZE 15 0
    h := rdF s Reg.BLT.SIZE 31 16, fill := padTo (unitBytes dst.fmt) fill
    up := op != 1 && same && decide (src.y < dst.y), rows := 0, met := [] }

/-- Source and destination are the same surface (R330). -/
def BltOp.same (o : BltOp) : Bool := o.src.base == o.dst.base && o.src.stride == o.dst.stride && o.src.fmt == o.dst.fmt

/-- Rows are staged (R330). -/
def BltOp.staged (o : BltOp) : Bool :=
  o.op != 1 && o.same && o.src.y == o.dst.y && decide (o.src.x < o.dst.x + o.w) && decide (o.dst.x < o.src.x + o.w)

/-- Address of row `r` of a rectangle (R330). -/
def BltSurf.rowAt (x : BltSurf) (r : Nat) : Nat := x.base + (x.y + r) * x.stride + pxOffset x.fmt x.x

/-- The footprint of a rectangle of `w` by `h`: first byte and the byte after the last (R330). -/
def BltSurf.footprint (x : BltSurf) (w h : Nat) : Nat × Nat := (x.rowAt 0, x.rowAt (h - 1) + rowBytes x.fmt w)

/-- A rectangle lies in its surface. -/
def BltSurf.fits (x : BltSurf) (w h : Nat) : Bool := decide (x.x + w ≤ x.w) && decide (x.y + h ≤ x.h)

/-- A rectangle starts and ends on unit boundaries. -/
def BltSurf.onUnits (x : BltSurf) (w : Nat) : Bool := x.x % unitPx x.fmt == 0 && w % unitPx x.fmt == 0

/-- Formats suit the operation (R329, cause 6). -/
def BltOp.suits (o : BltOp) : Bool :=
  match o.op with
  | 0 => o.src.fmt == o.dst.fmt
  | 1 => true
  | 2 => decide (o.src.fmt ≤ 4) && decide (o.dst.fmt ≤ 4)
  | _ => decide (o.src.fmt ≤ 4) == decide (o.dst.fmt ≤ 4)

/-- The first cause of R329 that a GO meets; 0: it is accepted. -/
def BltOp.refusal (o : BltOp) : Nat :=
  let used := if o.op = 1 then [o.dst] else [o.src, o.dst]
  let a := o.src.footprint o.w o.h
  let b := o.dst.footprint o.w o.h
  if used.any fun x => (fmtUnit x.fmt).isNone then 1
  else if used.any fun x => !surfOk x.surf then 2
  else if used.any fun x => !x.fits o.w o.h then 3
  else if o.w = 0 ∨ 16384 < o.w ∨ o.h = 0 then 4
  else if used.any fun x => !x.onUnits o.w then 5
  else if !o.suits then 6
  else if o.op ≠ 1 ∧ !o.same ∧ a.1 < b.2 ∧ b.1 < a.2 then 7
  else 0

/-! ### Streams that overlap (R340) -/

/-- Starts of the lines of a shape. -/
def lineStarts (base : Nat) (step : Int) (lines : Nat) : List Int := (List.range lines).map fun i => (base : Int) + i * step

/-- Is an address in a shape's lines. -/
def Shape.has (x : Shape) (a : Nat) : Bool :=
  (lineStarts x.base x.step x.lines).any fun l => decide (l ≤ (a : Int)) && decide ((a : Int) < l + x.len)

/-- Both shapes of a descriptor. -/
def DmaDesc.shapes (d : DmaDesc) : List Shape := [⟨d.src, d.sLen, d.sStep, d.sLines⟩, ⟨d.dst, d.dLen, d.dStep, d.dLines⟩]

/-- A footprint as a shape of one line. -/
def BltSurf.shape (x : BltSurf) (w h : Nat) : Shape := ⟨(x.footprint w h).1, (x.footprint w h).2 - (x.footprint w h).1, 0, 1⟩

/-- The footprints that an operation reads and writes. -/
def BltOp.shapes (o : BltOp) : List Shape := (if o.op = 1 then [] else [o.src.shape o.w o.h]) ++ [o.dst.shape o.w o.h]

/-- Shapes of the descriptors that channels other than `ch` are moving. -/
def movingShapes (s : State) (ch : Nat) : List Shape :=
  (List.range 16).flatMap fun c =>
    let x := dmaCh s c
    if c != ch && x.phase == .move then (match x.desc with | some d => d.shapes | none => []) else []

/-- A stream of channel `ch` (16: the blitter) has ended: those that still run have met it. -/
def endStream (s : State) (ch : Nat) (l : List Shape) : State :=
  let note (s : State) (c : Nat) : State :=
    let x := dmaCh s c
    if c != ch && x.phase == .move then setDma s c { x with met := x.met ++ l } else s
  let s := (List.range 16).foldl note s
  match s.blt with
  | some o => { s with blt := some { o with met := o.met ++ l } }
  | none => s

/-- Bytes that an operation writes at `a`: one in another stream's footprint holds a value that R340 leaves unspecified. -/
def bltBytes (s : State) (o : BltOp) (a : Nat) (bs : List Byte) : List Byte :=
  let others := movingShapes s 16 ++ o.met
  bs.zipIdx.map fun e => if others.any fun x => x.has (a + e.2) then Config.freeByte (s.free + e.2) else e.1

/-! ### Samples (R331, R332) -/

/-- A binary16 value nearest to v / 65536, ties to even. -/
def halfOf (v : Int) : Nat :=
  let m := v.natAbs
  let mag :=
    if m < 4 then m * 256
    else
      let e := Nat.log2 m
      let mant := if e ≤ 10 then m * 2 ^ (10 - e) else divEven m (2 ^ (e - 10))
      (e - 1) * 1024 + (mant - 1024)
  if v < 0 then 32768 + mag else mag

/-- Bits of channel `c` in a format. -/
def chanBits (f c : Nat) : Nat :=
  match f with
  | 0 => 8
  | 1 => if c = 3 then 2 else 10
  | 2 => 12
  | 3 => 16
  | 5 => 10
  | 6 => 10
  | 7 => 12
  | _ => 8

/-- A normalised value packed as channel `c` of a format (R331 step 4). -/
def packChan (f c : Nat) (v : Int) : Nat :=
  if f = 4 then halfOf (clampI (-1048576) 1048575 v)
  else (((clampI 0 0x10000 v) * (2 ^ chanBits f c - 1) + 0x8000) / 65536).toNat

/-- Bit positions of a unit's samples in its memory order (R34). -/
def samplePos (f j : Nat) : Nat :=
  match f with
  | 0 => 8 * j
  | 1 => 10 * j
  | 2 => 16 * j + 4
  | 3 => 16 * j
  | 4 => 16 * j
  | 5 => 10 * j
  | 6 => 10 * j
  | 7 => 16 * j + 4
  | _ => 8 * j

/-- Bytes of a unit from its samples in memory order. -/
def unitOf (f : Nat) (samples : List Nat) : List Byte :=
  leBytes (unitBytes f) ((samples.zipIdx.map fun e => e.1 * 2 ^ samplePos f e.2).foldl (· + ·) 0)

/-- Normalised channel of a surface pixel (R331 steps 1 and 2). -/
def bltChan (s : State) (x : BltSurf) (px py : Int) (c : Nat) : Int :=
  normalise x.fmt (x.surf.sample (Store.get memDefault s.mem) false px py c)

/-- Chroma of a pixel pair for a 4:2:2 destination (R331 step 3): taken as it stands from a 4:2:2 source. -/
def pairChroma (s : State) (x : BltSurf) (px py : Int) (c : Nat) : Int :=
  if fmt422 x.fmt then bltChan s x px py c
  else (bltChan s x (px - 1) py c + 2 * bltChan s x px py c + bltChan s x (px + 1) py c + 2) / 4

/-- One converted unit of the destination whose first pixel is column `i` of the rectangle (R331). -/
def convertUnit (s : State) (o : BltOp) (r i : Nat) : List Byte :=
  let px (j : Nat) : Int := ((o.src.x + i + j : Nat) : Int)
  let py : Int := ((o.src.y + r : Nat) : Int)
  let f := o.dst.fmt
  let at_ (j c : Nat) : Nat := packChan f c (bltChan s o.src (px j) py c)
  if fmt422 f then
    unitOf f ((List.range (unitPx f / 2)).flatMap fun q =>
      let ch (c : Nat) : Nat := packChan f c (pairChroma s o.src (px (2 * q)) py c)
      [ch 1, at_ (2 * q) 0, ch 2, at_ (2 * q + 1) 0])
  else if f = 5 then unitOf f [at_ 0 1, at_ 0 0, at_ 0 2]
  else unitOf f [at_ 0 0, at_ 0 1, at_ 0 2, at_ 0 3]

/-- r16 of R332. -/
def r16 (x : Int) : Int := (x + 0x8000) / 65536

/-- One blended pixel at column `i` (R332). -/
def blendUnit (s : State) (o : BltOp) (r i : Nat) : List Byte :=
  let sv (c : Nat) : Int := bltChan s o.src ((o.src.x + i : Nat) : Int) ((o.src.y + r : Nat) : Int) c
  let dv (c : Nat) : Int := bltChan s o.dst ((o.dst.x + i : Nat) : Int) ((o.dst.y + r : Nat) : Int) c
  let va := clampI 0 0x10000 (sv 3)
  let vda := clampI 0 0x10000 (dv 3)
  let colour (c : Nat) : Int :=
    if o.premul then sv c + r16 (dv c * (0x10000 - va)) else r16 (sv c * va + dv c * (0x10000 - va))
  let out (c : Nat) (v : Int) : Nat := packChan o.dst.fmt c (clampI (-1048576) 1048575 v)
  unitOf o.dst.fmt [out 0 (colour 0), out 1 (colour 1), out 2 (colour 2), out 3 (va + r16 (vda * (0x10000 - va)))]

/-! ### Rows -/

/-- The bytes of destination row `r`. -/
def bltRow (s : State) (o : BltOp) (r : Nat) : List Byte :=
  let units := o.w / unitPx o.dst.fmt
  let px := unitPx o.dst.fmt
  match o.op with
  | 0 => memRead s (o.src.rowAt r) (rowBytes o.src.fmt o.w)
  | 1 => (List.replicate units o.fill).flatten
  | 2 => (List.range units).flatMap fun u => blendUnit s o r (px * u)
  | _ => (List.range units).flatMap fun u => convertUnit s o r (px * u)

/-- The row that comes `i`-th in the row order. -/
def BltOp.rowOf (o : BltOp) (i : Nat) : Nat := if o.up then o.h - 1 - i else i

/-- First column and the column after the last that an operation reads of its source: where COPY_CONVERT forms chroma it also takes
neighbouring columns (R118, R331), as far as the surface reaches. -/
def BltOp.columns (o : BltOp) : Nat × Nat :=
  let beside : Nat × Nat :=
    if o.op = 3 ∧ fmt422 o.src.fmt ∧ !fmt422 o.dst.fmt then (2, 4)
    else if o.op = 3 ∧ !fmt422 o.src.fmt ∧ fmt422 o.dst.fmt then (1, 0)
    else (0, 0)
  let u := unitPx o.src.fmt
  ((o.src.x - beside.1) / u * u, min (ceilDiv o.src.w u * u) (ceilDiv (o.src.x + o.w + beside.2) u * u))

/-- Source row `r` as it is read: address and bytes. -/
def BltOp.reads (o : BltOp) (r : Nat) : Nat × Nat :=
  let c := o.columns
  (o.src.base + (o.src.y + r) * o.src.stride + pxOffset o.src.fmt c.1, rowBytes o.src.fmt (c.2 - c.1))

/-- A row that the operation reads holds an uncorrectable error. -/
def rowPoisoned (s : State) (o : BltOp) (r : Nat) : Bool :=
  (o.op != 1 && memPoisoned s (o.reads r).1 (o.reads r).2) ||
    (o.op == 2 && memPoisoned s (o.dst.rowAt r) (rowBytes o.dst.fmt o.w))

/-- Write the first `n` bytes of the next row. -/
def writePart (s : State) (o : BltOp) (n : Nat) : State :=
  let r := o.rowOf o.rows
  let bs := bltBytes s o (o.dst.rowAt r) ((bltRow s o r).take n)
  bump64 (memWrite { s with free := s.free + bs.length } (o.dst.rowAt r) bs) Reg.BLT.BYTES_LO Reg.BLT.BYTES_HI bs.length

/-- Note the running operation, with ROWS. -/
def setBlt (s : State) (o : BltOp) : State := wrF { s with blt := some o } Reg.BLT.STATUS 31 16 (min 65535 o.rows)

/-- Up to `n` more rows; a row that cannot be read stops them. -/
def runRows : Nat → State → BltOp → State × BltOp
  | 0, s, o => (s, o)
  | n + 1, s, o =>
    if o.h ≤ o.rows ∨ rowPoisoned s o (o.rowOf o.rows) then (s, o)
    else runRows n (writePart s o (rowBytes o.dst.fmt o.w)) { o with rows := o.rows + 1 }

/-- Bring the running operation to `rows` rows. -/
def advanceBlt (s : State) (o : BltOp) (rows : Nat) : State × BltOp :=
  let r := runRows (rows - o.rows) s o
  (setBlt r.1 r.2, r.2)

/-! ### GO, ABORT and the ends of an operation -/

/-- What the blitter and the channels have done of the amount a command brings: nothing while their clocks are gated (R436). -/
def done (s : State) (n : Nat) : Nat := if serdesOn s then n else 0

/-- The running operation ends. -/
def endBlt (s : State) (o : BltOp) : State := endStream { s with blt := none } 16 o.shapes

/-- A write of GO.GO: `rows` rows are written before the next command (R327, R329, R334). -/
def goBlt (s : State) (rows : Nat) : State :=
  if safe s Page.BLT then s
  else if s.blt.isSome then bump (wrB s Reg.BLT.ERR 0 true) Reg.BLT.GO_IGNORED
  else
    let o := captureBlt s
    let why := o.refusal
    if why ≠ 0 then raiseE (wrB (wrF s Reg.BLT.STATUS 7 4 why) Reg.BLT.ERR 1 true) Page.BLT 1
    else
      let st := 1 + 4 * o.up.toNat + 8 * o.staged.toNat + 16 * rdF s Reg.BLT.STATUS 7 4
      (advanceBlt (wr s Reg.BLT.STATUS (w32 st)) o (done s rows)).1

/-- The operation stops with `rows` rows complete and `bytes` bytes of the next one written; the answers owed have come. -/
def stopBlt (s : State) (o : BltOp) (rows bytes : Nat) : State × BltOp :=
  let r := advanceBlt s o (done s rows)
  let t := if r.2.rows < r.2.h then writePart r.1 r.2 (min (done s bytes) (rowBytes o.dst.fmt o.w - 1)) else r.1
  (wrB (endBlt t r.2) Reg.BLT.STATUS 0 false, r.2)

/-- A write of GO.ABORT, or BLT's safe action (R334, R388). -/
def abortBlt (s : State) (rows bytes : Nat) : State :=
  match s.blt with
  | some o => wrB (stopBlt s o rows bytes).1 Reg.BLT.ERR 4 true
  | none => s

/-- A write of BLT.GO. -/
def writeBltGo (s : State) (v : Word) (goRows stopRows bytes : Nat) : State :=
  let busy := s.blt.isSome
  let t := if bit v 0 then goBlt s goRows else s
  if bit v 1 && busy then abortBlt t stopRows bytes else t

/-- A write of GO with the row's OP. -/
def bltGo (op : Nat) (a : Agent) (v : Word) (rows : Nat) (s : State) : Host.Outcome State Fault Refusal :=
  live s (if rdF s Reg.BLT.BLT_CTRL 1 0 = op then guarded s a Reg.BLT.GO v .cmd (writeBltGo s v rows 0 0) else s)

/-- R330: GO with OP COPY. -/
def execBltCopy (a : Agent) (v : Word) (rows : Nat) (s : State) : Host.Outcome State Fault Refusal := bltGo 0 a v rows s

/-- R333: GO with OP FILL. -/
def execBltFill (a : Agent) (v : Word) (rows : Nat) (s : State) : Host.Outcome State Fault Refusal := bltGo 1 a v rows s

/-- R332: GO with OP COPY_BLEND. -/
def execBltCopyBlend (a : Agent) (v : Word) (rows : Nat) (s : State) : Host.Outcome State Fault Refusal := bltGo 2 a v rows s

/-- R331: GO with OP COPY_CONVERT. -/
def execBltCopyConvert (a : Agent) (v : Word) (rows : Nat) (s : State) : Host.Outcome State Fault Refusal := bltGo 3 a v rows s

/-- R334: a write of GO.ABORT: `rows` rows and `bytes` bytes of the next one have been written. -/
def execBltAbort (a : Agent) (v : Word) (rows bytes : Nat) (s : State) : Host.Outcome State Fault Refusal :=
  live s (guarded s a Reg.BLT.GO v .cmd (writeBltGo s v 0 rows bytes))

/-- R334: every write has been acknowledged. -/
def execBltDone (s : State) : Host.Outcome State Fault Refusal :=
  wall s (match s.blt with
    | some o =>
      let r := advanceBlt s o o.h
      if r.2.rows < o.h then s
      else
        let t := wrB (wrB (endBlt r.1 r.2) Reg.BLT.STATUS 0 false) Reg.BLT.STATUS 1 true
        raiseE (pulse (bump t Reg.BLT.OPS_DONE) 128) Page.BLT 0
    | none => s)

/-- R335: memory reports an uncorrectable error on a read of the 32-byte word at `addr`, or a failed write. -/
def execBltMemError (write : Bool) (rows bytes addr : Nat) (s : State) : Host.Outcome State Fault Refusal :=
  wall s (match s.blt with
    | some o =>
      let r := stopBlt s o rows bytes
      let t := if write then r.1 else (readWord32 r.1 (addr / 32 * 32) .uncorrectable).2
      let t := wr (wrB t Reg.BLT.ERR (if write then 3 else 2) true) Reg.BLT.ERR_ROW (w32 ((o.dst.y + r.2.rowOf r.2.rows) % 65536))
      raiseE t Page.BLT 2
    | none => s)

end Sys2Proof.Machine
end

