-- ==== Sys2Proof/Machine/Dma.lean ====
section
/-! DEFINITION. The DMA channels (R337 to R347, R349, R350, R404). -/

namespace Sys2Proof.Machine

/-! ### Descriptors (R339 to R341) -/

/-- A descriptor from its 64 bytes. -/
def dmaDescOf (b : List Byte) : DmaDesc where
  src := leAt b 0 8
  dst := leAt b 8 8
  sLen := leAt b 0x10 3
  sStep := toSigned 32 (leAt b 0x14 4)
  sLines := leAt b 0x18 2
  dLen := leAt b 0x1C 3
  dStep := toSigned 32 (leAt b 0x20 4)
  dLines := leAt b 0x24 2
  next := leAt b 0x28 8
  last := (leAt b 0x30 1).testBit 0
  evt := (leAt b 0x30 1).testBit 1
  resv := leAt b 0x13 1 != 0 || leAt b 0x1A 2 != 0 || leAt b 0x1F 1 != 0 || leAt b 0x26 2 != 0 ||
    leAt b 0x30 4 / 4 != 0 || leAt b 0x34 12 != 0

/-- T (R340). -/
def DmaDesc.total (d : DmaDesc) : Nat := d.sLen * d.sLines

/-- The first check of R341. -/
def DmaDesc.formed (d : DmaDesc) : Bool :=
  !d.resv && d.sLen != 0 && d.sLines != 0 && d.dLen != 0 && d.dLines != 0 && d.sLen * d.sLines == d.dLen * d.dLines &&
    (d.last || d.next % 64 == 0)

/-- A window of firmware holds a line with its DMA permission set (R404). -/
def inDmaWindow (s : State) (a n : Nat) : Bool :=
  (List.range 8).any fun w =>
    let base := rdF s (Reg.MGT.WIN_BASE_HI w) 4 0 * 2 ^ 32 + rdF s (Reg.MGT.WIN_BASE_LO w) 31 12 * 4096
    rdB s (Reg.MGT.WIN_PERM w) 2 && decide (base ≤ a) && decide (a + n ≤ base + rdF s (Reg.MGT.WIN_SIZE w) 23 0 * 4096)

/-- HOST_WIN holds a line at a PCIe address. -/
def inHostWindow (s : State) (a n : Nat) : Bool :=
  let base := (rdN s Reg.MGT.HOST_WIN_HI % 2 ^ 31) * 2 ^ 32 + rdF s Reg.MGT.HOST_WIN_LO 31 12 * 4096
  decide (base ≤ a) && decide (a + n ≤ base + rdN s Reg.MGT.HOST_WIN_SIZE * 4096)

/-- A channel whose page grants FW (R404). -/
def fwChannel (s : State) (ch : Nat) : Bool := (rightsWord s (Page.DC ch)).testBit 1

/-- A line of `n` bytes lies wholly in device memory, or wholly in reachable host memory, and inside firmware's windows for a
firmware channel (R337, R341, R404). -/
def lineOk (s : State) (ch : Nat) (a : Int) (n : Nat) : Bool :=
  if a < 0 then false
  else
    let a := a.toNat
    if a + n ≤ memBytes then !fwChannel s ch || inDmaWindow s a n
    else if hostBase ≤ a ∧ a + n ≤ 2 * hostBase then
      s.pcie.cfg.busMaster && (!fwChannel s ch || inHostWindow s (a - hostBase) n)
    else false

/-- Start of the first line that breaks the second check, source lines first. -/
def badLine (s : State) (ch : Nat) (d : DmaDesc) : Option Int :=
  match (lineStarts d.src d.sStep d.sLines).find? fun a => !lineOk s ch a d.sLen with
  | some a => some a
  | none => (lineStarts d.dst d.dStep d.dLines).find? fun a => !lineOk s ch a d.dLen

/-! ### Moving data (R340, R342) -/

/-- Address of byte `i` of a shape's stream. -/
def streamAddr (base len : Nat) (step : Int) (i : Nat) : Nat :=
  ((base : Int) + (i / len : Nat) * step + (i % len : Nat)).toNat

/-- Streams that run or have run beside a descriptor: the channel's own source, other channels' shapes, the blitter's rectangles, and
those that have ended since it began. -/
def otherStreams (s : State) (ch : Nat) (d : DmaDesc) : List Shape :=
  d.shapes.take 1 ++ movingShapes s ch ++ (match s.blt with | some o => o.shapes | none => []) ++ (dmaCh s ch).met

/-- An address lies in another stream's footprint. -/
def inOtherStream (s : State) (ch : Nat) (d : DmaDesc) (a : Nat) : Bool := (otherStreams s ch d).any fun x => x.has a

/-- Byte `i` of the source stream: host memory's answers stand in `hd` from byte `from_` on. -/
def sourceByte (s : State) (d : DmaDesc) (from_ i : Nat) (hd : List Byte) : Byte :=
  let a := streamAddr d.src d.sLen d.sStep i
  if a < memBytes then Store.get memDefault s.mem a else hd.getD (i - from_) 0

/-- Bytes of the stream from `from_` to `upto` as they are written: a destination byte in another stream's footprint holds a value
that R340 leaves unspecified. -/
def streamBytes (s : State) (ch : Nat) (d : DmaDesc) (from_ upto : Nat) (hd : List Byte) : List Byte :=
  (List.range (upto - from_)).map fun j =>
    let i := from_ + j
    if inOtherStream s ch d (streamAddr d.dst d.dLen d.dStep i) then Config.freeByte (s.free + j)
    else sourceByte s d from_ i hd

/-- Write a piece of the stream by destination lines. -/
def writeStream (d : DmaDesc) : Nat → State → Nat → List Byte → State
  | 0, s, _, _ => s
  | fuel + 1, s, i, bs =>
    if bs.isEmpty then s
    else
      let n := d.dLen - i % d.dLen
      writeStream d fuel (devWrite s (streamAddr d.dst d.dLen d.dStep i) (bs.take n)) (i + n) (bs.drop n)

/-- Where a stream first meets host memory while bus mastering is off (R337): the line's start and its place in the stream. -/
def DmaDesc.blocked (s : State) (d : DmaDesc) : Option (Int × Nat) :=
  let first (base len : Nat) (step : Int) (lines : Nat) : Option (Int × Nat) :=
    ((lineStarts base step lines).zipIdx.find? fun e => decide ((hostBase : Int) ≤ e.1)).map fun e => (e.1, e.2 * len)
  if s.pcie.cfg.busMaster then none
  else match first d.src d.sLen d.sStep d.sLines, first d.dst d.dLen d.dStep d.dLines with
    | some x, some y => some (if y.2 < x.2 then y else x)
    | some x, none => some x
    | none, y => y

/-- How much of a stream can be issued. -/
def DmaDesc.reach (s : State) (d : DmaDesc) : Nat := match d.blocked s with | some x => x.2 | none => d.total

/-- Issue the stream's bytes up to `upto` as writes. -/
def moveTo (s : State) (ch : Nat) (d : DmaDesc) (upto : Nat) (hd : List Byte) : State :=
  let x := dmaCh s ch
  let upto := max x.moved (min (min (done s upto) d.total) (d.reach s))
  let bs := streamBytes s ch d x.moved upto hd
  let t := writeStream d (d.dLines + 1) { s with free := s.free + bs.length } x.moved bs
  let t := bump64 t (Reg.DC.BYTES_LO ch) (Reg.DC.BYTES_HI ch) bs.length
  let t := bump64 t Reg.DMA.BYTES_LO Reg.DMA.BYTES_HI bs.length
  let t := setDma t ch { dmaCh t ch with moved := upto }
  wr t (Reg.DC.RESIDUAL ch) (w32 (min 0xFFFFFF (d.total - upto)))

/-- A source byte not yet moved holds an uncorrectable error. -/
def sourcePoisoned (s : State) (ch : Nat) (d : DmaDesc) : Bool :=
  (lineStarts d.src d.sStep d.sLines).zipIdx.any fun e =>
    decide ((dmaCh s ch).moved < (e.2 + 1) * d.sLen) && decide (e.1 < (memBytes : Int)) && memPoisoned s e.1.toNat d.sLen

/-! ### Starting and stopping (R338, R344, R346) -/

/-- STATE of a channel: 0 IDLE, 1 RUNNING, 2 ERROR, 3 ABORTED. -/
def chState (s : State) (ch : Nat) : Nat := rdF s (Reg.DC.STATUS ch) 2 0

/-- Where the current descriptor lies. -/
def curDesc (s : State) (ch : Nat) : Nat := rd64 s (Reg.DC.CUR_DESC_LO ch) (Reg.DC.CUR_DESC_HI ch)

/-- A run may start. -/
def canStart (s : State) (ch : Nat) : Bool :=
  rdB s (Reg.DC.CH_CTRL ch) 0 && rdB s Reg.DMA.DMA_CTRL 0 && chState s ch == 0 && !safe s Page.DMA && !safe s (Page.DC ch)

/-- Start a run. -/
def startRun (s : State) (ch : Nat) : State :=
  let a := rdN s (Reg.DC.DESC_PTR_LO ch) + 2 ^ 32 * rdN s (Reg.DC.DESC_PTR_HI ch)
  let s := wr (wr (wr s (Reg.DC.HOP_COUNT ch) 0) (Reg.DC.RESIDUAL ch) 0) (Reg.DC.STATUS ch) 1
  let s := wr64 s (Reg.DC.CUR_DESC_LO ch) (Reg.DC.CUR_DESC_HI ch) a
  setDma s ch { dmaCh s ch with
    phase := .fetch, desc := none, ahead := none, moved := 0, error := false, since := fabClk s, tmos := [], late := [] }

/-- Record an error: its bit, and ERR_ADDR where it is the first. -/
def noteErr (s : State) (ch b addr : Nat) : State :=
  let first := rd s (Reg.DC.ERR ch) = 0
  let s := wrB s (Reg.DC.ERR ch) b true
  if first then wr64 s (Reg.DC.ERR_ADDR_LO ch) (Reg.DC.ERR_ADDR_HI ch) (addr % 2 ^ 64) else s

/-- The channel's stream has ended, where it was moving one. -/
def leaveStream (s : State) (ch : Nat) : State :=
  match (dmaCh s ch).phase, (dmaCh s ch).desc with
  | .move, some d => endStream s ch d.shapes
  | _, _ => s

/-- A running channel issues nothing more and drains. -/
def drain (s : State) (ch : Nat) (error : Bool) : State :=
  let s := leaveStream s ch
  setDma (wrB s (Reg.DC.STATUS ch) 3 true) ch { dmaCh s ch with phase := .drain, ahead := none, error := error }

/-- An error stops the run. -/
def failRun (s : State) (ch b addr : Nat) : State := drain (noteErr s ch b addr) ch true

/-- ABORT of a running channel, with `moved` bytes of the current descriptor issued. -/
def abortRun (s : State) (ch moved : Nat) (hd : List Byte) : State :=
  let x := dmaCh s ch
  if chState s ch ≠ 1 ∨ x.phase = .drain then s
  else
    let s := match x.phase, x.desc with
      | .move, some d => moveTo s ch d moved hd
      | _, _ => s
    drain s ch false

/-- A write of CH_CMD. -/
def writeChCmd (s : State) (ch : Nat) (v : Word) (moved : Nat) (hd : List Byte) : State :=
  let running := chState s ch == 1
  let t := if bit v 0 then (if canStart s ch then startRun s ch else bump s (Reg.DC.GO_IGNORED ch)) else s
  if bit v 1 && running then abortRun t ch moved hd else t

/-- A write of CH_CTRL: EN = 0 while RUNNING acts as ABORT. -/
def writeChCtrl (s : State) (ch : Nat) (v : Word) (moved : Nat) (hd : List Byte) : State :=
  let t := wr s (Reg.DC.CH_CTRL ch) (v &&& 0x1FF7)
  if bit v 0 then t else abortRun t ch moved hd

/-- R338: a write of CH_CMD with GO. -/
def execDmaGo (a : Agent) (ch : Nat) (v : Word) (s : State) : Host.Outcome State Fault Refusal :=
  live s (if ch < 16 then guarded s a (Reg.DC.CH_CMD ch) v .cmd (writeChCmd s ch v 0 []) else s)

/-- R338: the trigger line has pulsed. -/
def execDmaTrigger (ch : Nat) (s : State) : Host.Outcome State Fault Refusal :=
  let t := setDma s ch { dmaCh s ch with trig := false }
  wall s (if (dmaCh s ch).trig then (if canStart t ch then startRun t ch else bump t (Reg.DC.TRIG_MISSED ch)) else s)

/-- A descriptor becomes current, as its fetch ended. -/
def adopt (s : State) (ch : Nat) (res : FetchEnd) (d : Option DmaDesc) : State :=
  let a := curDesc s ch
  match res, d with
  | .ok, some d => setDma s ch { dmaCh s ch with phase := .check, desc := some d, ahead := none, moved := 0 }
  | .timeout, _ => failRun s ch 3 a
  | _, _ => if devAccessible s a then failRun s ch 6 a else failRun s ch 7 a

/-- BUS_TMO, in µs, as it applies to a request issued in FAB clock `at_`: the value last written before (R345). -/
def tmoAt (s : State) (ch at_ : Nat) : Nat :=
  match (dmaCh s ch).tmos with
  | [] => rdF s (Reg.DC.BUS_TMO ch) 15 0
  | x :: xs => ((xs.filter fun e => decide (e.1 < at_)).getLastD x).2

/-- A request issued in FAB clock `at_` has had no response within BUS_TMO: the clock of expiry, in which a response is still
accepted, has passed (R345). -/
def tmoPast (s : State) (ch at_ : Nat) : Bool := decide (at_ + 1600 * tmoAt s ch at_ < fabClk s)

/-- A write of BUS_TMO to `v` while the channel runs is noted: requests already issued keep the value before it (R345). -/
def noteTmo (s : State) (ch v : Nat) : State :=
  let x := dmaCh s ch
  if x.phase == .idle then s
  else
    let old := if x.tmos.isEmpty then [(0, rdF s (Reg.DC.BUS_TMO ch) 15 0)] else x.tmos
    setDma s ch { x with tmos := old ++ [(fabClk s, v)] }

/-- R341: a descriptor fetch ends: the one the channel waits for, or the next one while the current one runs. -/
def execDmaDescFetchDone (ch : Nat) (res : FetchEnd) (hd : List Byte) (s : State) : Host.Outcome State Fault Refusal :=
  let x := dmaCh s ch
  let take (a : Nat) : FetchEnd × Option DmaDesc :=
    if res == .timeout then (.timeout, none)
    else if !devAccessible s a || res == .error || (decide (a < memBytes) && memPoisoned s a 64) then (.error, none)
    else (.ok, some (dmaDescOf (devRead s a 64 hd)))
  let met (t : State) (a : Nat) : State := if res == .error && devAccessible s a then noteHostErr t a else t
  wall s (if res == .timeout && !tmoPast s ch x.since then s else match x.phase, x.desc with
    | .fetch, _ =>
      let f := take (curDesc s ch)
      adopt (met s (curDesc s ch)) ch f.1 f.2
    | .move, some d =>
      if d.last || x.ahead.isSome || rdF s (Reg.DC.HOP_COUNT ch) 15 0 == rdF s (Reg.DC.HOP_MAX ch) 15 0 then s
      else setDma (met s d.next) ch { x with ahead := some (take d.next) }
    | _, _ => s)

/-- R341: the descriptor that became current is checked. -/
def execDmaDescCheck (ch : Nat) (s : State) : Host.Outcome State Fault Refusal :=
  let x := dmaCh s ch
  wall s (match x.phase, x.desc with
    | .check, some d =>
      let t := wr s (Reg.DC.RESIDUAL ch) (w32 (min 0xFFFFFF d.total))
      if !d.formed then failRun t ch 5 (curDesc s ch)
      else match badLine s ch d with
        | some a => failRun t ch 7 (wrapTo 64 a)
        | none => setDma t ch { x with phase := .move, moved := 0, met := [], since := fabClk s }
    | _, _ => s)

/-- A descriptor is complete: the run ends, stops at HOP_MAX, or hops to NEXT (R342, R343). -/
def finishDesc (s : State) (ch : Nat) (d : DmaDesc) : State :=
  let s := leaveStream (if d.evt then pulse s (160 + ch) else s) ch
  let x := dmaCh s ch
  if d.last then
    let s := setDma (wr s (Reg.DC.STATUS ch) 0) ch { x with phase := .idle, ahead := none }
    bump (pulse s (144 + ch)) (Reg.DC.RUNS ch)
  else if rdF s (Reg.DC.HOP_COUNT ch) 15 0 = rdF s (Reg.DC.HOP_MAX ch) 15 0 then failRun s ch 4 d.next
  else
    let s := wrF s (Reg.DC.HOP_COUNT ch) 15 0 (rdF s (Reg.DC.HOP_COUNT ch) 15 0 + 1)
    let s := wr64 s (Reg.DC.CUR_DESC_LO ch) (Reg.DC.CUR_DESC_HI ch) d.next
    match x.ahead with
    | some f => adopt s ch f.1 f.2
    | none => setDma s ch { dmaCh s ch with phase := .fetch, desc := none, since := fabClk s }

/-- R342: every write of the current descriptor has its response. Where bus mastering has been switched off meanwhile, a line in host
memory is an address error (R337). -/
def execDmaDescComplete (ch : Nat) (hd : List Byte) (s : State) : Host.Outcome State Fault Refusal :=
  let x := dmaCh s ch
  wall s (match x.phase, x.desc with
    | .move, some d =>
      let t := moveTo s ch d d.total hd
      if sourcePoisoned s ch d then s
      else match d.blocked s with
        | some x => failRun (wr t (Reg.DC.RESIDUAL ch) (w32 (min 0xFFFFFF d.total))) ch 7 (wrapTo 64 x.1)
        | none => finishDesc t ch d
    | _, _ => s)

/-- ERR bit of a response that reports an error (R344). -/
def respBit (kind : RespKind) (residual : Nat) : Nat :=
  match kind with
  | .read => 0
  | .write => if residual = 0 then 2 else 1
  | .flush => 2

/-- What an error response is counted as besides the channel's own error: an uncorrectable word of device memory, or a host completion
with an error (R391, R392). -/
def meetResp (t : State) (kind : RespKind) (addr : Nat) : State :=
  if kind == .read && decide (addr < memBytes) then (readWord32 t (addr / 32 * 32) .uncorrectable).2
  else if kind != .write then noteHostErr t addr else t

/-- R344: a response reports an error, with `moved` bytes of the current descriptor issued. The late response of a request that has
timed out is discarded (R345). -/
def execDmaResponseError (ch : Nat) (kind : RespKind) (addr moved : Nat) (hd : List Byte) (s : State) :
    Host.Outcome State Fault Refusal :=
  let x := dmaCh s ch
  wall s (if x.late.contains addr then setDma s ch { x with late := x.late.erase addr } else match x.phase, x.desc with
    | .move, some d =>
      let t := meetResp (moveTo s ch d moved hd) kind addr
      failRun t ch (respBit kind (d.total - (dmaCh t ch).moved)) addr
    | .drain, some d => noteErr (meetResp s kind addr) ch (respBit kind (d.total - x.moved)) addr
    | _, _ => s)

/-- R345: the request for `addr`, issued in FAB clock `issued`, has had no response within BUS_TMO. -/
def execDmaTimeout (ch addr moved : Nat) (hd : List Byte) (s : State) (issued : Nat := 0) : Host.Outcome State Fault Refusal :=
  let x := dmaCh s ch
  let late (t : State) : State := setDma t ch { dmaCh t ch with late := (dmaCh t ch).late ++ [addr] }
  wall s (if issued < x.since ∨ !tmoPast s ch issued then s else match x.phase, x.desc with
    | .move, some d => late (failRun (moveTo s ch d moved hd) ch 3 addr)
    | .drain, _ => late (noteErr s ch 3 addr)
    | _, _ => s)

/-- R344, R346: the answers owed to a stopped channel have come or timed out. -/
def execDmaDrainDone (ch : Nat) (s : State) : Host.Outcome State Fault Refusal :=
  let x := dmaCh s ch
  let t := setDma (wr s (Reg.DC.STATUS ch) (if x.error then 2 else 3)) ch { x with phase := .idle }
  wall s (if x.phase == .drain then (if x.error then raiseE t (Page.DC ch) 0 else t) else s)

/-- R346: a write of CH_CMD with ABORT, or of CH_CTRL with EN = 0 (`ctrl`). -/
def execDmaAbort (a : Agent) (ch : Nat) (ctrl : Bool) (v : Word) (moved : Nat) (hd : List Byte) (s : State) :
    Host.Outcome State Fault Refusal :=
  live s (if ch < 16 then
      (if ctrl then guarded s a (Reg.DC.CH_CTRL ch) v .cfg (writeChCtrl s ch v moved hd)
       else guarded s a (Reg.DC.CH_CMD ch) v .cmd (writeChCmd s ch v moved hd))
    else s)

/-- A write of ERR (R338): a stopped channel whose every set bit is written as 1 returns to IDLE. -/
def writeDmaErr (s : State) (ch : Nat) (v : Word) : State :=
  let left := rd s (Reg.DC.ERR ch) &&& ~~~v
  let s := wr s (Reg.DC.ERR ch) left
  if left = 0 ∧ (chState s ch = 2 ∨ chState s ch = 3) then wr s (Reg.DC.STATUS ch) 0 else s

/-- R338: a write of ERR. -/
def execDmaErrClear (a : Agent) (ch : Nat) (v : Word) (s : State) : Host.Outcome State Fault Refusal :=
  live s (if ch < 16 then guarded s a (Reg.DC.ERR ch) v .open (writeDmaErr s ch v) else s)

/-- The stop of a channel under DMA's or its own page's safe action (R388). -/
def stopChannel (s : State) (ch : Nat) : State := abortRun s ch (dmaCh s ch).moved []

end Sys2Proof.Machine
end

