-- ==== Sys2Proof/Machine/Calib.lean ====
section
/-! DEFINITION. Cell calibration (R164 to R182): contexts returned, the second copy, CAL_CTRL, flips and the scrubber. -/

namespace Sys2Proof.Machine

/-! ### Judging contexts (R165, R174, R175) -/

/-- LAST_FAIL's value for a failure. -/
def failWord (cell copy : Nat) (crc : Bool) (bank : Nat) (scrub : Bool) : Word :=
  w32 (2 ^ 31 + (cell % 2 ^ 20 + 2 ^ 20 * copy + 2 ^ 21 * crc.toNat + 2 ^ 22 * bank + 2 ^ 23 * scrub.toNat))

/-- A context failed in a copy on a display read: counted, recorded, reported. -/
def noteCopyFail (s : State) (cell copy : Nat) (crc : Bool) (bank : Nat) : State :=
  let s := bump s (if copy = 1 then Reg.CAL.COPY1_FAIL else Reg.CAL.COPY0_FAIL)
  raiseE (wr s Reg.CAL.LAST_FAIL (failWord cell copy crc bank false)) Page.CAL 1

/-- Base of a copy in a slot. -/
def PhaseCtx.copyBase (c : PhaseCtx) (copy : Nat) : Nat := if copy = 1 then c.base1 else c.base0

/-- In-canvas cells of the units of a context request (R166): each unit of 64 bytes holds two contexts. -/
def requestCells (c : PhaseCtx) (copy : Nat) (r : FetchReq) : List Nat :=
  let bandBase := ctxAddr (c.copyBase copy) (1024 * r.b) (ctxBank c.sel (1024 * r.b))
  r.units.flatMap fun u =>
    ([0, 1].map fun i => (r.addr + 64 * u + 32 * i - bandBase) / 32).filterMap fun cx =>
      if cx < c.wc / 16 then some (cellIndex cx r.b) else none

/-- A cell's context is settled for the slot. -/
def holdCtx (s : State) (k n cell : Nat) (x : Option (List Byte)) : State :=
  { s with cal := { s.cal with ctxs := s.cal.ctxs ++ [⟨k, n, cell, x, coreClk s⟩] } }

/-- Judge one context of a returned granule. A primary pass is used; a failure waits for the re-read; a re-read settles what is
not yet settled. -/
def judgeCtx (c : PhaseCtx) (copy : Nat) (r : FetchReq) (s : State) (cell : Nat) : State :=
  let bank := ctxBank c.sel cell
  let x := Store.slice zeroB r.data (ctxAddr (c.copyBase copy) cell bank) 32
  let bad := !r.poison.isEmpty
  let fails := bad || !ctxPasses x cell
  let s := if fails then noteCopyFail s cell copy (!bad) bank else s
  if (heldCtx s c.k c.n cell).isSome then s
  else if !fails then holdCtx s c.k c.n cell (some x)
  else if copy = c.primary then s
  else raiseE (bump (holdCtx s c.k c.n cell none) Reg.CAL.BOTH_FAIL) Page.CAL 2

/-- The whole granule again from the other copy, same bank and same deadline tag (R174). -/
def reread (c : PhaseCtx) (s : State) (r : FetchReq) : State :=
  let other := 1 - c.primary
  let q : FetchReq := { r with
    id := s.fab.next, kind := .context other, addr := r.addr + c.copyBase other - c.copyBase c.primary
    granted := [], data := [], poison := [], at_ := fabClk s }
  { s with fab := { s.fab with reqs := s.fab.reqs ++ [q], next := s.fab.next + 1 } }

/-- A complete context request is judged; one whose band is late is discarded (R105). -/
def judgeGranule (s : State) (r : FetchReq) (copy : Nat) : State :=
  let s := { s with fab := { s.fab with reqs := s.fab.reqs.erase r } }
  match findCtx s r.k r.n with
  | none => s
  | some c =>
    if r.discard then s
    else
      let cells := requestCells c copy r
      let t := cells.foldl (judgeCtx c copy r) s
      let open_ := cells.any fun i => (heldCtx t c.k c.n i).isNone
      if copy == c.primary && open_ then reread c t r else t

/-- R174: all transfers of a context request have been granted. -/
def execContextGranuleReturn (id : Nat) (s : State) : Host.Outcome State Fault Refusal :=
  wall s (match s.fab.reqs.find? fun r => r.id == id with
    | some r =>
      match r.kind with
      | .context copy => if r.granted.length = r.units.length then judgeGranule s r copy else s
      | _ => s
    | none => s)

/-! ### CAL_CTRL and flips (R169, R173, R178, R180) -/

/-- σ of a base (R173). -/
def stackTerm (b : Nat) : Nat := (nfld b 36 36 ^^^ nfld b 35 35) * 2 + nfld b 34 34

/-- Why a write of EN = 1 is refused (R173, R182); 0: accepted. -/
def calRefusal (s : State) : Nat :=
  let a := rd64 s Reg.CAL.COPY0_BASE_LO Reg.CAL.COPY0_BASE_HI
  let b := rd64 s Reg.CAL.COPY1_BASE_LO Reg.CAL.COPY1_BASE_HI
  if memBytes < a + 0x4000000 ∨ memBytes < b + 0x4000000 then 1
  else if stackTerm a = stackTerm b then 2 else 0

/-- A write of CAL_CTRL takes effect: EN = 1 is checked, and refused it reads back 0 with the cause in REFUSE. -/
def writeCalCtrl (s : State) (v : Word) : State :=
  let v := v &&& 0x1F
  if bit v 0 then
    let why := calRefusal s
    let s := wr (wrF s Reg.CAL.CAL_STATUS 3 1 why) Reg.CAL.CAL_CTRL (if why = 0 then v else setBit v 0 false)
    if why = 0 then s else raiseE s Page.CAL 0
  else wr s Reg.CAL.CAL_CTRL v

/-- R173: a write of CAL_CTRL. -/
def execCalEnable (a : Agent) (v : Word) (s : State) : Host.Outcome State Fault Refusal :=
  live s (guarded s a Reg.CAL.CAL_CTRL v .cfg (writeCalCtrl s v))

/-- FLIP_STATUS.PENDING: a captured flip, this device's or a mirrored one, has not been applied (R178, R310). -/
def flipPending (s : State) : Bool :=
  s.cal.flip.isSome || s.twn.ops.any fun o => match o.op with | .flip _ => true | _ => false

/-- FLIP.GO (R178): in a pair the flip is mirrored with its effective instant (R309). -/
def goFlip (s : State) : State :=
  let sel := rd64 s Reg.CAL.SEL_NEXT_LO Reg.CAL.SEL_NEXT_HI
  if flipPending s then bump s Reg.CAL.FLIP_IGNORED
  else if twnOn s then captureOp s 6 (.flip sel) (beBytes 8 sel)
  else { s with cal := { s.cal with flip := some sel } }

/-- R178: a write of FLIP. -/
def execFlipGo (a : Agent) (v : Word) (s : State) : Host.Outcome State Fault Refusal :=
  live s (guarded s a Reg.CAL.FLIP v .cmd (if bit v 0 then goFlip s else s))

/-! ### The scrubber (R176) -/

/-- The scrubber's read of a context in a copy: one best-effort transfer; its bytes, and whether it fails by memory error or CRC. -/
def scrubRead (s : State) (a cell : Nat) (e : Ecc) : State × List Byte × Bool × Bool :=
  let r := readWord32 (bump64 (countTransfer s a false) Reg.FAB.BE_GRANTS_LO Reg.FAB.BE_GRANTS_HI 1) a e
  let x := memRead r.2 a 32
  (r.2, x, r.1, !r.1 && !ctxPasses x cell)

/-- The scrubber's repair write. -/
def scrubWrite (s : State) (a : Nat) (x : List Byte) : State :=
  bump (memWrite (bump64 (countTransfer s a true) Reg.FAB.BE_GRANTS_LO Reg.FAB.BE_GRANTS_HI 1) a x) Reg.CAL.SCRUB_REPAIR

/-- The cell after `cell` in the canvas's cell order; none after the last one. -/
def nextCell (wc bands cell : Nat) : Option Nat :=
  if cell % 1024 + 1 < wc / 16 then some (cell + 1)
  else if cell / 1024 + 1 < bands then some ((cell / 1024 + 1) * 1024) else none

/-- What the scrubber makes of a cell's two copies at `a0` and `a1`, each bad or good: nothing, a repair, or a loss. -/
def scrubSettle (s : State) (a0 a1 : Nat) (x0 x1 : List Byte) (bad0 bad1 : Bool) (lost : Word) : State :=
  match bad0, bad1 with
  | false, false => if x0 == x1 then s else raiseE (bump s Reg.CAL.SCRUB_MISMATCH) Page.CAL 4
  | false, true => scrubWrite s a1 x0
  | true, false => scrubWrite s a0 x1
  | true, true => raiseE (wr (bump s Reg.CAL.SCRUB_LOST) Reg.CAL.LAST_FAIL lost) Page.CAL 3

/-- The scrubber goes on to a cell; none: the canvas ends and a pass counts. -/
def scrubNext (s : State) : Option Nat → State
  | some i => { s with cal := { s.cal with scrub := i } }
  | none => bump { s with cal := { s.cal with scrub := 0 } } Reg.CAL.SCRUB_PASSES

/-- Compare both copies of the next context and act as the table says. -/
def scrubCell (s : State) (ecc0 ecc1 : Ecc) : State :=
  let wc := 16 * rdF s Reg.DLS.CANVAS 10 0
  let bands := rdF s Reg.DLS.CANVAS 26 16
  let cell := if s.cal.scrub % 1024 < wc / 16 ∧ s.cal.scrub / 1024 < bands then s.cal.scrub else 0
  let bank := ctxBank (rd64 s Reg.CAL.SEL_ACTIVE_LO Reg.CAL.SEL_ACTIVE_HI) cell
  let a0 := ctxAddr (rd64 s Reg.CAL.COPY0_BASE_LO Reg.CAL.COPY0_BASE_HI) cell bank
  let a1 := ctxAddr (rd64 s Reg.CAL.COPY1_BASE_LO Reg.CAL.COPY1_BASE_HI) cell bank
  let r0 := scrubRead s a0 cell ecc0
  let r1 := scrubRead r0.1 a1 cell ecc1
  scrubNext (scrubSettle r1.1 a0 a1 r0.2.1 r1.2.1 (r0.2.2.1 || r0.2.2.2) (r1.2.2.1 || r1.2.2.2) (failWord cell 1 r1.2.2.2 bank true))
    (nextCell wc bands cell)

/-- R176: the scrubber reads both copies of the next context; it rests under CAL's safe action. -/
def execScrubCheck (ecc0 ecc1 : Ecc) (s : State) : Host.Outcome State Fault Refusal :=
  wall s (if rdB s Reg.CAL.CAL_CTRL 0 && rdB s Reg.CAL.CAL_CTRL 1 && !safe s Page.CAL then scrubCell s ecc0 ecc1 else s)

end Sys2Proof.Machine
end

