-- ==== Sys2Proof/Machine/Twin.lean ====
section
/-! DEFINITION. The redundant pair (R301 to R320): records, agreement, states, HEALTH, yielding and time between the partners. -/

namespace Sys2Proof.Machine

/-! ### Status (R314, R318, R326) -/

/-- PEER_TMO in µs. -/
def peerTmo (s : State) : Nat := rdF s Reg.TWN.PEER_TMO 16 0

/-- JOIN_PHASES. -/
def joinPhases (s : State) : Nat := rdF s Reg.TWN.JOIN_PHASES 7 0

/-- PEER_OFS as a signed number of 1/16 ns. -/
def peerOfs (s : State) : Int := toSigned 32 (rdN s Reg.TWN.PEER_OFS)

/-- The last slot whose window close has passed was yielded. -/
def yielding (s : State) : Bool :=
  match s.dls.ctxs.find? fun c => reached s c.close with
  | some c => s.twn.yielded.contains (c.k, c.n)
  | none => false

/-- TWN_STATUS: LINK0, LINK1, YIELDING, DELAY_SHORT and OFS_HIGH follow what they name. -/
def twnStatus (s : State) : Word :=
  let w := rd s Reg.TWN.TWN_STATUS
  let w := setBit (setBit w 3 s.twn.link0) 4 s.twn.link1
  let w := setBit w 14 (yielding s)
  let w := setBit w 15 (decide (16 * mirrorDelay s < rdN s Reg.TWN.PEER_DLY + 160000))
  setBit w 16 (decide (16 * rdF s Reg.TWN.OFS_MAX 15 0 < (peerOfs s).natAbs))

/-- Set STATE. -/
def setTwnState (s : State) (st : Nat) : State := wrF s Reg.TWN.TWN_STATUS 2 0 st

/-- Leave JOINING or PAIRED: what belongs to them is forgotten. -/
def forgetPair (s : State) : State :=
  { s with twn := { s.twn with count := 0, joinAt := none, pairFrom := none, joiner := false } }

/-- The counter is at or past an instant in ns. -/
def came (s : State) (ns : Nat) : Bool := reached s ((ns : Int) * 1000)

/-- Enter SOLO. -/
def goSolo (s : State) : State := setTwnState (forgetPair s) 4

/-- Enter JOINING. -/
def goJoining (s : State) : State := setTwnState (forgetPair s) 2

/-- DIVERGE sets or clears, with IMPAIRED and IMP_CAUSE (R318). -/
def setDiverge (s : State) (v : Bool) : State :=
  let s := wrB { s with twn := { s.twn with diverge := v, equal := 0 } } Reg.TWN.TWN_STATUS 13 v
  wrB s Reg.TWN.TWN_STATUS 9 (rdF s Reg.TWN.TWN_STATUS 13 10 ≠ 0)

/-- IMP_CAUSE of slot (k, n) (R318). -/
def impCauses (s : State) (k n : Nat) : Nat :=
  let c := ctxOf s k n
  c.stale.toNat + 2 * (!c.lost.isEmpty).toNat + 4 * (c.parity || impairing s).toNat + 8 * s.twn.diverge.toNat

/-! ### TWN_CTRL and the links -/

/-- Mirrored operations and fences whose E has not passed are abandoned (R326). -/
def abandonMirrored (s : State) : State :=
  let t := s.twn
  { s with twn := { t with
    ops := t.ops.filter fun o => came s o.e, ownF := t.ownF.filter fun f => came s f.e
    peerF := t.peerF.filter fun f => came s f.e, ready := t.ready.filter fun e => came s e.2.2.2 } }

/-- A write of TWN_CTRL takes effect: EN set enters SEARCH, EN cleared enters OFF, abandons what is mirrored and has not taken effect,
and clears ROLE_CLASH. -/
def writeTwnCtrl (s : State) (v : Word) : State :=
  let on := twnOn s
  let s := wr s Reg.TWN.TWN_CTRL (v &&& 3)
  if bit v 0 && !on then
    setTwnState { forgetPair s with twn := { (forgetPair s).twn with
      searchAt := s.time.uptime, heardAny := false, heardRun := false }, time := { s.time with twn := max s.time.twn (nowNs s) } } 1
  else if !bit v 0 && on then
    wrB (wrB (setTwnState (forgetPair (abandonMirrored s)) 0) Reg.TWN.TWN_STATUS 17 false) Reg.TWN.TWN_STATUS 5 false
  else s

/-- R301, R314: a write of TWN_CTRL with EN = 1. -/
def execTwinEnable (a : Agent) (v : Word) (s : State) : Host.Outcome State Fault Refusal :=
  live s (guarded s a Reg.TWN.TWN_CTRL v .cfg (writeTwnCtrl s v))

/-- R302, R314: a write of TWN_CTRL with EN = 0. -/
def execTwinDisable (a : Agent) (v : Word) (s : State) : Host.Outcome State Fault Refusal :=
  live s (guarded s a Reg.TWN.TWN_CTRL v .cfg (writeTwnCtrl s v))

/-- R315: block lock of a twin link changes; there is none in STANDBY (R435). -/
def execTwinLinkChange (l : Nat) (up : Bool) (s : State) : Host.Outcome State Fault Refusal :=
  let up := up && serdesOn s
  live s (match l with
    | 0 => { s with twn := { s.twn with link0 := up } }
    | 1 => { s with twn := { s.twn with link1 := up } }
    | _ => s)

/-! ### Digests and CRCs (R307) -/

/-- A descriptor as stored, 128 bytes little-endian. -/
def descBytes (d : List Word) : List Byte := d.flatMap fun w => leBytes 4 w.toNat

/-- Members of a request in ascending slot order. -/
def memberSlots (s : State) (mask : Word) : List Nat := (List.range 128).filter fun l => bit mask (dGroup (stagedDesc s l))

/-- DIGEST of a request's members. -/
def digestOf (s : State) (mask : Word) : Word :=
  w32 (crc32 ((memberSlots s mask).flatMap fun l => BitVec.ofNat 8 l :: descBytes (stagedDesc s l)))

/-- ACT_CRC. -/
def actCrc (s : State) : Word := w32 (crc32 ((List.range 128).flatMap fun l => descBytes (activeDesc s l)))

/-- AWN_CRC. -/
def awnCrc (s : State) : Word :=
  let part (p : Option Place) : List Byte := match p with | some x => padTo 48 x.raw | none => List.replicate 48 0
  w32 (crc32 ((List.range 8).flatMap fun i => part (awning s i).p1 ++ part (awning s i).p2))

/-- CAL_CRC. -/
def calCrc (s : State) : Word :=
  w32 (crc32 (leBytes 8 (rd64 s Reg.CAL.SEL_ACTIVE_LO Reg.CAL.SEL_ACTIVE_HI) ++ leBytes 4 (rdN s Reg.CAL.CAL_CTRL)))

/-! ### Record fields (R306, R307) -/

/-- TYPE. -/
def recType (r : List Byte) : Nat := beAt r 0 1 % 16

/-- ORIGIN: true for device B. -/
def recOrigin (r : List Byte) : Bool := (beAt r 1 1).testBit 0

/-- RSEQ. -/
def recSeq (r : List Byte) : Nat := beAt r 4 4

/-- An instant of seconds and nanoseconds at a byte offset, in ns. -/
def recInstant (r : List Byte) (o : Nat) : Nat := beAt r o 6 * 1000000000 + beAt r (o + 6) 4

/-- E in ns. -/
def recE (r : List Byte) : Nat := recInstant r 8

/-- LEN of a record type, none for a reserved one. -/
def recLen (type : Nat) : Option Nat :=
  match type with
  | 1 => some 52 | 2 => some 52 | 3 => some 28 | 4 => some 24 | 5 => some 32 | 6 => some 28 | 7 => some 72 | 8 => some 40
  | _ => none

/-- VER, TYPE and LEN are good (R308). -/
def recFormed (r : List Byte) : Bool :=
  beAt r 0 1 / 16 == 1 &&
    match recLen (recType r) with
    | some n => beAt r 2 2 == n && decide (n ≤ r.length)
    | none => false

/-- The deadline of a record in ns (R308); none: it has no deadline. -/
def recDeadline (s : State) (r : List Byte) : Option Nat :=
  match recType r with
  | 1 => none
  | 2 => none
  | 5 => some (recE r + mirrorDelay s)
  | _ => some (recE r)

/-- The clock now is after the one that reached an instant in ns. -/
def past (s : State) (ns : Nat) : Bool := decide (ns * 2 ^ 32 + increment s ≤ s.time.count)

/-! ### HEALTH (R314, R316 to R318) -/

/-- PSEQ of the slot before. -/
def pseqBefore (s : State) (p : Nat) : Nat :=
  if p % 8 = 0 then (p / 8 + 2 ^ 29 - 1) % 2 ^ 29 * 8 + (nph s - 1) else p - 1

/-- Both devices' HEALTH for a phase. -/
def healthPair (s : State) (p : Nat) : Option (Health × Health) :=
  match s.twn.ownH.find? (fun h => h.pseq == p), s.twn.peerH.find? (fun h => h.pseq == p) with
  | some o, some h => some (o, h)
  | _, _ => none

/-- CRCs of two HEALTH records are equal. -/
def Health.same (a b : Health) : Bool := a.act == b.act && a.awn == b.awn && a.cal == b.cal

/-- A phase's pair of HEALTH records is complete: the joining count, and DIVERGE. -/
def judgePair (s : State) (p : Nat) : State :=
  match healthPair s p with
  | none => s
  | some (o, h) =>
    let same := o.same h
    let run := (healthPair s (pseqBefore s p)).isSome
    let s :=
      if twnState s = 2 then
        { s with twn := { s.twn with count := if same && o.fence && h.fence then (if run then s.twn.count else 0) + 1 else 0 } }
      else s
    if !same then (if twnState s = 3 then setDiverge s true else { s with twn := { s.twn with equal := 0 } })
    else
      let n := (if run then s.twn.equal else 0) + 1
      if s.twn.diverge && decide (joinPhases s ≤ n) then setDiverge s false else { s with twn := { s.twn with equal := n } }

/-- STATE follows the partner's (R314). -/
def meetPeer (s : State) (peer : Nat) : State :=
  let b := twnRole s
  match twnState s with
  | 1 => if peer = 3 ∨ peer = 4 then goJoining { s with twn := { s.twn with heardRun := true } } else s
  | 2 => if peer = 1 ∨ (!b ∧ peer = 2) then goSolo s else s
  | 3 => if peer = 1 ∨ peer = 2 then goSolo s else s
  | 4 => if peer = 3 ∨ (b ∧ peer = 4) then goJoining s else s
  | _ => s

/-- A HEALTH record is used. -/
def takeHealth (s : State) (r : List Byte) : State :=
  let f := beAt r 24 1
  let g := beAt r 25 1
  let h : Health := ⟨beAt r 20 4, w32 (beAt r 28 4), w32 (beAt r 32 4), w32 (beAt r 36 4), g.testBit 2⟩
  let s := wr (wr (wr s Reg.TWN.PEER_ACT_CRC h.act) Reg.TWN.PEER_AWN_CRC h.awn) Reg.TWN.PEER_CAL_CRC h.cal
  let s := wrF s Reg.TWN.TWN_STATUS 8 6 (f % 8)
  let s := { s with twn := { s.twn with
    peerH := (h :: s.twn.peerH).take 32
    peerImp := ((h.pseq, f % 8 == 3 && !f.testBit 3) :: s.twn.peerImp).take 32 } }
  let s := meetPeer s (f % 8)
  let s := if g.testBit 3 && twnState s == 4 then { s with twn := { s.twn with joinAt := some (recInstant r 40) } } else s
  judgePair s h.pseq

/-! ### TIME (R320) -/

/-- A TIME record is used: PEER_OFS and PEER_DLY, in 1/16 ns. -/
def takeTime (s : State) (r : List Byte) : State :=
  let t3 : Int := recInstant r 20
  let e1 : Int := recInstant r 30
  let e2 : Int := recInstant r 40
  let t4 : Int := nowNs s
  let ofs := clampI (-2147483648) 2147483647 (8 * ((e2 - e1) - (t4 - t3)))
  let dly := clampI 0 4294967295 (8 * ((e2 - e1) + (t4 - t3)))
  let s := wr (wr s Reg.TWN.PEER_OFS (w32i ofs)) Reg.TWN.PEER_DLY (w32i dly)
  { s with twn := { s.twn with echo := some (recInstant r 20, nowNs s) } }

/-! ### Receipt (R302, R304, R308) -/

/-- An accepted record on time takes effect, by its type. -/
def useRecord (s : State) (r : List Byte) : State :=
  let o := recOrigin r
  let pend (op : MirOp) : State := addOp s ⟨o, recSeq r, recE r, op, none, none⟩
  match recType r with
  | 1 => takeHealth s r
  | 2 => takeTime s r
  | 3 => pend (.commit (w32 (beAt r 20 4)) (w32 (beAt r 24 1 % 16)))
  | 4 => pend (.cancel (w32 (beAt r 20 4)))
  | 5 =>
    let of_ := (beAt r 20 1).testBit 0
    let hit (p : MirPend) : Bool := p.origin == of_ && p.rseq == beAt r 24 4 && (match p.op with | .commit _ _ => true | _ => false)
    { s with twn := { s.twn with
      ops := replaceFirst hit (fun p => { p with peer := some (w32 (beAt r 28 4)) }) s.twn.ops } }
  | 6 => pend (.flip (beAt r 20 8))
  | 7 => pend (.place (w32 (beAt r 20 4)) (bytesAt r 24 48))
  | 8 =>
    let f := beAt r 21 1
    addPeerFence s ⟨beAt r 20 1 % 64, f.testBit 1, w32 (beAt r 24 4), recInstant r 28, recE r, f.testBit 0, 0, 0, false⟩
  | _ => s

/-- The window of RSEQ values of an origin. -/
def seqWindow (s : State) (origin : Bool) : List Nat := if origin then s.twn.winB else s.twn.winA

/-- An accepted record: it enters its origin's window of 1024, and the partner is alive. -/
def noteRecord (s : State) (r : List Byte) : State :=
  let w := (recSeq r :: seqWindow s (recOrigin r)).take 1024
  let t := { s.twn with lastRec := s.time.uptime }
  wrB { s with twn := if recOrigin r then { t with winB := w } else { t with winA := w } } Reg.TWN.TWN_STATUS 5 true

/-- A record received on link `l`: counted, then malformed, own, duplicate, late, or used. -/
def receiveRecord (l : Nat) (r : List Byte) (s : State) : State :=
  let s := bump { s with twn := { s.twn with heardAny := true } } (if l = 0 then Reg.TWN.REC_RX0 else Reg.TWN.REC_RX1)
  if !recFormed r then bump s Reg.TWN.REC_BAD
  else if recOrigin r == twnRole s then wrB (bump s Reg.TWN.REC_BAD) Reg.TWN.TWN_STATUS 17 true
  else if (seqWindow s (recOrigin r)).contains (recSeq r) then s
  else
    let s := noteRecord s r
    let late := match recDeadline s r with | some d => past s d | none => false
    if late then raiseE (setDiverge (bump s Reg.TWN.LATE_REC) true) Page.TWN 6 else useRecord s r

/-- A record can arrive on link `l`: the device takes part in a pair and the link is locked. -/
def linkHears (s : State) (l : Nat) : Bool := twnOn s && ((l == 0 && s.twn.link0) || (l == 1 && s.twn.link1))

/-- A record whose TYPE is the row's own arrives on link `l`. -/
def typedRecord (type l : Nat) (r : List Byte) (s : State) : State :=
  if linkHears s l && recType r == type then receiveRecord l r s else s

/-- R307, R316: a HEALTH record. -/
def execHealthRecord (l : Nat) (r : List Byte) (s : State) : Host.Outcome State Fault Refusal := live s (typedRecord 1 l r s)

/-- R320: a TIME record. -/
def execTimeRecord (l : Nat) (r : List Byte) (s : State) : Host.Outcome State Fault Refusal := live s (typedRecord 2 l r s)

/-- R311: a COMMIT record. -/
def execCommitRecord (l : Nat) (r : List Byte) (s : State) : Host.Outcome State Fault Refusal := live s (typedRecord 3 l r s)

/-- R310: a CANCEL record. -/
def execCancelRecord (l : Nat) (r : List Byte) (s : State) : Host.Outcome State Fault Refusal := live s (typedRecord 4 l r s)

/-- R311: a DIGEST record. -/
def execDigestRecord (l : Nat) (r : List Byte) (s : State) : Host.Outcome State Fault Refusal := live s (typedRecord 5 l r s)

/-- R310: a FLIP record. -/
def execFlipRecord (l : Nat) (r : List Byte) (s : State) : Host.Outcome State Fault Refusal := live s (typedRecord 6 l r s)

/-- R312: a PLACE record. -/
def execPlaceRecord (l : Nat) (r : List Byte) (s : State) : Host.Outcome State Fault Refusal := live s (typedRecord 7 l r s)

/-- R313: a FENCE record. -/
def execFenceRecord (l : Nat) (r : List Byte) (s : State) : Host.Outcome State Fault Refusal := live s (typedRecord 8 l r s)

/-- R308: a record with a wrong VER, TYPE or LEN. -/
def execMalformedRecord (l : Nat) (r : List Byte) (s : State) : Host.Outcome State Fault Refusal :=
  live s (if linkHears s l && !recFormed r then receiveRecord l r s else s)

/-! ### Mirrored operations take effect (R310 to R313) -/

/-- R311 step 1: at E the digest is computed from the staged bank and sent. -/
def execDigestSend (s : State) : Host.Outcome State Fault Refusal :=
  let due (o : MirPend) : Bool := o.own.isNone && came s o.e && (match o.op with | .commit _ _ => true | _ => false)
  wall s (match s.twn.ops.find? due with
    | some o =>
      let mask : Word := match o.op with | .commit m _ => m | _ => 0
      let d := digestOf s mask
      let t := { s with twn := { s.twn with ops := replaceFirst due (fun p => { p with own := some d }) s.twn.ops } }
      mirrorRecord t 5 o.e (beBytes 1 o.origin.toNat ++ [0, 0, 0] ++ beBytes 4 o.rseq ++ beBytes 4 d.toNat)
    | none => s)

/-- Why a request is refused at A2: 1 digests differ, 2 the partner's is absent; 0: it enters (R311). -/
def agreeRefusal (s : State) (o : MirPend) : Nat :=
  let st := twnState s
  if twnClash s || !(st == 2 || st == 3) then 0
  else match o.peer with
    | some d => if o.own = some d then 0 else 1
    | none => if st = 3 then 2 else 0

/-- R311 step 2: at A2 the digests are compared. -/
def compareDigest (s : State) (o : MirPend) (mask ctrl : Word) : State :=
  let why := agreeRefusal s o
  if why = 0 then enterCommit s mask ctrl true (o.e + mirrorDelay s + rdF s Reg.TWN.CHECK_ALLOW 12 0 * 1000)
  else
    let s := bump s Reg.TWN.AGREE_REFUSED
    let s := wr s Reg.TWN.AGREE_INFO (w32 (2 ^ 31 + (o.origin.toNat + 16 * why + 256 * (o.rseq % 65536))))
    if why = 2 then setDiverge s true else s

/-- R311: A2 = E + MIRROR_DELAY of the first commit that waits for it. -/
def execDigestCompare (s : State) : Host.Outcome State Fault Refusal :=
  let due (o : MirPend) : Bool :=
    o.own.isSome && came s (o.e + mirrorDelay s) && (match o.op with | .commit _ _ => true | _ => false)
  wall s (match s.twn.ops.find? due with
    | some o =>
      let t := { s with twn := { s.twn with ops := s.twn.ops.erase o } }
      match o.op with
      | .commit mask ctrl => compareDigest t o mask ctrl
      | _ => s
    | none => s)

/-- R310: cancels whose E has come take effect. -/
def execMirroredCancelApply (s : State) : Host.Outcome State Fault Refusal := wall s (settleCancels s (nowPs s))

/-- R312: placements whose E has come are recorded. -/
def execPlaceApply (s : State) : Host.Outcome State Fault Refusal := wall s (settlePlaces s (nowPs s))

/-- R313: the pair-ready instant of the first match that waits for it. -/
def execFencePairReady (s : State) : Host.Outcome State Fault Refusal :=
  wall s (match s.twn.ready.find? fun e => came s e.2.2.2 with
    | some e => makePaired { s with twn := { s.twn with ready := s.twn.ready.erase e } } e
    | none => s)

/-! ### HEALTH and TIME sent (R317, R320) -/

/-- The nominal instant of a slot's HEALTH in ps: WC(n) − HEALTH_LEAD. -/
def healthAt (s : State) (c : PhaseCtx) : Int := c.close - (rdF s Reg.TWN.HEALTH_LEAD 8 0 : Int) * 1000000

/-- FENCE_MATCH: every fence published in the slot for a stream that an enabled layer reads was matched. -/
def fenceMatch (s : State) : Bool :=
  let read (st : Nat) : Bool := (List.range 128).any fun l =>
    dEn (activeDesc s l) && dKind (activeDesc s l) && dStream (activeDesc s l) == st
  s.twn.slotF.all fun f => f.matched || !read f.stream

/-- Send the HEALTH record of a slot. -/
def sendHealth (s : State) (c : PhaseCtx) : State :=
  let at_ := (healthAt s c / 1000).toNat
  let s := settlePlaces s (healthAt s c)
  let p := pseq c.k c.n
  let h : Health := ⟨p, actCrc s, awnCrc s, calCrc s, fenceMatch s⟩
  let imp := impCauses s c.k c.n
  let ready := twnState s == 2 && s.twn.joinAt.isNone && decide (joinPhases s ≤ s.twn.count)
  let join := at_ + 2 * mirrorDelay s
  let sync := rd s Reg.TIM.SYNC_STATE
  let body := beBytes 4 p ++ beBytes 1 (twnState s + 8 * (decide (imp ≠ 0)).toNat + 16 * imp) ++
    beBytes 1 (fld sync 0 0 + 2 * fld sync 1 1 + 4 * h.fence.toNat + 8 * ready.toNat) ++ [0, 0] ++
    beBytes 4 h.act.toNat ++ beBytes 4 h.awn.toNat ++ beBytes 4 h.cal.toNat ++
    (if ready then recTime join else List.replicate 10 0) ++ [0, 0]
  let s := sendRecord s 1 at_ body
  let s := { s with twn := { s.twn with
    ownH := (h :: s.twn.ownH).take 32
    joinAt := if ready then some join else s.twn.joinAt } }
  let s := wr (wr (wr s Reg.TWN.OWN_ACT_CRC h.act) Reg.TWN.OWN_AWN_CRC h.awn) Reg.TWN.OWN_CAL_CRC h.cal
  let s := wrF (wrB s Reg.TWN.TWN_STATUS 9 (decide (imp ≠ 0))) Reg.TWN.TWN_STATUS 13 10 imp
  judgePair s p

/-- R317: the HEALTH instant of slot (k, n). -/
def execHealthSend (k n : Nat) (s : State) : Host.Outcome State Fault Refusal :=
  wall s (match findCtx s k n with
    | some c =>
      let sent := s.twn.ownH.any fun h => h.pseq == pseq k n
      if twnOn s && !sent && reached s (healthAt s c) then sendHealth s c else s
    | none => s)

/-- R317, R279: a whole multiple of TIME_PER; those that a step passes are taken one by one, in order. -/
def execTwinTimeSend (s : State) : Host.Outcome State Fault Refusal :=
  let m := nextMultiple s.time.twn (rdF s Reg.TWN.TIME_PER 13 0)
  let t := { s with time := { s.time with twn := m } }
  let e := s.twn.echo.getD (0, 0)
  wall s (if twnOn s && decide (m ≤ nowNs s) then
      sendRecord t 2 m (recTime (nowNs s) ++ recTime e.1 ++ recTime e.2 ++ [0, 0])
    else s)

/-! ### States and yielding (R314 to R316, R319) -/

/-- R315: both links are down, or nothing has been accepted for PEER_TMO. -/
def execPeerLoss (s : State) : Host.Outcome State Fault Refusal :=
  let lost := (!s.twn.link0 && !s.twn.link1) || elapsedUs s s.twn.lastRec (peerTmo s)
  let t := raiseE (bump (wrB s Reg.TWN.TWN_STATUS 5 false) Reg.TWN.PEER_LOST) Page.TWN 0
  live s (if twnOn s && rdB s Reg.TWN.TWN_STATUS 5 && lost then
      (if twnState s = 2 ∨ twnState s = 3 then goSolo t else if twnState s = 4 then forgetPair t else t)
    else s)

/-- R314: PEER_TMO after SEARCH was entered. -/
def execSearchTimeout (s : State) : Host.Outcome State Fault Refusal :=
  let quiet := if twnRole s then !s.twn.heardAny else !s.twn.heardRun
  live s (if twnState s == 1 && elapsedUs s s.twn.searchAt (peerTmo s) && quiet then goSolo s else s)

/-- R316: the join instant. -/
def execJoin (s : State) : Host.Outcome State Fault Refusal :=
  wall s (match s.twn.joinAt with
    | some j =>
      if came s j && (twnState s == 2 || twnState s == 4) then
        let t := { s with twn := { s.twn with joinAt := none, pairFrom := some j, joiner := twnState s == 2, count := 0 } }
        raiseE (bump (setTwnState t 3) Reg.TWN.JOINS) Page.TWN 1
      else s
    | none => s)

/-- R319: at WC(n) a phase is yielded to an unimpaired partner. -/
def execPhaseYield (k n : Nat) (s : State) : Host.Outcome State Fault Refusal :=
  wall s (match findCtx s k n with
    | some c =>
      let healthy := match s.twn.peerImp.find? fun e => e.1 == pseq k n with | some e => e.2 | none => false
      if twnOn s && twnState s == 3 && reached s c.close && !s.twn.yielded.contains (k, n) && impCauses s k n != 0 && healthy then
        let t := { s with twn := { s.twn with yielded := (k, n) :: s.twn.yielded.take 15 } }
        raiseE (bump t Reg.TWN.YIELD_PHASES) Page.TWN 3
      else s
    | none => s)

end Sys2Proof.Machine
end

