-- ==== Sys2Proof/Machine/Flags.lean ====
section
/-! DEFINITION. The flags that are conditions: level causes of every page (R351, R352, R391, R392, R425, R441), the inputs of the
interrupt controller (R353, R354), and the status words made of conditions (R377, R391, R436 to R441). -/

namespace Sys2Proof.Machine

/-! ### Power conditions (R440, R441) -/

/-- A threshold of PWR as it acts: its reset value under PWR's safe action (R388). -/
def pwrLimit (s : State) (addr : Nat) : Nat := if safe s Page.PWR then (resetWord addr).toNat else rdN s addr

/-- TEMP_WARN. -/
def tempWarn (s : State) : Bool :=
  decide (toSigned 16 (pwrLimit s Reg.PWR.TEMP_WARN_TH) ≤ toSigned 16 (rdF s Reg.PWR.TEMP_MAX 15 0))

/-- Every rail within its thresholds. -/
def railOk (s : State) : Bool :=
  (List.range 9).all fun r =>
    let v := rdF s (Reg.PWR.RAIL_V r) 15 0
    decide (pwrLimit s (Reg.PWR.RAIL_LO_TH r) ≤ v) && decide (v ≤ pwrLimit s (Reg.PWR.RAIL_HI_TH r))

/-- POWER_HIGH. -/
def powerHigh (s : State) : Bool := decide (pwrLimit s Reg.PWR.POWER_TH < rdN s Reg.PWR.POWER)

/-- PWR_STATUS. -/
def pwrStatus (s : State) : Word := w32 ((railOk s).toNat + 2 * (tempWarn s).toNat + 4 * (powerHigh s).toNat)

/-! ### Other conditions -/

/-- Every page index of the directory. -/
def allPages : List Nat := pageDirectory.flatMap fun d => (List.range d.2.2).map (d.2.1 + ·)

/-- PARITY_ANY. -/
def parityAny (s : State) : Bool := allPages.any fun pg => rdB s (Reg.HDR.PAGE_ERR pg) 0

/-- PAR_PAGESj (R391). -/
def parPages (s : State) (j : Nat) : Word :=
  w32 (ofBits ((List.range 32).map fun c =>
    (pageInfo (32 * j + c)).isSome && rdB s (Reg.HDR.PAGE_ERR (32 * j + c)) 0))

/-- TEMP_LIMIT of a stack as it acts (R388). -/
def tempLimit (s : State) (k : Nat) : Nat := if safe s (Page.MEM k) then 95 else rdF s (Reg.MEM.TEMP_LIMIT k) 7 0

/-- GIVEN_UP of any core. -/
def givenUp (s : State) : Bool := rdF s Reg.MGT.CORE_STATUS 11 8 != 0

/-! ### Causes -/

/-- The level causes of a page, bits [30:0]. -/
def levelCauses (s : State) (pg : Nat) : Nat :=
  match pageInfo pg with
  | none => 0
  | some (k, _, i) =>
    match k with
    | .gbl => (parityAny s).toNat + 8 * (!s.pcie.link.up).toNat
    | .cru => 4 * (!s.rst.refAon).toNat + 8 * (s.rst.pwr != .active).toNat
    | .pwr => (tempWarn s).toNat + 2 * (!railOk s).toNat + 4 * (powerHigh s).toNat
    | .mem => 4 * (decide (tempLimit s i < rdF s (Reg.MEM.MEM_STATUS i) 15 8)).toNat
    | .ig => 2 * (rdB s (Reg.IG.PORT_CTRL i) 0 && !igUp s i).toNat
    | .sd => 2 * (rdB s (Reg.SD.SDI_STATUS i) 2).toNat
    | .lyr => (decide (rd s Reg.LYR.COMMIT_REFUSED ≠ 0)).toNat
    | .awn => ofBits ((List.range 8).map fun a => rdB s (Reg.AWN.A_STATUS a) 2)
    | .dls => 2 * (rdB s Reg.DLS.DLS_STATUS 2).toNat + 4 * (rdB s Reg.DLS.DLS_STATUS 1).toNat
    | .tim => (rdB s Reg.TIM.SYNC_STATE 1).toNat + 16 * (rdB s Reg.TIM.TIM_STATUS 2).toNat
    | .twn =>
      let w := twnStatus s
      4 * (bit w 13).toNat + 16 * (bit w 15).toNat + 32 * (bit w 16).toNat + 256 * (bit w 17).toNat
    | .sec => 8 * (rdB s Reg.SEC.SEC_STATUS 2).toNat + 16 * (rdB s Reg.SEC.SEC_STATUS 5 || rdB s Reg.SEC.SEC_STATUS 6).toNat
    | .aud => (decide (192 < s.aud.queue.length)).toNat
    | .mgt => 4 * (givenUp s).toNat
    | _ => 0

/-- PAGE_IRQ_RAW: levels and ERR; an event cause is 1 in its one clock and reads as 0 (R351). -/
def irqRaw (s : State) (pg : Nat) : Word :=
  w32 (levelCauses s pg + 2 ^ 31 * (decide (rd s (Reg.HDR.PAGE_ERR pg) ≠ 0)).toNat)

/-- PAGE_IRQ_STAT. -/
def irqStat (s : State) (pg : Nat) : Word := irqRaw s pg &&& rd s (Reg.HDR.PAGE_IRQ_EN pg)

/-- The page of a source (R353). -/
def sourcePage (i : Nat) : Option Nat := allPages.find? fun pg => sourceOf pg == some i

/-- The input of a source: its page's enabled causes, or its software flag (R353, R354). -/
def inputOf (s : State) (i : Nat) : Bool :=
  if 768 ≤ i ∧ i < 1024 then Store.get noB s.icu.sw i
  else match sourcePage i with
    | some pg => irqStat s pg != 0
    | none => false

/-! ### Status words of the header and of CRU (R378, R439) -/

/-- PAGE_ID. -/
def pageId (pg : Nat) : Word :=
  match pageInfo pg with
  | some (_, base, _) => w32 (pg + 65536 * base)
  | none => 0

/-- A page with an indirect window. -/
def hasWindow (pg : Nat) : Bool :=
  match pageInfo pg with
  | some (k, _, _) => [PageKind.igs, .lyr, .spb, .sc, .clr, .dls, .tp, .tim, .icu, .evf, .sec, .aud].contains k
  | none => false

/-- A page that implements SOFT_RST (R390). -/
def hasSoftReset (pg : Nat) : Bool :=
  match pageInfo pg with
  | some (k, _, _) => [PageKind.ig, .sd, .sc, .tp, .sv, .blt, .dc].contains k
  | none => false

/-- PAGE_CAPS. -/
def pageCaps (pg : Nat) : Word := w32 ((hasWindow pg).toNat + 2 * (hasSoftReset pg).toNat)

/-- PAGE_LOCK as it reads: all ones of its bits while it mismatches (R387). -/
def pageLock (s : State) (pg : Nat) : Word :=
  if Store.get noB s.par.bad (Reg.HDR.PAGE_LOCK pg) then 0xF else rd s (Reg.HDR.PAGE_LOCK pg)

/-- PAGE_STATUS. -/
def pageStatus (s : State) (pg : Nat) : Word :=
  w32 ((safe s pg).toNat + 2 * (rstBusy s pg).toNat + 4 * (decide (pageLock s pg ≠ 0)).toNat)

/-- READY as the pin is driven (R432); low in STANDBY (R435). -/
def ready (s : State) : Bool :=
  !s.rst.held && s.rst.sysLock && s.rst.hbmDone && rdB s Reg.SEC.SEC_STATUS 0 && s.rst.pwr != .standby

/-- CRU_STATUS. -/
def cruStatus (s : State) : Word :=
  w32 (ofBits [s.rst.refSys, s.rst.refPcie, s.rst.refSdi, s.rst.refAon, s.rst.sysLock, s.rst.sramDone, s.rst.hbmDone, ready s])

/-- PWR_STATE. -/
def pwrState (s : State) : Nat :=
  match s.rst.pwr with
  | .active => 0
  | .entering => 1
  | .standby => 2
  | .leaving => 3

/-- The conditions of FAULT_SEL as they stand. -/
def faultConds (s : State) : Nat :=
  ofBits [parityAny s, rdB s Reg.TIM.SYNC_STATE 1, bit (twnStatus s) 13, decide (s.rst.octets ≠ 0xFFFFFFFF), tempWarn s,
    !rdB s Reg.SEC.SEC_STATUS 0, givenUp s]

/-- FAULT_N is driven low (R439). -/
def faultPin (s : State) : Bool := s.rst.held || (w32 (faultConds s) &&& rd s Reg.CRU.FAULT_SEL) != 0

/-- FAULT_STATUS. -/
def faultStatus (s : State) : Word := w32 (faultConds s + 2 ^ 31 * (faultPin s).toNat)

/-- HIF_STATUS. -/
def hifStatus (s : State) : Word :=
  let l := s.pcie.link
  let c := s.pcie.cfg
  w32 (l.up.toNat + 2 * (l.speed % 8) + 16 * (l.width % 32) + 512 * (l.dstate % 4) + 2048 * (l.aspm % 4) +
    2 ^ 13 * c.busMaster.toNat + 2 ^ 14 * c.msixEn.toNat + 2 ^ 15 * c.funcMask.toNat)

end Sys2Proof.Machine
end

