-- ==== Sys2Proof/Machine/Icu.lean ====
section
/-! DEFINITION. The interrupt controller (R353 to R365, R370) and the software lines of the event fabric (R369). -/

namespace Sys2Proof.Machine

/-! ### Source entries (R353, R355) -/

/-- A source that is not reserved. -/
def sourceReal (i : Nat) : Bool := (decide (768 ≤ i) && decide (i < 1024)) || (sourcePage i).isSome

/-- Writable bits of an entry after reset. -/
def srcDefault (i : Nat) : Word := if i = 66 ∨ i = 67 then 0x580 else 0x80

/-- Writable bits of an entry. -/
def srcCfg (s : State) (i : Nat) : Word := Store.get srcDefault s.icu.cfg i

/-- PRI. -/
def srcPri (s : State) (i : Nat) : Nat := fld (srcCfg s i) 7 0

/-- SRC_CFG as it reads. -/
def readSrcCfg (s : State) (i : Nat) : Word :=
  if sourceReal i then
    let x := srcSt s i
    w32 ((srcCfg s i).toNat + 2 ^ 16 * x.pending.toNat + 2 ^ 17 * x.active.toNat + 2 ^ 18 * (inputOf s i).toNat + 2 ^ 19 * x.holder)
  else 0

/-- A write of SRC_CFG: an entry of the trusted core takes it from the trusted core alone; a mask or target change of a source on
offer withdraws the offer 12 MGMT clocks later (R355, R360). -/
def writeSrcCfg (s : State) (a : Agent) (i : Nat) (v : Word) : State :=
  let old := srcCfg s i
  let v' := v &&& 0x7FFF
  if !sourceReal i then s
  else if a != .tc && (fld old 10 9 == 2 || fld v' 10 9 == 2) then refuseWrite s a (Reg.HDR.IND_DATA Page.ICU) v 0
  else
    let x := srcSt s i
    let moved := (bit old 8 && !bit v' 8) || fld old 14 9 != fld v' 14 9
    let t := { s with icu := { s.icu with cfg := Store.set srcDefault s.icu.cfg i v' } }
    if moved && x.offer.isSome && x.withdraw.isNone then setSrc t i { x with withdraw := some (mgmtClk s + 13) } else t

/-- The host vector of a source (R353). -/
def vectorOf (i : Nat) : Nat :=
  if i < 9 then 0 else if i < 34 then 1 else if i < 40 then 2 else if i < 45 then 3 else if i < 64 then 4 else if i < 96 then 5
  else if i < 128 then 6 else if i < 512 then 8 + (i - 256) / 8 else 40 + (i - 768) / 16

/-! ### Priority (R357) -/

/-- All sources that a store of states lists. -/
def listedSources (s : State) : List Nat := s.icu.src.map (·.1)

/-- RUN_PRI of a target. -/
def runPri (s : State) (k : Nat) : Nat :=
  ((listedSources s).filter fun i => (srcSt s i).active && (srcSt s i).holder == k).foldl (fun m i => min m (srcPri s i)) 0x100

/-- PRIGROUP as it acts (R388). -/
def priGroup (s : State) : Nat := if safe s Page.ICU then 0 else rdF s Reg.ICU.PRIGROUP 2 0

/-- TGT_EN as it acts (R388). -/
def targetOn (s : State) (k : Nat) : Bool := safe s Page.ICU || rdB s Reg.ICU.TGT_EN k

/-- ICU_CTRL.EN as it acts (R388). -/
def icuOn (s : State) : Bool := safe s Page.ICU || rdB s Reg.ICU.ICU_CTRL 0

/-- The group test of a source against a target. -/
def outranks (s : State) (i k : Nat) : Bool := decide (srcPri s i / 2 ^ priGroup s < runPri s k / 2 ^ priGroup s)

/-! ### Messages to the host (R362 to R365) -/

/-- Words of the MSI-X table after reset: every vector masked. -/
def msixDefault (k : Nat) : Word := if k % 4 = 3 then 1 else 0

/-- Word `w` of a vector's table entry. -/
def msixWord (s : State) (v w : Nat) : Word := Store.get msixDefault s.icu.msix (4 * v + w)

/-- A vector may not send now: masked, under the function mask, or MSI-X off. -/
def vectorMasked (s : State) (v : Nat) : Bool := bit (msixWord s v 3) 0 || s.pcie.cfg.funcMask || !s.pcie.cfg.msixEn

/-- Set a vector's pending bit. -/
def setPba (s : State) (v : Nat) (b : Bool) : State := { s with icu := { s.icu with pba := Store.set noB s.icu.pba v b } }

/-- Hold or release a vector. -/
def setHeld (s : State) (v : Nat) (b : Bool) : State := { s with icu := { s.icu with held := Store.set noB s.icu.held v b } }

/-- Set the instant a vector's timer ends (MGMT clocks; 0: it does not run). -/
def setTimer (s : State) (v t : Nat) : State := { s with icu := { s.icu with timers := Store.set zeroN s.icu.timers v t } }

/-- A message may leave: the controller is on, the function is not in D3hot and the link is in L0 (R358, R364, R365). -/
def mayLeave (s : State) : Bool := icuOn s && s.pcie.link.dstate != 3 && s.pcie.link.aspm == 0

/-- A message that finds the link in L1 asks for a return to L0 (R364). -/
def askL0 (s : State) : State :=
  if icuOn s ∧ s.pcie.link.dstate ≠ 3 ∧ s.pcie.link.aspm ≠ 0 then { s with pcie := { s.pcie with l0Asked := true } } else s

/-- Send a vector's message and start its timer; a masked vector sets its pending bit instead, and one that may not leave is held
(log entry 90). -/
def sendVector (s : State) (v : Nat) : State :=
  if vectorMasked s v then setPba s v true
  else if !mayLeave s then askL0 (setHeld s v true)
  else
    let a := (msixWord s v 0).toNat + 2 ^ 32 * (msixWord s v 1).toNat
    let s := devWrite (setPba s v false) (hostBase + a % hostBase) (leBytes 4 (msixWord s v 2).toNat)
    let m := rdF s (Reg.ICU.HOST_MOD v) 15 0
    if m = 0 then s else setTimer s v (mgmtClk s + 1000 * m)

/-- In D3hot a vector that becomes due sets PME_Status and sends PM_PME, where PME_En is set (R365). -/
def notePme (s : State) : State :=
  if s.pcie.link.dstate = 3 ∧ s.pcie.cfg.pmeEn then
    { s with pcie := { s.pcie with pmeStatus := true, pmeSent := s.pcie.pmeSent + 1 } }
  else s

/-- The vector's timer was started in this very clock: a message has just left (R362). -/
def justSent (s : State) (v : Nat) : Bool :=
  Store.get zeroN s.icu.timers v != 0 && Store.get zeroN s.icu.timers v == mgmtClk s + 1000 * rdF s (Reg.ICU.HOST_MOD v) 15 0

/-- A vector becomes due: masked, its pending bit is set and it is not held; a message that left in the same clock carries it, as at
a timer's end (log entry 90); else it is held where its timer runs. -/
def dueVector (s : State) (v : Nat) : State :=
  let s := notePme s
  if vectorMasked s v then setPba s v true
  else if justSent s v then s
  else if Store.get zeroN s.icu.timers v ≠ 0 then setHeld s v true
  else sendVector s v

/-- Vectors whose mask has cleared send what is pending (R362). -/
def flushPba (s : State) : State :=
  (List.range 64).foldl (fun s v =>
    if Store.get noB s.icu.pba v && !vectorMasked s v then (if mayLeave s then sendVector s v else askL0 s) else s) s

/-- Messages that waited for the controller, the link or the function leave: of held vectors those whose timer does not run, or all
of them. -/
def flushHeld (all : Bool) (s : State) : State :=
  flushPba ((List.range 64).foldl (fun s v =>
    if Store.get noB s.icu.held v && (all || Store.get zeroN s.icu.timers v == 0) then sendVector (setHeld s v false) v else s) s)

/-! ### Source state (R356) -/

/-- The controller sees a source's input at 0 (R356). -/
def noteFall (s : State) (i : Nat) : State :=
  if (srcSt s i).level && !inputOf s i then setSrc s i { srcSt s i with level := false } else s

/-- R356: a source's input rises: an event cause's clock, or its level at 1 that was not seen at 1 before; an active source needs
such a rise, while any other is pending with its input at 1. With the input at 0 and no event, only that is seen (log entry 141). -/
def execIrqInputRise (src : Nat) (s : State) : Host.Outcome State Fault Refusal :=
  let x := srcSt s src
  let t := { s with icu := { s.icu with risen := Store.set noB s.icu.risen src false } }
  let rise := Store.get noB s.icu.risen src || (inputOf s src && !(x.active && x.level))
  live s (if !sourceReal src then s
    else if rise then setSrc t src { x with pending := true, level := inputOf s src }
    else noteFall s src)

/-- A source stands offered to a target: an offer being withdrawn ends with its clock, taken or not (R360). -/
def offeredTo (s : State) (k i : Nat) : Bool :=
  (srcSt s i).offer == some k && (srcSt s i).withdraw.all fun c => decide (mgmtClk s < c)

/-- The interrupt input of core `k`, or of the trusted core with 4: asserted while any source is offered to it (R358). -/
def interruptInput (s : State) (k : Nat) : Bool := (listedSources s).any (offeredTo s k)

/-- The core that a source would be offered to (R358): the largest RUN_PRI, ties round robin; whether it was a tie. -/
def chooseCore (s : State) (i : Nat) : Option (Nat × Bool) :=
  let cs := (List.range 4).filter fun k => bit (srcCfg s i) (11 + k) && targetOn s k
  let top := cs.foldl (fun m k => max m (runPri s k)) 0
  let best := cs.filter fun k => runPri s k == top
  match best with
  | [] => none
  | [k] => some (k, false)
  | _ => (((List.range 4).map fun j => (s.icu.lastTie + 1 + j) % 4).find? best.contains).map fun k => (k, true)

/-- R358: a pending unmasked source is offered. -/
def execIrqOffer (src : Nat) (s : State) : Host.Outcome State Fault Refusal :=
  let x := srcSt s src
  let w := srcCfg s src
  let offer (k : Nat) (t : State) : State := setSrc t src { x with offer := some k }
  live s (if sourceReal src && x.pending && !x.active && x.offer.isNone && bit w 8 && icuOn s then
      match fld w 10 9 with
      | 1 =>
        match chooseCore s src with
        | some (k, tie) =>
          if outranks s src k then offer k (if tie then { s with icu := { s.icu with lastTie := k } } else s) else s
        | none => s
      | 2 => if targetOn s 4 && outranks s src 4 then offer 4 s else s
      | 3 => dueVector (offer 5 s) (vectorOf src)
      | _ => s
    else s)

/-- R362: a moderation timer expires. -/
def execModerationExpiry (vec : Nat) (s : State) : Host.Outcome State Fault Refusal :=
  let e := Store.get zeroN s.icu.timers vec
  let t := setTimer s vec 0
  live s (if decide (vec < 64) && e != 0 && decide (e ≤ mgmtClk s) then
      (if Store.get noB s.icu.held vec then sendVector (setHeld t vec false) vec else t)
    else s)

/-- R360: an offer is withdrawn, 13 MGMT clocks after the write that masked or moved its source. -/
def execOfferWithdraw (src : Nat) (s : State) : Host.Outcome State Fault Refusal :=
  let x := srcSt s src
  live s (match x.withdraw with
    | some c => if c ≤ mgmtClk s then setSrc s src { x with offer := none, withdraw := none } else s
    | none => s)

/-! ### Claims and completions (R359, R361, R363) -/

/-- The word that a read returns to its agent. -/
def answer (s : State) (a : Agent) (w : Word) : State :=
  { s with out := { s.out with word := Store.set zeroW s.out.word (agentCode a) w } }

/-- The most urgent of some sources (R357). -/
def mostUrgent (s : State) (l : List Nat) : Option Nat :=
  l.foldl (fun best i =>
    match best with
    | some j => if srcPri s i < srcPri s j ∨ (srcPri s i = srcPri s j ∧ i < j) then some i else best
    | none => some i) none

/-- A source becomes active on a target; the target's other offers that no longer pass the group test fall back. -/
def activate (s : State) (i k : Nat) : State :=
  let s := setSrc s i ⟨inputOf s i, false, true, k, none, none⟩
  if k = 5 then s
  else (listedSources s).foldl (fun s j =>
    if (srcSt s j).offer == some k && !outranks s j k then setSrc s j { srcSt s j with offer := none, withdraw := none } else s) s

/-- The claim of a target among its offers: the word read, and the state. -/
def claimOf (s : State) (k : Nat) (mine : Nat → Bool) : Word × State :=
  match mostUrgent s ((listedSources s).filter fun i => offeredTo s k i && mine i) with
  | some i => (w32 (2 ^ 31 + (i + 2 ^ 16 * srcPri s i)), activate s i k)
  | none => (0, s)

/-- R359: a read of CLAIMk. -/
def execClaim (a : Agent) (k : Nat) (s : State) : Host.Outcome State Fault Refusal :=
  let r := claimOf s k fun _ => true
  live s (if k < 5 then answer r.2 a r.1 else s)

/-- R363: a read of HOST_CLAIMv. -/
def execHostClaim (a : Agent) (vec : Nat) (s : State) : Host.Outcome State Fault Refusal :=
  let r := claimOf s 5 fun i => vectorOf i == vec
  live s (if vec < 64 then answer r.2 a r.1 else s)

/-- Source `i` completes (R356, R361). -/
def completeSrc (s : State) (i : Nat) : State :=
  let x := srcSt s i
  setSrc s i { x with active := false, holder := 7, pending := x.pending || inputOf s i, level := inputOf s i }

/-- A completion written for a target. -/
def completeFor (s : State) (k : Nat) (v : Word) : State :=
  let i := fld v 9 0
  if (srcSt s i).active && (srcSt s i).holder == k then completeSrc s i else bump s Reg.ICU.SPURIOUS_CPL

/-- R361: a write of CPLk. -/
def execCpl (a : Agent) (k : Nat) (v : Word) (s : State) : Host.Outcome State Fault Refusal :=
  live s (if k < 5 then guarded s a (Reg.ICU.CPL k) v .cmd (completeFor s k v) else s)

/-- R361: a write of HOST_CPL. -/
def execHostCpl (a : Agent) (v : Word) (s : State) : Host.Outcome State Fault Refusal :=
  live s (guarded s a Reg.ICU.HOST_CPL v .cmd (completeFor s 5 v))

/-- Every source that a restarted core holds is completed (R361). -/
def completeCore (s : State) (k : Nat) : State :=
  (listedSources s).foldl (fun s i => if (srcSt s i).active && (srcSt s i).holder == k then completeSrc s i else s) s

/-! ### Software sources and lines (R354, R369) -/

/-- A write of SW_SET. -/
def writeSwSet (s : State) (v : Word) : State :=
  let i := fld v 9 0
  if i < 768 then s
  else
    let on := !bit v 31
    let rise := on && !Store.get noB s.icu.sw i
    let s := { s with icu := { s.icu with sw := Store.set noB s.icu.sw i on } }
    if rise then { s with icu := { s.icu with risen := Store.set noB s.icu.risen i true } } else noteFall s i

/-- R354: a write of SW_SET with CLR = 0. -/
def execSwSourceSet (a : Agent) (v : Word) (s : State) : Host.Outcome State Fault Refusal :=
  live s (guarded s a Reg.ICU.SW_SET v .cmd (writeSwSet s v))

/-- R354: a write of SW_SET with CLR = 1. -/
def execSwSourceClear (a : Agent) (v : Word) (s : State) : Host.Outcome State Fault Refusal :=
  live s (guarded s a Reg.ICU.SW_SET v .cmd (writeSwSet s v))

/-- R365: the function comes back to D0, over a link in L0: every held vector sends its message, whatever its timer shows. -/
def execD0Entry (s : State) : Host.Outcome State Fault Refusal :=
  let t := { s with pcie := { s.pcie with link := { s.pcie.link with dstate := 0, aspm := 0 } } }
  live s (if s.pcie.link.dstate = 3 then flushHeld true t else s)

/-- A write of SW_PULSE. -/
def writeSwPulse (s : State) (v : Word) : State :=
  let l := fld v 8 0
  if 176 ≤ l ∧ l < 192 then pulse s l else s

/-- R369: a write of SW_PULSE. -/
def execSwPulse (a : Agent) (v : Word) (s : State) : Host.Outcome State Fault Refusal :=
  live s (guarded s a Reg.EVF.SW_PULSE v .cmd (writeSwPulse s v))

end Sys2Proof.Machine
end

