-- ==== Sys2Proof/Machine/Secure.lean ====
section
/-! DEFINITION. Roles (R407 to R415): the key table, sessions, dual approval, and what an approved request does. Attestation (R400, R401). -/

namespace Sys2Proof.Machine

/-! ### The SEC window (R421) -/

/-- `n` bytes of the window from offset `base`, a multiple of four. -/
def winBytes (s : State) (base n : Nat) : List Byte :=
  ((Store.slice zeroW s.sec.win (base / 4) (ceilDiv n 4)).flatMap fun w => leBytes 4 w.toNat).take n

/-- Bytes of a signature in SIG_BUF. -/
def sigBuf (s : State) : List Byte := winBytes s 0 7856

/-- REQ_BODY. -/
def reqBody (s : State) : List Byte := winBytes s 0x2100 64

/-- UNIQUE_ID as bytes. -/
def idBytes : List Byte := leBytes 8 Config.uniqueId.toNat

/-- EPOCH as bytes. -/
def epochBytes (s : State) : List Byte := leBytes 4 s.otp.epoch

/-! ### Key table, configuration block, measurements (R395, R400, R407) -/

/-- An empty key slot. -/
def noKey : Nat → KeySlot := fun _ => ⟨0, 0, [], []⟩

/-- Slot `i` of the key table. -/
def keySlot (s : State) (i : Nat) : KeySlot := Store.get noKey s.sec.keys i

/-- The 64 bytes of a key slot. -/
def KeySlot.bytes (k : KeySlot) : List Byte := leBytes 4 k.role ++ leBytes 4 k.seq ++ padTo 32 k.key ++ padTo 24 k.label

/-- The bytes that a configuration block's HMAC covers: key table, page-rights map, CFG_GEN. -/
def cfgBytes (gen : Nat) (keys : Store KeySlot) (rights : Store Nat) : List Byte :=
  ((List.range 16).flatMap fun i => (Store.get noKey keys i).bytes) ++
    ((List.range 1024).flatMap fun i => leBytes 4 (Store.get factoryRights rights i)) ++ leBytes 4 gen

/-- DIE_SECRET (R396), from which the TC derives its keys. -/
def dieSecret (s : State) : List Byte := Store.slice Config.dieSecretByte s.otp.secret 0 32

/-- The HMAC of a configuration block under the die's key. -/
def cfgHmac (s : State) (m : List Byte) : List Byte := (List.range 32).map (Config.configHmacByte (dieSecret s) m)

/-- The configuration block in force, as written to NOR. -/
def cfgBlock (s : State) : CfgBlock :=
  let gen := rdN s Reg.SEC.CFG_GEN
  ⟨gen, s.sec.keys, s.sec.rights, cfgHmac s (cfgBytes gen s.sec.keys s.sec.rights)⟩

/-- The whole bytes of a configuration block. -/
def CfgBlock.bytes (b : CfgBlock) : List Byte := cfgBytes b.gen b.keys b.rights ++ b.hmac

/-- Measurement `m`. -/
def measOf (s : State) (m : Nat) : List Byte := s.sec.meas.getD m (List.replicate 32 0)

/-- Extend a measurement (R400). -/
def extend (s : State) (m : Nat) (d : List Byte) : State :=
  { s with sec := { s.sec with meas := (List.range 8).map fun i => if i = m then sha256 (measOf s i ++ d) else measOf s i } }

/-! ### Sessions (R408, R409) -/

/-- SESS_STATUS. -/
def sessStatus (s : State) : Word :=
  let slot := match s.sec.sess with | some x => x.slot | none => 0
  let busy := s.sec.opening.isSome || s.sec.chalReq.isSome
  w32 (s.sec.sess.isSome.toNat + 2 * sessRole s + 8 * s.sec.chal.isSome.toNat + 16 * slot + 256 * busy.toNat +
    2 ^ 12 * rdF s Reg.SEC.SESS_STATUS 15 12)

/-- Set SESS_STATUS.RESULT. -/
def sessResult (s : State) (r : Nat) : State := wrF s Reg.SEC.SESS_STATUS 15 12 r

/-- Close the open session with a SESS_CLOSE record. -/
def closeSession (s : State) (agent role reason : Nat) : State :=
  match s.sec.sess with
  | some x => audit { s with sec := { s.sec with sess := none } } 0x05 agent role [BitVec.ofNat 8 x.slot, BitVec.ofNat 8 reason]
  | none => s

/-- An OPEN that fails: counted, recorded, a cause; the eighth in a row locks OPEN out. -/
def failOpen (s : State) (slot r : Nat) : State :=
  let s := sessResult (bump s Reg.SEC.SESS_FAILS) r
  let s := audit s 0x06 2 0 [BitVec.ofNat 8 slot, BitVec.ofNat 8 r]
  raiseE s Page.SEC 1

/-- Role of the agent that an audit record bears. -/
def roleFor (s : State) (a : Agent) : Nat := if a == .host then sessRole s else 0

/-- A write of SESS_CTRL: CHAL, OPEN, CLOSE. -/
def writeSessCtrl (s : State) (a : Agent) (v : Word) : State :=
  let slot := fld v 7 4
  let busy := s.sec.opening.isSome
  let s := if bit v 0 then
      if busy then sessResult s 10 else { s with sec := { s.sec with chalReq := some slot, chal := none } }
    else s
  let s := if bit v 1 then
      if busy then sessResult s 10
      else if s.sec.lockedAt.isSome then failOpen s slot 4
      else { s with sec := { s.sec with opening := some slot } }
    else s
  if bit v 2 then closeSession s (agentCode a) (roleFor s a) 0 else s

/-- R408: a write of SESS_CTRL with CHAL = 1. -/
def execSessionChallenge (a : Agent) (v : Word) (s : State) : Host.Outcome State Fault Refusal :=
  live s (guarded s a Reg.SEC.SESS_CTRL v .cmd (writeSessCtrl s a v))

/-- R408: a write of SESS_CTRL with OPEN = 1. -/
def execSessionOpen (a : Agent) (v : Word) (s : State) : Host.Outcome State Fault Refusal :=
  live s (guarded s a Reg.SEC.SESS_CTRL v .cmd (writeSessCtrl s a v))

/-- R409: a write of SESS_CTRL with CLOSE = 1. -/
def execSessionClose (a : Agent) (v : Word) (s : State) : Host.Outcome State Fault Refusal :=
  live s (guarded s a Reg.SEC.SESS_CTRL v .cmd (writeSessCtrl s a v))

/-- R408: the TC places the nonce in the window. -/
def execChallengeReady (nonce : List Byte) (s : State) : Host.Outcome State Fault Refusal :=
  live s (match s.sec.chalReq with
    | some slot =>
      let n := padTo 32 nonce
      { s with sec := { s.sec with chalReq := none, chal := some ⟨slot, n, s.time.uptime⟩, nonce := n } }
    | none => s)

/-- R408: the nonce expires after 60 s. -/
def execChallengeExpiry (s : State) : Host.Outcome State Fault Refusal :=
  live s (match s.sec.chal with
    | some c =>
      if s.sec.opening.isNone && elapsedUs s c.at_ 60000000 then { s with sec := { s.sec with chal := none } } else s
    | none => s)

/-- What the holder of a slot signs to open a session (R408). -/
def sessMessage (s : State) (slot role : Nat) (nonce : List Byte) : List Byte :=
  ascii "YZ8S" ++ idBytes ++ epochBytes s ++ leBytes 1 slot ++ leBytes 1 role ++ nonce

/-- The TC's verdict on an OPEN of a slot, as a RESULT (R422). -/
def sessVerdict (s : State) (slot : Nat) : Nat :=
  let k := keySlot s slot
  match s.sec.chal with
  | none => 1
  | some c =>
    if c.slot ≠ slot then 1
    else if k.role = 0 then 2
    else if Config.slhVerify k.key (ascii "YZ8-SESS") (sessMessage s slot k.role c.nonce) (sigBuf s) then 0
    else 3

/-- A verified OPEN: any open session closes, the new one opens. -/
def openAs (s : State) (slot : Nat) : State :=
  let role := (keySlot s slot).role
  let s := closeSession s 2 0 3
  let s := { s with sec := { s.sec with sess := some ⟨role, slot, s.time.uptime, s.time.uptime⟩, fails := 0 } }
  raiseE (audit (sessResult s 0) 0x04 2 0 [BitVec.ofNat 8 slot, BitVec.ofNat 8 role]) Page.SEC 0

/-- R408: the TC has verified the signature of an OPEN. -/
def execSessionVerifyDone (s : State) : Host.Outcome State Fault Refusal :=
  live s (match s.sec.opening with
    | none => s
    | some slot =>
      let r := sessVerdict s slot
      let s := { s with sec := { s.sec with opening := none, chal := none } }
      if r = 0 then openAs s slot
      else
        let n := s.sec.fails + 1
        let s := { s with sec := { s.sec with fails := n, lockedAt := if n = 8 then some s.time.uptime else s.sec.lockedAt } }
        failOpen s slot r)

/-- R408: 60 s after the eighth failure OPEN is accepted again. -/
def execSessionLockoutEnd (s : State) : Host.Outcome State Fault Refusal :=
  live s (match s.sec.lockedAt with
    | some t => if elapsedUs s t 60000000 then { s with sec := { s.sec with lockedAt := none, fails := 0 } } else s
    | none => s)

/-- R409: SESS_IDLE seconds without an accepted write. -/
def execSessionIdleTimeout (s : State) : Host.Outcome State Fault Refusal :=
  live s (match s.sec.sess with
    | some x => if elapsedUs s x.active (1000000 * rdF s Reg.SEC.SESS_IDLE 16 0) then closeSession s 2 0 1 else s
    | none => s)

/-- R409: SESS_MAX minutes since opening. -/
def execSessionMaxTimeout (s : State) : Host.Outcome State Fault Refusal :=
  live s (match s.sec.sess with
    | some x => if elapsedUs s x.opened (60000000 * rdF s Reg.SEC.SESS_MAX 10 0) then closeSession s 2 0 2 else s
    | none => s)

/-! ### Requests (R412 to R414) -/

/-- Approvals of a request from slots that hold roles now. -/
def validApprovals (s : State) (r : Request) : List (Nat × Nat) := r.approvals.filter fun e => (keySlot s e.1).role != 0

/-- REQ_STATUS. -/
def reqStatus (s : State) : Word :=
  let r := s.sec.req
  let busy := match r with | some x => x.busy.isSome | none => false
  let n := match r with | some x => min 3 x.approvals.length | none => 0
  w32 (r.isSome.toNat + 2 * busy.toNat + 4 * n + (rd s Reg.SEC.REQ_STATUS &&& 0xFFFF0FF0).toNat)

/-- Set REQ_STATUS.RESULT. -/
def reqResult (s : State) (r : Nat) : State := wrF s Reg.SEC.REQ_STATUS 7 4 r

/-- Bytes of a body that its OP names. -/
def usedByte (op i : Nat) : Bool :=
  i == 0 ||
  match op with
  | 1 => decide (4 ≤ i) && decide (i ≤ 8)
  | 2 => i == 1 || i == 2 || (decide (4 ≤ i) && decide (i ≤ 59))
  | 3 => i == 1 || i == 2 || (decide (4 ≤ i) && decide (i ≤ 35))
  | 4 => i == 1
  | 5 => decide (4 ≤ i) && decide (i ≤ 7)
  | _ => false

/-- Image-key slot `i` of OTP. -/
def fwKey (s : State) (i : Nat) : FwKey := Store.get (fun _ => ⟨[], false, false⟩) s.otp.fwKeys i

/-- Maker slots that an ENROL of `slot` with `role` would leave. -/
def makersAfter (s : State) (slot role : Nat) : Nat :=
  ((List.range 16).filter fun i => (if i = slot then role else (keySlot s i).role) == 3).length

/-- A DCn page. -/
def isDcPage (pg : Nat) : Bool := decide (Page.DC 0 ≤ pg) && decide (pg ≤ Page.DC 15)

/-- Why a body is refused (R413). -/
def reqInvalid (s : State) (b : List Byte) : Bool :=
  let op := beAt b 0 1
  let b1 := beAt b 1 1
  let b2 := beAt b 2 1
  let first := leAt b 4 2
  let last := leAt b 6 2
  let word := beAt b 8 1
  let named (pg : Nat) : Bool := decide (first ≤ pg) && decide (pg ≤ last)
  ((List.range 64).any fun i => !usedByte op i && byteAt b i != 0) ||
  match op with
  | 1 =>
    decide (0x3FF < first) || decide (0x3FF < last) || named Page.SEC || named Page.AUD || named Page.MGT ||
      (word.testBit 0 && word.testBit 1 && (List.range 16).any fun c => named (Page.DC c))
  | 2 => decide (15 < b1) || decide (3 < b2) || makersAfter s b1 b2 == 0
  | 3 =>
    decide (3 < b1) || decide (1 < b2) ||
      (if b2 = 0 then (fwKey s b1).programmed
       else !((List.range 4).any fun i => i != b1 && (fwKey s i).programmed && !(fwKey s i).revoked))
  | 4 => !(b1 == 1 || b1 == 2)
  | 5 => decide (leAt b 4 4 ≤ 10000)
  | _ => true

/-- A SUBMIT (R411, R413, R414). -/
def submit (s : State) (a : Agent) (nr : List Byte) : State :=
  let b := reqBody s
  if s.sec.sess.isNone then reqResult s 5
  else if s.sec.req.isSome then reqResult s 8
  else if reqInvalid s b then reqResult s 6
  else
    let id := (s.sec.reqId + 1) % 65536
    let d := sha256 (b ++ leBytes 2 id ++ idBytes ++ epochBytes s ++ padTo 32 nr)
    let s := { s with sec := { s.sec with
      reqId := id, digest := d, req := some ⟨id, b, d, [], none, s.time.uptime⟩ } }
    let s := wr s Reg.SEC.REQ_STATUS (w32 (256 * beAt b 0 1 + 2 ^ 16 * id))
    audit s 0x07 (agentCode a) (roleFor s a) (leBytes 2 id ++ [byteAt b 0, 0] ++ d.take 4)

/-- An approval's REQ_APPROVE record and RESULT. -/
def approveRecord (s : State) (id slot r : Nat) : State :=
  audit (reqResult s r) 0x08 2 0
    (leBytes 2 id ++ [BitVec.ofNat 8 slot, BitVec.ofNat 8 (keySlot s slot).role, BitVec.ofNat 8 r])

/-- An APPROVE of a slot (R414). -/
def approve (s : State) (slot : Nat) : State :=
  match s.sec.req with
  | none => reqResult s 8
  | some r =>
    if r.busy.isSome then reqResult s 10
    else if r.approvals.any fun e => e.1 == slot then approveRecord s r.id slot 7
    else { s with sec := { s.sec with req := some { r with busy := some slot } } }

/-- The pending request ends unapplied (R414). -/
def endRequest (s : State) (agent role reason : Nat) : State :=
  match s.sec.req with
  | none => s
  | some r =>
    let s := { s with sec := { s.sec with req := none } }
    raiseE (audit s 0x0A agent role (leBytes 2 r.id ++ [BitVec.ofNat 8 reason])) Page.SEC 2

/-- A WITHDRAW (R414). -/
def withdrawReq (s : State) (a : Agent) : State :=
  if s.sec.sess.isNone then reqResult s 5
  else if s.sec.req.isNone then reqResult s 8
  else endRequest (reqResult s 0) (agentCode a) (roleFor s a) 1

/-- A write of REQ_CTRL: SUBMIT, APPROVE, WITHDRAW, with the nonce that a SUBMIT draws. -/
def writeReqCtrl (s : State) (a : Agent) (v : Word) (nr : List Byte) : State :=
  let s := if bit v 0 then submit s a nr else s
  let s := if bit v 1 then approve s (fld v 7 4) else s
  if bit v 2 then withdrawReq s a else s

/-- A nonce that no operand brings: free bytes (log entry 4). -/
def freeNonce (s : State) : List Byte := (List.range 32).map fun i => Config.freeByte (s.free + i)

/-- A write of REQ_CTRL whose nonce, if it draws one, is free. -/
def writeReqFree (s : State) (a : Agent) (v : Word) : State :=
  writeReqCtrl { s with free := s.free + 32 } a v (freeNonce s)

/-- R414: a write of REQ_CTRL with SUBMIT = 1. -/
def execReqSubmit (a : Agent) (v : Word) (nr : List Byte) (s : State) : Host.Outcome State Fault Refusal :=
  live s (guarded s a Reg.SEC.REQ_CTRL v .cmd (writeReqCtrl s a v nr))

/-- R414: a write of REQ_CTRL with APPROVE = 1. -/
def execReqApprove (a : Agent) (v : Word) (s : State) : Host.Outcome State Fault Refusal :=
  live s (guarded s a Reg.SEC.REQ_CTRL v .cmd (writeReqFree s a v))

/-- R414: a write of REQ_CTRL with WITHDRAW = 1. -/
def execReqWithdraw (a : Agent) (v : Word) (s : State) : Host.Outcome State Fault Refusal :=
  live s (guarded s a Reg.SEC.REQ_CTRL v .cmd (writeReqFree s a v))

/-- The TC's verdict on an approval by a slot of a request with digest `d`. -/
def approvalVerdict (s : State) (d : List Byte) (slot : Nat) : Nat :=
  let k := keySlot s slot
  if k.role = 0 then 2
  else if Config.slhVerify k.key (ascii "YZ8-APRV") (ascii "YZ8A" ++ d) (sigBuf s) then 0
  else 3

/-- R414: the TC has verified an approval. -/
def execApprovalVerifyDone (s : State) : Host.Outcome State Fault Refusal :=
  live s (match s.sec.req with
    | none => s
    | some r =>
      match r.busy with
      | none => s
      | some slot =>
        let v := approvalVerdict s r.digest slot
        let more := if v = 0 then r.approvals ++ [(slot, (keySlot s slot).role)] else r.approvals
        let t := { s with sec := { s.sec with req := some { r with busy := none, approvals := more } } }
        approveRecord t r.id slot v)

/-- Two slots that hold roles have approved, one of them an installer or maker (R414). -/
def enoughApprovals (s : State) (r : Request) : Bool :=
  let l := validApprovals s r
  decide (2 ≤ l.length) && l.any fun e => decide (2 ≤ (keySlot s e.1).role)

/-- R414: REQ_TMO seconds have passed with the request unapplied; an approval verified in the clock of expiry still counts. -/
def execReqTimeout (s : State) : Host.Outcome State Fault Refusal :=
  live s (match s.sec.req with
    | some r =>
      if overUs s r.since (1000000 * rdF s Reg.SEC.REQ_TMO 16 0) && !enoughApprovals s r then endRequest s 2 0 0 else s
    | none => s)

/-! ### What an approved request does (R415) -/

/-- The pending request, where it is of this OP and approved. -/
def approved (s : State) (op : Nat) : Option Request :=
  match s.sec.req with
  | some r => if beAt r.body 0 1 = op ∧ enoughApprovals s r then some r else none
  | none => none

/-- A request has been applied: recorded with its argument, PENDING clears, a cause. -/
def applied (s : State) (r : Request) (arg : Nat) : State :=
  let s := { s with sec := { s.sec with req := none } }
  raiseE (audit s 0x09 2 0 (leBytes 2 r.id ++ [byteAt r.body 0, 0] ++ leBytes 4 arg)) Page.SEC 2

/-- A NOR program or erase operation has failed: counted, and a cause (R423, R425). -/
def norFail (s : State) : State := raiseE (bump (wrB s Reg.AUD.AUD_STATUS 1 false) Reg.AUD.NOR_ERR) Page.AUD 2

/-- A change of the configuration block: CFG_GEN rises, both copies are rewritten, MEAS4 is extended. Where the NOR operation fails
the copies stay as they were (log entry 147). -/
def newConfig (s : State) (norOk : Bool) : State :=
  let s := wr s Reg.SEC.CFG_GEN (w32 (rdN s Reg.SEC.CFG_GEN + 1))
  let b := cfgBlock s
  let s := if norOk then { s with nor := { s.nor with cfg0 := some b, cfg1 := some b } } else norFail s
  extend s 4 (sha256 b.bytes)

/-- R415: RIGHTS rewrites the page-rights map; the TC bit stays 1 (R411). -/
def execRights (s : State) (norOk : Bool := true) : Host.Outcome State Fault Refusal :=
  live s (match approved s 1 with
    | none => s
    | some r =>
      let first := leAt r.body 4 2
      let word := ((beAt r.body 8 1) &&& 0x73) + 4
      let m := (List.range (leAt r.body 6 2 + 1 - first)).foldl (fun m i => Store.set factoryRights m (first + i) word) s.sec.rights
      let t := newConfig { s with sec := { s.sec with rights := m } } norOk
      applied t r (rdN t Reg.SEC.CFG_GEN))

/-- SEQ that the next queued audit record will bear: after losses a LOST record comes before it (R418). -/
def nextSeq (s : State) : Nat := s.aud.next + s.aud.queue.length + (if s.aud.lost = 0 then 0 else 1)

/-- R415: ENROL enrols or revokes a role key; a session of a revoked slot closes at once. -/
def execEnrol (s : State) (norOk : Bool := true) : Host.Outcome State Fault Refusal :=
  live s (match approved s 2 with
    | none => s
    | some r =>
      let slot := beAt r.body 1 1
      let role := beAt r.body 2 1
      let k : KeySlot := if role = 0 then noKey 0 else ⟨role, nextSeq s % 2 ^ 32, bytesAt r.body 4 32, bytesAt r.body 36 24⟩
      let t := { s with sec := { s.sec with keys := Store.set noKey s.sec.keys slot k } }
      let t := newConfig t norOk
      let t := applied t r (rdN t Reg.SEC.CFG_GEN)
      if role = 0 && sessSlot s == slot then closeSession t 2 0 4 else t)

/-- R415: FWKEY programs or revokes an image key in OTP. -/
def execFwkey (s : State) : Host.Outcome State Fault Refusal :=
  live s (match approved s 3 with
    | none => s
    | some r =>
      let i := beAt r.body 1 1
      let k : FwKey := if beAt r.body 2 1 = 0 then ⟨bytesAt r.body 4 32, true, (fwKey s i).revoked⟩ else { fwKey s i with revoked := true }
      let t := { s with otp := { s.otp with fwKeys := Store.set (fun _ => ⟨[], false, false⟩) s.otp.fwKeys i k } }
      applied t r i)

/-- R415: DEBUG opens the TAP at LEVEL and extends MEAS7. -/
def execDebug (s : State) : Host.Outcome State Fault Refusal :=
  live s (match approved s 4 with
    | none => s
    | some r =>
      let level := beAt r.body 1 1
      let t := wrF (wrB s Reg.SEC.SEC_STATUS 2 true) Reg.SEC.SEC_STATUS 4 3 level
      applied (extend t 7 (sha256 r.body)) r level)

/-- R415: JUMP makes the TC write JUMP_MAX. -/
def execJump (s : State) : Host.Outcome State Fault Refusal :=
  live s (match approved s 5 with
    | none => s
    | some r => applied (wr s Reg.TIM.JUMP_MAX (w32 (leAt r.body 4 4))) r (leAt r.body 4 4))

/-- A write of DEBUG_RELOCK. -/
def writeRelock (s : State) (a : Agent) (v : Word) : State :=
  if !bit v 0 then s
  else if s.sec.sess.isNone then reqResult s 5
  else audit (wrF s Reg.SEC.SEC_STATUS 4 2 0) 0x0F (agentCode a) (roleFor s a) []

/-- R415: DEBUG_RELOCK.GO closes the TAP. -/
def execDebugRelock (a : Agent) (v : Word) (s : State) : Host.Outcome State Fault Refusal :=
  live s (guarded s a Reg.SEC.DEBUG_RELOCK v .cmd (writeRelock s a v))

/-! ### Attestation (R401) -/

/-- The signed part of a report, 0x000 to 0x19F. -/
def reportBody (s : State) (nonce : List Byte) : List Byte :=
  ascii "YZ8R" ++ leBytes 4 1 ++ leBytes 4 (rdN s Reg.GBL.CHIP_ID) ++ leBytes 4 (rdF s Reg.SEC.SVN 15 0) ++ idBytes ++
    epochBytes s ++ leBytes 4 (rdN s Reg.SEC.CFG_GEN) ++ padTo 32 nonce ++
    ((List.range 8).flatMap fun m => padTo 32 (measOf s m)) ++ leBytes 8 (rd64 s Reg.AUD.SEQ_LO Reg.AUD.SEQ_HI) ++
    ((List.range 8).flatMap fun w => leBytes 4 (rdN s (Reg.AUD.HEAD_HASH w))) ++ leBytes 4 (rdN s Reg.SEC.SEC_STATUS) ++
    List.replicate 20 0 ++ (List.range 32).map (Config.attestKeyByte (dieSecret s))

/-- A byte of the report as stored: its signed part, then the signature. -/
def reportByte (s : State) (i : Nat) : Byte :=
  if s.sec.report.isEmpty then 0
  else if i < 0x1A0 then byteAt s.sec.report i
  else Config.attestSigByte (dieSecret s) s.sec.report (i - 0x1A0)

/-- ATT_STATUS. -/
def attStatus (s : State) : Word := w32 (s.sec.attNonce.isSome.toNat + 2 * (rdB s Reg.SEC.ATT_STATUS 1).toNat)

/-- A write of ATTEST; ignored while BUSY. -/
def writeAttest (s : State) (v : Word) : State :=
  if bit v 0 && s.sec.attNonce.isNone then
    wrB { s with sec := { s.sec with attNonce := some (winBytes s 0x2040 32) } } Reg.SEC.ATT_STATUS 1 false
  else s

/-- R401: a write of ATTEST.GO. -/
def execAttest (a : Agent) (v : Word) (s : State) : Host.Outcome State Fault Refusal :=
  live s (guarded s a Reg.SEC.ATTEST v .cmd (writeAttest s v))

/-- R401: the report is ready. -/
def execAttestDone (s : State) : Host.Outcome State Fault Refusal :=
  live s (match s.sec.attNonce with
    | none => s
    | some n =>
      let t := { s with sec := { s.sec with attNonce := none, report := reportBody s n } }
      let t := audit (wrB t Reg.SEC.ATT_STATUS 1 true) 0x0C 2 0 (List.replicate 4 0 ++ n.take 4)
      raiseE t Page.SEC 5)

/-! ### The window as it reads (R421) -/

/-- Word of the SEC window at an offset, for an agent. -/
def readSecWindow (s : State) (a : Agent) (off : Nat) : Word :=
  let o := off / 4 * 4
  let word (bs : List Byte) (i : Nat) : Word := w32 (leAt bs i 4)
  if 0x100000 ≤ o then (if a == .tc then Store.get zeroW s.sec.priv (o / 4) else 0)
  else if o < 0x1EB0 ∨ (0x2040 ≤ o ∧ o < 0x2060) ∨ (0x2100 ≤ o ∧ o < 0x2140) then Store.get zeroW s.sec.win (o / 4)
  else if 0x2000 ≤ o ∧ o < 0x2020 then word s.sec.nonce (o - 0x2000)
  else if 0x2180 ≤ o ∧ o < 0x21A0 then word s.sec.digest (o - 0x2180)
  else if 0x3000 ≤ o ∧ o < 0x4000 then w32 (rightsWord s ((o - 0x3000) / 4))
  else if 0x4000 ≤ o ∧ o < 0x4400 then word (keySlot s ((o - 0x4000) / 64)).bytes (o % 64)
  else if 0x4400 ≤ o ∧ o < 0x4500 then word (measOf s ((o - 0x4400) / 32)) (o % 32)
  else if 0x8000 ≤ o ∧ o < 0xC460 then word ((List.range 4).map fun i => reportByte s (o - 0x8000 + i)) 0
  else 0

/-- A write into the SEC window (R421). -/
def writeSecWindow (s : State) (a : Agent) (off : Nat) (v : Word) : State :=
  let o := off / 4 * 4
  if 0x100000 ≤ o then
    (if a == .tc then { s with sec := { s.sec with priv := Store.set zeroW s.sec.priv (o / 4) v } } else s)
  else if o < 0x1EB0 ∨ (0x2040 ≤ o ∧ o < 0x2060) ∨ (0x2100 ≤ o ∧ o < 0x2140 ∧ s.sec.req.isNone) then
    { s with sec := { s.sec with win := Store.set zeroW s.sec.win (o / 4) v } }
  else s

end Sys2Proof.Machine
end

