-- ==== Sys2Proof/Machine/Boot.lean ====
section
/-! DEFINITION. The trusted core's boot chain, images, and the audit log (R395 to R400, R416 to R420). -/

namespace Sys2Proof.Machine

/-! ### Images (R397, R398) -/

/-- A component of a manifest: type, load offset, offset and length in the slot, hash. -/
structure Component where
  type   : Nat
  load   : Nat
  offset : Nat
  length : Nat
  hash   : List Byte
  deriving DecidableEq, Repr

/-- Component `c` of an image. -/
def component (img : List Byte) (c : Nat) : Component :=
  let o := 0x40 + 48 * c
  ⟨leAt img o 4, leAt img (o + 4) 4, leAt img (o + 8) 4, leAt img (o + 12) 4, bytesAt img (o + 16) 32⟩

/-- The components of an image. -/
def components (img : List Byte) : List Component := (List.range (leAt img 0x14 4)).map (component img)

/-- The bytes of a component. -/
def Component.data (img : List Byte) (c : Component) : List Byte := bytesAt img c.offset c.length

/-- SVN of an image. -/
def imageSvn (img : List Byte) : Nat := leAt img 8 4

/-- An image that the TC accepts (R397, R398): a manifest of format 1 with 1 to 16 components and an SVN of at most 63, an unrevoked
signing key, the signature, SVN not below SVN_MIN, every component's hash. -/
def imageOk (s : State) (img : List Byte) : Bool :=
  let key := fwKey s (leAt img 0x10 4)
  let n := leAt img 0x14 4
  img.take 4 == ascii "YZ8I" && leAt img 4 4 == 1 && decide (leAt img 0x10 4 ≤ 3) && decide (1 ≤ n) && decide (n ≤ 16) &&
    key.programmed && !key.revoked && sha256 (bytesAt img 0x20 32) == key.hash &&
    Config.slhVerify (bytesAt img 0x20 32) (ascii "YZ8-FW") (bytesAt img 0 0x400) (bytesAt img 0x400 7856) &&
    decide (s.otp.svnMin ≤ imageSvn img) && decide (imageSvn img ≤ 63) &&
    (components img).all fun c => decide (c.offset + c.length ≤ img.length) && sha256 (c.data img) == c.hash

/-- Image slot 0 (A) or 1 (B). -/
def imageSlot (s : State) (i : Nat) : List Byte := if i = 1 then s.nor.slotB else s.nor.slotA

/-- Board data that verifies (R397, R398): signed by any key whose hash OTP holds. -/
def boardOk (s : State) : Bool :=
  let b := s.nor.board
  let pk := bytesAt b 0x20 32
  ((List.range 4).any fun i => (fwKey s i).programmed && (fwKey s i).hash == sha256 pk) &&
    Config.slhVerify pk (ascii "YZ8-FW") (bytesAt b 0 0x1000) (bytesAt b 0x1000 7856)

/-! ### The audit log (R416 to R420) -/

/-- Records that the log region holds. -/
def logPlaces : Nat := 524288

/-- H of the record before the first. -/
def firstHash : List Byte := sha256 (ascii "YZ8-AUD" ++ idBytes)

/-- The record at a SEQ, where the log holds it. -/
def logAt (s : State) (q : Nat) : Option (List Byte) :=
  let r := Store.get (fun _ => []) s.nor.log (q % logPlaces)
  if r.length = 64 ∧ leAt r 0 8 = q then some r else none

/-- A record's hash follows from the hash of the record before it. -/
def follows (h r : List Byte) : Bool := bytesAt r 32 32 == sha256 (h ++ r.take 32)

/-- The chain from SEQ `q` on: records that follow each other, as far as they verify; `h` the hash before `q`, where it is known. -/
def chainFrom (s : State) : Nat → Nat → Option (List Byte) → List (Nat × List Byte)
  | 0, _, _ => []
  | n + 1, q, h =>
    match logAt s q with
    | some r => if h.all fun x => follows x r then (q, r) :: chainFrom s n (q + 1) (some (bytesAt r 32 32)) else []
    | none => []

/-- SEQ of the oldest record that the log holds. -/
def oldestSeq (s : State) : Nat :=
  let l := (s.nor.log.map fun e => leAt e.2 0 8).filter fun q => (logAt s q).isSome
  l.foldl min (l.headD 0)

/-- SEQs and records that verify (R419, R420): each follows from the one before it, back to the oldest retained, which stands by
itself unless it is the first of all (log entry 145). -/
def goodRecords (s : State) : List (Nat × List Byte) :=
  let q := oldestSeq s
  chainFrom s s.nor.log.length q (if q = 0 then some firstHash else none)

/-- The newest of some records. -/
def newestOf (l : List (Nat × List Byte)) : Option (Nat × List Byte) :=
  l.foldl (fun best e => match best with | some b => if b.1 < e.1 then some e else some b | none => some e) none

/-- SEQ of the oldest record retained when `q` is the newest written: the sector of the next record is erased (R418). -/
def firstSeq (q : Nat) : Nat := if q < logPlaces then 0 else q / 1024 * 1024 + 1024 - logPlaces

/-- The AUD registers show the newest record written. -/
def showLog (s : State) : State :=
  let q := s.aud.next - 1
  let s := wr64 s Reg.AUD.SEQ_LO Reg.AUD.SEQ_HI q
  let s := wr64 s Reg.AUD.FIRST_LO Reg.AUD.FIRST_HI (firstSeq q)
  (List.range 8).foldl (fun s w => wr s (Reg.AUD.HEAD_HASH w) (w32 (leAt s.aud.head (4 * w) 4))) s

/-- Bytes 0 to 31 of a record. -/
def recordContent (q : Nat) (r : AudRec) : List Byte :=
  leBytes 8 q ++ leBytes 6 r.sec ++ leBytes 4 r.ns ++ leBytes 1 r.kind ++ leBytes 1 (r.agent + 8 * r.role) ++ padTo 12 r.args

/-- AUD_STATUS. -/
def audStatus (s : State) : Word := w32 ((rdF s Reg.AUD.AUD_STATUS 1 0) + 256 * s.aud.queue.length)

/-- R418: the TC writes the next queued record, erasing the oldest sector before writing into it; under the safe action of AUD
nothing is written (R388). A failed operation counts and leaves the record queued. -/
def execAuditRecordWrite (norOk : Bool) (s : State) : Host.Outcome State Fault Refusal :=
  live s (match s.aud.queue with
    | [] => s
    | r :: rest =>
      if !s.sec.booted || safe s Page.AUD then s
      else if !norOk then norFail s
      else
        let q := s.aud.next
        let prev := if q = 0 then firstHash else s.aud.head
        let c := recordContent q r
        let h := sha256 (prev ++ c)
        let log := if q % 1024 = 0 then
            s.nor.log.filter fun e => !(decide (q % logPlaces ≤ e.1) && decide (e.1 < q % logPlaces + 1024))
          else s.nor.log
        let t := { s with
          nor := { s.nor with log := Store.set (fun _ => []) log (q % logPlaces) (c ++ h) }
          aud := { s.aud with queue := rest, next := q + 1, head := h } }
        showLog (wrB t Reg.AUD.AUD_STATUS 1 true))

/-- Word of the AUD window: record q for FIRST ≤ q ≤ SEQ (R423). -/
def readAudWindow (s : State) (off : Nat) : Word :=
  let place := off / 64
  let first := rd64 s Reg.AUD.FIRST_LO Reg.AUD.FIRST_HI
  let q := first + (place + logPlaces - first % logPlaces) % logPlaces
  if place < logPlaces ∧ s.aud.next ≠ 0 ∧ q ≤ rd64 s Reg.AUD.SEQ_LO Reg.AUD.SEQ_HI then
    match logAt s q with
    | some r => w32 (leAt r (off % 64 / 4 * 4) 4)
    | none => 0
  else 0

/-! ### Boot (R398, R400, R420) -/

/-- A SerDes lane's preset as the board data gives it (R452): 3 where the data fails; the reserved 7 acts as 3. -/
def boardPreset (s : State) (ok : Bool) (l : Nat) : Nat :=
  let b := (byteAt s.nor.board (0x400 + l)).toNat % 8
  if !ok || b == 7 then 3 else b

/-- SerDes lanes leave reset: each takes its preset (R452). -/
def takePresets (s : State) (ok : Bool) (lanes : List Nat) : State :=
  let m := lanes.foldl (fun m l => Store.set (fun _ => 3) m l (boardPreset s ok l)) s.rst.presets
  { s with rst := { s.rst with presets := m } }

/-- Lanes of a page's port (R452): tile port, ingest port, service port. -/
def portLanes (k : PageKind) (i : Nat) : List Nat :=
  match k with
  | .tp => [i]
  | .ig => (List.range 4).map fun j => 256 + 4 * i + j
  | .sv => [328 + i]
  | _ => []

/-- The transmit preset that a lane has taken. -/
def lanePreset (s : State) (l : Nat) : Nat := Store.get (fun _ => 3) s.rst.presets l

/-- A preset's differential swing in mV, and its pre-cursor and post-cursor in tenths of a dB (R452). -/
def presetSetting (p : Nat) : Nat × Nat × Nat :=
  match p with
  | 0 => (400, 0, 0)
  | 1 => (600, 0, 0)
  | 2 => (800, 0, 20)
  | 4 => (900, 10, 45)
  | 5 => (1000, 15, 60)
  | 6 => (1000, 20, 80)
  | _ => (800, 0, 35)

/-- Step 1: subsystem IDs and BOARD_OK; every port's SerDes takes its preset (R452, log entry 119); the PCIE domain is released. -/
def bootBoard (s : State) : State :=
  let ok := boardOk s
  let s := takePresets s ok (List.range 330)
  let s := if ok then { s with pcie := { s.pcie with subVendor := leAt s.nor.board 0 2, subDevice := leAt s.nor.board 2 2 } } else s
  wrB { s with rst := { s.rst with pcieUp := s.rst.refPcie && !s.rst.pcieHold } } Reg.SEC.SEC_STATUS 8 ok

/-- CFG_GEN that the newest EPOCH record, or REQ_APPLIED record of a RIGHTS or ENROL request, carries. -/
def loggedGen (s : State) : Option Nat :=
  let gens (e : Nat × List Byte) : Bool :=
    beAt e.2 18 1 == 1 || (beAt e.2 18 1 == 9 && (beAt e.2 22 1 == 1 || beAt e.2 22 1 == 2))
  (newestOf ((goodRecords s).filter gens)).map fun e => leAt e.2 24 4

/-- The configuration copy in force: HMAC verified, CFG_GEN as the log has it, the higher generation. -/
def chooseCfg (s : State) : Option CfgBlock :=
  let good (b : CfgBlock) : Bool := b.hmac == cfgHmac s (cfgBytes b.gen b.keys b.rights)
  let l := ([s.nor.cfg0, s.nor.cfg1].filterMap id).filter good
  let best := l.foldl (fun best b => match best with | some x => if x.gen < b.gen then some b else some x | none => some b) none
  best.filter fun b => loggedGen s == some b.gen

/-- Public key of maker slot `i` at manufacture. -/
def makerKey (i : Nat) : List Byte := (List.range 32).map (Config.makerKeyByte i)

/-- MAKER_KEY0 or 1 of OTP: the hash of the key enrolled at manufacture (R396). -/
def makerHash (s : State) (i : Nat) : List Byte := Store.get (fun i => sha256 (makerKey i)) s.otp.makers i

/-- The key table of a boot without a configuration block: the maker slots alone, whose keys match OTP (R407, R420). -/
def makerKeys (s : State) : Store KeySlot :=
  ([0, 1].filter fun i => sha256 (makerKey i) == makerHash s i).map fun i => (i, ⟨3, 0, makerKey i, []⟩)

/-- Step 2: EPOCH rises, the anchor is judged, the log's head is found and the configuration block loaded. -/
def bootConfig (s : State) : State :=
  let e := min 16384 (s.otp.epoch + 1)
  let good := goodRecords s
  let anchor := (newestOf (good.filter fun r => beAt r.2 18 1 == 1)).map fun r => leAt r.2 20 4
  let fails := anchor != some (e - 1)
  let s := match newestOf good with
    | some r => { s with aud := { s.aud with next := r.1 + 1, head := bytesAt r.2 32 32 } }
    | none => { s with aud := { s.aud with next := 0, head := [] } }
  let cfg := chooseCfg s
  let s := { s with otp := { s.otp with epoch := e } }
  let s := showLog (wr s Reg.AUD.EPOCH (w32 e))
  let s := wr s Reg.AUD.AUD_STATUS (w32 ((!fails).toNat + 2))
  let s := wrB (wrB (wrB s Reg.SEC.SEC_STATUS 5 fails) Reg.SEC.SEC_STATUS 6 cfg.isNone) Reg.SEC.SEC_STATUS 7 (e == 16384)
  match cfg with
  | some b => wr { s with sec := { s.sec with keys := b.keys, rights := b.rights } } Reg.SEC.CFG_GEN (w32 b.gen)
  | none => wr { s with sec := { s.sec with keys := makerKeys s, rights := [] } } Reg.SEC.CFG_GEN 0

/-- The slot that boots: the preferred one, then the other (R398). -/
def bootSlot (s : State) : Option Nat :=
  [s.nor.preferred, 1 - s.nor.preferred].find? fun i => imageOk s (imageSlot s i)

/-- Measurements of a boot (R400). -/
def bootMeasure (s : State) (img : Option (List Byte)) : State :=
  let s := extend s 0 ((List.range 32).map Config.romHashByte)
  let s := if rdB s Reg.SEC.SEC_STATUS 6 then s else extend s 4 (sha256 (cfgBlock s).bytes)
  match img with
  | none => s
  | some m =>
    let s := extend s 1 (sha256 (m.take 0x400))
    (components m).foldl (fun s c => if c.type = 1 then extend s 2 c.hash else if c.type = 2 ∨ c.type = 3 then extend s 3 c.hash else s) s

/-- Bytes of the TC's private SRAM (R394). -/
def tcSramBytes : Nat := 0x200000

/-- Components go to the TC's SRAM and to MGT SRAM, where the code is protected from then on (R398, R402). -/
def loadComponents (s : State) (m : List Byte) : State :=
  let t := (components m).foldl (fun s c =>
    if c.type = 1 then
      { s with sec := { s.sec with sram := Store.setList memDefault s.sec.sram c.load ((c.data m).take (tcSramBytes - c.load)) } }
    else if c.type = 2 ∨ c.type = 3 then sramWrite s c.load (c.data m)
    else s) s
  let parts := ((components m).filter fun c => c.type = 2 ∨ c.type = 3).map fun c => (⟨c.type == 2, c.load, c.length, c.hash⟩ : LoadedPart)
  { t with mgt := { t.mgt with parts := parts } }

/-- A core runs: RUNNING set, HALTED clear, its watchdog period begins (R405). -/
def startCore (s : State) (k : Nat) : State :=
  let s := wrB (wrB s Reg.MGT.CORE_STATUS k true) Reg.MGT.CORE_STATUS (4 + k) false
  { s with mgt := { s.mgt with kicked := Store.set zeroN s.mgt.kicked k s.time.uptime } }

/-- Steps 4 and 5 with an acceptable slot. -/
def bootImage (s : State) (i : Nat) : State :=
  let m := imageSlot s i
  let s := loadComponents s m
  let s := wr s Reg.MGT.WDT_MS (w32 (leAt m 0x18 4 % 65536))
  let s := (List.range 4).foldl startCore s
  let s := wrB (wrB s Reg.SEC.SEC_STATUS 0 true) Reg.SEC.SEC_STATUS 1 (i == 1)
  if leAt m 0x0C 4 = 1 then { s with otp := { s.otp with svnMin := max s.otp.svnMin (imageSvn m) } } else s

/-- The EPOCH record (R417, R420). -/
def epochRecord (s : State) (slot svn : Nat) : State :=
  audit s 0x01 2 0 (epochBytes s ++ leBytes 4 (rdN s Reg.SEC.CFG_GEN) ++
    [BitVec.ofNat 8 slot, BitVec.ofNat 8 (rdF s Reg.SEC.SEC_STATUS 6 5), BitVec.ofNat 8 svn])

/-- R398: the TC boots. -/
def execTcBoot (s : State) : Host.Outcome State Fault Refusal :=
  live s (if s.sec.booted then s
    else
      let s := bootConfig (bootBoard s)
      let slot := bootSlot s
      let s := bootMeasure s (slot.map (imageSlot s))
      let s := { s with sec := { s.sec with booted := true } }
      match slot with
      | some i =>
        let svn := imageSvn (imageSlot s i)
        let s := bootImage s i
        epochRecord (wr s Reg.SEC.SVN (w32 (svn % 256 + 256 * s.otp.svnMin))) i svn
      | none => epochRecord (wr s Reg.SEC.SVN (w32 (256 * s.otp.svnMin))) 0xFF 0)

/-! ### Image update (R399) -/

/-- UPD_STATUS. -/
def updStatus (s : State) : Word := w32 (s.sec.update.isSome.toNat + (rd s Reg.SEC.UPD_STATUS &&& 0x1F0).toNat)

/-- Set UPD_STATUS.RESULT. -/
def updResult (s : State) (r : Nat) : State := wrF s Reg.SEC.UPD_STATUS 7 4 r

/-- A write of UPD_CTRL: GO needs an installer or maker session (R411). -/
def writeUpdCtrl (s : State) (v : Word) : State :=
  if !bit v 0 then s
  else if sessRole s < 2 then updResult s 5
  else if s.sec.update.isSome then updResult s 10
  else
    let a := rdF s Reg.SEC.UPD_ADDR_HI 4 0 * 2 ^ 32 + rdF s Reg.SEC.UPD_ADDR_LO 31 12 * 4096
    { s with sec := { s.sec with update := some (a, rdF s Reg.SEC.UPD_LEN 23 0) } }

/-- R399: a write of UPD_CTRL.GO. -/
def execImageUpdate (a : Agent) (v : Word) (s : State) : Host.Outcome State Fault Refusal :=
  live s (guarded s a Reg.SEC.UPD_CTRL v .cmd (writeUpdCtrl s v))

/-- The slot an update writes: the one that did not boot; the one not preferred where neither did. -/
def updateSlot (s : State) : Nat :=
  if rdB s Reg.SEC.SEC_STATUS 0 then 1 - rdF s Reg.SEC.SEC_STATUS 1 1 else 1 - s.nor.preferred

/-- R399: the TC has verified and written the image and verified the slot as read back, or reports a failure: where the NOR
operation fails, or what is read back does not verify (`norOk`), both slots and the preference stay (log entry 147). -/
def execImageUpdateDone (s : State) (norOk : Bool := true) : Host.Outcome State Fault Refusal :=
  live s (match s.sec.update with
    | none => s
    | some (a, len) =>
      let img := memRead s a len
      let s := noteRead { s with sec := { s.sec with update := none } } a len
      if len ≤ 0xC00000 ∧ inMem a len ∧ !memPoisoned s a len ∧ imageOk s img then
        if !norOk then updResult (norFail s) 9 else
        let i := updateSlot s
        let nor := if i = 1 then { s.nor with slotB := img, preferred := 1 } else { s.nor with slotA := img, preferred := 0 }
        let t := wrF (updResult { s with nor := nor } 0) Reg.SEC.UPD_STATUS 8 8 i
        audit t 0x0E 2 0 [BitVec.ofNat 8 i, BitVec.ofNat 8 (imageSvn img)]
      else updResult s 9)

end Sys2Proof.Machine
end

