-- ==== Sys2Proof/Machine/Mgmt.lean ====
section
/-! DEFINITION. The management cluster (R402 to R406): firmware's memory windows, watchdogs, core restarts, and frames that firmware
sends on IG and SV ports. -/

namespace Sys2Proof.Machine

/-! ### Windows (R403) -/

/-- A window holds an access whole and permits it. -/
def inWindow (s : State) (a n : Nat) (write : Bool) : Bool :=
  (List.range 8).any fun w =>
    let base := rdF s (Reg.MGT.WIN_BASE_HI w) 4 0 * 2 ^ 32 + rdF s (Reg.MGT.WIN_BASE_LO w) 31 12 * 4096
    rdB s (Reg.MGT.WIN_PERM w) write.toNat && decide (base ≤ a) && decide (a + n ≤ base + rdF s (Reg.MGT.WIN_SIZE w) 23 0 * 4096)

/-- An access refused by the windows: counted; the first is recorded. -/
def fwFault (s : State) (core a : Nat) (write : Bool) : State :=
  let s := bump s Reg.MGT.FW_FAULT
  let s := if rdB s Reg.MGT.FW_FAULT_INFO 31 then s
    else wr (wr64 s Reg.MGT.FW_FAULT_ADDR_LO Reg.MGT.FW_FAULT_ADDR_HI a) Reg.MGT.FW_FAULT_INFO (w32 (2 ^ 31 + (core % 4 + 4 * write.toNat)))
  raiseE s Page.MGT 1

/-- A core is running. -/
def running (s : State) (k : Nat) : Bool := decide (k < 4) && rdB s Reg.MGT.CORE_STATUS k

/-- A core may access memory: it runs, or executes the instruction that JTAG stepped (R412). -/
def mayAccess (s : State) (k : Nat) : Bool := running s k || s.mgt.stepped.contains k

/-- A stepped instruction has made its access. -/
def endStep (s : State) (k : Nat) : State :=
  if s.mgt.stepped.contains k then { s with mgt := { s.mgt with stepped := s.mgt.stepped.filter (· != k) } } else s

/-- R403: an access of firmware to device memory at device address `addr`. `core` 4 is the trusted core, which no window restricts
(R394). -/
def execFwMemoryAccess (core addr : Nat) (write : Bool) (len : Nat) (data : List Byte) (s : State) : Host.Outcome State Fault Refusal :=
  let reply (s : State) (bs : List Byte) : State := { s with out := { s.out with fw := bs } }
  let tc := core == 4 && s.sec.booted
  let t := endStep s core
  live s (if !(tc || mayAccess s core) then s
    else if (tc || inWindow s addr len write) && inMem addr len then
      (if write then memWrite t addr (padTo len data) else reply (noteRead t addr len) (memRead t addr len))
    else
      let t := if tc then t else fwFault t core addr write
      if write then t else reply t (List.replicate len 0))

/-! ### Watchdogs and restarts (R405) -/

/-- A write of WDT_KICK. -/
def writeKick (s : State) (v : Word) : State :=
  (List.range 4).foldl (fun s k =>
    if bit v k then { s with mgt := { s.mgt with kicked := Store.set zeroN s.mgt.kicked k s.time.uptime } } else s) s

/-- R405: a write of WDT_KICK. -/
def execWdtKick (a : Agent) (v : Word) (s : State) : Host.Outcome State Fault Refusal :=
  live s (guarded s a Reg.MGT.WDT_KICK v .cmd (writeKick s v))

/-- A core is halted and awaits its restart, with a cause: 0 watchdog, 1 fault. -/
def haltFor (s : State) (k cause : Nat) : State :=
  let s := wrB (wrB s Reg.MGT.CORE_STATUS k false) Reg.MGT.CORE_STATUS (4 + k) true
  { s with mgt := { s.mgt with
      waiting := s.mgt.waiting ++ [(k, cause)]
      dbgHalt := s.mgt.dbgHalt.filter (· != k)
      stepped := s.mgt.stepped.filter (· != k) } }

/-- A core whose watchdog runs: it runs, or is halted by JTAG. -/
def watched (s : State) (k : Nat) : Bool := running s k || s.mgt.dbgHalt.contains k

/-- R405: a core's watchdog period has passed. -/
def execWatchdogExpiry (core : Nat) (s : State) : Host.Outcome State Fault Refusal :=
  let due := elapsedUs s (Store.get zeroN s.mgt.kicked core) (1000 * rdF s Reg.MGT.WDT_MS 15 0)
  live s (if watched s core && due then haltFor s core 0 else s)

/-- R405: a core faults. -/
def execCoreFault (core : Nat) (s : State) : Host.Outcome State Fault Refusal :=
  live s (if running s core then haltFor s core 1 else s)

/-- The RESTART record. -/
def restartRecord (s : State) (k cause n : Nat) : State :=
  audit s 0x0B 2 0 [BitVec.ofNat 8 k, BitVec.ofNat 8 cause, BitVec.ofNat 8 n]

/-- The code in MGT SRAM is what MEAS3 was extended with, beside the hashes of the data components (R400, R405). -/
def codeIntact (s : State) : Bool :=
  s.mgt.parts.foldl (fun m c => sha256 (m ++ if c.code then sha256 (sramRead s c.load c.length) else c.hash)) (List.replicate 32 0) ==
    measOf s 3

/-- R405: the TC restarts a halted core, or leaves it halted: after four restarts in 60 s, and where its code is not what was
measured (log entry 144). -/
def execCoreRestart (core : Nat) (s : State) : Host.Outcome State Fault Refusal :=
  live s (match s.mgt.waiting.find? fun e => e.1 == core with
    | none => s
    | some (k, cause) =>
      let s := completeCore s k
      let recent := s.mgt.restarts.filter fun e => e.1 == k && !elapsedUs s e.2 60000000
      let s := { s with mgt := { s.mgt with waiting := s.mgt.waiting.filter fun e => e.1 != k } }
      if 4 ≤ recent.length then restartRecord (wrB s Reg.MGT.CORE_STATUS (8 + k) true) k cause recent.length
      else if !codeIntact s then restartRecord s k cause recent.length
      else
        let keep := (s.mgt.restarts.filter fun e => e.1 != k) ++ recent ++ [(k, s.time.uptime)]
        let s := startCore { s with mgt := { s.mgt with restarts := keep } } k
        let s := wr (bump s Reg.MGT.RESTARTS) Reg.MGT.LAST_RESTART (w32 (2 ^ 31 + (k + 4 * cause)))
        restartRecord (raiseE s Page.MGT 0) k cause (recent.length + 1))

/-! ### Firmware's transmit ring (R406, R290) -/

/-- Entries of the transmit ring. -/
def txqSize (s : State) : Nat := 2 ^ rdF s Reg.MGT.TXQ_CFG 4 1

/-- SRAM address of the transmit descriptor at an index. -/
def txqDesc (s : State) (i : Nat) : Nat := rdN s Reg.MGT.TXQ_BASE + 32 * (i % txqSize s)

/-- Frames of `n` entries from index `i` go to their ports. -/
def txqPost (s : State) (i n : Nat) : State :=
  let one (j : Nat) : Nat × Nat × Nat :=
    let d := sramRead s (txqDesc s (i + j)) 4
    (beAt d 2 1, beAt d 3 1 % 2, (i + j) % 65536)
  { s with mgt := { s.mgt with txBusy := s.mgt.txBusy ++ (List.range (min n (txqSize s))).map one } }

/-- A write of TXQ_IDX: PROD moves; entries it passes are posted while the ring is on. -/
def writeTxqIdx (s : State) (v : Word) : State :=
  let old := rdF s Reg.MGT.TXQ_IDX 15 0
  let n := wrapTo 16 ((fld v 15 0 : Int) - old)
  let t := wrF s Reg.MGT.TXQ_IDX 15 0 (fld v 15 0)
  if rdB s Reg.MGT.TXQ_CFG 0 then txqPost t old n else t

/-- R406: a write of TXQ_IDX.PROD. -/
def execTxqDoorbell (a : Agent) (v : Word) (s : State) : Host.Outcome State Fault Refusal :=
  live s (guarded s a Reg.MGT.TXQ_IDX v .cfg (writeTxqIdx s v))

/-- Sum of 16-bit big-endian words of a byte string. -/
def sum16 : List Byte → Nat
  | [] => 0
  | [a] => a.toNat * 256
  | a :: b :: r => a.toNat * 256 + b.toNat + sum16 r

/-- Overwrite bytes at an offset. -/
def patch (bs : List Byte) (o : Nat) (x : List Byte) : List Byte := bs.take o ++ x ++ bs.drop (o + x.length)

/-- Bytes of an IEEE 802.1Q tag in a frame. -/
def tagBytes (f : List Byte) : Nat := if beAt f 12 2 = 0x8100 then 4 else 0

/-- Where a PTP event message starts in a frame, with or without one tag, and whether it is carried by UDP: EtherType 0x88F7, or UDP
port 319. -/
def ptpOffset (f : List Byte) : Option (Nat × Bool) :=
  let q := tagBytes f
  let ip := 14 + q
  let ihl := 4 * (beAt f ip 1 % 16)
  if beAt f (12 + q) 2 = 0x88F7 then some (ip, false)
  else if beAt f (12 + q) 2 = 0x0800 ∧ beAt f (ip + 9) 1 = 17 ∧ beAt f (ip + ihl + 2) 2 = 319 then some (ip + ihl + 8, true)
  else none

/-- The last two bytes of the UDP payload that make the checksum verify (R290). -/
def csumPad (f : List Byte) (udp : Nat) : List Byte :=
  let len := beAt f (udp + 4) 2
  let g := patch f (udp + len - 2) [0, 0]
  let total := sum16 (bytesAt g (26 + tagBytes f) 8) + 17 + len + sum16 (bytesAt g udp len)
  let x := 65535 - total % 65535
  patch f (udp + len - 2) (if len % 2 = 0 then beBytes 2 x else leBytes 2 x)

/-- One-step insertion (R290): originTimestamp gets the whole ns of Tegress, correctionField the fraction; the UDP checksum is
zeroed or made to verify. -/
def oneStep (f : List Byte) (pad : Bool) (t : Int) : List Byte :=
  match ptpOffset f with
  | none => f
  | some (o, udp) =>
    if 4 ≤ beAt f o 1 % 16 then f
    else
      let x := splitTime t
      let f := patch f (o + 34) (beBytes 6 x.1 ++ beBytes 4 x.2.1)
      let f := patch f (o + 8) (beBytes 8 (beAt f (o + 8) 8 + x.2.2))
      if !udp then f else if pad then csumPad f (o - 8) else patch f (o - 2) [0, 0]

/-- CONS passes every entry that no frame on its way still uses. -/
def txqRetire (s : State) : State :=
  let cons := rdF s Reg.MGT.TXQ_IDX 31 16
  let prod := rdF s Reg.MGT.TXQ_IDX 15 0
  let ahead (i : Nat) : Nat := wrapTo 16 ((i : Int) - cons)
  let n := s.mgt.txBusy.foldl (fun n e => min n (ahead e.2.2)) (ahead prod)
  wrF s Reg.MGT.TXQ_IDX 31 16 (cons + n)

/-- Time a frame of `len` bytes and its FCS takes after its start-of-frame delimiter, in 2^-16 ns: 100 Gb/s on IG, 10 Gb/s on SV. -/
def netWireTime (kind len : Nat) : Int := ((len + 4) * 8 * 65536 / (if kind = 1 then 10 else 100) : Nat)

/-- R406: a firmware frame has left the wire. -/
def execTransmitDone (port kind : Nat) (s : State) : Host.Outcome State Fault Refusal :=
  live s (match s.mgt.txBusy.find? fun e => e.1 == port && e.2.1 == kind with
    | none => s
    | some e =>
      let d := txqDesc s e.2.2
      let desc := sramRead s d 32
      let len := leAt desc 0 2 % 16384
      let opts := leAt desc 4 4
      let t := egressTime s (if kind = 1 then 272 + port else 256 + port) - netWireTime kind len
      let x := splitTime t
      let f := sramRead s (leAt desc 8 4) len
      let f := if opts.testBit 1 then oneStep f (opts.testBit 2) t else f
      let done := leBytes 1 (beAt desc 0x16 1 / 2 * 2 + 1)
      let s := if opts.testBit 0 then
          sramStore (sramStore s (d + 0x10) (leBytes 6 x.1)) (d + 0x18) (leBytes 4 x.2.1 ++ leBytes 2 x.2.2)
        else s
      let s := sramStore s (d + 0x16) done
      let s := { s with
        out := { s.out with net := f }
        mgt := { s.mgt with txBusy := s.mgt.txBusy.erase e } }
      txqRetire (if kind = 1 then bump s (Reg.SV.TX_FRAMES port) else s))

end Sys2Proof.Machine
end

