-- ==== Sys2Proof/Machine/Resets.lean ====
section
/-! DEFINITION. Resets, references, clocks and power (R426 to R441), the host link's domain (R433), and the sensors. -/

namespace Sys2Proof.Machine

/-! ### Device reset (R431) -/

/-- Registers that a device reset keeps: RESET_CAUSE, the peaks of PWR and the energy since POR (R431, R440). -/
def keptRegs : List Nat := [Reg.CRU.RESET_CAUSE, Reg.PWR.TEMP_PEAK, Reg.PWR.POWER_PEAK, Reg.PWR.ENERGY_LO, Reg.PWR.ENERGY_HI]

/-- The register file with these registers alone kept. -/
def keepRegs (s : State) (l : List Nat) : Store Word := l.foldl (fun m a => Store.set resetWord m a (rd s a)) []

/-- Resets, references and locks as a device reset in force leaves them: every PLL and initialisation starts anew. -/
def ResetSt.hold (r : ResetSt) (por : Bool) : ResetSt :=
  { r with
    held := true, por := por, sysLock := false, octets := 0, igs := 0, sramDone := false, hbmDone := false
    pcieUp := false, pwr := .active, pwrNext := none, hot := r.hot.map fun _ => 0, presets := [] }

/-- A device reset (R431, R434): everything but what is kept goes to its reset value, and the reset is held until its
release. -/
def deviceReset (s : State) : State :=
  { State.reset with
    pending := s.pending, free := s.free, mem := s.mem, poison := s.poison, hostMem := s.hostMem, otp := s.otp, nor := s.nor
    regs := keepRegs s keptRegs, rst := s.rst.hold false }

/-- A device reset with its cause in RESET_CAUSE, whose bits accumulate (R439). -/
def resetFor (s : State) (cause : Nat) : State := wrB (deviceReset s) Reg.CRU.RESET_CAUSE cause true

/-- R431: power-on reset resets everything except OTP; the NOR device is not on the die. -/
def execPowerOnReset (s : State) : Host.Outcome State Fault Refusal :=
  .next { State.reset with
    pending := s.pending, free := s.free, hostMem := s.hostMem, otp := s.otp, nor := s.nor
    rst := { (s.rst.hold true) with tripped := false } }

/-- R431, R438: a low pulse of RESET_N. From 1 µs it resets; below 100 ns it does not; between, a free bit decides. After a
thermal trip it acts once the die has cooled. -/
def execResetPin (ns : Nat) (s : State) : Host.Outcome State Fault Refusal :=
  if s.rst.tripped && !s.rst.cool then .next s
  else
    let go (s : State) : State := let t := resetFor s 1; { t with rst := { t.rst with tripped := false } }
    if 1000 ≤ ns then .next (go s)
    else if ns < 100 then .next s
    else
      let r := freshBit s
      .next (if r.1 then go r.2 else r.2)

/-- A write of DEV_RST: 0x0000_A5C3 resets; under the safe action of CRU requests are ignored (R388, R439). -/
def writeDevRst (s : State) (v : Word) : State := if v = 0xA5C3 ∧ !safe s Page.CRU then resetFor s 2 else s

/-- R439: a write of DEV_RST; firmware's is refused as a locked write. -/
def execDevRst (a : Agent) (v : Word) (s : State) : Host.Outcome State Fault Refusal :=
  let t := if a == .fw then refuseWrite s a Reg.CRU.DEV_RST v 0 else writeDevRst s v
  live s (guarded s a Reg.CRU.DEV_RST v .cmd t)

/-- R432: release of reset: references and PLLs are in order, and the block comes up. A thermal trip holds it (R438). -/
def execResetRelease (s : State) : Host.Outcome State Fault Refusal :=
  .next (if s.rst.held && !s.rst.tripped then
      { s with rst := { s.rst with held := false, por := false, refSys := true, sysLock := true, octets := 0xFFFFFFFF, igs := 0xFFFF } }
    else s)

/-- R434: every on-chip store holds its initial values. -/
def execSramInitDone (s : State) : Host.Outcome State Fault Refusal :=
  live s { s with rst := { s.rst with sramDone := true } }

/-- R432: all four stacks are trained. -/
def execHbmTrained (s : State) : Host.Outcome State Fault Refusal :=
  let t := (List.range 4).foldl (fun s k => wrB s (Reg.MEM.MEM_STATUS k) 0 true) s
  live s { t with rst := { t.rst with hbmDone := true } }

/-! ### Losses (R429, R430, R438) -/

/-- R429: loss of REF_SYS, or of a system PLL's lock. -/
def execRefSysLoss (what : SysLoss) (s : State) : Host.Outcome State Fault Refusal :=
  .next (match what with
    | .ref => let t := resetFor s 4; { t with rst := { t.rst with refSys := false } }
    | .pll => resetFor s 3)

/-- R430: a monitored rail below 90 % for more than 10 µs. -/
def execSupplyDip (s : State) : Host.Outcome State Fault Refusal := .next (resetFor s 6)

/-- R438, R454: a thermal trip: a sensor has been at or above the fixed threshold for 1 ms. While a device reset is held no time is
counted, and a hot sample is enough (log entry 142). -/
def execThermalTrip (s : State) : Host.Outcome State Fault Refusal :=
  let due := match s.rst.hot with
    | some t => s.rst.held || elapsedUs s t 1000
    | none => false
  let t := resetFor s 5
  .next (if due then { t with rst := { t.rst with tripped := true, cool := false } } else s)

/-- THERM_TRIP_N is driven low (R435, R438). -/
def thermTripPin (s : State) : Bool := s.rst.tripped

/-- R429: octet PLL `o` loses lock; its eight ports go down and keep their schedules. -/
def execOctetPllUnlock (o : Nat) (s : State) : Host.Outcome State Fault Refusal :=
  let t := (List.range 8).foldl (fun s i => setTileLink s (8 * o + i) false false) s
  let t := raiseE (bump t Reg.CRU.OCTET_UNLOCKS) Page.CRU 0
  live s (if o < 32 ∧ bit s.rst.octets o then { t with rst := { t.rst with octets := setBit t.rst.octets o false } } else s)

/-- R429: octet PLL `o` has relocked. -/
def execOctetPllRelock (o : Nat) (s : State) : Host.Outcome State Fault Refusal :=
  live s (if o < 32 then { s with rst := { s.rst with octets := setBit s.rst.octets o true } } else s)

/-- R429: the PLL of ingest port `i` loses lock; the port's link goes down. -/
def execIgPllUnlock (i : Nat) (s : State) : Host.Outcome State Fault Refusal :=
  let t := raiseE (setIgLink s i (false, false, 0)) Page.CRU 1
  live s (if i < 16 ∧ bit s.rst.igs i then { t with rst := { t.rst with igs := setBit t.rst.igs i false } } else s)

/-- R429: the PLL of ingest port `i` has relocked. -/
def execIgPllRelock (i : Nat) (s : State) : Host.Outcome State Fault Refusal :=
  live s (if i < 16 then { s with rst := { s.rst with igs := setBit s.rst.igs i true } } else s)

/-- No SDI input locks. -/
def unlockSdi (s : State) : State :=
  (List.range 8).foldl (fun s i => setSdi s i (sdiState s i).1 false (sdiState s i).2.2) s

/-- R429: REF_SDI is lost. -/
def execRefSdiLoss (s : State) : Host.Outcome State Fault Refusal :=
  let t := if s.rst.held then s else unlockSdi s
  .next { t with rst := { t.rst with refSdi := false } }

/-- R429: REF_SDI returns. -/
def execRefSdiReturn (s : State) : Host.Outcome State Fault Refusal := .next { s with rst := { s.rst with refSdi := true } }

/-- R429: REF_AON is lost; AON, which no device reset holds, goes on from its own oscillator. -/
def execRefAonLoss (s : State) : Host.Outcome State Fault Refusal := .next { s with rst := { s.rst with refAon := false } }

/-- R429: REF_AON returns. -/
def execRefAonReturn (s : State) : Host.Outcome State Fault Refusal := .next { s with rst := { s.rst with refAon := true } }

/-! ### The PCIE domain (R365, R375, R391, R431, R433) -/

/-- What the function reports in configuration space beside what software sets (R375, R365). -/
structure PcieIdentity where
  vendor      : Nat
  device      : Nat
  revision    : Nat
  class_      : Nat
  subVendor   : Nat
  subDevice   : Nat
  noSoftReset : Bool
  maxPayload  : Nat
  maxRead     : Nat
  msixVectors : Nat
  serial      : Nat
  deriving DecidableEq, Repr

/-- The function's identity: the serial number is GBL.UNIQUE_ID. -/
def pcieIdentity (s : State) : PcieIdentity where
  vendor := 0x1F7C
  device := 0x8256
  revision := 0xB1
  class_ := 0x048000
  subVendor := s.pcie.subVendor
  subDevice := s.pcie.subDevice
  noSoftReset := true
  maxPayload := 512
  maxRead := 4096
  msixVectors := 64
  serial := Config.uniqueId.toNat

/-- R391: the link's live state. The link trains only with its domain released (R433); D0 is left and D3hot entered here, while the
way back to D0 is the command of R365. In L0 again it sends the messages that waited (R364). -/
def execPcieLinkChange (l : PcieLink) (s : State) : Host.Outcome State Fault Refusal :=
  let d := if s.pcie.link.dstate = 3 then 3 else l.dstate
  let t := { s with pcie := { s.pcie with link := { l with dstate := d }, l0Asked := s.pcie.l0Asked && l.aspm != 0 } }
  live s (if !s.rst.pcieUp then s else if s.pcie.link.aspm ≠ 0 ∧ l.aspm = 0 then flushHeld false t else t)

/-- R431: a reset of the PCIE domain: link and configuration space at their reset values, the session closes. It comes while a device
reset is held too (R433). -/
def execPcieDomainReset (why : PcieResetBy) (s : State) : Host.Outcome State Fault Refusal :=
  let t := if s.rst.held then s else closeSession s 2 0 5
  .next { t with
    pcie := { State.reset.pcie with subVendor := s.pcie.subVendor, subDevice := s.pcie.subDevice }
    icu := { t.icu with msix := [], pba := [] }
    rst := { t.rst with pcieUp := false, pcieHold := true, refPcie := t.rst.refPcie && why != .refLoss } }

/-- R433: the domain's reset ends, before, with or after the device's; the link may train once the board data step of the boot has
passed. -/
def execPcieDomainRelease (s : State) : Host.Outcome State Fault Refusal :=
  .next { s with rst := { s.rst with refPcie := true, pcieHold := false, pcieUp := s.sec.booted && !s.rst.held } }

/-- R375, R362: a host write to configuration space; pending messages whose mask has cleared are sent. A size above what the function
supports is taken as the largest (log entry 140); `pmeClear`: PME_Status is written as 1. -/
def execConfigurationWrite (c : PcieCfg) (s : State) (pmeClear : Bool := false) : Host.Outcome State Fault Refusal :=
  let c := { c with maxPayload := min 2 c.maxPayload, maxRead := min 5 c.maxRead }
  live s (if s.rst.pcieUp then
      flushPba { s with pcie := { s.pcie with cfg := c, pmeStatus := s.pcie.pmeStatus && !pmeClear } }
    else s)

/-- R391: a read of host memory ends by completion timeout. -/
def execCompletionTimeout (s : State) : Host.Outcome State Fault Refusal :=
  live s (raiseE (bump s Reg.GBL.HOST_CPL_TMO) Page.GBL 2)

/-! ### HBM (R392) -/

/-- R392: a stack starts link retraining. -/
def execHbmRetrain (m : Nat) (s : State) : Host.Outcome State Fault Refusal :=
  let t := bump (wrB s (Reg.MEM.MEM_STATUS m) 1 true) (Reg.MEM.RETRAINS m)
  live s (if m < 4 then raiseE t (Page.MEM m) 1 else s)

/-- R392: link retraining ends. -/
def execHbmRetrainingDone (m : Nat) (s : State) : Host.Outcome State Fault Refusal :=
  live s (if m < 4 then wrB s (Reg.MEM.MEM_STATUS m) 1 false else s)

/-! ### Standby (R436) -/

/-- The wall's links are down: tile, ingest, SDI and twin (R435). -/
def linksDown (s : State) : State :=
  let s := (List.range 256).foldl (fun s p => setTileLink s p false false) s
  let s := (List.range 16).foldl (fun s i => setIgLink s i (false, false, 0)) s
  let s := (List.range 8).foldl (fun s i => setSdi s i false false (sdiState s i).2.2) s
  { s with twn := { s.twn with link0 := false, link1 := false } }

/-- STANDBY is being entered: the device stops as a wall source; sequencers and bands start anew afterwards. -/
def enterStandby (s : State) : State :=
  let s := forgetFrom (linksDown s) 0
  { s with
    ports := Store.mapV (fun _ => TilePort.reset) (fun x => { x with run := none, send := none }) s.ports
    rst := { s.rst with pwr := .entering } }

/-- Every port's queue samples are taken up to the instant `now` (log entry 132). -/
def settleSamples (s : State) (now : Nat) : State :=
  (List.range 256).foldl (fun s p => setPort s p { port s p with sampled := max (port s p).sampled now }) s

/-- STANDBY is left: the gated clocks come back, and what counts multiples of the counter goes on from here (log entry 132). -/
def leaveStandby (s : State) : State :=
  let now := nowNs s
  let s := settleSamples s now
  { s with
    time := { s.time with tlg := max s.time.tlg now, twn := max s.time.twn now }
    rst := { s.rst with pwr := .leaving } }

/-- PWR_CTRL takes effect. -/
def applyPwr (s : State) (standby : Bool) : State :=
  match s.rst.pwr with
  | .active => if standby then enterStandby s else s
  | .standby => if standby then s else leaveStandby s
  | .entering => { s with rst := { s.rst with pwrNext := some standby } }
  | .leaving => { s with rst := { s.rst with pwrNext := some standby } }

/-- A write of PWR_CTRL. Under the safe action of CRU the power state stays (R388). -/
def writePwrCtrl (s : State) (v : Word) : State :=
  let t := wr s Reg.CRU.PWR_CTRL (v &&& 1)
  if safe s Page.CRU then t else applyPwr t (bit v 0)

/-- R436: a write of PWR_CTRL with STANDBY = 1. -/
def execStandbyEnter (a : Agent) (v : Word) (s : State) : Host.Outcome State Fault Refusal :=
  live s (guarded s a Reg.CRU.PWR_CTRL v .cfg (writePwrCtrl s v))

/-- R436: a write of PWR_CTRL with STANDBY = 0. -/
def execStandbyLeave (a : Agent) (v : Word) (s : State) : Host.Outcome State Fault Refusal :=
  live s (guarded s a Reg.CRU.PWR_CTRL v .cfg (writePwrCtrl s v))

/-- A transition has ended in a power state; what was written meanwhile takes effect. -/
def settlePwr (s : State) (m : PwrMode) : State :=
  let t := { s with rst := { s.rst with pwr := m, pwrNext := none } }
  match s.rst.pwrNext with
  | some b => applyPwr t b
  | none => t

/-- R436: entry or exit completes. -/
def execStandbyTransitionDone (s : State) : Host.Outcome State Fault Refusal :=
  live s (match s.rst.pwr with
    | .entering => settlePwr s .standby
    | .leaving => settlePwr s .active
    | .active => s
    | .standby => s)

/-! ### Sensors (R438 to R440): AON runs through a device reset -/

/-- R440: rail voltages (mV) and currents (mA); rails 6 to 8 have no current reading. -/
def execRailSample (mv ma : List Nat) (s : State) : Host.Outcome State Fault Refusal :=
  let t := (List.range 9).foldl (fun s r => wr s (Reg.PWR.RAIL_V r) (w32 (min 0xFFFF (mv.getD r 0)))) s
  .next ((List.range 6).foldl (fun s r => wr s (Reg.PWR.RAIL_I r) (w32 (min 0xFFFFF (ma.getD r 0)))) t)

/-- R440: power over the last 1 ms, its peak, and the energy. -/
def execPowerSample (mw mj : Nat) (s : State) : Host.Outcome State Fault Refusal :=
  let p := min 0xFFFFF mw
  let t := peak (wr s Reg.PWR.POWER (w32 p)) Reg.PWR.POWER_PEAK p
  let e := min (2 ^ 64 - 1) (rd64 s Reg.PWR.ENERGY_LO Reg.PWR.ENERGY_HI + mj)
  .next (wr64 t Reg.PWR.ENERGY_LO Reg.PWR.ENERGY_HI e)

/-- The temperature of the thermal trip, 125 °C in S12.4 (R438, R454). -/
def tripTemp : Int := 125 * 16

/-- The hottest of the die sensors, with its index. -/
def hottest (dies : List (BitVec 16)) : BitVec 16 × Nat :=
  (dies.zip (List.range dies.length)).foldl (fun m e => if m.1.toInt < e.1.toInt then e else m) (dies.headD 0, 0)

/-- R438, R440, R392: the temperature sensors are read. -/
def execTemperatureSample (dies : List (BitVec 16)) (hbms : List Nat) (s : State) : Host.Outcome State Fault Refusal :=
  let h := hottest dies
  let t := wr s Reg.PWR.TEMP_MAX (w32 (h.1.toNat + 2 ^ 16 * (h.2 % 16)))
  let t := if toSigned 16 (rdF t Reg.PWR.TEMP_PEAK 15 0) < h.1.toInt then wr t Reg.PWR.TEMP_PEAK (w32 h.1.toNat) else t
  let t := (List.range 4).foldl (fun s k => wrF s (Reg.MEM.MEM_STATUS k) 15 8 (min 255 (hbms.getD k 0))) t
  let hot := if tripTemp ≤ h.1.toInt then some (t.rst.hot.getD t.time.uptime) else none
  .next { t with rst := { t.rst with cool := decide (h.1.toInt < 105 * 16), hot := hot } }

/-- R439: measured frequencies in kHz. -/
def execFrequencyMeasurement (khz : List Nat) (s : State) : Host.Outcome State Fault Refusal :=
  .next ((List.range 70).foldl (fun s d => wr s (Reg.CRU.DOM_FREQ d) (w32 (min 0xFFFFFF (khz.getD d 0)))) s)

end Sys2Proof.Machine
end

