-- ==== Sys2Proof/Machine/Views.lean ====
section
/-! DEFINITION. What a read of a register shows (R14): the stored word, or a view of the block's state where the register shows
live state (R377, R378 and the pages' tables). -/

namespace Sys2Proof.Machine

/-- The common header as an agent sees it (R377, R378, R383, R384). -/
def headerView (s : State) (a : Agent) (pg off : Nat) : Word :=
  match off with
  | 0x00 => pageId pg
  | 0x08 => pageCaps pg
  | 0x10 => pageStatus s pg
  | 0x18 => irqRaw s pg
  | 0x20 => irqStat s pg
  | 0x24 => pageLock s pg
  | 0x30 => w32 (indAddr s a pg)
  | 0x34 => 0
  | 0x38 => w32 (indStride s a pg)
  | 0x3C => w32 (rightsWord s pg)
  | _ => rd s (0x1000 * pg + off)

/-- WAIT_KIND of a wait. -/
def waitKind : SeqWait → Nat
  | .none => 0
  | .band _ _ => 1
  | .time _ => 2
  | .event _ _ _ _ => 3
  | .close => 4
  | .frame => 5

/-- SEQ_STATUS of a port. -/
def seqStatus (s : State) (p : Nat) : Word :=
  match (port s p).run with
  | some r =>
    let w := waitKind r.wait
    w32 ((!r.ended).toNat + 2 * (r.n % 8) + 16 * (r.pc % 2048) + 2 ^ 15 * (w != 0).toNat + 2 ^ 16 * w)
  | none => 0

/-- PORT_STATUS of a tile port: 0 while PORT_CTRL.EN = 0. -/
def tileStatus (s : State) (p : Nat) : Word :=
  let x := port s p
  if rdB s (Reg.TP.PORT_CTRL p) 0 then w32 (x.linkUp.toNat + 2 * x.lock.toNat + 4 * x.tx.isSome.toNat) else 0

/-- PORT_STATUS of an ingest port. -/
def igStatus (s : State) (i : Nat) : Word :=
  let x := Store.get (fun _ => (false, false, 0)) s.ing.igLink i
  if rdB s (Reg.IG.PORT_CTRL i) 0 then w32 (x.1.toNat + 2 * x.2.1.toNat + 16 * (x.2.2 % 16)) else 0

/-- PORT_STATUS of a service port. -/
def svStatus (s : State) (i : Nat) : Word := if rdB s (Reg.SV.PORT_CTRL i) 0 then rd s (Reg.SV.PORT_STATUS i) else 0

/-- SDI_STATUS: carrier and lock live, MISMATCH stored. -/
def sdiStatus (s : State) (i : Nat) : Word :=
  let x := sdiState s i
  w32 (x.1.toNat + 2 * x.2.1.toNat + 4 * (rdB s (Reg.SD.SDI_STATUS i) 2).toNat)

/-- CAL_STATUS.ACTIVE: the phase last sampled at a span boundary uses calibration (R169). -/
def calActive (s : State) : Bool :=
  match s.dls.ctxs.find? fun c => c.xDone with
  | some c => c.calEn
  | none => false

/-- DLS_STATUS.ACTIVE: a band is in composition. -/
def dlsActive (s : State) : Bool := s.dls.ring.any fun r => r.entered.isSome && !r.final

/-- A bitmap over the DMA channels. -/
def chMap (p : Nat → Bool) : Word := w32 (ofBits ((List.range 16).map p))

/-- The registers that show live state, by kind of page, instance and offset. -/
def liveView (s : State) (k : PageKind) (i off : Nat) : Option Word :=
  match k, off with
  | .gbl, 0x90 => some (hifStatus s)
  | .gbl, o => if 0x100 ≤ o ∧ o < 0x160 then some (parPages s ((o - 0x100) / 4)) else none
  | .cru, 0x80 => some (cruStatus s)
  | .cru, 0x90 => some (w32 (pwrState s))
  | .cru, 0x94 => some s.rst.octets
  | .cru, 0x98 => some s.rst.igs
  | .cru, 0xA4 => some (faultStatus s)
  | .pwr, 0x80 => some (pwrStatus s)
  | .ig, 0x84 => some (igStatus s i)
  | .ig, 0x8C => some (w32 (storeRate s i))
  | .sd, 0x84 => some (sdiStatus s i)
  | .sd, 0x90 => some (if (sdiState s i).2.1 then w32 (sdiState s i).2.2 else 0)
  | .lyr, 0x94 => some (queuedGroups s)
  | .lyr, 0x98 => some (checkingGroups s)
  | .spb, 0x88 => some (bankStatus s)
  | .cal, 0x94 => some (setBit (rd s Reg.CAL.CAL_STATUS) 0 (calActive s))
  | .cal, 0xA4 => some (setBit (rd s Reg.CAL.FLIP_STATUS) 0 (flipPending s))
  | .dls, 0x88 => some (setBit (rd s Reg.DLS.DLS_STATUS) 0 (dlsActive s))
  | .tp, 0xA4 => some (seqStatus s i)
  | .tp, 0x104 => some (tileStatus s i)
  | .tim, 0xF0 => some (w32 (pseqNow s))
  | .sv, 0x84 => some (svStatus s i)
  | .twn, 0x84 => some (twnStatus s)
  | .dma, 0x84 => some (chMap fun c => chState s c == 1)
  | .dma, 0x88 => some (chMap fun c => chState s c == 2)
  | .icu, 0xF0 => some (w32 (ofBits ((List.range 32).map fun v => Store.get noB s.icu.held v)))
  | .icu, 0xF4 => some (w32 (ofBits ((List.range 32).map fun v => Store.get noB s.icu.held (32 + v))))
  | .icu, o => if 0xD0 ≤ o ∧ o < 0xE4 then some (w32 (runPri s ((o - 0xD0) / 4))) else none
  | .sec, 0x88 => some (sessStatus s)
  | .sec, 0x9C => some (reqStatus s)
  | .sec, 0xA8 => some (attStatus s)
  | .sec, 0xBC => some (updStatus s)
  | .aud, 0x80 => some (audStatus s)
  | _, _ => none

/-- A register of SC0's page that the other scaler pages do not have (the pool's registers, R138). -/
def poolOnly (k : PageKind) (i off : Nat) : Bool := k == .sc && i != 0 && decide (0x100 ≤ off)

/-- The row of a register that stands at an address, with its page's kind and instance. -/
def regRow (addr : Nat) : Option (PageKind × Nat × RegRow) :=
  match pageInfo (pageOf addr) with
  | none => none
  | some (k, _, i) =>
    let off := addr % 0x1000
    if poolOnly k i off then none else (rowAt k off).map fun r => (k, i, r)

/-- What a read of a register at 0x080 or above shows. -/
def bodyView (s : State) (addr : Nat) : Word :=
  match regRow addr with
  | none => 0
  | some (k, i, r) =>
    if r.acc == .wo then 0
    else match liveView s k i (addr % 0x1000) with
      | some w => w
      | none => rd s addr

/-- What a read of a register shows an agent; 0 where none stands (R10, R376). -/
def regView (s : State) (a : Agent) (addr : Nat) : Word :=
  let pg := pageOf addr
  let off := addr % 0x1000
  if (pageInfo pg).isNone || addr % 4 != 0 then 0
  else if off < 0x40 then headerView s a pg off
  else if off < 0x80 then 0
  else bodyView s addr

end Sys2Proof.Machine
end

