-- ==== Sys2Proof/Machine/Windows.lean ====
section
/-! DEFINITION. The indirect windows (R383): what a read of a word returns and what a write does, page by page. -/

namespace Sys2Proof.Machine

/-- Structure number of the SRAM behind a page's window (R321); 0 where the window is not one of its structures. -/
def windowStruct : PageKind → Nat
  | .lyr => 1
  | .spb => 2
  | .clr => 4
  | .sc => 5
  | .tp => 7
  | _ => 0

/-- A word of SC0's window holds taps (R125): horizontal phases use words 0 to 3, vertical phases words 0 to 2. -/
def coefWord (w : Nat) : Bool :=
  decide (w < 0x8000) && decide (w % 8 < (if w / 0x2000 % 2 = 0 then 4 else 3))

/-- Bits of a word of CLR's window that hold an entry, 0 where none stands (R163). -/
def lutMask (w : Nat) : Word :=
  if w < 0x40000 then (if w % 0x2000 / 0x800 < 3 ∧ w % 0x800 ≤ 1024 then 0xFFFFFF else 0)
  else if w < 0x80000 then (if w % 0x4000 / 0x1000 < 3 ∧ w % 0x1000 ≤ 3328 then 0xFFFFF else 0)
  else 0

/-- A word of the stream table (R55, R56). -/
def readStreamTable (s : State) (w : Nat) : Word :=
  if w < 0x400 then igsCfg s (w / 16) (w % 16)
  else if w < 0x600 then streamStatus s ((w - 0x400) / 8) (w % 8)
  else 0

/-- A read of an indirect word, and what it leaves: RC words clear, the groundsheet store notes what it meets. -/
def windowRead (s : State) (a : Agent) (k : PageKind) (i off : Nat) (e : Ecc) : Word × State :=
  let w := off / 4
  match k with
  | .igs =>
    let rc := decide (0x400 ≤ w) && decide (w < 0x600) && decide (4 ≤ w % 8)
    (readStreamTable s w, if rc then { s with ing := { s.ing with stat := Store.set zeroW s.ing.stat (w - 0x400) 0 } } else s)
  | .lyr => (readLayerWindow s off, s)
  | .spb => (readSpanWindow s off, s)
  | .sc => (if i = 0 ∧ coefWord w then Store.get coefDefault s.lut.coef w else 0, s)
  | .clr => (if lutMask w = 0 then 0 else Store.get lutDefault s.lut.lut w, s)
  | .dls => readSheet s off e
  | .tp => (if off < 0x4000 then Store.get zeroW (port s i).store w else 0, s)
  | .tim => (if w < 548 then Store.get timingDefault s.time.timing w else 0, s)
  | .icu => (if w < 1024 then readSrcCfg s w else 0, s)
  | .evf =>
    (if w < 512 then w32 (Store.get zeroN s.evf.counts w) else 0,
      if w < 512 then { s with evf := { s.evf with counts := Store.set zeroN s.evf.counts w 0 } } else s)
  | .sec => (readSecWindow s a off, s)
  | .aud => (readAudWindow s off, s)
  | _ => (0, s)

/-- A read through a window whose SRAM word is met as `e` (R321): the word read where it cannot be corrected is a free value. -/
def windowMeets (s : State) (a : Agent) (k : PageKind) (i off : Nat) (e : Ecc) : Word × State :=
  let r := windowRead s a k i off e
  if windowStruct k = 0 || e == .ok then r
  else
    let t := noteUpset r.2 ⟨windowStruct k, off / 4, 0, e == .uncorrectable⟩
    if e == .uncorrectable then freshWord t else (r.1, t)

/-- The region of the pitch store under check or that has passed its check, as first word and one past the last (R220). -/
def checkedRegion (s : State) (p : Nat) : List (Nat × Nat) :=
  let x := port s p
  (match x.checked with | some (e, len) => [(e, e + len)] | none => []) ++
  (match x.checking with | some (e, ps) => [(e, (checkVerdict s p e ps).2 + 1)] | none => [])

/-- A write of a word of the pitch store (R220): ignored and counted inside the active table; else accepted, marking a checked
region stale. -/
def writePitch (s : State) (p off : Nat) (v : Word) : State :=
  let w := off / 8
  let x := port s p
  let active := match activeTable s p with
    | some (e, len) => decide (e ≤ w) && decide (w < e + len)
    | none => false
  if 0x4000 ≤ off then s
  else if active then bump s (Reg.TP.STORE_GUARD p)
  else
    let hit := (checkedRegion s p).any fun r => decide (r.1 ≤ w) && decide (w < r.2)
    let t := setPort s p { x with store := Store.set zeroW x.store (off / 4) v }
    if hit then wrB t (Reg.TP.CHECK_STATUS p) 2 true else t

/-- A write of an indirect word that rights and locks have let pass. -/
def windowWrite (s : State) (a : Agent) (k : PageKind) (i off : Nat) (v : Word) : State :=
  let w := off / 4
  match k with
  | .igs => if w < 0x400 then writeStreamWord s (w / 16) (w % 16) v else s
  | .lyr => writeLayerWindow s off v
  | .sc => if i = 0 ∧ coefWord w then { s with lut := { s.lut with coef := Store.set coefDefault s.lut.coef w v } } else s
  | .clr =>
    if lutMask w = 0 then s else { s with lut := { s.lut with lut := Store.set lutDefault s.lut.lut w (v &&& lutMask w) } }
  | .dls => writeSheet s off v
  | .tp => writePitch s i off v
  | .tim => if w < 548 then { s with time := { s.time with timing := Store.set timingDefault s.time.timing w v } } else s
  | .icu => if w < 1024 then writeSrcCfg s a w v else s
  | .sec => writeSecWindow s a off v
  | _ => s

/-- IND_ADDR as an access uses it: bits [1:0] are ignored. -/
def indOff (s : State) (a : Agent) (pg : Nat) : Nat := indAddr s a pg / 4 * 4

/-- R383: a read of IND_DATA. -/
def execIndDataRead (a : Agent) (page : Nat) (ecc : Ecc) (s : State) : Host.Outcome State Fault Refusal :=
  live s (match pageInfo page with
    | none => answer s a 0
    | some (k, _, i) =>
      let r := windowMeets s a k i (indOff s a page) ecc
      indAdvance (answer r.2 a r.1) a page)

/-- R383: a write of IND_DATA. -/
def execIndDataWrite (a : Agent) (page : Nat) (v : Word) (s : State) : Host.Outcome State Fault Refusal :=
  live s (match pageInfo page with
    | none => s
    | some (k, _, i) => indGuarded s a page v (windowWrite s a k i (indOff s a page) v))

end Sys2Proof.Machine
end

