-- ==== Sys2Proof/Machine/Access.lean ====
section
/-! DEFINITION. Register accesses (R379 to R391): writes by address, reads that clear, W1C clearing, locks, parity faults and safe
actions, page enable and soft reset, BAR2, the MSI-X table, and JTAG. -/

namespace Sys2Proof.Machine

/-- The state that a meaning leaves. -/
def after (s : State) (o : Host.Outcome State Fault Refusal) : State :=
  match o with
  | .next t => t
  | _ => s

/-! ### Values that a write stores (R10, R14, R456) -/

/-- Clamp bits [hi:lo] of a word into a range. -/
def clampF (hi lo a b : Nat) (w : Word) : Word := setFld w hi lo (clampN a b (fld w hi lo))

/-- A written register with its clamped fields as they read back. -/
def clampReg (k : PageKind) (off : Nat) (w : Word) : Word :=
  match k, off with
  | .fab, 0x80 => clampF 15 8 7 15 (clampF 7 0 50 80 w)
  | .fab, 0x84 => clampF 7 0 0x80 0xF0 w
  | .pwr, 0x88 => if 0x780 < toSigned 16 (fld w 15 0) then setFld w 15 0 0x780 else w
  | .lyr, 0x84 => clampF 10 0 50 2000 w
  | .awn, 0x84 => clampF 19 0 100 1000000 w
  | .awn, 0x88 => clampF 15 0 0 50000 w
  | .awn, 0x8C => clampF 13 0 50 10000 w
  | .spb, 0x84 => clampF 3 0 1 8 w
  | .dls, 0x80 => clampF 25 16 64 1023 (clampF 12 8 2 16 w)
  | .dls, 0x84 => clampF 26 16 1 1024 (clampF 10 0 1 1024 w)
  | .tlg, 0xA0 => clampF 15 0 10 10000 w
  | .tlg, 0xA8 => clampF 7 0 2 255 w
  | .tlg, 0xAC => clampF 4 0 0 16 w
  | .tim, 0xB8 => clampF 31 0 1 0xFFFFFFFF w
  | .tim, 0xCC => clampF 23 0 1000 10000000 w
  | .tp, 0x200 => clampF 9 0 1 1000 w
  | .tp, o => if 0x400 ≤ o ∧ o % 16 = 0 then clampF 12 9 2 12 w else w
  | .twn, 0x8C => clampF 9 0 20 1000 w
  | .twn, 0x90 => clampF 12 0 100 5000 w
  | .twn, 0x94 => clampF 8 0 10 500 w
  | .twn, 0x98 => clampF 16 0 100 100000 w
  | .twn, 0x9C => clampF 7 0 1 255 w
  | .twn, 0xA0 => clampF 13 0 10 10000 w
  | .twn, 0xA4 => clampF 13 0 1 10000 w
  | .dc, 0x98 => clampF 15 0 1 65535 w
  | .dc, 0x9C => clampF 15 0 1 65535 w
  | .sec, 0x8C => clampF 16 0 60 86400 w
  | .sec, 0x90 => clampF 10 0 1 1440 w
  | .sec, 0xA0 => clampF 16 0 10 86400 w
  | .mgt, 0x154 => clampF 4 1 4 8 w
  | .mgt, 0x160 => clampF 4 1 4 8 w
  | _, _ => w

/-- What an RW register holds after a write of `v`: reserved and read-only bits keep what they hold. -/
def written (s : State) (k : PageKind) (r : RegRow) (addr : Nat) (v : Word) : Word :=
  let m := w32 r.mask
  clampReg k (addr % 0x1000) ((rd s addr &&& ~~~m) ||| (v &&& m))

/-! ### What a write of some registers does beside storing -/

/-- Bring a port's return policer to the present before its parameters change; full where it was off (R254, R268). -/
def settleReturn (s : State) (p : Nat) : State :=
  let cir := rdF s (Reg.TP.RPOL_CIR p) 24 0
  if cir = 0 then setPort s p { port s p with pol := none }
  else
    let f := freshBit s
    let b := rd s (Reg.TP.RPOL_BURST p)
    let r := police f.1 (port s p).pol (cir * 1000) (rdF s (Reg.TP.RPOL_PIR p) 24 0 * 1000) (fld b 15 0) (fld b 31 16) 0
      (tileClk s) 390625000
    setPort f.2 p { port s p with pol := r.2 }

/-- Bring an awning's policer to the present before its parameters change (R87, R268). -/
def settleAwning (s : State) (i : Nat) : State :=
  if rdF s (Reg.AWN.POL_CIR i) 19 0 = 0 then setAwning s i { awning s i with pol := none }
  else (policeAwning s i 0).2

/-- Before the word changes: what runs at the old rates is brought to the present. -/
def beforeWrite (s : State) (k : PageKind) (i off : Nat) : State :=
  match k with
  | .tp =>
    if 0x10C ≤ off ∧ off ≤ 0x11C then settlePort s i
    else if 0x120 ≤ off ∧ off ≤ 0x128 then settleReturn s i
    else s
  | .awn => if 0x10C ≤ off ∧ 0xC ≤ off % 0x40 ∧ off % 0x40 ≤ 0x14 then settleAwning s ((off - 0x100) / 0x40) else s
  | _ => s

/-- SESS_CFG of session `se` has been written: EN falling abandons the session's request; with EN the session opens (R245, R263). -/
def wroteSession (s t : State) (p se : Nat) : State :=
  let r := Reg.TP.SESS_CFG p se
  if rdB s r 8 && !rdB t r 8 then abandonSession t p se
  else if rdB t r 8 && !rdB s r 8 then openSession t p se
  else t

/-- TXQ_CFG has been written: with EN rising the entries from CONS to PROD are posted (R406). -/
def wroteTxq (s t : State) : State :=
  let c := rdF t Reg.MGT.TXQ_IDX 31 16
  if !rdB s Reg.MGT.TXQ_CFG 0 && rdB t Reg.MGT.TXQ_CFG 0 then
    txqPost t c (wrapTo 16 ((rdF t Reg.MGT.TXQ_IDX 15 0 : Int) - c))
  else t

/-- PH_RATE, FRAME_OFS and PH_OFS are guarded while PH_EN = 1 (R293). -/
def phaseGuarded (off : Nat) : Bool := off == 0xE4 || off == 0xE8 || (decide (0x100 ≤ off) && decide (off < 0x120))

/-- After the word has changed from what it was in `s`. -/
def afterWrite (s t : State) (k : PageKind) (i off : Nat) : State :=
  match k with
  | .tp =>
    if off = 0x100 then (if portLink s i && !portLink t i then raiseE t (Page.TP i) 9 else t)
    else if off = 0x10C then
      (if rdF s (Reg.TP.C_CIR i) 24 0 = 0 ∧ rdF t (Reg.TP.C_CIR i) 24 0 ≠ 0 then setPort t i { port t i with shaper := none }
       else t)
    else if off = 0x200 then setPort t i { port t i with sampled := max (port t i).sampled (nowNs t) }
    else if 0x400 ≤ off ∧ off % 16 = 0 then wroteSession s t i ((off - 0x400) / 16)
    else t
  | .sv => if off = 0x80 ∧ svLink s i ∧ !svLink t i then raiseE t (Page.SV i) 0 else t
  | .tlg =>
    if off = 0xA8 then (t.ports.map (·.1)).foldl settleFarOk t
    else if off = 0xA0 ∨ (off = 0x80 ∧ !rdB s Reg.TLG.TLG_CTRL 2 ∧ rdB t Reg.TLG.TLG_CTRL 2) then
      { t with time := { t.time with tlg := max t.time.tlg (nowNs t) } }
    else t
  | .tim =>
    if 0xBC ≤ off ∧ off ≤ 0xC8 then { t with time := { t.time with watch := some t.time.uptime } }
    else if phaseGuarded off then showSlotMin t
    else t
  | .twn => if off = 0xA0 then { t with time := { t.time with twn := max t.time.twn (nowNs t) } } else t
  | .mgt => if off = 0x160 then wroteTxq s t else t
  | .icu => if off = 0x80 ∧ !icuOn s ∧ icuOn t then flushHeld false t else t
  | .dc => if off = 0x9C then setDma t i (dmaCh (noteTmo s i (rdF t (Reg.DC.BUS_TMO i) 15 0)) i) else t
  | _ => t

/-- A register of a page has changed: the interrupt controller sees the page's input where it has fallen (R356). -/
def notePage (s : State) (addr : Nat) : State :=
  match sourceOf (pageOf addr) with
  | some i => noteFall s i
  | none => s

/-- An RW register without a meaning of its own takes a value. -/
def storeReg (s : State) (k : PageKind) (i : Nat) (r : RegRow) (addr : Nat) (v : Word) : State :=
  let b := beforeWrite s k i (addr % 0x1000)
  notePage (afterWrite b (wr b addr (written b k r addr v)) k i (addr % 0x1000)) addr

/-- What a write of a plain RW register does once it is accepted. -/
def acceptReg (s : State) (k : PageKind) (i : Nat) (r : RegRow) (addr : Nat) (v : Word) : State :=
  if k == .tim && phaseGuarded (addr % 0x1000) && rdB s Reg.TIM.TIM_CTRL 0 then bump s Reg.TIM.PH_CFG_BUSY
  else storeReg s k i r addr v

/-! ### Parity and safe actions (R386 to R389) -/

/-- Registers of a page found mismatching, by address. -/
def badRegs (s : State) (pg : Nat) : List Nat := (s.par.bad.filter fun e => e.2 && pageOf e.1 == pg).map (·.1)

/-- What happens when a page's safe action comes into force (R388). -/
def safeOnset (s : State) (pg : Nat) : State :=
  let s := holdSafe s pg
  match pageInfo pg with
  | some (.fab, _, _) => { s with fab := { s.fab with wins := Store.mapV (fun _ => PcWin.reset) (fun w => { w with shares := 0xA46 }) s.fab.wins } }
  | some (.spb, _, _) => dropBuild s
  | some (.tim, _, _) => enterHoldover s 3
  | some (.blt, _, _) => abortBlt s 0 0
  | some (.dma, _, _) => (List.range 16).foldl stopChannel s
  | some (.dc, _, i) => stopChannel s i
  | _ => s

/-- PAGE_ERR.PARITY is set with the record of a mismatching register. -/
def recordParity (s : State) (pg off : Nat) : State :=
  let s := if rdB s (Reg.HDR.PAGE_PAR_ADDR pg) 31 then s else wr s (Reg.HDR.PAGE_PAR_ADDR pg) (w32 (2 ^ 31 + off))
  wrB s (Reg.HDR.PAGE_ERR pg) 0 true

/-- PAGE_ERR has been written or reset: while any mismatch remains PARITY sets again with the next register, else VALID clears
once PARITY is clear (R387). -/
def settleParity (s : State) (pg : Nat) : State :=
  if rdB s (Reg.HDR.PAGE_ERR pg) 0 then s
  else
    let s := wr s (Reg.HDR.PAGE_PAR_ADDR pg) 0
    match badRegs s pg with
    | a :: _ => recordParity s pg (a % 0x1000)
    | [] => s

/-- Registers with a parity bit (R386). -/
def parityCovers (pg off : Nat) : Bool :=
  match pageInfo pg with
  | none => false
  | some _ =>
    if off < 0x80 then [0x0C, 0x1C, 0x24].contains off
    else match regRow (0x1000 * pg + off) with
      | some (_, _, r) => r.acc == .rw || r.acc == .rwTc
      | none => false

/-- The bits of a covered register that an upset may change. -/
def upsetMask (pg off : Nat) : Word :=
  if off = 0x0C then 1
  else if off = 0x24 then 0xF
  else match regRow (0x1000 * pg + off) with
    | some (_, _, r) => w32 r.mask
    | none => 0xFFFFFFFF

/-- R387: a parity mismatch is found. The upset value is a free value. -/
def execParityMismatch (page off : Nat) (s : State) : Host.Outcome State Fault Refusal :=
  let addr := 0x1000 * page + off
  let f := freshWord s
  let t := wr f.2 addr (rd s addr ^^^ (f.1 &&& upsetMask page off))
  let t := { t with par := { t.par with bad := Store.set noB t.par.bad addr true } }
  let t := recordParity t page off
  let t := if safe s page then t else safeOnset t page
  let t := if page = Page.SEC ∨ page = Page.AUD then audit t 0x10 2 0 (leBytes 2 page ++ leBytes 2 off) else t
  live s (if parityCovers page off && !Store.get noB s.par.bad addr then t else s)

/-! ### PAGE_CTRL and soft reset (R389, R390) -/

/-- Addresses that a soft reset of the page returns to their reset values. -/
def softResets (pg addr : Nat) : Bool :=
  pageOf addr == pg && (decide (0x80 ≤ addr % 0x1000) || addr % 0x1000 == 0x14 || addr % 0x1000 == 0x1C)

/-- The block's own state returns to reset; indirect stores are kept. -/
def resetBlock (s : State) (k : PageKind) (i : Nat) : State :=
  match k with
  | .ig =>
    let s := setIgLink (setFill s i 0) i (false, false, 0)
    { s with ing := { s.ing with writes := s.ing.writes.map fun w => if w.port = i then { w with frees := 0 } else w } }
  | .sd => setSdi s i false false 0
  | .tp =>
    let x := port s i
    wrB (setPort s i { TilePort.reset with store := x.store, stepSeen := x.stepSeen, sampled := x.sampled })
      (Reg.TLG.FAR_OK (i / 32)) (i % 32) false
  | .blt => match s.blt with | some o => endBlt s o | none => s
  | .dc => setDma (leaveStream s i) i DmaCh.reset
  | _ => s

/-- R390: the page and its block return to reset; RST_BUSY is 1 until the reset completes. -/
def softReset (s : State) (pg : Nat) : State :=
  match pageInfo pg with
  | none => s
  | some (k, _, i) =>
    let s := { s with
      regs := s.regs.filter fun e => !softResets pg e.1
      ptrs := s.ptrs.filter fun e => e.1 % 4096 != pg
      par := { s.par with
        bad := s.par.bad.filter fun e => !softResets pg e.1
        busy := Store.set noB s.par.busy pg true } }
    settleParity (resetBlock s k i) pg

/-- A write of PAGE_CTRL that has been accepted. -/
def writePageCtrl (s : State) (pg : Nat) (v : Word) : State :=
  let t := wr s (Reg.HDR.PAGE_CTRL pg) (v &&& 1)
  let t := if bit v 0 || safe s pg then t else safeOnset t pg
  if bit v 1 && hasSoftReset pg then softReset t pg else t

/-- A write of PAGE_CTRL by an agent. -/
def pageCtrl (s : State) (a : Agent) (pg : Nat) (v : Word) : State :=
  if (pageInfo pg).isNone then s else guarded s a (Reg.HDR.PAGE_CTRL pg) v .hdr (writePageCtrl s pg v)

/-- R389: PAGE_CTRL written with EN = 0. -/
def execPageDisable (a : Agent) (page : Nat) (v : Word) (s : State) : Host.Outcome State Fault Refusal :=
  live s (pageCtrl s a page v)

/-- R389: PAGE_CTRL written with EN = 1. -/
def execPageEnable (a : Agent) (page : Nat) (v : Word) (s : State) : Host.Outcome State Fault Refusal :=
  live s (pageCtrl s a page v)

/-- R390: PAGE_CTRL written with SOFT_RST = 1. -/
def execPageSoftReset (a : Agent) (page : Nat) (v : Word) (s : State) : Host.Outcome State Fault Refusal :=
  live s (pageCtrl s a page v)

/-- R390: the soft reset completes; the port's SerDes, out of reset, takes its preset (R452). -/
def execSoftResetDone (page : Nat) (s : State) : Host.Outcome State Fault Refusal :=
  let t := { s with par := { s.par with busy := Store.set noB s.par.busy page false } }
  live s (match pageInfo page with
    | some (k, _, i) => if rstBusy s page then takePresets t (rdB s Reg.SEC.SEC_STATUS 8) (portLanes k i) else t
    | none => t)

/-! ### PAGE_LOCK (R385) -/

/-- A write of PAGE_LOCK: the first that rights accept is taken whole; later ones, and one to a mismatching PAGE_LOCK, are
refused as write-once. -/
def writePageLock (s : State) (a : Agent) (pg : Nat) (v : Word) : State :=
  let addr := Reg.HDR.PAGE_LOCK pg
  if rstBusy s pg || (pageInfo pg).isNone then s
  else match rightsRefusal s a pg with
    | some c => refuseWrite s a addr v c
    | none =>
      if Store.get noB s.par.once pg || Store.get noB s.par.bad addr then refuseWrite s a addr v 3
      else
        let t := wr s addr (v &&& 0xF)
        let t := { t with par := { t.par with once := Store.set noB t.par.once pg true } }
        touchSession s a pg
          (audit t 0x03 (agentCode a) (roleFor s a) (leBytes 2 pg ++ [0, 0] ++ leBytes 4 (v &&& 0xF).toNat))

/-- R385: a write of PAGE_LOCK. -/
def execPageLockWrite (a : Agent) (page : Nat) (v : Word) (s : State) : Host.Outcome State Fault Refusal :=
  live s (writePageLock s a page v)

/-! ### W1C registers (R14, R15) -/

/-- A W1C register's bits written as 1 are cleared. -/
def clearBits (s : State) (addr : Nat) (v : Word) : State := notePage (wr s addr (rd s addr &&& ~~~v)) addr

/-- A write of a W1C register; locks never stop it (R385). -/
def writeW1c (s : State) (a : Agent) (addr : Nat) (v : Word) : State :=
  let pg := pageOf addr
  if addr % 0x1000 = 0x14 ∧ (pageInfo pg).isSome then
    guarded s a addr v .open (settleParity (clearBits s addr (v &&& 7)) pg)
  else match regRow addr with
    | some (k, i, r) =>
      if r.acc = .w1c then guarded s a addr v .open (if k == .dc then writeDmaErr s i v else clearBits s addr (v &&& w32 r.mask))
      else s
    | none => s

/-- R14: a write of a W1C register. -/
def execW1cWrite (a : Agent) (addr : Nat) (v : Word) (s : State) : Host.Outcome State Fault Refusal :=
  live s (writeW1c s a addr v)

/-! ### The MSI-X table and pending bits (R362, R372) -/

/-- Word of the MSI-X table at a BAR0 address: vector and word. -/
def msixAt (addr : Nat) : Option (Nat × Nat) :=
  if 0x1FFE000 ≤ addr ∧ addr < 0x1FFE400 ∧ addr % 4 = 0 then some ((addr - 0x1FFE000) / 16, (addr - 0x1FFE000) / 4 % 4) else none

/-- A word of the MSI-X table takes a value; pending vectors that are no longer masked send. -/
def writeMsix (s : State) (v w : Nat) (x : Word) : State :=
  let x := if w = 0 then x &&& 0xFFFFFFFC else if w = 3 then x &&& 1 else x
  flushPba { s with icu := { s.icu with msix := Store.set msixDefault s.icu.msix (4 * v + w) x } }

/-- A word of the pending bit array. -/
def pbaWord (s : State) (addr : Nat) : Word :=
  if addr = 0x1FFF000 then w32 (ofBits ((List.range 32).map fun v => Store.get noB s.icu.pba v))
  else if addr = 0x1FFF004 then w32 (ofBits ((List.range 32).map fun v => Store.get noB s.icu.pba (32 + v)))
  else 0

/-! ### Writes by address (R14, R380) -/

/-- A write of IND_ADDR, or of IND_CTRL with `c`: accepted from every agent (R411), but for SEC's safe action (R388). -/
def writePtr (s : State) (a : Agent) (pg : Nat) (c : Bool) (addr : Nat) (v : Word) : State :=
  if rstBusy s pg then s
  else if safe s Page.SEC && a != .tc then refuseWrite s a addr v 1
  else setPtr s a pg c (if c then v &&& 0xFFFC else v)

/-- A write in the common header (R377). -/
def writeHeader (s : State) (a : Agent) (pg off : Nat) (v : Word) : State :=
  let addr := 0x1000 * pg + off
  match off with
  | 0x0C => pageCtrl s a pg v
  | 0x14 => writeW1c s a addr v
  | 0x1C => guarded s a addr v .hdr (notePage (wr s addr v) addr)
  | 0x24 => writePageLock s a pg v
  | 0x30 => writePtr s a pg false addr v
  | 0x34 => after s (execIndDataWrite a pg v s)
  | 0x38 => writePtr s a pg true addr v
  | _ => guarded s a addr v .open s

/-- The registers whose writes are commands of their own, by kind of page, instance and offset. -/
def writeOwn (s : State) (a : Agent) (k : PageKind) (i off : Nat) (v : Word) : Option State :=
  let run (o : Host.Outcome State Fault Refusal) : Option State := some (after s o)
  match k, off with
  | .cru, 0x88 => run (execDevRst a v s)
  | .cru, 0x8C => run (execStandbyEnter a v s)
  | .igs, 0x80 => run (execIngestEnable a v s)
  | .lyr, 0x88 => run (execCommit a v s)
  | .lyr, 0x90 => run (execCommitCancel a v s)
  | .spb, 0xA0 => run (execRecheckGo a v s)
  | .cal, 0x80 => run (execCalEnable a v s)
  | .cal, 0xA0 => run (execFlipGo a v s)
  | .dls, 0xC0 => run (execGsFillGo a v s)
  | .tp, 0x80 => run (execSeqDisable a i v s)
  | .tp, 0x8C => run (execLoadCheckGo a i v s)
  | .tp, 0x94 => run (execSwapGo a i v s)
  | .tp, 0x13C => run (execMqDoorbell a i v s)
  | .tp, 0x204 => run (execSampleClear a i v s)
  | .tp, o => if 0x400 ≤ o ∧ o % 16 = 0xC then run (execSessionDoorbell a i ((o - 0x400) / 16) v s) else none
  | .tim, 0x80 => run (execPhaseEnable a v s)
  | .tim, 0x88 => run (execHoldoverEnd a v s)
  | .tim, 0x94 => run (execIncOfsWrite a v s)
  | .tim, 0xA4 => run (if bit v 1 then execStepAbsolute a v s else execStepOffset a v s)
  | .tim, 0x144 => run (execOffsetApplyGo a v s)
  | .tim, 0x150 => run (execCaptureArm a v s)
  | .tim, 0x154 => run (execCaptureGo a v s)
  | .twn, 0x80 => run (execTwinEnable a v s)
  | .blt, 0xC8 => run (execBltAbort a v 0 0 s)
  | .dc, 0x80 => run (execDmaAbort a i true v (dmaCh s i).moved [] s)
  | .dc, 0x84 => run (execDmaAbort a i false v (dmaCh s i).moved [] s)
  | .icu, 0x90 => run (execSwSourceSet a v s)
  | .icu, 0xE8 => run (execHostCpl a v s)
  | .icu, o => if 0xA4 ≤ o ∧ o < 0xC8 ∧ o % 8 = 4 then run (execCpl a ((o - 0xA4) / 8) v s) else none
  | .evf, 0x84 => run (execSwPulse a v s)
  | .sec, 0x84 => run (execSessionChallenge a v s)
  | .sec, 0x98 => run (execReqApprove a v s)
  | .sec, 0xA4 => run (execAttest a v s)
  | .sec, 0xB8 => run (execImageUpdate a v s)
  | .sec, 0xC0 => run (execDebugRelock a v s)
  | .mgt, 0x84 => run (execWdtKick a v s)
  | .mgt, 0x164 => run (execTxqDoorbell a v s)
  | _, _ => none

/-- A write of a register at 0x080 or above. -/
def writeBody (s : State) (a : Agent) (addr : Nat) (v : Word) : State :=
  match regRow addr with
  | none => guarded s a addr v .open s
  | some (k, i, r) =>
    match writeOwn s a k i (addr % 0x1000) v with
    | some t => t
    | none =>
      match r.acc with
      | .w1c => writeW1c s a addr v
      | .rw =>
        if k == .tim && addr % 0x1000 == 0xB8 && a != .tc && decide (10000 < v.toNat) && !rstBusy s (pageOf addr) &&
            (writeRefusal s a (pageOf addr) .cfg).isNone then refuseWrite s a addr v 0
        else guarded s a addr v .cfg (acceptReg s k i r addr v)
      | .rwTc =>
        if a == .tc then guarded s a addr v .cfg (acceptReg s k i r addr v) else refuseWrite s a addr v 1
      | .wo => guarded s a addr v .cmd s
      | _ => guarded s a addr v .open s

/-- A 32-bit write of BAR0 or of the register port (R376, R380). -/
def writeReg (s : State) (a : Agent) (addr : Nat) (v : Word) : State :=
  let pg := pageOf addr
  let off := addr % 0x1000
  match msixAt addr with
  | some (vec, w) => if a == .host then writeMsix s vec w v else s
  | none =>
    if (pageInfo pg).isNone || addr % 4 != 0 then s
    else if off < 0x40 then writeHeader s a pg off v
    else if off < 0x80 then guarded s a addr v .open s
    else writeBody s a addr v

/-- R14: a register write. -/
def execRegisterWrite (a : Agent) (addr : Nat) (v : Word) (s : State) : Host.Outcome State Fault Refusal :=
  live s (writeReg s a addr v)

/-! ### Reads (R14, R379) -/

/-- A read of an RC register clears it; a read of FW_FAULT also frees its record (R403). -/
def clearRc (s : State) (addr : Nat) : State :=
  let t := wr s addr 0
  if addr = Reg.MGT.FW_FAULT then wrB t Reg.MGT.FW_FAULT_INFO 31 false else t

/-- A 32-bit read of a register at 0x080 or above. -/
def readBody (s : State) (a : Agent) (addr : Nat) : State :=
  match regRow addr with
  | none => answer s a 0
  | some (k, _, r) =>
    let off := addr % 0x1000
    if r.acc = .rc then
      (if k == .icu && decide (0xA0 ≤ off) && decide (off < 0xC8) then after s (execClaim a ((off - 0xA0) / 8) s)
       else if k == .icu && decide (0x100 ≤ off) then after s (execHostClaim a ((off - 0x100) / 4) s)
       else clearRc (answer s a (regView s a addr)) addr)
    else answer s a (regView s a addr)

/-- A 32-bit read of BAR0 or of the register port. -/
def readReg (s : State) (a : Agent) (addr : Nat) : State :=
  let pg := pageOf addr
  let off := addr % 0x1000
  match msixAt addr with
  | some (vec, w) => answer s a (if a == .host then msixWord s vec w else 0)
  | none =>
    if addr = 0x1FFF000 ∨ addr = 0x1FFF004 then answer s a (if a == .host then pbaWord s addr else 0)
    else if (pageInfo pg).isNone || addr % 4 != 0 || decide (off < 0x80) then
      (if off = 0x34 ∧ (pageInfo pg).isSome then after s (execIndDataRead a pg .ok s) else answer s a (regView s a addr))
    else readBody s a addr

/-- R14: a register read; an RC register is cleared by it. -/
def execRcRead (a : Agent) (addr : Nat) (s : State) : Host.Outcome State Fault Refusal := live s (readReg s a addr)

/-- R379: an access without all byte enables: a read returns zero, nothing else happens. -/
def execPartialAccess (a : Agent) (addr : Nat) (write : Bool) (s : State) : Host.Outcome State Fault Refusal :=
  let pg := pageOf addr
  let t := if write then s else answer s a 0
  live s (if (pageInfo pg).isSome then bump (wrB t (Reg.HDR.PAGE_ERR pg) 2 true) Reg.GBL.ACCESS_ERR else t)

/-! ### BAR2 (R373) -/

/-- A BAR2 access is discarded: beyond 96 GiB, with BAR2 off, or a write while writes are protected; before training nothing is
reached (R432). -/
def bar2Off (s : State) (addr len : Nat) (write : Bool) : Bool :=
  !inMem addr len || !rdB s Reg.GBL.HIF_CTRL 0 || (write && rdB s Reg.GBL.HIF_CTRL 1) || !s.rst.hbmDone

/-- A discarded access counts and is a cause. -/
def bar2Drop (s : State) : State := raiseE (bump s Reg.GBL.BAR2_UNMAPPED) Page.GBL 1

/-- R373: a read through BAR2. -/
def execBar2Read (addr len : Nat) (s : State) : Host.Outcome State Fault Refusal :=
  live s (if bar2Off s addr len false then
      bar2Drop { s with out := { s.out with bar2 := List.replicate len 0 } }
    else noteRead { s with out := { s.out with bar2 := memRead s addr len } } addr len)

/-- R373: a write through BAR2. -/
def execBar2Write (addr : Nat) (data : List Byte) (s : State) : Host.Outcome State Fault Refusal :=
  live s (if bar2Off s addr data.length true then bar2Drop s else memWrite s addr data)

/-! ### JTAG (R393, R414) -/

/-- DEBUG_LEVEL while the TAP is unlocked, 0 while it is not. -/
def tapLevel (s : State) : Nat := if rdB s Reg.SEC.SEC_STATUS 2 then rdF s Reg.SEC.SEC_STATUS 4 3 else 0

/-- What an operation of the TAP does: IDCODE and BYPASS (one byte of the answer per bit shifted, delayed by one) in every state;
registers and boundary scan at either level (the pins TIME_PPS_OUT, PERST_N, READY, FAULT_N, THERM_TRIP_N, one byte each; log entry
146); cores, device memory and MGT SRAM at level 2. Reads of registers have no side effect and see firmware's pointers. JTAG, which
is no agent, writes MGT SRAM whatever it holds (log entry 143). -/
def tapRun (s : State) (op : TapOp) : State :=
  let out (bs : List Byte) : State := { s with out := { s.out with tap := bs } }
  match op with
  | .idcode => out (leBytes 4 Config.tapIdcode.toNat)
  | .bypass bits => out (((false :: bits).dropLast).map fun b => BitVec.ofNat 8 b.toNat)
  | .boundary => out ([s.time.pps, !s.rst.pcieHold, ready s, !faultPin s, !thermTripPin s].map fun b => BitVec.ofNat 8 b.toNat)
  | .readReg addr => out (leBytes 4 (regView s .fw addr).toNat)
  | .haltCore k =>
    if running s k then
      let s := wrB (wrB s Reg.MGT.CORE_STATUS k false) Reg.MGT.CORE_STATUS (4 + k) true
      { s with mgt := { s.mgt with dbgHalt := s.mgt.dbgHalt ++ [k] } }
    else s
  | .runCore k =>
    if s.mgt.dbgHalt.contains k then
      let s := wrB (wrB s Reg.MGT.CORE_STATUS k true) Reg.MGT.CORE_STATUS (4 + k) false
      { s with mgt := { s.mgt with dbgHalt := s.mgt.dbgHalt.filter (· != k), stepped := [] } }
    else s
  | .stepCore k => if s.mgt.dbgHalt.contains k then { s with mgt := { s.mgt with stepped := [k] } } else s
  | .readMem addr len =>
    if inMem addr len then noteRead { s with out := { s.out with tap := memRead s addr len } } addr len else out []
  | .writeMem addr data => if inMem addr data.length then memWrite s addr data else s
  | .readSram addr len => out (sramRead s addr len)
  | .writeSram addr data => sramWrite s addr data

/-- The level an operation needs (R414). -/
def tapNeeds : TapOp → Nat
  | .idcode => 0
  | .bypass _ => 0
  | .boundary => 1
  | .readReg _ => 1
  | _ => 2

/-- R393: a JTAG operation: before a debug unlock only IDCODE and BYPASS answer. -/
def execTapAccess (op : TapOp) (s : State) : Host.Outcome State Fault Refusal :=
  live s (if tapNeeds op ≤ tapLevel s then tapRun s op else s)

end Sys2Proof.Machine
end

