-- ==== Sys2Proof/Machine/Dispatch.lean ====
section
/-! DEFINITION. One arm per command. -/

namespace Sys2Proof.Machine

/-- The effect of a command on everything but the queue. -/
def exec (i : Instr) (s : State) : Host.Outcome State Fault Refusal :=
  match i with
  | .registerWrite a addr v => Sys2Proof.Machine.execRegisterWrite a addr v s
  | .rcRead a addr => Sys2Proof.Machine.execRcRead a addr s
  | .w1cWrite a addr v => Sys2Proof.Machine.execW1cWrite a addr v s
  | .partialAccess a addr write => Sys2Proof.Machine.execPartialAccess a addr write s
  | .indDataRead a page ecc => Sys2Proof.Machine.execIndDataRead a page ecc s
  | .indDataWrite a page v => Sys2Proof.Machine.execIndDataWrite a page v s
  | .pageLockWrite a page v => Sys2Proof.Machine.execPageLockWrite a page v s
  | .parityMismatch page off => Sys2Proof.Machine.execParityMismatch page off s
  | .pageDisable a page v => Sys2Proof.Machine.execPageDisable a page v s
  | .pageEnable a page v => Sys2Proof.Machine.execPageEnable a page v s
  | .pageSoftReset a page v => Sys2Proof.Machine.execPageSoftReset a page v s
  | .softResetDone page => Sys2Proof.Machine.execSoftResetDone page s
  | .bar2Read addr len => Sys2Proof.Machine.execBar2Read addr len s
  | .bar2Write addr data => Sys2Proof.Machine.execBar2Write addr data s
  | .pcieLinkChange l => Sys2Proof.Machine.execPcieLinkChange l s
  | .igLinkChange n up align lanes => Sys2Proof.Machine.execIgLinkChange n up align lanes s
  | .igFrameRx n f => Sys2Proof.Machine.execIgFrameRx n f s
  | .bufferAssign st clocks => Sys2Proof.Machine.execBufferAssign st clocks s
  | .frameCloseTimeout st => Sys2Proof.Machine.execFrameCloseTimeout st s
  | .fencePublish st buf => Sys2Proof.Machine.execFencePublish st buf s
  | .streamEnable a st w0 => Sys2Proof.Machine.execStreamEnable a st w0 s
  | .streamDisable a st w0 => Sys2Proof.Machine.execStreamDisable a st w0 s
  | .ingestEnable a v => Sys2Proof.Machine.execIngestEnable a v s
  | .ingestDisable a v => Sys2Proof.Machine.execIngestDisable a v s
  | .sdiLockChange n carrier lock lines rate12g => Sys2Proof.Machine.execSdiLockChange n carrier lock lines s rate12g
  | .sdiFrameRx n f => Sys2Proof.Machine.execSdiFrameRx n f s
  | .commit a mask => Sys2Proof.Machine.execCommit a mask s
  | .commitCheckDone upsets => Sys2Proof.Machine.execCommitCheckDone upsets s
  | .commitCancel a mask => Sys2Proof.Machine.execCommitCancel a mask s
  | .layerLatch k n upsets => Sys2Proof.Machine.execLayerLatch k n upsets s
  | .placementPacket via srcIp dstPort frameBytes payload => Sys2Proof.Machine.execPlacementPacket via srcIp dstPort frameBytes payload s
  | .awningGroupLatch k n g => Sys2Proof.Machine.execAwningGroupLatch k n g s
  | .spanBuildStart k n => Sys2Proof.Machine.execSpanBuildStart k n s
  | .spanBuildDone k n clocks => Sys2Proof.Machine.execSpanBuildDone k n clocks s
  | .spanSwap k n => Sys2Proof.Machine.execSpanSwap k n s
  | .fetchRelease k n b => Sys2Proof.Machine.execFetchRelease k n b s
  | .fetchDataReturn id => Sys2Proof.Machine.execFetchDataReturn id s
  | .fabricSlotGrant pc be ecc0 ecc1 => Sys2Proof.Machine.execFabricSlotGrant pc be ecc0 ecc1 s
  | .arbitrationWindowEnd pc => Sys2Proof.Machine.execArbitrationWindowEnd pc s
  | .recheckGo a v => Sys2Proof.Machine.execRecheckGo a v s
  | .recheckDone => Sys2Proof.Machine.execRecheckDone s
  | .contextGranuleReturn id => Sys2Proof.Machine.execContextGranuleReturn id s
  | .calEnable a v => Sys2Proof.Machine.execCalEnable a v s
  | .flipGo a v => Sys2Proof.Machine.execFlipGo a v s
  | .scrubCheck ecc0 ecc1 => Sys2Proof.Machine.execScrubCheck ecc0 ecc1 s
  | .bandEnter k n b => Sys2Proof.Machine.execBandEnter k n b s
  | .compositionStepDone upsets => Sys2Proof.Machine.execCompositionStepDone upsets s
  | .bandDeadline k n b => Sys2Proof.Machine.execBandDeadline k n b s
  | .gsFillGo a v => Sys2Proof.Machine.execGsFillGo a v s
  | .gsFillDone => Sys2Proof.Machine.execGsFillDone s
  | .seqRestart p k n upsets => Sys2Proof.Machine.execSeqRestart p k n upsets s
  | .nop p => Sys2Proof.Machine.execNop p s
  | .set p f => Sys2Proof.Machine.execSet p f s
  | .add p f => Sys2Proof.Machine.execAdd p f s
  | .loop p countM1 => Sys2Proof.Machine.execLoop p countM1 s
  | .endloop p => Sys2Proof.Machine.execEndloop p s
  | .waitBand p f => Sys2Proof.Machine.execWaitBand p f s
  | .waitBandRelease p => Sys2Proof.Machine.execWaitBandRelease p s
  | .waitTime p t => Sys2Proof.Machine.execWaitTime p t s
  | .waitTimeRelease p => Sys2Proof.Machine.execWaitTimeRelease p s
  | .waitEvent p line tmo => Sys2Proof.Machine.execWaitEvent p line tmo s
  | .waitEventRelease p => Sys2Proof.Machine.execWaitEventRelease p s
  | .waitEventTimeout p => Sys2Proof.Machine.execWaitEventTimeout p s
  | .send p f => Sys2Proof.Machine.execSend p f s
  | .pixelFrameStart p upsets => Sys2Proof.Machine.execPixelFrameStart p upsets s
  | .close p => Sys2Proof.Machine.execClose p s
  | .closeRelease p => Sys2Proof.Machine.execCloseRelease p s
  | .signal p => Sys2Proof.Machine.execSignal p s
  | .seqEnd p => Sys2Proof.Machine.execSeqEnd p s
  | .loadCheckGo a p v => Sys2Proof.Machine.execLoadCheckGo a p v s
  | .loadCheckDone p => Sys2Proof.Machine.execLoadCheckDone p s
  | .swapGo a p v => Sys2Proof.Machine.execSwapGo a p v s
  | .swapCancel a p v => Sys2Proof.Machine.execSwapCancel a p v s
  | .seqEnable a p v => Sys2Proof.Machine.execSeqEnable a p v s
  | .seqDisable a p v => Sys2Proof.Machine.execSeqDisable a p v s
  | .tileLinkChange p up lock => Sys2Proof.Machine.execTileLinkChange p up lock s
  | .tileFrameRx p f => Sys2Proof.Machine.execTileFrameRx p f s
  | .farOkLoss p => Sys2Proof.Machine.execFarOkLoss p s
  | .timeFrameTick => Sys2Proof.Machine.execTimeFrameTick s
  | .lanternQueue k n => Sys2Proof.Machine.execLanternQueue k n s
  | .egressSelect p => Sys2Proof.Machine.execEgressSelect p s
  | .txFrameDone p => Sys2Proof.Machine.execTxFrameDone p s
  | .gateWindowOpen p => Sys2Proof.Machine.execGateWindowOpen p s
  | .sessionDoorbell a p se v => Sys2Proof.Machine.execSessionDoorbell a p se v s
  | .sessionDescReadDone p se hd err => Sys2Proof.Machine.execSessionDescReadDone p se hd s err
  | .sessionAckTimeout p se => Sys2Proof.Machine.execSessionAckTimeout p se s
  | .sessionComplete p se => Sys2Proof.Machine.execSessionComplete p se s
  | .mqDoorbell a p v => Sys2Proof.Machine.execMqDoorbell a p v s
  | .mqDescReadDone p hd err => Sys2Proof.Machine.execMqDescReadDone p hd s err
  | .queueSample p => Sys2Proof.Machine.execQueueSample p s
  | .sampleClear a p v => Sys2Proof.Machine.execSampleClear a p v s
  | .timeCounterTick => Sys2Proof.Machine.execTimeCounterTick s
  | .incOfsWrite a v => Sys2Proof.Machine.execIncOfsWrite a v s
  | .captureGo a v => Sys2Proof.Machine.execCaptureGo a v s
  | .captureArm a v => Sys2Proof.Machine.execCaptureArm a v s
  | .captureEvent => Sys2Proof.Machine.execCaptureEvent s
  | .ppsEnd => Sys2Proof.Machine.execPpsEnd s
  | .stepOffset a v => Sys2Proof.Machine.execStepOffset a v s
  | .stepAbsolute a v => Sys2Proof.Machine.execStepAbsolute a v s
  | .svLinkChange n up lock => Sys2Proof.Machine.execSvLinkChange n up lock s
  | .svFrameRx n f => Sys2Proof.Machine.execSvFrameRx n f s
  | .ptpMessage via m raw => Sys2Proof.Machine.execPtpMessage via m raw s
  | .syncTimeout => Sys2Proof.Machine.execSyncTimeout s
  | .holdoverEnd a v => Sys2Proof.Machine.execHoldoverEnd a v s
  | .lockedWrite a v => Sys2Proof.Machine.execLockedWrite a v s
  | .phaseEnable a v => Sys2Proof.Machine.execPhaseEnable a v s
  | .phaseDisable a v => Sys2Proof.Machine.execPhaseDisable a v s
  | .phaseStart k n => Sys2Proof.Machine.execPhaseStart k n s
  | .offsetApplyGo a v => Sys2Proof.Machine.execOffsetApplyGo a v s
  | .offsetApplyEffect => Sys2Proof.Machine.execOffsetApplyEffect s
  | .twinEnable a v => Sys2Proof.Machine.execTwinEnable a v s
  | .twinDisable a v => Sys2Proof.Machine.execTwinDisable a v s
  | .twinLinkChange l up => Sys2Proof.Machine.execTwinLinkChange l up s
  | .healthRecord l r => Sys2Proof.Machine.execHealthRecord l r s
  | .timeRecord l r => Sys2Proof.Machine.execTimeRecord l r s
  | .commitRecord l r => Sys2Proof.Machine.execCommitRecord l r s
  | .cancelRecord l r => Sys2Proof.Machine.execCancelRecord l r s
  | .digestRecord l r => Sys2Proof.Machine.execDigestRecord l r s
  | .flipRecord l r => Sys2Proof.Machine.execFlipRecord l r s
  | .placeRecord l r => Sys2Proof.Machine.execPlaceRecord l r s
  | .fenceRecord l r => Sys2Proof.Machine.execFenceRecord l r s
  | .digestSend => Sys2Proof.Machine.execDigestSend s
  | .digestCompare => Sys2Proof.Machine.execDigestCompare s
  | .mirroredCancelApply => Sys2Proof.Machine.execMirroredCancelApply s
  | .placeApply => Sys2Proof.Machine.execPlaceApply s
  | .fencePairReady => Sys2Proof.Machine.execFencePairReady s
  | .healthSend k n => Sys2Proof.Machine.execHealthSend k n s
  | .twinTimeSend => Sys2Proof.Machine.execTwinTimeSend s
  | .peerLoss => Sys2Proof.Machine.execPeerLoss s
  | .searchTimeout => Sys2Proof.Machine.execSearchTimeout s
  | .join => Sys2Proof.Machine.execJoin s
  | .phaseYield k n => Sys2Proof.Machine.execPhaseYield k n s
  | .bltCopy a v rows => Sys2Proof.Machine.execBltCopy a v rows s
  | .bltFill a v rows => Sys2Proof.Machine.execBltFill a v rows s
  | .bltCopyBlend a v rows => Sys2Proof.Machine.execBltCopyBlend a v rows s
  | .bltCopyConvert a v rows => Sys2Proof.Machine.execBltCopyConvert a v rows s
  | .bltAbort a v rows bytes => Sys2Proof.Machine.execBltAbort a v rows bytes s
  | .bltDone => Sys2Proof.Machine.execBltDone s
  | .bltMemError write rows bytes addr => Sys2Proof.Machine.execBltMemError write rows bytes addr s
  | .dmaGo a ch v => Sys2Proof.Machine.execDmaGo a ch v s
  | .dmaTrigger ch => Sys2Proof.Machine.execDmaTrigger ch s
  | .dmaDescFetchDone ch res hd => Sys2Proof.Machine.execDmaDescFetchDone ch res hd s
  | .dmaDescCheck ch => Sys2Proof.Machine.execDmaDescCheck ch s
  | .dmaDescComplete ch hd => Sys2Proof.Machine.execDmaDescComplete ch hd s
  | .dmaResponseError ch kind addr moved hd => Sys2Proof.Machine.execDmaResponseError ch kind addr moved hd s
  | .dmaTimeout ch addr moved hd issued => Sys2Proof.Machine.execDmaTimeout ch addr moved hd s issued
  | .dmaDrainDone ch => Sys2Proof.Machine.execDmaDrainDone ch s
  | .dmaAbort a ch ctrl v moved hd => Sys2Proof.Machine.execDmaAbort a ch ctrl v moved hd s
  | .dmaErrClear a ch v => Sys2Proof.Machine.execDmaErrClear a ch v s
  | .irqInputRise src => Sys2Proof.Machine.execIrqInputRise src s
  | .irqOffer src => Sys2Proof.Machine.execIrqOffer src s
  | .moderationExpiry vec => Sys2Proof.Machine.execModerationExpiry vec s
  | .offerWithdraw src => Sys2Proof.Machine.execOfferWithdraw src s
  | .claim a k => Sys2Proof.Machine.execClaim a k s
  | .hostClaim a vec => Sys2Proof.Machine.execHostClaim a vec s
  | .cpl a k v => Sys2Proof.Machine.execCpl a k v s
  | .hostCpl a v => Sys2Proof.Machine.execHostCpl a v s
  | .swSourceSet a v => Sys2Proof.Machine.execSwSourceSet a v s
  | .swSourceClear a v => Sys2Proof.Machine.execSwSourceClear a v s
  | .d0Entry => Sys2Proof.Machine.execD0Entry s
  | .swPulse a v => Sys2Proof.Machine.execSwPulse a v s
  | .tcBoot => Sys2Proof.Machine.execTcBoot s
  | .auditRecordWrite norOk => Sys2Proof.Machine.execAuditRecordWrite norOk s
  | .imageUpdate a v => Sys2Proof.Machine.execImageUpdate a v s
  | .imageUpdateDone norOk => Sys2Proof.Machine.execImageUpdateDone s norOk
  | .attest a v => Sys2Proof.Machine.execAttest a v s
  | .attestDone => Sys2Proof.Machine.execAttestDone s
  | .fwMemoryAccess core addr write len data => Sys2Proof.Machine.execFwMemoryAccess core addr write len data s
  | .wdtKick a v => Sys2Proof.Machine.execWdtKick a v s
  | .watchdogExpiry core => Sys2Proof.Machine.execWatchdogExpiry core s
  | .coreFault core => Sys2Proof.Machine.execCoreFault core s
  | .coreRestart core => Sys2Proof.Machine.execCoreRestart core s
  | .txqDoorbell a v => Sys2Proof.Machine.execTxqDoorbell a v s
  | .sessionChallenge a v => Sys2Proof.Machine.execSessionChallenge a v s
  | .challengeReady nonce => Sys2Proof.Machine.execChallengeReady nonce s
  | .challengeExpiry => Sys2Proof.Machine.execChallengeExpiry s
  | .sessionOpen a v => Sys2Proof.Machine.execSessionOpen a v s
  | .sessionVerifyDone => Sys2Proof.Machine.execSessionVerifyDone s
  | .sessionClose a v => Sys2Proof.Machine.execSessionClose a v s
  | .sessionIdleTimeout => Sys2Proof.Machine.execSessionIdleTimeout s
  | .sessionMaxTimeout => Sys2Proof.Machine.execSessionMaxTimeout s
  | .reqSubmit a v nr => Sys2Proof.Machine.execReqSubmit a v nr s
  | .reqApprove a v => Sys2Proof.Machine.execReqApprove a v s
  | .approvalVerifyDone => Sys2Proof.Machine.execApprovalVerifyDone s
  | .reqWithdraw a v => Sys2Proof.Machine.execReqWithdraw a v s
  | .reqTimeout => Sys2Proof.Machine.execReqTimeout s
  | .rights norOk => Sys2Proof.Machine.execRights s norOk
  | .enrol norOk => Sys2Proof.Machine.execEnrol s norOk
  | .fwkey => Sys2Proof.Machine.execFwkey s
  | .debug => Sys2Proof.Machine.execDebug s
  | .jump => Sys2Proof.Machine.execJump s
  | .debugRelock a v => Sys2Proof.Machine.execDebugRelock a v s
  | .powerOnReset => Sys2Proof.Machine.execPowerOnReset s
  | .resetPin ns => Sys2Proof.Machine.execResetPin ns s
  | .devRst a v => Sys2Proof.Machine.execDevRst a v s
  | .resetRelease => Sys2Proof.Machine.execResetRelease s
  | .sramInitDone => Sys2Proof.Machine.execSramInitDone s
  | .hbmTrained => Sys2Proof.Machine.execHbmTrained s
  | .refSysLoss what => Sys2Proof.Machine.execRefSysLoss what s
  | .octetPllUnlock o => Sys2Proof.Machine.execOctetPllUnlock o s
  | .igPllUnlock n => Sys2Proof.Machine.execIgPllUnlock n s
  | .refSdiLoss => Sys2Proof.Machine.execRefSdiLoss s
  | .refAonLoss => Sys2Proof.Machine.execRefAonLoss s
  | .pcieDomainReset why => Sys2Proof.Machine.execPcieDomainReset why s
  | .supplyDip => Sys2Proof.Machine.execSupplyDip s
  | .thermalTrip => Sys2Proof.Machine.execThermalTrip s
  | .hbmRetrain m => Sys2Proof.Machine.execHbmRetrain m s
  | .standbyEnter a v => Sys2Proof.Machine.execStandbyEnter a v s
  | .standbyLeave a v => Sys2Proof.Machine.execStandbyLeave a v s
  | .standbyTransitionDone => Sys2Proof.Machine.execStandbyTransitionDone s
  | .railSample mv ma => Sys2Proof.Machine.execRailSample mv ma s
  | .malformedRecord l r => Sys2Proof.Machine.execMalformedRecord l r s
  | .configurationWrite c pmeClear => Sys2Proof.Machine.execConfigurationWrite c s pmeClear
  | .tapAccess op => Sys2Proof.Machine.execTapAccess op s
  | .transmitDone port kind => Sys2Proof.Machine.execTransmitDone port kind s
  | .hbmRetrainingDone m => Sys2Proof.Machine.execHbmRetrainingDone m s
  | .octetPllRelock o => Sys2Proof.Machine.execOctetPllRelock o s
  | .igPllRelock n => Sys2Proof.Machine.execIgPllRelock n s
  | .refSdiReturn => Sys2Proof.Machine.execRefSdiReturn s
  | .refAonReturn => Sys2Proof.Machine.execRefAonReturn s
  | .pcieDomainRelease => Sys2Proof.Machine.execPcieDomainRelease s
  | .completionTimeout => Sys2Proof.Machine.execCompletionTimeout s
  | .sessionLockoutEnd => Sys2Proof.Machine.execSessionLockoutEnd s
  | .powerSample mw mj => Sys2Proof.Machine.execPowerSample mw mj s
  | .temperatureSample dies hbms => Sys2Proof.Machine.execTemperatureSample dies hbms s
  | .frequencyMeasurement khz => Sys2Proof.Machine.execFrequencyMeasurement khz s

end Sys2Proof.Machine
end

