-- ==== Sys2Proof/Safety.lean ====
section
/-! DEFINITION. The words that statements use: when a command acts at all, when a write is accepted, one byte of memory, the
canonical form of memory, and what a command leaves alone. -/

namespace Sys2Proof.Machine

/-- The canonical form of a byte store: keys strictly rising, no entry equal to what an unlisted address reads as. -/
def Memory.wf (m : Store Byte) : Bool := Store.wf memDefault m

/-- No device reset is held, so commands act (R431). -/
abbrev Awake (s : State) : Prop := s.rst.held = false

/-- No device reset is held and no gated clock is stopped, so what a gated clock drives acts too (R436). -/
abbrev Lit (s : State) : Prop := Awake s ∧ serdesOn s = true

/-- A write by agent `a` of a register covered by lock kind `k` is accepted: the page is not in soft reset, and rights, roles
and locks let it pass (R384, R385, R390). -/
abbrev Accepts (s : State) (a : Agent) (addr : Nat) (k : LockKind) : Prop :=
  rstBusy s (pageOf addr) = false ∧ writeRefusal s a (pageOf addr) k = none

/-- A write is refused with a cause of WRITE_REFUSED (R384, R385). -/
abbrev Refuses (s : State) (a : Agent) (addr : Nat) (k : LockKind) (c : Nat) : Prop :=
  rstBusy s (pageOf addr) = false ∧ writeRefusal s a (pageOf addr) k = some c

/-- One byte of device memory. -/
def memByte (s : State) (a : Nat) : Byte := Store.get memDefault s.mem a

/-- One byte of what has been written to host memory. -/
def hostByte (s : State) (a : Nat) : Byte := Store.get memDefault s.hostMem a

/-- Every byte of device memory and of host memory reads as before. -/
def SameMemory (s t : State) : Prop := (∀ a, memByte t a = memByte s a) ∧ ∀ a, hostByte t a = hostByte s a

/-- Every byte outside the ranges listed (first address in the device address map, length) reads as before (R374). -/
def MemoryExcept (l : List (Nat × Nat)) (s t : State) : Prop :=
  (∀ a, (∀ r, r ∈ l → a < r.1 ∨ r.1 + r.2 ≤ a) → memByte t a = memByte s a) ∧
  ∀ a, (∀ r, r ∈ l → hostBase + a < r.1 ∨ r.1 + r.2 ≤ hostBase + a) → hostByte t a = hostByte s a

/-- Every stored register outside a list of addresses holds what it held. -/
def RegsExcept (l : List Nat) (s t : State) : Prop := ∀ a, a ∉ l → rd t a = rd s a

/-- Every tile port but `p` is as before. -/
def OtherPorts (p : Nat) (s t : State) : Prop := ∀ q, q ≠ p → port t q = port s q

/-- Every stream engine but `i` is as before. -/
def OtherStreams (i : Nat) (s t : State) : Prop := ∀ j, j ≠ i → stream t j = stream s j

/-- Every DMA channel but `c` is as before. -/
def OtherChannels (c : Nat) (s t : State) : Prop := ∀ d, d ≠ c → dmaCh t d = dmaCh s d

/-- Every DMA channel but `c` goes on with what it does and moves. -/
def OtherRuns (c : Nat) (s t : State) : Prop :=
  ∀ d, d ≠ c → (dmaCh t d).phase = (dmaCh s d).phase ∧ (dmaCh t d).desc = (dmaCh s d).desc

/-- A byte lies in the footprint of a DMA channel that moves data or moved some since the blitter's operation `o` began (R340). -/
def crossed (s : State) (o : BltOp) (a : Nat) : Bool := (movingShapes s 16 ++ o.met).any fun x => x.has a

/-- A saturating counter after one more event. -/
def plusOne (w : Word) : Word := w32 (min 0xFFFFFFFF (w.toNat + 1))

/-- The port's table runs, holds at no wait, and has `op` at its program counter (R206, R212). -/
abbrev Issues (s : State) (p : Nat) (op : PitchOp) (r : SeqRun) : Prop :=
  runOf s p = some r ∧ r.wait = .none ∧ decodePitch (pitchWord (port s p) r.pc) = some op

/-- Commands whose own effect can reach device memory or host memory. -/
def writesMemory : Instr → Bool
  | .registerWrite _ _ _ | .parityMismatch _ _ | .pageDisable _ _ _ | .pageEnable _ _ _ | .pageSoftReset _ _ _
  | .bar2Write _ _ | .tapAccess _ | .fencePublish _ _ | .fabricSlotGrant _ _ _ _ | .txFrameDone _ | .mqDescReadDone _ _ _
  | .sessionComplete _ _ | .scrubCheck _ _ | .bltCopy _ _ _ | .bltFill _ _ _ | .bltCopyBlend _ _ _ | .bltCopyConvert _ _ _
  | .bltAbort _ _ _ _ | .bltDone | .bltMemError _ _ _ _ | .dmaGo _ _ _ | .dmaDescComplete _ _ | .dmaResponseError _ _ _ _ _
  | .dmaTimeout _ _ _ _ _ | .dmaAbort _ _ _ _ _ _ | .irqOffer _ | .moderationExpiry _ | .d0Entry
  | .fwMemoryAccess _ _ _ _ _ | .powerOnReset | .configurationWrite _ _ | .pcieLinkChange _ => true
  | _ => false

/-- Commands that a gated clock drives: in STANDBY nothing of theirs happens (R436). -/
def stopsInStandby : Instr → Bool
  | .commitCheckDone _ | .layerLatch _ _ _ | .placementPacket _ _ _ _ _ | .awningGroupLatch _ _ _ | .spanBuildStart _ _
  | .spanBuildDone _ _ _ | .spanSwap _ _ | .fetchRelease _ _ _ | .fetchDataReturn _ | .fabricSlotGrant _ _ _ _
  | .arbitrationWindowEnd _ | .recheckDone | .contextGranuleReturn _ | .scrubCheck _ _ | .bandEnter _ _ _
  | .compositionStepDone _ | .bandDeadline _ _ _ | .gsFillDone | .seqRestart _ _ _ _ | .nop _ | .set _ _ | .add _ _
  | .loop _ _ | .endloop _ | .waitBand _ _ | .waitBandRelease _ | .waitTime _ _ | .waitTimeRelease _ | .waitEvent _ _ _
  | .waitEventRelease _ | .waitEventTimeout _ | .send _ _ | .pixelFrameStart _ _ | .close _ | .closeRelease _ | .signal _
  | .seqEnd _ | .loadCheckDone _ | .farOkLoss _ | .lanternQueue _ _ | .txFrameDone _ | .sessionDescReadDone _ _ _ _
  | .sessionAckTimeout _ _ | .sessionComplete _ _ | .mqDescReadDone _ _ _ | .digestSend | .digestCompare
  | .mirroredCancelApply | .placeApply | .fencePairReady | .healthSend _ _ | .twinTimeSend | .join | .phaseYield _ _
  | .bltDone | .bltMemError _ _ _ _ | .dmaTrigger _ | .dmaDescFetchDone _ _ _ | .dmaDescCheck _ | .dmaDescComplete _ _
  | .dmaResponseError _ _ _ _ _ | .dmaTimeout _ _ _ _ _ | .dmaDrainDone _ => true
  | _ => false

/-- Commands that act while a device reset is held: what raises or ends a reset, and what the always-on domain sees (R431). -/
def actsInReset : Instr → Bool
  | .powerOnReset | .resetPin _ | .resetRelease | .refSysLoss _ | .supplyDip | .thermalTrip | .refAonLoss | .refAonReturn
  | .refSdiLoss | .refSdiReturn | .pcieDomainReset _ | .pcieDomainRelease
  | .railSample _ _ | .powerSample _ _ | .temperatureSample _ _ | .frequencyMeasurement _ => true
  | _ => false

end Sys2Proof.Machine
end

