-- ==== Sys2Proof/Certificates/Slice0/Obligations.lean ====
section
/-! DEFINITION. The statements about the model that the provers take up. -/

open Sys2Proof Sys2Proof.Machine

/-- For every state and every command at the front of its queue, the step is exec of that command on the state with the
queue's rest; with an empty queue the step answers the same state (idling is the model's choice, log entry 10). -/
def Obligations.StepRunsFrontCommand : Prop :=
  (∀ (s : State) (c : Instr) (rest : List Instr), s.pending = c :: rest → step s = exec c { s with pending := rest }) ∧
  ∀ s : State, s.pending = [] → step s = .next s

/-- After reset the queue is empty, no device reset is held, every register holds its reset word, with PAGE_CTRL.EN 1 and no
lock on every listed page, SHARES at 0xA46, PH_EN 0, no port running, no session open and no operation of the blitter; every
byte of memory reads as an unlisted byte does (log entry 2: the model's choice, 0).
At State.reset device memory and host memory list nothing, and so have the canonical form. -/
def Obligations.ResetState : Prop :=
  (State.reset.pending = [] ∧ Awake State.reset ∧
  (∀ a, rd State.reset a = resetWord a) ∧
  (∀ pg, (pageInfo pg).isSome → rdB State.reset (Reg.HDR.PAGE_CTRL pg) 0 = true ∧ rd State.reset (Reg.HDR.PAGE_LOCK pg) = 0 ∧
    rstBusy State.reset pg = false) ∧
  rd State.reset Reg.FAB.SHARES = 0xA46 ∧ rdB State.reset Reg.TIM.TIM_CTRL 0 = false ∧
  (∀ p, port State.reset p = TilePort.reset) ∧ (∀ i, stream State.reset i = Stream.reset) ∧
  (∀ c, dmaCh State.reset c = DmaCh.reset) ∧
  State.reset.sec.sess = none ∧ State.reset.blt = none ∧ (∀ a, memByte State.reset a = memDefault a)) ∧
  (Memory.wf State.reset.mem = true ∧ Memory.wf State.reset.hostMem = true)

/-- For every state whose device memory and host memory are in canonical form (addresses strictly rising, no entry equal to
what an unlisted address reads as), every next state that a step answers has both in canonical form. -/
def Obligations.MemoryStaysCanonical : Prop :=
  ∀ s t : State, Memory.wf s.mem = true → Memory.wf s.hostMem = true → step s = .next t →
    Memory.wf t.mem = true ∧ Memory.wf t.hostMem = true

/-- For every command and every state, exec answers a next state, with the queue of waiting commands as it was: no command
faults, is refused, or takes another command off the queue.
While a device reset is held, every command other than those that raise or end a reset or that the always-on domain sees
changes nothing at all; nor, in STANDBY and on the way into it, does any command that a gated clock drives (as commands outside
their preconditions: the model's choice, log entries 1 and 132). -/
def Obligations.EveryCommandCompletes : Prop :=
  (∀ (c : Instr) (s : State), ∃ t, exec c s = .next t ∧ t.pending = s.pending) ∧
  (∀ (c : Instr) (s : State), actsInReset c = false → s.rst.held = true → exec c s = .next s) ∧
  ∀ (c : Instr) (s : State), stopsInStandby c = true → serdesOn s = false → exec c s = .next s

/-- The memory frame of all commands: apart from those that writesMemory lists, a command leaves every byte of device memory
and of host memory as it was.
For every command but a write of the configuration space, and every state with bus mastering disabled, no byte of host
memory changes. -/
def Obligations.MemoryFrames : Prop :=
  (∀ (c : Instr) (s t : State), writesMemory c = false → exec c s = .next t → SameMemory s t) ∧
  (∀ (c : Instr) (s t : State), (∀ x b, c ≠ .configurationWrite x b) → s.pcie.cfg.busMaster = false → exec c s = .next t →
    ∀ a, hostByte t a = hostByte s a)

/-- In every state whose EPOCH is at most 16384 every step keeps that bound, and the minimum version, the EPOCH and the
programmed and revoked marks of the image keys never go back; the hashes of the makers' keys and the secret stay as they were, and
a minimum version within its 64 values stays within them. -/
def Obligations.FusesNeverClear : Prop :=
  ∀ s t : State, s.otp.epoch ≤ 16384 → step s = .next t →
    t.otp.epoch ≤ 16384 ∧ s.otp.epoch ≤ t.otp.epoch ∧ s.otp.svnMin ≤ t.otp.svnMin ∧
    (s.otp.svnMin ≤ 63 → t.otp.svnMin ≤ 63) ∧ t.otp.makers = s.otp.makers ∧ t.otp.secret = s.otp.secret ∧
    ∀ i, ((fwKey s i).programmed = true → (fwKey t i).programmed = true) ∧
      ((fwKey s i).revoked = true → (fwKey t i).revoked = true)

/-- For every pitch instruction, with every operand at every value its field admits, decoding its word gives it back; and a
word that decodes is the word of what it decodes to, so no two words stand for one instruction. -/
def Obligations.PitchRoundTrip : Prop :=
  (∀ op : PitchOp, decodePitch (encodePitch op) = some op) ∧
  ∀ (w : BitVec 64) (op : PitchOp), decodePitch w = some op → encodePitch op = w

/-- REGISTER_WRITE of an RW register, accepted, on a page whose plain writes do nothing but store: the register holds its old
reserved bits and the written ones, its parity bit is made anew, a fall of the page's interrupt input is noted (R356), the session
counts as active, and nothing else changes. On every page, an accepted write of an RW register that is no command of its own acts as acceptReg says. A write of a word where
no register stands, when it is accepted, stores nothing. -/
def Obligations.RegisterWriteStores : Prop :=
  ∀ (s : State) (a : Agent) (addr : Nat) (v : Word), Awake s → msixAt addr = none → addr % 4 = 0 → 0x80 ≤ addr % 0x1000 →
    (pageInfo (pageOf addr)).isSome = true →
    (∀ k i r, regRow addr = some (k, i, r) → r.acc = .rw → writeOwn s a k i (addr % 0x1000) v = none →
      k ∉ [.tp, .awn, .sv, .tlg, .tim, .twn, .mgt, .icu, .dc] → Accepts s a addr .cfg →
        exec (.registerWrite a addr v) s =
          .next (touchSession s a (pageOf addr) (notePage (wr s addr (written s k r addr v)) addr))) ∧
    (∀ k i r, regRow addr = some (k, i, r) → r.acc = .rw → writeOwn s a k i (addr % 0x1000) v = none → Accepts s a addr .cfg →
      ¬ (k = .tim ∧ addr % 0x1000 = 0xB8 ∧ a ≠ .tc ∧ 10000 < v.toNat) →
        exec (.registerWrite a addr v) s = .next (touchSession s a (pageOf addr) (acceptReg s k i r addr v))) ∧
    (regRow addr = none → Accepts s a addr .open → exec (.registerWrite a addr v) s = .next (touchSession s a (pageOf addr) s))

/-- A register write that rights, a role or a lock refuses leaves the register as it was (unless it is one of the two that
record the refusal): PAGE_LOCK_VIOL of the page counts up, saturating, PAGE_ERR.LOCK_VIOL is set, and while the audit queue
has room one WRITE_REFUSED record with the cause joins it. While the page is in soft reset the write is dropped whole. -/
def Obligations.RefusedWriteRecorded : Prop :=
  ∀ (s : State) (a : Agent) (addr : Nat) (v : Word) (k : PageKind) (i : Nat) (r : RegRow), Awake s → msixAt addr = none →
    addr % 4 = 0 → 0x80 ≤ addr % 0x1000 → (pageInfo (pageOf addr)).isSome = true → regRow addr = some (k, i, r) → r.acc = .rw →
    writeOwn s a k i (addr % 0x1000) v = none →
    (∀ c, Refuses s a addr .cfg c → ∃ t, exec (.registerWrite a addr v) s = .next t ∧ t = { s with regs := t.regs, par := t.par, aud := t.aud, icu := t.icu } ∧
      rd t (Reg.HDR.PAGE_LOCK_VIOL (pageOf addr)) = plusOne (rd s (Reg.HDR.PAGE_LOCK_VIOL (pageOf addr))) ∧
      rdB t (Reg.HDR.PAGE_ERR (pageOf addr)) 1 = true ∧
      RegsExcept [Reg.HDR.PAGE_LOCK_VIOL (pageOf addr), Reg.HDR.PAGE_ERR (pageOf addr), Reg.AUD.LOST] s t ∧
      (s.aud.queue.length < 256 → s.aud.lost = 0 → ∃ x : AudRec, t.aud.queue = s.aud.queue ++ [x] ∧ x.kind = 2 ∧
        x.agent = agentCode a ∧ byteAt x.args 8 = BitVec.ofNat 8 c)) ∧
    (rstBusy s (pageOf addr) = true → exec (.registerWrite a addr v) s = .next s)

/-- RC_READ of an RC register outside the interrupt controller answers what the register shows and leaves it 0; RC_READ of an
RW register answers its word and changes nothing else. W1C_WRITE, when rights let it pass, clears exactly the register's bits
written as 1, and notes a fall of the page's interrupt input (R356). -/
def Obligations.ReadsClearAndW1c : Prop :=
  (∀ (s : State) (a : Agent) (addr : Nat) (k : PageKind) (i : Nat) (r : RegRow), Awake s → msixAt addr = none →
    addr % 4 = 0 → 0x80 ≤ addr % 0x1000 → addr ≠ 0x1FFF000 → addr ≠ 0x1FFF004 → regRow addr = some (k, i, r) → k ≠ .icu →
    (r.acc = .rc → ∃ t, exec (.rcRead a addr) s = .next t ∧ t = { s with regs := t.regs, par := t.par, out := t.out } ∧
      Store.get zeroW t.out.word (agentCode a) = regView s a addr ∧ rd t addr = 0 ∧
      RegsExcept [addr, Reg.MGT.FW_FAULT_INFO] s t) ∧
    (r.acc = .rw → ∃ t, exec (.rcRead a addr) s = .next t ∧ t = { s with out := t.out } ∧
      Store.get zeroW t.out.word (agentCode a) = regView s a addr)) ∧
  ∀ (s : State) (a : Agent) (addr : Nat) (v : Word) (k : PageKind) (i : Nat) (r : RegRow), Awake s → regRow addr = some (k, i, r) →
    r.acc = .w1c → k ≠ .dc → 0x80 ≤ addr % 0x1000 → Accepts s a addr .open →
      ∃ t, exec (.w1cWrite a addr v) s = .next (touchSession s a (pageOf addr) t) ∧ t = { s with regs := t.regs, par := t.par, icu := t.icu } ∧
        rd t addr = rd s addr &&& ~~~(v &&& w32 r.mask) ∧ RegsExcept [addr] s t

/-- PARTIAL_ACCESS to a listed page: PAGE_ERR.ACCESS of the page is set and GBL.ACCESS_ERR counts up; a read answers 0 and
clears nothing, a write stores nothing.
PARITY_MISMATCH at a covered register whose parity is good: PAGE_ERR.PARITY is set, PAGE_PAR_ADDR holds an offset, and where the
page has a safe action it is in force. On a page that has none, or is in it already, other than SEC and AUD, the register changes
only in bits an upset may change (which of them is left open, log entry 113), PAGE_PAR_ADDR records the offset unless it already
holds one, and no other register changes. At a register that is not covered, or whose parity is bad already, nothing changes (the
model's choice, log entry 1). -/
def Obligations.PageErrors : Prop :=
  (∀ (s : State) (a : Agent) (addr : Nat) (write : Bool), Awake s → (pageInfo (pageOf addr)).isSome = true →
    ∃ t, exec (.partialAccess a addr write) s = .next t ∧ t = { s with regs := t.regs, par := t.par, out := t.out } ∧
      rdB t (Reg.HDR.PAGE_ERR (pageOf addr)) 2 = true ∧ rd t Reg.GBL.ACCESS_ERR = plusOne (rd s Reg.GBL.ACCESS_ERR) ∧
      RegsExcept [Reg.HDR.PAGE_ERR (pageOf addr), Reg.GBL.ACCESS_ERR] s t ∧
      (write = true → t.out = s.out) ∧ (write = false → Store.get zeroW t.out.word (agentCode a) = 0)) ∧
  (∀ (s : State) (pg off : Nat), Awake s → off < 0x1000 → parityCovers pg off = true →
    Store.get noB s.par.bad (0x1000 * pg + off) = false →
    ∃ t, exec (.parityMismatch pg off) s = .next t ∧ (noSafeAction pg = false → safe t pg = true) ∧
      rdB t (Reg.HDR.PAGE_ERR pg) 0 = true ∧ rdB t (Reg.HDR.PAGE_PAR_ADDR pg) 31 = true) ∧
  (∀ (s : State) (pg off : Nat), Awake s →
    (parityCovers pg off = false ∨ Store.get noB s.par.bad (0x1000 * pg + off) = true) → exec (.parityMismatch pg off) s = .next s) ∧
  (∀ (s : State) (pg off : Nat), Awake s → off < 0x1000 → parityCovers pg off = true →
    Store.get noB s.par.bad (0x1000 * pg + off) = false → pg ≠ Page.SEC → pg ≠ Page.AUD →
    (safe s pg = true ∨ noSafeAction pg = true) →
    ∃ t, exec (.parityMismatch pg off) s = .next t ∧ t = { s with regs := t.regs, par := t.par, free := s.free + 1 } ∧
      rd t (0x1000 * pg + off) = rd s (0x1000 * pg + off) ^^^ (Config.freeWord s.free &&& upsetMask pg off) ∧
      rdB t (Reg.HDR.PAGE_ERR pg) 0 = true ∧ Store.get noB t.par.bad (0x1000 * pg + off) = true ∧
      (bit (rd s (Reg.HDR.PAGE_PAR_ADDR pg)) 31 = true → rd t (Reg.HDR.PAGE_PAR_ADDR pg) = rd s (Reg.HDR.PAGE_PAR_ADDR pg)) ∧
      (bit (rd s (Reg.HDR.PAGE_PAR_ADDR pg)) 31 = false → rd t (Reg.HDR.PAGE_PAR_ADDR pg) = w32 (2 ^ 31 + off)) ∧
      RegsExcept [0x1000 * pg + off, Reg.HDR.PAGE_ERR pg, Reg.HDR.PAGE_PAR_ADDR pg] s t)

/-- IND_DATA_READ answers the window's word at IND_ADDR (what windowMeets gives) and IND_DATA_WRITE, accepted, has the window's
effect; both advance the accessing agent's IND_ADDR of that page by STRIDE modulo 2^32, refused or not, and no other agent's
pointer and no other page's pointer moves. While the page is in soft reset a write is dropped and nothing advances. -/
def Obligations.IndirectWindowWalks : Prop :=
  ∀ (s : State) (a : Agent) (pg : Nat) (k : PageKind) (f i : Nat), Awake s → pg < 0x1000 → pageInfo pg = some (k, f, i) →
    (∀ e, ∃ t, exec (.indDataRead a pg e) s = .next t ∧
      Store.get zeroW t.out.word (agentCode a) = (windowMeets s a k i (indOff s a pg) e).1 ∧
      indAddr t a pg = (indAddr s a pg + indStride s a pg) % 2 ^ 32 ∧
      ∀ b q, q < 0x1000 → (b ≠ a ∨ q ≠ pg) → indAddr t b q = indAddr s b q) ∧
    (∀ v, rstBusy s pg = false → ∃ t, exec (.indDataWrite a pg v) s = .next t ∧
      indAddr t a pg = (indAddr s a pg + indStride s a pg) % 2 ^ 32 ∧
      (∀ b q, q < 0x1000 → (b ≠ a ∨ q ≠ pg) → indAddr t b q = indAddr s b q) ∧
      (writeRefusal s a pg .ind = none → t = indAdvance (touchSession s a pg (windowWrite s a k i (indOff s a pg) v)) a pg) ∧
      ∀ c, writeRefusal s a pg .ind = some c → t = indAdvance (refuseWrite s a (Reg.HDR.IND_DATA pg) v c) a pg) ∧
    ∀ v, rstBusy s pg = true → exec (.indDataWrite a pg v) s = .next s

/-- PAGE_LOCK_WRITE on a listed page whose rights accept it: the first write since device reset stores the four lock bits whole
(zero included) and marks the lock as written; a later write is refused and leaves PAGE_LOCK as it was.
Accepted writes of PAGE_CTRL. EN = 1 stores EN and nothing else. EN = 0 stores it, and on a page with a safe action puts
that action in force. SOFT_RST = 1 on a page that implements it returns every register of the page from 0x080 to its reset
value, clears PAGE_IRQ_EN, and makes the page busy; the completion of the reset ends that, a tile port's lane then takes the
preset its board data gives, and nothing else changes. -/
def Obligations.PageControlAndLock : Prop :=
  (∀ (s : State) (a : Agent) (pg : Nat) (v : Word), Awake s → (pageInfo pg).isSome = true → rstBusy s pg = false →
    rightsRefusal s a pg = none → Store.get noB s.par.bad (Reg.HDR.PAGE_LOCK pg) = false →
    (Store.get noB s.par.once pg = false → ∃ t, exec (.pageLockWrite a pg v) s = .next t ∧
      rd t (Reg.HDR.PAGE_LOCK pg) = v &&& 0xF ∧ Store.get noB t.par.once pg = true ∧ SameMemory s t ∧
      RegsExcept [Reg.HDR.PAGE_LOCK pg, Reg.AUD.LOST] s t) ∧
    (Store.get noB s.par.once pg = true → ∃ t, exec (.pageLockWrite a pg v) s = .next t ∧
      rd t (Reg.HDR.PAGE_LOCK pg) = rd s (Reg.HDR.PAGE_LOCK pg) ∧
      rd t (Reg.HDR.PAGE_LOCK_VIOL pg) = plusOne (rd s (Reg.HDR.PAGE_LOCK_VIOL pg)) ∧ SameMemory s t)) ∧
  ((∀ (s : State) (a : Agent) (pg : Nat) (v : Word), Awake s → (pageInfo pg).isSome = true →
    Accepts s a (Reg.HDR.PAGE_CTRL pg) .hdr →
    (bit v 0 = true → bit v 1 = false →
      exec (.pageEnable a pg v) s = .next (touchSession s a pg (wr s (Reg.HDR.PAGE_CTRL pg) (v &&& 1)))) ∧
    (bit v 0 = false → bit v 1 = false →
      exec (.pageDisable a pg v) s = .next (touchSession s a pg
        (if safe s pg then wr s (Reg.HDR.PAGE_CTRL pg) (v &&& 1) else safeOnset (wr s (Reg.HDR.PAGE_CTRL pg) (v &&& 1)) pg)) ∧
      (noSafeAction pg = false → safe (wr s (Reg.HDR.PAGE_CTRL pg) (v &&& 1)) pg = true)) ∧
    (bit v 1 = true → hasSoftReset pg = true → ∃ t, exec (.pageSoftReset a pg v) s = .next (touchSession s a pg t) ∧
      rstBusy t pg = true ∧ (∀ off, 0x80 ≤ off → off < 0x1000 → rd t (0x1000 * pg + off) = resetWord (0x1000 * pg + off)) ∧
      rd t (Reg.HDR.PAGE_IRQ_EN pg) = 0x80000000)) ∧
  ∀ (s : State) (pg : Nat), Awake s → ∃ t, exec (.softResetDone pg) s = .next t ∧ rstBusy t pg = false ∧
    t = { s with par := { s.par with busy := t.par.busy }, rst := { s.rst with presets := t.rst.presets } } ∧
    (∀ q, q ≠ pg → rstBusy t q = rstBusy s q) ∧
    ∀ p, p < 256 → pg = Page.TP p → rstBusy s pg = true → lanePreset t p = boardPreset s (rdB s Reg.SEC.SEC_STATUS 8) p)

/-- A BAR2 write inside device memory, with BAR2 enabled, writes not protected and memory trained, writes its bytes at its
address and no other byte; a BAR2 read answers the bytes and changes no byte. Outside device memory, with BAR2 disabled, or for
a write while writes are protected, the access has no effect but the count BAR2_UNMAPPED, and a read answers zeros.
CONFIGURATION_WRITE stores the function's configuration bits, with sizes above the support limited to it (the model's choice, log
entry 140), and PME_Status clears as written. PCIE_LINK_CHANGE, with the PCIE domain released, stores the link's speed, width and
ASPM state, and the D-state unless the function is in D3hot (R365), and a request for L0 stands only while the link is not in it;
while it does not come back from L1 no byte of memory changes. TAP_ACCESS at or above the level its operation needs: memory is read without
a byte changed, or the bytes given are written and no others, the same of SRAM; a running core is halted, a halted one runs, or
takes one step; IDCODE, BYPASS, the boundary pins and a register are answered and change nothing else. Below that level it has no
effect. -/
def Obligations.HostAccesses : Prop :=
  ((∀ (s : State) (addr : Nat) (data : List Byte), Awake s →
    (bar2Off s addr data.length true = false → ∃ t, exec (.bar2Write addr data) s = .next t ∧
      t = { s with mem := t.mem, poison := t.poison } ∧
      (∀ i, i < data.length → memByte t (addr + i) = byteAt data i) ∧
      ∀ b, b < addr ∨ addr + data.length ≤ b → memByte t b = memByte s b) ∧
    (bar2Off s addr data.length true = true → ∃ t, exec (.bar2Write addr data) s = .next t ∧ SameMemory s t ∧
      rd t Reg.GBL.BAR2_UNMAPPED = plusOne (rd s Reg.GBL.BAR2_UNMAPPED) ∧ RegsExcept [Reg.GBL.BAR2_UNMAPPED] s t)) ∧
  ∀ (s : State) (addr len : Nat), Awake s →
    (bar2Off s addr len false = false → ∃ t, exec (.bar2Read addr len) s = .next t ∧ t.out.bar2 = memRead s addr len ∧
      SameMemory s t) ∧
    (bar2Off s addr len false = true → ∃ t, exec (.bar2Read addr len) s = .next t ∧ t.out.bar2 = List.replicate len 0 ∧
      rd t Reg.GBL.BAR2_UNMAPPED = plusOne (rd s Reg.GBL.BAR2_UNMAPPED) ∧ RegsExcept [Reg.GBL.BAR2_UNMAPPED] s t ∧ SameMemory s t)) ∧
  ((∀ (s : State) (c : PcieCfg) (clear : Bool), Awake s → s.rst.pcieUp = true → ∃ t,
    exec (.configurationWrite c clear) s = .next t ∧
    t.pcie.cfg = { c with maxPayload := min 2 c.maxPayload, maxRead := min 5 c.maxRead } ∧
    t.pcie.pmeStatus = (s.pcie.pmeStatus && !clear) ∧ t.regs = s.regs ∧ ∀ a, memByte t a = memByte s a) ∧
  (∀ (s : State) (l : PcieLink), Awake s → s.rst.pcieUp = true → ∃ t, exec (.pcieLinkChange l) s = .next t ∧
    t.pcie = { s.pcie with
      link := ⟨l.up, l.speed, l.width, if s.pcie.link.dstate = 3 then 3 else l.dstate, l.aspm⟩
      l0Asked := s.pcie.l0Asked && l.aspm != 0 } ∧ t.regs = s.regs ∧ (∀ a, memByte t a = memByte s a) ∧
    ((s.pcie.link.aspm = 0 ∨ l.aspm ≠ 0) → t = { s with pcie := t.pcie })) ∧
  (∀ (s : State) (addr : Nat) (data : List Byte), Awake s → 2 ≤ tapLevel s → inMem addr data.length = true →
    ∃ t, exec (.tapAccess (.writeMem addr data)) s = .next t ∧ t = { s with mem := t.mem, poison := t.poison } ∧
      (∀ i, i < data.length → memByte t (addr + i) = byteAt data i) ∧
      ∀ b, b < addr ∨ addr + data.length ≤ b → memByte t b = memByte s b) ∧
  (∀ (s : State) (addr len : Nat), Awake s → 2 ≤ tapLevel s → inMem addr len = true →
    ∃ t, exec (.tapAccess (.readMem addr len)) s = .next t ∧ t.out.tap = memRead s addr len ∧ SameMemory s t) ∧
  (∀ (s : State) (addr : Nat), Awake s → 1 ≤ tapLevel s → ∃ t, exec (.tapAccess (.readReg addr)) s = .next t ∧
    t = { s with out := t.out } ∧ t.out.tap = leBytes 4 (regView s .fw addr).toNat) ∧
  (∀ (s : State) (addr len : Nat) (data : List Byte), Awake s → 2 ≤ tapLevel s →
    exec (.tapAccess (.readSram addr len)) s = .next { s with out := { s.out with tap := sramRead s addr len } } ∧
    ∃ t, exec (.tapAccess (.writeSram addr data)) s = .next t ∧ t = { s with mgt := { s.mgt with sram := t.mgt.sram } } ∧
      (∀ i, i < data.length → addr + i < sramBytes → Store.get memDefault t.mgt.sram (addr + i) = byteAt data i) ∧
      ∀ b, b < addr ∨ addr + data.length ≤ b ∨ sramBytes ≤ b →
        Store.get memDefault t.mgt.sram b = Store.get memDefault s.mgt.sram b) ∧
  (∀ (s : State) (k : Nat), Awake s → k < 4 → 2 ≤ tapLevel s →
    (running s k = true → ∃ t, exec (.tapAccess (.haltCore k)) s = .next t ∧ running t k = false ∧
      rdB t Reg.MGT.CORE_STATUS (4 + k) = true ∧ t.mgt.dbgHalt = s.mgt.dbgHalt ++ [k] ∧
      (∀ j, j < 4 → j ≠ k → running t j = running s j) ∧ RegsExcept [Reg.MGT.CORE_STATUS] s t) ∧
    (s.mgt.dbgHalt.contains k = true → (∃ t, exec (.tapAccess (.runCore k)) s = .next t ∧ running t k = true ∧
        rdB t Reg.MGT.CORE_STATUS (4 + k) = false ∧ t.mgt.dbgHalt.contains k = false ∧
        (∀ j, j < 4 → j ≠ k → running t j = running s j) ∧ RegsExcept [Reg.MGT.CORE_STATUS] s t) ∧
      exec (.tapAccess (.stepCore k)) s = .next { s with mgt := { s.mgt with stepped := [k] } })) ∧
  (∀ (s : State) (bits : List Bool), Awake s →
    exec (.tapAccess .idcode) s = .next { s with out := { s.out with tap := leBytes 4 Config.tapIdcode.toNat } } ∧
    (∃ t, exec (.tapAccess (.bypass bits)) s = .next t ∧ t = { s with out := t.out } ∧ t.out.tap.length = bits.length ∧
      ∀ i, i < bits.length → byteAt t.out.tap i = BitVec.ofNat 8 ((false :: bits).getD i false).toNat) ∧
    (1 ≤ tapLevel s → exec (.tapAccess .boundary) s = .next { s with out := { s.out with
      tap := [s.time.pps, !s.rst.pcieHold, ready s, !faultPin s, !thermTripPin s].map fun b => BitVec.ofNat 8 b.toNat } })) ∧
  ∀ (s : State) (op : TapOp), Awake s → tapLevel s < tapNeeds op → exec (.tapAccess op) s = .next s)

/-- A port that is down or off receives nothing and changes nothing. A port that receives counts the frame and its bytes, and by
R36's order: an FCS error counts in FCS_ERR and nothing else; a frame that no rule takes, with FWD_UNMATCHED 0, counts in
UNMATCHED and nothing else; a packet of an enabled stream with ingest on, no longer than 9216 bytes (log entry 120), room in the
port buffer, the right payload type, no policer, an open frame of its timestamp, and a number not yet received leaves that number
among the received ones, and leaves every other stream alone; a number already received changes nothing more, except that path A's
copy takes the place of path B's of the same IG clock (R41): the frame then counts one packet more of A and one fewer of B. The
order of the tests where R36 to R41 give none is log entry 38's. -/
def Obligations.IngestFrameClassified : Prop :=
  ∀ (s : State) (i : Nat) (f : NetFrame), Awake s → i < 16 →
    (igUp s i = false → exec (.igFrameRx i f) s = .next s) ∧
    (igUp s i = true →
      (f.fcsError = true → ∃ t, exec (.igFrameRx i f) s = .next t ∧ t = { s with regs := t.regs, par := t.par } ∧
        rd t (Reg.IG.FCS_ERR i) = plusOne (rd s (Reg.IG.FCS_ERR i)) ∧
        rd64 t (Reg.IG.RX_FRAMES_LO i) (Reg.IG.RX_FRAMES_HI i) =
          (rd64 s (Reg.IG.RX_FRAMES_LO i) (Reg.IG.RX_FRAMES_HI i) + 1) % 2 ^ 64 ∧
        rd64 t (Reg.IG.RX_BYTES_LO i) (Reg.IG.RX_BYTES_HI i) =
          (rd64 s (Reg.IG.RX_BYTES_LO i) (Reg.IG.RX_BYTES_HI i) + f.len) % 2 ^ 64 ∧
        RegsExcept [Reg.IG.FCS_ERR i, Reg.IG.RX_FRAMES_LO i, Reg.IG.RX_FRAMES_HI i, Reg.IG.RX_BYTES_LO i, Reg.IG.RX_BYTES_HI i] s t) ∧
      (f.fcsError = false → safe s (Page.IG i) = false → isPtp f = false → isPlacement s f = false →
        (∀ u, f.udp = some u → matchStream s i u = none) → rdB s (Reg.IG.PORT_CTRL i) 3 = false →
        ∃ t, exec (.igFrameRx i f) s = .next t ∧ t = { s with regs := t.regs, par := t.par } ∧
          rd t (Reg.IG.UNMATCHED i) = plusOne (rd s (Reg.IG.UNMATCHED i)) ∧
          RegsExcept [Reg.IG.UNMATCHED i, Reg.IG.RX_FRAMES_LO i, Reg.IG.RX_FRAMES_HI i, Reg.IG.RX_BYTES_LO i, Reg.IG.RX_BYTES_HI i] s t) ∧
      ∀ (u : Udp) (r : Rtp) (st : Nat) (a : Bool), f.fcsError = false → safe s (Page.IG i) = false → isPtp f = false →
        isPlacement s f = false → f.udp = some u → f.rtp = some r → matchStream s i u = some (st, a) →
        rdB s Reg.IGS.IGS_CTRL 0 = true → f.len ≤ 9216 → fillOf s i + f.len ≤ 0x100000 →
        (bit (igsCfg s st 2) 15 = true → r.pt = fld (igsCfg s st 2) 14 8) → fld (igsCfg s st 13) 16 0 = 0 →
        (∀ q, (stream s st).top = some q → 0 ≤ toSigned 32 (seqUp q r.seq.toNat)) →
        ((stream s st).frames.any fun g => g.ts == r.ts) = true →
        ((stream s st).seen.contains r.seq.toNat = false → ∃ t, exec (.igFrameRx i f) s = .next t ∧
          (stream t st).seen.contains r.seq.toNat = true ∧ OtherStreams st s t ∧
          RegsExcept [Reg.IG.BUF_PEAK i, Reg.IG.RX_FRAMES_LO i, Reg.IG.RX_FRAMES_HI i, Reg.IG.RX_BYTES_LO i, Reg.IG.RX_BYTES_HI i] s t) ∧
        (∀ g, (stream s st).seen.contains r.seq.toNat = true → a = true →
          ((stream s st).copies.any fun c => c.1 == r.seq.toNat && c.2.2 == igClk s) = true →
          ((stream s st).frames.find? fun g => g.ts == r.ts) = some g → ∃ t, exec (.igFrameRx i f) s = .next t ∧
            OtherStreams st s t ∧ ((stream t st).copies.any fun c => c.1 == r.seq.toNat) = false ∧
            ∃ h ∈ (stream t st).frames, h.ts = g.ts ∧ h.nA = g.nA + 1 ∧ h.nB = g.nB - 1 ∧ h.recv = g.recv) ∧
        ((stream s st).seen.contains r.seq.toNat = true →
          (a = false ∨ ((stream s st).copies.any fun c => c.1 == r.seq.toNat && c.2.2 == igClk s) = false) →
          ∃ t, exec (.igFrameRx i f) s = .next t ∧ t = { s with regs := t.regs, par := t.par } ∧
          RegsExcept [Reg.IG.RX_FRAMES_LO i, Reg.IG.RX_FRAMES_HI i, Reg.IG.RX_BYTES_LO i, Reg.IG.RX_BYTES_HI i] s t))

/-- IG_LINK_CHANGE takes the link's state where the port's PLL is locked and links are driven, and holds the port down where they
are not. SDI_LOCK_CHANGE, with no lock to lose, takes carrier and lock, the lock only at the 12G rate and with REF_SDI.
SDI_FRAME_RX on a locked input that is on counts the frame and its CRC errors and shows its payload identifier; with ingest on and
no safe action of the input, a picture of R52's table in the format of the stream's entry waits for its buffer, and any other sets
MISMATCH; on an input that is off or not locked it changes nothing. -/
def Obligations.IngestLinks : Prop :=
  (∀ (s : State) (i : Nat) (up align : Bool) (lanes : Nat), Awake s → i < 16 → ∃ t, exec (.igLinkChange i up align lanes) s = .next t ∧
    t = { s with ing := { s.ing with igLink := t.ing.igLink } } ∧
    Store.get (fun _ => (false, false, 0)) t.ing.igLink i =
      (if bit s.rst.igs i = true ∧ serdesOn s = true then (up, align, lanes % 16) else (false, false, 0)) ∧
    ∀ j, j ≠ i → Store.get (fun _ => (false, false, 0)) t.ing.igLink j = Store.get (fun _ => (false, false, 0)) s.ing.igLink j) ∧
  (∀ (s : State) (i : Nat) (carrier lock rate : Bool) (lines : Nat), Awake s → i < 8 → (sdiState s i).2.1 = false →
    ∃ t, exec (.sdiLockChange i carrier lock lines rate) s = .next t ∧ t = { s with ing := { s.ing with sdi := t.ing.sdi } } ∧
      sdiState t i = (carrier && serdesOn s, lock && rate && s.rst.refSdi && serdesOn s, lines) ∧
      ∀ j, j ≠ i → sdiState t j = sdiState s j) ∧
  ∀ (s : State) (i : Nat) (f : SdiFrame), Awake s → i < 8 →
    (rdB s (Reg.SD.SDI_CTRL i) 0 = true → (sdiState s i).2.1 = true → ∃ t, exec (.sdiFrameRx i f) s = .next t ∧
      rd t (Reg.SD.FRAMES i) = plusOne (rd s (Reg.SD.FRAMES i)) ∧ rd t (Reg.SD.ST352 i) = f.st352 ∧
      rd t (Reg.SD.CRC_ERR i) = w32 (min 0xFFFFFFFF (rdN s (Reg.SD.CRC_ERR i) + f.crcLines)) ∧
      RegsExcept [Reg.SD.FRAMES i, Reg.SD.ST352 i, Reg.SD.CRC_ERR i, Reg.SD.SDI_STATUS i] s t ∧
      (sdiStream s i = none → t.ing = s.ing) ∧
      ∀ st ok, sdiStream s i = some st → rdB s Reg.IGS.IGS_CTRL 0 = true → safe s (Page.SD i) = false →
        ok = (sdiAccepted f && fld (igsCfg s st 0) 19 16 == f.sampling && fld (igsCfg s st 0) 22 20 == f.depth &&
          fld (igsCfg s st 1) 14 0 == f.width && fld (igsCfg s st 1) 30 16 == f.height) →
        (ok = true → OtherStreams st s t ∧ ∃ g, (stream t st).frames = (stream s st).frames ++ [g] ∧ g.asked = true ∧
          g.held = [(0, 16 + i, 0, f.rows)]) ∧
        (ok = false → t.ing = s.ing ∧ rdB t (Reg.SD.SDI_STATUS i) 2 = true)) ∧
    ((rdB s (Reg.SD.SDI_CTRL i) 0 = false ∨ (sdiState s i).2.1 = false) → exec (.sdiFrameRx i f) s = .next s)

/-- BUFFER_ASSIGN for a stream's waiting frame, on a stream not fed by SDI: with an eligible buffer that buffer becomes open for
writing; with none the drop counts in FRAMES_DROPPED; while a latch of the same CORE clock is due the choice waits for it (R48).
FRAME_CLOSE_TIMEOUT closes the frame whose window has run out before this clock and counts it incomplete. FENCE_PUBLISH, once all
of the frame is written, in FRAME_SEQ order, and with TWN off: the buffer becomes the newest fenced one with its FRAME_SEQ,
FRAMES_FENCED counts, and no byte of memory changes, but for the 32 bytes of the fence record where records are on and kept in host
memory. Before the frame is written, or before its turn, it changes nothing (the model's choice, log entry 1). -/
def Obligations.FramesReachFences : Prop :=
  (∀ (s : State) (st clocks : Nat) (f : OpenFrame), Awake s → st < 64 → ((stream s st).frames.find? fun f => f.asked) = some f →
    (latchDue s = true → exec (.bufferAssign st clocks) s = .next s) ∧
    (latchDue s = false → safe s Page.IGS = false → streamSrc s st ≠ 2 →
    (∀ j, eligible s st = some j → ∃ t, exec (.bufferAssign st clocks) s = .next t ∧ ((stream t st).buf j).mode = .opened ∧
      OtherStreams st s t) ∧
    (eligible s st = none → ∃ t, exec (.bufferAssign st clocks) s = .next t ∧
      rd t Reg.IGS.FRAMES_DROPPED = plusOne (rd s Reg.IGS.FRAMES_DROPPED) ∧ OtherStreams st s t))) ∧
  (∀ (s : State) (st : Nat) (f : OpenFrame), Awake s → (stream s st).frames = [f] → f.marker.isSome = true → f.complete = false →
    overUs s f.markedAt (fld (igsCfg s st 12) 13 0) = true → streamSrc s st ≠ 2 → f.discard = false → f.dropped = false →
    ∃ t, exec (.frameCloseTimeout st) s = .next t ∧ (stream t st).frames = [] ∧
      rd t Reg.IGS.FRAMES_INCOMPLETE = plusOne (rd s Reg.IGS.FRAMES_INCOMPLETE) ∧
      RegsExcept [Reg.IGS.FRAMES_INCOMPLETE] s t ∧ OtherStreams st s t) ∧
  ∀ (s : State) (st b : Nat) (f : FencePend), Awake s → ((stream s st).fences.find? fun f => f.buf == b) = some f →
    ((f.done = none ∨ writesWait s st b = true ∨ (∃ d, f.done = some d ∧ d.1 ≠ (stream s st).count + 1)) →
      exec (.fencePublish st b) s = .next s) ∧
    ∀ ns, f.done = some ((stream s st).count + 1, ns) → writesWait s st b = false → twnOn s = false →
      ∃ t, exec (.fencePublish st b) s = .next t ∧ (stream t st).newest = some b ∧
        (stream t st).count = (stream s st).count + 1 ∧ (stream t st).fences = (stream s st).fences.erase f ∧
        (stream t st).buf b = ⟨.fenced, (stream s st).count + 1, f.inc, coreClk s + 8, none⟩ ∧
        rd t Reg.IGS.FRAMES_FENCED = plusOne (rd s Reg.IGS.FRAMES_FENCED) ∧ OtherStreams st s t ∧
        ((rdB s Reg.IGS.IGS_CTRL 1 = false ∨ fenceAddr s st b < memBytes) → SameMemory s t) ∧
        (rdB s Reg.IGS.IGS_CTRL 1 = true → hostBase ≤ fenceAddr s st b → s.pcie.cfg.busMaster = true →
          MemoryExcept [(fenceAddr s st b, 32)] s t ∧ ∀ i, i < 32 →
            hostByte t (fenceAddr s st b - hostBase + i) = byteAt (fenceRecord f ((stream s st).count + 1) ns) i)

/-- STREAM_ENABLE, accepted, of a stream that is off: with no cause of R57 the entry's word 0 is stored with EN and the engine
starts anew, with no frame open, no fence left to publish and the next frame a first one; with a cause EN reads 0 and STATUS shows the cause.
STREAM_DISABLE of a running stream stores word 0 and abandons its open frames. INGEST_ENABLE and INGEST_DISABLE store
IGS_CTRL, and disabling leaves no stream a frame in formation. -/
def Obligations.StreamsEnable : Prop :=
  (∀ (s : State) (a : Agent) (st : Nat) (w0 : Word), Awake s → st < 64 → bit w0 0 = true → indWord s a Page.IGS = 16 * st →
    rstBusy s Page.IGS = false → writeRefusal s a Page.IGS .ind = none → streamOn s st = false →
    (streamRefusal (putCfg s st 0 (w0 &&& streamMask0)) st = none → ∃ t, exec (.streamEnable a st w0) s = .next t ∧
      igsCfg t st 0 = w0 &&& streamMask0 ∧ (stream t st).frames = [] ∧ (stream t st).fences = [] ∧ (stream t st).fresh = true ∧ OtherStreams st s t ∧
      t.regs = s.regs) ∧
    ∀ c, c < 16 → streamRefusal (putCfg s st 0 (w0 &&& streamMask0)) st = some c → ∃ t, exec (.streamEnable a st w0) s = .next t ∧
      streamOn t st = false ∧ fld (Store.get zeroW t.ing.stat (8 * st)) 7 4 = c ∧ stream t st = stream s st) ∧
  (∀ (s : State) (a : Agent) (st : Nat) (w0 : Word), Awake s → st < 64 → bit w0 0 = false → indWord s a Page.IGS = 16 * st →
    rstBusy s Page.IGS = false → writeRefusal s a Page.IGS .ind = none → streamOn s st = true →
    ∃ t, exec (.streamDisable a st w0) s = .next t ∧ igsCfg t st 0 = w0 &&& streamMask0 ∧ (stream t st).frames = [] ∧
      OtherStreams st s t ∧ t.regs = s.regs) ∧
  (∀ (s : State) (a : Agent) (v : Word), Awake s → Accepts s a Reg.IGS.IGS_CTRL .cfg → bit v 0 = true →
    ∃ t, exec (.ingestEnable a v) s = .next t ∧ rd t Reg.IGS.IGS_CTRL = v &&& 3 ∧ RegsExcept [Reg.IGS.IGS_CTRL] s t) ∧
  ∀ (s : State) (a : Agent) (v : Word), Awake s → Accepts s a Reg.IGS.IGS_CTRL .cfg → bit v 0 = false →
    rdB s Reg.IGS.IGS_CTRL 0 = true → ∃ t, exec (.ingestDisable a v) s = .next t ∧ rd t Reg.IGS.IGS_CTRL = v &&& 3 ∧
      RegsExcept [Reg.IGS.IGS_CTRL] s t ∧ ∀ st, st < 64 → (stream t st).frames = []

/-- COMMIT of a non-empty mask, accepted, with TWN off: where a group of the mask is already queued it is refused with cause 9,
where eight requests wait with cause 10, where its target phase does not exist with cause 11, each time with the mask's groups
set in COMMIT_REFUSED and the queue as it was (that 9 comes before 10 and 10 before 11 is the model's choice, log entry 124);
otherwise one request with the mask and its target joins the end of the queue, waiting for its check, and nothing else changes.
With TWN on it is captured as a mirrored operation and the queue stays. An empty mask requests nothing. -/
def Obligations.CommitQueues : Prop :=
  ∀ (s : State) (a : Agent) (mask : Word), Awake s → Accepts s a Reg.LYR.COMMIT .cmd →
    (mask = 0 → exec (.commit a mask) s = .next (touchSession s a Page.LYR s)) ∧
    (mask ≠ 0 → twnOn s = false →
      (mask &&& queuedGroups s ≠ 0 → ∃ t, exec (.commit a mask) s = .next t ∧ t.lyr = s.lyr ∧
        rd t Reg.LYR.COMMIT_REFUSED = rd s Reg.LYR.COMMIT_REFUSED ||| mask ∧ (rd t Reg.LYR.REFUSE_INFO).toNat / 65536 = 9 ∧
        RegsExcept [Reg.LYR.COMMIT_REFUSED, Reg.LYR.REFUSE_INFO] s t) ∧
      (mask &&& queuedGroups s = 0 → 8 ≤ s.lyr.queue.length → ∃ t, exec (.commit a mask) s = .next t ∧ t.lyr = s.lyr ∧
        rd t Reg.LYR.COMMIT_REFUSED = rd s Reg.LYR.COMMIT_REFUSED ||| mask ∧ (rd t Reg.LYR.REFUSE_INFO).toNat / 65536 = 10 ∧
        RegsExcept [Reg.LYR.COMMIT_REFUSED, Reg.LYR.REFUSE_INFO] s t) ∧
      (mask &&& queuedGroups s = 0 → s.lyr.queue.length < 8 → bit (rd s Reg.LYR.COMMIT_CTRL) 0 = true →
        nph s ≤ fld (rd s Reg.LYR.COMMIT_CTRL) 3 1 → ∃ t, exec (.commit a mask) s = .next t ∧ t.lyr = s.lyr ∧
        rd t Reg.LYR.COMMIT_REFUSED = rd s Reg.LYR.COMMIT_REFUSED ||| mask ∧ (rd t Reg.LYR.REFUSE_INFO).toNat / 65536 = 11 ∧ RegsExcept [Reg.LYR.COMMIT_REFUSED, Reg.LYR.REFUSE_INFO] s t) ∧
      (mask &&& queuedGroups s = 0 → s.lyr.queue.length < 8 →
        (bit (rd s Reg.LYR.COMMIT_CTRL) 0 = true → fld (rd s Reg.LYR.COMMIT_CTRL) 3 1 < nph s) →
        ∃ r : CommitReq, r.mask = mask ∧ r.ready = false ∧
          r.target = (if bit (rd s Reg.LYR.COMMIT_CTRL) 0 then some (fld (rd s Reg.LYR.COMMIT_CTRL) 3 1) else none) ∧
          exec (.commit a mask) s = .next (touchSession s a Page.LYR (setQueue s (s.lyr.queue ++ [r]))))) ∧
    (mask ≠ 0 → twnOn s = true → ∃ t, exec (.commit a mask) s = .next t ∧ t.lyr = s.lyr ∧
      ∃ o : MirPend, o ∈ t.twn.ops ∧ o.op = .commit mask (rd s Reg.LYR.COMMIT_CTRL) ∧ o.e = nowNs s + mirrorDelay s)

/-- COMMIT_CHECK_DONE for the request under check, with no word met in error: where the check finds no fault the request is ready
in its place; where it finds one the request leaves the queue and its groups are set in COMMIT_REFUSED. With no request under
check it changes nothing (the model's choice, log entry 1). COMMIT_CANCEL, accepted, with TWN off: where no queued request shares
a group with the mask the queue stays; else every request that shares one leaves it, those before the first of them stay as they
are, and those after it stay and return to checking; no register changes. In the CORE clock of a latch it waits for the latch. -/
def Obligations.ChecksAndCancels : Prop :=
  (∀ (s : State) (i : Nat) (r : CommitReq), Lit s → underCheck s = some (i, r) →
    ((checkRequest s i r []).1 = none → ∃ t, exec (.commitCheckDone []) s = .next t ∧
      t.lyr.queue = replaceFirst (· == r) (fun x => { x with ready := true }) s.lyr.queue ∧
      rd t Reg.LYR.COMMIT_REFUSED = rd s Reg.LYR.COMMIT_REFUSED) ∧
    ∀ f, (checkRequest s i r []).1 = some f → ∃ t, exec (.commitCheckDone []) s = .next t ∧
      t.lyr.queue = s.lyr.queue.erase r ∧ rd t Reg.LYR.COMMIT_REFUSED = rd s Reg.LYR.COMMIT_REFUSED ||| r.mask) ∧
  (∀ (s : State), Awake s → underCheck s = none → ∀ us, exec (.commitCheckDone us) s = .next s) ∧
  ∀ (s : State) (a : Agent) (mask : Word), Awake s → Accepts s a Reg.LYR.COMMIT_CANCEL .cmd → twnOn s = false →
    ∃ t, exec (.commitCancel a mask) s = .next (touchSession s a Page.LYR t) ∧ t = { s with lyr := t.lyr } ∧
      (latchDue s = true → t.lyr = { s.lyr with late := s.lyr.late ||| mask }) ∧
      (latchDue s = false → (∀ r ∈ s.lyr.queue, r.mask &&& mask = 0) → t = s) ∧
      ∀ before r rest, latchDue s = false → s.lyr.queue = before ++ r :: rest → (∀ q ∈ before, q.mask &&& mask = 0) →
        r.mask &&& mask ≠ 0 → t.lyr = { s.lyr with
          queue := before ++ (rest.filter fun q => q.mask &&& mask == 0).map fun q => { q with ready := false } }

/-- LAYER_LATCH changes nothing before TL(n), for a slot that is not known, or once taken. Taken with the layer block off, it
leaves every layer absent from the phase. Taken with the block on, no request queued, no mirrored operation, no word in error
and no safe action of the layer block, it gives every layer of the phase the state that R73 resolves from the active bank, the
stream engines, the earlier latched states and references, once cancels of a pair, buffers of a pair and targets that no phase has
are settled. In both cases PH_LAYERS shows how many layers of the phase are visible and how many were not ready, the slot's
context holds the visible layers, and the states of other phases stay. That an early or repeated latch changes nothing is the
model's choice (log entry 1). -/
def Obligations.LayersLatch : Prop :=
  (∀ (s : State) (k n : Nat) (us : List Upset), Awake s →
    (slotKnown s k n = false ∨ (findCtx s k n).isSome = true ∨ reached s (latchAt s k n) = false) →
    exec (.layerLatch k n us) s = .next s) ∧
  ∀ (s : State) (k n : Nat), Lit s → slotKnown s k n = true → n < 8 → findCtx s k n = none → reached s (latchAt s k n) = true →
    safeCause s Page.LYR = false → s.lyr.queue = [] → s.twn.ops = [] →
    ∃ t, exec (.layerLatch k n []) s = .next t ∧ (findCtx t k n).map (·.layers) = some (visibleLayers t n) ∧
      (∀ m l, m ≠ n → l < 128 → latched t m l = latched s m l) ∧
      (rdB s Reg.LYR.LYR_CTRL 0 = false → (∀ l, l < 128 → latched t n l = Latched.absent) ∧ rd t (Reg.LYR.PH_LAYERS n) = 0) ∧
      ∀ (u : State) (o : LatchOut), rdB s Reg.LYR.LYR_CTRL 0 = true →
        u = dropTargets (settleReady (settleCancels
          (([Page.LYR, Page.CLR] ++ (List.range 32).map Page.SC).foldl (releaseLatch n) s) (latchAt s k n)) (latchAt s k n)) →
        o = resolve u (if pairLatch u k n then some (latchAt s k n) else none) n [] →
        (∀ l, l < 128 → latched t n l = o.states.getD l Latched.absent) ∧
        rd t (Reg.LYR.PH_LAYERS n) = w32 ((visibleLayers t n).length + 256 * o.notReady)

/-- PLACEMENT_PACKET that a port passes on to the placement port: a malformed payload counts in FORMAT_DROP and nothing else; one
from a wrong source counts in DROP_SRC and nothing else; one from the right source, with no policer, that is too old counts in
DROP_AGE and nothing else; one young enough, with TWN off, is recorded when it carries RESTART (the history is forgotten) or is
later than the newest packet held, counts in RX_OK, shows its SEQ and ends STALE, and the packet held before becomes the earlier
one of the pair where PAIR_MIN lies between them; one that is not later counts in DROP_ORDER and changes no awning. Packets of other ports or other UDP
ports change nothing. Other awnings stay. -/
def Obligations.PlacementRecorded : Prop :=
  ∀ (s : State) (via : Via) (ip : Word) (port len : Nat) (pl : List Byte), Lit s →
    ((placePort s via = none ∨ port = 0 ∨ port ≠ rdF s Reg.AWN.AWN_CTRL 31 16) →
      exec (.placementPacket via ip port len pl) s = .next s) ∧
    ∀ ovh, placePort s via = some ovh → port ≠ 0 → port = rdF s Reg.AWN.AWN_CTRL 31 16 →
      (placeFormed pl = false → ∃ t, exec (.placementPacket via ip port len pl) s = .next t ∧
        t = { s with regs := t.regs, par := t.par } ∧ rd t Reg.AWN.FORMAT_DROP = plusOne (rd s Reg.AWN.FORMAT_DROP) ∧
        RegsExcept [Reg.AWN.FORMAT_DROP] s t) ∧
      ∀ p : Place, p = ⟨pl.take 48⟩ → placeFormed pl = true →
        (rd s (Reg.AWN.SRC_IP p.id) ≠ 0 → rd s (Reg.AWN.SRC_IP p.id) ≠ ip → ∃ t,
          exec (.placementPacket via ip port len pl) s = .next t ∧ t = { s with regs := t.regs, par := t.par } ∧
          rd t (Reg.AWN.DROP_SRC p.id) = plusOne (rd s (Reg.AWN.DROP_SRC p.id)) ∧ RegsExcept [Reg.AWN.DROP_SRC p.id] s t) ∧
        ((rd s (Reg.AWN.SRC_IP p.id) = 0 ∨ rd s (Reg.AWN.SRC_IP p.id) = ip) → rdF s (Reg.AWN.POL_CIR p.id) 19 0 = 0 →
          (rdN s Reg.AWN.MAX_AGE * 1000 * 2 ^ 32 < ((s.time.count : Int) - p.time * 2 ^ 32).natAbs → ∃ t,
            exec (.placementPacket via ip port len pl) s = .next t ∧ t = { s with regs := t.regs, par := t.par } ∧
            rd t (Reg.AWN.DROP_AGE p.id) = plusOne (rd s (Reg.AWN.DROP_AGE p.id)) ∧ RegsExcept [Reg.AWN.DROP_AGE p.id] s t) ∧
          (((s.time.count : Int) - p.time * 2 ^ 32).natAbs ≤ rdN s Reg.AWN.MAX_AGE * 1000 * 2 ^ 32 → twnOn s = false →
          (p.restart = true → ∃ t, exec (.placementPacket via ip port len pl) s = .next t ∧ (awning t p.id).p2 = some p ∧
            (awning t p.id).p1 = none ∧ rd t (Reg.AWN.RX_OK p.id) = plusOne (rd s (Reg.AWN.RX_OK p.id)) ∧
            rdF t (Reg.AWN.A_STATUS p.id) 31 16 = p.seq ∧ RegsExcept [Reg.AWN.RX_OK p.id, Reg.AWN.A_STATUS p.id] s t ∧
            ∀ j, j ≠ p.id → awning t j = awning s j) ∧
          (p.restart = false → (∀ q, (awning s p.id).p2 = some q → q.time < p.time) → ∃ t,
            exec (.placementPacket via ip port len pl) s = .next t ∧ (awning t p.id).p2 = some p ∧
            (∀ q, (awning s p.id).p2 = some q → (awning t p.id).p1 =
              if rdN s Reg.AWN.PAIR_MIN * 1000 ≤ p.time - q.time then some q else (awning s p.id).p1) ∧
            ((awning s p.id).p2 = none → (awning t p.id).p1 = (awning s p.id).p1) ∧
            rd t (Reg.AWN.RX_OK p.id) = plusOne (rd s (Reg.AWN.RX_OK p.id)) ∧ rdF t (Reg.AWN.A_STATUS p.id) 31 16 = p.seq ∧
            rdB t (Reg.AWN.A_STATUS p.id) 2 = false ∧ RegsExcept [Reg.AWN.RX_OK p.id, Reg.AWN.A_STATUS p.id] s t ∧
            ∀ j, j ≠ p.id → awning t j = awning s j) ∧
          (∀ q, p.restart = false → (awning s p.id).p2 = some q → p.time ≤ q.time → ∃ t,
            exec (.placementPacket via ip port len pl) s = .next t ∧ t = { s with regs := t.regs, par := t.par } ∧
            rd t (Reg.AWN.DROP_ORDER p.id) = plusOne (rd s (Reg.AWN.DROP_ORDER p.id)) ∧
            RegsExcept [Reg.AWN.DROP_ORDER p.id] s t)))

/-- AWNING_GROUP_LATCH changes nothing before C(n, 4g) or out of order (the model's choice, log entry 1). Taken, with no mirrored
operation, the slot's next group is g + 1; with one awning among the slot's latched layers, by R82: with no packet held, or with
the awning block off, CUR takes the placement of the latched descriptor, MODE reads 0 and STALE is clear; where the newest packet
is older than MAX_AGE, STALE is set, MODE stays, and CUR stays or, unset, takes the descriptor's placement; else STALE is clear
and CUR takes, within the clamps, the newest packet's placement (MODE 1), that moved on by its velocity (MODE 2), or the line
through the pair (MODE 3) at the scan time, no further than EXTRAP_MAX from the packet. -/
def Obligations.AwningsPlaced : Prop :=
  ∀ (s : State) (k n g : Nat) (c : PhaseCtx), Lit s → findCtx s k n = some c →
    ((c.groups ≠ g ∨ c.bands ≤ 4 * g ∨ reached s (c.begin_ (4 * g : Nat)) = false) → exec (.awningGroupLatch k n g) s = .next s) ∧
    (c.groups = g → 4 * g < c.bands → reached s (c.begin_ (4 * g : Nat)) = true → s.twn.ops = [] →
      (c.layers.filter fun e => dAwning e.2.desc) = [] →
        ∃ t, exec (.awningGroupLatch k n g) s = .next t ∧ (findCtx t k n).map (·.groups) = some (g + 1) ∧ t.regs = s.regs) ∧
    ∀ (e : Nat × Latched) (i : Nat), c.groups = g → 4 * g < c.bands → reached s (c.begin_ (4 * g : Nat)) = true → s.twn.ops = [] →
      (c.layers.filter fun e => dAwning e.2.desc) = [e] → i = dAwnId e.2.desc →
        ∃ t, exec (.awningGroupLatch k n g) s = .next t ∧ (findCtx t k n).map (·.groups) = some (g + 1) ∧
          (((awning s i).p2 = none ∨ rdB s Reg.AWN.AWN_CTRL 0 = false) →
            rd t (Reg.AWN.CUR_X i) = w32i (dPlace e.2.desc).1 ∧ rd t (Reg.AWN.CUR_Y i) = w32i (dPlace e.2.desc).2.1 ∧
            rd t (Reg.AWN.CUR_W i) = w32 (dPlace e.2.desc).2.2.1 ∧ rd t (Reg.AWN.CUR_H i) = w32 (dPlace e.2.desc).2.2.2 ∧
            rdF t (Reg.AWN.A_STATUS i) 4 3 = 0 ∧ rdB t (Reg.AWN.A_STATUS i) 2 = false) ∧
          ∀ (p : Place) (old : Bool), (awning s i).p2 = some p → rdB s Reg.AWN.AWN_CTRL 0 = true →
            old = decide ((rdN s Reg.AWN.MAX_AGE : Int) * 1000000 * 2 ^ 32 < latchNow s c g - p.time * 1000 * 2 ^ 32) →
            (old = true → rdB t (Reg.AWN.A_STATUS i) 2 = true ∧ rdF t (Reg.AWN.A_STATUS i) 4 3 = rdF s (Reg.AWN.A_STATUS i) 4 3 ∧
              curOf t i = (if (awning s i).curSet then curOf s i
                else curOf (setCur s i (dPlace e.2.desc)) i)) ∧
            ∀ (dt x y w h : Int) (mode : Nat), old = false →
              dt = clampI (-(rdN s Reg.AWN.EXTRAP_MAX * 1000 : Nat)) (rdN s Reg.AWN.EXTRAP_MAX * 1000 : Nat)
                (scanTime s c i g - p.time) →
              ((awning s i).p1 = none ∧ p.velValid = false ∧ mode = 1 ∧ x = p.signed 20 ∧ y = p.signed 24 ∧ w = p.word 28 ∧
                  h = p.word 32 ∨
                (awning s i).p1 = none ∧ p.velValid = true ∧ mode = 2 ∧ x = p.signed 20 + rnd (p.signed 36 * dt) 1000000000 ∧
                  y = p.signed 24 + rnd (p.signed 40 * dt) 1000000000 ∧ w = p.word 28 ∧ h = p.word 32 ∨
                ∃ q, (awning s i).p1 = some q ∧ mode = 3 ∧
                  x = p.signed 20 + rnd ((p.signed 20 - q.signed 20) * dt) (p.time - q.time).toNat ∧
                  y = p.signed 24 + rnd ((p.signed 24 - q.signed 24) * dt) (p.time - q.time).toNat ∧
                  w = p.word 28 + rnd (((p.word 28 : Int) - q.word 28) * dt) (p.time - q.time).toNat ∧
                  h = p.word 32 + rnd (((p.word 32 : Int) - q.word 32) * dt) (p.time - q.time).toNat) →
              rd t (Reg.AWN.CUR_X i) = w32i (clampI (-1048576) 1048575 x) ∧
              rd t (Reg.AWN.CUR_Y i) = w32i (clampI (-1048576) 1048575 y) ∧
              rd t (Reg.AWN.CUR_W i) = w32 (clampI (max 1 ((dPlace e.2.desc).2.2.1 / 2) : Nat)
                (2 * (dPlace e.2.desc).2.2.1 : Nat) w).toNat ∧
              rd t (Reg.AWN.CUR_H i) = w32 (clampI (max 1 ((dPlace e.2.desc).2.2.2 / 2) : Nat)
                (2 * (dPlace e.2.desc).2.2.2 : Nat) h).toNat ∧
              rdF t (Reg.AWN.A_STATUS i) 4 3 = mode ∧ rdB t (Reg.AWN.A_STATUS i) 2 = false

/-- SPAN_BUILD_START changes nothing for a slot whose boundary has passed or before its time (the model's choice, log entry 1); when
due, with SPB on and no cause of its safe action, it starts the slot's build with the staged bank's header first (the phase, the
listed layers, the bands, not valid) and registers as they were. SPAN_BUILD_DONE of that build, not before its clocks have
passed, writes the table buildTable gives into the staged bank, marks it valid and shows the build's clocks. SPAN_SWAP changes
nothing before the boundary; at it, with no flip pending and no safe action of SPB or CAL: with the slot's build done the banks
swap; without it they stay, STALE_PHASES counts up and LAST_STALE names the phase. -/
def Obligations.SpanTablesSwap : Prop :=
  ∀ (s : State) (k n : Nat) (c : PhaseCtx), Lit s → findCtx s k n = some c →
    ((c.xDone = true ∨ reached s (latchAt s k n + 1638400) = false) → exec (.spanBuildStart k n) s = .next s) ∧
    (c.xDone = false → s.spb.build ≠ some (k, n) → s.spb.done ≠ some (k, n) → reached s (latchAt s k n + 1638400) = true →
      safeCause s Page.SPB = false → rdB s Reg.SPB.SPB_CTRL 0 = true →
      ∃ t, exec (.spanBuildStart k n) s = .next t ∧ t.spb.build = some (k, n) ∧ (stagedBank t).valid = false ∧
        (stagedBank t).phase = n ∧ (stagedBank t).bands = c.bands ∧ (stagedBank t).list = (listedLayers t c).map (·.1) ∧
        activeBank t = activeBank s ∧ t = { s with par := t.par, spb := t.spb }) ∧
    (∀ clocks, (s.spb.build ≠ some (k, n) ∨ buildClocks c.bands (listedLayers s c).length < clocks ∨
      reached s (latchAt s k n + 1638400 + 800 * clocks) = false) → exec (.spanBuildDone k n clocks) s = .next s) ∧
    (∀ clocks, s.spb.build = some (k, n) → clocks ≤ buildClocks c.bands (listedLayers s c).length →
      reached s (latchAt s k n + 1638400 + 800 * clocks) = true →
      ∃ t, exec (.spanBuildDone k n clocks) s = .next t ∧ t.spb.build = none ∧ t.spb.done = some (k, n) ∧
        activeBank t = activeBank s ∧
        stagedBank t = { (buildTable s c c.bands (stagedBank s)).1 with seq := s.spb.builds + 1, clk := clocks, valid := true } ∧
        rd t Reg.SPB.BUILD_TIME_LAST = w32 clocks ∧
        RegsExcept [Reg.SPB.BUILD_TIME_LAST, Reg.SPB.BUILD_TIME_MAX, Reg.SPB.DEPTH_TRUNC] s t) ∧
    (reached s c.boundary = false → exec (.spanSwap k n) s = .next s) ∧
    (c.xDone = false → reached s c.boundary = true → flipsAt s c.boundary = [] → safe s Page.SPB = false →
      safeCause s Page.CAL = false → rdB s Reg.SPB.SPB_CTRL 0 = true →
      ∃ t, exec (.spanSwap k n) s = .next t ∧ (findCtx t k n).map (·.xDone) = some true ∧
        (s.spb.done = some (k, n) → t.spb.active = !s.spb.active ∧ (findCtx t k n).map (·.stale) = some false ∧
          rd t Reg.SPB.STALE_PHASES = rd s Reg.SPB.STALE_PHASES) ∧
        (s.spb.done ≠ some (k, n) → t.spb.active = s.spb.active ∧ (findCtx t k n).map (·.stale) = some true ∧
          rd t Reg.SPB.STALE_PHASES = plusOne (rd s Reg.SPB.STALE_PHASES) ∧ rd t Reg.SPB.LAST_STALE = w32 (c.n + 8)))

/-- FETCH_RELEASE, when due and in band order, adds to the fabric, in this order, the requests of each composed layer of the table
that is no awning, for the units of 64 bytes its rows and columns need in that band and not in the band before, and with
calibration on the requests of the band's contexts in the primary copy; it moves on to the next band, with every register as
before. Out of order or early it changes nothing. FETCH_DATA_RETURN of a layer's or an awning's request all of whose transfers
are granted takes it out and stages its data, or only takes it out where its band is late; before that it changes nothing. That
commands come to nothing outside their time is the model's choice (log entry 1). -/
def Obligations.FetchMovesOn : Prop :=
  (∀ (s : State) (k n b : Nat) (c : PhaseCtx), Lit s → findCtx s k n = some c →
    ((c.xDone = false ∨ c.released ≠ b ∨ c.bands ≤ b ∨ reached s (c.releaseAt b) = false) → exec (.fetchRelease k n b) s = .next s) ∧
    (c.xDone = true → c.released = b → b < c.bands → reached s (c.releaseAt b) = true →
      ∃ t, exec (.fetchRelease k n b) s = .next t ∧ (findCtx t k n).map (·.released) = some (b + 1) ∧ t.regs = s.regs ∧
        (t.fab.reqs.take s.fab.reqs.length = s.fab.reqs) ∧
        ((t.fab.reqs.drop s.fab.reqs.length).map fun r => (r.kind, r.addr, r.units)) =
          ((((composedLayers s c).filter fun e => !dAwning e.2.desc).flatMap fun e =>
              (layerUnits (latchedGeom s e.2 c.bypass) b (columnsOf (bandSets s c b) e.1)
                (columnsOf (if b = 0 then [] else bandSets s c (b - 1)) e.1)).flatMap fun us =>
                  (granulesOf us).map fun g => (.layer e.1, 256 * g.1, g.2)) ++
            if c.calEn then (granulesOf (contextUnits c c.primary b)).map fun g => (.context c.primary, 256 * g.1, g.2) else []) ∧
        ∀ r ∈ t.fab.reqs.drop s.fab.reqs.length, r.k = k ∧ r.n = n ∧ r.b = b ∧ r.tag = c.begin_ b ∧ r.granted = [])) ∧
  ∀ (s : State) (id : Nat) (r : FetchReq), Lit s → (s.fab.reqs.find? fun r => r.id == id) = some r →
    (r.granted.length ≠ r.units.length → exec (.fetchDataReturn id) s = .next s) ∧ (r.granted.length = r.units.length → (∀ copy, r.kind ≠ .context copy) →
    (r.discard = false → exec (.fetchDataReturn id) s = .next { s with fab := { s.fab with
      reqs := s.fab.reqs.erase r
      stage := s.fab.stage ++ [⟨r.k, r.n, r.b, r.kind, r.addr, r.units, r.data, r.poison, coreClk s⟩] } }) ∧
    (r.discard = true → exec (.fetchDataReturn id) s = .next { s with fab := { s.fab with reqs := s.fab.reqs.erase r } }))

/-- FABRIC_SLOT_GRANT of a pseudo-channel inside its window, on a stack whose link is not retraining. A display request within the
display share is granted its next 64-byte transfer and no byte of memory changes. With no display request, the oldest ingest
write within the ingest share leaves the queue, its bytes are in memory and no other byte changes; where it was the last of a
frame that is done, the frame's fence record may join the queue behind the writes that wait. With neither, a best-effort transfer
of that pseudo-channel counts and no byte changes; one of another pseudo-channel gets no slot here. Each time one slot of the
window is used. ARBITRATION_WINDOW_END after the last slot starts a window with the shares as they stand; before it, nothing
changes (the model's choice, log entry 1). -/
def Obligations.FabricSlots : Prop :=
  (∀ (s : State) (pc : Nat) (e0 e1 : Ecc), Lit s → pc < 128 → (pcWin s pc).slot < 256 →
    rdB s (Reg.MEM.MEM_STATUS (pc / 32)) 1 = false →
    (∀ (r : FetchReq) (be : List BeReq), nextDisplay s pc = some r → (r.units.find? fun u => !r.granted.contains u).isSome = true →
      (pcWin s pc).disp < (quotas s (pcWin s pc)).1 →
      ∃ t, exec (.fabricSlotGrant pc be e0 e1) s = .next t ∧ (pcWin t pc).slot = (pcWin s pc).slot + 1 ∧
        (pcWin t pc).disp = (pcWin s pc).disp + 1 ∧ SameMemory s t ∧
        ∃ q ∈ t.fab.reqs, q.id = r.id ∧ q.granted.length = r.granted.length + 1) ∧
    (∀ (w : IngWrite) (be : List BeReq), nextDisplay s pc = none → nextIngest s pc = some w →
      (pcWin s pc).ing < (quotas s (pcWin s pc)).2 → (w.cells.map (·.1)).Nodup → (∀ x ∈ w.cells, x.1 < memBytes) →
      ∃ t, exec (.fabricSlotGrant pc be e0 e1) s = .next t ∧ (pcWin t pc).slot = (pcWin s pc).slot + 1 ∧
        (t.ing.writes = s.ing.writes.erase w ∨
          ∃ f, t.ing.writes = s.ing.writes.erase w ++ [f] ∧ f.st = w.st ∧ f.buf = w.buf) ∧ (∀ x ∈ w.cells, memByte t x.1 = x.2) ∧
        ∀ a, (∀ x ∈ w.cells, x.1 ≠ a) → memByte t a = memByte s a) ∧
    ∀ b : BeReq, nextDisplay s pc = none → nextIngest s pc = none →
      (pseudoChannel b.addr ≠ pc → ∃ t, exec (.fabricSlotGrant pc [b] e0 e1) s = .next t ∧ t = { s with fab := t.fab } ∧
        (pcWin t pc).slot = (pcWin s pc).slot + 1) ∧
      (pseudoChannel b.addr = pc → ∃ t, exec (.fabricSlotGrant pc [b] e0 e1) s = .next t ∧ (pcWin t pc).slot = (pcWin s pc).slot + 1 ∧ SameMemory s t ∧
        rd64 t Reg.FAB.BE_GRANTS_LO Reg.FAB.BE_GRANTS_HI = (rd64 s Reg.FAB.BE_GRANTS_LO Reg.FAB.BE_GRANTS_HI + 1) % 2 ^ 64)) ∧
  ∀ (s : State) (pc : Nat), Lit s → pc < 128 →
    ((pcWin s pc).slot = 256 → ∃ t, exec (.arbitrationWindowEnd pc) s = .next t ∧ t.regs = s.regs ∧
      (pcWin t pc).slot = 0 ∧ (pcWin t pc).disp = 0 ∧ (pcWin t pc).ing = 0 ∧
      (pcWin t pc).shares = (if safeCause s Page.FAB then 0xA46 else rd s Reg.FAB.SHARES) ∧
      ∀ q, q ≠ pc → pcWin t q = pcWin s q) ∧
    ((pcWin s pc).slot ≠ 256 → exec (.arbitrationWindowEnd pc) s = .next s)

/-- RECHECK_GO, accepted, with GO set and no recheck pending asks for one and shows it busy; with one pending it changes nothing.
RECHECK_DONE changes nothing with no recheck pending (the model's choice, log entry 1) and waits while a request written before the recheck lacks its verdict; else the recheck ends and RECHECK_STATUS
shows whether the active bank is admitted. -/
def Obligations.RecheckVerdict : Prop :=
  (∀ (s : State) (a : Agent) (v : Word), Awake s → Accepts s a Reg.SPB.RECHECK .cmd → bit v 0 = true →
    (s.spb.recheck = none → ∃ t, exec (.recheckGo a v) s = .next t ∧ t.spb.recheck.isSome = true ∧
      rdB t Reg.SPB.RECHECK_STATUS 0 = true ∧ RegsExcept [Reg.SPB.RECHECK_STATUS] s t) ∧
    (s.spb.recheck.isSome = true → exec (.recheckGo a v) s = .next (touchSession s a Page.SPB s))) ∧
  (∀ s : State, Lit s → s.spb.recheck = none → exec .recheckDone s = .next s) ∧
  ∀ (s : State) (b : Nat), Lit s → s.spb.recheck = some b →
    ((s.lyr.queue.any fun r => !r.ready && decide (r.id < b)) = true → exec .recheckDone s = .next s) ∧
    ((s.lyr.queue.any fun r => !r.ready && decide (r.id < b)) = false → ∃ t, exec .recheckDone s = .next t ∧
      t.spb.recheck = none ∧ rdB t Reg.SPB.RECHECK_STATUS 0 = false ∧
      rdB t Reg.SPB.RECHECK_STATUS 1 = (admitBank false s s.lyr.active).1 ∧ t.lyr.queue = s.lyr.queue)

/-- CAL_ENABLE with EN = 1, accepted, stores CAL_CTRL with EN where the copies' bases pass R173 and R182; else EN reads 0 and
REFUSE shows the cause. FLIP_GO, accepted, with no flip pending and TWN off captures SEL_NEXT; with one pending it counts in
FLIP_IGNORED and the pending one stays. CONTEXT_GRANULE_RETURN of a complete request of a slot's band settles every context of
it that passes. -/
def Obligations.CalibrationControl : Prop :=
  (∀ (s : State) (a : Agent) (v : Word), Awake s → Accepts s a Reg.CAL.CAL_CTRL .cfg → bit v 0 = true →
    (calRefusal s = 0 → ∃ t, exec (.calEnable a v) s = .next t ∧ rd t Reg.CAL.CAL_CTRL = v &&& 0x1F ∧
      rdF t Reg.CAL.CAL_STATUS 3 1 = 0 ∧ RegsExcept [Reg.CAL.CAL_CTRL, Reg.CAL.CAL_STATUS] s t) ∧
    (calRefusal s ≠ 0 → ∃ t, exec (.calEnable a v) s = .next t ∧ rdB t Reg.CAL.CAL_CTRL 0 = false ∧
      rdF t Reg.CAL.CAL_STATUS 3 1 = calRefusal s ∧ RegsExcept [Reg.CAL.CAL_CTRL, Reg.CAL.CAL_STATUS] s t)) ∧
  (∀ (s : State) (a : Agent) (v : Word), Awake s → Accepts s a Reg.CAL.FLIP .cmd → bit v 0 = true →
    (flipPending s = false → twnOn s = false → ∃ t, exec (.flipGo a v) s = .next t ∧ t.regs = s.regs ∧
      t.cal.flip = some (rd64 s Reg.CAL.SEL_NEXT_LO Reg.CAL.SEL_NEXT_HI)) ∧
    (flipPending s = true → ∃ t, exec (.flipGo a v) s = .next t ∧ t.cal = s.cal ∧
      rd t Reg.CAL.FLIP_IGNORED = plusOne (rd s Reg.CAL.FLIP_IGNORED) ∧ RegsExcept [Reg.CAL.FLIP_IGNORED] s t)) ∧
  ∀ (s : State) (id copy : Nat) (r : FetchReq) (c : PhaseCtx), Lit s → (s.fab.reqs.find? fun r => r.id == id) = some r →
    r.kind = .context copy → r.granted.length = r.units.length → r.discard = false → findCtx s r.k r.n = some c → r.poison = [] →
    ∃ t, exec (.contextGranuleReturn id) s = .next t ∧ ∀ cell ∈ requestCells c copy r,
      ctxPasses (Store.slice zeroB r.data (ctxAddr (c.copyBase copy) cell (ctxBank c.sel cell)) 32) cell = true →
      (heldCtx t r.k r.n cell).isSome = true

/-- SCRUB_CHECK while calibration or scrubbing is off, or under CAL's safe action, changes nothing. Otherwise, for a cell whose two
copies lie apart in device memory and come without error: where both pass and agree no byte changes; where only copy 0 passes
its 32 bytes are in copy 1 afterwards and no other byte changes, and SCRUB_REPAIR counts up; where neither passes no byte
changes and SCRUB_LOST counts up. -/
def Obligations.ScrubberRepairs : Prop :=
  (∀ (s : State) (e0 e1 : Ecc), Lit s →
    (rdB s Reg.CAL.CAL_CTRL 0 = false ∨ rdB s Reg.CAL.CAL_CTRL 1 = false ∨ safe s Page.CAL = true) →
    exec (.scrubCheck e0 e1) s = .next s) ∧
  ∀ (s : State) (cell bank a0 a1 : Nat), Lit s → rdB s Reg.CAL.CAL_CTRL 0 = true → rdB s Reg.CAL.CAL_CTRL 1 = true →
    safe s Page.CAL = false → s.cal.scrub = cell → cell % 1024 < rdF s Reg.DLS.CANVAS 10 0 → cell / 1024 < rdF s Reg.DLS.CANVAS 26 16 →
    bank = ctxBank (rd64 s Reg.CAL.SEL_ACTIVE_LO Reg.CAL.SEL_ACTIVE_HI) cell →
    a0 = ctxAddr (rd64 s Reg.CAL.COPY0_BASE_LO Reg.CAL.COPY0_BASE_HI) cell bank →
    a1 = ctxAddr (rd64 s Reg.CAL.COPY1_BASE_LO Reg.CAL.COPY1_BASE_HI) cell bank →
    a0 + 32 ≤ memBytes → a1 + 32 ≤ memBytes → (a0 + 32 ≤ a1 ∨ a1 + 32 ≤ a0) →
    Store.get noB s.poison (a0 / 32) = false → Store.get noB s.poison (a1 / 32) = false →
    (ctxPasses (memRead s a0 32) cell = true → ctxPasses (memRead s a1 32) cell = true → memRead s a0 32 = memRead s a1 32 →
      ∃ t, exec (.scrubCheck .ok .ok) s = .next t ∧ SameMemory s t ∧ rd t Reg.CAL.SCRUB_REPAIR = rd s Reg.CAL.SCRUB_REPAIR) ∧
    (ctxPasses (memRead s a0 32) cell = true → ctxPasses (memRead s a1 32) cell = false →
      ∃ t, exec (.scrubCheck .ok .ok) s = .next t ∧ memRead t a1 32 = memRead s a0 32 ∧
        (∀ b, b < a1 ∨ a1 + 32 ≤ b → memByte t b = memByte s b) ∧
        rd t Reg.CAL.SCRUB_REPAIR = plusOne (rd s Reg.CAL.SCRUB_REPAIR)) ∧
    (ctxPasses (memRead s a0 32) cell = false → ctxPasses (memRead s a1 32) cell = false →
      ∃ t, exec (.scrubCheck .ok .ok) s = .next t ∧ SameMemory s t ∧
        rd t Reg.CAL.SCRUB_LOST = plusOne (rd s Reg.CAL.SCRUB_LOST))

/-- BAND_ENTER before C(n, b), or for a band past the canvas, changes nothing (the model's choice, log entry 1). When due, before the band's deadline and with no
slot held, the band takes the newest ring slot, with EN of DLS_CTRL sampled, no step done and its contents not final; the
slices enter it in that clock if at all, and do where the ring was empty, the slices idle and EN is 1. No byte of memory
changes. -/
def Obligations.BandTakesSlot : Prop :=
  ∀ (s : State) (k n b : Nat) (c : PhaseCtx), Lit s → findCtx s k n = some c →
    ((c.bands ≤ b ∨ reached s (c.begin_ (b : Nat)) = false) → exec (.bandEnter k n b) s = .next s) ∧
    (b < c.bands → reached s (c.begin_ (b : Nat)) = true → ringSlot s k n b = none → reached s (c.deadline b) = false →
      ∃ t r, exec (.bandEnter k n b) s = .next t ∧ ringSlot t k n b = some r ∧ r.enabled = rdB s Reg.DLS.DLS_CTRL 0 ∧
        r.steps = 0 ∧ r.final = false ∧ r.wc = c.wc ∧ (r.entered = none ∨ r.entered = some (coreClk s)) ∧
        (s.dls.ring = [] → s.dls.busy ≤ coreClk s → rdB s Reg.DLS.DLS_CTRL 0 = true → r.entered = some (coreClk s)) ∧
        SameMemory s t)

/-- COMPOSITION_STEP_DONE with no band entered, or before its step's time, changes nothing (the model's choice, log entry 1). For the
oldest band in composition, with its step's inputs there, 2304 clocks gone, no word in error and its deadline not passed, one
more step of the band is complete, and the band's contents are final exactly when it was the last step. No byte of memory
changes. -/
def Obligations.CompositionStepCompletes : Prop :=
  (∀ (s : State) (us : List Upset), Lit s → ((inFlight s).find? fun r => r.entered.isSome) = none →
    exec (.compositionStepDone us) s = .next s) ∧
  ∀ (s : State) (r : BandSlot) (c : PhaseCtx) (t0 : Nat), Lit s → ((inFlight s).find? fun r => r.entered.isSome) = some r →
    findCtx s r.k r.n = some c → (bandStarts s c r)[r.steps]? = some t0 → r.stall = 0 →
    ((coreClk s < t0 + 2304 ∨ reached s (c.deadline r.b + 800) = true) → ∀ us, exec (.compositionStepDone us) s = .next s) ∧
    (t0 + 2304 ≤ coreClk s → reached s (c.deadline r.b + 800) = false →
      ∃ t q, exec (.compositionStepDone []) s = .next t ∧ ringSlot t r.k r.n r.b = some q ∧ q.steps = r.steps + 1 ∧
        q.final = (r.steps + 1 == bandSteps c.wc) ∧ SameMemory s t)

/-- BAND_DEADLINE before DL(n, b), or for a band already judged, changes nothing (the model's choice, log entry 1). A band whose contents are final keeps them and is
judged. An enabled band not under GS_ALL that is not final counts in LATE_BANDS, every cell column from its first incomplete
step on is flagged as substituted, and its contents are final. -/
def Obligations.BandJudged : Prop :=
  ∀ (s : State) (k n b : Nat) (c : PhaseCtx) (r : BandSlot), Lit s → findCtx s k n = some c → ringSlot s k n b = some r →
    ((c.bands ≤ b ∨ reached s (c.deadline b) = false ∨ r.judged = true) → exec (.bandDeadline k n b) s = .next s) ∧
    (b < c.bands → reached s (c.deadline b) = true → r.judged = false →
      (r.final = true → r.gsAll = false → r.enabled = true →
        exec (.bandDeadline k n b) s = .next (setSlot s { r with judged := true })) ∧
      (r.final = false → r.gsAll = false → r.enabled = true → ∃ t q, exec (.bandDeadline k n b) s = .next t ∧
        ringSlot t k n b = some q ∧ q.final = true ∧ q.judged = true ∧ q.cells = r.cells ∧
        (∀ cx, 64 * r.steps ≤ cx → cx < c.wc / 16 → Store.get noB q.subst cx = true) ∧
        (∀ cx, cx < 64 * r.steps → Store.get noB q.subst cx = Store.get noB r.subst cx) ∧
        rd t Reg.DLS.LATE_BANDS = plusOne (rd s Reg.DLS.LATE_BANDS) ∧ SameMemory s t))

/-- GS_FILL_GO, accepted, with GO: with no fill running one starts with the value, first index and end the registers give, and
GS_FILL_STATUS shows it busy; with one running IGNORED sets and the fill stays. GS_FILL_DONE, once the fill has reached its end:
every word of its range holds the value and is without error, every other word is as before, and BUSY clears; before that, or
with no fill running, nothing changes (the model's choice, log entry 1). -/
def Obligations.GroundsheetFill : Prop :=
  (∀ (s : State) (a : Agent) (v : Word), Awake s → Accepts s a Reg.DLS.GS_FILL .cmd → bit v 0 = true →
    (rdB s Reg.DLS.GS_FILL_STATUS 0 = false → ∃ t at_, exec (.gsFillGo a v) s = .next t ∧
      t.dls.fill = some (rd s Reg.DLS.GS_FILL_VALUE, rdF s Reg.DLS.GS_FILL_FIRST 19 0,
        min 0x100000 (rdF s Reg.DLS.GS_FILL_FIRST 19 0 + rdF s Reg.DLS.GS_FILL_COUNT 20 0), at_) ∧
      rd t Reg.DLS.GS_FILL_STATUS = 1 ∧ t.dls.gs = s.dls.gs ∧ RegsExcept [Reg.DLS.GS_FILL_STATUS] s t ∧ SameMemory s t) ∧
    (rdB s Reg.DLS.GS_FILL_STATUS 0 = true → ∃ t, exec (.gsFillGo a v) s = .next t ∧ t.dls = s.dls ∧
      rdB t Reg.DLS.GS_FILL_STATUS 1 = true ∧ RegsExcept [Reg.DLS.GS_FILL_STATUS] s t ∧ SameMemory s t)) ∧
  ∀ (s : State) (v : Word) (next stop at_ : Nat), Lit s → s.dls.fill = some (v, next, stop, at_) →
    ((fillReach s next stop at_ = stop ∨ stop ≤ next) → ∃ t, exec .gsFillDone s = .next t ∧ t.dls.fill = none ∧
      (∀ i, next ≤ i → i < stop → Store.get zeroW t.dls.gs i = v ∧ Store.get gsOk t.dls.gsErr i = .ok) ∧
      (∀ i, i < next ∨ stop ≤ i → Store.get zeroW t.dls.gs i = Store.get zeroW s.dls.gs i ∧
        Store.get gsOk t.dls.gsErr i = Store.get gsOk s.dls.gsErr i) ∧
      rdB t Reg.DLS.GS_FILL_STATUS 0 = false ∧ RegsExcept [Reg.DLS.GS_FILL_STATUS] s t ∧ SameMemory s t) ∧
    (fillReach s next stop at_ ≠ stop → next < stop → exec .gsFillDone s = .next s)

/-- Where a port's table runs, holds at no wait, and has the instruction at its program counter, the run becomes exactly this and no
other port, register or byte changes, the word it comes to being without error; where that word meets an uncorrectable error the
sequencer stops for the phase. NOP: the next word. SET: each register whose select bit is set takes its
field. ADD: BR, XR and CR advance modulo 2048, 64 and 256. LOOP: a level opens with COUNT_M1 and the word after it. ENDLOOP: the
innermost count decrements and execution continues after its LOOP, or the level closes at 0. END: the table has ended. SIGNAL:
the next word, with the port's event line pulsed.
For every port and every word, a pitch instruction command changes nothing where no table runs on the port, where the table holds
at a wait, or where the word at its program counter is not this instruction with these fields: registers of the sequencer change
by its own table alone (the model's choice, log entry 1, for a command so sent). -/
def Obligations.PitchInstructions : Prop :=
  (∀ (s : State) (p : Nat) (q : SeqRun),
    ((∀ u ∈ (port s p).errs, u.word ≠ q.pc) → setRun s p q = setPort s p { port s p with run := some q }) ∧
    (∀ u ∈ (port s p).errs, u.word = q.pc → u.struct = 7 → u.uncorr = true → q.wait = .none → q.ended = false →
      (port (setRun s p q) p).run = none ∧ OtherPorts p s (setRun s p q))) ∧
  (∀ (s : State) (p : Nat) (r : SeqRun), Lit s →
    (Issues s p .nop r → exec (.nop p) s = .next (setRun s p { r with pc := r.pc + 1, nomT := r.nomT + toClockPs })) ∧
    (∀ f, Issues s p (.set f) r → exec (.set p f) s = .next (setRun s p { r with
      pc := r.pc + 1, nomT := r.nomT + toClockPs
      br := if f.setB then f.b.toNat else r.br
      xr := if f.setX then f.x.toNat else r.xr
      cr := if f.setC then f.c.toNat else r.cr })) ∧
    (∀ f, Issues s p (.add f) r → exec (.add p f) s = .next (setRun s p { r with
      pc := r.pc + 1, nomT := r.nomT + toClockPs
      br := (r.br + f.db.toNat) % 2048, xr := (r.xr + f.dx.toNat) % 64, cr := (r.cr + f.dc.toNat) % 256 })) ∧
    (∀ n, Issues s p (.loop n) r → exec (.loop p n) s = .next (setRun s p { r with
      pc := r.pc + 1, nomT := r.nomT + toClockPs, lc := n.toNat :: r.lc, ret := (r.pc + 1) :: r.ret })) ∧
    (∀ n cs a as, Issues s p .endloop r → r.lc = (n + 1) :: cs → r.ret = a :: as →
      exec (.endloop p) s = .next (setRun s p { r with pc := a, nomT := r.nomT + toClockPs, lc := n :: cs })) ∧
    (∀ cs a as, Issues s p .endloop r → r.lc = 0 :: cs → r.ret = a :: as →
      exec (.endloop p) s = .next (setRun s p { r with pc := r.pc + 1, nomT := r.nomT + toClockPs, lc := cs, ret := as })) ∧
    (Issues s p .seqEnd r → exec (.seqEnd p) s = .next (setRun s p { r with ended := true })) ∧
    (Issues s p .signal r → ∃ t, exec (.signal p) s = .next t ∧
      t = pulse (setRun s p { r with pc := r.pc + 1, nomT := r.nomT + toClockPs }) (256 + p) ∧
      ((∀ u ∈ (port s p).errs, u.word ≠ r.pc + 1) → (runOf t p).map (·.pc) = some (r.pc + 1)))) ∧
  ∀ (s : State) (p : Nat),
    ((∀ r, ¬ Issues s p .nop r) → exec (.nop p) s = .next s) ∧
    (∀ f, (∀ r, ¬ Issues s p (.set f) r) → exec (.set p f) s = .next s) ∧
    (∀ f, (∀ r, ¬ Issues s p (.add f) r) → exec (.add p f) s = .next s) ∧
    (∀ f, (∀ r, ¬ Issues s p (.loop f) r) → exec (.loop p f) s = .next s) ∧
    ((∀ r, ¬ Issues s p .endloop r) → exec (.endloop p) s = .next s) ∧
    (∀ f, (∀ r, ¬ Issues s p (.waitBand f) r) → exec (.waitBand p f) s = .next s) ∧
    (∀ f, (∀ r, ¬ Issues s p (.waitTime f) r) → exec (.waitTime p f) s = .next s) ∧
    (∀ l x, (∀ r, ¬ Issues s p (.waitEvent l x) r) → exec (.waitEvent p l x) s = .next s) ∧
    (∀ f, (∀ r, ¬ Issues s p (.send f) r) → exec (.send p f) s = .next s) ∧
    ((∀ r, ¬ Issues s p .close r) → exec (.close p) s = .next s) ∧
    ((∀ r, ¬ Issues s p .signal r) → exec (.signal p) s = .next s) ∧
    ((∀ r, ¬ Issues s p .seqEnd r) → exec (.seqEnd p) s = .next s)

/-- WAIT_BAND, WAIT_TIME, WAIT_EVENT and CLOSE hold the run at their wait and move no program counter. WAIT_BAND releases once its
band is ready and E(n, b) + OFS reached, WAIT_TIME at S(n) + T, WAIT_EVENT once its line has pulsed, or by its timeout, which
EVT_TIMEOUT counts, and CLOSE at WC(n), queueing the phase mark of the slot behind the frames of class T unless the pair discards
it or the port is off; a release moves on to the next word (which is taken to be without error). Before its condition a release
changes nothing (the model's choice, log entry 1). -/
def Obligations.PitchWaits : Prop :=
  ∀ (s : State) (p : Nat) (r : SeqRun), Lit s → (∀ u ∈ (port s p).errs, u.word ≠ r.pc + 1) →
    (∀ f, Issues s p (.waitBand f) r → ∃ t, exec (.waitBand p f) s = .next (setRun s p { r with
      wait := .band (if f.rel then (r.br + f.band.toNat) % 2048 else f.band.toNat) f.ofs.toNat, nomT := t })) ∧
    (∀ x, Issues s p (.waitTime x) r → ∃ t, exec (.waitTime p x) s = .next (setRun s p { r with wait := .time x.toNat, nomT := t })) ∧
    (∀ l x, Issues s p (.waitEvent l x) r → ∃ t, exec (.waitEvent p l x) s = .next (setRun s p { r with
      wait := .event l.toNat x.toNat s.time.uptime false, nomT := t })) ∧
    (Issues s p .close r → ∃ t, exec (.close p) s = .next (setRun s p { r with wait := .close, nomT := t })) ∧
    (∀ b o, runOf s p = some r → r.wait = .band b o →
      ((bandReady s (runCtx s r) b = true ∧ reached s ((runCtx s r).egress b + 1000 * o) = true) →
        exec (.waitBandRelease p) s = .next (setRun s p { r with wait := .none, pc := r.pc + 1 })) ∧
      ((bandReady s (runCtx s r) b = false ∨ reached s ((runCtx s r).egress b + 1000 * o) = false) →
        exec (.waitBandRelease p) s = .next s)) ∧
    (∀ x, runOf s p = some r → r.wait = .time x →
      (reached s ((slotStart s r.k r.n + x) * 1000) = true →
        exec (.waitTimeRelease p) s = .next (setRun s p { r with wait := .none, pc := r.pc + 1 })) ∧
      (reached s ((slotStart s r.k r.n + x) * 1000) = false → exec (.waitTimeRelease p) s = .next s)) ∧
    (∀ l x since, runOf s p = some r →
      (r.wait = .event l x since true →
        exec (.waitEventRelease p) s = .next (setRun s p { r with wait := .none, pc := r.pc + 1 })) ∧
      (r.wait = .event l x since false → exec (.waitEventRelease p) s = .next s ∧
        (since * 2 + x < s.time.uptime * 2 → ∃ t, exec (.waitEventTimeout p) s = .next t ∧
          runOf t p = some { r with wait := .none, pc := r.pc + 1 } ∧
          rd t (Reg.TP.EVT_TIMEOUT p) = plusOne (rd s (Reg.TP.EVT_TIMEOUT p)) ∧
          RegsExcept [Reg.TP.EVT_TIMEOUT p] s t ∧ OtherPorts p s t) ∧
        (s.time.uptime * 2 ≤ since * 2 + x → exec (.waitEventTimeout p) s = .next s))) ∧
    (runOf s p = some r → r.wait = .close →
      (reached s (runCtx s r).close = false → exec (.closeRelease p) s = .next s) ∧
      (reached s (runCtx s r).close = true → ∃ t, exec (.closeRelease p) s = .next t ∧
        runOf t p = some { r with wait := .none, pc := r.pc + 1 } ∧ OtherPorts p s t ∧
        ((marksDiscarded s r.k r.n = true ∨ portOn s p = false) → (port t p).tq = (port s p).tq) ∧
        (marksDiscarded s r.k r.n = false → portOn s p = true →
          (port t p).tq = (port s p).tq ++ [⟨false, (markFrame s p r).1, s.time.uptime, tileClk s⟩])))

/-- SEND holds the run with a frame of its band, mode, receiver, first position, count and column, relative to BR, XR and CR
where its bits say, numbered by the SENDs of the phase before it, and the phase's receivers name that receiver. PIXEL_FRAME_START
before the start clock, while the transmitter is busy, or with a class T frame ahead that was queued before the start clock,
changes nothing (the model's choice, log entry 1); with none of them ahead (one queued in the start clock itself comes after), in the guy band the frame is skipped and counted with its cells, and the table
goes on; on a port that is off the frame is dropped and the table goes on; on a port that is on a frame of class P leaves, the
table goes on and PFRAMES counts. -/
def Obligations.PitchSendsFrames : Prop :=
  (∀ (s : State) (p : Nat) (r : SeqRun) (f : SendF), Lit s → Issues s p (.send f) r →
    ∃ t q g, exec (.send p f) s = .next t ∧ (port t p).send = some q ∧ runOf t p = some g ∧ g.wait = .frame ∧ g.pc = r.pc ∧
      (port t p).sends = (port s p).sends + 1 ∧ ((port t p).acc.any fun e => e.1 == q.rx) = true ∧ q.band = (if f.relB then (r.br + f.band.toNat) % 2048 else f.band.toNat) ∧ q.mode = f.mode ∧
      q.rx = (if f.relX then (r.xr + f.rx.toNat) % 64 else f.rx.toNat) ∧
      q.first = (if f.relC then (r.cr + f.rxcell0.toNat) % 256 else f.rxcell0.toNat) ∧
      q.count = f.countM1.toNat + 1 ∧ q.cx0 = f.cx0.toNat ∧ q.fidx = (port s p).sends ∧ tileClk s + 16 ≤ q.start ∧
      OtherPorts p s t ∧ t = { s with ports := t.ports }) ∧
  ∀ (s : State) (p : Nat) (r : SeqRun) (f : PixSend), Lit s → p < 256 → runOf s p = some r → (port s p).send = some f →
    (∀ u ∈ (port s p).errs, u.word ≠ r.pc + 1) →
    ((tileClk s < max f.start (port s p).txFree ∨ (port s p).tx.isSome = true ∨
      (∃ h l, (port s p).tq = h :: l ∧ h.clk < max f.start (port s p).txFree)) → ∀ us, exec (.pixelFrameStart p us) s = .next s) ∧
    (max f.start (port s p).txFree ≤ tileClk s → (port s p).tx = none →
      (∀ h l, (port s p).tq = h :: l → max f.start (port s p).txFree ≤ h.clk) →
      (inGuy s p r = true → ∀ us, ∃ t, exec (.pixelFrameStart p us) s = .next t ∧ (port t p).send = none ∧
        runOf t p = some { r with wait := .none, pc := r.pc + 1 } ∧ (port t p).tx = none ∧
        rd t (Reg.TP.GUY_SKIP p) = plusOne (rd s (Reg.TP.GUY_SKIP p)) ∧
        rd t (Reg.TP.GUY_SKIP_CELLS p) = w32 (min 0xFFFFFFFF (rdN s (Reg.TP.GUY_SKIP_CELLS p) + f.count)) ∧
        RegsExcept [Reg.TP.GUY_SKIP p, Reg.TP.GUY_SKIP_CELLS p] s t ∧ OtherPorts p s t) ∧
      (inGuy s p r = false → portOn s p = false → ∀ us, exec (.pixelFrameStart p us) s =
        .next (setPort s p { port s p with send := none, run := some { r with wait := .none, pc := r.pc + 1 } })) ∧
      (inGuy s p r = false → portOn s p = true → ∃ t x, exec (.pixelFrameStart p []) s = .next t ∧ (port t p).send = none ∧
        runOf t p = some { r with wait := .none, pc := r.pc + 1 } ∧ (port t p).tx = some x ∧ x.cls = .p ∧
        rd64 t (Reg.TP.PFRAMES_LO p) (Reg.TP.PFRAMES_HI p) =
          (rd64 s (Reg.TP.PFRAMES_LO p) (Reg.TP.PFRAMES_HI p) + 1) % 2 ^ 64))

/-- SEQ_RESTART, due, with no swap pending, no cause of the port's safe action and no word in error: with EN of SEQ_CTRL and an
active table the run stands at the entry word with BR, XR, CR and loops clear and no wait; without them no run stands. A
table still running counts in OVERRUN, and only then. Early, with the phases not running, for another slot than the next, or a
second time for the slot, nothing changes (the model's choice, log entry 1). SEQ_ENABLE,
accepted, stores SEQ_CTRL and starts nothing; SEQ_DISABLE, with no safe action, stores it and stops the run. -/
def Obligations.SequencerRestarts : Prop :=
  (∀ (s : State) (p k n : Nat), Lit s → p < 256 → s.grid.next = some (k, n) → rdB s Reg.TIM.TIM_STATUS 1 = true →
    (port s p).swap = none → safeCause s (Page.TP p) = false → reached s (slotStart s k n * 1000 - 1000000) = true →
    (port s p).last ≠ some (k, n) →
    ∃ t, exec (.seqRestart p k n []) s = .next t ∧ (port t p).last = some (k, n) ∧ (port t p).send = none ∧ OtherPorts p s t ∧
      (∀ e len, rdB s (Reg.TP.SEQ_CTRL p) 0 = true → activeTable s p = some (e, len) →
        (port t p).run = some (freshRun k n e)) ∧
      ((rdB s (Reg.TP.SEQ_CTRL p) 0 = false ∨ activeTable s p = none) → (port t p).run = none) ∧
      ((runOf s p).isSome = true → rd t (Reg.TP.OVERRUN p) = plusOne (rd s (Reg.TP.OVERRUN p))) ∧
      (runOf s p = none → t.regs = s.regs)) ∧
  (∀ (s : State) (p k n : Nat) (us : List Upset), Awake s →
    (s.grid.next ≠ some (k, n) ∨ rdB s Reg.TIM.TIM_STATUS 1 = false ∨
      reached s (slotStart s k n * 1000 - 1000000) = false ∨ (port s p).last = some (k, n)) → exec (.seqRestart p k n us) s = .next s) ∧
  (∀ (s : State) (a : Agent) (p : Nat) (v : Word), Awake s → Accepts s a (Reg.TP.SEQ_CTRL p) .cfg → bit v 0 = true →
    exec (.seqEnable a p v) s =
      .next (touchSession s a (pageOf (Reg.TP.SEQ_CTRL p)) (wr s (Reg.TP.SEQ_CTRL p) (v &&& 0xFF03)))) ∧
  ∀ (s : State) (a : Agent) (p : Nat) (v : Word), Awake s → Accepts s a (Reg.TP.SEQ_CTRL p) .cfg → bit v 0 = false →
    safe s (Page.TP p) = false → ∃ t, exec (.seqDisable a p v) s = .next t ∧ (port t p).run = none ∧ (port t p).send = none ∧
      (port t p).sends = (port s p).sends ∧ rd t (Reg.TP.SEQ_CTRL p) = v &&& 0xFF03 ∧ RegsExcept [Reg.TP.SEQ_CTRL p] s t ∧ OtherPorts p s t

/-- LOAD_CHECK_GO, accepted, starts a check of the region at NEXT_ENTRY with no check running, and shows it busy; LOAD_CHECK_DONE
ends it: with no failure CHECK_STATUS reads PASS and the region is the checked one, with a failure no region is checked and
CHECK_STATUS bears its cause. SWAP_GO of a region that may be swapped in, with a target that exists or none, leaves the swap
pending, or in the clock of a restart of its phase makes the region the active table, which ACTIVE shows; of any other region it counts in SWAP_REFUSED and nothing is pending that was not. SWAP_CANCEL withdraws a pending
swap. -/
def Obligations.LoadChecksAndSwaps : Prop :=
  (∀ (s : State) (a : Agent) (p : Nat) (v : Word), Awake s → Accepts s a (Reg.TP.CHECK p) .cmd → bit v 0 = true →
    (port s p).checking = none → ∃ t ps, exec (.loadCheckGo a p v) s = .next t ∧
      (port t p).checking = some (rdF s (Reg.TP.NEXT_ENTRY p) 10 0, ps) ∧ rd t (Reg.TP.CHECK_STATUS p) = 1 ∧
      RegsExcept [Reg.TP.CHECK_STATUS p] s t ∧ OtherPorts p s t) ∧
  (∀ (s : State) (p e hi : Nat) (ps : List (List Nat)), Lit s → (port s p).checking = some (e, ps) →
    (checkVerdict s p e ps = (none, hi) → ∃ t, exec (.loadCheckDone p) s = .next t ∧ (port t p).checking = none ∧
      (port t p).checked = some (e, hi + 1 - e) ∧ rdB t (Reg.TP.CHECK_STATUS p) 1 = true ∧
      rdB t (Reg.TP.CHECK_STATUS p) 0 = false ∧ RegsExcept [Reg.TP.CHECK_STATUS p] s t ∧ OtherPorts p s t) ∧
    ∀ f, f.cause < 16 → checkVerdict s p e ps = (some f, hi) → ∃ t, exec (.loadCheckDone p) s = .next t ∧
      (port t p).checking = none ∧ (port t p).checked = none ∧ rdB t (Reg.TP.CHECK_STATUS p) 1 = false ∧
      rdF t (Reg.TP.CHECK_STATUS p) 7 4 = f.cause ∧ RegsExcept [Reg.TP.CHECK_STATUS p] s t ∧ OtherPorts p s t) ∧
  (∀ (s : State) (a : Agent) (p : Nat) (v : Word), Awake s → Accepts s a (Reg.TP.SWAP p) .cmd → bit v 0 = true → bit v 5 = false →
    (∀ e len, swapAllowed s p = some (e, len) → (bit v 1 = true → fld v 4 2 < nph s) →
      (∀ k n, p < 256 → (port s p).last = some (k, n) → (port s p).lastAt = tileClk s → (bit v 1 = true → fld v 4 2 = n) →
        ∃ t, exec (.swapGo a p v) s = .next t ∧ activeTable t p = some (e, len) ∧ (port t p).swap = none ∧
          rd t (Reg.TP.ACTIVE p) = activeWord e len ∧ OtherPorts p s t) ∧
      (((port s p).last = none ∨ (port s p).lastAt ≠ tileClk s) → ∃ t, exec (.swapGo a p v) s = .next t ∧
      (port t p).swap = some (e, len, if bit v 1 then some (fld v 4 2) else none) ∧ rdB t (Reg.TP.SWAP_STATUS p) 0 = true ∧
      RegsExcept [Reg.TP.SWAP_STATUS p] s t ∧ OtherPorts p s t)) ∧
    ((swapAllowed s p = none ∨ (bit v 1 = true ∧ nph s ≤ fld v 4 2)) → ∃ t, exec (.swapGo a p v) s = .next t ∧
      port t p = port s p ∧ rd t (Reg.TP.SWAP_REFUSED p) = plusOne (rd s (Reg.TP.SWAP_REFUSED p)) ∧
      RegsExcept [Reg.TP.SWAP_REFUSED p] s t ∧ OtherPorts p s t)) ∧
  ∀ (s : State) (a : Agent) (p : Nat) (v : Word), Awake s → Accepts s a (Reg.TP.SWAP p) .cmd → bit v 0 = false → bit v 5 = true →
    (port s p).swap.isSome = true → ∃ t, exec (.swapCancel a p v) s = .next t ∧ (port t p).swap = none ∧
      rdB t (Reg.TP.SWAP_STATUS p) 0 = false ∧ RegsExcept [Reg.TP.SWAP_STATUS p] s t ∧ OtherPorts p s t

/-- TILE_LINK_CHANGE takes link and lock where the port's octet PLL is locked and links are driven. TILE_FRAME_RX with the link
down changes nothing; with it up every frame counts in RX_FRAMES, and the first of R250's checks that fails counts in its own
counter and nothing else does; a frame of the far end that is a lantern sets FAR_OK and starts its count anew, after an instant
reached in the same clock. FAR_OK_LOSS clears FAR_OK once LANT_LOSS phase instants have passed without one, and before that changes nothing. LANTERN_QUEUE, at WC(n) of
the slot in progress with the tile domain and lanterns on, leaves a lantern of class M waiting on every port that is on, and
changes no port that is off; before WC(n), and a second time, it changes nothing. TIME_FRAME_TICK, the next multiple of TIME_PER
reached and TIME_EN at 1, appends one time frame to class T of every port that is on and takes that multiple, so that of several
that a step passes each has its frame; before the next multiple it changes nothing. That commands come to nothing outside their
time is the model's choice (log entry 1). -/
def Obligations.ReturnPathAndLanterns : Prop :=
  (∀ (s : State) (p : Nat) (up lock : Bool), Awake s → p < 256 →
    ∃ t, exec (.tileLinkChange p up lock) s = .next t ∧ OtherPorts p s t ∧ t = { s with ports := t.ports, icu := t.icu } ∧
      port t p = { port s p with linkUp := up && (bit s.rst.octets (p / 8) && serdesOn s)
                                 lock := lock && (bit s.rst.octets (p / 8) && serdesOn s) }) ∧
  (∀ (s : State) (p : Nat) (f : TileFrame), Awake s → p < 256 →
    (portLink s p = false → exec (.tileFrameRx p f) s = .next s) ∧
    (portLink s p = true →
      (f.fcsError = true → exec (.tileFrameRx p f) s = .next (bump (bump s (Reg.TP.RX_FRAMES p)) (Reg.TP.RX_FCS_ERR p))) ∧
      (f.fcsError = false → rdB s Reg.TLG.TLG_CTRL 0 = false → exec (.tileFrameRx p f) s = .next (bump s (Reg.TP.RX_FRAMES p))) ∧
      (f.fcsError = false → rdB s Reg.TLG.TLG_CTRL 0 = true →
        (beAt f.bytes 12 2 ≠ rdF s Reg.TLG.ETHERTYPE 15 0 →
          exec (.tileFrameRx p f) s = .next (bump (bump s (Reg.TP.RX_FRAMES p)) Reg.TLG.RX_NONHTL)) ∧
        (beAt f.bytes 12 2 = rdF s Reg.TLG.ETHERTYPE 15 0 →
          ((byteAt f.bytes 14).toNat / 16 ≠ 1 →
            exec (.tileFrameRx p f) s = .next (bump (bump s (Reg.TP.RX_FRAMES p)) Reg.TLG.RX_BADVER)) ∧
          ((byteAt f.bytes 14).toNat / 16 = 1 →
            ((byteAt f.bytes 16).toNat ≠ portChain s p →
              exec (.tileFrameRx p f) s = .next (bump (bump s (Reg.TP.RX_FRAMES p)) Reg.TLG.RX_FOREIGN)) ∧
            ((byteAt f.bytes 16).toNat = portChain s p → (byteAt f.bytes 14).toNat % 16 = 4 →
              ((byteAt f.bytes 15).toNat % 2 ≠ portEnd s p → ∃ t, exec (.tileFrameRx p f) s = .next t ∧
                (port t p).farAt = some (instantsSeen s) ∧ rdB t (Reg.TLG.FAR_OK (p / 32)) (p % 32) = true) ∧
              ((byteAt f.bytes 15).toNat % 2 = portEnd s p →
                exec (.tileFrameRx p f) s = .next (bump (bump s (Reg.TP.RX_FRAMES p)) Reg.TLG.RX_LOOPED)))))))) ∧
  (∀ (s : State) (p : Nat), Lit s → p < 256 →
    (farOk s p = true → exec (.farOkLoss p) s = .next s) ∧
    (farOk s p = false → ∃ t, exec (.farOkLoss p) s = .next t ∧ rdB t (Reg.TLG.FAR_OK (p / 32)) (p % 32) = false ∧
      RegsExcept [Reg.TLG.FAR_OK (p / 32)] s t ∧ t = { s with regs := t.regs, par := t.par, icu := t.icu })) ∧
  (∀ (s : State) (k n : Nat), Lit s →
    ((s.grid.lant = some (k, n) ∨ s.grid.cur ≠ some (k, n) ∨ reached s (ctxOf s k n).close = false) →
      exec (.lanternQueue k n) s = .next s) ∧
    (s.grid.cur = some (k, n) → s.grid.lant ≠ some (k, n) → reached s (ctxOf s k n).close = true →
      rdB s Reg.TLG.TLG_CTRL 0 = true → rdB s Reg.TLG.TLG_CTRL 1 = true → ∃ t, exec (.lanternQueue k n) s = .next t ∧
        ∀ p, p < 256 → (portOn s p = true → (port t p).lantern.isSome = true) ∧ (portOn s p = false → port t p = port s p))) ∧
  ∀ (s : State), Lit s → rdB s Reg.TLG.TLG_CTRL 2 = true → 0 < rdF s Reg.TLG.TIME_PER 15 0 →
    (nowNs s < nextMultiple s.time.tlg (rdF s Reg.TLG.TIME_PER 15 0) → exec .timeFrameTick s = .next s) ∧
    (nextMultiple s.time.tlg (rdF s Reg.TLG.TIME_PER 15 0) ≤ nowNs s →
      ∃ t, exec .timeFrameTick s = .next t ∧ t.regs = s.regs ∧
      t.time.tlg = nextMultiple s.time.tlg (rdF s Reg.TLG.TIME_PER 15 0) ∧
      ∀ p, p < 256 → (portOn s p = true → ∃ f, (port t p).tq = (port s p).tq ++ [f] ∧ f.time = true) ∧
        (portOn s p = false → port t p = port s p))

/-- EGRESS_SELECT and GATE_WINDOW_OPEN: a port that is off or whose transmitter is busy changes nothing; nor does one whose pixel
frame has reached its start clock before any class T frame waited (it starts in PIXEL_FRAME_START). Else a waiting class T frame
leaves first and TX_FRAMES_T counts. With none, the shaper open and
the first backlogged session's head fitting its gate, that head leaves. With no session backlogged, the credit open and a
lantern that fits its gate, the lantern leaves before the firmware queue's head. TX_FRAME_DONE before the frame's end changes
nothing (the model's choice, log entry 1); from then on the transmitter is free, and a frame of the firmware queue has its descriptor completed. -/
def Obligations.EgressOrder : Prop :=
  (∀ (s : State) (p : Nat), Lit s → p < 256 →
    ((portOn s p = false ∨ (port s p).tx.isSome = true) → exec (.egressSelect p) s = .next s) ∧
    (portOn s p = true → (port s p).tx = none →
      (pixelFirst s p = true → exec (.egressSelect p) s = .next s) ∧
      (∀ f rest, pixelFirst s p = false → (port s p).tq = f :: rest → ∃ t x, exec (.egressSelect p) s = .next t ∧ (port t p).tx = some x ∧ x.cls = .t ∧
        (port t p).tq = rest ∧ rd t (Reg.TP.TX_FRAMES_T p) = plusOne (rd s (Reg.TP.TX_FRAMES_T p)) ∧
        x.stop = tileClk s + wireTime (ethBytes
          (if f.time then (putBytes f.bytes 16 (List.replicate 12 0)).length else f.bytes.length)) ∧ OtherPorts p s t ∧
        RegsExcept [Reg.TP.TX_FRAMES_T p, Reg.TP.TX_BYTES_LO p, Reg.TP.TX_BYTES_HI p, Reg.TP.TX_LINK_DOWN p] s t) ∧
      ((port s p).tq = [] → pixelFirst s p = false →
        (∀ se x r rest, se < 64 → shaperOpen s p = true → backlogged (port s p) = (se, x, r) :: rest →
          gateFit s p (ethBytes r.frame.length) (gateWindow s p 0) = .fits → ∃ t y, exec (.egressSelect p) s = .next t ∧
            (port t p).tx = some y ∧ y.cls = .c ∧ y.sess = se ∧ (port t p).tq = [] ∧ OtherPorts p s t ∧
            rd t (Reg.TP.TX_FRAMES_C p) = plusOne (rd s (Reg.TP.TX_FRAMES_C p)) ∧
            RegsExcept [Reg.TP.TX_FRAMES_C p, Reg.TP.WFQ_V p, Reg.TP.SESS_CFG p se, Reg.TP.TX_BYTES_LO p, Reg.TP.TX_BYTES_HI p,
              Reg.TP.TX_LINK_DOWN p] s t) ∧
        (∀ f, backlogged (port s p) = [] → creditOpen s p = true → (port s p).lantern = some f →
          gateFit s p (ethBytes f.bytes.length) (gateWindow s p 1) = .fits → ∃ t y, exec (.egressSelect p) s = .next t ∧
            (port t p).tx = some y ∧ y.cls = .m ∧ y.mq = none ∧ (port t p).lantern = none ∧ (port t p).mq = (port s p).mq ∧
            OtherPorts p s t ∧ rd t (Reg.TP.TX_FRAMES_M p) = plusOne (rd s (Reg.TP.TX_FRAMES_M p)) ∧
            RegsExcept [Reg.TP.TX_FRAMES_M p, Reg.TP.TX_BYTES_LO p, Reg.TP.TX_BYTES_HI p, Reg.TP.TX_LINK_DOWN p] s t))) ∧
    exec (.gateWindowOpen p) s = exec (.egressSelect p) s) ∧
  ∀ (s : State) (p : Nat) (x : TxFrame), Lit s → (port s p).tx = some x →
    (tileClk s < x.stop → exec (.txFrameDone p) s = .next s) ∧
    (x.stop ≤ tileClk s → ∃ t, exec (.txFrameDone p) s = .next t ∧ (port t p).tx = none ∧ OtherPorts p s t ∧
      (x.mq = none → SameMemory s t ∧ RegsExcept [Reg.TP.P_BLOCKED p] s t) ∧
      ∀ i, x.mq = some i → (port t p).mqBusy = false ∧ rdF t (Reg.TP.MQ_IDX p) 31 16 = (i + 1) % 65536 ∧
        RegsExcept [Reg.TP.P_BLOCKED p, Reg.TP.MQ_IDX p] s t ∧ MemoryExcept [(mqDesc s p i + 0x0C, 4)] s t ∧
        (mqDesc s p i + 0x10 ≤ memBytes → memRead t (mqDesc s p i + 0x0C) 4 = leBytes 4 1))

/-- SESSION_DOORBELL, accepted, stores PROD and clears STOPPED; a session that is on, not yet opened, with a descriptor pending
and nothing in hand takes the opening NOP in hand with CSEQ 0, counted as tried where the port is off. SESSION_DESC_READ_DONE of
an opened session with a descriptor pending takes a request in hand with the next CSEQ; a host read that ends in error counts in
HOST_CPL_ERR and leaves the descriptor pending. SESSION_ACK_TIMEOUT before ACK_TMO has passed changes nothing; after it, while
tries remain, the request is due again with the same frame (on a port that is off: discarded as queued, one more try), and after
the last the session stops and SESS_FAIL counts. SESSION_COMPLETE of an answered request frees the session and advances CONS.
MQ_DOORBELL, accepted, stores PROD and leaves CONS. MQ_DESC_READ_DONE with nothing pending, or with a frame in hand, changes
nothing; with a descriptor pending, a frame whose length is below 16 or above 9198 bytes or whose TYPE is not DISCOVERY counts in
MQ_DROPPED and CONS advances; any other becomes the frame in hand, or on a port that is off is discarded, CONS advancing.
QUEUE_SAMPLE past a whole multiple of INT brings DEPTH_MAX of each class to at least its depth and DEPTH_MIN to at most, and the
histogram of the class it follows takes one sample for each multiple passed; at no new multiple it changes nothing. That commands
come to nothing outside their time, and what becomes of a descriptor whose host read fails or that a port that is off discards,
is the model's choice (log entries 1, 138, 23). SAMPLE_CLEAR with GO clears the sixteen counts and returns the minima to all ones
and the maxima to 0, and a sample of the same clock is taken after it; without GO it changes no register. -/
def Obligations.SessionsAndQueues : Prop :=
  ((∀ (s : State) (a : Agent) (p se : Nat) (v : Word), Awake s → p < 256 → se < 64 → Accepts s a (Reg.TP.SESS_IDX p se) .cfg →
    ∃ t, exec (.sessionDoorbell a p se v) s = .next t ∧ rdF t (Reg.TP.SESS_IDX p se) 15 0 = fld v 15 0 ∧
      rdF t (Reg.TP.SESS_IDX p se) 31 16 = rdF s (Reg.TP.SESS_IDX p se) 31 16 ∧ stopped t p se = false ∧
      RegsExcept [Reg.TP.SESS_IDX p se, Reg.TP.SESS_CFG p se] s t ∧ OtherPorts p s t ∧ SameMemory s t ∧
      (rdB s (Reg.TP.SESS_CFG p se) 8 = true → (session s p se).req = none → (session s p se).opened = false →
        fld v 15 0 ≠ rdF s (Reg.TP.SESS_IDX p se) 31 16 →
          ∃ r, (session t p se).req = some r ∧ r.nop = true ∧ r.op = 3 ∧ r.cseq = 0 ∧ r.tries = (!portOn s p).toNat) ∧
      ((rdB s (Reg.TP.SESS_CFG p se) 8 = false ∨ (session s p se).opened = true) → t.ports = s.ports)) ∧
  (∀ (s : State) (p se : Nat) (err : Bool) (hd : List Byte), Lit s → p < 256 → se < 64 →
    (sessReady s p se = true → (session s p se).opened = true → err = true →
      hostBase ≤ sessDesc s p se (rdF s (Reg.TP.SESS_IDX p se) 31 16) →
      exec (.sessionDescReadDone p se hd err) s = .next (raiseE (bump s Reg.GBL.HOST_CPL_ERR) Page.GBL 2)) ∧
    (sessReady s p se = true → (session s p se).opened = true → err = false →
      ∃ t r, exec (.sessionDescReadDone p se hd err) s = .next t ∧
      (session t p se).req = some r ∧ r.cseq = ((session s p se).cseq + 1) % 65536 ∧ (session t p se).cseq = r.cseq ∧
      r.nop = false ∧ r.fail = false ∧ OtherPorts p s t ∧ SameMemory s t) ∧
    ((sessReady s p se = false ∨ (session s p se).opened = false) → exec (.sessionDescReadDone p se hd err) s = .next s)) ∧
  (∀ (s : State) (p se : Nat) (r : CReq) (at_ : Nat), Lit s → (session s p se).req = some r → r.sent = some at_ →
    r.acked = none → r.fail = false → (session s p se).ready = none →
    (overUs s at_ (rdF s Reg.TLG.SESSION 15 0) = false → exec (.sessionAckTimeout p se) s = .next s) ∧
    (overUs s at_ (rdF s Reg.TLG.SESSION 15 0) = true → ∃ t, exec (.sessionAckTimeout p se) s = .next t ∧
      OtherPorts p s t ∧
      (r.tries ≤ rdF s Reg.TLG.SESSION 19 16 → portOn s p = true → (session t p se).req = some r ∧
        (session t p se).ready = some s.time.uptime ∧ t.regs = s.regs) ∧
      (r.tries ≤ rdF s Reg.TLG.SESSION 19 16 → portOn s p = false → (session t p se).ready = none ∧
        (session t p se).req = some { r with tries := r.tries + 1, sent := some s.time.uptime }) ∧
      (rdF s Reg.TLG.SESSION 19 16 < r.tries → p < 256 → se < 64 → stopped t p se = true ∧
        rd t Reg.TLG.SESS_FAIL = plusOne (rd s Reg.TLG.SESS_FAIL) ∧
        RegsExcept [Reg.TP.SESS_CFG p se, Reg.TLG.SESS_FAIL, Reg.TLG.LAST_SESS_FAIL] s t))) ∧
  ∀ (s : State) (p se : Nat) (r : CReq), Lit s → (session s p se).req = some r → r.nop = false →
    ((r.acked.isSome = true ∨ r.fail = true) → ∃ t, exec (.sessionComplete p se) s = .next t ∧ (session t p se).req = none ∧
      rdF t (Reg.TP.SESS_IDX p se) 31 16 = (rdF s (Reg.TP.SESS_IDX p se) 31 16 + 1) % 65536 ∧
      RegsExcept [Reg.TP.SESS_IDX p se] s t ∧ OtherPorts p s t ∧
      ∀ d, d = sessDesc s p se (rdF s (Reg.TP.SESS_IDX p se) 31 16) →
        (d + 0x20 ≤ memBytes → memRead t (d + 0x1C) 4 = leBytes 4 r.cseq) ∧
        MemoryExcept ((if r.op = 1 ∧ r.fail = false then [(r.data, r.dlen)] else []) ++ [(d + 0x18, 8)]) s t) ∧
    (r.acked = none → r.fail = false → exec (.sessionComplete p se) s = .next s)) ∧
  ((∀ (s : State) (a : Agent) (p : Nat) (v : Word), Awake s → Accepts s a (Reg.TP.MQ_IDX p) .cfg →
    exec (.mqDoorbell a p v) s = .next (touchSession s a (pageOf (Reg.TP.MQ_IDX p))
      (wr s (Reg.TP.MQ_IDX p) (setFld (rd s (Reg.TP.MQ_IDX p)) 15 0 v.toNat)))) ∧
  (∀ (s : State) (p : Nat) (err : Bool) (hd : List Byte), Lit s → p < 256 →
    ((rdB s (Reg.TP.MQ_CFG p) 0 = false ∨ (port s p).mq.isSome = true ∨ (port s p).mqBusy = true ∨
      rdF s (Reg.TP.MQ_IDX p) 15 0 = rdF s (Reg.TP.MQ_IDX p) 31 16) → exec (.mqDescReadDone p hd err) s = .next s) ∧
    (rdB s (Reg.TP.MQ_CFG p) 0 = true → (port s p).mq = none → (port s p).mqBusy = false →
      rdF s (Reg.TP.MQ_IDX p) 15 0 ≠ rdF s (Reg.TP.MQ_IDX p) 31 16 →
      (err = true → hostBase ≤ mqDesc s p (rdF s (Reg.TP.MQ_IDX p) 31 16) →
        exec (.mqDescReadDone p hd err) s = .next (raiseE (bump s Reg.GBL.HOST_CPL_ERR) Page.GBL 2)) ∧
      ∀ len type, len = nfld (leAt (devRead s (mqDesc s p (rdF s (Reg.TP.MQ_IDX p) 31 16)) 16 hd) 8 4) 13 0 →
        type = (byteAt (devRead s (leAt (devRead s (mqDesc s p (rdF s (Reg.TP.MQ_IDX p) 31 16)) 16 hd) 0 8) len
          (if mqDesc s p (rdF s (Reg.TP.MQ_IDX p) 31 16) < memBytes then hd else hd.drop 16)) 0).toNat % 16 →
        s.poison = [] → err = false →
        ((len < 16 ∨ 9198 < len ∨ type ≠ 7) → ∃ t, exec (.mqDescReadDone p hd err) s = .next t ∧ (port t p).mq = none ∧
          rd t (Reg.TP.MQ_DROPPED p) = plusOne (rd s (Reg.TP.MQ_DROPPED p)) ∧
          rdF t (Reg.TP.MQ_IDX p) 31 16 = (rdF s (Reg.TP.MQ_IDX p) 31 16 + 1) % 65536 ∧ OtherPorts p s t ∧
          RegsExcept [Reg.TP.MQ_DROPPED p, Reg.TP.MQ_IDX p] s t ∧
          MemoryExcept [(mqDesc s p (rdF s (Reg.TP.MQ_IDX p) 31 16) + 0x0C, 4)] s t) ∧
        (16 ≤ len → len ≤ 9198 → type = 7 → portOn s p = false → exec (.mqDescReadDone p hd err) s =
          .next (wrF s (Reg.TP.MQ_IDX p) 31 16 (rdF s (Reg.TP.MQ_IDX p) 31 16 + 1))) ∧
        (16 ≤ len → len ≤ 9198 → type = 7 → portOn s p = true →
          ∃ t f, exec (.mqDescReadDone p hd err) s = .next t ∧ (port t p).mq = some (rdF s (Reg.TP.MQ_IDX p) 31 16, f) ∧
            t.regs = s.regs ∧ OtherPorts p s t ∧ SameMemory s t))) ∧
  (∀ (s : State) (p : Nat), Lit s → p < 256 →
    ((port s p).sampled < multipleOf s (rdF s (Reg.TP.SAMPLE_CTRL p) 9 0) → ∃ t, exec (.queueSample p) s = .next t ∧
      (port t p).sampled = multipleOf s (rdF s (Reg.TP.SAMPLE_CTRL p) 9 0) ∧ OtherPorts p s t ∧
      RegsExcept ((List.range 16).map (Reg.TP.HIST p) ++ (List.range 3).flatMap fun c =>
        [Reg.TP.DEPTH_MIN p c, Reg.TP.DEPTH_MAX p c, Reg.TP.DELAY_MIN p c, Reg.TP.DELAY_MAX p c]) s t ∧
      (∀ c i, c = min 2 (rdF s (Reg.TP.SAMPLE_CTRL p) 11 10) →
        i = min 15 ((if rdB s (Reg.TP.SAMPLE_CTRL p) 12 then (sampleOf s p c).2 else (sampleOf s p c).1) /
          2 ^ rdF s (Reg.TP.SAMPLE_CTRL p) 17 13) →
        rdN t (Reg.TP.HIST p i) = min 0xFFFFFFFF (rdN s (Reg.TP.HIST p i) + ((multipleOf s (rdF s (Reg.TP.SAMPLE_CTRL p) 9 0) -
          nextMultiple (port s p).sampled (rdF s (Reg.TP.SAMPLE_CTRL p) 9 0)) / (rdF s (Reg.TP.SAMPLE_CTRL p) 9 0 * 1000) + 1))) ∧
      ∀ c, c < 3 → rdN t (Reg.TP.DEPTH_MIN p c) = min (rdN s (Reg.TP.DEPTH_MIN p c)) (sampleOf s p c).1 ∧
        ((sampleOf s p c).1 < 2 ^ 32 → rdN t (Reg.TP.DEPTH_MAX p c) = max (rdN s (Reg.TP.DEPTH_MAX p c)) (sampleOf s p c).1)) ∧
    (multipleOf s (rdF s (Reg.TP.SAMPLE_CTRL p) 9 0) ≤ (port s p).sampled → exec (.queueSample p) s = .next s)) ∧
  ∀ (s : State) (a : Agent) (p : Nat) (v : Word), Awake s → p < 256 → Accepts s a (Reg.TP.SAMPLE_CLEAR p) .cmd →
    (bit v 0 = true → ∃ t, exec (.sampleClear a p v) s = .next t ∧ t.ports = s.ports ∧
      RegsExcept ((List.range 16).map (Reg.TP.HIST p) ++ (List.range 3).flatMap fun c =>
        [Reg.TP.DEPTH_MIN p c, Reg.TP.DEPTH_MAX p c, Reg.TP.DELAY_MIN p c, Reg.TP.DELAY_MAX p c]) s t ∧
      (sampledNow s p = false → (∀ i, i < 16 → rd t (Reg.TP.HIST p i) = 0) ∧
        ∀ c, c < 3 → rd t (Reg.TP.DEPTH_MIN p c) = 0xFFFFFFFF ∧ rd t (Reg.TP.DEPTH_MAX p c) = 0 ∧
          rd t (Reg.TP.DELAY_MIN p c) = 0xFFFFFFFF ∧ rd t (Reg.TP.DELAY_MAX p c) = 0) ∧
      (sampledNow s p = true → ∀ c, c < 3 → rdN t (Reg.TP.DEPTH_MIN p c) = min 0xFFFFFFFF (sampleOf s p c).1 ∧
        rdN t (Reg.TP.DELAY_MIN p c) = (sampleOf s p c).2 ∧ rdN t (Reg.TP.DELAY_MAX p c) = (sampleOf s p c).2)) ∧
    (bit v 0 = false → exec (.sampleClear a p v) s = .next (touchSession s a (pageOf (Reg.TP.SAMPLE_CLEAR p)) s)))

/-- TIME_COUNTER_TICK adds the increment to the counter and changes no register. INC_OFS_WRITE, accepted, sets the increment to
2 ns and the clamped offset, or, frozen, counts in INC_HELD. CAPTURE_GO and, once the armed line has pulsed, CAPTURE_EVENT latch
the counter into the CAP registers with VALID and their source; CAPTURE_ARM stores CAP_CTRL and clears VALID; a capture event
disarms. PPS_END takes the pin low when WIDTH is over and not before. A CAPTURE_EVENT with no pulse seen and an early PPS_END
change nothing (the model's choice, log entry 1). STEP_OFFSET adds the registers' signed offset to the counter and STEP_ABSOLUTE
sets it and TIME_VALID, STEP_COUNT counts, and what was reached before (seconds of the pulse output, multiples of the twin's and
the time frames' periods) stays reached; a jump above JUMP_MAX with TIME_VALID leaves the counter
as it was, counts in STEP_REFUSED and enters holdover with cause 2. -/
def Obligations.CounterCapturesAndSteps : Prop :=
  (∀ s : State, Awake s → ∃ t, exec .timeCounterTick s = .next t ∧ t.time.count = (s.time.count + increment s) % counterModulus ∧
    t.time.uptime = s.time.uptime + 1 ∧ t = { s with time := t.time }) ∧
  (∀ (s : State) (a : Agent) (v : Word), Awake s → Accepts s a Reg.TIM.INC_OFS .cmd → ∃ t, exec (.incOfsWrite a v) s = .next t ∧
    t.time = s.time ∧
    (incFrozen s = false → (increment t : Int) = 2 ^ 33 + clampI (-8589935) 8589935 (toSigned 32 v.toNat) ∧
      RegsExcept [Reg.TIM.INC_NS, Reg.TIM.INC_FRAC] s t) ∧
    (incFrozen s = true → increment t = increment s ∧ rd t Reg.TIM.INC_HELD = plusOne (rd s Reg.TIM.INC_HELD) ∧
      RegsExcept [Reg.TIM.INC_HELD] s t)) ∧
  (∀ (s : State) (a : Agent) (v : Word), Awake s →
    (Accepts s a Reg.TIM.CAP .cmd → bit v 0 = true → ∃ t, exec (.captureGo a v) s = .next t ∧ rd t Reg.TIM.CAP_STATUS = 1 ∧
      rd64 t Reg.TIM.CAP_SEC_LO Reg.TIM.CAP_SEC_HI = nowNs s / 1000000000 % 2 ^ 48 ∧
      rdN t Reg.TIM.CAP_NS = nowNs s % 1000000000 ∧ rdN t Reg.TIM.CAP_FRAC = s.time.count % 2 ^ 32 ∧
      RegsExcept [Reg.TIM.CAP_STATUS, Reg.TIM.CAP_SEC_LO, Reg.TIM.CAP_SEC_HI, Reg.TIM.CAP_NS, Reg.TIM.CAP_FRAC, Reg.EVF.MERGED,
        Reg.EVF.LAST_MERGED] s t) ∧
    (Accepts s a Reg.TIM.CAP_CTRL .cfg → bit v 9 = true → ∃ t, exec (.captureArm a v) s = .next t ∧
      rd t Reg.TIM.CAP_CTRL = v &&& 0x3FF ∧ rdB t Reg.TIM.CAP_STATUS 0 = false ∧ t.time.capSeen = false ∧
      RegsExcept [Reg.TIM.CAP_CTRL, Reg.TIM.CAP_STATUS] s t)) ∧
  (∀ s : State, Awake s →
    (s.time.capSeen = true → rdB s Reg.TIM.CAP_CTRL 9 = true → ∃ t, exec .captureEvent s = .next t ∧
      rd t Reg.TIM.CAP_STATUS = 3 ∧ rdB t Reg.TIM.CAP_CTRL 9 = false ∧ rdN t Reg.TIM.CAP_NS = nowNs s % 1000000000 ∧
      RegsExcept [Reg.TIM.CAP_CTRL, Reg.TIM.CAP_STATUS, Reg.TIM.CAP_SEC_LO, Reg.TIM.CAP_SEC_HI, Reg.TIM.CAP_NS, Reg.TIM.CAP_FRAC,
        Reg.EVF.MERGED, Reg.EVF.LAST_MERGED] s t) ∧
    (s.time.capSeen = false → exec .captureEvent s = .next s) ∧
    (s.time.pps = true → elapsedUs s s.time.ppsAt (rdF s Reg.TIM.PPS_CTRL 15 0) = true → ∃ t, exec .ppsEnd s = .next t ∧
      t = { s with time := { s.time with pps := false } }) ∧
    (elapsedUs s s.time.ppsAt (rdF s Reg.TIM.PPS_CTRL 15 0) = false → exec .ppsEnd s = .next s)) ∧
  ∀ (s : State) (a : Agent) (v : Word) (c : Int), Awake s → Accepts s a Reg.TIM.STEP .cmd → bit v 0 = true →
    (bit v 1 = false →
      c = s.time.count + (toSigned 48 (stepSec s) * 1000000000 + toSigned 32 (rdN s Reg.TIM.STEP_NS)) * 2 ^ 32) →
    (bit v 1 = true → c = ((stepSec s * 1000000000 + rdN s Reg.TIM.STEP_NS) * 2 ^ 32 : Nat)) →
    ∃ t, exec (if bit v 1 then .stepAbsolute a v else .stepOffset a v) s = .next t ∧ t.time.uptime = s.time.uptime ∧
      ((rdB s Reg.TIM.TIM_STATUS 0 = false ∨ (c - s.time.count).natAbs ≤ rdN s Reg.TIM.JUMP_MAX * 1000 * 2 ^ 32) →
        t.time = { s.time with count := (c % counterModulus).toNat, steps := s.time.steps + 1 } ∧ rd t Reg.TIM.STEP_COUNT = plusOne (rd s Reg.TIM.STEP_COUNT) ∧
        rdB t Reg.TIM.TIM_STATUS 0 = (rdB s Reg.TIM.TIM_STATUS 0 || bit v 1) ∧
        RegsExcept [Reg.TIM.STEP_COUNT, Reg.TIM.TIM_STATUS] s t) ∧
      (rdB s Reg.TIM.TIM_STATUS 0 = true → rdN s Reg.TIM.JUMP_MAX * 1000 * 2 ^ 32 < (c - s.time.count).natAbs →
        t.time = s.time ∧ rd t Reg.TIM.STEP_REFUSED = plusOne (rd s Reg.TIM.STEP_REFUSED) ∧ rd t Reg.TIM.SYNC_STATE = 10 ∧
        t.ports = s.ports ∧ t.grid = s.grid ∧
        RegsExcept [Reg.TIM.STEP_REFUSED, Reg.TIM.LAST_REFUSED_LO, Reg.TIM.LAST_REFUSED_HI, Reg.TIM.SYNC_STATE] s t)

/-- SV_LINK_CHANGE shows link and block lock. SV_FRAME_RX with the link down changes nothing; a frame with an FCS error counts in
RX_FRAMES and RX_FCS_ERR and nothing else. PTP_MESSAGE by a port that does not hear PTP changes nothing (log entry 1), and
outside the filter counts in PTP_DROP and nothing else; an accepted Sync counts in SYNC_RX and winds the watch up; another message leaves it. SYNC_TIMEOUT, the watch run out, enters holdover with cause
1 and counts; before that it changes nothing (the model's choice, log entry 1). HOLDOVER_END ends holdover where the TIM page's
safe action is not in force, keeps it where a cause of the safe action stands, and under the page's CFG lock still clears
HOLDOVER, LOCKED staying; LOCKED_WRITE sets LOCKED only outside holdover. -/
def Obligations.ServicePortsAndHoldover : Prop :=
  (∀ (s : State) (i : Nat) (up lock : Bool), Awake s → i < 2 → ∃ t, exec (.svLinkChange i up lock) s = .next t ∧
    rd t (Reg.SV.PORT_STATUS i) = w32 (up.toNat + 2 * lock.toNat) ∧ RegsExcept [Reg.SV.PORT_STATUS i] s t ∧
    t = { s with regs := t.regs, par := t.par, icu := t.icu }) ∧
  (∀ (s : State) (i : Nat) (f : NetFrame), Awake s → i < 2 →
    (svLink s i = false → exec (.svFrameRx i f) s = .next s) ∧
    (svLink s i = true → f.fcsError = true →
      exec (.svFrameRx i f) s = .next (bump (bump s (Reg.SV.RX_FRAMES i)) (Reg.SV.RX_FCS_ERR i))) ∧
    (svLink s i = true → f.fcsError = false → safe s (Page.SV i) = false →
      (rdB s (Reg.SV.PORT_CTRL i) 1 = true → isPtp f = true →
        exec (.svFrameRx i f) s = .next (bump (bump s (Reg.SV.RX_FRAMES i)) (Reg.SV.PTP_RX i))) ∧
      (isPtp f = false → isPlacement s f = false → rdB s (Reg.SV.PORT_CTRL i) 3 = false →
        exec (.svFrameRx i f) s = .next (bump (bump s (Reg.SV.RX_FRAMES i)) (Reg.SV.FWD_DROP i))))) ∧
  (∀ (s : State) (via : Via) (m : Ptp) (raw : List Byte), Awake s →
    (ptpPort s via = false → exec (.ptpMessage via m raw) s = .next s) ∧
    (ptpPort s via = true → ptpPasses s m = false → exec (.ptpMessage via m raw) s = .next (bump s Reg.TIM.PTP_DROP)) ∧
    (ptpPort s via = true → ptpPasses s m = true → ∃ t, exec (.ptpMessage via m raw) s = .next t ∧ SameMemory s t ∧
      RegsExcept [Reg.TIM.SYNC_RX, Reg.MGT.RXQ_IDX, Reg.MGT.RX_DROP] s t ∧
      (syncAccepted s via m = true → t.time = { s.time with watch := some s.time.uptime } ∧
        rd t Reg.TIM.SYNC_RX = plusOne (rd s Reg.TIM.SYNC_RX)) ∧
      (syncAccepted s via m = false → t.time = s.time ∧ rd t Reg.TIM.SYNC_RX = rd s Reg.TIM.SYNC_RX))) ∧
  (∀ (s : State), Awake s →
    (s.time.watch = none → exec .syncTimeout s = .next s) ∧
    ∀ w, s.time.watch = some w →
      (overUs s w (rdN s Reg.TIM.SYNC_TMO) = false → exec .syncTimeout s = .next s) ∧
      (overUs s w (rdN s Reg.TIM.SYNC_TMO) = true → ∃ t, exec .syncTimeout s = .next t ∧ rd t Reg.TIM.SYNC_STATE = 6 ∧
        t.time = { s.time with watch := none } ∧ rd t Reg.TIM.SYNC_TIMEOUTS = plusOne (rd s Reg.TIM.SYNC_TIMEOUTS) ∧
        RegsExcept [Reg.TIM.SYNC_STATE, Reg.TIM.SYNC_TIMEOUTS] s t)) ∧
  (∀ (s : State) (a : Agent) (v : Word), Awake s → Accepts s a Reg.TIM.SYNC_STATE .open → locked s Page.TIM .cfg = true →
    bit v 1 = true → safe s Page.TIM = false → ∃ t, exec (.holdoverEnd a v) s = .next t ∧ rdB t Reg.TIM.SYNC_STATE 1 = false ∧
      rdB t Reg.TIM.SYNC_STATE 0 = rdB s Reg.TIM.SYNC_STATE 0 ∧ RegsExcept [Reg.TIM.SYNC_STATE] s t) ∧
  ∀ (s : State) (a : Agent) (v : Word), Awake s → Accepts s a Reg.TIM.SYNC_STATE .cfg →
    (bit v 1 = true → ∃ t, exec (.holdoverEnd a v) s = .next t ∧ RegsExcept [Reg.TIM.SYNC_STATE] s t ∧
      (safe s Page.TIM = false → rd t Reg.TIM.SYNC_STATE = w32 (bit v 0).toNat ∧
        (rdB s Reg.TIM.SYNC_STATE 1 = true → t.time.watch = some s.time.uptime)) ∧
      (safeCause s Page.TIM = true → rdB t Reg.TIM.SYNC_STATE 1 = rdB s Reg.TIM.SYNC_STATE 1)) ∧
    (bit v 1 = false → ∃ t, exec (.lockedWrite a v) s = .next t ∧ RegsExcept [Reg.TIM.SYNC_STATE] s t ∧ t.time = s.time ∧
      rdB t Reg.TIM.SYNC_STATE 1 = rdB s Reg.TIM.SYNC_STATE 1 ∧
      rdB t Reg.TIM.SYNC_STATE 0 = (bit v 0 && !rdB s Reg.TIM.SYNC_STATE 1))

/-- PHASE_ENABLE, accepted, with phases off: with no cause of R297 the next slot is the first slot of the first frame at least 50 ms
ahead, by the offsets in force at that frame, SLOT_MIN shows the shortest slot and TIM_CTRL is stored; with a cause PH_REFUSE shows it, PH_EN reads 0 and no slot is published; with phases on the grid
stays. PHASE_DISABLE publishes no slot and clears PH_RUN. PHASE_START of the published slot at its start makes it the one in
progress, publishes the next, and sets PH_RUN; early, or for another slot, it changes nothing (the model's choice, log entry 1). OFFSET_APPLY_GO with no cause
leaves the NEXT values pending for a frame at least 50 ms ahead; with a cause OFS_REFUSE shows it and nothing is pending that
was not. OFFSET_APPLY_EFFECT at that frame's start puts the values into FRAME_OFS and PH_OFS and ends the change; before that it
changes nothing (log entry 1). -/
def Obligations.PhasesRun : Prop :=
  (∀ (s : State) (a : Agent) (v : Word), Awake s → Accepts s a Reg.TIM.TIM_CTRL .cfg →
    (bit v 0 = true → ∃ t, exec (.phaseEnable a v) s = .next t ∧
      RegsExcept [Reg.TIM.TIM_CTRL, Reg.TIM.TIM_STATUS, Reg.TIM.SLOT_MIN] s t ∧
      (rdB s Reg.TIM.TIM_CTRL 0 = true → rd t Reg.TIM.TIM_CTRL = v &&& 0xF ∧ t.grid = s.grid) ∧
      (∀ c, rdB s Reg.TIM.TIM_CTRL 0 = false → phRefusal s = some c → rd t Reg.TIM.TIM_CTRL = v &&& 0xE ∧
        rdF t Reg.TIM.TIM_STATUS 7 4 = c ∧ t.grid = s.grid) ∧
      (∀ g, rdB s Reg.TIM.TIM_CTRL 0 = false → phRefusal s = none → curGrid s = some g → rd t Reg.TIM.TIM_CTRL = v &&& 0xF ∧
        t.grid.next = some (firstSlotFrame s g (nowNsUp s + ms50), 0) ∧ rd t Reg.TIM.SLOT_MIN = w32 (slotMin s) ∧ t.grid.cur = s.grid.cur ∧ rdF t Reg.TIM.TIM_STATUS 7 4 = 0)) ∧
    (bit v 0 = false → ∃ t, exec (.phaseDisable a v) s = .next t ∧ rd t Reg.TIM.TIM_CTRL = v &&& 0xF ∧ issuing t = false ∧
      rdF t Reg.TIM.TIM_STATUS 2 1 = 0 ∧ RegsExcept [Reg.TIM.TIM_CTRL, Reg.TIM.TIM_STATUS] s t)) ∧
  (∀ (s : State) (k n : Nat), Awake s →
    ((s.grid.next ≠ some (k, n) ∨ reached s (slotStart s k n * 1000) = false) → exec (.phaseStart k n) s = .next s) ∧
    (s.grid.next = some (k, n) → reached s (slotStart s k n * 1000) = true → ∃ t, exec (.phaseStart k n) s = .next t ∧
      t.grid.cur = some (k, n) ∧ t.grid.next = some (nextSlot s k n) ∧ rdB t Reg.TIM.TIM_STATUS 1 = true ∧
      rdB t Reg.TIM.TIM_STATUS 2 = false ∧ t.grid.count = s.grid.count + 1 ∧
      RegsExcept [Reg.TIM.TIM_STATUS, Reg.EVF.MERGED, Reg.EVF.LAST_MERGED] s t)) ∧
  (∀ (s : State) (a : Agent) (v : Word), Awake s → Accepts s a Reg.TIM.OFS_APPLY .cmd → bit v 0 = true →
    ∃ t, exec (.offsetApplyGo a v) s = .next t ∧ RegsExcept [Reg.TIM.OFS_STATUS] s t ∧
      (∀ g, ofsRefusal s = none → curGrid s = some g → rd t Reg.TIM.OFS_STATUS = 1 ∧
        t.grid = { s.grid with pend := some ⟨applyFrame s g, (nextOffsets s).1, (nextOffsets s).2⟩ }) ∧
      (∀ c, ofsRefusal s = some c → rdF t Reg.TIM.OFS_STATUS 7 4 = c ∧ rdB t Reg.TIM.OFS_STATUS 0 = rdB s Reg.TIM.OFS_STATUS 0 ∧
        t.grid = s.grid)) ∧
  ∀ (s : State) (o : OfsPend), Awake s → s.grid.pend = some o → o.ofs.length = 8 →
    (reached s (slotStart s o.frame 0 * 1000) = false → exec .offsetApplyEffect s = .next s) ∧
    (reached s (slotStart s o.frame 0 * 1000) = true → ∃ t, exec .offsetApplyEffect s = .next t ∧
      t.grid = { s.grid with pend := none } ∧ rd t Reg.TIM.FRAME_OFS = o.fofs ∧
      (∀ i, i < 8 → rd t (Reg.TIM.PH_OFS i) = o.ofs.getD i 0) ∧ rdB t Reg.TIM.OFS_STATUS 0 = false ∧
      RegsExcept (Reg.TIM.FRAME_OFS :: Reg.TIM.OFS_STATUS :: Reg.TIM.SLOT_MIN :: (List.range 8).map Reg.TIM.PH_OFS) s t)

/-- For each of the eight record rows and the malformed one, on a link that hears: the record counts on its link. A record with a
wrong VER, TYPE or LEN counts in REC_BAD and does nothing else; one of this device's own ORIGIN counts there and sets ROLE_CLASH;
one whose RSEQ stands in its origin's window does nothing more. Any other enters the window and sets PEER_ALIVE. Late, it counts
in LATE_REC, sets DIVERGE and is not used. On time: HEALTH shows the partner's CRCs, TIME the offset and delay, COMMIT,
CANCEL, FLIP and PLACE wait among the pending operations, DIGEST stands with its commit, FENCE matches or waits. On a link that
does not hear, nothing changes (the model's choice, log entry 1). -/
def Obligations.TwinRecords : Prop :=
  ∀ (s : State) (l : Nat) (r : List Byte) (c : Instr) (ty : Nat), Awake s →
    ((c, ty) ∈ [(Instr.healthRecord l r, 1), (.timeRecord l r, 2), (.commitRecord l r, 3), (.cancelRecord l r, 4),
      (.digestRecord l r, 5), (.flipRecord l r, 6), (.placeRecord l r, 7), (.fenceRecord l r, 8)]) → recType r = ty →
    (linkHears s l = false → exec c s = .next s ∧ exec (.malformedRecord l r) s = .next s) ∧
    (linkHears s l = true → ∀ rx, rx = (if l = 0 then Reg.TWN.REC_RX0 else Reg.TWN.REC_RX1) →
      (recFormed r = true → exec (.malformedRecord l r) s = .next s) ∧
      (recFormed r = false → exec (.malformedRecord l r) s = exec c s ∧ ∃ t, exec c s = .next t ∧
        rd t rx = plusOne (rd s rx) ∧ rd t Reg.TWN.REC_BAD = plusOne (rd s Reg.TWN.REC_BAD) ∧
        t.twn = { s.twn with heardAny := true } ∧ RegsExcept [rx, Reg.TWN.REC_BAD] s t) ∧
      (recFormed r = true → recOrigin r = twnRole s → ∃ t, exec c s = .next t ∧ rd t rx = plusOne (rd s rx) ∧
        rd t Reg.TWN.REC_BAD = plusOne (rd s Reg.TWN.REC_BAD) ∧ twnClash t = true ∧
        RegsExcept [rx, Reg.TWN.REC_BAD, Reg.TWN.TWN_STATUS] s t) ∧
      (recFormed r = true → recOrigin r ≠ twnRole s → (seqWindow s (recOrigin r)).contains (recSeq r) = true →
        ∃ t, exec c s = .next t ∧ rd t rx = plusOne (rd s rx) ∧ t.twn = { s.twn with heardAny := true } ∧
          RegsExcept [rx] s t) ∧
      (recFormed r = true → recOrigin r ≠ twnRole s → (seqWindow s (recOrigin r)).contains (recSeq r) = false →
        ∃ t, exec c s = .next t ∧ rd t rx = plusOne (rd s rx) ∧ rdB t Reg.TWN.TWN_STATUS 5 = true ∧
          seqWindow t (recOrigin r) = (recSeq r :: seqWindow s (recOrigin r)).take 1024 ∧ t.twn.lastRec = s.time.uptime ∧
          RegsExcept [rx, Reg.TWN.TWN_STATUS, Reg.TWN.LATE_REC, Reg.TWN.PEER_ACT_CRC, Reg.TWN.PEER_AWN_CRC,
            Reg.TWN.PEER_CAL_CRC, Reg.TWN.PEER_OFS, Reg.TWN.PEER_DLY] s t ∧
          (∀ d, recDeadline s r = some d → past s d = true → rd t Reg.TWN.LATE_REC = plusOne (rd s Reg.TWN.LATE_REC) ∧
            rdB t Reg.TWN.TWN_STATUS 13 = true ∧ t.twn.ops = s.twn.ops ∧ t.twn.peerF = s.twn.peerF) ∧
          ((∀ d, recDeadline s r = some d → past s d = false) → rd t Reg.TWN.LATE_REC = rd s Reg.TWN.LATE_REC ∧
            (ty = 1 → rdN t Reg.TWN.PEER_ACT_CRC = beAt r 28 4 ∧ rdN t Reg.TWN.PEER_AWN_CRC = beAt r 32 4 ∧
              rdN t Reg.TWN.PEER_CAL_CRC = beAt r 36 4 ∧ rdF t Reg.TWN.TWN_STATUS 8 6 = beAt r 24 1 % 8) ∧
            (ty = 2 → t.twn.echo = some (recInstant r 20, nowNs s) ∧
              rd t Reg.TWN.PEER_OFS = w32i (clampI (-2147483648) 2147483647
                (8 * (((recInstant r 40 : Int) - recInstant r 30) - ((nowNs s : Int) - recInstant r 20)))) ∧
              rd t Reg.TWN.PEER_DLY = w32i (clampI 0 4294967295
                (8 * (((recInstant r 40 : Int) - recInstant r 30) + ((nowNs s : Int) - recInstant r 20))))) ∧
            (∀ op, (ty = 3 ∧ op = .commit (w32 (beAt r 20 4)) (w32 (beAt r 24 1 % 16))) ∨ (ty = 4 ∧ op = .cancel (w32 (beAt r 20 4))) ∨
                (ty = 6 ∧ op = .flip (beAt r 20 8)) ∨ (ty = 7 ∧ op = .place (w32 (beAt r 20 4)) (bytesAt r 24 48)) →
              t.twn.ops = insertBy opBefore ⟨recOrigin r, recSeq r, recE r, op, none, none⟩ s.twn.ops) ∧
            (∀ o rest m x, ty = 5 → s.twn.ops = o :: rest → o.origin = (beAt r 20 1).testBit 0 → o.rseq = beAt r 24 4 →
              o.op = .commit m x → t.twn.ops = { o with peer := some (w32 (beAt r 28 4)) } :: rest) ∧
            (ty = 8 → s.twn.ownF = [] → t.twn.peerF = s.twn.peerF ++ [⟨beAt r 20 1 % 64, (beAt r 21 1).testBit 1,
              w32 (beAt r 24 4), recInstant r 28, recE r, (beAt r 21 1).testBit 0, 0, 0, false⟩]))))

/-- DIGEST_SEND at the first pending commit's E computes this device's digest; with none due it changes nothing (here as below, the
model's choice, log entry 1). DIGEST_COMPARE at
A2 takes the commit out of the pending operations: it enters the commit queue, or, refused, counts in AGREE_REFUSED.
MIRRORED_CANCEL_APPLY and PLACE_APPLY take out exactly the cancels and placements whose E has come, and with none due change
nothing. FENCE_PAIR_READY makes a matched buffer that still holds its frame pair-ready at its instant. HEALTH_SEND at its instant
shows this device's CRCs and sends one record, once a slot; TWIN_TIME_SEND sends one TIME record, framed, for the next multiple of
TIME_PER once it is reached, so that of several that a step passes each has its record. -/
def Obligations.TwinAgreement : Prop :=
  (∀ (s : State) (o : MirPend) (rest : List MirPend) (m x : Word), Lit s → s.twn.ops = o :: rest → o.op = .commit m x →
    (o.own = none → came s o.e = true → ∃ t, exec .digestSend s = .next t ∧
      t.twn.ops = { o with own := some (digestOf s m) } :: rest ∧ t.regs = s.regs ∧ t.lyr = s.lyr ∧
      (twnOn s = true → twnClash s = false → t.twn.rseq = (s.twn.rseq + 1) % 2 ^ 32)) ∧
    (o.own.isSome = true → came s (o.e + mirrorDelay s) = true →
      (agreeRefusal s o = 0 → exec .digestCompare s = .next (enterCommit { s with twn := { s.twn with ops := rest } } m x true
        (o.e + mirrorDelay s + rdF s Reg.TWN.CHECK_ALLOW 12 0 * 1000))) ∧
      (agreeRefusal s o ≠ 0 → ∃ t, exec .digestCompare s = .next t ∧ t.twn.ops = rest ∧ t.lyr = s.lyr ∧
        rd t Reg.TWN.AGREE_REFUSED = plusOne (rd s Reg.TWN.AGREE_REFUSED) ∧
        RegsExcept [Reg.TWN.AGREE_REFUSED, Reg.TWN.AGREE_INFO, Reg.TWN.TWN_STATUS] s t))) ∧
  (∀ s : State, Lit s →
    ((∀ o, o ∈ s.twn.ops → came s o.e = false) → exec .digestSend s = .next s) ∧
    ((∀ o, o ∈ s.twn.ops → came s (o.e + mirrorDelay s) = false) → exec .digestCompare s = .next s) ∧
    (∃ t, exec .mirroredCancelApply s = .next t ∧ t.twn.ops = s.twn.ops.filter (fun o => !cancelDue (nowPs s) o) ∧
      t.regs = s.regs ∧ ∀ m o rest, s.twn.ops.filter (cancelDue (nowPs s)) = o :: rest → o.op = .cancel m →
        ∀ r, r ∈ t.lyr.queue → r.mask &&& m = 0) ∧
    (∃ t, exec .placeApply s = .next t ∧ t.twn.ops = s.twn.ops.filter (fun o => !placeDue (nowPs s) o) ∧
      (s.twn.ops.filter (placeDue (nowPs s)) = [] → t.awn = s.awn ∧ t.regs = s.regs)) ∧
    (∀ e rest, s.twn.ready = e :: rest → came s e.2.2.2 = true → ∃ t, exec .fencePairReady s = .next t ∧ t.twn.ready = rest ∧
      t.regs = s.regs ∧ OtherStreams e.1 s t ∧ (((stream s e.1).buf e.2.1).mode = .fenced →
        ((stream s e.1).buf e.2.1).seq = e.2.2.1 → ((stream t e.1).buf e.2.1).pairAt = some e.2.2.2)) ∧
    ((∀ e, e ∈ s.twn.ready → came s e.2.2.2 = false) → exec .fencePairReady s = .next s)) ∧
  (∀ (s : State) (k n : Nat) (c : PhaseCtx), Lit s → findCtx s k n = some c →
    ((twnOn s = false ∨ (s.twn.ownH.any fun h => h.pseq == pseq k n) = true ∨ reached s (healthAt s c) = false) →
      exec (.healthSend k n) s = .next s) ∧
    (twnOn s = true → (s.twn.ownH.any fun h => h.pseq == pseq k n) = false → reached s (healthAt s c) = true →
      ∃ t h, exec (.healthSend k n) s = .next t ∧ rd t Reg.TWN.OWN_ACT_CRC = actCrc s ∧ rd t Reg.TWN.OWN_CAL_CRC = calCrc s ∧
        t.twn.ownH = (h :: s.twn.ownH).take 32 ∧ h.pseq = pseq c.k c.n ∧ h.act = actCrc s ∧
        t.twn.rseq = (s.twn.rseq + 1) % 2 ^ 32)) ∧
  ∀ (s : State) (m : Nat), Lit s → m = nextMultiple s.time.twn (rdF s Reg.TWN.TIME_PER 13 0) →
    ((twnOn s = false ∨ nowNs s < m) → exec .twinTimeSend s = .next s) ∧
    (twnOn s = true → m ≤ nowNs s → ∃ t, exec .twinTimeSend s = .next t ∧ t.time = { s.time with twn := m } ∧
      t.twn.rseq = (s.twn.rseq + 1) % 2 ^ 32 ∧ t.regs = s.regs ∧
      (s.twn.echo = none → t.twn.sent = twinFrame s (recordBytes s 2 s.twn.rseq m (recTime (nowNs s) ++ List.replicate 22 0))))

/-- TWIN_ENABLE, accepted, of a device that is off stores TWN_CTRL and enters SEARCH; TWIN_DISABLE of one that is on enters OFF
and clears ROLE_CLASH and PEER_ALIVE, abandoning the mirrored operations whose E has not passed. TWIN_LINK_CHANGE takes block lock where links are driven. PEER_LOSS, the partner alive and
both links down or PEER_TMO gone, clears PEER_ALIVE, counts, and takes JOINING and PAIRED to SOLO; with a link up and PEER_TMO
not gone it changes nothing. SEARCH_TIMEOUT goes from SEARCH to SOLO where the search heard nothing. JOIN at the join instant
enters PAIRED and counts; before it nothing changes. PHASE_YIELD of a paired and impaired device at WC(n) yields the phase to an
unimpaired partner and counts, once a phase; an unimpaired device yields nothing. That commands come to nothing outside their
conditions is the model's choice (log entry 1). -/
def Obligations.TwinStates : Prop :=
  (∀ (s : State) (a : Agent) (v : Word), Awake s → Accepts s a Reg.TWN.TWN_CTRL .cfg →
    (bit v 0 = true → ∃ t, exec (.twinEnable a v) s = .next t ∧ rd t Reg.TWN.TWN_CTRL = v &&& 3 ∧
      RegsExcept [Reg.TWN.TWN_CTRL, Reg.TWN.TWN_STATUS] s t ∧
      (twnOn s = false → twnState t = 1 ∧ t.twn.searchAt = s.time.uptime ∧ t.twn.joinAt = none ∧ t.twn.ops = s.twn.ops) ∧
      (twnOn s = true → twnState t = twnState s ∧ t.twn = s.twn)) ∧
    (bit v 0 = false → ∃ t, exec (.twinDisable a v) s = .next t ∧ rd t Reg.TWN.TWN_CTRL = v &&& 3 ∧
      RegsExcept [Reg.TWN.TWN_CTRL, Reg.TWN.TWN_STATUS] s t ∧
      (twnOn s = true → t.twn.ops = s.twn.ops.filter (fun o => came s o.e) ∧ twnState t = 0 ∧ twnClash t = false ∧ rdB t Reg.TWN.TWN_STATUS 5 = false))) ∧
  (∀ (s : State) (up : Bool), Awake s → ∃ t u, exec (.twinLinkChange 0 up) s = .next t ∧ exec (.twinLinkChange 1 up) s = .next u ∧
    t = { s with twn := { s.twn with link0 := up && serdesOn s } } ∧ u = { s with twn := { s.twn with link1 := up && serdesOn s } }) ∧
  (∀ s : State, Awake s →
    (((s.twn.link0 = true ∨ s.twn.link1 = true) ∧ elapsedUs s s.twn.lastRec (peerTmo s) = false ∨ twnOn s = false ∨
      rdB s Reg.TWN.TWN_STATUS 5 = false) → exec .peerLoss s = .next s) ∧
    (twnOn s = true → rdB s Reg.TWN.TWN_STATUS 5 = true →
      (s.twn.link0 = false ∧ s.twn.link1 = false ∨ elapsedUs s s.twn.lastRec (peerTmo s) = true) →
      ∃ t, exec .peerLoss s = .next t ∧ rdB t Reg.TWN.TWN_STATUS 5 = false ∧
        rd t Reg.TWN.PEER_LOST = plusOne (rd s Reg.TWN.PEER_LOST) ∧ t.twn.joinAt = (if twnState s = 2 ∨ twnState s = 3 ∨ twnState s = 4 then none else s.twn.joinAt) ∧
        twnState t = (if twnState s = 2 ∨ twnState s = 3 then 4 else twnState s) ∧
        RegsExcept [Reg.TWN.TWN_STATUS, Reg.TWN.PEER_LOST] s t) ∧
    (twnState s = 1 → elapsedUs s s.twn.searchAt (peerTmo s) = true → s.twn.heardAny = false → s.twn.heardRun = false →
      ∃ t, exec .searchTimeout s = .next t ∧ twnState t = 4 ∧ RegsExcept [Reg.TWN.TWN_STATUS] s t) ∧
    ((twnState s ≠ 1 ∨ elapsedUs s s.twn.searchAt (peerTmo s) = false) → exec .searchTimeout s = .next s) ∧
    (∀ j, serdesOn s = true → s.twn.joinAt = some j →
      (came s j = false → exec .join s = .next s) ∧
      (came s j = true → (twnState s = 2 ∨ twnState s = 4) → ∃ t, exec .join s = .next t ∧ twnState t = 3 ∧
        t.twn.joinAt = none ∧ t.twn.pairFrom = some j ∧ rd t Reg.TWN.JOINS = plusOne (rd s Reg.TWN.JOINS) ∧
        RegsExcept [Reg.TWN.TWN_STATUS, Reg.TWN.JOINS] s t))) ∧
  ∀ (s : State) (k n : Nat) (c : PhaseCtx), Lit s → findCtx s k n = some c →
    ((twnState s ≠ 3 ∨ reached s c.close = false ∨ s.twn.yielded.contains (k, n) = true ∨ impCauses s k n = 0) →
      exec (.phaseYield k n) s = .next s) ∧
    (twnOn s = true → twnState s = 3 → reached s c.close = true → s.twn.yielded.contains (k, n) = false → impCauses s k n ≠ 0 →
      (s.twn.peerImp.find? fun e => e.1 == pseq k n) = some (pseq k n, true) → ∃ t, exec (.phaseYield k n) s = .next t ∧
        t.twn.yielded.contains (k, n) = true ∧ rd t Reg.TWN.YIELD_PHASES = plusOne (rd s Reg.TWN.YIELD_PHASES) ∧
        RegsExcept [Reg.TWN.YIELD_PHASES] s t)

/-- GO of the operation BLT_CTRL names, accepted, outside the safe action: with an operation running it sets ERR.BUSY_GO and
counts in GO_IGNORED; where a cause of R329 holds STATUS shows the first and nothing starts; otherwise the captured operation
runs, BUSY reads 1, and only bytes of its destination rows change. GO of another operation's row changes nothing. BLT_DONE with
no word of memory in error ends it, DONE reads 1 and OPS_DONE counts; where the rows do not overlap and no DMA stream crosses
them, after a FILL every row holds the pattern, and after a COPY from rows apart from the destination's every row holds its source
row's bytes. The last row to be written of COPY_BLEND holds, pixel by pixel, the source over the destination as it stood, by R332's
sums; that of COPY_CONVERT to a format that is not 4:2:2 holds each source pixel's channels packed in the destination's format, in
the format's order, and to a 4:2:2 format each pixel's luma and each pair's chroma. BLT_ABORT, and BLT_MEM_ERROR, end it with
their bit of ERR, and only bytes of its destination rows change; with no operation running they change nothing (as a command
outside its precondition: the model's choice, log entry 1). -/
def Obligations.BlitterOperations : Prop :=
  (∀ (s : State) (a : Agent) (v : Word) (rows op : Nat) (c : Instr), Awake s →
    ((c, op) ∈ [(Instr.bltCopy a v rows, 0), (.bltFill a v rows, 1), (.bltCopyBlend a v rows, 2), (.bltCopyConvert a v rows, 3)]) →
    (rdF s Reg.BLT.BLT_CTRL 1 0 ≠ op → exec c s = .next s) ∧
    (rdF s Reg.BLT.BLT_CTRL 1 0 = op → Accepts s a Reg.BLT.GO .cmd → bit v 0 = true → bit v 1 = false → safe s Page.BLT = false →
      (∀ o, s.blt = some o → ∃ t, exec c s = .next t ∧ t.blt = some o ∧ rdB t Reg.BLT.ERR 0 = true ∧
        rd t Reg.BLT.GO_IGNORED = plusOne (rd s Reg.BLT.GO_IGNORED) ∧ RegsExcept [Reg.BLT.ERR, Reg.BLT.GO_IGNORED] s t ∧
        SameMemory s t) ∧
      (s.blt = none → (captureBlt s).refusal ≠ 0 → ∃ t, exec c s = .next t ∧ t.blt = none ∧ rdB t Reg.BLT.ERR 1 = true ∧
        rdF t Reg.BLT.STATUS 7 4 = (captureBlt s).refusal ∧ RegsExcept [Reg.BLT.ERR, Reg.BLT.STATUS] s t ∧ SameMemory s t) ∧
      (s.blt = none → (captureBlt s).refusal = 0 → ∃ t o, exec c s = .next t ∧ t.blt = some o ∧ { o with rows := 0 } = captureBlt s ∧
        o.rows ≤ rows ∧ rdB t Reg.BLT.STATUS 0 = true ∧
        RegsExcept [Reg.BLT.STATUS, Reg.BLT.BYTES_LO, Reg.BLT.BYTES_HI] s t ∧
        MemoryExcept ((List.range o.h).map fun r => (o.dst.rowAt r, rowBytes o.dst.fmt o.w)) s t))) ∧
  (∀ s : State, Lit s →
    (s.blt = none → exec .bltDone s = .next s ∧ ∀ w r b x, exec (.bltMemError w r b x) s = .next s) ∧
    ∀ o, s.blt = some o →
      (s.poison = [] → ∃ t, exec .bltDone s = .next t ∧ t.blt = none ∧ rdB t Reg.BLT.STATUS 0 = false ∧
        rdB t Reg.BLT.STATUS 1 = true ∧ rd t Reg.BLT.OPS_DONE = plusOne (rd s Reg.BLT.OPS_DONE) ∧
        RegsExcept [Reg.BLT.STATUS, Reg.BLT.BYTES_LO, Reg.BLT.BYTES_HI, Reg.BLT.OPS_DONE, Reg.EVF.MERGED, Reg.EVF.LAST_MERGED] s t ∧
        MemoryExcept ((List.range o.h).map fun r => (o.dst.rowAt r, rowBytes o.dst.fmt o.w)) s t ∧
        (o.op = 1 → o.up = false → o.rows = 0 →
          (∀ r i, r < o.h → i < rowBytes o.dst.fmt o.w → crossed s o (o.dst.rowAt r + i) = false) → rowBytes o.dst.fmt o.w = o.w / unitPx o.dst.fmt * o.fill.length →
          rowBytes o.dst.fmt o.w ≤ o.dst.stride → (∀ r, r < o.h → o.dst.rowAt r + rowBytes o.dst.fmt o.w ≤ memBytes) →
          ∀ r, r < o.h → memRead t (o.dst.rowAt r) (rowBytes o.dst.fmt o.w) =
            (List.replicate (o.w / unitPx o.dst.fmt) o.fill).flatten) ∧
        (o.op = 0 → o.src.fmt = o.dst.fmt → o.rows = 0 → rowBytes o.dst.fmt o.w ≤ o.dst.stride →
          (∀ r i, r < o.h → i < rowBytes o.dst.fmt o.w → crossed s o (o.dst.rowAt r + i) = false) →
          (∀ r, r < o.h → o.dst.rowAt r + rowBytes o.dst.fmt o.w ≤ memBytes) →
          (∀ r q, r < o.h → q < o.h → o.src.rowAt r + rowBytes o.dst.fmt o.w ≤ o.dst.rowAt q ∨
            o.dst.rowAt q + rowBytes o.dst.fmt o.w ≤ o.src.rowAt r) →
          ∀ r, r < o.h → memRead t (o.dst.rowAt r) (rowBytes o.dst.fmt o.w) = memRead s (o.src.rowAt r) (rowBytes o.dst.fmt o.w)) ∧
        ∀ r u f, o.rows + 1 = o.h → r = o.rowOf o.rows → f = o.dst.fmt → u < o.w / unitPx f →
          rowBytes f o.w = o.w / unitPx f * unitBytes f → o.dst.rowAt r + rowBytes f o.w ≤ memBytes →
          (∀ i, i < rowBytes f o.w → crossed s o (o.dst.rowAt r + i) = false) →
          (∀ sv dv : Nat → Int, o.op = 2 →
            (∀ c, sv c = bltChan s o.src ((o.src.x + unitPx f * u : Nat) : Int) ((o.src.y + r : Nat) : Int) c) →
            (∀ c, dv c = bltChan s o.dst ((o.dst.x + unitPx f * u : Nat) : Int) ((o.dst.y + r : Nat) : Int) c) →
            memRead t (o.dst.rowAt r + unitBytes f * u) (unitBytes f) = unitOf f ((List.range 4).map fun c =>
              packChan f c (clampI (-1048576) 1048575 (if c = 3 then
                  clampI 0 0x10000 (sv 3) + r16 (clampI 0 0x10000 (dv 3) * (0x10000 - clampI 0 0x10000 (sv 3)))
                else if o.premul then sv c + r16 (dv c * (0x10000 - clampI 0 0x10000 (sv 3)))
                else r16 (sv c * clampI 0 0x10000 (sv 3) + dv c * (0x10000 - clampI 0 0x10000 (sv 3))))))) ∧
          (∀ sv : Nat → Nat → Int, o.op = 3 →
            (∀ j c, sv j c = bltChan s o.src ((o.src.x + unitPx f * u + j : Nat) : Int) ((o.src.y + r : Nat) : Int) c) →
            (fmt422 f = false → memRead t (o.dst.rowAt r + unitBytes f * u) (unitBytes f) =
              unitOf f ((if f = 5 then [1, 0, 2] else [0, 1, 2, 3]).map fun c => packChan f c (sv 0 c))) ∧
            (fmt422 f = true → memRead t (o.dst.rowAt r + unitBytes f * u) (unitBytes f) =
              unitOf f ((List.range (unitPx f / 2)).flatMap fun q =>
                let ch (c : Nat) : Nat := packChan f c (pairChroma s o.src ((o.src.x + unitPx f * u + 2 * q : Nat) : Int)
                  ((o.src.y + r : Nat) : Int) c)
                [ch 1, packChan f 0 (sv (2 * q) 0), ch 2, packChan f 0 (sv (2 * q + 1) 0)])))) ∧
      (∀ write rows bytes addr, ∃ t, exec (.bltMemError write rows bytes addr) s = .next t ∧ t.blt = none ∧
        rdB t Reg.BLT.STATUS 0 = false ∧ rdB t Reg.BLT.ERR (if write then 3 else 2) = true ∧
        MemoryExcept ((List.range o.h).map fun r => (o.dst.rowAt r, rowBytes o.dst.fmt o.w)) s t)) ∧
  ∀ (s : State) (a : Agent) (v : Word) (rows bytes : Nat), Awake s → Accepts s a Reg.BLT.GO .cmd → bit v 0 = false → bit v 1 = true →
    (s.blt = none → exec (.bltAbort a v rows bytes) s = .next (touchSession s a (pageOf Reg.BLT.GO) s)) ∧
    ∀ o, s.blt = some o → ∃ t, exec (.bltAbort a v rows bytes) s = .next t ∧ t.blt = none ∧ rdB t Reg.BLT.STATUS 0 = false ∧
      rdB t Reg.BLT.ERR 4 = true ∧ RegsExcept [Reg.BLT.STATUS, Reg.BLT.BYTES_LO, Reg.BLT.BYTES_HI, Reg.BLT.ERR] s t ∧
      MemoryExcept ((List.range o.h).map fun r => (o.dst.rowAt r, rowBytes o.dst.fmt o.w)) s t

/-- DMA_GO, accepted, and a seen DMA_TRIGGER start a channel that may start: STATUS reads RUNNING, its descriptor pointer is the
current one, and it waits for its fetch; otherwise GO_IGNORED or TRIG_MISSED counts. DMA_DESC_FETCH_DONE of a good descriptor
in device memory brings its fields up for the check; a timeout, BUS_TMO gone, sets ERR.TMO and drains. DMA_DESC_CHECK lets a
formed descriptor whose lines are all accessible move; any other stops the run with its bit. DMA_DESC_COMPLETE of a last
descriptor ends the run; of another, it stops the run with ERR.HOP where HOP_COUNT has reached HOP_MAX, and else counts the hop
and makes NEXT the current descriptor, to be fetched, or checked where it was read ahead; with host memory no longer reachable it
stops the run with ERR.ADDR. A single line from device memory to device memory, in no other stream's footprint, is there then byte
for byte. A response error of a request that has not timed out and a timeout, BUS_TMO gone, set their bit and drain; the late
response of one that has is discarded; an abort drains; the drain's end shows ERROR or ABORTED; clearing every set bit returns to
IDLE. No command changes another channel, but for what R340 has it note of streams that end, nor a byte outside the destination's
lines. That a command outside its phase or time changes nothing is the model's choice (log entry 1). -/
def Obligations.DmaChannels : Prop :=
  (∀ (s : State) (ch : Nat), Awake s → ch < 16 →
    (∀ c, c = Instr.dmaTrigger ch ∧ (dmaCh s ch).trig = true ∧ serdesOn s = true ∨ (∃ a v, c = .dmaGo a ch v ∧ Accepts s a (Reg.DC.CH_CMD ch) .cmd ∧
        bit v 0 = true ∧ bit v 1 = false) →
      (canStart s ch = true → ∃ t, exec c s = .next t ∧ (dmaCh t ch).phase = .fetch ∧ rd t (Reg.DC.STATUS ch) = 1 ∧
        rd t (Reg.DC.CUR_DESC_LO ch) = rd s (Reg.DC.DESC_PTR_LO ch) ∧ rd t (Reg.DC.CUR_DESC_HI ch) = rd s (Reg.DC.DESC_PTR_HI ch) ∧
        rd t (Reg.DC.HOP_COUNT ch) = 0 ∧ OtherChannels ch s t ∧ SameMemory s t ∧
        RegsExcept [Reg.DC.HOP_COUNT ch, Reg.DC.RESIDUAL ch, Reg.DC.STATUS ch, Reg.DC.CUR_DESC_LO ch, Reg.DC.CUR_DESC_HI ch] s t)) ∧
    (∀ a v, Accepts s a (Reg.DC.CH_CMD ch) .cmd → bit v 0 = true → bit v 1 = false → canStart s ch = false →
      ∃ t, exec (.dmaGo a ch v) s = .next t ∧ t.dma = s.dma ∧ rd t (Reg.DC.GO_IGNORED ch) = plusOne (rd s (Reg.DC.GO_IGNORED ch)) ∧
        RegsExcept [Reg.DC.GO_IGNORED ch] s t) ∧
    ((dmaCh s ch).trig = true → serdesOn s = true → canStart s ch = false → ∃ t, exec (.dmaTrigger ch) s = .next t ∧ (dmaCh t ch).trig = false ∧
      rd t (Reg.DC.TRIG_MISSED ch) = plusOne (rd s (Reg.DC.TRIG_MISSED ch)) ∧ RegsExcept [Reg.DC.TRIG_MISSED ch] s t) ∧
    ((dmaCh s ch).trig = false → exec (.dmaTrigger ch) s = .next s)) ∧
  (∀ (s : State) (ch : Nat) (hd : List Byte), Lit s → ch < 16 →
    ((dmaCh s ch).phase = .fetch →
      (curDesc s ch < memBytes → memPoisoned s (curDesc s ch) 64 = false → ∃ t, exec (.dmaDescFetchDone ch .ok hd) s = .next t ∧
        (dmaCh t ch).phase = .check ∧ (dmaCh t ch).desc = some (dmaDescOf (memRead s (curDesc s ch) 64)) ∧ t.regs = s.regs ∧
        OtherChannels ch s t ∧ SameMemory s t) ∧
      (tmoPast s ch (dmaCh s ch).since = false → exec (.dmaDescFetchDone ch .timeout hd) s = .next s) ∧
      (tmoPast s ch (dmaCh s ch).since = true → ∃ t, exec (.dmaDescFetchDone ch .timeout hd) s = .next t ∧ (dmaCh t ch).phase = .drain ∧ (dmaCh t ch).error = true ∧
        rdB t (Reg.DC.ERR ch) 3 = true ∧ OtherChannels ch s t ∧ SameMemory s t)) ∧
    (∀ d, (dmaCh s ch).phase = .check → (dmaCh s ch).desc = some d →
      (d.formed = true → badLine s ch d = none → ∃ t, exec (.dmaDescCheck ch) s = .next t ∧ (dmaCh t ch).phase = .move ∧
        (dmaCh t ch).moved = 0 ∧ rdN t (Reg.DC.RESIDUAL ch) = min 0xFFFFFF d.total ∧ RegsExcept [Reg.DC.RESIDUAL ch] s t ∧
        OtherChannels ch s t ∧ SameMemory s t) ∧
      ((d.formed = false ∨ (badLine s ch d).isSome = true) → ∃ t, exec (.dmaDescCheck ch) s = .next t ∧
        (dmaCh t ch).phase = .drain ∧ (dmaCh t ch).error = true ∧ rdB t (Reg.DC.ERR ch) (if d.formed then 7 else 5) = true ∧
        OtherChannels ch s t ∧ SameMemory s t)) ∧
    (∀ d lines, (dmaCh s ch).phase = .move → (dmaCh s ch).desc = some d → d.formed = true →
      lines = (List.range d.dLines).map (fun i => (streamAddr d.dst d.dLen d.dStep (i * d.dLen), d.dLen)) →
      (sourcePoisoned s ch d = true → exec (.dmaDescComplete ch hd) s = .next s) ∧
      (∀ x, sourcePoisoned s ch d = false → d.blocked s = some x → ∃ t, exec (.dmaDescComplete ch hd) s = .next t ∧
        (dmaCh t ch).phase = .drain ∧ (dmaCh t ch).error = true ∧ rdB t (Reg.DC.ERR ch) 7 = true ∧ OtherRuns ch s t ∧
        MemoryExcept lines s t) ∧
      (sourcePoisoned s ch d = false → d.blocked s = none → ∃ t, exec (.dmaDescComplete ch hd) s = .next t ∧ OtherRuns ch s t ∧
        MemoryExcept lines s t ∧
        (d.last = false → rdF s (Reg.DC.HOP_COUNT ch) 15 0 = rdF s (Reg.DC.HOP_MAX ch) 15 0 →
          (dmaCh t ch).phase = .drain ∧ (dmaCh t ch).error = true ∧ rdB t (Reg.DC.ERR ch) 4 = true) ∧
        (d.last = false → rdF s (Reg.DC.HOP_COUNT ch) 15 0 ≠ rdF s (Reg.DC.HOP_MAX ch) 15 0 →
          rdF t (Reg.DC.HOP_COUNT ch) 15 0 = (rdF s (Reg.DC.HOP_COUNT ch) 15 0 + 1) % 65536 ∧ curDesc t ch = d.next % 2 ^ 64 ∧
          ((dmaCh s ch).ahead = none → (dmaCh t ch).phase = .fetch ∧ (dmaCh t ch).desc = none) ∧
          ∀ e, (dmaCh s ch).ahead = some (.ok, some e) → (dmaCh t ch).phase = .check ∧ (dmaCh t ch).desc = some e) ∧
        (d.last = true → (dmaCh t ch).phase = .idle ∧ rd t (Reg.DC.STATUS ch) = 0 ∧
          rd t (Reg.DC.RUNS ch) = plusOne (rd s (Reg.DC.RUNS ch)) ∧ rd t (Reg.DC.RESIDUAL ch) = 0) ∧
        (d.sLines = 1 → d.dLines = 1 → d.src + d.sLen ≤ memBytes → d.dst + d.dLen ≤ memBytes → (dmaCh s ch).moved = 0 →
          (∀ b, d.dst ≤ b → b < d.dst + d.dLen → inOtherStream s ch d b = false) → memRead t d.dst d.dLen = memRead s d.src d.sLen)) ∧
      (∀ kind addr moved, (dmaCh s ch).late.contains addr = true → exec (.dmaResponseError ch kind addr moved hd) s =
        .next (setDma s ch { dmaCh s ch with late := (dmaCh s ch).late.erase addr })) ∧
      (∀ kind addr moved, (dmaCh s ch).late.contains addr = false →
        ∃ t, exec (.dmaResponseError ch kind addr moved hd) s = .next t ∧ (dmaCh t ch).phase = .drain ∧
        (dmaCh t ch).error = true ∧ OtherRuns ch s t ∧ MemoryExcept lines s t ∧ rdB t (Reg.DC.ERR ch)
          (respBit kind (d.total - max (dmaCh s ch).moved (min (min moved d.total) (d.reach s)))) = true) ∧
      (∀ addr issued moved, (issued < (dmaCh s ch).since ∨ tmoPast s ch issued = false) →
        exec (.dmaTimeout ch addr moved hd issued) s = .next s) ∧
      (∀ addr issued moved, (dmaCh s ch).since ≤ issued → tmoPast s ch issued = true →
        ∃ t, exec (.dmaTimeout ch addr moved hd issued) s = .next t ∧ (dmaCh t ch).phase = .drain ∧ (dmaCh t ch).error = true ∧
        (dmaCh t ch).late = (dmaCh s ch).late ++ [addr] ∧ rdB t (Reg.DC.ERR ch) 3 = true ∧ OtherRuns ch s t ∧
        MemoryExcept lines s t) ∧
      (∀ a v moved, Accepts s a (Reg.DC.CH_CMD ch) .cmd → bit v 0 = false → bit v 1 = true → chState s ch = 1 →
        ∃ t, exec (.dmaAbort a ch false v moved hd) s = .next t ∧ (dmaCh t ch).phase = .drain ∧ (dmaCh t ch).error = false ∧
          OtherRuns ch s t ∧ MemoryExcept lines s t)) ∧
    ((dmaCh s ch).phase ≠ .drain → exec (.dmaDrainDone ch) s = .next s) ∧
    ((dmaCh s ch).phase = .drain → ∃ t, exec (.dmaDrainDone ch) s = .next t ∧ (dmaCh t ch).phase = .idle ∧
      chState t ch = (if (dmaCh s ch).error then 2 else 3) ∧ RegsExcept [Reg.DC.STATUS ch] s t ∧ OtherChannels ch s t ∧ SameMemory s t)) ∧
  ∀ (s : State) (a : Agent) (ch : Nat) (v : Word), Awake s → ch < 16 → Accepts s a (Reg.DC.ERR ch) .open →
    ∃ t, exec (.dmaErrClear a ch v) s = .next t ∧ rd t (Reg.DC.ERR ch) = rd s (Reg.DC.ERR ch) &&& ~~~v ∧
      RegsExcept [Reg.DC.ERR ch, Reg.DC.STATUS ch] s t ∧ t.dma = s.dma ∧
      (rd s (Reg.DC.ERR ch) &&& ~~~v = 0 → (chState s ch = 2 ∨ chState s ch = 3) → chState t ch = 0) ∧
      (rd s (Reg.DC.ERR ch) &&& ~~~v ≠ 0 → rd t (Reg.DC.STATUS ch) = rd s (Reg.DC.STATUS ch))

/-- IRQ_INPUT_RISE makes a real source pending whose event was seen, or whose input is 1 (an active source: and was seen at 0 since it
became so, the model's choice, log entry 141); otherwise no source becomes pending. IRQ_OFFER of a source not pending, active, on
offer or masked changes nothing, nor does any offer with EN at 0 (as commands outside their conditions: log entry 1); one for the
TC, or for a core that the choice gives, that passes the group test is offered there; one for the host is offered to the host, and
its vector sends its message, or, masked, sets its pending bit, or is carried by a message that left in the same clock, or is held
by its timer, in D3hot, or in L1, from where a return to L0 is asked for; a vector that becomes due in D3hot sets PME_Status and sends PM_PME where PME_En is set. CLAIM and HOST_CLAIM
answer the most urgent offer and make it active, or answer 0 where there is none. OFFER_WITHDRAW ends an offer at its instant.
MODERATION_EXPIRY ends a timer and lets a held vector's message leave if one may. D0_ENTRY leaves D3hot and releases every held
vector, unless EN is 0: then no message goes. SW_PULSE pulses lines 176 to 191 and ignores any other number. -/
def Obligations.InterruptFlow : Prop :=
  (∀ (s : State) (i : Nat), Awake s →
    (sourceReal i = true → (inputOf s i = true ∧ ((srcSt s i).active = false ∨ (srcSt s i).level = false) ∨
      Store.get noB s.icu.risen i = true) → ∃ t, exec (.irqInputRise i) s = .next t ∧
      srcSt t i = { srcSt s i with pending := true, level := inputOf s i } ∧ (∀ j, j ≠ i → srcSt t j = srcSt s j) ∧ t = { s with icu := t.icu }) ∧
    (sourceReal i = false → exec (.irqInputRise i) s = .next s) ∧
    (sourceReal i = true → Store.get noB s.icu.risen i = false →
      (inputOf s i = false ∨ (srcSt s i).active = true ∧ (srcSt s i).level = true) → ∃ t, exec (.irqInputRise i) s = .next t ∧
      srcSt t i = { srcSt s i with level := inputOf s i && (srcSt s i).level } ∧ (∀ j, j ≠ i → srcSt t j = srcSt s j) ∧
      t = { s with icu := t.icu }) ∧
    (((srcSt s i).pending = false ∨ (srcSt s i).active = true ∨ (srcSt s i).offer.isSome = true ∨ bit (srcCfg s i) 8 = false ∨
      icuOn s = false) → exec (.irqOffer i) s = .next s) ∧
    (sourceReal i = true → (srcSt s i).pending = true → (srcSt s i).active = false → (srcSt s i).offer = none →
      bit (srcCfg s i) 8 = true → icuOn s = true →
      (∀ k tie, fld (srcCfg s i) 10 9 = 1 → chooseCore s i = some (k, tie) → outranks s i k = true →
        ∃ t, exec (.irqOffer i) s = .next t ∧ srcSt t i = { srcSt s i with offer := some k } ∧
          (∀ j, j ≠ i → srcSt t j = srcSt s j) ∧ t = { s with icu := t.icu }) ∧
      (fld (srcCfg s i) 10 9 = 2 → targetOn s 4 = true → outranks s i 4 = true →
        exec (.irqOffer i) s = .next (setSrc s i { srcSt s i with offer := some 4 })) ∧
      (fld (srcCfg s i) 10 9 = 3 → ∃ t, exec (.irqOffer i) s = .next t ∧
        (srcSt t i).offer = some 5 ∧ t.regs = s.regs ∧
        (s.pcie.link.dstate = 3 → s.pcie.cfg.pmeEn = true → t.pcie.pmeStatus = true ∧ t.pcie.pmeSent = s.pcie.pmeSent + 1) ∧
        (vectorMasked s (vectorOf i) = false → Store.get zeroN s.icu.timers (vectorOf i) = 0 → s.pcie.link.dstate ≠ 3 →
          s.pcie.link.aspm ≠ 0 → t.pcie.l0Asked = true) ∧
        (vectorMasked s (vectorOf i) = true → Store.get noB t.icu.pba (vectorOf i) = true ∧ SameMemory s t) ∧
        (vectorMasked s (vectorOf i) = false → (Store.get zeroN s.icu.timers (vectorOf i) ≠ 0 ∨ mayLeave s = false) →
          justSent s (vectorOf i) = false → Store.get noB t.icu.held (vectorOf i) = true ∧ SameMemory s t) ∧
        (vectorMasked s (vectorOf i) = false → justSent s (vectorOf i) = true → t.icu.held = s.icu.held ∧ SameMemory s t) ∧
        ∀ h, h = ((msixWord s (vectorOf i) 0).toNat + 2 ^ 32 * (msixWord s (vectorOf i) 1).toNat) % hostBase →
          vectorMasked s (vectorOf i) = false → Store.get zeroN s.icu.timers (vectorOf i) = 0 → mayLeave s = true →
          s.pcie.cfg.busMaster = true →
            (∀ j, j < 4 → hostByte t (h + j) = byteAt (leBytes 4 (msixWord s (vectorOf i) 2).toNat) j) ∧
            MemoryExcept [(hostBase + h, 4)] s t))) ∧
  (∀ (s : State) (a : Agent) (c : Instr) (k : Nat) (mine : Nat → Bool), Awake s →
    (k < 5 ∧ c = .claim a k ∧ (∀ i, mine i = true) ∨ k = 5 ∧ ∃ v, v < 64 ∧ c = .hostClaim a v ∧ ∀ i, mine i = (vectorOf i == v)) →
    ∃ t, exec c s = .next t ∧ t = { s with icu := t.icu, out := t.out } ∧
      (mostUrgent s ((listedSources s).filter fun i => offeredTo s k i && mine i) = none →
        t.icu = s.icu ∧ Store.get zeroW t.out.word (agentCode a) = 0) ∧
      ∀ i, mostUrgent s ((listedSources s).filter fun i => offeredTo s k i && mine i) = some i →
        srcSt t i = ⟨inputOf s i, false, true, k, none, none⟩ ∧
        Store.get zeroW t.out.word (agentCode a) = w32 (2 ^ 31 + (i + 2 ^ 16 * srcPri s i)) ∧
        ∀ j, j ≠ i → (srcSt s j).offer ≠ some k → srcSt t j = srcSt s j) ∧
  (∀ (s : State) (i : Nat), Awake s →
    (∀ e, (srcSt s i).withdraw = some e →
      (e ≤ mgmtClk s → exec (.offerWithdraw i) s = .next (setSrc s i { srcSt s i with offer := none, withdraw := none })) ∧
      (mgmtClk s < e → exec (.offerWithdraw i) s = .next s)) ∧
    (i < 64 → Store.get zeroN s.icu.timers i ≠ 0 →
      (mgmtClk s < Store.get zeroN s.icu.timers i → exec (.moderationExpiry i) s = .next s) ∧
      (Store.get zeroN s.icu.timers i ≤ mgmtClk s → ∃ t, exec (.moderationExpiry i) s = .next t ∧ t.regs = s.regs ∧
        (Store.get noB s.icu.held i = false → Store.get zeroN t.icu.timers i = 0 ∧ SameMemory s t) ∧
        ((mayLeave s = true ∨ vectorMasked s i = true) → Store.get noB t.icu.held i = false) ∧
        (Store.get noB s.icu.held i = true → mayLeave s = false → vectorMasked s i = false →
          Store.get noB t.icu.held i = true ∧ SameMemory s t)))) ∧
  (∀ s : State, Awake s →
    (s.pcie.link.dstate ≠ 3 → exec .d0Entry s = .next s) ∧
    (s.pcie.link.dstate = 3 → ∃ t, exec .d0Entry s = .next t ∧ t.pcie.link.dstate = 0 ∧ t.regs = s.regs ∧
      (icuOn s = true → ∀ v, v < 64 → Store.get noB t.icu.held v = false) ∧ (icuOn s = false → SameMemory s t))) ∧
  ∀ (s : State) (a : Agent) (v : Word), Awake s → Accepts s a Reg.EVF.SW_PULSE .cmd →
    (176 ≤ fld v 8 0 ∧ fld v 8 0 < 192 →
      exec (.swPulse a v) s = .next (touchSession s a (pageOf Reg.EVF.SW_PULSE) (pulse s (fld v 8 0)))) ∧
    (¬ (176 ≤ fld v 8 0 ∧ fld v 8 0 < 192) →
      exec (.swPulse a v) s = .next (touchSession s a (pageOf Reg.EVF.SW_PULSE) s))

/-- An accepted write of source number i to CPLk, or to HOST_CPL (target 5): where the target holds i active, i is no longer
active, has no holder, and is pending where its input is 1; every other source is as before. Where it does not (i pending, or
inactive, or held by another target) no source changes and SPURIOUS_CPL counts. RUN_PRI follows at once: with no other source
held by the target it is 0x100. -/
def Obligations.CompletionsGoToTheHolder : Prop :=
  ∀ (s : State) (a : Agent) (c : Instr) (k : Nat) (v : Word), Awake s →
    (k < 5 ∧ c = .cpl a k v ∧ Accepts s a (Reg.ICU.CPL k) .cmd ∨ k = 5 ∧ c = .hostCpl a v ∧ Accepts s a Reg.ICU.HOST_CPL .cmd) →
    ((srcSt s (fld v 9 0)).active = true → (srcSt s (fld v 9 0)).holder = k → ∃ t, exec c s = .next t ∧
      t = { s with icu := t.icu, sec := t.sec } ∧
      (srcSt t (fld v 9 0)).active = false ∧ (srcSt t (fld v 9 0)).holder = 7 ∧
      (srcSt t (fld v 9 0)).pending = ((srcSt s (fld v 9 0)).pending || inputOf s (fld v 9 0)) ∧
      (∀ j, j ≠ fld v 9 0 → srcSt t j = srcSt s j) ∧
      ((∀ j, j ≠ fld v 9 0 → (srcSt s j).active = true → (srcSt s j).holder ≠ k) → runPri t k = 0x100)) ∧
    (((srcSt s (fld v 9 0)).active = false ∨ (srcSt s (fld v 9 0)).holder ≠ k) → ∃ t, exec c s = .next t ∧ t.icu = s.icu ∧
      rd t Reg.ICU.SPURIOUS_CPL = plusOne (rd s Reg.ICU.SPURIOUS_CPL) ∧ RegsExcept [Reg.ICU.SPURIOUS_CPL] s t)

/-- An accepted write of SW_SET by any agent: with SOURCE from 768 to 1023 the flag, and with it the source's input, becomes the
complement of CLR, and no other source's flag and no state of any source changes but for what the controller last saw of its
input; with any other SOURCE it is ignored. Software
sources are level sources: completed while the flag is 1, such a source is pending again. -/
def Obligations.SoftwareSourceFlags : Prop :=
  (∀ (s : State) (a : Agent) (v : Word), Awake s → Accepts s a Reg.ICU.SW_SET .cmd →
    (768 ≤ fld v 9 0 → ∃ t u, exec (.swSourceSet a v) s = .next t ∧ exec (.swSourceClear a v) s = .next u ∧ u = t ∧
      t = { s with icu := t.icu, sec := t.sec } ∧ Store.get noB t.icu.sw (fld v 9 0) = !bit v 31 ∧
      inputOf t (fld v 9 0) = !bit v 31 ∧ (∀ i, 768 ≤ i → i < 1024 → i ≠ fld v 9 0 → inputOf t i = inputOf s i) ∧
      ∀ j, { srcSt t j with level := false } = { srcSt s j with level := false }) ∧
    (fld v 9 0 < 768 → exec (.swSourceSet a v) s = .next (touchSession s a (pageOf Reg.ICU.SW_SET) s) ∧
      exec (.swSourceClear a v) s = .next (touchSession s a (pageOf Reg.ICU.SW_SET) s))) ∧
  ∀ (s : State) (a : Agent) (v : Word), Awake s → Accepts s a Reg.ICU.HOST_CPL .cmd → 768 ≤ fld v 9 0 →
    Store.get noB s.icu.sw (fld v 9 0) = true → (srcSt s (fld v 9 0)).active = true → (srcSt s (fld v 9 0)).holder = 5 →
    ∃ t, exec (.hostCpl a v) s = .next t ∧ (srcSt t (fld v 9 0)).pending = true ∧ (srcSt t (fld v 9 0)).active = false

/-- After reset each of the three tables of each of the 32 pre-blend sets holds E[i] = i × 1024 for every entry i from 0 to 1024.
With a table that holds the identity, an input from 0 to 1.0 (0x10000) leaves stage 4 shifted left by 4, and no clamp changes it. -/
def Obligations.PreBlendIdentity : Prop :=
  (∀ set ch i, set < 32 → ch < 3 → i ≤ 1024 → preEntry State.reset set ch i = (i * 1024 : Nat)) ∧
  ∀ (s : State) (d : List Word) (ch : Nat) (v : Int), dPreLutEn d = true →
    (∀ i, i ≤ 1024 → preEntry s (dPreLut d) ch i = (i * 1024 : Nat)) → 0 ≤ v → v ≤ 0x10000 →
      stage4 s d ch v = (v * 16, false)

/-- Accepted writes of SESS_CTRL with one command bit. CHAL, with no OPEN in verification, asks the trusted core for a nonce of the
slot and forgets the older one; CHALLENGE_READY brings it; CHALLENGE_EXPIRY forgets it after 60 s and not before. OPEN starts
the verification, or, in lockout, fails and counts in SESS_FAILS; CLOSE closes the open session. SESSION_VERIFY_DONE with a
verdict of 0 opens a session with the slot's role; with another RESULT shows it, SESS_FAILS counts, and the eighth failure in a
row starts the lockout, which SESSION_LOCKOUT_END ends after 60 s. SESSION_IDLE_TIMEOUT and SESSION_MAX_TIMEOUT close the session
at their time and not before; that such a command sent before its time changes nothing is the model's choice (log entry 1). -/
def Obligations.SessionsOpenAndClose : Prop :=
  (∀ (s : State) (a : Agent) (v : Word), Awake s → Accepts s a Reg.SEC.SESS_CTRL .cmd →
    (bit v 0 = true → bit v 1 = false → bit v 2 = false → s.sec.opening = none → ∃ t, exec (.sessionChallenge a v) s = .next t ∧
      t.sec.chalReq = some (fld v 7 4) ∧ t.sec.chal = none ∧ t.regs = s.regs) ∧
    (bit v 0 = false → bit v 1 = true → bit v 2 = false → s.sec.opening = none →
      (s.sec.lockedAt = none → ∃ t, exec (.sessionOpen a v) s = .next t ∧ t.sec.opening = some (fld v 7 4) ∧ t.regs = s.regs) ∧
      (s.sec.lockedAt.isSome = true → ∃ t, exec (.sessionOpen a v) s = .next t ∧ t.sec.opening = none ∧
        rdF t Reg.SEC.SESS_STATUS 15 12 = 4 ∧ rd t Reg.SEC.SESS_FAILS = plusOne (rd s Reg.SEC.SESS_FAILS))) ∧
    (bit v 0 = false → bit v 1 = false → bit v 2 = true → ∃ t, exec (.sessionClose a v) s = .next t ∧ t.sec.sess = none ∧
      RegsExcept [Reg.AUD.LOST] s t)) ∧
  (∀ s : State, Awake s →
    (∀ slot nonce, s.sec.chalReq = some slot → ∃ t, exec (.challengeReady nonce) s = .next t ∧ t.sec.chalReq = none ∧
      t.sec.chal = some ⟨slot, padTo 32 nonce, s.time.uptime⟩ ∧ t.sec.nonce = padTo 32 nonce ∧ t.regs = s.regs) ∧
    (∀ c, s.sec.chal = some c → s.sec.opening = none →
      (elapsedUs s c.at_ 60000000 = true → ∃ t, exec .challengeExpiry s = .next t ∧ t = { s with sec := { s.sec with chal := none } }) ∧
      (elapsedUs s c.at_ 60000000 = false → exec .challengeExpiry s = .next s)) ∧
    (∀ slot, s.sec.opening = some slot →
      (sessVerdict s slot = 0 → ∃ t x, exec .sessionVerifyDone s = .next t ∧ t.sec.sess = some x ∧ x.slot = slot ∧
        x.role = (keySlot s slot).role ∧ x.opened = s.time.uptime ∧ x.active = s.time.uptime ∧ t.sec.fails = 0 ∧
        t.sec.opening = none ∧ t.sec.chal = none ∧ rdF t Reg.SEC.SESS_STATUS 15 12 = 0 ∧
        RegsExcept [Reg.SEC.SESS_STATUS, Reg.AUD.LOST] s t) ∧
      (sessVerdict s slot ≠ 0 → ∃ t, exec .sessionVerifyDone s = .next t ∧ t.sec.sess = s.sec.sess ∧ t.sec.opening = none ∧
        t.sec.chal = none ∧ t.sec.fails = s.sec.fails + 1 ∧ rdF t Reg.SEC.SESS_STATUS 15 12 = sessVerdict s slot ∧
        rd t Reg.SEC.SESS_FAILS = plusOne (rd s Reg.SEC.SESS_FAILS) ∧
        (s.sec.fails = 7 → t.sec.lockedAt = some s.time.uptime) ∧
        RegsExcept [Reg.SEC.SESS_STATUS, Reg.SEC.SESS_FAILS, Reg.AUD.LOST] s t)) ∧
    (∀ u, s.sec.lockedAt = some u →
      (elapsedUs s u 60000000 = true → ∃ t, exec .sessionLockoutEnd s = .next t ∧
        t = { s with sec := { s.sec with lockedAt := none, fails := 0 } }) ∧
      (elapsedUs s u 60000000 = false → exec .sessionLockoutEnd s = .next s)) ∧
    (∀ x, s.sec.sess = some x →
      (elapsedUs s x.active (1000000 * rdF s Reg.SEC.SESS_IDLE 16 0) = true → ∃ t, exec .sessionIdleTimeout s = .next t ∧
        t.sec.sess = none ∧ RegsExcept [Reg.AUD.LOST] s t) ∧
      (elapsedUs s x.active (1000000 * rdF s Reg.SEC.SESS_IDLE 16 0) = false → exec .sessionIdleTimeout s = .next s) ∧
      (elapsedUs s x.opened (60000000 * rdF s Reg.SEC.SESS_MAX 10 0) = true → ∃ t, exec .sessionMaxTimeout s = .next t ∧
        t.sec.sess = none ∧ RegsExcept [Reg.AUD.LOST] s t) ∧
      (elapsedUs s x.opened (60000000 * rdF s Reg.SEC.SESS_MAX 10 0) = false → exec .sessionMaxTimeout s = .next s)))

/-- REQ_SUBMIT, accepted, with a session, no request pending and a body that is valid makes it pending with the next number and its
digest; with none of the three RESULT says which was missing. REQ_APPROVE puts the slot in verification; APPROVAL_VERIFY_DONE
with a good signature adds the approval. REQ_WITHDRAW, with a session, and REQ_TIMEOUT end the request. With two approvals that
count, RIGHTS rewrites the rights of its pages with the TC's bit set, ENROL the key slot with the SEQ of the REQ_APPLIED record it
queues, FWKEY the image key, DEBUG opens the TAP at its level, JUMP sets JUMP_MAX, and the request is over; without them nothing
changes (as a command outside its precondition: the model's choice, log entry 1). Where the configuration's NOR operation fails
the copies in NOR stay and NOR_ERR counts (log entry 147). DEBUG_RELOCK closes the TAP. -/
def Obligations.RequestsTakeTwo : Prop :=
  (∀ (s : State) (a : Agent) (v : Word) (nr : List Byte), Awake s → Accepts s a Reg.SEC.REQ_CTRL .cmd →
    (bit v 0 = true → bit v 1 = false → bit v 2 = false →
      (s.sec.sess.isSome = true → s.sec.req = none → reqInvalid s (reqBody s) = false →
        ∃ t r, exec (.reqSubmit a v nr) s = .next t ∧ t.sec.req = some r ∧ r.id = (s.sec.reqId + 1) % 65536 ∧ r.body = reqBody s ∧
          r.approvals = [] ∧ r.busy = none ∧ t.sec.digest = r.digest ∧
          r.digest = sha256 (reqBody s ++ leBytes 2 r.id ++ idBytes ++ epochBytes s ++ padTo 32 nr)) ∧
      (∀ c, (s.sec.sess = none ∧ c = 5 ∨ s.sec.sess.isSome = true ∧ s.sec.req.isSome = true ∧ c = 8 ∨ s.sec.sess.isSome = true ∧
          s.sec.req = none ∧ reqInvalid s (reqBody s) = true ∧ c = 6) → ∃ t, exec (.reqSubmit a v nr) s = .next t ∧
        t.sec.req = s.sec.req ∧ rdF t Reg.SEC.REQ_STATUS 7 4 = c ∧ RegsExcept [Reg.SEC.REQ_STATUS] s t)) ∧
    (∀ r, bit v 0 = false → bit v 1 = true → bit v 2 = false → s.sec.req = some r → r.busy = none →
      (r.approvals.any fun e => e.1 == fld v 7 4) = false → ∃ t, exec (.reqApprove a v) s = .next t ∧
        t.sec.req = some { r with busy := some (fld v 7 4) } ∧ t.regs = s.regs) ∧
    (∀ r, bit v 0 = false → bit v 1 = false → bit v 2 = true → s.sec.sess.isSome = true → s.sec.req = some r →
      ∃ t, exec (.reqWithdraw a v) s = .next t ∧ t.sec.req = none ∧ rdF t Reg.SEC.REQ_STATUS 7 4 = 0)) ∧
  (∀ (s : State) (r : Request), Awake s → s.sec.req = some r →
    (∀ slot, r.busy = some slot → ∃ t, exec .approvalVerifyDone s = .next t ∧ rdF t Reg.SEC.REQ_STATUS 7 4 = approvalVerdict s r.digest slot ∧
      t.sec.req = some { r with
        busy := none
        approvals := if approvalVerdict s r.digest slot = 0 then r.approvals ++ [(slot, (keySlot s slot).role)] else r.approvals }) ∧
    (r.busy = none → exec .approvalVerifyDone s = .next s) ∧
    (overUs s r.since (1000000 * rdF s Reg.SEC.REQ_TMO 16 0) = true → enoughApprovals s r = false →
      ∃ t, exec .reqTimeout s = .next t ∧ t.sec.req = none ∧ RegsExcept [Reg.AUD.LOST] s t) ∧
    (overUs s r.since (1000000 * rdF s Reg.SEC.REQ_TMO 16 0) = false → exec .reqTimeout s = .next s) ∧
    (enoughApprovals s r = false → (∀ ok, exec (.rights ok) s = .next s ∧ exec (.enrol ok) s = .next s) ∧ exec .fwkey s = .next s ∧
      exec .debug s = .next s ∧ exec .jump s = .next s) ∧
    (enoughApprovals s r = true →
      (∀ ok, beAt r.body 0 1 = 1 → ∃ t, exec (.rights ok) s = .next t ∧ t.sec.req = none ∧
        (ok = false → t.nor = s.nor ∧ rd t Reg.AUD.NOR_ERR = plusOne (rd s Reg.AUD.NOR_ERR)) ∧
        (ok = true → ∃ b, t.nor = { s.nor with cfg0 := some b, cfg1 := some b } ∧ b.gen = rdN t Reg.SEC.CFG_GEN ∧
          b.rights = t.sec.rights ∧ b.keys = t.sec.keys) ∧
        rd t Reg.SEC.CFG_GEN = w32 (rdN s Reg.SEC.CFG_GEN + 1) ∧ t.sec.keys = s.sec.keys ∧
        ∀ pg, rightsWord t pg = (if leAt r.body 4 2 ≤ pg ∧ pg ≤ leAt r.body 6 2 then ((beAt r.body 8 1) &&& 0x73) + 4 else rightsWord s pg)) ∧
      (∀ ok, beAt r.body 0 1 = 2 → ∃ t, exec (.enrol ok) s = .next t ∧ t.sec.req = none ∧ t.sec.rights = s.sec.rights ∧
        (beAt r.body 2 1 ≠ 0 → (keySlot t (beAt r.body 1 1)).seq = nextSeq s % 2 ^ 32) ∧
        (keySlot t (beAt r.body 1 1)).role = beAt r.body 2 1 ∧
        (beAt r.body 2 1 ≠ 0 → (keySlot t (beAt r.body 1 1)).key = bytesAt r.body 4 32) ∧
        (∀ i, i ≠ beAt r.body 1 1 → keySlot t i = keySlot s i) ∧
        (beAt r.body 2 1 = 0 → sessSlot s = beAt r.body 1 1 → t.sec.sess = none)) ∧
      (beAt r.body 0 1 = 3 → ∃ t, exec .fwkey s = .next t ∧ t.sec.req = none ∧
        (beAt r.body 2 1 = 0 → (fwKey t (beAt r.body 1 1)).hash = bytesAt r.body 4 32 ∧ (fwKey t (beAt r.body 1 1)).programmed = true) ∧
        (beAt r.body 2 1 ≠ 0 → (fwKey t (beAt r.body 1 1)).revoked = true) ∧
        ∀ i, i ≠ beAt r.body 1 1 → fwKey t i = fwKey s i) ∧
      (beAt r.body 0 1 = 4 → ∃ t, exec .debug s = .next t ∧ t.sec.req = none ∧ rdB t Reg.SEC.SEC_STATUS 2 = true ∧
        rdF t Reg.SEC.SEC_STATUS 4 3 = beAt r.body 1 1 % 4 ∧ measOf t 7 = sha256 (measOf s 7 ++ sha256 r.body) ∧
        RegsExcept [Reg.SEC.SEC_STATUS, Reg.AUD.LOST] s t) ∧
      (beAt r.body 0 1 = 5 → ∃ t, exec .jump s = .next t ∧ t.sec.req = none ∧ rd t Reg.TIM.JUMP_MAX = w32 (leAt r.body 4 4) ∧
        RegsExcept [Reg.TIM.JUMP_MAX, Reg.AUD.LOST] s t))) ∧
  ∀ (s : State) (a : Agent) (v : Word), Awake s → Accepts s a Reg.SEC.DEBUG_RELOCK .cmd → bit v 0 = true → s.sec.sess.isSome = true →
    ∃ t, exec (.debugRelock a v) s = .next t ∧ rdF t Reg.SEC.SEC_STATUS 4 2 = 0 ∧ RegsExcept [Reg.SEC.SEC_STATUS, Reg.AUD.LOST] s t

/-- TC_BOOT of a trusted core that has not booted marks it booted, raises EPOCH by one up to 16384, gives every SerDes lane its preset
of the board data, or 3 where that fails, and shows BOOT_OK exactly where some image slot verifies, then with the cores running; a
second boot changes nothing (the model's choice, log entry 1). AUDIT_RECORD_WRITE of a booted core writes
the oldest queued record at the next SEQ with the hash over the record before it; a failed NOR operation counts and leaves it
queued. IMAGE_UPDATE, accepted, needs an installer or maker session; IMAGE_UPDATE_DONE writes a good image to the other slot and
prefers it, and shows RESULT 9 otherwise, or where the NOR operation fails, which NOR_ERR counts, with NOR as it was (log entry
147). ATTEST takes the nonce of the window, ATTEST_DONE shows the report. -/
def Obligations.BootLogUpdateAttest : Prop :=
  (∀ s : State, Awake s →
    (s.sec.booted = true → exec .tcBoot s = .next s) ∧
    (s.sec.booted = false → ∃ t, exec .tcBoot s = .next t ∧ t.sec.booted = true ∧ t.otp.epoch = min 16384 (s.otp.epoch + 1) ∧
      SameMemory s t ∧ (∀ l, l < 330 → lanePreset t l = boardPreset s (boardOk s) l) ∧
      (imageOk s s.nor.slotA = false → imageOk s s.nor.slotB = false → rdB t Reg.SEC.SEC_STATUS 0 = rdB s Reg.SEC.SEC_STATUS 0 ∧
        ∀ k, k < 4 → running t k = running s k) ∧
      (s.nor.preferred < 2 → (imageOk s s.nor.slotA = true ∨ imageOk s s.nor.slotB = true) → rdB t Reg.SEC.SEC_STATUS 0 = true ∧
        ∀ k, k < 4 → running t k = true)) ∧
    (s.aud.queue = [] → ∀ ok, exec (.auditRecordWrite ok) s = .next s) ∧
    (∀ r rest, s.aud.queue = r :: rest → s.sec.booted = true → safe s Page.AUD = false →
      (∃ t, exec (.auditRecordWrite true) s = .next t ∧ t.aud.queue = rest ∧ t.aud.next = s.aud.next + 1 ∧
        t.aud.head = sha256 ((if s.aud.next = 0 then firstHash else s.aud.head) ++ recordContent s.aud.next r) ∧
        Store.get (fun _ => []) t.nor.log (s.aud.next % logPlaces) = recordContent s.aud.next r ++ t.aud.head ∧
        t.otp = s.otp ∧ SameMemory s t) ∧
      (∃ t, exec (.auditRecordWrite false) s = .next t ∧ t.aud = s.aud ∧ t.nor = s.nor ∧
        rd t Reg.AUD.NOR_ERR = plusOne (rd s Reg.AUD.NOR_ERR) ∧ RegsExcept [Reg.AUD.AUD_STATUS, Reg.AUD.NOR_ERR] s t))) ∧
  (∀ (s : State) (a : Agent) (v : Word), Awake s →
    (Accepts s a Reg.SEC.UPD_CTRL .cmd → bit v 0 = true →
      (2 ≤ sessRole s → s.sec.update = none → ∃ t x, exec (.imageUpdate a v) s = .next t ∧ t.sec.update = some x ∧
        x.2 = rdF s Reg.SEC.UPD_LEN 23 0 ∧ t.regs = s.regs) ∧
      (sessRole s < 2 → ∃ t, exec (.imageUpdate a v) s = .next t ∧ t.sec.update = s.sec.update ∧
        rdF t Reg.SEC.UPD_STATUS 7 4 = 5 ∧ RegsExcept [Reg.SEC.UPD_STATUS] s t)) ∧
    (Accepts s a Reg.SEC.ATTEST .cmd → bit v 0 = true → s.sec.attNonce = none → ∃ t, exec (.attest a v) s = .next t ∧
      t.sec.attNonce = some (winBytes s 0x2040 32) ∧ rdB t Reg.SEC.ATT_STATUS 1 = false ∧ RegsExcept [Reg.SEC.ATT_STATUS] s t)) ∧
  ∀ s : State, Awake s →
    (∀ addr len, s.sec.update = some (addr, len) →
      ((len ≤ 0xC00000 ∧ inMem addr len ∧ memPoisoned s addr len = false ∧ imageOk s (memRead s addr len)) →
        (∃ t, exec (.imageUpdateDone false) s = .next t ∧ t.sec.update = none ∧ t.nor = s.nor ∧
          rdF t Reg.SEC.UPD_STATUS 7 4 = 9 ∧ rd t Reg.AUD.NOR_ERR = plusOne (rd s Reg.AUD.NOR_ERR) ∧ SameMemory s t) ∧
        ∃ t, exec (.imageUpdateDone true) s = .next t ∧ t.sec.update = none ∧ rdF t Reg.SEC.UPD_STATUS 7 4 = 0 ∧
          imageSlot t (updateSlot s) = memRead s addr len ∧ (updateSlot s ≤ 1 → t.nor.preferred = updateSlot s) ∧ SameMemory s t) ∧
      (0xC00000 < len ∨ inMem addr len = false ∨ imageOk s (memRead s addr len) = false → ∀ ok, ∃ t, exec (.imageUpdateDone ok) s = .next t ∧
        t.sec.update = none ∧ t.nor = s.nor ∧ rdF t Reg.SEC.UPD_STATUS 7 4 = 9 ∧ SameMemory s t)) ∧
    ∀ n, s.sec.attNonce = some n → ∃ t, exec .attestDone s = .next t ∧ t.sec.attNonce = none ∧ t.sec.report = reportBody s n ∧
      rdB t Reg.SEC.ATT_STATUS 1 = true ∧ RegsExcept [Reg.SEC.ATT_STATUS, Reg.AUD.LOST] s t

/-- FW_MEMORY_ACCESS of a core that runs, or is stepped, inside a window that permits it reads, or writes its bytes and no others;
outside, a read answers zeros, a write is dropped, and either counts in FW_FAULT. The trusted core's reads and writes need no
window. WDT_KICK, accepted, starts the named cores' periods anew.
WATCHDOG_EXPIRY at the end of the period, and CORE_FAULT of a running core, halt it; CORE_RESTART runs a halted core again and
counts, or, after four restarts in 60 s, gives it up; one whose code is not what was measured stays halted (log entry 144).
TXQ_DOORBELL, accepted, stores PROD and, with the ring on, posts each entry it passes, of at most one ring, to the port and kind
that its descriptor names, behind those posted before.
TRANSMIT_DONE of a posted frame takes it off; with none posted on the port it changes nothing. That commands come to nothing outside their conditions is the model's choice
(log entry 1). -/
def Obligations.ManagementCores : Prop :=
  (∀ (s : State) (core addr len : Nat) (data : List Byte), Awake s → core < 4 → mayAccess s core = true →
    (inMem addr len = true →
      (inWindow s addr len false = true → ∃ t, exec (.fwMemoryAccess core addr false len data) s = .next t ∧
        t.out.fw = memRead s addr len ∧ SameMemory s t) ∧
      (inWindow s addr len true = true → ∃ t, exec (.fwMemoryAccess core addr true len data) s = .next t ∧
        memRead t addr len = padTo len data ∧ MemoryExcept [(addr, len)] s t ∧ t.regs = s.regs)) ∧
    (∀ write, inWindow s addr len write = false → ∃ t, exec (.fwMemoryAccess core addr write len data) s = .next t ∧
      rd t Reg.MGT.FW_FAULT = plusOne (rd s Reg.MGT.FW_FAULT) ∧ rdB t Reg.MGT.FW_FAULT_INFO 31 = true ∧
      (write = false → t.out.fw = List.replicate len 0) ∧ SameMemory s t ∧
      RegsExcept [Reg.MGT.FW_FAULT, Reg.MGT.FW_FAULT_INFO, Reg.MGT.FW_FAULT_ADDR_LO, Reg.MGT.FW_FAULT_ADDR_HI] s t)) ∧
  (∀ (s : State) (addr len : Nat) (data : List Byte), Awake s → s.sec.booted = true → inMem addr len = true →
    (∃ t, exec (.fwMemoryAccess 4 addr false len data) s = .next t ∧ t.out.fw = memRead s addr len ∧ SameMemory s t) ∧
    ∃ t, exec (.fwMemoryAccess 4 addr true len data) s = .next t ∧ memRead t addr len = padTo len data ∧
      MemoryExcept [(addr, len)] s t ∧ t.regs = s.regs) ∧
  (∀ (s : State) (a : Agent) (v : Word), Awake s →
    (Accepts s a Reg.MGT.WDT_KICK .cmd → ∃ t, exec (.wdtKick a v) s = .next t ∧ t.regs = s.regs ∧
      ∀ k, k < 4 → Store.get zeroN t.mgt.kicked k = (if bit v k then s.time.uptime else Store.get zeroN s.mgt.kicked k)) ∧
    (Accepts s a Reg.MGT.TXQ_IDX .cfg → ∃ t, exec (.txqDoorbell a v) s = .next t ∧ rdF t Reg.MGT.TXQ_IDX 15 0 = fld v 15 0 ∧
      rdF t Reg.MGT.TXQ_IDX 31 16 = rdF s Reg.MGT.TXQ_IDX 31 16 ∧ RegsExcept [Reg.MGT.TXQ_IDX] s t ∧
      (rdB s Reg.MGT.TXQ_CFG 0 = false → t.mgt = s.mgt) ∧
      ∀ old n, rdB s Reg.MGT.TXQ_CFG 0 = true → old = rdF s Reg.MGT.TXQ_IDX 15 0 →
        n = min (wrapTo 16 ((fld v 15 0 : Int) - old)) (2 ^ rdF s Reg.MGT.TXQ_CFG 4 1) →
        t.mgt = { s.mgt with txBusy := s.mgt.txBusy ++ (List.range n).map fun j =>
          (beAt (sramRead s (txqDesc s (old + j)) 4) 2 1, beAt (sramRead s (txqDesc s (old + j)) 4) 3 1 % 2, (old + j) % 65536) })) ∧
  (∀ (s : State) (k : Nat), Awake s → k < 4 →
    (watched s k = true →
      (elapsedUs s (Store.get zeroN s.mgt.kicked k) (1000 * rdF s Reg.MGT.WDT_MS 15 0) = true → ∃ t,
        exec (.watchdogExpiry k) s = .next t ∧ running t k = false ∧ rdB t Reg.MGT.CORE_STATUS (4 + k) = true ∧
        t.mgt.waiting = s.mgt.waiting ++ [(k, 0)] ∧ RegsExcept [Reg.MGT.CORE_STATUS] s t) ∧
      (elapsedUs s (Store.get zeroN s.mgt.kicked k) (1000 * rdF s Reg.MGT.WDT_MS 15 0) = false →
        exec (.watchdogExpiry k) s = .next s)) ∧
    (running s k = true → ∃ t, exec (.coreFault k) s = .next t ∧ running t k = false ∧
      t.mgt.waiting = s.mgt.waiting ++ [(k, 1)] ∧ RegsExcept [Reg.MGT.CORE_STATUS] s t) ∧
    (running s k = false → exec (.coreFault k) s = .next s) ∧
    (∀ c, (s.mgt.waiting.find? fun e => e.1 == k) = some (k, c) → s.mgt.restarts = [] → codeIntact s = false →
      ∃ t, exec (.coreRestart k) s = .next t ∧ running t k = running s k ∧ t.mgt.restarts = [] ∧
        rd t Reg.MGT.RESTARTS = rd s Reg.MGT.RESTARTS ∧ (t.mgt.waiting.any fun e => e.1 == k) = false) ∧
    (∀ c, (s.mgt.waiting.find? fun e => e.1 == k) = some (k, c) → s.mgt.restarts = [] → codeIntact s = true →
      ∃ t, exec (.coreRestart k) s = .next t ∧ running t k = true ∧ rdB t Reg.MGT.CORE_STATUS (4 + k) = false ∧
        rd t Reg.MGT.RESTARTS = plusOne (rd s Reg.MGT.RESTARTS) ∧ rd t Reg.MGT.LAST_RESTART = w32 (2 ^ 31 + (k + 4 * c)) ∧
        Store.get zeroN t.mgt.kicked k = s.time.uptime ∧ (t.mgt.waiting.any fun e => e.1 == k) = false) ∧
    (∀ c l, (s.mgt.waiting.find? fun e => e.1 == k) = some (k, c) → s.mgt.restarts = l → 4 ≤ l.length →
      (∀ e, e ∈ l → e.1 = k ∧ elapsedUs s e.2 60000000 = false) → ∃ t, exec (.coreRestart k) s = .next t ∧
        running t k = running s k ∧ rdB t Reg.MGT.CORE_STATUS (8 + k) = true ∧ t.mgt.restarts = l)) ∧
  ∀ (s : State) (p kind : Nat), Awake s →
    ((s.mgt.txBusy.find? fun e => e.1 == p && e.2.1 == kind) = none → exec (.transmitDone p kind) s = .next s) ∧
    ∀ e, (s.mgt.txBusy.find? fun e => e.1 == p && e.2.1 == kind) = some e → p < 16 → ∃ t, exec (.transmitDone p kind) s = .next t ∧
      t.mgt.txBusy = s.mgt.txBusy.erase e ∧ SameMemory s t ∧ rdF t Reg.MGT.TXQ_IDX 15 0 = rdF s Reg.MGT.TXQ_IDX 15 0 ∧
      RegsExcept [Reg.MGT.TXQ_IDX, Reg.SV.TX_FRAMES p] s t

/-- POWER_ON_RESET, a RESET_N pulse of at least 1 µs, an accepted DEV_RST of 0xA5C3 by the host outside the safe action, loss of
REF_SYS or of a system PLL, a supply dip and a thermal trip (a die sensor at 125 degrees or more for 1 ms; while a reset is held, at
the last sample, log entry 142) each hold the device in reset: registers at their reset words,
apart from RESET_CAUSE, the peaks and the energy, and apart from POR memory as it was; OTP and NOR stay always; the cause adds to
RESET_CAUSE. A pulse below 100 ns and another DEV_RST value reset nothing; firmware's DEV_RST is refused. A thermal trip holds
RESET_N off until the die has cooled; one not due changes nothing, like every command outside its condition (log entry 1).
RESET_RELEASE ends the hold with every PLL locked, not after a trip; without a hold it
changes nothing. -/
def Obligations.DeviceResets : Prop :=
  (∀ (s : State) (c : Instr) (b : Nat),
    (c = .refSysLoss .pll ∧ b = 3 ∨ c = .refSysLoss .ref ∧ b = 4 ∨ c = .supplyDip ∧ b = 6 ∨ (∃ h, s.rst.hot = some h ∧ (s.rst.held = true ∨ elapsedUs s h 1000 = true) ∧ c = .thermalTrip ∧ b = 5) ∨
      (∃ ns, c = .resetPin ns ∧ 1000 ≤ ns ∧ (s.rst.tripped = false ∨ s.rst.cool = true) ∧ b = 1) ∨
      (Awake s ∧ Accepts s .host Reg.CRU.DEV_RST .cmd ∧ safe s Page.CRU = false ∧ c = .devRst .host 0xA5C3 ∧ b = 2)) →
    ∃ t, exec c s = .next t ∧ t.rst.held = true ∧ t.otp = s.otp ∧ t.nor = s.nor ∧ SameMemory s t ∧
      t.pending = s.pending ∧ rd t Reg.CRU.RESET_CAUSE = setBit (rd s Reg.CRU.RESET_CAUSE) b true ∧
      (∀ x, x ∉ keptRegs → rd t x = resetWord x) ∧ (∀ x, x ∈ keptRegs → x ≠ Reg.CRU.RESET_CAUSE → rd t x = rd s x) ∧
      t.sec = State.reset.sec ∧ t.ports = [] ∧ t.rst.pcieUp = false ∧
      (c = .thermalTrip → t.rst.tripped = true ∧ t.rst.cool = false) ∧ (c = .refSysLoss .ref → t.rst.refSys = false)) ∧
  (∀ s : State, ∃ t, exec .powerOnReset s = .next t ∧ t.rst.held = true ∧ t.rst.por = true ∧ t.otp = s.otp ∧ t.nor = s.nor ∧
    (∀ x, rd t x = resetWord x) ∧ (∀ x, memByte t x = memDefault x) ∧ t.pending = s.pending) ∧
  (∀ s : State, (∀ h, s.rst.hot = some h → s.rst.held = false ∧ elapsedUs s h 1000 = false) → exec .thermalTrip s = .next s) ∧
  (∀ (s : State) (ns : Nat),
    ((ns < 100 ∨ s.rst.tripped = true ∧ s.rst.cool = false) → exec (.resetPin ns) s = .next s)) ∧
  (∀ (s : State) (a : Agent) (v : Word), Awake s → Accepts s a Reg.CRU.DEV_RST .cmd →
    (v ≠ 0xA5C3 → a ≠ .fw → exec (.devRst a v) s = .next (touchSession s a (pageOf Reg.CRU.DEV_RST) s)) ∧
    (a = .fw → ∃ t, exec (.devRst a v) s = .next t ∧ t.rst = s.rst ∧
      rd t (Reg.HDR.PAGE_LOCK_VIOL Page.CRU) = plusOne (rd s (Reg.HDR.PAGE_LOCK_VIOL Page.CRU)))) ∧
  ∀ s : State,
    (s.rst.held = false ∨ s.rst.tripped = true → exec .resetRelease s = .next s) ∧
    (s.rst.held = true → s.rst.tripped = false → ∃ t, exec .resetRelease s = .next t ∧ Awake t ∧ t.rst.sysLock = true ∧
      t.rst.octets = 0xFFFFFFFF ∧ t.rst.igs = 0xFFFF ∧ t = { s with rst := t.rst })

/-- OCTET_PLL_UNLOCK of a locked PLL brings down the octet's eight ports and no other, and counts (for a PLL not locked it changes
nothing: log entry 1); a relock marks it locked; likewise for ingest ports. REF_SDI_LOSS leaves no SDI input locked; references return. PCIE_DOMAIN_RESET closes the session and brings the link
down, and its release lets the link train after boot; these four act while a device reset is held too. SRAM_INIT_DONE and HBM_TRAINED show what is done; a retraining stack
shows it and counts, and its end clears it. STANDBY_ENTER, accepted, in ACTIVE and outside CRU's safe action, begins the entry,
stops every sequencer and takes every port's link down; the transition's end reaches STANDBY; STANDBY_LEAVE begins the way
back, which ends in ACTIVE. That a transition's end in ACTIVE changes nothing is the model's choice (log entry 1). -/
def Obligations.ClocksLinksAndStandby : Prop :=
  (∀ (s : State) (o : Nat), Awake s → o < 32 →
    (bit s.rst.octets o = false → exec (.octetPllUnlock o) s = .next s) ∧
    (bit s.rst.octets o = true → ∃ t, exec (.octetPllUnlock o) s = .next t ∧ bit t.rst.octets o = false ∧
      rd t Reg.CRU.OCTET_UNLOCKS = plusOne (rd s Reg.CRU.OCTET_UNLOCKS) ∧ RegsExcept [Reg.CRU.OCTET_UNLOCKS] s t ∧
      ∀ p, (p / 8 = o → (port t p).linkUp = false ∧ (port t p).lock = false ∧ (port t p).run = (port s p).run) ∧
        (p / 8 ≠ o → port t p = port s p)) ∧
    (∃ t, exec (.octetPllRelock o) s = .next t ∧ bit t.rst.octets o = true ∧ t = { s with rst := t.rst })) ∧
  (∀ (s : State) (i : Nat), Awake s → i < 16 →
    (bit s.rst.igs i = false → exec (.igPllUnlock i) s = .next s) ∧
    (bit s.rst.igs i = true → ∃ t, exec (.igPllUnlock i) s = .next t ∧ bit t.rst.igs i = false ∧ t.regs = s.regs ∧
      Store.get (fun _ => (false, false, 0)) t.ing.igLink i = (false, false, 0)) ∧
    (∃ t, exec (.igPllRelock i) s = .next t ∧ bit t.rst.igs i = true ∧ t = { s with rst := t.rst })) ∧
  (∀ s : State,
    (∃ t, exec .refSdiLoss s = .next t ∧ t.rst.refSdi = false ∧ (Awake s → ∀ i, i < 8 → (sdiState t i).2.1 = false)) ∧
    (∃ t, exec .refSdiReturn s = .next t ∧ t = { s with rst := { s.rst with refSdi := true } }) ∧
    (∀ why, ∃ t, exec (.pcieDomainReset why) s = .next t ∧ t.rst.pcieUp = false ∧ t.rst.pcieHold = true ∧
      (Awake s → t.sec.sess = none) ∧ t.pcie.link = State.reset.pcie.link ∧
      t.pcie.cfg = State.reset.pcie.cfg ∧ t.rst.refPcie = (s.rst.refPcie && why != .refLoss) ∧ RegsExcept [Reg.AUD.LOST] s t) ∧
    (∃ t, exec .pcieDomainRelease s = .next t ∧ t.rst.refPcie = true ∧ t.rst.pcieHold = false ∧
      t.rst.pcieUp = (s.sec.booted && !s.rst.held) ∧ t = { s with rst := t.rst })) ∧
  (∀ s : State, Awake s →
    (∃ t, exec .sramInitDone s = .next t ∧ t = { s with rst := { s.rst with sramDone := true } }) ∧
    (∃ t, exec .hbmTrained s = .next t ∧ t.rst.hbmDone = true ∧ (∀ k, k < 4 → rdB t (Reg.MEM.MEM_STATUS k) 0 = true) ∧
      RegsExcept ((List.range 4).map Reg.MEM.MEM_STATUS) s t) ∧
    (∀ k, k < 4 → (∃ t, exec (.hbmRetrain k) s = .next t ∧ rdB t (Reg.MEM.MEM_STATUS k) 1 = true ∧
        rd t (Reg.MEM.RETRAINS k) = plusOne (rd s (Reg.MEM.RETRAINS k)) ∧
        RegsExcept [Reg.MEM.MEM_STATUS k, Reg.MEM.RETRAINS k] s t) ∧
      (∃ t, exec (.hbmRetrainingDone k) s = .next t ∧ rdB t (Reg.MEM.MEM_STATUS k) 1 = false ∧
        RegsExcept [Reg.MEM.MEM_STATUS k] s t)) ∧
    (∃ t, exec .standbyTransitionDone s = .next t ∧ t.regs = s.regs ∧
      (s.rst.pwr = .entering → s.rst.pwrNext = none → t.rst.pwr = .standby) ∧
      (s.rst.pwr = .leaving → s.rst.pwrNext = none → t.rst.pwr = .active) ∧ (s.rst.pwr = .active → t = s))) ∧
  ∀ (s : State) (a : Agent) (v : Word), Awake s → Accepts s a Reg.CRU.PWR_CTRL .cfg → safe s Page.CRU = false →
    (bit v 0 = true → s.rst.pwr = .active → ∃ t, exec (.standbyEnter a v) s = .next t ∧ t.rst.pwr = .entering ∧
      rd t Reg.CRU.PWR_CTRL = v &&& 1 ∧ RegsExcept [Reg.CRU.PWR_CTRL] s t ∧ t.twn.link0 = false ∧ t.twn.link1 = false ∧
      ∀ p, p < 256 → (port t p).run = none ∧ (port t p).send = none ∧ (port t p).linkUp = false) ∧
    (bit v 0 = false → s.rst.pwr = .standby → ∃ t, exec (.standbyLeave a v) s = .next t ∧ t.rst.pwr = .leaving ∧
      RegsExcept [Reg.CRU.PWR_CTRL] s t)

/-- In or out of reset: RAIL_SAMPLE shows nine voltages and six currents, POWER_SAMPLE the power, its peak and the energy,
TEMPERATURE_SAMPLE the hottest die sensor with its index and its peak, FREQUENCY_MEASUREMENT seventy frequencies, each limited to
its field; whether that sensor has cooled below 105 degrees, and since when it is at 125 or more, is known from then on; REF_AON is lost and returns. COMPLETION_TIMEOUT counts. No other register changes. -/
def Obligations.SensorsAndTimeouts : Prop :=
  (∀ (s : State) (mv ma : List Nat), ∃ t, exec (.railSample mv ma) s = .next t ∧
    (∀ r, r < 9 → rdN t (Reg.PWR.RAIL_V r) = min 0xFFFF (mv.getD r 0)) ∧
    (∀ r, r < 6 → rdN t (Reg.PWR.RAIL_I r) = min 0xFFFFF (ma.getD r 0)) ∧
    RegsExcept ((List.range 9).map Reg.PWR.RAIL_V ++ (List.range 6).map Reg.PWR.RAIL_I) s t ∧
    t = { s with regs := t.regs, par := t.par }) ∧
  (∀ (s : State) (mw mj : Nat), ∃ t, exec (.powerSample mw mj) s = .next t ∧ rdN t Reg.PWR.POWER = min 0xFFFFF mw ∧
    rdN t Reg.PWR.POWER_PEAK = max (rdN s Reg.PWR.POWER_PEAK) (min 0xFFFFF mw) ∧
    rd64 t Reg.PWR.ENERGY_LO Reg.PWR.ENERGY_HI = min (2 ^ 64 - 1) (rd64 s Reg.PWR.ENERGY_LO Reg.PWR.ENERGY_HI + mj) ∧
    RegsExcept [Reg.PWR.POWER, Reg.PWR.POWER_PEAK, Reg.PWR.ENERGY_LO, Reg.PWR.ENERGY_HI] s t ∧
    t = { s with regs := t.regs, par := t.par }) ∧
  (∀ (s : State) (dies : List (BitVec 16)) (hbms : List Nat), dies.length = 16 → ∃ t,
    exec (.temperatureSample dies hbms) s = .next t ∧
    (∃ (i : Nat) (x : BitVec 16), dies[i]? = some x ∧ rdF t Reg.PWR.TEMP_MAX 15 0 = x.toNat ∧ rdF t Reg.PWR.TEMP_MAX 19 16 = i ∧
      t.rst = { s.rst with cool := decide (x.toInt < 1680)
                           hot := if 2000 ≤ x.toInt then some (s.rst.hot.getD s.time.uptime) else none } ∧ ∀ y, y ∈ dies → y.toInt ≤ x.toInt) ∧
    (∀ k, k < 4 → rdF t (Reg.MEM.MEM_STATUS k) 15 8 = min 255 (hbms.getD k 0)) ∧
    RegsExcept (Reg.PWR.TEMP_MAX :: Reg.PWR.TEMP_PEAK :: (List.range 4).map Reg.MEM.MEM_STATUS) s t) ∧
  (∀ (s : State) (khz : List Nat), ∃ t, exec (.frequencyMeasurement khz) s = .next t ∧
    (∀ d, d < 70 → rdN t (Reg.CRU.DOM_FREQ d) = min 0xFFFFFF (khz.getD d 0)) ∧
    RegsExcept ((List.range 70).map Reg.CRU.DOM_FREQ) s t) ∧
  (∀ s : State, ∃ t u, exec .refAonLoss s = .next t ∧ exec .refAonReturn s = .next u ∧
    t = { s with rst := { s.rst with refAon := false } } ∧ u = { s with rst := { s.rst with refAon := true } }) ∧
  ∀ s : State, Awake s → ∃ t, exec .completionTimeout s = .next t ∧ rd t Reg.GBL.HOST_CPL_TMO = plusOne (rd s Reg.GBL.HOST_CPL_TMO) ∧
    RegsExcept [Reg.GBL.HOST_CPL_TMO] s t ∧ t = { s with regs := t.regs, par := t.par, icu := t.icu }
end

