-- ==== Sys2Proof/Laws/Bits.lean ====
section
/-! SUPPORT. What the bit and field updates of a register word read back as. -/

namespace Sys2Proof.Machine

theorem bit_eq_getLsbD (w : Word) (b : Nat) : bit w b = w.getLsbD b := rfl

/-- A written field keeps the bits below it, shows the new value, and keeps the bits above it. -/
theorem toNat_setFld (w : Word) (hi lo v : Nat) (h : lo ≤ hi) (h32 : hi < 32) :
    (setFld w hi lo v).toNat =
      (w.toNat / 2 ^ (hi + 1)) * 2 ^ (hi + 1) + (v % 2 ^ (hi + 1 - lo)) * 2 ^ lo + w.toNat % 2 ^ lo := by
  unfold setFld fld
  have hw := w.isLt
  generalize w.toNat = x at *
  obtain ⟨d, hd⟩ : ∃ d, hi + 1 = lo + d := ⟨hi + 1 - lo, by omega⟩
  rw [hd, show lo + d - lo = d by omega]
  have e1 : x = x / 2 ^ lo * 2 ^ lo + x % 2 ^ lo := (Nat.div_add_mod' x _).symm
  have e2 : x / 2 ^ lo = x / 2 ^ lo / 2 ^ d * 2 ^ d + x / 2 ^ lo % 2 ^ d := (Nat.div_add_mod' _ _).symm
  have e3 : x / 2 ^ lo / 2 ^ d = x / 2 ^ (lo + d) := by rw [Nat.div_div_eq_div_mul, pow_add]
  have e4 : x - x / 2 ^ lo % 2 ^ d * 2 ^ lo = x / 2 ^ (lo + d) * 2 ^ (lo + d) + x % 2 ^ lo := by
    have : x = (x / 2 ^ (lo + d) * 2 ^ d + x / 2 ^ lo % 2 ^ d) * 2 ^ lo + x % 2 ^ lo := by
      rw [← e3, ← e2, ← e1]
    have h5 : x / 2 ^ (lo + d) * 2 ^ (lo + d) = x / 2 ^ (lo + d) * 2 ^ d * 2 ^ lo := by rw [pow_add]; ring
    rw [Nat.add_mul] at this
    omega
  rw [e4, BitVec.toNat_ofNat, Nat.mod_eq_of_lt]
  · omega
  · have hv : v % 2 ^ d < 2 ^ d := Nat.mod_lt _ (Nat.two_pow_pos _)
    have hr : x % 2 ^ lo < 2 ^ lo := Nat.mod_lt _ (Nat.two_pow_pos _)
    obtain ⟨q, hq⟩ : ∃ q, 2 ^ 32 = q * 2 ^ (lo + d) :=
      ⟨2 ^ (32 - (lo + d)), by rw [← pow_add]; congr 1; omega⟩
    have hlt : x / 2 ^ (lo + d) + 1 ≤ q := by
      rw [Nat.succ_le_iff, Nat.div_lt_iff_lt_mul (Nat.two_pow_pos _), ← hq]; exact hw
    have : (x / 2 ^ (lo + d) + 1) * 2 ^ (lo + d) ≤ q * 2 ^ (lo + d) := Nat.mul_le_mul_right _ hlt
    have h6 : (v % 2 ^ d + 1) * 2 ^ lo ≤ 2 ^ d * 2 ^ lo := Nat.mul_le_mul_right _ hv
    rw [hq]
    rw [Nat.add_mul] at this h6
    have h7 : 2 ^ d * 2 ^ lo = 2 ^ (lo + d) := by rw [pow_add]; ring
    omega

/-- A written field reads as the value modulo its width. -/
theorem fld_setFld_same (w : Word) (hi lo v : Nat) (h : lo ≤ hi) (h32 : hi < 32) :
    fld (setFld w hi lo v) hi lo = v % 2 ^ (hi + 1 - lo) := by
  have hr : w.toNat % 2 ^ lo < 2 ^ lo := Nat.mod_lt _ (Nat.two_pow_pos _)
  rw [fld, toNat_setFld w hi lo v h h32]
  obtain ⟨d, hd⟩ : ∃ d, hi + 1 = lo + d := ⟨hi + 1 - lo, by omega⟩
  rw [hd, show lo + d - lo = d by omega, pow_add,
    show w.toNat / (2 ^ lo * 2 ^ d) * (2 ^ lo * 2 ^ d) + v % 2 ^ d * 2 ^ lo + w.toNat % 2 ^ lo =
      (w.toNat / (2 ^ lo * 2 ^ d) * 2 ^ d + v % 2 ^ d) * 2 ^ lo + w.toNat % 2 ^ lo by ring,
    Nat.add_comm, Nat.add_mul_div_right _ _ (Nat.two_pow_pos _), Nat.div_eq_of_lt hr, Nat.zero_add, Nat.add_comm,
    Nat.add_mul_mod_self_right, Nat.mod_mod]

/-- Bits outside a written field are as before. -/
theorem bit_setFld_other (w : Word) (hi lo v b : Nat) (h : lo ≤ hi) (h32 : hi < 32) (hb : b < lo ∨ hi < b) :
    bit (setFld w hi lo v) b = bit w b := by
  have hr : w.toNat % 2 ^ lo < 2 ^ lo := Nat.mod_lt _ (Nat.two_pow_pos _)
  unfold bit
  rw [toNat_setFld w hi lo v h h32]
  obtain ⟨d, hd⟩ : ∃ d, hi + 1 = lo + d := ⟨hi + 1 - lo, by omega⟩
  rw [hd, show lo + d - lo = d by omega, pow_add]
  rcases hb with hb | hb
  · rw [show w.toNat / (2 ^ lo * 2 ^ d) * (2 ^ lo * 2 ^ d) + v % 2 ^ d * 2 ^ lo + w.toNat % 2 ^ lo =
      2 ^ lo * (w.toNat / (2 ^ lo * 2 ^ d) * 2 ^ d + v % 2 ^ d) + w.toNat % 2 ^ lo by ring,
      Nat.testBit_two_pow_mul_add _ hr, if_pos hb, Nat.testBit_mod_two_pow, decide_eq_true hb, Bool.true_and]
  · have hv : v % 2 ^ d < 2 ^ d := Nat.mod_lt _ (Nat.two_pow_pos _)
    have hs : v % 2 ^ d * 2 ^ lo + w.toNat % 2 ^ lo < 2 ^ lo * 2 ^ d := by
      have h6 : (v % 2 ^ d + 1) * 2 ^ lo ≤ 2 ^ d * 2 ^ lo := Nat.mul_le_mul_right _ hv
      rw [Nat.add_mul] at h6
      rw [Nat.mul_comm (2 ^ lo) (2 ^ d)]
      omega
    rw [← pow_add] at hs ⊢
    rw [Nat.add_assoc, Nat.mul_comm (w.toNat / _), Nat.testBit_two_pow_mul_add _ hs, if_neg (by omega),
      Nat.testBit_div_two_pow]
    congr 1
    omega

/-- A written bit reads as it was written. -/
@[simp] theorem bit_setBit_same (w : Word) (b : Nat) (v : Bool) (h : b < 32) : bit (setBit w b v) b = v := by
  have k := fld_setFld_same w b b v.toNat (Nat.le_refl _) h
  unfold setBit bit
  rw [Nat.testBit_eq_decide_div_mod_eq]
  simp only [fld, Nat.add_sub_cancel_left, pow_one] at k
  rw [k]
  cases v <;> rfl

/-- The other bits are as before. -/
theorem bit_setBit_other (w : Word) (b c : Nat) (v : Bool) (h : b < 32) (hc : c ≠ b) : bit (setBit w b v) c = bit w c :=
  bit_setFld_other w b b v.toNat c (Nat.le_refl _) h (by omega)

end Sys2Proof.Machine
end

