-- ==== Sys2Proof/Laws/Store.lean ====
section
/-! SUPPORT. The laws of a store: what a write leaves to read at its own key and at every other, for any list whatever; and that
every operation keeps the canonical form. -/

namespace Sys2Proof.Machine

section
variable {α : Type} (d : Nat → α)

theorem Store.get_nil (k : Nat) : Store.get d [] k = d k := rfl

theorem Store.get_insert_same (m : Store α) (k : Nat) (v : α) : Store.get d (Store.insert k v m) k = v := by
  induction m with
  | nil => simp [Store.insert, Store.get]
  | cons e m ih =>
    obtain ⟨j, w⟩ := e
    simp only [Store.insert]
    split
    · simp [Store.get]
    · split
      · simp [Store.get]
      · simp [Store.get, *]

theorem Store.get_insert_other (m : Store α) (k i : Nat) (v : α) (h : i ≠ k) :
    Store.get d (Store.insert k v m) i = Store.get d m i := by
  have h' : ¬ k = i := fun e => h e.symm
  induction m with
  | nil => simp [Store.insert, Store.get, h']
  | cons e m ih =>
    obtain ⟨j, w⟩ := e
    simp only [Store.insert]
    split
    · simp [Store.get, h']
    · split
      · rename_i hj
        subst hj
        simp [Store.get, h']
      · simp [Store.get, ih]

theorem Store.get_erase_same (m : Store α) (k : Nat) : Store.get d (Store.erase k m) k = d k := by
  induction m with
  | nil => rfl
  | cons e m ih =>
    obtain ⟨j, w⟩ := e
    simp only [Store.erase]
    split
    · exact ih
    · simp [Store.get, *]

theorem Store.get_erase_other (m : Store α) (k i : Nat) (h : i ≠ k) :
    Store.get d (Store.erase k m) i = Store.get d m i := by
  induction m with
  | nil => rfl
  | cons e m ih =>
    obtain ⟨j, w⟩ := e
    simp only [Store.erase]
    split
    · rename_i hj
      subst hj
      simp [Store.get, ih, Ne.symm h]
    · simp [Store.get, ih]

variable [DecidableEq α]

/-- A store reads back what was written. -/
@[simp] theorem Store.get_set_same (m : Store α) (k : Nat) (v : α) : Store.get d (Store.set d m k v) k = v := by
  simp only [Store.set]
  split
  · rw [Store.get_erase_same]; exact Eq.symm ‹_›
  · exact Store.get_insert_same d m k v

/-- A write leaves every other key alone. -/
theorem Store.get_set_other (m : Store α) (k i : Nat) (v : α) (h : i ≠ k) :
    Store.get d (Store.set d m k v) i = Store.get d m i := by
  simp only [Store.set]
  split
  · exact Store.get_erase_other d m k i h
  · exact Store.get_insert_other d m k i v h

/-- Both at once. -/
theorem Store.get_set (m : Store α) (k i : Nat) (v : α) :
    Store.get d (Store.set d m k v) i = if i = k then v else Store.get d m i := by
  split
  · rename_i h; subst h; exact Store.get_set_same d m i v
  · exact Store.get_set_other d m k i v ‹_›

/-- A run of writes reads back inside it and leaves the rest alone. -/
theorem Store.get_setList (m : Store α) (k i : Nat) (vs : List α) :
    Store.get d (Store.setList d m k vs) i = if h : k ≤ i ∧ i < k + vs.length then vs[i - k] else Store.get d m i := by
  induction vs generalizing m k with
  | nil =>
    have : ¬ (k ≤ i ∧ i < k + ([] : List α).length) := by simp only [List.length_nil]; omega
    simp only [Store.setList, this, dite_false]
  | cons v vs ih =>
    simp only [Store.setList, ih, Store.get_set, List.length_cons]
    by_cases h1 : i = k
    · subst h1; simp
    · by_cases h2 : k + 1 ≤ i ∧ i < k + 1 + vs.length
      · have h3 : k ≤ i ∧ i < k + (vs.length + 1) := by omega
        simp only [h2, h3, and_self, dite_true]
        have : i - k = (i - (k + 1)) + 1 := by omega
        simp [this]
      · have h3 : ¬ (k ≤ i ∧ i < k + (vs.length + 1)) := by omega
        rw [dif_neg h2, dif_neg h3, if_neg h1]

/-! ### The canonical form -/

theorem Store.wfFrom_mono (m : Store α) (a b : Nat) (h : a ≤ b) (hw : Store.wfFrom d b m = true) : Store.wfFrom d a m = true := by
  cases m with
  | nil => rfl
  | cons e m =>
    obtain ⟨j, w⟩ := e
    simp only [Store.wfFrom, Bool.and_eq_true, decide_eq_true_eq, Bool.not_eq_true', decide_eq_false_iff_not] at hw ⊢
    exact ⟨⟨by omega, hw.1.2⟩, hw.2⟩

theorem Store.wfFrom_insert (m : Store α) (b k : Nat) (v : α) (hb : b ≤ k) (hv : v ≠ d k) (hw : Store.wfFrom d b m = true) :
    Store.wfFrom d b (Store.insert k v m) = true := by
  induction m generalizing b with
  | nil => simp [Store.insert, Store.wfFrom, hb, hv]
  | cons e m ih =>
    obtain ⟨j, w⟩ := e
    simp only [Store.wfFrom, Bool.and_eq_true, decide_eq_true_eq, Bool.not_eq_true', decide_eq_false_iff_not] at hw
    simp only [Store.insert]
    split
    · simp only [Store.wfFrom, Bool.and_eq_true, decide_eq_true_eq, Bool.not_eq_true', decide_eq_false_iff_not]
      exact ⟨⟨hb, hv⟩, ⟨by omega, hw.1.2⟩, hw.2⟩
    · split
      · rename_i h1 h2
        subst h2
        simp only [Store.wfFrom, Bool.and_eq_true, decide_eq_true_eq, Bool.not_eq_true', decide_eq_false_iff_not]
        exact ⟨⟨hb, hv⟩, hw.2⟩
      · simp only [Store.wfFrom, Bool.and_eq_true, decide_eq_true_eq, Bool.not_eq_true', decide_eq_false_iff_not]
        exact ⟨hw.1, ih (j + 1) (by omega) hw.2⟩

theorem Store.wfFrom_erase (m : Store α) (b k : Nat) (hw : Store.wfFrom d b m = true) :
    Store.wfFrom d b (Store.erase k m) = true := by
  induction m generalizing b with
  | nil => rfl
  | cons e m ih =>
    obtain ⟨j, w⟩ := e
    simp only [Store.wfFrom, Bool.and_eq_true, decide_eq_true_eq, Bool.not_eq_true', decide_eq_false_iff_not] at hw
    simp only [Store.erase]
    split
    · exact Store.wfFrom_mono d _ b (j + 1) (by omega) (ih (j + 1) hw.2)
    · simp only [Store.wfFrom, Bool.and_eq_true, decide_eq_true_eq, Bool.not_eq_true', decide_eq_false_iff_not]
      exact ⟨hw.1, ih (j + 1) hw.2⟩

/-- A write keeps the canonical form. -/
theorem Store.wf_set (m : Store α) (k : Nat) (v : α) (hw : Store.wf d m = true) : Store.wf d (Store.set d m k v) = true := by
  simp only [Store.set, Store.wf]
  split
  · exact Store.wfFrom_erase d m 0 k hw
  · exact Store.wfFrom_insert d m 0 k v (by omega) ‹_› hw

/-- A run of writes keeps the canonical form. -/
theorem Store.wf_setList (m : Store α) (k : Nat) (vs : List α) (hw : Store.wf d m = true) :
    Store.wf d (Store.setList d m k vs) = true := by
  induction vs generalizing m k with
  | nil => exact hw
  | cons v vs ih => exact ih _ _ (Store.wf_set d m k v hw)

/-- Changing every value keeps the canonical form. -/
theorem Store.wfFrom_mapV (f : α → α) (m : Store α) (b : Nat) (hw : Store.wfFrom d b m = true) :
    Store.wfFrom d b (Store.mapV d f m) = true := by
  induction m generalizing b with
  | nil => rfl
  | cons e m ih =>
    obtain ⟨j, w⟩ := e
    simp only [Store.wfFrom, Bool.and_eq_true, decide_eq_true_eq, Bool.not_eq_true', decide_eq_false_iff_not] at hw
    simp only [Store.mapV]
    split
    · exact Store.wfFrom_mono d _ b (j + 1) (by omega) (ih (j + 1) hw.2)
    · simp only [Store.wfFrom, Bool.and_eq_true, decide_eq_true_eq, Bool.not_eq_true', decide_eq_false_iff_not]
      exact ⟨⟨hw.1.1, ‹_›⟩, ih (j + 1) hw.2⟩

end

end Sys2Proof.Machine
end

