-- ==== Sys2Proof/Laws/State.lean ====
section
/-! SUPPORT. One lemma per field for each plain update of the state, and what a register, a port, a stream, an awning or a channel
reads as after it. -/

namespace Sys2Proof.Machine

/-! ### wr -/

@[simp] theorem wr_pending (s : State) (a : Nat) (v : Word) : (wr s a v).pending = s.pending := (rfl)
@[simp] theorem wr_free (s : State) (a : Nat) (v : Word) : (wr s a v).free = s.free := (rfl)
@[simp] theorem wr_ptrs (s : State) (a : Nat) (v : Word) : (wr s a v).ptrs = s.ptrs := (rfl)
@[simp] theorem wr_out (s : State) (a : Nat) (v : Word) : (wr s a v).out = s.out := (rfl)
@[simp] theorem wr_mem (s : State) (a : Nat) (v : Word) : (wr s a v).mem = s.mem := (rfl)
@[simp] theorem wr_poison (s : State) (a : Nat) (v : Word) : (wr s a v).poison = s.poison := (rfl)
@[simp] theorem wr_hostMem (s : State) (a : Nat) (v : Word) : (wr s a v).hostMem = s.hostMem := (rfl)
@[simp] theorem wr_rst (s : State) (a : Nat) (v : Word) : (wr s a v).rst = s.rst := (rfl)
@[simp] theorem wr_pcie (s : State) (a : Nat) (v : Word) : (wr s a v).pcie = s.pcie := (rfl)
@[simp] theorem wr_time (s : State) (a : Nat) (v : Word) : (wr s a v).time = s.time := (rfl)
@[simp] theorem wr_grid (s : State) (a : Nat) (v : Word) : (wr s a v).grid = s.grid := (rfl)
@[simp] theorem wr_ing (s : State) (a : Nat) (v : Word) : (wr s a v).ing = s.ing := (rfl)
@[simp] theorem wr_lyr (s : State) (a : Nat) (v : Word) : (wr s a v).lyr = s.lyr := (rfl)
@[simp] theorem wr_awn (s : State) (a : Nat) (v : Word) : (wr s a v).awn = s.awn := (rfl)
@[simp] theorem wr_spb (s : State) (a : Nat) (v : Word) : (wr s a v).spb = s.spb := (rfl)
@[simp] theorem wr_fab (s : State) (a : Nat) (v : Word) : (wr s a v).fab = s.fab := (rfl)
@[simp] theorem wr_dls (s : State) (a : Nat) (v : Word) : (wr s a v).dls = s.dls := (rfl)
@[simp] theorem wr_lut (s : State) (a : Nat) (v : Word) : (wr s a v).lut = s.lut := (rfl)
@[simp] theorem wr_cal (s : State) (a : Nat) (v : Word) : (wr s a v).cal = s.cal := (rfl)
@[simp] theorem wr_ports (s : State) (a : Nat) (v : Word) : (wr s a v).ports = s.ports := (rfl)
@[simp] theorem wr_twn (s : State) (a : Nat) (v : Word) : (wr s a v).twn = s.twn := (rfl)
@[simp] theorem wr_blt (s : State) (a : Nat) (v : Word) : (wr s a v).blt = s.blt := (rfl)
@[simp] theorem wr_dma (s : State) (a : Nat) (v : Word) : (wr s a v).dma = s.dma := (rfl)
@[simp] theorem wr_icu (s : State) (a : Nat) (v : Word) : (wr s a v).icu = s.icu := (rfl)
@[simp] theorem wr_evf (s : State) (a : Nat) (v : Word) : (wr s a v).evf = s.evf := (rfl)
@[simp] theorem wr_sec (s : State) (a : Nat) (v : Word) : (wr s a v).sec = s.sec := (rfl)
@[simp] theorem wr_otp (s : State) (a : Nat) (v : Word) : (wr s a v).otp = s.otp := (rfl)
@[simp] theorem wr_nor (s : State) (a : Nat) (v : Word) : (wr s a v).nor = s.nor := (rfl)
@[simp] theorem wr_aud (s : State) (a : Nat) (v : Word) : (wr s a v).aud = s.aud := (rfl)
@[simp] theorem wr_mgt (s : State) (a : Nat) (v : Word) : (wr s a v).mgt = s.mgt := (rfl)

/-! ### wrF -/

@[simp] theorem wrF_pending (s : State) (a h l v : Nat) : (wrF s a h l v).pending = s.pending := (rfl)
@[simp] theorem wrF_free (s : State) (a h l v : Nat) : (wrF s a h l v).free = s.free := (rfl)
@[simp] theorem wrF_ptrs (s : State) (a h l v : Nat) : (wrF s a h l v).ptrs = s.ptrs := (rfl)
@[simp] theorem wrF_out (s : State) (a h l v : Nat) : (wrF s a h l v).out = s.out := (rfl)
@[simp] theorem wrF_mem (s : State) (a h l v : Nat) : (wrF s a h l v).mem = s.mem := (rfl)
@[simp] theorem wrF_poison (s : State) (a h l v : Nat) : (wrF s a h l v).poison = s.poison := (rfl)
@[simp] theorem wrF_hostMem (s : State) (a h l v : Nat) : (wrF s a h l v).hostMem = s.hostMem := (rfl)
@[simp] theorem wrF_rst (s : State) (a h l v : Nat) : (wrF s a h l v).rst = s.rst := (rfl)
@[simp] theorem wrF_pcie (s : State) (a h l v : Nat) : (wrF s a h l v).pcie = s.pcie := (rfl)
@[simp] theorem wrF_time (s : State) (a h l v : Nat) : (wrF s a h l v).time = s.time := (rfl)
@[simp] theorem wrF_grid (s : State) (a h l v : Nat) : (wrF s a h l v).grid = s.grid := (rfl)
@[simp] theorem wrF_ing (s : State) (a h l v : Nat) : (wrF s a h l v).ing = s.ing := (rfl)
@[simp] theorem wrF_lyr (s : State) (a h l v : Nat) : (wrF s a h l v).lyr = s.lyr := (rfl)
@[simp] theorem wrF_awn (s : State) (a h l v : Nat) : (wrF s a h l v).awn = s.awn := (rfl)
@[simp] theorem wrF_spb (s : State) (a h l v : Nat) : (wrF s a h l v).spb = s.spb := (rfl)
@[simp] theorem wrF_fab (s : State) (a h l v : Nat) : (wrF s a h l v).fab = s.fab := (rfl)
@[simp] theorem wrF_dls (s : State) (a h l v : Nat) : (wrF s a h l v).dls = s.dls := (rfl)
@[simp] theorem wrF_lut (s : State) (a h l v : Nat) : (wrF s a h l v).lut = s.lut := (rfl)
@[simp] theorem wrF_cal (s : State) (a h l v : Nat) : (wrF s a h l v).cal = s.cal := (rfl)
@[simp] theorem wrF_ports (s : State) (a h l v : Nat) : (wrF s a h l v).ports = s.ports := (rfl)
@[simp] theorem wrF_twn (s : State) (a h l v : Nat) : (wrF s a h l v).twn = s.twn := (rfl)
@[simp] theorem wrF_blt (s : State) (a h l v : Nat) : (wrF s a h l v).blt = s.blt := (rfl)
@[simp] theorem wrF_dma (s : State) (a h l v : Nat) : (wrF s a h l v).dma = s.dma := (rfl)
@[simp] theorem wrF_icu (s : State) (a h l v : Nat) : (wrF s a h l v).icu = s.icu := (rfl)
@[simp] theorem wrF_evf (s : State) (a h l v : Nat) : (wrF s a h l v).evf = s.evf := (rfl)
@[simp] theorem wrF_sec (s : State) (a h l v : Nat) : (wrF s a h l v).sec = s.sec := (rfl)
@[simp] theorem wrF_otp (s : State) (a h l v : Nat) : (wrF s a h l v).otp = s.otp := (rfl)
@[simp] theorem wrF_nor (s : State) (a h l v : Nat) : (wrF s a h l v).nor = s.nor := (rfl)
@[simp] theorem wrF_aud (s : State) (a h l v : Nat) : (wrF s a h l v).aud = s.aud := (rfl)
@[simp] theorem wrF_mgt (s : State) (a h l v : Nat) : (wrF s a h l v).mgt = s.mgt := (rfl)

/-! ### wrB -/

@[simp] theorem wrB_pending (s : State) (a b : Nat) (v : Bool) : (wrB s a b v).pending = s.pending := (rfl)
@[simp] theorem wrB_free (s : State) (a b : Nat) (v : Bool) : (wrB s a b v).free = s.free := (rfl)
@[simp] theorem wrB_ptrs (s : State) (a b : Nat) (v : Bool) : (wrB s a b v).ptrs = s.ptrs := (rfl)
@[simp] theorem wrB_out (s : State) (a b : Nat) (v : Bool) : (wrB s a b v).out = s.out := (rfl)
@[simp] theorem wrB_mem (s : State) (a b : Nat) (v : Bool) : (wrB s a b v).mem = s.mem := (rfl)
@[simp] theorem wrB_poison (s : State) (a b : Nat) (v : Bool) : (wrB s a b v).poison = s.poison := (rfl)
@[simp] theorem wrB_hostMem (s : State) (a b : Nat) (v : Bool) : (wrB s a b v).hostMem = s.hostMem := (rfl)
@[simp] theorem wrB_rst (s : State) (a b : Nat) (v : Bool) : (wrB s a b v).rst = s.rst := (rfl)
@[simp] theorem wrB_pcie (s : State) (a b : Nat) (v : Bool) : (wrB s a b v).pcie = s.pcie := (rfl)
@[simp] theorem wrB_time (s : State) (a b : Nat) (v : Bool) : (wrB s a b v).time = s.time := (rfl)
@[simp] theorem wrB_grid (s : State) (a b : Nat) (v : Bool) : (wrB s a b v).grid = s.grid := (rfl)
@[simp] theorem wrB_ing (s : State) (a b : Nat) (v : Bool) : (wrB s a b v).ing = s.ing := (rfl)
@[simp] theorem wrB_lyr (s : State) (a b : Nat) (v : Bool) : (wrB s a b v).lyr = s.lyr := (rfl)
@[simp] theorem wrB_awn (s : State) (a b : Nat) (v : Bool) : (wrB s a b v).awn = s.awn := (rfl)
@[simp] theorem wrB_spb (s : State) (a b : Nat) (v : Bool) : (wrB s a b v).spb = s.spb := (rfl)
@[simp] theorem wrB_fab (s : State) (a b : Nat) (v : Bool) : (wrB s a b v).fab = s.fab := (rfl)
@[simp] theorem wrB_dls (s : State) (a b : Nat) (v : Bool) : (wrB s a b v).dls = s.dls := (rfl)
@[simp] theorem wrB_lut (s : State) (a b : Nat) (v : Bool) : (wrB s a b v).lut = s.lut := (rfl)
@[simp] theorem wrB_cal (s : State) (a b : Nat) (v : Bool) : (wrB s a b v).cal = s.cal := (rfl)
@[simp] theorem wrB_ports (s : State) (a b : Nat) (v : Bool) : (wrB s a b v).ports = s.ports := (rfl)
@[simp] theorem wrB_twn (s : State) (a b : Nat) (v : Bool) : (wrB s a b v).twn = s.twn := (rfl)
@[simp] theorem wrB_blt (s : State) (a b : Nat) (v : Bool) : (wrB s a b v).blt = s.blt := (rfl)
@[simp] theorem wrB_dma (s : State) (a b : Nat) (v : Bool) : (wrB s a b v).dma = s.dma := (rfl)
@[simp] theorem wrB_icu (s : State) (a b : Nat) (v : Bool) : (wrB s a b v).icu = s.icu := (rfl)
@[simp] theorem wrB_evf (s : State) (a b : Nat) (v : Bool) : (wrB s a b v).evf = s.evf := (rfl)
@[simp] theorem wrB_sec (s : State) (a b : Nat) (v : Bool) : (wrB s a b v).sec = s.sec := (rfl)
@[simp] theorem wrB_otp (s : State) (a b : Nat) (v : Bool) : (wrB s a b v).otp = s.otp := (rfl)
@[simp] theorem wrB_nor (s : State) (a b : Nat) (v : Bool) : (wrB s a b v).nor = s.nor := (rfl)
@[simp] theorem wrB_aud (s : State) (a b : Nat) (v : Bool) : (wrB s a b v).aud = s.aud := (rfl)
@[simp] theorem wrB_mgt (s : State) (a b : Nat) (v : Bool) : (wrB s a b v).mgt = s.mgt := (rfl)

/-! ### orReg -/

@[simp] theorem orReg_pending (s : State) (a : Nat) (m : Word) : (orReg s a m).pending = s.pending := (rfl)
@[simp] theorem orReg_free (s : State) (a : Nat) (m : Word) : (orReg s a m).free = s.free := (rfl)
@[simp] theorem orReg_ptrs (s : State) (a : Nat) (m : Word) : (orReg s a m).ptrs = s.ptrs := (rfl)
@[simp] theorem orReg_out (s : State) (a : Nat) (m : Word) : (orReg s a m).out = s.out := (rfl)
@[simp] theorem orReg_mem (s : State) (a : Nat) (m : Word) : (orReg s a m).mem = s.mem := (rfl)
@[simp] theorem orReg_poison (s : State) (a : Nat) (m : Word) : (orReg s a m).poison = s.poison := (rfl)
@[simp] theorem orReg_hostMem (s : State) (a : Nat) (m : Word) : (orReg s a m).hostMem = s.hostMem := (rfl)
@[simp] theorem orReg_rst (s : State) (a : Nat) (m : Word) : (orReg s a m).rst = s.rst := (rfl)
@[simp] theorem orReg_pcie (s : State) (a : Nat) (m : Word) : (orReg s a m).pcie = s.pcie := (rfl)
@[simp] theorem orReg_time (s : State) (a : Nat) (m : Word) : (orReg s a m).time = s.time := (rfl)
@[simp] theorem orReg_grid (s : State) (a : Nat) (m : Word) : (orReg s a m).grid = s.grid := (rfl)
@[simp] theorem orReg_ing (s : State) (a : Nat) (m : Word) : (orReg s a m).ing = s.ing := (rfl)
@[simp] theorem orReg_lyr (s : State) (a : Nat) (m : Word) : (orReg s a m).lyr = s.lyr := (rfl)
@[simp] theorem orReg_awn (s : State) (a : Nat) (m : Word) : (orReg s a m).awn = s.awn := (rfl)
@[simp] theorem orReg_spb (s : State) (a : Nat) (m : Word) : (orReg s a m).spb = s.spb := (rfl)
@[simp] theorem orReg_fab (s : State) (a : Nat) (m : Word) : (orReg s a m).fab = s.fab := (rfl)
@[simp] theorem orReg_dls (s : State) (a : Nat) (m : Word) : (orReg s a m).dls = s.dls := (rfl)
@[simp] theorem orReg_lut (s : State) (a : Nat) (m : Word) : (orReg s a m).lut = s.lut := (rfl)
@[simp] theorem orReg_cal (s : State) (a : Nat) (m : Word) : (orReg s a m).cal = s.cal := (rfl)
@[simp] theorem orReg_ports (s : State) (a : Nat) (m : Word) : (orReg s a m).ports = s.ports := (rfl)
@[simp] theorem orReg_twn (s : State) (a : Nat) (m : Word) : (orReg s a m).twn = s.twn := (rfl)
@[simp] theorem orReg_blt (s : State) (a : Nat) (m : Word) : (orReg s a m).blt = s.blt := (rfl)
@[simp] theorem orReg_dma (s : State) (a : Nat) (m : Word) : (orReg s a m).dma = s.dma := (rfl)
@[simp] theorem orReg_icu (s : State) (a : Nat) (m : Word) : (orReg s a m).icu = s.icu := (rfl)
@[simp] theorem orReg_evf (s : State) (a : Nat) (m : Word) : (orReg s a m).evf = s.evf := (rfl)
@[simp] theorem orReg_sec (s : State) (a : Nat) (m : Word) : (orReg s a m).sec = s.sec := (rfl)
@[simp] theorem orReg_otp (s : State) (a : Nat) (m : Word) : (orReg s a m).otp = s.otp := (rfl)
@[simp] theorem orReg_nor (s : State) (a : Nat) (m : Word) : (orReg s a m).nor = s.nor := (rfl)
@[simp] theorem orReg_aud (s : State) (a : Nat) (m : Word) : (orReg s a m).aud = s.aud := (rfl)
@[simp] theorem orReg_mgt (s : State) (a : Nat) (m : Word) : (orReg s a m).mgt = s.mgt := (rfl)

/-! ### bumpN -/

@[simp] theorem bumpN_pending (s : State) (a n : Nat) : (bumpN s a n).pending = s.pending := (rfl)
@[simp] theorem bumpN_free (s : State) (a n : Nat) : (bumpN s a n).free = s.free := (rfl)
@[simp] theorem bumpN_ptrs (s : State) (a n : Nat) : (bumpN s a n).ptrs = s.ptrs := (rfl)
@[simp] theorem bumpN_out (s : State) (a n : Nat) : (bumpN s a n).out = s.out := (rfl)
@[simp] theorem bumpN_mem (s : State) (a n : Nat) : (bumpN s a n).mem = s.mem := (rfl)
@[simp] theorem bumpN_poison (s : State) (a n : Nat) : (bumpN s a n).poison = s.poison := (rfl)
@[simp] theorem bumpN_hostMem (s : State) (a n : Nat) : (bumpN s a n).hostMem = s.hostMem := (rfl)
@[simp] theorem bumpN_rst (s : State) (a n : Nat) : (bumpN s a n).rst = s.rst := (rfl)
@[simp] theorem bumpN_pcie (s : State) (a n : Nat) : (bumpN s a n).pcie = s.pcie := (rfl)
@[simp] theorem bumpN_time (s : State) (a n : Nat) : (bumpN s a n).time = s.time := (rfl)
@[simp] theorem bumpN_grid (s : State) (a n : Nat) : (bumpN s a n).grid = s.grid := (rfl)
@[simp] theorem bumpN_ing (s : State) (a n : Nat) : (bumpN s a n).ing = s.ing := (rfl)
@[simp] theorem bumpN_lyr (s : State) (a n : Nat) : (bumpN s a n).lyr = s.lyr := (rfl)
@[simp] theorem bumpN_awn (s : State) (a n : Nat) : (bumpN s a n).awn = s.awn := (rfl)
@[simp] theorem bumpN_spb (s : State) (a n : Nat) : (bumpN s a n).spb = s.spb := (rfl)
@[simp] theorem bumpN_fab (s : State) (a n : Nat) : (bumpN s a n).fab = s.fab := (rfl)
@[simp] theorem bumpN_dls (s : State) (a n : Nat) : (bumpN s a n).dls = s.dls := (rfl)
@[simp] theorem bumpN_lut (s : State) (a n : Nat) : (bumpN s a n).lut = s.lut := (rfl)
@[simp] theorem bumpN_cal (s : State) (a n : Nat) : (bumpN s a n).cal = s.cal := (rfl)
@[simp] theorem bumpN_ports (s : State) (a n : Nat) : (bumpN s a n).ports = s.ports := (rfl)
@[simp] theorem bumpN_twn (s : State) (a n : Nat) : (bumpN s a n).twn = s.twn := (rfl)
@[simp] theorem bumpN_blt (s : State) (a n : Nat) : (bumpN s a n).blt = s.blt := (rfl)
@[simp] theorem bumpN_dma (s : State) (a n : Nat) : (bumpN s a n).dma = s.dma := (rfl)
@[simp] theorem bumpN_icu (s : State) (a n : Nat) : (bumpN s a n).icu = s.icu := (rfl)
@[simp] theorem bumpN_evf (s : State) (a n : Nat) : (bumpN s a n).evf = s.evf := (rfl)
@[simp] theorem bumpN_sec (s : State) (a n : Nat) : (bumpN s a n).sec = s.sec := (rfl)
@[simp] theorem bumpN_otp (s : State) (a n : Nat) : (bumpN s a n).otp = s.otp := (rfl)
@[simp] theorem bumpN_nor (s : State) (a n : Nat) : (bumpN s a n).nor = s.nor := (rfl)
@[simp] theorem bumpN_aud (s : State) (a n : Nat) : (bumpN s a n).aud = s.aud := (rfl)
@[simp] theorem bumpN_mgt (s : State) (a n : Nat) : (bumpN s a n).mgt = s.mgt := (rfl)

/-! ### bump -/

@[simp] theorem bump_pending (s : State) (a : Nat) : (bump s a).pending = s.pending := (rfl)
@[simp] theorem bump_free (s : State) (a : Nat) : (bump s a).free = s.free := (rfl)
@[simp] theorem bump_ptrs (s : State) (a : Nat) : (bump s a).ptrs = s.ptrs := (rfl)
@[simp] theorem bump_out (s : State) (a : Nat) : (bump s a).out = s.out := (rfl)
@[simp] theorem bump_mem (s : State) (a : Nat) : (bump s a).mem = s.mem := (rfl)
@[simp] theorem bump_poison (s : State) (a : Nat) : (bump s a).poison = s.poison := (rfl)
@[simp] theorem bump_hostMem (s : State) (a : Nat) : (bump s a).hostMem = s.hostMem := (rfl)
@[simp] theorem bump_rst (s : State) (a : Nat) : (bump s a).rst = s.rst := (rfl)
@[simp] theorem bump_pcie (s : State) (a : Nat) : (bump s a).pcie = s.pcie := (rfl)
@[simp] theorem bump_time (s : State) (a : Nat) : (bump s a).time = s.time := (rfl)
@[simp] theorem bump_grid (s : State) (a : Nat) : (bump s a).grid = s.grid := (rfl)
@[simp] theorem bump_ing (s : State) (a : Nat) : (bump s a).ing = s.ing := (rfl)
@[simp] theorem bump_lyr (s : State) (a : Nat) : (bump s a).lyr = s.lyr := (rfl)
@[simp] theorem bump_awn (s : State) (a : Nat) : (bump s a).awn = s.awn := (rfl)
@[simp] theorem bump_spb (s : State) (a : Nat) : (bump s a).spb = s.spb := (rfl)
@[simp] theorem bump_fab (s : State) (a : Nat) : (bump s a).fab = s.fab := (rfl)
@[simp] theorem bump_dls (s : State) (a : Nat) : (bump s a).dls = s.dls := (rfl)
@[simp] theorem bump_lut (s : State) (a : Nat) : (bump s a).lut = s.lut := (rfl)
@[simp] theorem bump_cal (s : State) (a : Nat) : (bump s a).cal = s.cal := (rfl)
@[simp] theorem bump_ports (s : State) (a : Nat) : (bump s a).ports = s.ports := (rfl)
@[simp] theorem bump_twn (s : State) (a : Nat) : (bump s a).twn = s.twn := (rfl)
@[simp] theorem bump_blt (s : State) (a : Nat) : (bump s a).blt = s.blt := (rfl)
@[simp] theorem bump_dma (s : State) (a : Nat) : (bump s a).dma = s.dma := (rfl)
@[simp] theorem bump_icu (s : State) (a : Nat) : (bump s a).icu = s.icu := (rfl)
@[simp] theorem bump_evf (s : State) (a : Nat) : (bump s a).evf = s.evf := (rfl)
@[simp] theorem bump_sec (s : State) (a : Nat) : (bump s a).sec = s.sec := (rfl)
@[simp] theorem bump_otp (s : State) (a : Nat) : (bump s a).otp = s.otp := (rfl)
@[simp] theorem bump_nor (s : State) (a : Nat) : (bump s a).nor = s.nor := (rfl)
@[simp] theorem bump_aud (s : State) (a : Nat) : (bump s a).aud = s.aud := (rfl)
@[simp] theorem bump_mgt (s : State) (a : Nat) : (bump s a).mgt = s.mgt := (rfl)

/-! ### bump64 -/

@[simp] theorem bump64_pending (s : State) (l h n : Nat) : (bump64 s l h n).pending = s.pending := (rfl)
@[simp] theorem bump64_free (s : State) (l h n : Nat) : (bump64 s l h n).free = s.free := (rfl)
@[simp] theorem bump64_ptrs (s : State) (l h n : Nat) : (bump64 s l h n).ptrs = s.ptrs := (rfl)
@[simp] theorem bump64_out (s : State) (l h n : Nat) : (bump64 s l h n).out = s.out := (rfl)
@[simp] theorem bump64_mem (s : State) (l h n : Nat) : (bump64 s l h n).mem = s.mem := (rfl)
@[simp] theorem bump64_poison (s : State) (l h n : Nat) : (bump64 s l h n).poison = s.poison := (rfl)
@[simp] theorem bump64_hostMem (s : State) (l h n : Nat) : (bump64 s l h n).hostMem = s.hostMem := (rfl)
@[simp] theorem bump64_rst (s : State) (l h n : Nat) : (bump64 s l h n).rst = s.rst := (rfl)
@[simp] theorem bump64_pcie (s : State) (l h n : Nat) : (bump64 s l h n).pcie = s.pcie := (rfl)
@[simp] theorem bump64_time (s : State) (l h n : Nat) : (bump64 s l h n).time = s.time := (rfl)
@[simp] theorem bump64_grid (s : State) (l h n : Nat) : (bump64 s l h n).grid = s.grid := (rfl)
@[simp] theorem bump64_ing (s : State) (l h n : Nat) : (bump64 s l h n).ing = s.ing := (rfl)
@[simp] theorem bump64_lyr (s : State) (l h n : Nat) : (bump64 s l h n).lyr = s.lyr := (rfl)
@[simp] theorem bump64_awn (s : State) (l h n : Nat) : (bump64 s l h n).awn = s.awn := (rfl)
@[simp] theorem bump64_spb (s : State) (l h n : Nat) : (bump64 s l h n).spb = s.spb := (rfl)
@[simp] theorem bump64_fab (s : State) (l h n : Nat) : (bump64 s l h n).fab = s.fab := (rfl)
@[simp] theorem bump64_dls (s : State) (l h n : Nat) : (bump64 s l h n).dls = s.dls := (rfl)
@[simp] theorem bump64_lut (s : State) (l h n : Nat) : (bump64 s l h n).lut = s.lut := (rfl)
@[simp] theorem bump64_cal (s : State) (l h n : Nat) : (bump64 s l h n).cal = s.cal := (rfl)
@[simp] theorem bump64_ports (s : State) (l h n : Nat) : (bump64 s l h n).ports = s.ports := (rfl)
@[simp] theorem bump64_twn (s : State) (l h n : Nat) : (bump64 s l h n).twn = s.twn := (rfl)
@[simp] theorem bump64_blt (s : State) (l h n : Nat) : (bump64 s l h n).blt = s.blt := (rfl)
@[simp] theorem bump64_dma (s : State) (l h n : Nat) : (bump64 s l h n).dma = s.dma := (rfl)
@[simp] theorem bump64_icu (s : State) (l h n : Nat) : (bump64 s l h n).icu = s.icu := (rfl)
@[simp] theorem bump64_evf (s : State) (l h n : Nat) : (bump64 s l h n).evf = s.evf := (rfl)
@[simp] theorem bump64_sec (s : State) (l h n : Nat) : (bump64 s l h n).sec = s.sec := (rfl)
@[simp] theorem bump64_otp (s : State) (l h n : Nat) : (bump64 s l h n).otp = s.otp := (rfl)
@[simp] theorem bump64_nor (s : State) (l h n : Nat) : (bump64 s l h n).nor = s.nor := (rfl)
@[simp] theorem bump64_aud (s : State) (l h n : Nat) : (bump64 s l h n).aud = s.aud := (rfl)
@[simp] theorem bump64_mgt (s : State) (l h n : Nat) : (bump64 s l h n).mgt = s.mgt := (rfl)

/-! ### wr64 -/

@[simp] theorem wr64_pending (s : State) (l h v : Nat) : (wr64 s l h v).pending = s.pending := (rfl)
@[simp] theorem wr64_free (s : State) (l h v : Nat) : (wr64 s l h v).free = s.free := (rfl)
@[simp] theorem wr64_ptrs (s : State) (l h v : Nat) : (wr64 s l h v).ptrs = s.ptrs := (rfl)
@[simp] theorem wr64_out (s : State) (l h v : Nat) : (wr64 s l h v).out = s.out := (rfl)
@[simp] theorem wr64_mem (s : State) (l h v : Nat) : (wr64 s l h v).mem = s.mem := (rfl)
@[simp] theorem wr64_poison (s : State) (l h v : Nat) : (wr64 s l h v).poison = s.poison := (rfl)
@[simp] theorem wr64_hostMem (s : State) (l h v : Nat) : (wr64 s l h v).hostMem = s.hostMem := (rfl)
@[simp] theorem wr64_rst (s : State) (l h v : Nat) : (wr64 s l h v).rst = s.rst := (rfl)
@[simp] theorem wr64_pcie (s : State) (l h v : Nat) : (wr64 s l h v).pcie = s.pcie := (rfl)
@[simp] theorem wr64_time (s : State) (l h v : Nat) : (wr64 s l h v).time = s.time := (rfl)
@[simp] theorem wr64_grid (s : State) (l h v : Nat) : (wr64 s l h v).grid = s.grid := (rfl)
@[simp] theorem wr64_ing (s : State) (l h v : Nat) : (wr64 s l h v).ing = s.ing := (rfl)
@[simp] theorem wr64_lyr (s : State) (l h v : Nat) : (wr64 s l h v).lyr = s.lyr := (rfl)
@[simp] theorem wr64_awn (s : State) (l h v : Nat) : (wr64 s l h v).awn = s.awn := (rfl)
@[simp] theorem wr64_spb (s : State) (l h v : Nat) : (wr64 s l h v).spb = s.spb := (rfl)
@[simp] theorem wr64_fab (s : State) (l h v : Nat) : (wr64 s l h v).fab = s.fab := (rfl)
@[simp] theorem wr64_dls (s : State) (l h v : Nat) : (wr64 s l h v).dls = s.dls := (rfl)
@[simp] theorem wr64_lut (s : State) (l h v : Nat) : (wr64 s l h v).lut = s.lut := (rfl)
@[simp] theorem wr64_cal (s : State) (l h v : Nat) : (wr64 s l h v).cal = s.cal := (rfl)
@[simp] theorem wr64_ports (s : State) (l h v : Nat) : (wr64 s l h v).ports = s.ports := (rfl)
@[simp] theorem wr64_twn (s : State) (l h v : Nat) : (wr64 s l h v).twn = s.twn := (rfl)
@[simp] theorem wr64_blt (s : State) (l h v : Nat) : (wr64 s l h v).blt = s.blt := (rfl)
@[simp] theorem wr64_dma (s : State) (l h v : Nat) : (wr64 s l h v).dma = s.dma := (rfl)
@[simp] theorem wr64_icu (s : State) (l h v : Nat) : (wr64 s l h v).icu = s.icu := (rfl)
@[simp] theorem wr64_evf (s : State) (l h v : Nat) : (wr64 s l h v).evf = s.evf := (rfl)
@[simp] theorem wr64_sec (s : State) (l h v : Nat) : (wr64 s l h v).sec = s.sec := (rfl)
@[simp] theorem wr64_otp (s : State) (l h v : Nat) : (wr64 s l h v).otp = s.otp := (rfl)
@[simp] theorem wr64_nor (s : State) (l h v : Nat) : (wr64 s l h v).nor = s.nor := (rfl)
@[simp] theorem wr64_aud (s : State) (l h v : Nat) : (wr64 s l h v).aud = s.aud := (rfl)
@[simp] theorem wr64_mgt (s : State) (l h v : Nat) : (wr64 s l h v).mgt = s.mgt := (rfl)

/-! ### setPort -/

@[simp] theorem setPort_pending (s : State) (p : Nat) (x : TilePort) : (setPort s p x).pending = s.pending := (rfl)
@[simp] theorem setPort_free (s : State) (p : Nat) (x : TilePort) : (setPort s p x).free = s.free := (rfl)
@[simp] theorem setPort_regs (s : State) (p : Nat) (x : TilePort) : (setPort s p x).regs = s.regs := (rfl)
@[simp] theorem setPort_ptrs (s : State) (p : Nat) (x : TilePort) : (setPort s p x).ptrs = s.ptrs := (rfl)
@[simp] theorem setPort_out (s : State) (p : Nat) (x : TilePort) : (setPort s p x).out = s.out := (rfl)
@[simp] theorem setPort_mem (s : State) (p : Nat) (x : TilePort) : (setPort s p x).mem = s.mem := (rfl)
@[simp] theorem setPort_poison (s : State) (p : Nat) (x : TilePort) : (setPort s p x).poison = s.poison := (rfl)
@[simp] theorem setPort_hostMem (s : State) (p : Nat) (x : TilePort) : (setPort s p x).hostMem = s.hostMem := (rfl)
@[simp] theorem setPort_par (s : State) (p : Nat) (x : TilePort) : (setPort s p x).par = s.par := (rfl)
@[simp] theorem setPort_rst (s : State) (p : Nat) (x : TilePort) : (setPort s p x).rst = s.rst := (rfl)
@[simp] theorem setPort_pcie (s : State) (p : Nat) (x : TilePort) : (setPort s p x).pcie = s.pcie := (rfl)
@[simp] theorem setPort_time (s : State) (p : Nat) (x : TilePort) : (setPort s p x).time = s.time := (rfl)
@[simp] theorem setPort_grid (s : State) (p : Nat) (x : TilePort) : (setPort s p x).grid = s.grid := (rfl)
@[simp] theorem setPort_ing (s : State) (p : Nat) (x : TilePort) : (setPort s p x).ing = s.ing := (rfl)
@[simp] theorem setPort_lyr (s : State) (p : Nat) (x : TilePort) : (setPort s p x).lyr = s.lyr := (rfl)
@[simp] theorem setPort_awn (s : State) (p : Nat) (x : TilePort) : (setPort s p x).awn = s.awn := (rfl)
@[simp] theorem setPort_spb (s : State) (p : Nat) (x : TilePort) : (setPort s p x).spb = s.spb := (rfl)
@[simp] theorem setPort_fab (s : State) (p : Nat) (x : TilePort) : (setPort s p x).fab = s.fab := (rfl)
@[simp] theorem setPort_dls (s : State) (p : Nat) (x : TilePort) : (setPort s p x).dls = s.dls := (rfl)
@[simp] theorem setPort_lut (s : State) (p : Nat) (x : TilePort) : (setPort s p x).lut = s.lut := (rfl)
@[simp] theorem setPort_cal (s : State) (p : Nat) (x : TilePort) : (setPort s p x).cal = s.cal := (rfl)
@[simp] theorem setPort_twn (s : State) (p : Nat) (x : TilePort) : (setPort s p x).twn = s.twn := (rfl)
@[simp] theorem setPort_blt (s : State) (p : Nat) (x : TilePort) : (setPort s p x).blt = s.blt := (rfl)
@[simp] theorem setPort_dma (s : State) (p : Nat) (x : TilePort) : (setPort s p x).dma = s.dma := (rfl)
@[simp] theorem setPort_icu (s : State) (p : Nat) (x : TilePort) : (setPort s p x).icu = s.icu := (rfl)
@[simp] theorem setPort_evf (s : State) (p : Nat) (x : TilePort) : (setPort s p x).evf = s.evf := (rfl)
@[simp] theorem setPort_sec (s : State) (p : Nat) (x : TilePort) : (setPort s p x).sec = s.sec := (rfl)
@[simp] theorem setPort_otp (s : State) (p : Nat) (x : TilePort) : (setPort s p x).otp = s.otp := (rfl)
@[simp] theorem setPort_nor (s : State) (p : Nat) (x : TilePort) : (setPort s p x).nor = s.nor := (rfl)
@[simp] theorem setPort_aud (s : State) (p : Nat) (x : TilePort) : (setPort s p x).aud = s.aud := (rfl)
@[simp] theorem setPort_mgt (s : State) (p : Nat) (x : TilePort) : (setPort s p x).mgt = s.mgt := (rfl)

/-! ### setStream -/

@[simp] theorem setStream_pending (s : State) (i : Nat) (x : Stream) : (setStream s i x).pending = s.pending := (rfl)
@[simp] theorem setStream_free (s : State) (i : Nat) (x : Stream) : (setStream s i x).free = s.free := (rfl)
@[simp] theorem setStream_regs (s : State) (i : Nat) (x : Stream) : (setStream s i x).regs = s.regs := (rfl)
@[simp] theorem setStream_ptrs (s : State) (i : Nat) (x : Stream) : (setStream s i x).ptrs = s.ptrs := (rfl)
@[simp] theorem setStream_out (s : State) (i : Nat) (x : Stream) : (setStream s i x).out = s.out := (rfl)
@[simp] theorem setStream_mem (s : State) (i : Nat) (x : Stream) : (setStream s i x).mem = s.mem := (rfl)
@[simp] theorem setStream_poison (s : State) (i : Nat) (x : Stream) : (setStream s i x).poison = s.poison := (rfl)
@[simp] theorem setStream_hostMem (s : State) (i : Nat) (x : Stream) : (setStream s i x).hostMem = s.hostMem := (rfl)
@[simp] theorem setStream_par (s : State) (i : Nat) (x : Stream) : (setStream s i x).par = s.par := (rfl)
@[simp] theorem setStream_rst (s : State) (i : Nat) (x : Stream) : (setStream s i x).rst = s.rst := (rfl)
@[simp] theorem setStream_pcie (s : State) (i : Nat) (x : Stream) : (setStream s i x).pcie = s.pcie := (rfl)
@[simp] theorem setStream_time (s : State) (i : Nat) (x : Stream) : (setStream s i x).time = s.time := (rfl)
@[simp] theorem setStream_grid (s : State) (i : Nat) (x : Stream) : (setStream s i x).grid = s.grid := (rfl)
@[simp] theorem setStream_lyr (s : State) (i : Nat) (x : Stream) : (setStream s i x).lyr = s.lyr := (rfl)
@[simp] theorem setStream_awn (s : State) (i : Nat) (x : Stream) : (setStream s i x).awn = s.awn := (rfl)
@[simp] theorem setStream_spb (s : State) (i : Nat) (x : Stream) : (setStream s i x).spb = s.spb := (rfl)
@[simp] theorem setStream_fab (s : State) (i : Nat) (x : Stream) : (setStream s i x).fab = s.fab := (rfl)
@[simp] theorem setStream_dls (s : State) (i : Nat) (x : Stream) : (setStream s i x).dls = s.dls := (rfl)
@[simp] theorem setStream_lut (s : State) (i : Nat) (x : Stream) : (setStream s i x).lut = s.lut := (rfl)
@[simp] theorem setStream_cal (s : State) (i : Nat) (x : Stream) : (setStream s i x).cal = s.cal := (rfl)
@[simp] theorem setStream_ports (s : State) (i : Nat) (x : Stream) : (setStream s i x).ports = s.ports := (rfl)
@[simp] theorem setStream_twn (s : State) (i : Nat) (x : Stream) : (setStream s i x).twn = s.twn := (rfl)
@[simp] theorem setStream_blt (s : State) (i : Nat) (x : Stream) : (setStream s i x).blt = s.blt := (rfl)
@[simp] theorem setStream_dma (s : State) (i : Nat) (x : Stream) : (setStream s i x).dma = s.dma := (rfl)
@[simp] theorem setStream_icu (s : State) (i : Nat) (x : Stream) : (setStream s i x).icu = s.icu := (rfl)
@[simp] theorem setStream_evf (s : State) (i : Nat) (x : Stream) : (setStream s i x).evf = s.evf := (rfl)
@[simp] theorem setStream_sec (s : State) (i : Nat) (x : Stream) : (setStream s i x).sec = s.sec := (rfl)
@[simp] theorem setStream_otp (s : State) (i : Nat) (x : Stream) : (setStream s i x).otp = s.otp := (rfl)
@[simp] theorem setStream_nor (s : State) (i : Nat) (x : Stream) : (setStream s i x).nor = s.nor := (rfl)
@[simp] theorem setStream_aud (s : State) (i : Nat) (x : Stream) : (setStream s i x).aud = s.aud := (rfl)
@[simp] theorem setStream_mgt (s : State) (i : Nat) (x : Stream) : (setStream s i x).mgt = s.mgt := (rfl)

/-! ### setAwning -/

@[simp] theorem setAwning_pending (s : State) (i : Nat) (x : Awning) : (setAwning s i x).pending = s.pending := (rfl)
@[simp] theorem setAwning_free (s : State) (i : Nat) (x : Awning) : (setAwning s i x).free = s.free := (rfl)
@[simp] theorem setAwning_regs (s : State) (i : Nat) (x : Awning) : (setAwning s i x).regs = s.regs := (rfl)
@[simp] theorem setAwning_ptrs (s : State) (i : Nat) (x : Awning) : (setAwning s i x).ptrs = s.ptrs := (rfl)
@[simp] theorem setAwning_out (s : State) (i : Nat) (x : Awning) : (setAwning s i x).out = s.out := (rfl)
@[simp] theorem setAwning_mem (s : State) (i : Nat) (x : Awning) : (setAwning s i x).mem = s.mem := (rfl)
@[simp] theorem setAwning_poison (s : State) (i : Nat) (x : Awning) : (setAwning s i x).poison = s.poison := (rfl)
@[simp] theorem setAwning_hostMem (s : State) (i : Nat) (x : Awning) : (setAwning s i x).hostMem = s.hostMem := (rfl)
@[simp] theorem setAwning_par (s : State) (i : Nat) (x : Awning) : (setAwning s i x).par = s.par := (rfl)
@[simp] theorem setAwning_rst (s : State) (i : Nat) (x : Awning) : (setAwning s i x).rst = s.rst := (rfl)
@[simp] theorem setAwning_pcie (s : State) (i : Nat) (x : Awning) : (setAwning s i x).pcie = s.pcie := (rfl)
@[simp] theorem setAwning_time (s : State) (i : Nat) (x : Awning) : (setAwning s i x).time = s.time := (rfl)
@[simp] theorem setAwning_grid (s : State) (i : Nat) (x : Awning) : (setAwning s i x).grid = s.grid := (rfl)
@[simp] theorem setAwning_ing (s : State) (i : Nat) (x : Awning) : (setAwning s i x).ing = s.ing := (rfl)
@[simp] theorem setAwning_lyr (s : State) (i : Nat) (x : Awning) : (setAwning s i x).lyr = s.lyr := (rfl)
@[simp] theorem setAwning_spb (s : State) (i : Nat) (x : Awning) : (setAwning s i x).spb = s.spb := (rfl)
@[simp] theorem setAwning_fab (s : State) (i : Nat) (x : Awning) : (setAwning s i x).fab = s.fab := (rfl)
@[simp] theorem setAwning_dls (s : State) (i : Nat) (x : Awning) : (setAwning s i x).dls = s.dls := (rfl)
@[simp] theorem setAwning_lut (s : State) (i : Nat) (x : Awning) : (setAwning s i x).lut = s.lut := (rfl)
@[simp] theorem setAwning_cal (s : State) (i : Nat) (x : Awning) : (setAwning s i x).cal = s.cal := (rfl)
@[simp] theorem setAwning_ports (s : State) (i : Nat) (x : Awning) : (setAwning s i x).ports = s.ports := (rfl)
@[simp] theorem setAwning_twn (s : State) (i : Nat) (x : Awning) : (setAwning s i x).twn = s.twn := (rfl)
@[simp] theorem setAwning_blt (s : State) (i : Nat) (x : Awning) : (setAwning s i x).blt = s.blt := (rfl)
@[simp] theorem setAwning_dma (s : State) (i : Nat) (x : Awning) : (setAwning s i x).dma = s.dma := (rfl)
@[simp] theorem setAwning_icu (s : State) (i : Nat) (x : Awning) : (setAwning s i x).icu = s.icu := (rfl)
@[simp] theorem setAwning_evf (s : State) (i : Nat) (x : Awning) : (setAwning s i x).evf = s.evf := (rfl)
@[simp] theorem setAwning_sec (s : State) (i : Nat) (x : Awning) : (setAwning s i x).sec = s.sec := (rfl)
@[simp] theorem setAwning_otp (s : State) (i : Nat) (x : Awning) : (setAwning s i x).otp = s.otp := (rfl)
@[simp] theorem setAwning_nor (s : State) (i : Nat) (x : Awning) : (setAwning s i x).nor = s.nor := (rfl)
@[simp] theorem setAwning_aud (s : State) (i : Nat) (x : Awning) : (setAwning s i x).aud = s.aud := (rfl)
@[simp] theorem setAwning_mgt (s : State) (i : Nat) (x : Awning) : (setAwning s i x).mgt = s.mgt := (rfl)

/-! ### setDma -/

@[simp] theorem setDma_pending (s : State) (c : Nat) (x : DmaCh) : (setDma s c x).pending = s.pending := (rfl)
@[simp] theorem setDma_free (s : State) (c : Nat) (x : DmaCh) : (setDma s c x).free = s.free := (rfl)
@[simp] theorem setDma_regs (s : State) (c : Nat) (x : DmaCh) : (setDma s c x).regs = s.regs := (rfl)
@[simp] theorem setDma_ptrs (s : State) (c : Nat) (x : DmaCh) : (setDma s c x).ptrs = s.ptrs := (rfl)
@[simp] theorem setDma_out (s : State) (c : Nat) (x : DmaCh) : (setDma s c x).out = s.out := (rfl)
@[simp] theorem setDma_mem (s : State) (c : Nat) (x : DmaCh) : (setDma s c x).mem = s.mem := (rfl)
@[simp] theorem setDma_poison (s : State) (c : Nat) (x : DmaCh) : (setDma s c x).poison = s.poison := (rfl)
@[simp] theorem setDma_hostMem (s : State) (c : Nat) (x : DmaCh) : (setDma s c x).hostMem = s.hostMem := (rfl)
@[simp] theorem setDma_par (s : State) (c : Nat) (x : DmaCh) : (setDma s c x).par = s.par := (rfl)
@[simp] theorem setDma_rst (s : State) (c : Nat) (x : DmaCh) : (setDma s c x).rst = s.rst := (rfl)
@[simp] theorem setDma_pcie (s : State) (c : Nat) (x : DmaCh) : (setDma s c x).pcie = s.pcie := (rfl)
@[simp] theorem setDma_time (s : State) (c : Nat) (x : DmaCh) : (setDma s c x).time = s.time := (rfl)
@[simp] theorem setDma_grid (s : State) (c : Nat) (x : DmaCh) : (setDma s c x).grid = s.grid := (rfl)
@[simp] theorem setDma_ing (s : State) (c : Nat) (x : DmaCh) : (setDma s c x).ing = s.ing := (rfl)
@[simp] theorem setDma_lyr (s : State) (c : Nat) (x : DmaCh) : (setDma s c x).lyr = s.lyr := (rfl)
@[simp] theorem setDma_awn (s : State) (c : Nat) (x : DmaCh) : (setDma s c x).awn = s.awn := (rfl)
@[simp] theorem setDma_spb (s : State) (c : Nat) (x : DmaCh) : (setDma s c x).spb = s.spb := (rfl)
@[simp] theorem setDma_fab (s : State) (c : Nat) (x : DmaCh) : (setDma s c x).fab = s.fab := (rfl)
@[simp] theorem setDma_dls (s : State) (c : Nat) (x : DmaCh) : (setDma s c x).dls = s.dls := (rfl)
@[simp] theorem setDma_lut (s : State) (c : Nat) (x : DmaCh) : (setDma s c x).lut = s.lut := (rfl)
@[simp] theorem setDma_cal (s : State) (c : Nat) (x : DmaCh) : (setDma s c x).cal = s.cal := (rfl)
@[simp] theorem setDma_ports (s : State) (c : Nat) (x : DmaCh) : (setDma s c x).ports = s.ports := (rfl)
@[simp] theorem setDma_twn (s : State) (c : Nat) (x : DmaCh) : (setDma s c x).twn = s.twn := (rfl)
@[simp] theorem setDma_blt (s : State) (c : Nat) (x : DmaCh) : (setDma s c x).blt = s.blt := (rfl)
@[simp] theorem setDma_icu (s : State) (c : Nat) (x : DmaCh) : (setDma s c x).icu = s.icu := (rfl)
@[simp] theorem setDma_evf (s : State) (c : Nat) (x : DmaCh) : (setDma s c x).evf = s.evf := (rfl)
@[simp] theorem setDma_sec (s : State) (c : Nat) (x : DmaCh) : (setDma s c x).sec = s.sec := (rfl)
@[simp] theorem setDma_otp (s : State) (c : Nat) (x : DmaCh) : (setDma s c x).otp = s.otp := (rfl)
@[simp] theorem setDma_nor (s : State) (c : Nat) (x : DmaCh) : (setDma s c x).nor = s.nor := (rfl)
@[simp] theorem setDma_aud (s : State) (c : Nat) (x : DmaCh) : (setDma s c x).aud = s.aud := (rfl)
@[simp] theorem setDma_mgt (s : State) (c : Nat) (x : DmaCh) : (setDma s c x).mgt = s.mgt := (rfl)

/-! ### setSrc -/

@[simp] theorem setSrc_pending (s : State) (i : Nat) (x : SrcState) : (setSrc s i x).pending = s.pending := (rfl)
@[simp] theorem setSrc_free (s : State) (i : Nat) (x : SrcState) : (setSrc s i x).free = s.free := (rfl)
@[simp] theorem setSrc_regs (s : State) (i : Nat) (x : SrcState) : (setSrc s i x).regs = s.regs := (rfl)
@[simp] theorem setSrc_ptrs (s : State) (i : Nat) (x : SrcState) : (setSrc s i x).ptrs = s.ptrs := (rfl)
@[simp] theorem setSrc_out (s : State) (i : Nat) (x : SrcState) : (setSrc s i x).out = s.out := (rfl)
@[simp] theorem setSrc_mem (s : State) (i : Nat) (x : SrcState) : (setSrc s i x).mem = s.mem := (rfl)
@[simp] theorem setSrc_poison (s : State) (i : Nat) (x : SrcState) : (setSrc s i x).poison = s.poison := (rfl)
@[simp] theorem setSrc_hostMem (s : State) (i : Nat) (x : SrcState) : (setSrc s i x).hostMem = s.hostMem := (rfl)
@[simp] theorem setSrc_par (s : State) (i : Nat) (x : SrcState) : (setSrc s i x).par = s.par := (rfl)
@[simp] theorem setSrc_rst (s : State) (i : Nat) (x : SrcState) : (setSrc s i x).rst = s.rst := (rfl)
@[simp] theorem setSrc_pcie (s : State) (i : Nat) (x : SrcState) : (setSrc s i x).pcie = s.pcie := (rfl)
@[simp] theorem setSrc_time (s : State) (i : Nat) (x : SrcState) : (setSrc s i x).time = s.time := (rfl)
@[simp] theorem setSrc_grid (s : State) (i : Nat) (x : SrcState) : (setSrc s i x).grid = s.grid := (rfl)
@[simp] theorem setSrc_ing (s : State) (i : Nat) (x : SrcState) : (setSrc s i x).ing = s.ing := (rfl)
@[simp] theorem setSrc_lyr (s : State) (i : Nat) (x : SrcState) : (setSrc s i x).lyr = s.lyr := (rfl)
@[simp] theorem setSrc_awn (s : State) (i : Nat) (x : SrcState) : (setSrc s i x).awn = s.awn := (rfl)
@[simp] theorem setSrc_spb (s : State) (i : Nat) (x : SrcState) : (setSrc s i x).spb = s.spb := (rfl)
@[simp] theorem setSrc_fab (s : State) (i : Nat) (x : SrcState) : (setSrc s i x).fab = s.fab := (rfl)
@[simp] theorem setSrc_dls (s : State) (i : Nat) (x : SrcState) : (setSrc s i x).dls = s.dls := (rfl)
@[simp] theorem setSrc_lut (s : State) (i : Nat) (x : SrcState) : (setSrc s i x).lut = s.lut := (rfl)
@[simp] theorem setSrc_cal (s : State) (i : Nat) (x : SrcState) : (setSrc s i x).cal = s.cal := (rfl)
@[simp] theorem setSrc_ports (s : State) (i : Nat) (x : SrcState) : (setSrc s i x).ports = s.ports := (rfl)
@[simp] theorem setSrc_twn (s : State) (i : Nat) (x : SrcState) : (setSrc s i x).twn = s.twn := (rfl)
@[simp] theorem setSrc_blt (s : State) (i : Nat) (x : SrcState) : (setSrc s i x).blt = s.blt := (rfl)
@[simp] theorem setSrc_dma (s : State) (i : Nat) (x : SrcState) : (setSrc s i x).dma = s.dma := (rfl)
@[simp] theorem setSrc_evf (s : State) (i : Nat) (x : SrcState) : (setSrc s i x).evf = s.evf := (rfl)
@[simp] theorem setSrc_sec (s : State) (i : Nat) (x : SrcState) : (setSrc s i x).sec = s.sec := (rfl)
@[simp] theorem setSrc_otp (s : State) (i : Nat) (x : SrcState) : (setSrc s i x).otp = s.otp := (rfl)
@[simp] theorem setSrc_nor (s : State) (i : Nat) (x : SrcState) : (setSrc s i x).nor = s.nor := (rfl)
@[simp] theorem setSrc_aud (s : State) (i : Nat) (x : SrcState) : (setSrc s i x).aud = s.aud := (rfl)
@[simp] theorem setSrc_mgt (s : State) (i : Nat) (x : SrcState) : (setSrc s i x).mgt = s.mgt := (rfl)

/-! ### setSafe -/

@[simp] theorem setSafe_pending (s : State) (k : Nat) (v : Bool) : (setSafe s k v).pending = s.pending := (rfl)
@[simp] theorem setSafe_free (s : State) (k : Nat) (v : Bool) : (setSafe s k v).free = s.free := (rfl)
@[simp] theorem setSafe_regs (s : State) (k : Nat) (v : Bool) : (setSafe s k v).regs = s.regs := (rfl)
@[simp] theorem setSafe_ptrs (s : State) (k : Nat) (v : Bool) : (setSafe s k v).ptrs = s.ptrs := (rfl)
@[simp] theorem setSafe_out (s : State) (k : Nat) (v : Bool) : (setSafe s k v).out = s.out := (rfl)
@[simp] theorem setSafe_mem (s : State) (k : Nat) (v : Bool) : (setSafe s k v).mem = s.mem := (rfl)
@[simp] theorem setSafe_poison (s : State) (k : Nat) (v : Bool) : (setSafe s k v).poison = s.poison := (rfl)
@[simp] theorem setSafe_hostMem (s : State) (k : Nat) (v : Bool) : (setSafe s k v).hostMem = s.hostMem := (rfl)
@[simp] theorem setSafe_rst (s : State) (k : Nat) (v : Bool) : (setSafe s k v).rst = s.rst := (rfl)
@[simp] theorem setSafe_pcie (s : State) (k : Nat) (v : Bool) : (setSafe s k v).pcie = s.pcie := (rfl)
@[simp] theorem setSafe_time (s : State) (k : Nat) (v : Bool) : (setSafe s k v).time = s.time := (rfl)
@[simp] theorem setSafe_grid (s : State) (k : Nat) (v : Bool) : (setSafe s k v).grid = s.grid := (rfl)
@[simp] theorem setSafe_ing (s : State) (k : Nat) (v : Bool) : (setSafe s k v).ing = s.ing := (rfl)
@[simp] theorem setSafe_lyr (s : State) (k : Nat) (v : Bool) : (setSafe s k v).lyr = s.lyr := (rfl)
@[simp] theorem setSafe_awn (s : State) (k : Nat) (v : Bool) : (setSafe s k v).awn = s.awn := (rfl)
@[simp] theorem setSafe_spb (s : State) (k : Nat) (v : Bool) : (setSafe s k v).spb = s.spb := (rfl)
@[simp] theorem setSafe_fab (s : State) (k : Nat) (v : Bool) : (setSafe s k v).fab = s.fab := (rfl)
@[simp] theorem setSafe_dls (s : State) (k : Nat) (v : Bool) : (setSafe s k v).dls = s.dls := (rfl)
@[simp] theorem setSafe_lut (s : State) (k : Nat) (v : Bool) : (setSafe s k v).lut = s.lut := (rfl)
@[simp] theorem setSafe_cal (s : State) (k : Nat) (v : Bool) : (setSafe s k v).cal = s.cal := (rfl)
@[simp] theorem setSafe_ports (s : State) (k : Nat) (v : Bool) : (setSafe s k v).ports = s.ports := (rfl)
@[simp] theorem setSafe_twn (s : State) (k : Nat) (v : Bool) : (setSafe s k v).twn = s.twn := (rfl)
@[simp] theorem setSafe_blt (s : State) (k : Nat) (v : Bool) : (setSafe s k v).blt = s.blt := (rfl)
@[simp] theorem setSafe_dma (s : State) (k : Nat) (v : Bool) : (setSafe s k v).dma = s.dma := (rfl)
@[simp] theorem setSafe_icu (s : State) (k : Nat) (v : Bool) : (setSafe s k v).icu = s.icu := (rfl)
@[simp] theorem setSafe_evf (s : State) (k : Nat) (v : Bool) : (setSafe s k v).evf = s.evf := (rfl)
@[simp] theorem setSafe_sec (s : State) (k : Nat) (v : Bool) : (setSafe s k v).sec = s.sec := (rfl)
@[simp] theorem setSafe_otp (s : State) (k : Nat) (v : Bool) : (setSafe s k v).otp = s.otp := (rfl)
@[simp] theorem setSafe_nor (s : State) (k : Nat) (v : Bool) : (setSafe s k v).nor = s.nor := (rfl)
@[simp] theorem setSafe_aud (s : State) (k : Nat) (v : Bool) : (setSafe s k v).aud = s.aud := (rfl)
@[simp] theorem setSafe_mgt (s : State) (k : Nat) (v : Bool) : (setSafe s k v).mgt = s.mgt := (rfl)

/-! ### setPtr -/

@[simp] theorem setPtr_pending (s : State) (a : Agent) (p : Nat) (c : Bool) (v : Word) : (setPtr s a p c v).pending = s.pending := (rfl)
@[simp] theorem setPtr_free (s : State) (a : Agent) (p : Nat) (c : Bool) (v : Word) : (setPtr s a p c v).free = s.free := (rfl)
@[simp] theorem setPtr_regs (s : State) (a : Agent) (p : Nat) (c : Bool) (v : Word) : (setPtr s a p c v).regs = s.regs := (rfl)
@[simp] theorem setPtr_out (s : State) (a : Agent) (p : Nat) (c : Bool) (v : Word) : (setPtr s a p c v).out = s.out := (rfl)
@[simp] theorem setPtr_mem (s : State) (a : Agent) (p : Nat) (c : Bool) (v : Word) : (setPtr s a p c v).mem = s.mem := (rfl)
@[simp] theorem setPtr_poison (s : State) (a : Agent) (p : Nat) (c : Bool) (v : Word) : (setPtr s a p c v).poison = s.poison := (rfl)
@[simp] theorem setPtr_hostMem (s : State) (a : Agent) (p : Nat) (c : Bool) (v : Word) : (setPtr s a p c v).hostMem = s.hostMem := (rfl)
@[simp] theorem setPtr_par (s : State) (a : Agent) (p : Nat) (c : Bool) (v : Word) : (setPtr s a p c v).par = s.par := (rfl)
@[simp] theorem setPtr_rst (s : State) (a : Agent) (p : Nat) (c : Bool) (v : Word) : (setPtr s a p c v).rst = s.rst := (rfl)
@[simp] theorem setPtr_pcie (s : State) (a : Agent) (p : Nat) (c : Bool) (v : Word) : (setPtr s a p c v).pcie = s.pcie := (rfl)
@[simp] theorem setPtr_time (s : State) (a : Agent) (p : Nat) (c : Bool) (v : Word) : (setPtr s a p c v).time = s.time := (rfl)
@[simp] theorem setPtr_grid (s : State) (a : Agent) (p : Nat) (c : Bool) (v : Word) : (setPtr s a p c v).grid = s.grid := (rfl)
@[simp] theorem setPtr_ing (s : State) (a : Agent) (p : Nat) (c : Bool) (v : Word) : (setPtr s a p c v).ing = s.ing := (rfl)
@[simp] theorem setPtr_lyr (s : State) (a : Agent) (p : Nat) (c : Bool) (v : Word) : (setPtr s a p c v).lyr = s.lyr := (rfl)
@[simp] theorem setPtr_awn (s : State) (a : Agent) (p : Nat) (c : Bool) (v : Word) : (setPtr s a p c v).awn = s.awn := (rfl)
@[simp] theorem setPtr_spb (s : State) (a : Agent) (p : Nat) (c : Bool) (v : Word) : (setPtr s a p c v).spb = s.spb := (rfl)
@[simp] theorem setPtr_fab (s : State) (a : Agent) (p : Nat) (c : Bool) (v : Word) : (setPtr s a p c v).fab = s.fab := (rfl)
@[simp] theorem setPtr_dls (s : State) (a : Agent) (p : Nat) (c : Bool) (v : Word) : (setPtr s a p c v).dls = s.dls := (rfl)
@[simp] theorem setPtr_lut (s : State) (a : Agent) (p : Nat) (c : Bool) (v : Word) : (setPtr s a p c v).lut = s.lut := (rfl)
@[simp] theorem setPtr_cal (s : State) (a : Agent) (p : Nat) (c : Bool) (v : Word) : (setPtr s a p c v).cal = s.cal := (rfl)
@[simp] theorem setPtr_ports (s : State) (a : Agent) (p : Nat) (c : Bool) (v : Word) : (setPtr s a p c v).ports = s.ports := (rfl)
@[simp] theorem setPtr_twn (s : State) (a : Agent) (p : Nat) (c : Bool) (v : Word) : (setPtr s a p c v).twn = s.twn := (rfl)
@[simp] theorem setPtr_blt (s : State) (a : Agent) (p : Nat) (c : Bool) (v : Word) : (setPtr s a p c v).blt = s.blt := (rfl)
@[simp] theorem setPtr_dma (s : State) (a : Agent) (p : Nat) (c : Bool) (v : Word) : (setPtr s a p c v).dma = s.dma := (rfl)
@[simp] theorem setPtr_icu (s : State) (a : Agent) (p : Nat) (c : Bool) (v : Word) : (setPtr s a p c v).icu = s.icu := (rfl)
@[simp] theorem setPtr_evf (s : State) (a : Agent) (p : Nat) (c : Bool) (v : Word) : (setPtr s a p c v).evf = s.evf := (rfl)
@[simp] theorem setPtr_sec (s : State) (a : Agent) (p : Nat) (c : Bool) (v : Word) : (setPtr s a p c v).sec = s.sec := (rfl)
@[simp] theorem setPtr_otp (s : State) (a : Agent) (p : Nat) (c : Bool) (v : Word) : (setPtr s a p c v).otp = s.otp := (rfl)
@[simp] theorem setPtr_nor (s : State) (a : Agent) (p : Nat) (c : Bool) (v : Word) : (setPtr s a p c v).nor = s.nor := (rfl)
@[simp] theorem setPtr_aud (s : State) (a : Agent) (p : Nat) (c : Bool) (v : Word) : (setPtr s a p c v).aud = s.aud := (rfl)
@[simp] theorem setPtr_mgt (s : State) (a : Agent) (p : Nat) (c : Bool) (v : Word) : (setPtr s a p c v).mgt = s.mgt := (rfl)

/-! ### indAdvance -/

@[simp] theorem indAdvance_pending (s : State) (a : Agent) (p : Nat) : (indAdvance s a p).pending = s.pending := (rfl)
@[simp] theorem indAdvance_free (s : State) (a : Agent) (p : Nat) : (indAdvance s a p).free = s.free := (rfl)
@[simp] theorem indAdvance_regs (s : State) (a : Agent) (p : Nat) : (indAdvance s a p).regs = s.regs := (rfl)
@[simp] theorem indAdvance_out (s : State) (a : Agent) (p : Nat) : (indAdvance s a p).out = s.out := (rfl)
@[simp] theorem indAdvance_mem (s : State) (a : Agent) (p : Nat) : (indAdvance s a p).mem = s.mem := (rfl)
@[simp] theorem indAdvance_poison (s : State) (a : Agent) (p : Nat) : (indAdvance s a p).poison = s.poison := (rfl)
@[simp] theorem indAdvance_hostMem (s : State) (a : Agent) (p : Nat) : (indAdvance s a p).hostMem = s.hostMem := (rfl)
@[simp] theorem indAdvance_par (s : State) (a : Agent) (p : Nat) : (indAdvance s a p).par = s.par := (rfl)
@[simp] theorem indAdvance_rst (s : State) (a : Agent) (p : Nat) : (indAdvance s a p).rst = s.rst := (rfl)
@[simp] theorem indAdvance_pcie (s : State) (a : Agent) (p : Nat) : (indAdvance s a p).pcie = s.pcie := (rfl)
@[simp] theorem indAdvance_time (s : State) (a : Agent) (p : Nat) : (indAdvance s a p).time = s.time := (rfl)
@[simp] theorem indAdvance_grid (s : State) (a : Agent) (p : Nat) : (indAdvance s a p).grid = s.grid := (rfl)
@[simp] theorem indAdvance_ing (s : State) (a : Agent) (p : Nat) : (indAdvance s a p).ing = s.ing := (rfl)
@[simp] theorem indAdvance_lyr (s : State) (a : Agent) (p : Nat) : (indAdvance s a p).lyr = s.lyr := (rfl)
@[simp] theorem indAdvance_awn (s : State) (a : Agent) (p : Nat) : (indAdvance s a p).awn = s.awn := (rfl)
@[simp] theorem indAdvance_spb (s : State) (a : Agent) (p : Nat) : (indAdvance s a p).spb = s.spb := (rfl)
@[simp] theorem indAdvance_fab (s : State) (a : Agent) (p : Nat) : (indAdvance s a p).fab = s.fab := (rfl)
@[simp] theorem indAdvance_dls (s : State) (a : Agent) (p : Nat) : (indAdvance s a p).dls = s.dls := (rfl)
@[simp] theorem indAdvance_lut (s : State) (a : Agent) (p : Nat) : (indAdvance s a p).lut = s.lut := (rfl)
@[simp] theorem indAdvance_cal (s : State) (a : Agent) (p : Nat) : (indAdvance s a p).cal = s.cal := (rfl)
@[simp] theorem indAdvance_ports (s : State) (a : Agent) (p : Nat) : (indAdvance s a p).ports = s.ports := (rfl)
@[simp] theorem indAdvance_twn (s : State) (a : Agent) (p : Nat) : (indAdvance s a p).twn = s.twn := (rfl)
@[simp] theorem indAdvance_blt (s : State) (a : Agent) (p : Nat) : (indAdvance s a p).blt = s.blt := (rfl)
@[simp] theorem indAdvance_dma (s : State) (a : Agent) (p : Nat) : (indAdvance s a p).dma = s.dma := (rfl)
@[simp] theorem indAdvance_icu (s : State) (a : Agent) (p : Nat) : (indAdvance s a p).icu = s.icu := (rfl)
@[simp] theorem indAdvance_evf (s : State) (a : Agent) (p : Nat) : (indAdvance s a p).evf = s.evf := (rfl)
@[simp] theorem indAdvance_sec (s : State) (a : Agent) (p : Nat) : (indAdvance s a p).sec = s.sec := (rfl)
@[simp] theorem indAdvance_otp (s : State) (a : Agent) (p : Nat) : (indAdvance s a p).otp = s.otp := (rfl)
@[simp] theorem indAdvance_nor (s : State) (a : Agent) (p : Nat) : (indAdvance s a p).nor = s.nor := (rfl)
@[simp] theorem indAdvance_aud (s : State) (a : Agent) (p : Nat) : (indAdvance s a p).aud = s.aud := (rfl)
@[simp] theorem indAdvance_mgt (s : State) (a : Agent) (p : Nat) : (indAdvance s a p).mgt = s.mgt := (rfl)

/-! ### answer -/

@[simp] theorem answer_pending (s : State) (a : Agent) (w : Word) : (answer s a w).pending = s.pending := (rfl)
@[simp] theorem answer_free (s : State) (a : Agent) (w : Word) : (answer s a w).free = s.free := (rfl)
@[simp] theorem answer_regs (s : State) (a : Agent) (w : Word) : (answer s a w).regs = s.regs := (rfl)
@[simp] theorem answer_ptrs (s : State) (a : Agent) (w : Word) : (answer s a w).ptrs = s.ptrs := (rfl)
@[simp] theorem answer_mem (s : State) (a : Agent) (w : Word) : (answer s a w).mem = s.mem := (rfl)
@[simp] theorem answer_poison (s : State) (a : Agent) (w : Word) : (answer s a w).poison = s.poison := (rfl)
@[simp] theorem answer_hostMem (s : State) (a : Agent) (w : Word) : (answer s a w).hostMem = s.hostMem := (rfl)
@[simp] theorem answer_par (s : State) (a : Agent) (w : Word) : (answer s a w).par = s.par := (rfl)
@[simp] theorem answer_rst (s : State) (a : Agent) (w : Word) : (answer s a w).rst = s.rst := (rfl)
@[simp] theorem answer_pcie (s : State) (a : Agent) (w : Word) : (answer s a w).pcie = s.pcie := (rfl)
@[simp] theorem answer_time (s : State) (a : Agent) (w : Word) : (answer s a w).time = s.time := (rfl)
@[simp] theorem answer_grid (s : State) (a : Agent) (w : Word) : (answer s a w).grid = s.grid := (rfl)
@[simp] theorem answer_ing (s : State) (a : Agent) (w : Word) : (answer s a w).ing = s.ing := (rfl)
@[simp] theorem answer_lyr (s : State) (a : Agent) (w : Word) : (answer s a w).lyr = s.lyr := (rfl)
@[simp] theorem answer_awn (s : State) (a : Agent) (w : Word) : (answer s a w).awn = s.awn := (rfl)
@[simp] theorem answer_spb (s : State) (a : Agent) (w : Word) : (answer s a w).spb = s.spb := (rfl)
@[simp] theorem answer_fab (s : State) (a : Agent) (w : Word) : (answer s a w).fab = s.fab := (rfl)
@[simp] theorem answer_dls (s : State) (a : Agent) (w : Word) : (answer s a w).dls = s.dls := (rfl)
@[simp] theorem answer_lut (s : State) (a : Agent) (w : Word) : (answer s a w).lut = s.lut := (rfl)
@[simp] theorem answer_cal (s : State) (a : Agent) (w : Word) : (answer s a w).cal = s.cal := (rfl)
@[simp] theorem answer_ports (s : State) (a : Agent) (w : Word) : (answer s a w).ports = s.ports := (rfl)
@[simp] theorem answer_twn (s : State) (a : Agent) (w : Word) : (answer s a w).twn = s.twn := (rfl)
@[simp] theorem answer_blt (s : State) (a : Agent) (w : Word) : (answer s a w).blt = s.blt := (rfl)
@[simp] theorem answer_dma (s : State) (a : Agent) (w : Word) : (answer s a w).dma = s.dma := (rfl)
@[simp] theorem answer_icu (s : State) (a : Agent) (w : Word) : (answer s a w).icu = s.icu := (rfl)
@[simp] theorem answer_evf (s : State) (a : Agent) (w : Word) : (answer s a w).evf = s.evf := (rfl)
@[simp] theorem answer_sec (s : State) (a : Agent) (w : Word) : (answer s a w).sec = s.sec := (rfl)
@[simp] theorem answer_otp (s : State) (a : Agent) (w : Word) : (answer s a w).otp = s.otp := (rfl)
@[simp] theorem answer_nor (s : State) (a : Agent) (w : Word) : (answer s a w).nor = s.nor := (rfl)
@[simp] theorem answer_aud (s : State) (a : Agent) (w : Word) : (answer s a w).aud = s.aud := (rfl)
@[simp] theorem answer_mgt (s : State) (a : Agent) (w : Word) : (answer s a w).mgt = s.mgt := (rfl)

/-! ### raiseE -/

@[simp] theorem raiseE_pending (s : State) (p b : Nat) : (raiseE s p b).pending = s.pending := by unfold raiseE; (repeat' split) <;> rfl
@[simp] theorem raiseE_free (s : State) (p b : Nat) : (raiseE s p b).free = s.free := by unfold raiseE; (repeat' split) <;> rfl
@[simp] theorem raiseE_regs (s : State) (p b : Nat) : (raiseE s p b).regs = s.regs := by unfold raiseE; (repeat' split) <;> rfl
@[simp] theorem raiseE_ptrs (s : State) (p b : Nat) : (raiseE s p b).ptrs = s.ptrs := by unfold raiseE; (repeat' split) <;> rfl
@[simp] theorem raiseE_out (s : State) (p b : Nat) : (raiseE s p b).out = s.out := by unfold raiseE; (repeat' split) <;> rfl
@[simp] theorem raiseE_mem (s : State) (p b : Nat) : (raiseE s p b).mem = s.mem := by unfold raiseE; (repeat' split) <;> rfl
@[simp] theorem raiseE_poison (s : State) (p b : Nat) : (raiseE s p b).poison = s.poison := by unfold raiseE; (repeat' split) <;> rfl
@[simp] theorem raiseE_hostMem (s : State) (p b : Nat) : (raiseE s p b).hostMem = s.hostMem := by unfold raiseE; (repeat' split) <;> rfl
@[simp] theorem raiseE_par (s : State) (p b : Nat) : (raiseE s p b).par = s.par := by unfold raiseE; (repeat' split) <;> rfl
@[simp] theorem raiseE_rst (s : State) (p b : Nat) : (raiseE s p b).rst = s.rst := by unfold raiseE; (repeat' split) <;> rfl
@[simp] theorem raiseE_pcie (s : State) (p b : Nat) : (raiseE s p b).pcie = s.pcie := by unfold raiseE; (repeat' split) <;> rfl
@[simp] theorem raiseE_time (s : State) (p b : Nat) : (raiseE s p b).time = s.time := by unfold raiseE; (repeat' split) <;> rfl
@[simp] theorem raiseE_grid (s : State) (p b : Nat) : (raiseE s p b).grid = s.grid := by unfold raiseE; (repeat' split) <;> rfl
@[simp] theorem raiseE_ing (s : State) (p b : Nat) : (raiseE s p b).ing = s.ing := by unfold raiseE; (repeat' split) <;> rfl
@[simp] theorem raiseE_lyr (s : State) (p b : Nat) : (raiseE s p b).lyr = s.lyr := by unfold raiseE; (repeat' split) <;> rfl
@[simp] theorem raiseE_awn (s : State) (p b : Nat) : (raiseE s p b).awn = s.awn := by unfold raiseE; (repeat' split) <;> rfl
@[simp] theorem raiseE_spb (s : State) (p b : Nat) : (raiseE s p b).spb = s.spb := by unfold raiseE; (repeat' split) <;> rfl
@[simp] theorem raiseE_fab (s : State) (p b : Nat) : (raiseE s p b).fab = s.fab := by unfold raiseE; (repeat' split) <;> rfl
@[simp] theorem raiseE_dls (s : State) (p b : Nat) : (raiseE s p b).dls = s.dls := by unfold raiseE; (repeat' split) <;> rfl
@[simp] theorem raiseE_lut (s : State) (p b : Nat) : (raiseE s p b).lut = s.lut := by unfold raiseE; (repeat' split) <;> rfl
@[simp] theorem raiseE_cal (s : State) (p b : Nat) : (raiseE s p b).cal = s.cal := by unfold raiseE; (repeat' split) <;> rfl
@[simp] theorem raiseE_ports (s : State) (p b : Nat) : (raiseE s p b).ports = s.ports := by unfold raiseE; (repeat' split) <;> rfl
@[simp] theorem raiseE_twn (s : State) (p b : Nat) : (raiseE s p b).twn = s.twn := by unfold raiseE; (repeat' split) <;> rfl
@[simp] theorem raiseE_blt (s : State) (p b : Nat) : (raiseE s p b).blt = s.blt := by unfold raiseE; (repeat' split) <;> rfl
@[simp] theorem raiseE_dma (s : State) (p b : Nat) : (raiseE s p b).dma = s.dma := by unfold raiseE; (repeat' split) <;> rfl
@[simp] theorem raiseE_evf (s : State) (p b : Nat) : (raiseE s p b).evf = s.evf := by unfold raiseE; (repeat' split) <;> rfl
@[simp] theorem raiseE_sec (s : State) (p b : Nat) : (raiseE s p b).sec = s.sec := by unfold raiseE; (repeat' split) <;> rfl
@[simp] theorem raiseE_otp (s : State) (p b : Nat) : (raiseE s p b).otp = s.otp := by unfold raiseE; (repeat' split) <;> rfl
@[simp] theorem raiseE_nor (s : State) (p b : Nat) : (raiseE s p b).nor = s.nor := by unfold raiseE; (repeat' split) <;> rfl
@[simp] theorem raiseE_aud (s : State) (p b : Nat) : (raiseE s p b).aud = s.aud := by unfold raiseE; (repeat' split) <;> rfl
@[simp] theorem raiseE_mgt (s : State) (p b : Nat) : (raiseE s p b).mgt = s.mgt := by unfold raiseE; (repeat' split) <;> rfl

/-! ### peak -/

@[simp] theorem peak_pending (s : State) (a v : Nat) : (peak s a v).pending = s.pending := by unfold peak; split <;> rfl
@[simp] theorem peak_free (s : State) (a v : Nat) : (peak s a v).free = s.free := by unfold peak; split <;> rfl
@[simp] theorem peak_ptrs (s : State) (a v : Nat) : (peak s a v).ptrs = s.ptrs := by unfold peak; split <;> rfl
@[simp] theorem peak_out (s : State) (a v : Nat) : (peak s a v).out = s.out := by unfold peak; split <;> rfl
@[simp] theorem peak_mem (s : State) (a v : Nat) : (peak s a v).mem = s.mem := by unfold peak; split <;> rfl
@[simp] theorem peak_poison (s : State) (a v : Nat) : (peak s a v).poison = s.poison := by unfold peak; split <;> rfl
@[simp] theorem peak_hostMem (s : State) (a v : Nat) : (peak s a v).hostMem = s.hostMem := by unfold peak; split <;> rfl
@[simp] theorem peak_rst (s : State) (a v : Nat) : (peak s a v).rst = s.rst := by unfold peak; split <;> rfl
@[simp] theorem peak_pcie (s : State) (a v : Nat) : (peak s a v).pcie = s.pcie := by unfold peak; split <;> rfl
@[simp] theorem peak_time (s : State) (a v : Nat) : (peak s a v).time = s.time := by unfold peak; split <;> rfl
@[simp] theorem peak_grid (s : State) (a v : Nat) : (peak s a v).grid = s.grid := by unfold peak; split <;> rfl
@[simp] theorem peak_ing (s : State) (a v : Nat) : (peak s a v).ing = s.ing := by unfold peak; split <;> rfl
@[simp] theorem peak_lyr (s : State) (a v : Nat) : (peak s a v).lyr = s.lyr := by unfold peak; split <;> rfl
@[simp] theorem peak_awn (s : State) (a v : Nat) : (peak s a v).awn = s.awn := by unfold peak; split <;> rfl
@[simp] theorem peak_spb (s : State) (a v : Nat) : (peak s a v).spb = s.spb := by unfold peak; split <;> rfl
@[simp] theorem peak_fab (s : State) (a v : Nat) : (peak s a v).fab = s.fab := by unfold peak; split <;> rfl
@[simp] theorem peak_dls (s : State) (a v : Nat) : (peak s a v).dls = s.dls := by unfold peak; split <;> rfl
@[simp] theorem peak_lut (s : State) (a v : Nat) : (peak s a v).lut = s.lut := by unfold peak; split <;> rfl
@[simp] theorem peak_cal (s : State) (a v : Nat) : (peak s a v).cal = s.cal := by unfold peak; split <;> rfl
@[simp] theorem peak_ports (s : State) (a v : Nat) : (peak s a v).ports = s.ports := by unfold peak; split <;> rfl
@[simp] theorem peak_twn (s : State) (a v : Nat) : (peak s a v).twn = s.twn := by unfold peak; split <;> rfl
@[simp] theorem peak_blt (s : State) (a v : Nat) : (peak s a v).blt = s.blt := by unfold peak; split <;> rfl
@[simp] theorem peak_dma (s : State) (a v : Nat) : (peak s a v).dma = s.dma := by unfold peak; split <;> rfl
@[simp] theorem peak_icu (s : State) (a v : Nat) : (peak s a v).icu = s.icu := by unfold peak; split <;> rfl
@[simp] theorem peak_evf (s : State) (a v : Nat) : (peak s a v).evf = s.evf := by unfold peak; split <;> rfl
@[simp] theorem peak_sec (s : State) (a v : Nat) : (peak s a v).sec = s.sec := by unfold peak; split <;> rfl
@[simp] theorem peak_otp (s : State) (a v : Nat) : (peak s a v).otp = s.otp := by unfold peak; split <;> rfl
@[simp] theorem peak_nor (s : State) (a v : Nat) : (peak s a v).nor = s.nor := by unfold peak; split <;> rfl
@[simp] theorem peak_aud (s : State) (a v : Nat) : (peak s a v).aud = s.aud := by unfold peak; split <;> rfl
@[simp] theorem peak_mgt (s : State) (a v : Nat) : (peak s a v).mgt = s.mgt := by unfold peak; split <;> rfl

@[simp] theorem touchSession_pending (s : State) (a : Agent) (p : Nat) (t : State) : (touchSession s a p t).pending = t.pending := by
  unfold touchSession; (repeat' split) <;> rfl
@[simp] theorem touchSession_free (s : State) (a : Agent) (p : Nat) (t : State) : (touchSession s a p t).free = t.free := by
  unfold touchSession; (repeat' split) <;> rfl
@[simp] theorem touchSession_regs (s : State) (a : Agent) (p : Nat) (t : State) : (touchSession s a p t).regs = t.regs := by
  unfold touchSession; (repeat' split) <;> rfl
@[simp] theorem touchSession_ptrs (s : State) (a : Agent) (p : Nat) (t : State) : (touchSession s a p t).ptrs = t.ptrs := by
  unfold touchSession; (repeat' split) <;> rfl
@[simp] theorem touchSession_out (s : State) (a : Agent) (p : Nat) (t : State) : (touchSession s a p t).out = t.out := by
  unfold touchSession; (repeat' split) <;> rfl
@[simp] theorem touchSession_mem (s : State) (a : Agent) (p : Nat) (t : State) : (touchSession s a p t).mem = t.mem := by
  unfold touchSession; (repeat' split) <;> rfl
@[simp] theorem touchSession_poison (s : State) (a : Agent) (p : Nat) (t : State) : (touchSession s a p t).poison = t.poison := by
  unfold touchSession; (repeat' split) <;> rfl
@[simp] theorem touchSession_hostMem (s : State) (a : Agent) (p : Nat) (t : State) : (touchSession s a p t).hostMem = t.hostMem := by
  unfold touchSession; (repeat' split) <;> rfl
@[simp] theorem touchSession_par (s : State) (a : Agent) (p : Nat) (t : State) : (touchSession s a p t).par = t.par := by
  unfold touchSession; (repeat' split) <;> rfl
@[simp] theorem touchSession_rst (s : State) (a : Agent) (p : Nat) (t : State) : (touchSession s a p t).rst = t.rst := by
  unfold touchSession; (repeat' split) <;> rfl
@[simp] theorem touchSession_pcie (s : State) (a : Agent) (p : Nat) (t : State) : (touchSession s a p t).pcie = t.pcie := by
  unfold touchSession; (repeat' split) <;> rfl
@[simp] theorem touchSession_time (s : State) (a : Agent) (p : Nat) (t : State) : (touchSession s a p t).time = t.time := by
  unfold touchSession; (repeat' split) <;> rfl
@[simp] theorem touchSession_grid (s : State) (a : Agent) (p : Nat) (t : State) : (touchSession s a p t).grid = t.grid := by
  unfold touchSession; (repeat' split) <;> rfl
@[simp] theorem touchSession_ing (s : State) (a : Agent) (p : Nat) (t : State) : (touchSession s a p t).ing = t.ing := by
  unfold touchSession; (repeat' split) <;> rfl
@[simp] theorem touchSession_lyr (s : State) (a : Agent) (p : Nat) (t : State) : (touchSession s a p t).lyr = t.lyr := by
  unfold touchSession; (repeat' split) <;> rfl
@[simp] theorem touchSession_awn (s : State) (a : Agent) (p : Nat) (t : State) : (touchSession s a p t).awn = t.awn := by
  unfold touchSession; (repeat' split) <;> rfl
@[simp] theorem touchSession_spb (s : State) (a : Agent) (p : Nat) (t : State) : (touchSession s a p t).spb = t.spb := by
  unfold touchSession; (repeat' split) <;> rfl
@[simp] theorem touchSession_fab (s : State) (a : Agent) (p : Nat) (t : State) : (touchSession s a p t).fab = t.fab := by
  unfold touchSession; (repeat' split) <;> rfl
@[simp] theorem touchSession_dls (s : State) (a : Agent) (p : Nat) (t : State) : (touchSession s a p t).dls = t.dls := by
  unfold touchSession; (repeat' split) <;> rfl
@[simp] theorem touchSession_lut (s : State) (a : Agent) (p : Nat) (t : State) : (touchSession s a p t).lut = t.lut := by
  unfold touchSession; (repeat' split) <;> rfl
@[simp] theorem touchSession_cal (s : State) (a : Agent) (p : Nat) (t : State) : (touchSession s a p t).cal = t.cal := by
  unfold touchSession; (repeat' split) <;> rfl
@[simp] theorem touchSession_ports (s : State) (a : Agent) (p : Nat) (t : State) : (touchSession s a p t).ports = t.ports := by
  unfold touchSession; (repeat' split) <;> rfl
@[simp] theorem touchSession_twn (s : State) (a : Agent) (p : Nat) (t : State) : (touchSession s a p t).twn = t.twn := by
  unfold touchSession; (repeat' split) <;> rfl
@[simp] theorem touchSession_blt (s : State) (a : Agent) (p : Nat) (t : State) : (touchSession s a p t).blt = t.blt := by
  unfold touchSession; (repeat' split) <;> rfl
@[simp] theorem touchSession_dma (s : State) (a : Agent) (p : Nat) (t : State) : (touchSession s a p t).dma = t.dma := by
  unfold touchSession; (repeat' split) <;> rfl
@[simp] theorem touchSession_icu (s : State) (a : Agent) (p : Nat) (t : State) : (touchSession s a p t).icu = t.icu := by
  unfold touchSession; (repeat' split) <;> rfl
@[simp] theorem touchSession_evf (s : State) (a : Agent) (p : Nat) (t : State) : (touchSession s a p t).evf = t.evf := by
  unfold touchSession; (repeat' split) <;> rfl
@[simp] theorem touchSession_otp (s : State) (a : Agent) (p : Nat) (t : State) : (touchSession s a p t).otp = t.otp := by
  unfold touchSession; (repeat' split) <;> rfl
@[simp] theorem touchSession_nor (s : State) (a : Agent) (p : Nat) (t : State) : (touchSession s a p t).nor = t.nor := by
  unfold touchSession; (repeat' split) <;> rfl
@[simp] theorem touchSession_aud (s : State) (a : Agent) (p : Nat) (t : State) : (touchSession s a p t).aud = t.aud := by
  unfold touchSession; (repeat' split) <;> rfl
@[simp] theorem touchSession_mgt (s : State) (a : Agent) (p : Nat) (t : State) : (touchSession s a p t).mgt = t.mgt := by
  unfold touchSession; (repeat' split) <;> rfl

/-! ### Reads after updates -/

theorem rd_wr (s : State) (a : Nat) (v : Word) (b : Nat) : rd (wr s a v) b = if b = a then v else rd s b := by
  simp only [rd, wr, Store.get_set]

@[simp] theorem rd_wr_same (s : State) (a : Nat) (v : Word) : rd (wr s a v) a = v := by simp [rd_wr]

theorem rd_wr_other (s : State) (a : Nat) (v : Word) (b : Nat) (h : b ≠ a) : rd (wr s a v) b = rd s b := by simp [rd_wr, h]

theorem rd_wrF (s : State) (a h l v b : Nat) :
    rd (wrF s a h l v) b = if b = a then setFld (rd s a) h l v else rd s b := rd_wr _ _ _ _

theorem rd_wrB (s : State) (a n : Nat) (v : Bool) (b : Nat) :
    rd (wrB s a n v) b = if b = a then setBit (rd s a) n v else rd s b := rd_wr _ _ _ _

theorem rd_orReg (s : State) (a : Nat) (m : Word) (b : Nat) :
    rd (orReg s a m) b = if b = a then rd s a ||| m else rd s b := rd_wr _ _ _ _

theorem rd_bumpN (s : State) (a n b : Nat) :
    rd (bumpN s a n) b = if b = a then w32 (min 0xFFFFFFFF (rdN s a + n)) else rd s b := rd_wr _ _ _ _

theorem rd_bump (s : State) (a b : Nat) : rd (bump s a) b = if b = a then w32 (min 0xFFFFFFFF (rdN s a + 1)) else rd s b :=
  rd_wr _ _ _ _

@[simp] theorem rd_setPort (s : State) (p : Nat) (x : TilePort) (r : Nat) : rd (setPort s p x) r = rd s r := by simp only [rd, setPort_regs]
@[simp] theorem rd_setStream (s : State) (i : Nat) (x : Stream) (r : Nat) : rd (setStream s i x) r = rd s r := by simp only [rd, setStream_regs]
@[simp] theorem rd_setAwning (s : State) (i : Nat) (x : Awning) (r : Nat) : rd (setAwning s i x) r = rd s r := by simp only [rd, setAwning_regs]
@[simp] theorem rd_setDma (s : State) (c : Nat) (x : DmaCh) (r : Nat) : rd (setDma s c x) r = rd s r := by simp only [rd, setDma_regs]
@[simp] theorem rd_setSrc (s : State) (i : Nat) (x : SrcState) (r : Nat) : rd (setSrc s i x) r = rd s r := by simp only [rd, setSrc_regs]
@[simp] theorem rd_setSafe (s : State) (k : Nat) (v : Bool) (r : Nat) : rd (setSafe s k v) r = rd s r := by simp only [rd, setSafe_regs]
@[simp] theorem rd_setPtr (s : State) (a : Agent) (p : Nat) (c : Bool) (v : Word) (r : Nat) : rd (setPtr s a p c v) r = rd s r := by simp only [rd, setPtr_regs]
@[simp] theorem rd_indAdvance (s : State) (a : Agent) (p : Nat) (r : Nat) : rd (indAdvance s a p) r = rd s r := by simp only [rd, indAdvance_regs]
@[simp] theorem rd_answer (s : State) (a : Agent) (w : Word) (r : Nat) : rd (answer s a w) r = rd s r := by simp only [rd, answer_regs]
@[simp] theorem rd_raiseE (s : State) (p b : Nat) (r : Nat) : rd (raiseE s p b) r = rd s r := by simp only [rd, raiseE_regs]
@[simp] theorem rd_touchSession (s : State) (a : Agent) (p : Nat) (t : State) (r : Nat) : rd (touchSession s a p t) r = rd t r := by
  simp only [rd, touchSession_regs]

theorem port_setPort (s : State) (i : Nat) (x : TilePort) (j : Nat) : port (setPort s i x) j = if j = i then x else port s j := by
  simp only [port, setPort, Store.get_set]

@[simp] theorem port_setPort_same (s : State) (i : Nat) (x : TilePort) : port (setPort s i x) i = x := by simp [port_setPort]

theorem port_setPort_other (s : State) (i : Nat) (x : TilePort) (j : Nat) (h : j ≠ i) : port (setPort s i x) j = port s j := by
  simp [port_setPort, h]

@[simp] theorem port_wr (s : State) (a : Nat) (v : Word) (q : Nat) : port (wr s a v) q = port s q := by simp only [port, wr_ports]
@[simp] theorem port_wrF (s : State) (a h l v : Nat) (q : Nat) : port (wrF s a h l v) q = port s q := by simp only [port, wrF_ports]
@[simp] theorem port_wrB (s : State) (a b : Nat) (v : Bool) (q : Nat) : port (wrB s a b v) q = port s q := by simp only [port, wrB_ports]
@[simp] theorem port_orReg (s : State) (a : Nat) (m : Word) (q : Nat) : port (orReg s a m) q = port s q := by simp only [port, orReg_ports]
@[simp] theorem port_bumpN (s : State) (a n : Nat) (q : Nat) : port (bumpN s a n) q = port s q := by simp only [port, bumpN_ports]
@[simp] theorem port_bump (s : State) (a : Nat) (q : Nat) : port (bump s a) q = port s q := by simp only [port, bump_ports]
@[simp] theorem port_bump64 (s : State) (l h n : Nat) (q : Nat) : port (bump64 s l h n) q = port s q := by simp only [port, bump64_ports]
@[simp] theorem port_wr64 (s : State) (l h v : Nat) (q : Nat) : port (wr64 s l h v) q = port s q := by simp only [port, wr64_ports]
@[simp] theorem port_setStream (s : State) (i : Nat) (x : Stream) (q : Nat) : port (setStream s i x) q = port s q := by simp only [port, setStream_ports]
@[simp] theorem port_setAwning (s : State) (i : Nat) (x : Awning) (q : Nat) : port (setAwning s i x) q = port s q := by simp only [port, setAwning_ports]
@[simp] theorem port_setDma (s : State) (c : Nat) (x : DmaCh) (q : Nat) : port (setDma s c x) q = port s q := by simp only [port, setDma_ports]
@[simp] theorem port_setSrc (s : State) (i : Nat) (x : SrcState) (q : Nat) : port (setSrc s i x) q = port s q := by simp only [port, setSrc_ports]
@[simp] theorem port_setSafe (s : State) (k : Nat) (v : Bool) (q : Nat) : port (setSafe s k v) q = port s q := by simp only [port, setSafe_ports]
@[simp] theorem port_setPtr (s : State) (a : Agent) (p : Nat) (c : Bool) (v : Word) (q : Nat) : port (setPtr s a p c v) q = port s q := by simp only [port, setPtr_ports]
@[simp] theorem port_indAdvance (s : State) (a : Agent) (p : Nat) (q : Nat) : port (indAdvance s a p) q = port s q := by simp only [port, indAdvance_ports]
@[simp] theorem port_answer (s : State) (a : Agent) (w : Word) (q : Nat) : port (answer s a w) q = port s q := by simp only [port, answer_ports]
@[simp] theorem port_raiseE (s : State) (p b : Nat) (q : Nat) : port (raiseE s p b) q = port s q := by simp only [port, raiseE_ports]
@[simp] theorem port_peak (s : State) (a v : Nat) (q : Nat) : port (peak s a v) q = port s q := by simp only [port, peak_ports]

theorem stream_setStream (s : State) (i : Nat) (x : Stream) (j : Nat) : stream (setStream s i x) j = if j = i then x else stream s j := by
  simp only [stream, setStream, Store.get_set]

@[simp] theorem stream_setStream_same (s : State) (i : Nat) (x : Stream) : stream (setStream s i x) i = x := by simp [stream_setStream]

theorem stream_setStream_other (s : State) (i : Nat) (x : Stream) (j : Nat) (h : j ≠ i) : stream (setStream s i x) j = stream s j := by
  simp [stream_setStream, h]

@[simp] theorem stream_wr (s : State) (a : Nat) (v : Word) (q : Nat) : stream (wr s a v) q = stream s q := by simp only [stream, wr_ing]
@[simp] theorem stream_wrF (s : State) (a h l v : Nat) (q : Nat) : stream (wrF s a h l v) q = stream s q := by simp only [stream, wrF_ing]
@[simp] theorem stream_wrB (s : State) (a b : Nat) (v : Bool) (q : Nat) : stream (wrB s a b v) q = stream s q := by simp only [stream, wrB_ing]
@[simp] theorem stream_orReg (s : State) (a : Nat) (m : Word) (q : Nat) : stream (orReg s a m) q = stream s q := by simp only [stream, orReg_ing]
@[simp] theorem stream_bumpN (s : State) (a n : Nat) (q : Nat) : stream (bumpN s a n) q = stream s q := by simp only [stream, bumpN_ing]
@[simp] theorem stream_bump (s : State) (a : Nat) (q : Nat) : stream (bump s a) q = stream s q := by simp only [stream, bump_ing]
@[simp] theorem stream_bump64 (s : State) (l h n : Nat) (q : Nat) : stream (bump64 s l h n) q = stream s q := by simp only [stream, bump64_ing]
@[simp] theorem stream_wr64 (s : State) (l h v : Nat) (q : Nat) : stream (wr64 s l h v) q = stream s q := by simp only [stream, wr64_ing]
@[simp] theorem stream_setPort (s : State) (p : Nat) (x : TilePort) (q : Nat) : stream (setPort s p x) q = stream s q := by simp only [stream, setPort_ing]
@[simp] theorem stream_setAwning (s : State) (i : Nat) (x : Awning) (q : Nat) : stream (setAwning s i x) q = stream s q := by simp only [stream, setAwning_ing]
@[simp] theorem stream_setDma (s : State) (c : Nat) (x : DmaCh) (q : Nat) : stream (setDma s c x) q = stream s q := by simp only [stream, setDma_ing]
@[simp] theorem stream_setSrc (s : State) (i : Nat) (x : SrcState) (q : Nat) : stream (setSrc s i x) q = stream s q := by simp only [stream, setSrc_ing]
@[simp] theorem stream_setSafe (s : State) (k : Nat) (v : Bool) (q : Nat) : stream (setSafe s k v) q = stream s q := by simp only [stream, setSafe_ing]
@[simp] theorem stream_setPtr (s : State) (a : Agent) (p : Nat) (c : Bool) (v : Word) (q : Nat) : stream (setPtr s a p c v) q = stream s q := by simp only [stream, setPtr_ing]
@[simp] theorem stream_indAdvance (s : State) (a : Agent) (p : Nat) (q : Nat) : stream (indAdvance s a p) q = stream s q := by simp only [stream, indAdvance_ing]
@[simp] theorem stream_answer (s : State) (a : Agent) (w : Word) (q : Nat) : stream (answer s a w) q = stream s q := by simp only [stream, answer_ing]
@[simp] theorem stream_raiseE (s : State) (p b : Nat) (q : Nat) : stream (raiseE s p b) q = stream s q := by simp only [stream, raiseE_ing]
@[simp] theorem stream_peak (s : State) (a v : Nat) (q : Nat) : stream (peak s a v) q = stream s q := by simp only [stream, peak_ing]

theorem awning_setAwning (s : State) (i : Nat) (x : Awning) (j : Nat) : awning (setAwning s i x) j = if j = i then x else awning s j := by
  simp only [awning, setAwning, Store.get_set]

@[simp] theorem awning_setAwning_same (s : State) (i : Nat) (x : Awning) : awning (setAwning s i x) i = x := by simp [awning_setAwning]

theorem awning_setAwning_other (s : State) (i : Nat) (x : Awning) (j : Nat) (h : j ≠ i) : awning (setAwning s i x) j = awning s j := by
  simp [awning_setAwning, h]

@[simp] theorem awning_wr (s : State) (a : Nat) (v : Word) (q : Nat) : awning (wr s a v) q = awning s q := by simp only [awning, wr_awn]
@[simp] theorem awning_wrF (s : State) (a h l v : Nat) (q : Nat) : awning (wrF s a h l v) q = awning s q := by simp only [awning, wrF_awn]
@[simp] theorem awning_wrB (s : State) (a b : Nat) (v : Bool) (q : Nat) : awning (wrB s a b v) q = awning s q := by simp only [awning, wrB_awn]
@[simp] theorem awning_orReg (s : State) (a : Nat) (m : Word) (q : Nat) : awning (orReg s a m) q = awning s q := by simp only [awning, orReg_awn]
@[simp] theorem awning_bumpN (s : State) (a n : Nat) (q : Nat) : awning (bumpN s a n) q = awning s q := by simp only [awning, bumpN_awn]
@[simp] theorem awning_bump (s : State) (a : Nat) (q : Nat) : awning (bump s a) q = awning s q := by simp only [awning, bump_awn]
@[simp] theorem awning_bump64 (s : State) (l h n : Nat) (q : Nat) : awning (bump64 s l h n) q = awning s q := by simp only [awning, bump64_awn]
@[simp] theorem awning_wr64 (s : State) (l h v : Nat) (q : Nat) : awning (wr64 s l h v) q = awning s q := by simp only [awning, wr64_awn]
@[simp] theorem awning_setPort (s : State) (p : Nat) (x : TilePort) (q : Nat) : awning (setPort s p x) q = awning s q := by simp only [awning, setPort_awn]
@[simp] theorem awning_setStream (s : State) (i : Nat) (x : Stream) (q : Nat) : awning (setStream s i x) q = awning s q := by simp only [awning, setStream_awn]
@[simp] theorem awning_setDma (s : State) (c : Nat) (x : DmaCh) (q : Nat) : awning (setDma s c x) q = awning s q := by simp only [awning, setDma_awn]
@[simp] theorem awning_setSrc (s : State) (i : Nat) (x : SrcState) (q : Nat) : awning (setSrc s i x) q = awning s q := by simp only [awning, setSrc_awn]
@[simp] theorem awning_setSafe (s : State) (k : Nat) (v : Bool) (q : Nat) : awning (setSafe s k v) q = awning s q := by simp only [awning, setSafe_awn]
@[simp] theorem awning_setPtr (s : State) (a : Agent) (p : Nat) (c : Bool) (v : Word) (q : Nat) : awning (setPtr s a p c v) q = awning s q := by simp only [awning, setPtr_awn]
@[simp] theorem awning_indAdvance (s : State) (a : Agent) (p : Nat) (q : Nat) : awning (indAdvance s a p) q = awning s q := by simp only [awning, indAdvance_awn]
@[simp] theorem awning_answer (s : State) (a : Agent) (w : Word) (q : Nat) : awning (answer s a w) q = awning s q := by simp only [awning, answer_awn]
@[simp] theorem awning_raiseE (s : State) (p b : Nat) (q : Nat) : awning (raiseE s p b) q = awning s q := by simp only [awning, raiseE_awn]
@[simp] theorem awning_peak (s : State) (a v : Nat) (q : Nat) : awning (peak s a v) q = awning s q := by simp only [awning, peak_awn]

theorem dmaCh_setDma (s : State) (i : Nat) (x : DmaCh) (j : Nat) : dmaCh (setDma s i x) j = if j = i then x else dmaCh s j := by
  simp only [dmaCh, setDma, Store.get_set]

@[simp] theorem dmaCh_setDma_same (s : State) (i : Nat) (x : DmaCh) : dmaCh (setDma s i x) i = x := by simp [dmaCh_setDma]

theorem dmaCh_setDma_other (s : State) (i : Nat) (x : DmaCh) (j : Nat) (h : j ≠ i) : dmaCh (setDma s i x) j = dmaCh s j := by
  simp [dmaCh_setDma, h]

@[simp] theorem dmaCh_wr (s : State) (a : Nat) (v : Word) (q : Nat) : dmaCh (wr s a v) q = dmaCh s q := by simp only [dmaCh, wr_dma]
@[simp] theorem dmaCh_wrF (s : State) (a h l v : Nat) (q : Nat) : dmaCh (wrF s a h l v) q = dmaCh s q := by simp only [dmaCh, wrF_dma]
@[simp] theorem dmaCh_wrB (s : State) (a b : Nat) (v : Bool) (q : Nat) : dmaCh (wrB s a b v) q = dmaCh s q := by simp only [dmaCh, wrB_dma]
@[simp] theorem dmaCh_orReg (s : State) (a : Nat) (m : Word) (q : Nat) : dmaCh (orReg s a m) q = dmaCh s q := by simp only [dmaCh, orReg_dma]
@[simp] theorem dmaCh_bumpN (s : State) (a n : Nat) (q : Nat) : dmaCh (bumpN s a n) q = dmaCh s q := by simp only [dmaCh, bumpN_dma]
@[simp] theorem dmaCh_bump (s : State) (a : Nat) (q : Nat) : dmaCh (bump s a) q = dmaCh s q := by simp only [dmaCh, bump_dma]
@[simp] theorem dmaCh_bump64 (s : State) (l h n : Nat) (q : Nat) : dmaCh (bump64 s l h n) q = dmaCh s q := by simp only [dmaCh, bump64_dma]
@[simp] theorem dmaCh_wr64 (s : State) (l h v : Nat) (q : Nat) : dmaCh (wr64 s l h v) q = dmaCh s q := by simp only [dmaCh, wr64_dma]
@[simp] theorem dmaCh_setPort (s : State) (p : Nat) (x : TilePort) (q : Nat) : dmaCh (setPort s p x) q = dmaCh s q := by simp only [dmaCh, setPort_dma]
@[simp] theorem dmaCh_setStream (s : State) (i : Nat) (x : Stream) (q : Nat) : dmaCh (setStream s i x) q = dmaCh s q := by simp only [dmaCh, setStream_dma]
@[simp] theorem dmaCh_setAwning (s : State) (i : Nat) (x : Awning) (q : Nat) : dmaCh (setAwning s i x) q = dmaCh s q := by simp only [dmaCh, setAwning_dma]
@[simp] theorem dmaCh_setSrc (s : State) (i : Nat) (x : SrcState) (q : Nat) : dmaCh (setSrc s i x) q = dmaCh s q := by simp only [dmaCh, setSrc_dma]
@[simp] theorem dmaCh_setSafe (s : State) (k : Nat) (v : Bool) (q : Nat) : dmaCh (setSafe s k v) q = dmaCh s q := by simp only [dmaCh, setSafe_dma]
@[simp] theorem dmaCh_setPtr (s : State) (a : Agent) (p : Nat) (c : Bool) (v : Word) (q : Nat) : dmaCh (setPtr s a p c v) q = dmaCh s q := by simp only [dmaCh, setPtr_dma]
@[simp] theorem dmaCh_indAdvance (s : State) (a : Agent) (p : Nat) (q : Nat) : dmaCh (indAdvance s a p) q = dmaCh s q := by simp only [dmaCh, indAdvance_dma]
@[simp] theorem dmaCh_answer (s : State) (a : Agent) (w : Word) (q : Nat) : dmaCh (answer s a w) q = dmaCh s q := by simp only [dmaCh, answer_dma]
@[simp] theorem dmaCh_raiseE (s : State) (p b : Nat) (q : Nat) : dmaCh (raiseE s p b) q = dmaCh s q := by simp only [dmaCh, raiseE_dma]
@[simp] theorem dmaCh_peak (s : State) (a v : Nat) (q : Nat) : dmaCh (peak s a v) q = dmaCh s q := by simp only [dmaCh, peak_dma]

theorem srcSt_setSrc (s : State) (i : Nat) (x : SrcState) (j : Nat) : srcSt (setSrc s i x) j = if j = i then x else srcSt s j := by
  simp only [srcSt, setSrc, Store.get_set]

@[simp] theorem srcSt_setSrc_same (s : State) (i : Nat) (x : SrcState) : srcSt (setSrc s i x) i = x := by simp [srcSt_setSrc]

theorem srcSt_setSrc_other (s : State) (i : Nat) (x : SrcState) (j : Nat) (h : j ≠ i) : srcSt (setSrc s i x) j = srcSt s j := by
  simp [srcSt_setSrc, h]

@[simp] theorem srcSt_wr (s : State) (a : Nat) (v : Word) (q : Nat) : srcSt (wr s a v) q = srcSt s q := by simp only [srcSt, wr_icu]
@[simp] theorem srcSt_wrF (s : State) (a h l v : Nat) (q : Nat) : srcSt (wrF s a h l v) q = srcSt s q := by simp only [srcSt, wrF_icu]
@[simp] theorem srcSt_wrB (s : State) (a b : Nat) (v : Bool) (q : Nat) : srcSt (wrB s a b v) q = srcSt s q := by simp only [srcSt, wrB_icu]
@[simp] theorem srcSt_orReg (s : State) (a : Nat) (m : Word) (q : Nat) : srcSt (orReg s a m) q = srcSt s q := by simp only [srcSt, orReg_icu]
@[simp] theorem srcSt_bumpN (s : State) (a n : Nat) (q : Nat) : srcSt (bumpN s a n) q = srcSt s q := by simp only [srcSt, bumpN_icu]
@[simp] theorem srcSt_bump (s : State) (a : Nat) (q : Nat) : srcSt (bump s a) q = srcSt s q := by simp only [srcSt, bump_icu]
@[simp] theorem srcSt_bump64 (s : State) (l h n : Nat) (q : Nat) : srcSt (bump64 s l h n) q = srcSt s q := by simp only [srcSt, bump64_icu]
@[simp] theorem srcSt_wr64 (s : State) (l h v : Nat) (q : Nat) : srcSt (wr64 s l h v) q = srcSt s q := by simp only [srcSt, wr64_icu]
@[simp] theorem srcSt_setPort (s : State) (p : Nat) (x : TilePort) (q : Nat) : srcSt (setPort s p x) q = srcSt s q := by simp only [srcSt, setPort_icu]
@[simp] theorem srcSt_setStream (s : State) (i : Nat) (x : Stream) (q : Nat) : srcSt (setStream s i x) q = srcSt s q := by simp only [srcSt, setStream_icu]
@[simp] theorem srcSt_setAwning (s : State) (i : Nat) (x : Awning) (q : Nat) : srcSt (setAwning s i x) q = srcSt s q := by simp only [srcSt, setAwning_icu]
@[simp] theorem srcSt_setDma (s : State) (c : Nat) (x : DmaCh) (q : Nat) : srcSt (setDma s c x) q = srcSt s q := by simp only [srcSt, setDma_icu]
@[simp] theorem srcSt_setSafe (s : State) (k : Nat) (v : Bool) (q : Nat) : srcSt (setSafe s k v) q = srcSt s q := by simp only [srcSt, setSafe_icu]
@[simp] theorem srcSt_setPtr (s : State) (a : Agent) (p : Nat) (c : Bool) (v : Word) (q : Nat) : srcSt (setPtr s a p c v) q = srcSt s q := by simp only [srcSt, setPtr_icu]
@[simp] theorem srcSt_indAdvance (s : State) (a : Agent) (p : Nat) (q : Nat) : srcSt (indAdvance s a p) q = srcSt s q := by simp only [srcSt, indAdvance_icu]
@[simp] theorem srcSt_answer (s : State) (a : Agent) (w : Word) (q : Nat) : srcSt (answer s a w) q = srcSt s q := by simp only [srcSt, answer_icu]
@[simp] theorem srcSt_peak (s : State) (a v : Nat) (q : Nat) : srcSt (peak s a v) q = srcSt s q := by simp only [srcSt, peak_icu]

end Sys2Proof.Machine
end

