-- ==== Sys2Proof/Laws/Keep.lean ====
section
/-! SUPPORT. For each operation and each meaning one lemma that says which of the queue, device memory, host memory, the
one-time-programmable store and the PCIe configuration it leaves alone. -/

set_option linter.all false

namespace Sys2Proof.Machine



@[simp] theorem ite_pending (c : Prop) [Decidable c] (a b : State) : (if c then a else b).pending = if c then a.pending else b.pending := apply_ite (fun s : State => s.pending) _ _ _

@[simp] theorem ite_mem (c : Prop) [Decidable c] (a b : State) : (if c then a else b).mem = if c then a.mem else b.mem := apply_ite (fun s : State => s.mem) _ _ _

@[simp] theorem ite_hostMem (c : Prop) [Decidable c] (a b : State) : (if c then a else b).hostMem = if c then a.hostMem else b.hostMem := apply_ite (fun s : State => s.hostMem) _ _ _

@[simp] theorem ite_otp (c : Prop) [Decidable c] (a b : State) : (if c then a else b).otp = if c then a.otp else b.otp := apply_ite (fun s : State => s.otp) _ _ _

@[simp] theorem ite_pcie_cfg (c : Prop) [Decidable c] (a b : State) : (if c then a else b).pcie.cfg = if c then a.pcie.cfg else b.pcie.cfg := apply_ite (fun s : State => s.pcie.cfg) _ _ _

theorem foldl_keep {α β : Type} (π : State → β) (f : State → α → State) (h : ∀ s a, π (f s a) = π s) (l : List α) (s : State) : π (l.foldl f s) = π s := by
  induction l generalizing s with
  | nil => rfl
  | cons a l ih => simp [ih, h]

theorem foldl_cfg {α : Type} (f : State → α → State) (h : ∀ s a, (f s a).pcie.cfg = s.pcie.cfg) (l : List α) (s : State) : (l.foldl f s).pcie.cfg = s.pcie.cfg :=
  foldl_keep (fun s : State => s.pcie.cfg) f h l s

theorem wr_pcie_cfg (s : State) (x1 : Nat) (x2 : Word) : (wr s x1 x2).pcie.cfg = s.pcie.cfg := by simp

theorem bump_pcie_cfg (s : State) (x1 : Nat) : (bump s x1).pcie.cfg = s.pcie.cfg := by simp

@[simp] theorem bumpIf_keep (x0 : Bool) (s : State) (x2 : Nat) :
    (bumpIf x0 s x2).pending = s.pending ∧ (bumpIf x0 s x2).mem = s.mem ∧ (bumpIf x0 s x2).hostMem = s.hostMem ∧ (bumpIf x0 s x2).otp = s.otp ∧ (bumpIf x0 s x2).pcie.cfg = s.pcie.cfg := by
  unfold bumpIf
  (repeat' (first | split | simp [foldl_keep, foldl_cfg])) <;> simp_all [foldl_keep, foldl_cfg]

@[simp] theorem wrCfg_keep (s : State) (x1 : Nat) (x2 : Word) :
    (wrCfg s x1 x2).pending = s.pending ∧ (wrCfg s x1 x2).mem = s.mem ∧ (wrCfg s x1 x2).hostMem = s.hostMem ∧ (wrCfg s x1 x2).otp = s.otp ∧ (wrCfg s x1 x2).pcie.cfg = s.pcie.cfg := by
  unfold wrCfg
  (repeat' (first | split | simp [foldl_keep, foldl_cfg])) <;> simp_all [foldl_keep, foldl_cfg]

@[simp] theorem freshBit_keep (s : State) :
    (freshBit s).2.pending = s.pending ∧ (freshBit s).2.mem = s.mem ∧ (freshBit s).2.hostMem = s.hostMem ∧ (freshBit s).2.otp = s.otp ∧ (freshBit s).2.pcie.cfg = s.pcie.cfg := by
  unfold freshBit
  (repeat' (first | split | simp [foldl_keep, foldl_cfg])) <;> simp_all [foldl_keep, foldl_cfg]

@[simp] theorem freshWord_keep (s : State) :
    (freshWord s).2.pending = s.pending ∧ (freshWord s).2.mem = s.mem ∧ (freshWord s).2.hostMem = s.hostMem ∧ (freshWord s).2.otp = s.otp ∧ (freshWord s).2.pcie.cfg = s.pcie.cfg := by
  unfold freshWord
  (repeat' (first | split | simp [foldl_keep, foldl_cfg])) <;> simp_all [foldl_keep, foldl_cfg]

theorem setPort_pcie_cfg (s : State) (x1 : Nat) (x2 : TilePort) : (setPort s x1 x2).pcie.cfg = s.pcie.cfg := by simp

@[simp] theorem holdSafe_keep (s : State) (x1 : Nat) :
    (holdSafe s x1).pending = s.pending ∧ (holdSafe s x1).mem = s.mem ∧ (holdSafe s x1).hostMem = s.hostMem ∧ (holdSafe s x1).otp = s.otp ∧ (holdSafe s x1).pcie.cfg = s.pcie.cfg := by
  unfold holdSafe
  (repeat' (first | split | simp [foldl_keep, foldl_cfg])) <;> simp_all [foldl_keep, foldl_cfg]

@[simp] theorem releaseSafe_keep (s : State) (x1 : Nat) :
    (releaseSafe s x1).pending = s.pending ∧ (releaseSafe s x1).mem = s.mem ∧ (releaseSafe s x1).hostMem = s.hostMem ∧ (releaseSafe s x1).otp = s.otp ∧ (releaseSafe s x1).pcie.cfg = s.pcie.cfg := by
  unfold releaseSafe
  (repeat' (first | split | simp [foldl_keep, foldl_cfg])) <;> simp_all [foldl_keep, foldl_cfg]

@[simp] theorem releaseLatch_keep (x0 : Nat) (s : State) (x2 : Nat) :
    (releaseLatch x0 s x2).pending = s.pending ∧ (releaseLatch x0 s x2).mem = s.mem ∧ (releaseLatch x0 s x2).hostMem = s.hostMem ∧ (releaseLatch x0 s x2).otp = s.otp ∧ (releaseLatch x0 s x2).pcie.cfg = s.pcie.cfg := by
  unfold releaseLatch
  (repeat' (first | split | simp [foldl_keep, foldl_cfg])) <;> simp_all [foldl_keep, foldl_cfg]

theorem raiseE_pcie_cfg (s : State) (x1 : Nat) (x2 : Nat) : (raiseE s x1 x2).pcie.cfg = s.pcie.cfg := by simp

@[simp] theorem notify_keep (s : State) (x1 : Nat) :
    (notify s x1).pending = s.pending ∧ (notify s x1).mem = s.mem ∧ (notify s x1).hostMem = s.hostMem ∧ (notify s x1).otp = s.otp ∧ (notify s x1).pcie.cfg = s.pcie.cfg := by
  unfold notify
  (repeat' (first | split | simp [foldl_keep, foldl_cfg])) <;> simp_all [foldl_keep, foldl_cfg]

@[simp] theorem pulse_keep (s : State) (x1 : Nat) :
    (pulse s x1).pending = s.pending ∧ (pulse s x1).mem = s.mem ∧ (pulse s x1).hostMem = s.hostMem ∧ (pulse s x1).otp = s.otp ∧ (pulse s x1).pcie.cfg = s.pcie.cfg := by
  unfold pulse
  (repeat' (first | split | simp [foldl_keep, foldl_cfg])) <;> simp_all [foldl_keep, foldl_cfg]

@[simp] theorem audit_lose_keep (s : State) :
    (audit.lose s).pending = s.pending ∧ (audit.lose s).mem = s.mem ∧ (audit.lose s).hostMem = s.hostMem ∧ (audit.lose s).otp = s.otp ∧ (audit.lose s).pcie.cfg = s.pcie.cfg := by
  unfold audit.lose
  (repeat' (first | split | simp [foldl_keep, foldl_cfg])) <;> simp_all [foldl_keep, foldl_cfg]

@[simp] theorem audit_keep (s : State) (x1 : Nat) (x2 : Nat) (x3 : Nat) (x4 : List Byte) :
    (audit s x1 x2 x3 x4).pending = s.pending ∧ (audit s x1 x2 x3 x4).mem = s.mem ∧ (audit s x1 x2 x3 x4).hostMem = s.hostMem ∧ (audit s x1 x2 x3 x4).otp = s.otp ∧ (audit s x1 x2 x3 x4).pcie.cfg = s.pcie.cfg := by
  unfold audit
  simp only []
  split <;> (try split) <;> (try split) <;> simp [audit.lose]

@[simp] theorem refuseWrite_keep (s : State) (x1 : Agent) (x2 : Nat) (x3 : Word) (x4 : Nat) :
    (refuseWrite s x1 x2 x3 x4).pending = s.pending ∧ (refuseWrite s x1 x2 x3 x4).mem = s.mem ∧ (refuseWrite s x1 x2 x3 x4).hostMem = s.hostMem ∧ (refuseWrite s x1 x2 x3 x4).otp = s.otp ∧ (refuseWrite s x1 x2 x3 x4).pcie.cfg = s.pcie.cfg := by
  unfold refuseWrite
  (repeat' (first | split | simp [foldl_keep, foldl_cfg])) <;> simp_all [foldl_keep, foldl_cfg]

theorem guarded_pending (s t : State) (a : Agent) (addr : Nat) (v : Word) (k : LockKind) (h : t.pending = s.pending) :
    (guarded s a addr v k t).pending = s.pending := by
  unfold guarded
  split
  · rfl
  · split
    · simp
    · simp [touchSession_pending, h]

theorem indGuarded_pending (s t : State) (a : Agent) (pg : Nat) (v : Word) (h : t.pending = s.pending) :
    (indGuarded s a pg v t).pending = s.pending := by
  unfold indGuarded
  split
  · rfl
  · simp [guarded_pending, h]

theorem guarded_mem (s t : State) (a : Agent) (addr : Nat) (v : Word) (k : LockKind) (h : t.mem = s.mem) :
    (guarded s a addr v k t).mem = s.mem := by
  unfold guarded
  split
  · rfl
  · split
    · simp
    · simp [touchSession_mem, h]

theorem indGuarded_mem (s t : State) (a : Agent) (pg : Nat) (v : Word) (h : t.mem = s.mem) :
    (indGuarded s a pg v t).mem = s.mem := by
  unfold indGuarded
  split
  · rfl
  · simp [guarded_mem, h]

theorem guarded_hostMem (s t : State) (a : Agent) (addr : Nat) (v : Word) (k : LockKind) (h : t.hostMem = s.hostMem) :
    (guarded s a addr v k t).hostMem = s.hostMem := by
  unfold guarded
  split
  · rfl
  · split
    · simp
    · simp [touchSession_hostMem, h]

theorem indGuarded_hostMem (s t : State) (a : Agent) (pg : Nat) (v : Word) (h : t.hostMem = s.hostMem) :
    (indGuarded s a pg v t).hostMem = s.hostMem := by
  unfold indGuarded
  split
  · rfl
  · simp [guarded_hostMem, h]

theorem guarded_otp (s t : State) (a : Agent) (addr : Nat) (v : Word) (k : LockKind) (h : t.otp = s.otp) :
    (guarded s a addr v k t).otp = s.otp := by
  unfold guarded
  split
  · rfl
  · split
    · simp
    · simp [touchSession_otp, h]

theorem indGuarded_otp (s t : State) (a : Agent) (pg : Nat) (v : Word) (h : t.otp = s.otp) :
    (indGuarded s a pg v t).otp = s.otp := by
  unfold indGuarded
  split
  · rfl
  · simp [guarded_otp, h]

theorem touchSession_pcie_cfg (s t : State) (a : Agent) (pg : Nat) : (touchSession s a pg t).pcie.cfg = t.pcie.cfg := by
  unfold touchSession
  split
  · split <;> rfl
  · rfl

theorem guarded_pcie_cfg (s t : State) (a : Agent) (addr : Nat) (v : Word) (k : LockKind) (h : t.pcie.cfg = s.pcie.cfg) :
    (guarded s a addr v k t).pcie.cfg = s.pcie.cfg := by
  unfold guarded
  split
  · rfl
  · split
    · simp
    · simp [touchSession_pcie_cfg, h]

theorem indGuarded_pcie_cfg (s t : State) (a : Agent) (pg : Nat) (v : Word) (h : t.pcie.cfg = s.pcie.cfg) :
    (indGuarded s a pg v t).pcie.cfg = s.pcie.cfg := by
  unfold indGuarded
  split
  · rfl
  · simp [guarded_pcie_cfg, h]

@[simp] theorem memWrite_keep (s : State) (x1 : Nat) (x2 : List Byte) :
    (memWrite s x1 x2).pending = s.pending ∧ (memWrite s x1 x2).hostMem = s.hostMem ∧ (memWrite s x1 x2).otp = s.otp ∧ (memWrite s x1 x2).pcie.cfg = s.pcie.cfg := by
  unfold memWrite
  (repeat' (first | split | simp [foldl_keep, foldl_cfg])) <;> simp_all [foldl_keep, foldl_cfg]

@[simp] theorem countTransfer_keep (s : State) (x1 : Nat) (x2 : Bool) :
    (countTransfer s x1 x2).pending = s.pending ∧ (countTransfer s x1 x2).mem = s.mem ∧ (countTransfer s x1 x2).hostMem = s.hostMem ∧ (countTransfer s x1 x2).otp = s.otp ∧ (countTransfer s x1 x2).pcie.cfg = s.pcie.cfg := by
  unfold countTransfer
  (repeat' (first | split | simp [foldl_keep, foldl_cfg])) <;> simp_all [foldl_keep, foldl_cfg]

theorem countTransfer_mem (s : State) (x1 : Nat) (x2 : Bool) : (countTransfer s x1 x2).mem = s.mem := (countTransfer_keep s x1 x2).2.1

@[simp] theorem readWord32_keep (s : State) (x1 : Nat) (x2 : Ecc) :
    (readWord32 s x1 x2).2.pending = s.pending ∧ (readWord32 s x1 x2).2.mem = s.mem ∧ (readWord32 s x1 x2).2.hostMem = s.hostMem ∧ (readWord32 s x1 x2).2.otp = s.otp ∧ (readWord32 s x1 x2).2.pcie.cfg = s.pcie.cfg := by
  unfold readWord32
  (repeat' (first | split | simp [foldl_keep, foldl_cfg])) <;> simp_all [foldl_keep, foldl_cfg]

@[simp] theorem noteRead_keep (s : State) (x1 : Nat) (x2 : Nat) :
    (noteRead s x1 x2).pending = s.pending ∧ (noteRead s x1 x2).mem = s.mem ∧ (noteRead s x1 x2).hostMem = s.hostMem ∧ (noteRead s x1 x2).otp = s.otp ∧ (noteRead s x1 x2).pcie.cfg = s.pcie.cfg := by
  unfold noteRead
  (repeat' (first | split | simp [foldl_keep, foldl_cfg])) <;> simp_all [foldl_keep, foldl_cfg]

@[simp] theorem devWrite_keep (s : State) (x1 : Nat) (x2 : List Byte) :
    (devWrite s x1 x2).pending = s.pending ∧ (devWrite s x1 x2).otp = s.otp ∧ (devWrite s x1 x2).pcie.cfg = s.pcie.cfg := by
  unfold devWrite
  (repeat' (first | split | simp [foldl_keep, foldl_cfg])) <;> simp_all [foldl_keep, foldl_cfg]

theorem devWrite_pcie_cfg (s : State) (x1 : Nat) (x2 : List Byte) : (devWrite s x1 x2).pcie.cfg = s.pcie.cfg := (devWrite_keep s x1 x2).2.2

@[simp] theorem noteHostErr_keep (s : State) (x1 : Nat) :
    (noteHostErr s x1).pending = s.pending ∧ (noteHostErr s x1).mem = s.mem ∧ (noteHostErr s x1).hostMem = s.hostMem ∧ (noteHostErr s x1).otp = s.otp ∧ (noteHostErr s x1).pcie.cfg = s.pcie.cfg := by
  unfold noteHostErr
  (repeat' (first | split | simp [foldl_keep, foldl_cfg])) <;> simp_all [foldl_keep, foldl_cfg]

@[simp] theorem noteDevRead_keep (s : State) (x1 : Nat) (x2 : Nat) :
    (noteDevRead s x1 x2).pending = s.pending ∧ (noteDevRead s x1 x2).mem = s.mem ∧ (noteDevRead s x1 x2).hostMem = s.hostMem ∧ (noteDevRead s x1 x2).otp = s.otp ∧ (noteDevRead s x1 x2).pcie.cfg = s.pcie.cfg := by
  unfold noteDevRead
  (repeat' (first | split | simp [foldl_keep, foldl_cfg])) <;> simp_all [foldl_keep, foldl_cfg]

@[simp] theorem noteUpset_keep (s : State) (x1 : Upset) :
    (noteUpset s x1).pending = s.pending ∧ (noteUpset s x1).mem = s.mem ∧ (noteUpset s x1).hostMem = s.hostMem ∧ (noteUpset s x1).otp = s.otp ∧ (noteUpset s x1).pcie.cfg = s.pcie.cfg := by
  unfold noteUpset
  (repeat' (first | split | simp [foldl_keep, foldl_cfg])) <;> simp_all [foldl_keep, foldl_cfg]

@[simp] theorem noteUpsets_keep (s : State) (x1 : List Upset) :
    (noteUpsets s x1).pending = s.pending ∧ (noteUpsets s x1).mem = s.mem ∧ (noteUpsets s x1).hostMem = s.hostMem ∧ (noteUpsets s x1).otp = s.otp ∧ (noteUpsets s x1).pcie.cfg = s.pcie.cfg := by
  unfold noteUpsets
  (repeat' (first | split | simp [foldl_keep, foldl_cfg])) <;> simp_all [foldl_keep, foldl_cfg]

@[simp] theorem notePrev_keep (s : State) (x1 : Nat) (x2 : PhaseCtx) :
    (notePrev s x1 x2).pending = s.pending ∧ (notePrev s x1 x2).mem = s.mem ∧ (notePrev s x1 x2).hostMem = s.hostMem ∧ (notePrev s x1 x2).otp = s.otp ∧ (notePrev s x1 x2).pcie.cfg = s.pcie.cfg := by
  unfold notePrev
  (repeat' (first | split | simp [foldl_keep, foldl_cfg])) <;> simp_all [foldl_keep, foldl_cfg]

@[simp] theorem setCtx_keep (s : State) (x1 : PhaseCtx) :
    (setCtx s x1).pending = s.pending ∧ (setCtx s x1).mem = s.mem ∧ (setCtx s x1).hostMem = s.hostMem ∧ (setCtx s x1).otp = s.otp ∧ (setCtx s x1).pcie.cfg = s.pcie.cfg := by
  unfold setCtx
  (repeat' (first | split | simp [foldl_keep, foldl_cfg])) <;> simp_all [foldl_keep, foldl_cfg]

@[simp] theorem pushCtx_keep (s : State) (x1 : PhaseCtx) :
    (pushCtx s x1).pending = s.pending ∧ (pushCtx s x1).mem = s.mem ∧ (pushCtx s x1).hostMem = s.hostMem ∧ (pushCtx s x1).otp = s.otp ∧ (pushCtx s x1).pcie.cfg = s.pcie.cfg := by
  unfold pushCtx
  (repeat' (first | split | simp [foldl_keep, foldl_cfg])) <;> simp_all [foldl_keep, foldl_cfg]

@[simp] theorem takeFidx_keep (s : State) (x1 : Nat) (x2 : Nat) :
    (takeFidx s x1 x2).2.pending = s.pending ∧ (takeFidx s x1 x2).2.mem = s.mem ∧ (takeFidx s x1 x2).2.hostMem = s.hostMem ∧ (takeFidx s x1 x2).2.otp = s.otp ∧ (takeFidx s x1 x2).2.pcie.cfg = s.pcie.cfg := by
  unfold takeFidx
  (repeat' (first | split | simp [foldl_keep, foldl_cfg])) <;> simp_all [foldl_keep, foldl_cfg]

@[simp] theorem startTx_keep (s : State) (x1 : Nat) (x2 : TxClass) (x3 : List Byte) (x4 : Nat) (x5 : Option Nat) :
    (startTx s x1 x2 x3 x4 x5).pending = s.pending ∧ (startTx s x1 x2 x3 x4 x5).mem = s.mem ∧ (startTx s x1 x2 x3 x4 x5).hostMem = s.hostMem ∧ (startTx s x1 x2 x3 x4 x5).otp = s.otp ∧ (startTx s x1 x2 x3 x4 x5).pcie.cfg = s.pcie.cfg := by
  unfold startTx
  (repeat' (first | split | simp [foldl_keep, foldl_cfg])) <;> simp_all [foldl_keep, foldl_cfg]

@[simp] theorem queueT_keep (s : State) (x1 : Nat) (x2 : Bool) (x3 : List Byte) :
    (queueT s x1 x2 x3).pending = s.pending ∧ (queueT s x1 x2 x3).mem = s.mem ∧ (queueT s x1 x2 x3).hostMem = s.hostMem ∧ (queueT s x1 x2 x3).otp = s.otp ∧ (queueT s x1 x2 x3).pcie.cfg = s.pcie.cfg := by
  unfold queueT
  (repeat' (first | split | simp [foldl_keep, foldl_cfg])) <;> simp_all [foldl_keep, foldl_cfg]

@[simp] theorem queueTime_keep (s : State) (x1 : Nat) :
    (queueTime s x1).pending = s.pending ∧ (queueTime s x1).mem = s.mem ∧ (queueTime s x1).hostMem = s.hostMem ∧ (queueTime s x1).otp = s.otp ∧ (queueTime s x1).pcie.cfg = s.pcie.cfg := by
  unfold queueTime
  (repeat' (first | split | simp [foldl_keep, foldl_cfg])) <;> simp_all [foldl_keep, foldl_cfg]

@[simp] theorem queueTimeAll_keep (s : State) :
    (queueTimeAll s).pending = s.pending ∧ (queueTimeAll s).mem = s.mem ∧ (queueTimeAll s).hostMem = s.hostMem ∧ (queueTimeAll s).otp = s.otp ∧ (queueTimeAll s).pcie.cfg = s.pcie.cfg := by
  unfold queueTimeAll
  (repeat' (first | split | simp [foldl_keep, foldl_cfg])) <;> simp_all [foldl_keep, foldl_cfg]

@[simp] theorem sramWrite_keep (s : State) (x1 : Nat) (x2 : List Byte) :
    (sramWrite s x1 x2).pending = s.pending ∧ (sramWrite s x1 x2).mem = s.mem ∧ (sramWrite s x1 x2).hostMem = s.hostMem ∧ (sramWrite s x1 x2).otp = s.otp ∧ (sramWrite s x1 x2).pcie.cfg = s.pcie.cfg := by
  unfold sramWrite
  (repeat' (first | split | simp [foldl_keep, foldl_cfg])) <;> simp_all [foldl_keep, foldl_cfg]

@[simp] theorem sramStore_keep (s : State) (x1 : Nat) (x2 : List Byte) :
    (sramStore s x1 x2).pending = s.pending ∧ (sramStore s x1 x2).mem = s.mem ∧ (sramStore s x1 x2).hostMem = s.hostMem ∧ (sramStore s x1 x2).otp = s.otp ∧ (sramStore s x1 x2).pcie.cfg = s.pcie.cfg := by
  unfold sramStore
  (repeat' (first | split | simp [foldl_keep, foldl_cfg])) <;> simp_all [foldl_keep, foldl_cfg]

@[simp] theorem fwReceive_keep (s : State) (x1 : Nat) (x2 : Nat) (x3 : Option ℤ) (x4 : List Byte) :
    (fwReceive s x1 x2 x3 x4).pending = s.pending ∧ (fwReceive s x1 x2 x3 x4).mem = s.mem ∧ (fwReceive s x1 x2 x3 x4).hostMem = s.hostMem ∧ (fwReceive s x1 x2 x3 x4).otp = s.otp ∧ (fwReceive s x1 x2 x3 x4).pcie.cfg = s.pcie.cfg := by
  unfold fwReceive
  (repeat' (first | split | simp [foldl_keep, foldl_cfg])) <;> simp_all [foldl_keep, foldl_cfg]

@[simp] theorem enterHoldover_keep (s : State) (x1 : Nat) :
    (enterHoldover s x1).pending = s.pending ∧ (enterHoldover s x1).mem = s.mem ∧ (enterHoldover s x1).hostMem = s.hostMem ∧ (enterHoldover s x1).otp = s.otp ∧ (enterHoldover s x1).pcie.cfg = s.pcie.cfg := by
  unfold enterHoldover
  (repeat' (first | split | simp [foldl_keep, foldl_cfg])) <;> simp_all [foldl_keep, foldl_cfg]

theorem execTimeCounterTick_keep (s : State) :
    ∃ t, execTimeCounterTick s = .next t ∧ t.pending = s.pending ∧ t.mem = s.mem ∧ t.hostMem = s.hostMem ∧ t.otp = s.otp ∧ t.pcie.cfg = s.pcie.cfg := by
  unfold execTimeCounterTick
  refine ⟨_, rfl, ?_⟩
  (repeat' (first | split | simp [foldl_keep, foldl_cfg, guarded_pending, indGuarded_pending, guarded_mem, indGuarded_mem, guarded_hostMem, indGuarded_hostMem, guarded_otp, indGuarded_otp, guarded_pcie_cfg, indGuarded_pcie_cfg])) <;> simp_all [foldl_keep, foldl_cfg, guarded_pending, indGuarded_pending, guarded_mem, indGuarded_mem, guarded_hostMem, indGuarded_hostMem, guarded_otp, indGuarded_otp, guarded_pcie_cfg, indGuarded_pcie_cfg]

theorem execIncOfsWrite_keep (x0 : Agent) (x1 : Word) (s : State) :
    ∃ t, execIncOfsWrite x0 x1 s = .next t ∧ t.pending = s.pending ∧ t.mem = s.mem ∧ t.hostMem = s.hostMem ∧ t.otp = s.otp ∧ t.pcie.cfg = s.pcie.cfg := by
  unfold execIncOfsWrite
  refine ⟨_, rfl, ?_⟩
  (repeat' (first | split | simp [foldl_keep, foldl_cfg, guarded_pending, indGuarded_pending, guarded_mem, indGuarded_mem, guarded_hostMem, indGuarded_hostMem, guarded_otp, indGuarded_otp, guarded_pcie_cfg, indGuarded_pcie_cfg])) <;> simp_all [foldl_keep, foldl_cfg, guarded_pending, indGuarded_pending, guarded_mem, indGuarded_mem, guarded_hostMem, indGuarded_hostMem, guarded_otp, indGuarded_otp, guarded_pcie_cfg, indGuarded_pcie_cfg]

@[simp] theorem capture_keep (s : State) (x1 : Nat) :
    (capture s x1).pending = s.pending ∧ (capture s x1).mem = s.mem ∧ (capture s x1).hostMem = s.hostMem ∧ (capture s x1).otp = s.otp ∧ (capture s x1).pcie.cfg = s.pcie.cfg := by
  unfold capture
  (repeat' (first | split | simp [foldl_keep, foldl_cfg])) <;> simp_all [foldl_keep, foldl_cfg]

theorem execCaptureGo_keep (x0 : Agent) (x1 : Word) (s : State) :
    ∃ t, execCaptureGo x0 x1 s = .next t ∧ t.pending = s.pending ∧ t.mem = s.mem ∧ t.hostMem = s.hostMem ∧ t.otp = s.otp ∧ t.pcie.cfg = s.pcie.cfg := by
  unfold execCaptureGo
  refine ⟨_, rfl, ?_⟩
  (repeat' (first | split | simp [foldl_keep, foldl_cfg, guarded_pending, indGuarded_pending, guarded_mem, indGuarded_mem, guarded_hostMem, indGuarded_hostMem, guarded_otp, indGuarded_otp, guarded_pcie_cfg, indGuarded_pcie_cfg])) <;> simp_all [foldl_keep, foldl_cfg, guarded_pending, indGuarded_pending, guarded_mem, indGuarded_mem, guarded_hostMem, indGuarded_hostMem, guarded_otp, indGuarded_otp, guarded_pcie_cfg, indGuarded_pcie_cfg]

theorem execCaptureArm_keep (x0 : Agent) (x1 : Word) (s : State) :
    ∃ t, execCaptureArm x0 x1 s = .next t ∧ t.pending = s.pending ∧ t.mem = s.mem ∧ t.hostMem = s.hostMem ∧ t.otp = s.otp ∧ t.pcie.cfg = s.pcie.cfg := by
  unfold execCaptureArm
  refine ⟨_, rfl, ?_⟩
  (repeat' (first | split | simp [foldl_keep, foldl_cfg, guarded_pending, indGuarded_pending, guarded_mem, indGuarded_mem, guarded_hostMem, indGuarded_hostMem, guarded_otp, indGuarded_otp, guarded_pcie_cfg, indGuarded_pcie_cfg])) <;> simp_all [foldl_keep, foldl_cfg, guarded_pending, indGuarded_pending, guarded_mem, indGuarded_mem, guarded_hostMem, indGuarded_hostMem, guarded_otp, indGuarded_otp, guarded_pcie_cfg, indGuarded_pcie_cfg]

theorem execCaptureEvent_keep (s : State) :
    ∃ t, execCaptureEvent s = .next t ∧ t.pending = s.pending ∧ t.mem = s.mem ∧ t.hostMem = s.hostMem ∧ t.otp = s.otp ∧ t.pcie.cfg = s.pcie.cfg := by
  unfold execCaptureEvent
  refine ⟨_, rfl, ?_⟩
  (repeat' (first | split | simp [foldl_keep, foldl_cfg, guarded_pending, indGuarded_pending, guarded_mem, indGuarded_mem, guarded_hostMem, indGuarded_hostMem, guarded_otp, indGuarded_otp, guarded_pcie_cfg, indGuarded_pcie_cfg])) <;> simp_all [foldl_keep, foldl_cfg, guarded_pending, indGuarded_pending, guarded_mem, indGuarded_mem, guarded_hostMem, indGuarded_hostMem, guarded_otp, indGuarded_otp, guarded_pcie_cfg, indGuarded_pcie_cfg]

theorem execPpsEnd_keep (s : State) :
    ∃ t, execPpsEnd s = .next t ∧ t.pending = s.pending ∧ t.mem = s.mem ∧ t.hostMem = s.hostMem ∧ t.otp = s.otp ∧ t.pcie.cfg = s.pcie.cfg := by
  unfold execPpsEnd
  refine ⟨_, rfl, ?_⟩
  (repeat' (first | split | simp [foldl_keep, foldl_cfg, guarded_pending, indGuarded_pending, guarded_mem, indGuarded_mem, guarded_hostMem, indGuarded_hostMem, guarded_otp, indGuarded_otp, guarded_pcie_cfg, indGuarded_pcie_cfg])) <;> simp_all [foldl_keep, foldl_cfg, guarded_pending, indGuarded_pending, guarded_mem, indGuarded_mem, guarded_hostMem, indGuarded_hostMem, guarded_otp, indGuarded_otp, guarded_pcie_cfg, indGuarded_pcie_cfg]

@[simp] theorem forgetFrom_keep (s : State) (x1 : Nat) :
    (forgetFrom s x1).pending = s.pending ∧ (forgetFrom s x1).mem = s.mem ∧ (forgetFrom s x1).hostMem = s.hostMem ∧ (forgetFrom s x1).otp = s.otp ∧ (forgetFrom s x1).pcie.cfg = s.pcie.cfg := by
  unfold forgetFrom
  (repeat' (first | split | simp [foldl_keep, foldl_cfg])) <;> simp_all [foldl_keep, foldl_cfg]

@[simp] theorem publish_keep (s : State) (x1 : Nat) :
    (publish s x1).pending = s.pending ∧ (publish s x1).mem = s.mem ∧ (publish s x1).hostMem = s.hostMem ∧ (publish s x1).otp = s.otp ∧ (publish s x1).pcie.cfg = s.pcie.cfg := by
  unfold publish
  (repeat' (first | split | simp [foldl_keep, foldl_cfg])) <;> simp_all [foldl_keep, foldl_cfg]

@[simp] theorem stepPhases_keep (s : State) (x1 : ℤ) :
    (stepPhases s x1).pending = s.pending ∧ (stepPhases s x1).mem = s.mem ∧ (stepPhases s x1).hostMem = s.hostMem ∧ (stepPhases s x1).otp = s.otp ∧ (stepPhases s x1).pcie.cfg = s.pcie.cfg := by
  unfold stepPhases
  (repeat' (first | split | simp [foldl_keep, foldl_cfg])) <;> simp_all [foldl_keep, foldl_cfg]

@[simp] theorem stepRequest_keep (s : State) (x1 : Bool) (x2 : ℤ) :
    (stepRequest s x1 x2).pending = s.pending ∧ (stepRequest s x1 x2).mem = s.mem ∧ (stepRequest s x1 x2).hostMem = s.hostMem ∧ (stepRequest s x1 x2).otp = s.otp ∧ (stepRequest s x1 x2).pcie.cfg = s.pcie.cfg := by
  unfold stepRequest
  (repeat' (first | split | simp [foldl_keep, foldl_cfg])) <;> simp_all [foldl_keep, foldl_cfg]

theorem execStepOffset_keep (x0 : Agent) (x1 : Word) (s : State) :
    ∃ t, execStepOffset x0 x1 s = .next t ∧ t.pending = s.pending ∧ t.mem = s.mem ∧ t.hostMem = s.hostMem ∧ t.otp = s.otp ∧ t.pcie.cfg = s.pcie.cfg := by
  unfold execStepOffset
  refine ⟨_, rfl, ?_⟩
  (repeat' (first | split | simp [foldl_keep, foldl_cfg, guarded_pending, indGuarded_pending, guarded_mem, indGuarded_mem, guarded_hostMem, indGuarded_hostMem, guarded_otp, indGuarded_otp, guarded_pcie_cfg, indGuarded_pcie_cfg])) <;> simp_all [foldl_keep, foldl_cfg, guarded_pending, indGuarded_pending, guarded_mem, indGuarded_mem, guarded_hostMem, indGuarded_hostMem, guarded_otp, indGuarded_otp, guarded_pcie_cfg, indGuarded_pcie_cfg]

theorem execStepAbsolute_keep (x0 : Agent) (x1 : Word) (s : State) :
    ∃ t, execStepAbsolute x0 x1 s = .next t ∧ t.pending = s.pending ∧ t.mem = s.mem ∧ t.hostMem = s.hostMem ∧ t.otp = s.otp ∧ t.pcie.cfg = s.pcie.cfg := by
  unfold execStepAbsolute
  refine ⟨_, rfl, ?_⟩
  (repeat' (first | split | simp [foldl_keep, foldl_cfg, guarded_pending, indGuarded_pending, guarded_mem, indGuarded_mem, guarded_hostMem, indGuarded_hostMem, guarded_otp, indGuarded_otp, guarded_pcie_cfg, indGuarded_pcie_cfg])) <;> simp_all [foldl_keep, foldl_cfg, guarded_pending, indGuarded_pending, guarded_mem, indGuarded_mem, guarded_hostMem, indGuarded_hostMem, guarded_otp, indGuarded_otp, guarded_pcie_cfg, indGuarded_pcie_cfg]

theorem execSvLinkChange_keep (x0 : Nat) (x1 : Bool) (x2 : Bool) (s : State) :
    ∃ t, execSvLinkChange x0 x1 x2 s = .next t ∧ t.pending = s.pending ∧ t.mem = s.mem ∧ t.hostMem = s.hostMem ∧ t.otp = s.otp ∧ t.pcie.cfg = s.pcie.cfg := by
  unfold execSvLinkChange
  refine ⟨_, rfl, ?_⟩
  (repeat' (first | split | simp [foldl_keep, foldl_cfg, guarded_pending, indGuarded_pending, guarded_mem, indGuarded_mem, guarded_hostMem, indGuarded_hostMem, guarded_otp, indGuarded_otp, guarded_pcie_cfg, indGuarded_pcie_cfg])) <;> simp_all [foldl_keep, foldl_cfg, guarded_pending, indGuarded_pending, guarded_mem, indGuarded_mem, guarded_hostMem, indGuarded_hostMem, guarded_otp, indGuarded_otp, guarded_pcie_cfg, indGuarded_pcie_cfg]

theorem execSvFrameRx_keep (x0 : Nat) (x1 : NetFrame) (s : State) :
    ∃ t, execSvFrameRx x0 x1 s = .next t ∧ t.pending = s.pending ∧ t.mem = s.mem ∧ t.hostMem = s.hostMem ∧ t.otp = s.otp ∧ t.pcie.cfg = s.pcie.cfg := by
  unfold execSvFrameRx
  refine ⟨_, rfl, ?_⟩
  (repeat' (first | split | simp [foldl_keep, foldl_cfg, guarded_pending, indGuarded_pending, guarded_mem, indGuarded_mem, guarded_hostMem, indGuarded_hostMem, guarded_otp, indGuarded_otp, guarded_pcie_cfg, indGuarded_pcie_cfg])) <;> simp_all [foldl_keep, foldl_cfg, guarded_pending, indGuarded_pending, guarded_mem, indGuarded_mem, guarded_hostMem, indGuarded_hostMem, guarded_otp, indGuarded_otp, guarded_pcie_cfg, indGuarded_pcie_cfg]

theorem execPtpMessage_keep (x0 : Via) (x1 : Ptp) (x2 : List Byte) (s : State) :
    ∃ t, execPtpMessage x0 x1 x2 s = .next t ∧ t.pending = s.pending ∧ t.mem = s.mem ∧ t.hostMem = s.hostMem ∧ t.otp = s.otp ∧ t.pcie.cfg = s.pcie.cfg := by
  unfold execPtpMessage
  refine ⟨_, rfl, ?_⟩
  (repeat' (first | split | simp [foldl_keep, foldl_cfg, guarded_pending, indGuarded_pending, guarded_mem, indGuarded_mem, guarded_hostMem, indGuarded_hostMem, guarded_otp, indGuarded_otp, guarded_pcie_cfg, indGuarded_pcie_cfg])) <;> simp_all [foldl_keep, foldl_cfg, guarded_pending, indGuarded_pending, guarded_mem, indGuarded_mem, guarded_hostMem, indGuarded_hostMem, guarded_otp, indGuarded_otp, guarded_pcie_cfg, indGuarded_pcie_cfg]

theorem execSyncTimeout_keep (s : State) :
    ∃ t, execSyncTimeout s = .next t ∧ t.pending = s.pending ∧ t.mem = s.mem ∧ t.hostMem = s.hostMem ∧ t.otp = s.otp ∧ t.pcie.cfg = s.pcie.cfg := by
  unfold execSyncTimeout
  refine ⟨_, rfl, ?_⟩
  (repeat' (first | split | simp [foldl_keep, foldl_cfg, guarded_pending, indGuarded_pending, guarded_mem, indGuarded_mem, guarded_hostMem, indGuarded_hostMem, guarded_otp, indGuarded_otp, guarded_pcie_cfg, indGuarded_pcie_cfg])) <;> simp_all [foldl_keep, foldl_cfg, guarded_pending, indGuarded_pending, guarded_mem, indGuarded_mem, guarded_hostMem, indGuarded_hostMem, guarded_otp, indGuarded_otp, guarded_pcie_cfg, indGuarded_pcie_cfg]

@[simp] theorem writeSyncState_keep (s : State) (x1 : Word) :
    (writeSyncState s x1).pending = s.pending ∧ (writeSyncState s x1).mem = s.mem ∧ (writeSyncState s x1).hostMem = s.hostMem ∧ (writeSyncState s x1).otp = s.otp ∧ (writeSyncState s x1).pcie.cfg = s.pcie.cfg := by
  unfold writeSyncState
  (repeat' (first | split | simp [foldl_keep, foldl_cfg])) <;> simp_all [foldl_keep, foldl_cfg]

@[simp] theorem syncStateWrite_keep (s : State) (x1 : Agent) (x2 : Word) :
    (syncStateWrite s x1 x2).pending = s.pending ∧ (syncStateWrite s x1 x2).mem = s.mem ∧ (syncStateWrite s x1 x2).hostMem = s.hostMem ∧ (syncStateWrite s x1 x2).otp = s.otp ∧ (syncStateWrite s x1 x2).pcie.cfg = s.pcie.cfg := by
  unfold syncStateWrite
  split <;> simp [guarded_pending, guarded_mem, guarded_hostMem, guarded_otp, guarded_pcie_cfg]

theorem execHoldoverEnd_keep (x0 : Agent) (x1 : Word) (s : State) :
    ∃ t, execHoldoverEnd x0 x1 s = .next t ∧ t.pending = s.pending ∧ t.mem = s.mem ∧ t.hostMem = s.hostMem ∧ t.otp = s.otp ∧ t.pcie.cfg = s.pcie.cfg := by
  unfold execHoldoverEnd
  refine ⟨_, rfl, ?_⟩
  (repeat' (first | split | simp [foldl_keep, foldl_cfg, guarded_pending, indGuarded_pending, guarded_mem, indGuarded_mem, guarded_hostMem, indGuarded_hostMem, guarded_otp, indGuarded_otp, guarded_pcie_cfg, indGuarded_pcie_cfg])) <;> simp_all [foldl_keep, foldl_cfg, guarded_pending, indGuarded_pending, guarded_mem, indGuarded_mem, guarded_hostMem, indGuarded_hostMem, guarded_otp, indGuarded_otp, guarded_pcie_cfg, indGuarded_pcie_cfg]

theorem execLockedWrite_keep (x0 : Agent) (x1 : Word) (s : State) :
    ∃ t, execLockedWrite x0 x1 s = .next t ∧ t.pending = s.pending ∧ t.mem = s.mem ∧ t.hostMem = s.hostMem ∧ t.otp = s.otp ∧ t.pcie.cfg = s.pcie.cfg := by
  unfold execLockedWrite
  refine ⟨_, rfl, ?_⟩
  (repeat' (first | split | simp [foldl_keep, foldl_cfg, guarded_pending, indGuarded_pending, guarded_mem, indGuarded_mem, guarded_hostMem, indGuarded_hostMem, guarded_otp, indGuarded_otp, guarded_pcie_cfg, indGuarded_pcie_cfg])) <;> simp_all [foldl_keep, foldl_cfg, guarded_pending, indGuarded_pending, guarded_mem, indGuarded_mem, guarded_hostMem, indGuarded_hostMem, guarded_otp, indGuarded_otp, guarded_pcie_cfg, indGuarded_pcie_cfg]

@[simp] theorem showSlotMin_keep (s : State) :
    (showSlotMin s).pending = s.pending ∧ (showSlotMin s).mem = s.mem ∧ (showSlotMin s).hostMem = s.hostMem ∧ (showSlotMin s).otp = s.otp ∧ (showSlotMin s).pcie.cfg = s.pcie.cfg := by
  unfold showSlotMin
  (repeat' (first | split | simp [foldl_keep, foldl_cfg])) <;> simp_all [foldl_keep, foldl_cfg]

@[simp] theorem writeTimCtrl_keep (s : State) (x1 : Word) :
    (writeTimCtrl s x1).pending = s.pending ∧ (writeTimCtrl s x1).mem = s.mem ∧ (writeTimCtrl s x1).hostMem = s.hostMem ∧ (writeTimCtrl s x1).otp = s.otp ∧ (writeTimCtrl s x1).pcie.cfg = s.pcie.cfg := by
  unfold writeTimCtrl
  (repeat' (first | split | simp [foldl_keep, foldl_cfg])) <;> simp_all [foldl_keep, foldl_cfg]

theorem execPhaseEnable_keep (x0 : Agent) (x1 : Word) (s : State) :
    ∃ t, execPhaseEnable x0 x1 s = .next t ∧ t.pending = s.pending ∧ t.mem = s.mem ∧ t.hostMem = s.hostMem ∧ t.otp = s.otp ∧ t.pcie.cfg = s.pcie.cfg := by
  unfold execPhaseEnable
  refine ⟨_, rfl, ?_⟩
  (repeat' (first | split | simp [foldl_keep, foldl_cfg, guarded_pending, indGuarded_pending, guarded_mem, indGuarded_mem, guarded_hostMem, indGuarded_hostMem, guarded_otp, indGuarded_otp, guarded_pcie_cfg, indGuarded_pcie_cfg])) <;> simp_all [foldl_keep, foldl_cfg, guarded_pending, indGuarded_pending, guarded_mem, indGuarded_mem, guarded_hostMem, indGuarded_hostMem, guarded_otp, indGuarded_otp, guarded_pcie_cfg, indGuarded_pcie_cfg]

theorem execPhaseDisable_keep (x0 : Agent) (x1 : Word) (s : State) :
    ∃ t, execPhaseDisable x0 x1 s = .next t ∧ t.pending = s.pending ∧ t.mem = s.mem ∧ t.hostMem = s.hostMem ∧ t.otp = s.otp ∧ t.pcie.cfg = s.pcie.cfg := by
  unfold execPhaseDisable
  refine ⟨_, rfl, ?_⟩
  (repeat' (first | split | simp [foldl_keep, foldl_cfg, guarded_pending, indGuarded_pending, guarded_mem, indGuarded_mem, guarded_hostMem, indGuarded_hostMem, guarded_otp, indGuarded_otp, guarded_pcie_cfg, indGuarded_pcie_cfg])) <;> simp_all [foldl_keep, foldl_cfg, guarded_pending, indGuarded_pending, guarded_mem, indGuarded_mem, guarded_hostMem, indGuarded_hostMem, guarded_otp, indGuarded_otp, guarded_pcie_cfg, indGuarded_pcie_cfg]

theorem execPhaseStart_keep (x0 : Nat) (x1 : Nat) (s : State) :
    ∃ t, execPhaseStart x0 x1 s = .next t ∧ t.pending = s.pending ∧ t.mem = s.mem ∧ t.hostMem = s.hostMem ∧ t.otp = s.otp ∧ t.pcie.cfg = s.pcie.cfg := by
  unfold execPhaseStart
  refine ⟨_, rfl, ?_⟩
  (repeat' (first | split | simp [foldl_keep, foldl_cfg, guarded_pending, indGuarded_pending, guarded_mem, indGuarded_mem, guarded_hostMem, indGuarded_hostMem, guarded_otp, indGuarded_otp, guarded_pcie_cfg, indGuarded_pcie_cfg])) <;> simp_all [foldl_keep, foldl_cfg, guarded_pending, indGuarded_pending, guarded_mem, indGuarded_mem, guarded_hostMem, indGuarded_hostMem, guarded_otp, indGuarded_otp, guarded_pcie_cfg, indGuarded_pcie_cfg]

theorem execOffsetApplyGo_keep (x0 : Agent) (x1 : Word) (s : State) :
    ∃ t, execOffsetApplyGo x0 x1 s = .next t ∧ t.pending = s.pending ∧ t.mem = s.mem ∧ t.hostMem = s.hostMem ∧ t.otp = s.otp ∧ t.pcie.cfg = s.pcie.cfg := by
  unfold execOffsetApplyGo
  refine ⟨_, rfl, ?_⟩
  (repeat' (first | split | simp [foldl_keep, foldl_cfg, guarded_pending, indGuarded_pending, guarded_mem, indGuarded_mem, guarded_hostMem, indGuarded_hostMem, guarded_otp, indGuarded_otp, guarded_pcie_cfg, indGuarded_pcie_cfg])) <;> simp_all [foldl_keep, foldl_cfg, guarded_pending, indGuarded_pending, guarded_mem, indGuarded_mem, guarded_hostMem, indGuarded_hostMem, guarded_otp, indGuarded_otp, guarded_pcie_cfg, indGuarded_pcie_cfg]

theorem execOffsetApplyEffect_keep (s : State) :
    ∃ t, execOffsetApplyEffect s = .next t ∧ t.pending = s.pending ∧ t.mem = s.mem ∧ t.hostMem = s.hostMem ∧ t.otp = s.otp ∧ t.pcie.cfg = s.pcie.cfg := by
  unfold execOffsetApplyEffect
  refine ⟨_, rfl, ?_⟩
  (repeat' (first | split | simp [foldl_keep, foldl_cfg, guarded_pending, indGuarded_pending, guarded_mem, indGuarded_mem, guarded_hostMem, indGuarded_hostMem, guarded_otp, indGuarded_otp, guarded_pcie_cfg, indGuarded_pcie_cfg])) <;> simp_all [foldl_keep, foldl_cfg, guarded_pending, indGuarded_pending, guarded_mem, indGuarded_mem, guarded_hostMem, indGuarded_hostMem, guarded_otp, indGuarded_otp, guarded_pcie_cfg, indGuarded_pcie_cfg]

@[simp] theorem settleFill_keep (s : State) :
    (settleFill s).pending = s.pending ∧ (settleFill s).mem = s.mem ∧ (settleFill s).hostMem = s.hostMem ∧ (settleFill s).otp = s.otp ∧ (settleFill s).pcie.cfg = s.pcie.cfg := by
  unfold settleFill
  (repeat' (first | split | simp [foldl_keep, foldl_cfg])) <;> simp_all [foldl_keep, foldl_cfg]

@[simp] theorem gsRead_keep (s : State) (x1 : Nat) (x2 : Ecc) :
    (gsRead s x1 x2).2.pending = s.pending ∧ (gsRead s x1 x2).2.mem = s.mem ∧ (gsRead s x1 x2).2.hostMem = s.hostMem ∧ (gsRead s x1 x2).2.otp = s.otp ∧ (gsRead s x1 x2).2.pcie.cfg = s.pcie.cfg := by
  unfold gsRead
  (repeat' (first | split | simp [foldl_keep, foldl_cfg])) <;> simp_all [foldl_keep, foldl_cfg]

@[simp] theorem readCell_keep (s : State) (x1 : PhaseCtx) (x2 : Nat) (x3 : Nat) (x4 : Nat) (x5 : Nat) (x6 : Option Nat) (x7 : Bool) (x8 : List Upset) :
    (readCell s x1 x2 x3 x4 x5 x6 x7 x8).2.pending = s.pending ∧ (readCell s x1 x2 x3 x4 x5 x6 x7 x8).2.mem = s.mem ∧ (readCell s x1 x2 x3 x4 x5 x6 x7 x8).2.hostMem = s.hostMem ∧ (readCell s x1 x2 x3 x4 x5 x6 x7 x8).2.otp = s.otp ∧ (readCell s x1 x2 x3 x4 x5 x6 x7 x8).2.pcie.cfg = s.pcie.cfg := by
  unfold readCell
  cases x6 with
  | none => simp
  | some cx =>
    simp only []
    split <;> (refine ⟨?_, ?_, ?_, ?_, ?_⟩) <;> (repeat' split) <;> simp

@[simp] theorem readCells_keep (s : State) (x1 : PhaseCtx) (x2 : Nat) (x3 : Nat) (x4 : Nat) (x5 : Bool) (x6 : List Upset) (x7 : Nat) (x8 : List (Option Nat)) :
    (readCells s x1 x2 x3 x4 x5 x6 x7 x8).2.pending = s.pending ∧ (readCells s x1 x2 x3 x4 x5 x6 x7 x8).2.mem = s.mem ∧ (readCells s x1 x2 x3 x4 x5 x6 x7 x8).2.hostMem = s.hostMem ∧ (readCells s x1 x2 x3 x4 x5 x6 x7 x8).2.otp = s.otp ∧ (readCells s x1 x2 x3 x4 x5 x6 x7 x8).2.pcie.cfg = s.pcie.cfg := by
  induction x8 generalizing s x7 with
  | nil => simp [readCells]
  | cons cx rest ih => simp [readCells, ih]

@[simp] theorem stopRun_keep (s : State) (x1 : Nat) :
    (stopRun s x1).pending = s.pending ∧ (stopRun s x1).mem = s.mem ∧ (stopRun s x1).hostMem = s.hostMem ∧ (stopRun s x1).otp = s.otp ∧ (stopRun s x1).pcie.cfg = s.pcie.cfg := by
  unfold stopRun
  (repeat' (first | split | simp [foldl_keep, foldl_cfg])) <;> simp_all [foldl_keep, foldl_cfg]

@[simp] theorem setRun_keep (s : State) (x1 : Nat) (x2 : SeqRun) :
    (setRun s x1 x2).pending = s.pending ∧ (setRun s x1 x2).mem = s.mem ∧ (setRun s x1 x2).hostMem = s.hostMem ∧ (setRun s x1 x2).otp = s.otp ∧ (setRun s x1 x2).pcie.cfg = s.pcie.cfg := by
  unfold setRun
  (repeat' (first | split | simp [foldl_keep, foldl_cfg])) <;> simp_all [foldl_keep, foldl_cfg]

@[simp] theorem takeTable_keep (s : State) (x1 : Nat) (x2 : Nat) (x3 : Nat) (x4 : Nat) :
    (takeTable s x1 x2 x3 x4).pending = s.pending ∧ (takeTable s x1 x2 x3 x4).mem = s.mem ∧ (takeTable s x1 x2 x3 x4).hostMem = s.hostMem ∧ (takeTable s x1 x2 x3 x4).otp = s.otp ∧ (takeTable s x1 x2 x3 x4).pcie.cfg = s.pcie.cfg := by
  unfold takeTable
  (repeat' (first | split | simp [foldl_keep, foldl_cfg])) <;> simp_all [foldl_keep, foldl_cfg]

@[simp] theorem applySwap_keep (s : State) (x1 : Nat) (x2 : Nat) :
    (applySwap s x1 x2).pending = s.pending ∧ (applySwap s x1 x2).mem = s.mem ∧ (applySwap s x1 x2).hostMem = s.hostMem ∧ (applySwap s x1 x2).otp = s.otp ∧ (applySwap s x1 x2).pcie.cfg = s.pcie.cfg := by
  unfold applySwap
  (repeat' (first | split | simp [foldl_keep, foldl_cfg])) <;> simp_all [foldl_keep, foldl_cfg]

@[simp] theorem startTable_keep (s : State) (x1 : Nat) (x2 : Nat) (x3 : Nat) :
    (startTable s x1 x2 x3).pending = s.pending ∧ (startTable s x1 x2 x3).mem = s.mem ∧ (startTable s x1 x2 x3).hostMem = s.hostMem ∧ (startTable s x1 x2 x3).otp = s.otp ∧ (startTable s x1 x2 x3).pcie.cfg = s.pcie.cfg := by
  unfold startTable
  (repeat' (first | split | simp [foldl_keep, foldl_cfg])) <;> simp_all [foldl_keep, foldl_cfg]

@[simp] theorem restart_keep (s : State) (x1 : Nat) (x2 : Nat) (x3 : Nat) (x4 : List Upset) :
    (restart s x1 x2 x3 x4).pending = s.pending ∧ (restart s x1 x2 x3 x4).mem = s.mem ∧ (restart s x1 x2 x3 x4).hostMem = s.hostMem ∧ (restart s x1 x2 x3 x4).otp = s.otp ∧ (restart s x1 x2 x3 x4).pcie.cfg = s.pcie.cfg := by
  unfold restart
  (repeat' (first | split | simp [foldl_keep, foldl_cfg])) <;> simp_all [foldl_keep, foldl_cfg]

theorem execSeqRestart_keep (x0 : Nat) (x1 : Nat) (x2 : Nat) (x3 : List Upset) (s : State) :
    ∃ t, execSeqRestart x0 x1 x2 x3 s = .next t ∧ t.pending = s.pending ∧ t.mem = s.mem ∧ t.hostMem = s.hostMem ∧ t.otp = s.otp ∧ t.pcie.cfg = s.pcie.cfg := by
  unfold execSeqRestart
  refine ⟨_, rfl, ?_⟩
  (repeat' (first | split | simp [foldl_keep, foldl_cfg, guarded_pending, indGuarded_pending, guarded_mem, indGuarded_mem, guarded_hostMem, indGuarded_hostMem, guarded_otp, indGuarded_otp, guarded_pcie_cfg, indGuarded_pcie_cfg])) <;> simp_all [foldl_keep, foldl_cfg, guarded_pending, indGuarded_pending, guarded_mem, indGuarded_mem, guarded_hostMem, indGuarded_hostMem, guarded_otp, indGuarded_otp, guarded_pcie_cfg, indGuarded_pcie_cfg]

theorem issue_pending (s : State) (p : Nat) (op : PitchOp) (f : SeqRun → State) (h : ∀ r, (f r).pending = s.pending) :
    (issue s p op f).pending = s.pending := by
  unfold issue
  (repeat' split) <;> first | rfl | exact h _

theorem issue_mem (s : State) (p : Nat) (op : PitchOp) (f : SeqRun → State) (h : ∀ r, (f r).mem = s.mem) :
    (issue s p op f).mem = s.mem := by
  unfold issue
  (repeat' split) <;> first | rfl | exact h _

theorem issue_hostMem (s : State) (p : Nat) (op : PitchOp) (f : SeqRun → State) (h : ∀ r, (f r).hostMem = s.hostMem) :
    (issue s p op f).hostMem = s.hostMem := by
  unfold issue
  (repeat' split) <;> first | rfl | exact h _

theorem issue_otp (s : State) (p : Nat) (op : PitchOp) (f : SeqRun → State) (h : ∀ r, (f r).otp = s.otp) :
    (issue s p op f).otp = s.otp := by
  unfold issue
  (repeat' split) <;> first | rfl | exact h _

theorem issue_pcie_cfg (s : State) (p : Nat) (op : PitchOp) (f : SeqRun → State) (h : ∀ r, (f r).pcie.cfg = s.pcie.cfg) :
    (issue s p op f).pcie.cfg = s.pcie.cfg := by
  unfold issue
  (repeat' split) <;> first | rfl | exact h _

theorem execNop_keep (x0 : Nat) (s : State) :
    ∃ t, execNop x0 s = .next t ∧ t.pending = s.pending ∧ t.mem = s.mem ∧ t.hostMem = s.hostMem ∧ t.otp = s.otp ∧ t.pcie.cfg = s.pcie.cfg := by
  unfold execNop
  refine ⟨_, rfl, ?_⟩
  simp [issue_pending, issue_mem, issue_hostMem, issue_otp, issue_pcie_cfg]

theorem execSet_keep (x0 : Nat) (x1 : SetF) (s : State) :
    ∃ t, execSet x0 x1 s = .next t ∧ t.pending = s.pending ∧ t.mem = s.mem ∧ t.hostMem = s.hostMem ∧ t.otp = s.otp ∧ t.pcie.cfg = s.pcie.cfg := by
  unfold execSet
  refine ⟨_, rfl, ?_⟩
  simp [issue_pending, issue_mem, issue_hostMem, issue_otp, issue_pcie_cfg]

theorem execAdd_keep (x0 : Nat) (x1 : AddF) (s : State) :
    ∃ t, execAdd x0 x1 s = .next t ∧ t.pending = s.pending ∧ t.mem = s.mem ∧ t.hostMem = s.hostMem ∧ t.otp = s.otp ∧ t.pcie.cfg = s.pcie.cfg := by
  unfold execAdd
  refine ⟨_, rfl, ?_⟩
  simp [issue_pending, issue_mem, issue_hostMem, issue_otp, issue_pcie_cfg]

theorem execLoop_keep (x0 : Nat) (x1 : BitVec 12) (s : State) :
    ∃ t, execLoop x0 x1 s = .next t ∧ t.pending = s.pending ∧ t.mem = s.mem ∧ t.hostMem = s.hostMem ∧ t.otp = s.otp ∧ t.pcie.cfg = s.pcie.cfg := by
  unfold execLoop
  refine ⟨_, rfl, ?_⟩
  simp [issue_pending, issue_mem, issue_hostMem, issue_otp, issue_pcie_cfg]

theorem execEndloop_keep (x0 : Nat) (s : State) :
    ∃ t, execEndloop x0 s = .next t ∧ t.pending = s.pending ∧ t.mem = s.mem ∧ t.hostMem = s.hostMem ∧ t.otp = s.otp ∧ t.pcie.cfg = s.pcie.cfg := by
  have h (f : SeqRun → State) (hp : ∀ r, (f r).pending = s.pending ∧ (f r).mem = s.mem ∧ (f r).hostMem = s.hostMem ∧
      (f r).otp = s.otp ∧ (f r).pcie.cfg = s.pcie.cfg) :
      ∃ t, wall s (issue s x0 .endloop f) = .next t ∧ t.pending = s.pending ∧ t.mem = s.mem ∧ t.hostMem = s.hostMem ∧
        t.otp = s.otp ∧ t.pcie.cfg = s.pcie.cfg := by
    refine ⟨_, rfl, ?_⟩
    simp [issue_pending s x0 _ f fun r => (hp r).1, issue_mem s x0 _ f fun r => (hp r).2.1,
      issue_hostMem s x0 _ f fun r => (hp r).2.2.1, issue_otp s x0 _ f fun r => (hp r).2.2.2.1,
      issue_pcie_cfg s x0 _ f fun r => (hp r).2.2.2.2]
  unfold execEndloop
  refine h _ fun r => ?_
  split <;> (try split) <;> simp

theorem execWaitBand_keep (x0 : Nat) (x1 : WaitBandF) (s : State) :
    ∃ t, execWaitBand x0 x1 s = .next t ∧ t.pending = s.pending ∧ t.mem = s.mem ∧ t.hostMem = s.hostMem ∧ t.otp = s.otp ∧ t.pcie.cfg = s.pcie.cfg := by
  unfold execWaitBand
  refine ⟨_, rfl, ?_⟩
  simp [issue_pending, issue_mem, issue_hostMem, issue_otp, issue_pcie_cfg]

theorem execWaitBandRelease_keep (x0 : Nat) (s : State) :
    ∃ t, execWaitBandRelease x0 s = .next t ∧ t.pending = s.pending ∧ t.mem = s.mem ∧ t.hostMem = s.hostMem ∧ t.otp = s.otp ∧ t.pcie.cfg = s.pcie.cfg := by
  unfold execWaitBandRelease
  refine ⟨_, rfl, ?_⟩
  (repeat' (first | split | simp [foldl_keep, foldl_cfg, guarded_pending, indGuarded_pending, guarded_mem, indGuarded_mem, guarded_hostMem, indGuarded_hostMem, guarded_otp, indGuarded_otp, guarded_pcie_cfg, indGuarded_pcie_cfg])) <;> simp_all [foldl_keep, foldl_cfg, guarded_pending, indGuarded_pending, guarded_mem, indGuarded_mem, guarded_hostMem, indGuarded_hostMem, guarded_otp, indGuarded_otp, guarded_pcie_cfg, indGuarded_pcie_cfg]

theorem execWaitTime_keep (x0 : Nat) (x1 : BitVec 32) (s : State) :
    ∃ t, execWaitTime x0 x1 s = .next t ∧ t.pending = s.pending ∧ t.mem = s.mem ∧ t.hostMem = s.hostMem ∧ t.otp = s.otp ∧ t.pcie.cfg = s.pcie.cfg := by
  unfold execWaitTime
  refine ⟨_, rfl, ?_⟩
  simp [issue_pending, issue_mem, issue_hostMem, issue_otp, issue_pcie_cfg]

theorem execWaitTimeRelease_keep (x0 : Nat) (s : State) :
    ∃ t, execWaitTimeRelease x0 s = .next t ∧ t.pending = s.pending ∧ t.mem = s.mem ∧ t.hostMem = s.hostMem ∧ t.otp = s.otp ∧ t.pcie.cfg = s.pcie.cfg := by
  unfold execWaitTimeRelease
  refine ⟨_, rfl, ?_⟩
  (repeat' (first | split | simp [foldl_keep, foldl_cfg, guarded_pending, indGuarded_pending, guarded_mem, indGuarded_mem, guarded_hostMem, indGuarded_hostMem, guarded_otp, indGuarded_otp, guarded_pcie_cfg, indGuarded_pcie_cfg])) <;> simp_all [foldl_keep, foldl_cfg, guarded_pending, indGuarded_pending, guarded_mem, indGuarded_mem, guarded_hostMem, indGuarded_hostMem, guarded_otp, indGuarded_otp, guarded_pcie_cfg, indGuarded_pcie_cfg]

theorem execWaitEvent_keep (x0 : Nat) (x1 : BitVec 9) (x2 : BitVec 32) (s : State) :
    ∃ t, execWaitEvent x0 x1 x2 s = .next t ∧ t.pending = s.pending ∧ t.mem = s.mem ∧ t.hostMem = s.hostMem ∧ t.otp = s.otp ∧ t.pcie.cfg = s.pcie.cfg := by
  unfold execWaitEvent
  refine ⟨_, rfl, ?_⟩
  simp [issue_pending, issue_mem, issue_hostMem, issue_otp, issue_pcie_cfg]

theorem execWaitEventRelease_keep (x0 : Nat) (s : State) :
    ∃ t, execWaitEventRelease x0 s = .next t ∧ t.pending = s.pending ∧ t.mem = s.mem ∧ t.hostMem = s.hostMem ∧ t.otp = s.otp ∧ t.pcie.cfg = s.pcie.cfg := by
  unfold execWaitEventRelease
  refine ⟨_, rfl, ?_⟩
  (repeat' (first | split | simp [foldl_keep, foldl_cfg, guarded_pending, indGuarded_pending, guarded_mem, indGuarded_mem, guarded_hostMem, indGuarded_hostMem, guarded_otp, indGuarded_otp, guarded_pcie_cfg, indGuarded_pcie_cfg])) <;> simp_all [foldl_keep, foldl_cfg, guarded_pending, indGuarded_pending, guarded_mem, indGuarded_mem, guarded_hostMem, indGuarded_hostMem, guarded_otp, indGuarded_otp, guarded_pcie_cfg, indGuarded_pcie_cfg]

theorem execWaitEventTimeout_keep (x0 : Nat) (s : State) :
    ∃ t, execWaitEventTimeout x0 s = .next t ∧ t.pending = s.pending ∧ t.mem = s.mem ∧ t.hostMem = s.hostMem ∧ t.otp = s.otp ∧ t.pcie.cfg = s.pcie.cfg := by
  unfold execWaitEventTimeout
  refine ⟨_, rfl, ?_⟩
  (repeat' (first | split | simp [foldl_keep, foldl_cfg, guarded_pending, indGuarded_pending, guarded_mem, indGuarded_mem, guarded_hostMem, indGuarded_hostMem, guarded_otp, indGuarded_otp, guarded_pcie_cfg, indGuarded_pcie_cfg])) <;> simp_all [foldl_keep, foldl_cfg, guarded_pending, indGuarded_pending, guarded_mem, indGuarded_mem, guarded_hostMem, indGuarded_hostMem, guarded_otp, indGuarded_otp, guarded_pcie_cfg, indGuarded_pcie_cfg]

theorem execSend_keep (x0 : Nat) (x1 : SendF) (s : State) :
    ∃ t, execSend x0 x1 s = .next t ∧ t.pending = s.pending ∧ t.mem = s.mem ∧ t.hostMem = s.hostMem ∧ t.otp = s.otp ∧ t.pcie.cfg = s.pcie.cfg := by
  unfold execSend
  refine ⟨_, rfl, ?_⟩
  simp [issue_pending, issue_mem, issue_hostMem, issue_otp, issue_pcie_cfg]

theorem execClose_keep (x0 : Nat) (s : State) :
    ∃ t, execClose x0 s = .next t ∧ t.pending = s.pending ∧ t.mem = s.mem ∧ t.hostMem = s.hostMem ∧ t.otp = s.otp ∧ t.pcie.cfg = s.pcie.cfg := by
  unfold execClose
  refine ⟨_, rfl, ?_⟩
  simp [issue_pending, issue_mem, issue_hostMem, issue_otp, issue_pcie_cfg]

theorem execSignal_keep (x0 : Nat) (s : State) :
    ∃ t, execSignal x0 s = .next t ∧ t.pending = s.pending ∧ t.mem = s.mem ∧ t.hostMem = s.hostMem ∧ t.otp = s.otp ∧ t.pcie.cfg = s.pcie.cfg := by
  unfold execSignal
  refine ⟨_, rfl, ?_⟩
  simp [issue_pending, issue_mem, issue_hostMem, issue_otp, issue_pcie_cfg]

theorem execSeqEnd_keep (x0 : Nat) (s : State) :
    ∃ t, execSeqEnd x0 s = .next t ∧ t.pending = s.pending ∧ t.mem = s.mem ∧ t.hostMem = s.hostMem ∧ t.otp = s.otp ∧ t.pcie.cfg = s.pcie.cfg := by
  unfold execSeqEnd
  refine ⟨_, rfl, ?_⟩
  simp [issue_pending, issue_mem, issue_hostMem, issue_otp, issue_pcie_cfg]

@[simp] theorem skipFrame_keep (s : State) (x1 : Nat) (x2 : SeqRun) (x3 : PixSend) :
    (skipFrame s x1 x2 x3).pending = s.pending ∧ (skipFrame s x1 x2 x3).mem = s.mem ∧ (skipFrame s x1 x2 x3).hostMem = s.hostMem ∧ (skipFrame s x1 x2 x3).otp = s.otp ∧ (skipFrame s x1 x2 x3).pcie.cfg = s.pcie.cfg := by
  unfold skipFrame
  (repeat' (first | split | simp [foldl_keep, foldl_cfg])) <;> simp_all [foldl_keep, foldl_cfg]

@[simp] theorem sendFrame_keep (s : State) (x1 : Nat) (x2 : SeqRun) (x3 : PixSend) (x4 : List Upset) :
    (sendFrame s x1 x2 x3 x4).pending = s.pending ∧ (sendFrame s x1 x2 x3 x4).mem = s.mem ∧ (sendFrame s x1 x2 x3 x4).hostMem = s.hostMem ∧ (sendFrame s x1 x2 x3 x4).otp = s.otp ∧ (sendFrame s x1 x2 x3 x4).pcie.cfg = s.pcie.cfg := by
  unfold sendFrame
  (repeat' (first | split | simp [foldl_keep, foldl_cfg])) <;> simp_all [foldl_keep, foldl_cfg]

theorem execPixelFrameStart_keep (x0 : Nat) (x1 : List Upset) (s : State) :
    ∃ t, execPixelFrameStart x0 x1 s = .next t ∧ t.pending = s.pending ∧ t.mem = s.mem ∧ t.hostMem = s.hostMem ∧ t.otp = s.otp ∧ t.pcie.cfg = s.pcie.cfg := by
  unfold execPixelFrameStart
  refine ⟨_, rfl, ?_⟩
  (repeat' (first | split | simp [foldl_keep, foldl_cfg, guarded_pending, indGuarded_pending, guarded_mem, indGuarded_mem, guarded_hostMem, indGuarded_hostMem, guarded_otp, indGuarded_otp, guarded_pcie_cfg, indGuarded_pcie_cfg])) <;> simp_all [foldl_keep, foldl_cfg, guarded_pending, indGuarded_pending, guarded_mem, indGuarded_mem, guarded_hostMem, indGuarded_hostMem, guarded_otp, indGuarded_otp, guarded_pcie_cfg, indGuarded_pcie_cfg]

@[simp] theorem markFrame_keep (s : State) (x1 : Nat) (x2 : SeqRun) :
    (markFrame s x1 x2).2.pending = s.pending ∧ (markFrame s x1 x2).2.mem = s.mem ∧ (markFrame s x1 x2).2.hostMem = s.hostMem ∧ (markFrame s x1 x2).2.otp = s.otp ∧ (markFrame s x1 x2).2.pcie.cfg = s.pcie.cfg := by
  unfold markFrame
  (repeat' (first | split | simp [foldl_keep, foldl_cfg])) <;> simp_all [foldl_keep, foldl_cfg]

theorem execCloseRelease_keep (x0 : Nat) (s : State) :
    ∃ t, execCloseRelease x0 s = .next t ∧ t.pending = s.pending ∧ t.mem = s.mem ∧ t.hostMem = s.hostMem ∧ t.otp = s.otp ∧ t.pcie.cfg = s.pcie.cfg := by
  unfold execCloseRelease
  refine ⟨_, rfl, ?_⟩
  (repeat' (first | split | simp [foldl_keep, foldl_cfg, guarded_pending, indGuarded_pending, guarded_mem, indGuarded_mem, guarded_hostMem, indGuarded_hostMem, guarded_otp, indGuarded_otp, guarded_pcie_cfg, indGuarded_pcie_cfg])) <;> simp_all [foldl_keep, foldl_cfg, guarded_pending, indGuarded_pending, guarded_mem, indGuarded_mem, guarded_hostMem, indGuarded_hostMem, guarded_otp, indGuarded_otp, guarded_pcie_cfg, indGuarded_pcie_cfg]

theorem execLoadCheckGo_keep (x0 : Agent) (x1 : Nat) (x2 : Word) (s : State) :
    ∃ t, execLoadCheckGo x0 x1 x2 s = .next t ∧ t.pending = s.pending ∧ t.mem = s.mem ∧ t.hostMem = s.hostMem ∧ t.otp = s.otp ∧ t.pcie.cfg = s.pcie.cfg := by
  unfold execLoadCheckGo
  refine ⟨_, rfl, ?_⟩
  (repeat' (first | split | simp [foldl_keep, foldl_cfg, guarded_pending, indGuarded_pending, guarded_mem, indGuarded_mem, guarded_hostMem, indGuarded_hostMem, guarded_otp, indGuarded_otp, guarded_pcie_cfg, indGuarded_pcie_cfg])) <;> simp_all [foldl_keep, foldl_cfg, guarded_pending, indGuarded_pending, guarded_mem, indGuarded_mem, guarded_hostMem, indGuarded_hostMem, guarded_otp, indGuarded_otp, guarded_pcie_cfg, indGuarded_pcie_cfg]

theorem execLoadCheckDone_keep (x0 : Nat) (s : State) :
    ∃ t, execLoadCheckDone x0 s = .next t ∧ t.pending = s.pending ∧ t.mem = s.mem ∧ t.hostMem = s.hostMem ∧ t.otp = s.otp ∧ t.pcie.cfg = s.pcie.cfg := by
  unfold execLoadCheckDone
  refine ⟨_, rfl, ?_⟩
  split
  · simp
  · split
    · split
      · simp
      · simp only []
        split
        · exact ⟨(wr_pending _ _ _).trans (setPort_pending _ _ _),
    (wr_mem _ _ _).trans (setPort_mem _ _ _),
    (wr_hostMem _ _ _).trans (setPort_hostMem _ _ _),
    (wr_otp _ _ _).trans (setPort_otp _ _ _),
    (wr_pcie_cfg _ _ _).trans (setPort_pcie_cfg _ _ _)⟩
        · exact ⟨(raiseE_pending _ _ _).trans ((wr_pending _ _ _).trans (setPort_pending _ _ _)),
    (raiseE_mem _ _ _).trans ((wr_mem _ _ _).trans (setPort_mem _ _ _)),
    (raiseE_hostMem _ _ _).trans ((wr_hostMem _ _ _).trans (setPort_hostMem _ _ _)),
    (raiseE_otp _ _ _).trans ((wr_otp _ _ _).trans (setPort_otp _ _ _)),
    (raiseE_pcie_cfg _ _ _).trans ((wr_pcie_cfg _ _ _).trans (setPort_pcie_cfg _ _ _))⟩
    · simp

@[simp] theorem writeSwap_keep (s : State) (x1 : Nat) (x2 : Word) :
    (writeSwap s x1 x2).pending = s.pending ∧ (writeSwap s x1 x2).mem = s.mem ∧ (writeSwap s x1 x2).hostMem = s.hostMem ∧ (writeSwap s x1 x2).otp = s.otp ∧ (writeSwap s x1 x2).pcie.cfg = s.pcie.cfg := by
  unfold writeSwap
  (repeat' (first | split | simp [foldl_keep, foldl_cfg])) <;> simp_all [foldl_keep, foldl_cfg]

theorem execSwapGo_keep (x0 : Agent) (x1 : Nat) (x2 : Word) (s : State) :
    ∃ t, execSwapGo x0 x1 x2 s = .next t ∧ t.pending = s.pending ∧ t.mem = s.mem ∧ t.hostMem = s.hostMem ∧ t.otp = s.otp ∧ t.pcie.cfg = s.pcie.cfg := by
  unfold execSwapGo
  refine ⟨_, rfl, ?_⟩
  (repeat' (first | split | simp [foldl_keep, foldl_cfg, guarded_pending, indGuarded_pending, guarded_mem, indGuarded_mem, guarded_hostMem, indGuarded_hostMem, guarded_otp, indGuarded_otp, guarded_pcie_cfg, indGuarded_pcie_cfg])) <;> simp_all [foldl_keep, foldl_cfg, guarded_pending, indGuarded_pending, guarded_mem, indGuarded_mem, guarded_hostMem, indGuarded_hostMem, guarded_otp, indGuarded_otp, guarded_pcie_cfg, indGuarded_pcie_cfg]

theorem execSwapCancel_keep (x0 : Agent) (x1 : Nat) (x2 : Word) (s : State) :
    ∃ t, execSwapCancel x0 x1 x2 s = .next t ∧ t.pending = s.pending ∧ t.mem = s.mem ∧ t.hostMem = s.hostMem ∧ t.otp = s.otp ∧ t.pcie.cfg = s.pcie.cfg := by
  unfold execSwapCancel
  refine ⟨_, rfl, ?_⟩
  (repeat' (first | split | simp [foldl_keep, foldl_cfg, guarded_pending, indGuarded_pending, guarded_mem, indGuarded_mem, guarded_hostMem, indGuarded_hostMem, guarded_otp, indGuarded_otp, guarded_pcie_cfg, indGuarded_pcie_cfg])) <;> simp_all [foldl_keep, foldl_cfg, guarded_pending, indGuarded_pending, guarded_mem, indGuarded_mem, guarded_hostMem, indGuarded_hostMem, guarded_otp, indGuarded_otp, guarded_pcie_cfg, indGuarded_pcie_cfg]

theorem execSeqEnable_keep (x0 : Agent) (x1 : Nat) (x2 : Word) (s : State) :
    ∃ t, execSeqEnable x0 x1 x2 s = .next t ∧ t.pending = s.pending ∧ t.mem = s.mem ∧ t.hostMem = s.hostMem ∧ t.otp = s.otp ∧ t.pcie.cfg = s.pcie.cfg := by
  unfold execSeqEnable
  refine ⟨_, rfl, ?_⟩
  (repeat' (first | split | simp [foldl_keep, foldl_cfg, guarded_pending, indGuarded_pending, guarded_mem, indGuarded_mem, guarded_hostMem, indGuarded_hostMem, guarded_otp, indGuarded_otp, guarded_pcie_cfg, indGuarded_pcie_cfg])) <;> simp_all [foldl_keep, foldl_cfg, guarded_pending, indGuarded_pending, guarded_mem, indGuarded_mem, guarded_hostMem, indGuarded_hostMem, guarded_otp, indGuarded_otp, guarded_pcie_cfg, indGuarded_pcie_cfg]

theorem execSeqDisable_keep (x0 : Agent) (x1 : Nat) (x2 : Word) (s : State) :
    ∃ t, execSeqDisable x0 x1 x2 s = .next t ∧ t.pending = s.pending ∧ t.mem = s.mem ∧ t.hostMem = s.hostMem ∧ t.otp = s.otp ∧ t.pcie.cfg = s.pcie.cfg := by
  unfold execSeqDisable
  refine ⟨_, rfl, ?_⟩
  (repeat' (first | split | simp [foldl_keep, foldl_cfg, guarded_pending, indGuarded_pending, guarded_mem, indGuarded_mem, guarded_hostMem, indGuarded_hostMem, guarded_otp, indGuarded_otp, guarded_pcie_cfg, indGuarded_pcie_cfg])) <;> simp_all [foldl_keep, foldl_cfg, guarded_pending, indGuarded_pending, guarded_mem, indGuarded_mem, guarded_hostMem, indGuarded_hostMem, guarded_otp, indGuarded_otp, guarded_pcie_cfg, indGuarded_pcie_cfg]

@[simp] theorem setTileLink_keep (s : State) (x1 : Nat) (x2 : Bool) (x3 : Bool) :
    (setTileLink s x1 x2 x3).pending = s.pending ∧ (setTileLink s x1 x2 x3).mem = s.mem ∧ (setTileLink s x1 x2 x3).hostMem = s.hostMem ∧ (setTileLink s x1 x2 x3).otp = s.otp ∧ (setTileLink s x1 x2 x3).pcie.cfg = s.pcie.cfg := by
  unfold setTileLink
  (repeat' (first | split | simp [foldl_keep, foldl_cfg])) <;> simp_all [foldl_keep, foldl_cfg]

theorem execTileLinkChange_keep (x0 : Nat) (x1 : Bool) (x2 : Bool) (s : State) :
    ∃ t, execTileLinkChange x0 x1 x2 s = .next t ∧ t.pending = s.pending ∧ t.mem = s.mem ∧ t.hostMem = s.hostMem ∧ t.otp = s.otp ∧ t.pcie.cfg = s.pcie.cfg := by
  unfold execTileLinkChange
  refine ⟨_, rfl, ?_⟩
  (repeat' (first | split | simp [foldl_keep, foldl_cfg, guarded_pending, indGuarded_pending, guarded_mem, indGuarded_mem, guarded_hostMem, indGuarded_hostMem, guarded_otp, indGuarded_otp, guarded_pcie_cfg, indGuarded_pcie_cfg])) <;> simp_all [foldl_keep, foldl_cfg, guarded_pending, indGuarded_pending, guarded_mem, indGuarded_mem, guarded_hostMem, indGuarded_hostMem, guarded_otp, indGuarded_otp, guarded_pcie_cfg, indGuarded_pcie_cfg]

@[simp] theorem setSession_keep (s : State) (x1 : Nat) (x2 : Nat) (x3 : CSession) :
    (setSession s x1 x2 x3).pending = s.pending ∧ (setSession s x1 x2 x3).mem = s.mem ∧ (setSession s x1 x2 x3).hostMem = s.hostMem ∧ (setSession s x1 x2 x3).otp = s.otp ∧ (setSession s x1 x2 x3).pcie.cfg = s.pcie.cfg := by
  unfold setSession
  (repeat' (first | split | simp [foldl_keep, foldl_cfg])) <;> simp_all [foldl_keep, foldl_cfg]

theorem setSession_pending (s : State) (x1 : Nat) (x2 : Nat) (x3 : CSession) : (setSession s x1 x2 x3).pending = s.pending := (setSession_keep s x1 x2 x3).1

theorem setSession_mem (s : State) (x1 : Nat) (x2 : Nat) (x3 : CSession) : (setSession s x1 x2 x3).mem = s.mem := (setSession_keep s x1 x2 x3).2.1

theorem setSession_hostMem (s : State) (x1 : Nat) (x2 : Nat) (x3 : CSession) : (setSession s x1 x2 x3).hostMem = s.hostMem := (setSession_keep s x1 x2 x3).2.2.1

theorem setSession_otp (s : State) (x1 : Nat) (x2 : Nat) (x3 : CSession) : (setSession s x1 x2 x3).otp = s.otp := (setSession_keep s x1 x2 x3).2.2.2.1

theorem setSession_pcie_cfg (s : State) (x1 : Nat) (x2 : Nat) (x3 : CSession) : (setSession s x1 x2 x3).pcie.cfg = s.pcie.cfg := (setSession_keep s x1 x2 x3).2.2.2.2

@[simp] theorem setOutstanding_keep (s : State) (x1 : Nat) (x2 : Nat) (x3 : Bool) :
    (setOutstanding s x1 x2 x3).pending = s.pending ∧ (setOutstanding s x1 x2 x3).mem = s.mem ∧ (setOutstanding s x1 x2 x3).hostMem = s.hostMem ∧ (setOutstanding s x1 x2 x3).otp = s.otp ∧ (setOutstanding s x1 x2 x3).pcie.cfg = s.pcie.cfg := by
  unfold setOutstanding
  (repeat' (first | split | simp [foldl_keep, foldl_cfg])) <;> simp_all [foldl_keep, foldl_cfg]

theorem setOutstanding_pending (s : State) (x1 : Nat) (x2 : Nat) (x3 : Bool) : (setOutstanding s x1 x2 x3).pending = s.pending := (setOutstanding_keep s x1 x2 x3).1

theorem setOutstanding_mem (s : State) (x1 : Nat) (x2 : Nat) (x3 : Bool) : (setOutstanding s x1 x2 x3).mem = s.mem := (setOutstanding_keep s x1 x2 x3).2.1

theorem setOutstanding_hostMem (s : State) (x1 : Nat) (x2 : Nat) (x3 : Bool) : (setOutstanding s x1 x2 x3).hostMem = s.hostMem := (setOutstanding_keep s x1 x2 x3).2.2.1

theorem setOutstanding_otp (s : State) (x1 : Nat) (x2 : Nat) (x3 : Bool) : (setOutstanding s x1 x2 x3).otp = s.otp := (setOutstanding_keep s x1 x2 x3).2.2.2.1

theorem setOutstanding_pcie_cfg (s : State) (x1 : Nat) (x2 : Nat) (x3 : Bool) : (setOutstanding s x1 x2 x3).pcie.cfg = s.pcie.cfg := (setOutstanding_keep s x1 x2 x3).2.2.2.2

@[simp] theorem sessionAck_keep (s : State) (x1 : Nat) (x2 : Nat) (x3 : Nat) (x4 : Nat) (x5 : List Byte) :
    (sessionAck s x1 x2 x3 x4 x5).pending = s.pending ∧ (sessionAck s x1 x2 x3 x4 x5).mem = s.mem ∧ (sessionAck s x1 x2 x3 x4 x5).hostMem = s.hostMem ∧ (sessionAck s x1 x2 x3 x4 x5).otp = s.otp ∧ (sessionAck s x1 x2 x3 x4 x5).pcie.cfg = s.pcie.cfg := by
  unfold sessionAck
  (repeat' (first | split | simp [foldl_keep, foldl_cfg])) <;> simp_all [foldl_keep, foldl_cfg]

@[simp] theorem policeReturn_keep (s : State) (x1 : Nat) (x2 : Nat) :
    (policeReturn s x1 x2).2.pending = s.pending ∧ (policeReturn s x1 x2).2.mem = s.mem ∧ (policeReturn s x1 x2).2.hostMem = s.hostMem ∧ (policeReturn s x1 x2).2.otp = s.otp ∧ (policeReturn s x1 x2).2.pcie.cfg = s.pcie.cfg := by
  unfold policeReturn
  (repeat' (first | split | simp [foldl_keep, foldl_cfg])) <;> simp_all [foldl_keep, foldl_cfg]

@[simp] theorem farLantern_keep (s : State) (x1 : Nat) :
    (farLantern s x1).pending = s.pending ∧ (farLantern s x1).mem = s.mem ∧ (farLantern s x1).hostMem = s.hostMem ∧ (farLantern s x1).otp = s.otp ∧ (farLantern s x1).pcie.cfg = s.pcie.cfg := by
  unfold farLantern
  (repeat' (first | split | simp [foldl_keep, foldl_cfg])) <;> simp_all [foldl_keep, foldl_cfg]

@[simp] theorem htlArrives_keep (s : State) (x1 : Nat) (x2 : TileFrame) (x3 : List Byte) :
    (htlArrives s x1 x2 x3).pending = s.pending ∧ (htlArrives s x1 x2 x3).mem = s.mem ∧ (htlArrives s x1 x2 x3).hostMem = s.hostMem ∧ (htlArrives s x1 x2 x3).otp = s.otp ∧ (htlArrives s x1 x2 x3).pcie.cfg = s.pcie.cfg := by
  unfold htlArrives
  (repeat' (first | split | simp [foldl_keep, foldl_cfg])) <;> simp_all [foldl_keep, foldl_cfg]

theorem execTileFrameRx_keep (x0 : Nat) (x1 : TileFrame) (s : State) :
    ∃ t, execTileFrameRx x0 x1 s = .next t ∧ t.pending = s.pending ∧ t.mem = s.mem ∧ t.hostMem = s.hostMem ∧ t.otp = s.otp ∧ t.pcie.cfg = s.pcie.cfg := by
  unfold execTileFrameRx
  refine ⟨_, rfl, ?_⟩
  (repeat' (first | split | simp [foldl_keep, foldl_cfg, guarded_pending, indGuarded_pending, guarded_mem, indGuarded_mem, guarded_hostMem, indGuarded_hostMem, guarded_otp, indGuarded_otp, guarded_pcie_cfg, indGuarded_pcie_cfg])) <;> simp_all [foldl_keep, foldl_cfg, guarded_pending, indGuarded_pending, guarded_mem, indGuarded_mem, guarded_hostMem, indGuarded_hostMem, guarded_otp, indGuarded_otp, guarded_pcie_cfg, indGuarded_pcie_cfg]

@[simp] theorem settleFarOk_keep (s : State) (x1 : Nat) :
    (settleFarOk s x1).pending = s.pending ∧ (settleFarOk s x1).mem = s.mem ∧ (settleFarOk s x1).hostMem = s.hostMem ∧ (settleFarOk s x1).otp = s.otp ∧ (settleFarOk s x1).pcie.cfg = s.pcie.cfg := by
  unfold settleFarOk
  (repeat' (first | split | simp [foldl_keep, foldl_cfg])) <;> simp_all [foldl_keep, foldl_cfg]

theorem execFarOkLoss_keep (x0 : Nat) (s : State) :
    ∃ t, execFarOkLoss x0 s = .next t ∧ t.pending = s.pending ∧ t.mem = s.mem ∧ t.hostMem = s.hostMem ∧ t.otp = s.otp ∧ t.pcie.cfg = s.pcie.cfg := by
  unfold execFarOkLoss
  refine ⟨_, rfl, ?_⟩
  (repeat' (first | split | simp [foldl_keep, foldl_cfg, guarded_pending, indGuarded_pending, guarded_mem, indGuarded_mem, guarded_hostMem, indGuarded_hostMem, guarded_otp, indGuarded_otp, guarded_pcie_cfg, indGuarded_pcie_cfg])) <;> simp_all [foldl_keep, foldl_cfg, guarded_pending, indGuarded_pending, guarded_mem, indGuarded_mem, guarded_hostMem, indGuarded_hostMem, guarded_otp, indGuarded_otp, guarded_pcie_cfg, indGuarded_pcie_cfg]

theorem execTimeFrameTick_keep (s : State) :
    ∃ t, execTimeFrameTick s = .next t ∧ t.pending = s.pending ∧ t.mem = s.mem ∧ t.hostMem = s.hostMem ∧ t.otp = s.otp ∧ t.pcie.cfg = s.pcie.cfg := by
  unfold execTimeFrameTick
  refine ⟨_, rfl, ?_⟩
  (repeat' (first | split | simp [foldl_keep, foldl_cfg, guarded_pending, indGuarded_pending, guarded_mem, indGuarded_mem, guarded_hostMem, indGuarded_hostMem, guarded_otp, indGuarded_otp, guarded_pcie_cfg, indGuarded_pcie_cfg])) <;> simp_all [foldl_keep, foldl_cfg, guarded_pending, indGuarded_pending, guarded_mem, indGuarded_mem, guarded_hostMem, indGuarded_hostMem, guarded_otp, indGuarded_otp, guarded_pcie_cfg, indGuarded_pcie_cfg]

@[simp] theorem lanternFrame_keep (s : State) (x1 : Nat) :
    (lanternFrame s x1).2.pending = s.pending ∧ (lanternFrame s x1).2.mem = s.mem ∧ (lanternFrame s x1).2.hostMem = s.hostMem ∧ (lanternFrame s x1).2.otp = s.otp ∧ (lanternFrame s x1).2.pcie.cfg = s.pcie.cfg := by
  unfold lanternFrame
  (repeat' (first | split | simp [foldl_keep, foldl_cfg])) <;> simp_all [foldl_keep, foldl_cfg]

@[simp] theorem queueLantern_keep (x0 : Nat) (x1 : Nat) (s : State) (x3 : Nat) :
    (queueLantern x0 x1 s x3).pending = s.pending ∧ (queueLantern x0 x1 s x3).mem = s.mem ∧ (queueLantern x0 x1 s x3).hostMem = s.hostMem ∧ (queueLantern x0 x1 s x3).otp = s.otp ∧ (queueLantern x0 x1 s x3).pcie.cfg = s.pcie.cfg := by
  unfold queueLantern
  (repeat' (first | split | simp [foldl_keep, foldl_cfg])) <;> simp_all [foldl_keep, foldl_cfg]

theorem execLanternQueue_keep (x0 : Nat) (x1 : Nat) (s : State) :
    ∃ t, execLanternQueue x0 x1 s = .next t ∧ t.pending = s.pending ∧ t.mem = s.mem ∧ t.hostMem = s.hostMem ∧ t.otp = s.otp ∧ t.pcie.cfg = s.pcie.cfg := by
  unfold execLanternQueue
  refine ⟨_, rfl, ?_⟩
  (repeat' (first | split | simp [foldl_keep, foldl_cfg, guarded_pending, indGuarded_pending, guarded_mem, indGuarded_mem, guarded_hostMem, indGuarded_hostMem, guarded_otp, indGuarded_otp, guarded_pcie_cfg, indGuarded_pcie_cfg])) <;> simp_all [foldl_keep, foldl_cfg, guarded_pending, indGuarded_pending, guarded_mem, indGuarded_mem, guarded_hostMem, indGuarded_hostMem, guarded_otp, indGuarded_otp, guarded_pcie_cfg, indGuarded_pcie_cfg]

@[simp] theorem settlePort_keep (s : State) (x1 : Nat) :
    (settlePort s x1).pending = s.pending ∧ (settlePort s x1).mem = s.mem ∧ (settlePort s x1).hostMem = s.hostMem ∧ (settlePort s x1).otp = s.otp ∧ (settlePort s x1).pcie.cfg = s.pcie.cfg := by
  unfold settlePort
  (repeat' (first | split | simp [foldl_keep, foldl_cfg])) <;> simp_all [foldl_keep, foldl_cfg]

@[simp] theorem chargeShaper_keep (s : State) (x1 : Nat) (x2 : Nat) :
    (chargeShaper s x1 x2).pending = s.pending ∧ (chargeShaper s x1 x2).mem = s.mem ∧ (chargeShaper s x1 x2).hostMem = s.hostMem ∧ (chargeShaper s x1 x2).otp = s.otp ∧ (chargeShaper s x1 x2).pcie.cfg = s.pcie.cfg := by
  unfold chargeShaper
  (repeat' (first | split | simp [foldl_keep, foldl_cfg])) <;> simp_all [foldl_keep, foldl_cfg]

@[simp] theorem chargeCredit_keep (s : State) (x1 : Nat) (x2 : Nat) :
    (chargeCredit s x1 x2).pending = s.pending ∧ (chargeCredit s x1 x2).mem = s.mem ∧ (chargeCredit s x1 x2).hostMem = s.hostMem ∧ (chargeCredit s x1 x2).otp = s.otp ∧ (chargeCredit s x1 x2).pcie.cfg = s.pcie.cfg := by
  unfold chargeCredit
  (repeat' (first | split | simp [foldl_keep, foldl_cfg])) <;> simp_all [foldl_keep, foldl_cfg]

@[simp] theorem backlog_keep (s : State) (x1 : Nat) (x2 : Nat) (x3 : CSession) (x4 : CReq) :
    (backlog s x1 x2 x3 x4).pending = s.pending ∧ (backlog s x1 x2 x3 x4).mem = s.mem ∧ (backlog s x1 x2 x3 x4).hostMem = s.hostMem ∧ (backlog s x1 x2 x3 x4).otp = s.otp ∧ (backlog s x1 x2 x3 x4).pcie.cfg = s.pcie.cfg := by
  unfold backlog
  (repeat' (first | split | simp [foldl_keep, foldl_cfg])) <;> simp_all [foldl_keep, foldl_cfg]

@[simp] theorem startT_keep (s : State) (x1 : Nat) (x2 : TFrame) (x3 : List TFrame) :
    (startT s x1 x2 x3).pending = s.pending ∧ (startT s x1 x2 x3).mem = s.mem ∧ (startT s x1 x2 x3).hostMem = s.hostMem ∧ (startT s x1 x2 x3).otp = s.otp ∧ (startT s x1 x2 x3).pcie.cfg = s.pcie.cfg := by
  unfold startT
  (repeat' (first | split | simp [foldl_keep, foldl_cfg])) <;> simp_all [foldl_keep, foldl_cfg]

@[simp] theorem startC_keep (s : State) (x1 : Nat) (x2 : Nat) (x3 : CSession) (x4 : CReq) :
    (startC s x1 x2 x3 x4).pending = s.pending ∧ (startC s x1 x2 x3 x4).mem = s.mem ∧ (startC s x1 x2 x3 x4).hostMem = s.hostMem ∧ (startC s x1 x2 x3 x4).otp = s.otp ∧ (startC s x1 x2 x3 x4).pcie.cfg = s.pcie.cfg := by
  unfold startC
  (repeat' (first | split | simp [foldl_keep, foldl_cfg])) <;> simp_all [foldl_keep, foldl_cfg]

@[simp] theorem startM_keep (s : State) (x1 : Nat) (x2 : MFrame) (x3 : Option Nat) :
    (startM s x1 x2 x3).pending = s.pending ∧ (startM s x1 x2 x3).mem = s.mem ∧ (startM s x1 x2 x3).hostMem = s.hostMem ∧ (startM s x1 x2 x3).otp = s.otp ∧ (startM s x1 x2 x3).pcie.cfg = s.pcie.cfg := by
  unfold startM
  (repeat' (first | split | simp [foldl_keep, foldl_cfg])) <;> simp_all [foldl_keep, foldl_cfg]

@[simp] theorem selectC_keep (x0 : Nat) (x1 : Option ℤ) (s : State) (x3 : List (Nat × CSession × CReq)) :
    (selectC x0 x1 s x3).2.pending = s.pending ∧ (selectC x0 x1 s x3).2.mem = s.mem ∧ (selectC x0 x1 s x3).2.hostMem = s.hostMem ∧ (selectC x0 x1 s x3).2.otp = s.otp ∧ (selectC x0 x1 s x3).2.pcie.cfg = s.pcie.cfg := by
  induction x3 generalizing s with
  | nil => simp [selectC]
  | cons e rest ih =>
    obtain ⟨se, x, r⟩ := e
    unfold selectC
    split
    · simp
    · simp [ih]
    · split <;> simp [ih]

@[simp] theorem selectM_keep (s : State) (x1 : Nat) (x2 : Option ℤ) :
    (selectM s x1 x2).pending = s.pending ∧ (selectM s x1 x2).mem = s.mem ∧ (selectM s x1 x2).hostMem = s.hostMem ∧ (selectM s x1 x2).otp = s.otp ∧ (selectM s x1 x2).pcie.cfg = s.pcie.cfg := by
  unfold selectM
  (repeat' (first | split | simp [foldl_keep, foldl_cfg])) <;> simp_all [foldl_keep, foldl_cfg]

@[simp] theorem selectCM_keep (s : State) (x1 : Nat) :
    (selectCM s x1).pending = s.pending ∧ (selectCM s x1).mem = s.mem ∧ (selectCM s x1).hostMem = s.hostMem ∧ (selectCM s x1).otp = s.otp ∧ (selectCM s x1).pcie.cfg = s.pcie.cfg := by
  unfold selectCM
  (repeat' (first | split | simp [foldl_keep, foldl_cfg])) <;> simp_all [foldl_keep, foldl_cfg]

@[simp] theorem selectFrame_keep (s : State) (x1 : Nat) :
    (selectFrame s x1).pending = s.pending ∧ (selectFrame s x1).mem = s.mem ∧ (selectFrame s x1).hostMem = s.hostMem ∧ (selectFrame s x1).otp = s.otp ∧ (selectFrame s x1).pcie.cfg = s.pcie.cfg := by
  unfold selectFrame
  (repeat' (first | split | simp [foldl_keep, foldl_cfg])) <;> simp_all [foldl_keep, foldl_cfg]

theorem execEgressSelect_keep (x0 : Nat) (s : State) :
    ∃ t, execEgressSelect x0 s = .next t ∧ t.pending = s.pending ∧ t.mem = s.mem ∧ t.hostMem = s.hostMem ∧ t.otp = s.otp ∧ t.pcie.cfg = s.pcie.cfg := by
  unfold execEgressSelect
  refine ⟨_, rfl, ?_⟩
  (repeat' (first | split | simp [foldl_keep, foldl_cfg, guarded_pending, indGuarded_pending, guarded_mem, indGuarded_mem, guarded_hostMem, indGuarded_hostMem, guarded_otp, indGuarded_otp, guarded_pcie_cfg, indGuarded_pcie_cfg])) <;> simp_all [foldl_keep, foldl_cfg, guarded_pending, indGuarded_pending, guarded_mem, indGuarded_mem, guarded_hostMem, indGuarded_hostMem, guarded_otp, indGuarded_otp, guarded_pcie_cfg, indGuarded_pcie_cfg]

theorem execGateWindowOpen_keep (x0 : Nat) (s : State) :
    ∃ t, execGateWindowOpen x0 s = .next t ∧ t.pending = s.pending ∧ t.mem = s.mem ∧ t.hostMem = s.hostMem ∧ t.otp = s.otp ∧ t.pcie.cfg = s.pcie.cfg := by
  unfold execGateWindowOpen
  refine ⟨_, rfl, ?_⟩
  (repeat' (first | split | simp [foldl_keep, foldl_cfg, guarded_pending, indGuarded_pending, guarded_mem, indGuarded_mem, guarded_hostMem, indGuarded_hostMem, guarded_otp, indGuarded_otp, guarded_pcie_cfg, indGuarded_pcie_cfg])) <;> simp_all [foldl_keep, foldl_cfg, guarded_pending, indGuarded_pending, guarded_mem, indGuarded_mem, guarded_hostMem, indGuarded_hostMem, guarded_otp, indGuarded_otp, guarded_pcie_cfg, indGuarded_pcie_cfg]

@[simp] theorem mqComplete_keep (s : State) (x1 : Nat) (x2 : Nat) (x3 : Nat) :
    (mqComplete s x1 x2 x3).pending = s.pending ∧ (mqComplete s x1 x2 x3).otp = s.otp ∧ (mqComplete s x1 x2 x3).pcie.cfg = s.pcie.cfg := by
  unfold mqComplete
  (repeat' (first | split | simp [foldl_keep, foldl_cfg])) <;> simp_all [foldl_keep, foldl_cfg]

theorem execTxFrameDone_keep (x0 : Nat) (s : State) :
    ∃ t, execTxFrameDone x0 s = .next t ∧ t.pending = s.pending ∧ t.otp = s.otp ∧ t.pcie.cfg = s.pcie.cfg := by
  unfold execTxFrameDone
  refine ⟨_, rfl, ?_⟩
  (repeat' (first | split | simp [foldl_keep, foldl_cfg, guarded_pending, indGuarded_pending, guarded_mem, indGuarded_mem, guarded_hostMem, indGuarded_hostMem, guarded_otp, indGuarded_otp, guarded_pcie_cfg, indGuarded_pcie_cfg])) <;> simp_all [foldl_keep, foldl_cfg, guarded_pending, indGuarded_pending, guarded_mem, indGuarded_mem, guarded_hostMem, indGuarded_hostMem, guarded_otp, indGuarded_otp, guarded_pcie_cfg, indGuarded_pcie_cfg]

theorem execMqDoorbell_keep (x0 : Agent) (x1 : Nat) (x2 : Word) (s : State) :
    ∃ t, execMqDoorbell x0 x1 x2 s = .next t ∧ t.pending = s.pending ∧ t.mem = s.mem ∧ t.hostMem = s.hostMem ∧ t.otp = s.otp ∧ t.pcie.cfg = s.pcie.cfg := by
  unfold execMqDoorbell
  refine ⟨_, rfl, ?_⟩
  (repeat' (first | split | simp [foldl_keep, foldl_cfg, guarded_pending, indGuarded_pending, guarded_mem, indGuarded_mem, guarded_hostMem, indGuarded_hostMem, guarded_otp, indGuarded_otp, guarded_pcie_cfg, indGuarded_pcie_cfg])) <;> simp_all [foldl_keep, foldl_cfg, guarded_pending, indGuarded_pending, guarded_mem, indGuarded_mem, guarded_hostMem, indGuarded_hostMem, guarded_otp, indGuarded_otp, guarded_pcie_cfg, indGuarded_pcie_cfg]

theorem execMqDescReadDone_keep (x0 : Nat) (x1 : Bool) (x2 : List Byte) (s : State) :
    ∃ t, execMqDescReadDone x0 x2 s x1 = .next t ∧ t.pending = s.pending ∧ t.otp = s.otp ∧ t.pcie.cfg = s.pcie.cfg := by
  unfold execMqDescReadDone
  refine ⟨_, rfl, ?_⟩
  (repeat' (first | split | simp [foldl_keep, foldl_cfg, guarded_pending, indGuarded_pending, guarded_mem, indGuarded_mem, guarded_hostMem, indGuarded_hostMem, guarded_otp, indGuarded_otp, guarded_pcie_cfg, indGuarded_pcie_cfg])) <;> simp_all [foldl_keep, foldl_cfg, guarded_pending, indGuarded_pending, guarded_mem, indGuarded_mem, guarded_hostMem, indGuarded_hostMem, guarded_otp, indGuarded_otp, guarded_pcie_cfg, indGuarded_pcie_cfg]

@[simp] theorem controlFrame_keep (s : State) (x1 : Nat) (x2 : Nat) (x3 : Nat) (x4 : Nat) (x5 : Nat) (x6 : Nat) (x7 : List Byte) :
    (controlFrame s x1 x2 x3 x4 x5 x6 x7).2.pending = s.pending ∧ (controlFrame s x1 x2 x3 x4 x5 x6 x7).2.mem = s.mem ∧ (controlFrame s x1 x2 x3 x4 x5 x6 x7).2.hostMem = s.hostMem ∧ (controlFrame s x1 x2 x3 x4 x5 x6 x7).2.otp = s.otp ∧ (controlFrame s x1 x2 x3 x4 x5 x6 x7).2.pcie.cfg = s.pcie.cfg := by
  unfold controlFrame
  (repeat' (first | split | simp [foldl_keep, foldl_cfg])) <;> simp_all [foldl_keep, foldl_cfg]

@[simp] theorem openSession_keep (s : State) (x1 : Nat) (x2 : Nat) :
    (openSession s x1 x2).pending = s.pending ∧ (openSession s x1 x2).mem = s.mem ∧ (openSession s x1 x2).hostMem = s.hostMem ∧ (openSession s x1 x2).otp = s.otp ∧ (openSession s x1 x2).pcie.cfg = s.pcie.cfg := by
  unfold openSession
  (repeat' (first | split | simp [foldl_keep, foldl_cfg])) <;> simp_all [foldl_keep, foldl_cfg]

theorem execSessionDoorbell_keep (x0 : Agent) (x1 : Nat) (x2 : Nat) (x3 : Word) (s : State) :
    ∃ t, execSessionDoorbell x0 x1 x2 x3 s = .next t ∧ t.pending = s.pending ∧ t.mem = s.mem ∧ t.hostMem = s.hostMem ∧ t.otp = s.otp ∧ t.pcie.cfg = s.pcie.cfg := by
  unfold execSessionDoorbell
  refine ⟨_, rfl, ?_⟩
  (repeat' (first | split | simp [foldl_keep, foldl_cfg, guarded_pending, indGuarded_pending, guarded_mem, indGuarded_mem, guarded_hostMem, indGuarded_hostMem, guarded_otp, indGuarded_otp, guarded_pcie_cfg, indGuarded_pcie_cfg])) <;> simp_all [foldl_keep, foldl_cfg, guarded_pending, indGuarded_pending, guarded_mem, indGuarded_mem, guarded_hostMem, indGuarded_hostMem, guarded_otp, indGuarded_otp, guarded_pcie_cfg, indGuarded_pcie_cfg]

theorem execSessionDescReadDone_keep (x0 : Nat) (x1 : Nat) (x2 : Bool) (x3 : List Byte) (s : State) :
    ∃ t, execSessionDescReadDone x0 x1 x3 s x2 = .next t ∧ t.pending = s.pending ∧ t.mem = s.mem ∧ t.hostMem = s.hostMem ∧ t.otp = s.otp ∧ t.pcie.cfg = s.pcie.cfg := by
  unfold execSessionDescReadDone
  refine ⟨_, rfl, ?_⟩
  (repeat' (first | split | simp [foldl_keep, foldl_cfg, guarded_pending, indGuarded_pending, guarded_mem, indGuarded_mem, guarded_hostMem, indGuarded_hostMem, guarded_otp, indGuarded_otp, guarded_pcie_cfg, indGuarded_pcie_cfg])) <;> simp_all [foldl_keep, foldl_cfg, guarded_pending, indGuarded_pending, guarded_mem, indGuarded_mem, guarded_hostMem, indGuarded_hostMem, guarded_otp, indGuarded_otp, guarded_pcie_cfg, indGuarded_pcie_cfg]

@[simp] theorem stopSession_keep (s : State) (x1 : Nat) (x2 : Nat) (x3 : CSession) (x4 : CReq) :
    (stopSession s x1 x2 x3 x4).pending = s.pending ∧ (stopSession s x1 x2 x3 x4).mem = s.mem ∧ (stopSession s x1 x2 x3 x4).hostMem = s.hostMem ∧ (stopSession s x1 x2 x3 x4).otp = s.otp ∧ (stopSession s x1 x2 x3 x4).pcie.cfg = s.pcie.cfg := ⟨(raiseE_pending _ _ _).trans ((raiseE_pending _ _ _).trans ((wr_pending _ _ _).trans ((bump_pending _ _).trans
      ((setOutstanding_pending _ _ _ _).trans ((wr_pending _ _ _).trans (setSession_pending _ _ _ _)))))),
    (raiseE_mem _ _ _).trans ((raiseE_mem _ _ _).trans ((wr_mem _ _ _).trans ((bump_mem _ _).trans
      ((setOutstanding_mem _ _ _ _).trans ((wr_mem _ _ _).trans (setSession_mem _ _ _ _)))))),
    (raiseE_hostMem _ _ _).trans ((raiseE_hostMem _ _ _).trans ((wr_hostMem _ _ _).trans ((bump_hostMem _ _).trans
      ((setOutstanding_hostMem _ _ _ _).trans ((wr_hostMem _ _ _).trans (setSession_hostMem _ _ _ _)))))),
    (raiseE_otp _ _ _).trans ((raiseE_otp _ _ _).trans ((wr_otp _ _ _).trans ((bump_otp _ _).trans
      ((setOutstanding_otp _ _ _ _).trans ((wr_otp _ _ _).trans (setSession_otp _ _ _ _)))))),
    (raiseE_pcie_cfg _ _ _).trans ((raiseE_pcie_cfg _ _ _).trans ((wr_pcie_cfg _ _ _).trans ((bump_pcie_cfg _ _).trans
      ((setOutstanding_pcie_cfg _ _ _ _).trans ((wr_pcie_cfg _ _ _).trans (setSession_pcie_cfg _ _ _ _))))))⟩

theorem execSessionAckTimeout_keep (x0 : Nat) (x1 : Nat) (s : State) :
    ∃ t, execSessionAckTimeout x0 x1 s = .next t ∧ t.pending = s.pending ∧ t.mem = s.mem ∧ t.hostMem = s.hostMem ∧ t.otp = s.otp ∧ t.pcie.cfg = s.pcie.cfg := by
  unfold execSessionAckTimeout
  refine ⟨_, rfl, ?_⟩
  (repeat' (first | split | simp [foldl_keep, foldl_cfg, guarded_pending, indGuarded_pending, guarded_mem, indGuarded_mem, guarded_hostMem, indGuarded_hostMem, guarded_otp, indGuarded_otp, guarded_pcie_cfg, indGuarded_pcie_cfg])) <;> simp_all [foldl_keep, foldl_cfg, guarded_pending, indGuarded_pending, guarded_mem, indGuarded_mem, guarded_hostMem, indGuarded_hostMem, guarded_otp, indGuarded_otp, guarded_pcie_cfg, indGuarded_pcie_cfg]

@[simp] theorem completeReq_keep (s : State) (x1 : Nat) (x2 : Nat) (x3 : CSession) (x4 : CReq) (x5 : Nat) (x6 : List Byte) :
    (completeReq s x1 x2 x3 x4 x5 x6).pending = s.pending ∧ (completeReq s x1 x2 x3 x4 x5 x6).otp = s.otp ∧ (completeReq s x1 x2 x3 x4 x5 x6).pcie.cfg = s.pcie.cfg := by
  unfold completeReq
  (repeat' (first | split | simp [foldl_keep, foldl_cfg])) <;> simp_all [foldl_keep, foldl_cfg]

theorem execSessionComplete_keep (x0 : Nat) (x1 : Nat) (s : State) :
    ∃ t, execSessionComplete x0 x1 s = .next t ∧ t.pending = s.pending ∧ t.otp = s.otp ∧ t.pcie.cfg = s.pcie.cfg := by
  unfold execSessionComplete
  refine ⟨_, rfl, ?_⟩
  (repeat' (first | split | simp [foldl_keep, foldl_cfg, guarded_pending, indGuarded_pending, guarded_mem, indGuarded_mem, guarded_hostMem, indGuarded_hostMem, guarded_otp, indGuarded_otp, guarded_pcie_cfg, indGuarded_pcie_cfg])) <;> simp_all [foldl_keep, foldl_cfg, guarded_pending, indGuarded_pending, guarded_mem, indGuarded_mem, guarded_hostMem, indGuarded_hostMem, guarded_otp, indGuarded_otp, guarded_pcie_cfg, indGuarded_pcie_cfg]

@[simp] theorem abandonSession_keep (s : State) (x1 : Nat) (x2 : Nat) :
    (abandonSession s x1 x2).pending = s.pending ∧ (abandonSession s x1 x2).mem = s.mem ∧ (abandonSession s x1 x2).hostMem = s.hostMem ∧ (abandonSession s x1 x2).otp = s.otp ∧ (abandonSession s x1 x2).pcie.cfg = s.pcie.cfg := by
  unfold abandonSession
  (repeat' (first | split | simp [foldl_keep, foldl_cfg])) <;> simp_all [foldl_keep, foldl_cfg]

@[simp] theorem trough_keep (s : State) (x1 : Nat) (x2 : Nat) :
    (trough s x1 x2).pending = s.pending ∧ (trough s x1 x2).mem = s.mem ∧ (trough s x1 x2).hostMem = s.hostMem ∧ (trough s x1 x2).otp = s.otp ∧ (trough s x1 x2).pcie.cfg = s.pcie.cfg := by
  unfold trough
  (repeat' (first | split | simp [foldl_keep, foldl_cfg])) <;> simp_all [foldl_keep, foldl_cfg]

@[simp] theorem sampleClass_keep (x0 : Nat) (x1 : Nat) (s : State) (x3 : Nat) :
    (sampleClass x0 x1 s x3).pending = s.pending ∧ (sampleClass x0 x1 s x3).mem = s.mem ∧ (sampleClass x0 x1 s x3).hostMem = s.hostMem ∧ (sampleClass x0 x1 s x3).otp = s.otp ∧ (sampleClass x0 x1 s x3).pcie.cfg = s.pcie.cfg := by
  unfold sampleClass
  (repeat' (first | split | simp [foldl_keep, foldl_cfg])) <;> simp_all [foldl_keep, foldl_cfg]

theorem execQueueSample_keep (x0 : Nat) (s : State) :
    ∃ t, execQueueSample x0 s = .next t ∧ t.pending = s.pending ∧ t.mem = s.mem ∧ t.hostMem = s.hostMem ∧ t.otp = s.otp ∧ t.pcie.cfg = s.pcie.cfg := by
  unfold execQueueSample
  refine ⟨_, rfl, ?_⟩
  (repeat' (first | split | simp [foldl_keep, foldl_cfg, guarded_pending, indGuarded_pending, guarded_mem, indGuarded_mem, guarded_hostMem, indGuarded_hostMem, guarded_otp, indGuarded_otp, guarded_pcie_cfg, indGuarded_pcie_cfg])) <;> simp_all [foldl_keep, foldl_cfg, guarded_pending, indGuarded_pending, guarded_mem, indGuarded_mem, guarded_hostMem, indGuarded_hostMem, guarded_otp, indGuarded_otp, guarded_pcie_cfg, indGuarded_pcie_cfg]

theorem execSampleClear_keep (x0 : Agent) (x1 : Nat) (x2 : Word) (s : State) :
    ∃ t, execSampleClear x0 x1 x2 s = .next t ∧ t.pending = s.pending ∧ t.mem = s.mem ∧ t.hostMem = s.hostMem ∧ t.otp = s.otp ∧ t.pcie.cfg = s.pcie.cfg := by
  unfold execSampleClear
  refine ⟨_, rfl, ?_⟩
  (repeat' (first | split | simp [foldl_keep, foldl_cfg, guarded_pending, indGuarded_pending, guarded_mem, indGuarded_mem, guarded_hostMem, indGuarded_hostMem, guarded_otp, indGuarded_otp, guarded_pcie_cfg, indGuarded_pcie_cfg])) <;> simp_all [foldl_keep, foldl_cfg, guarded_pending, indGuarded_pending, guarded_mem, indGuarded_mem, guarded_hostMem, indGuarded_hostMem, guarded_otp, indGuarded_otp, guarded_pcie_cfg, indGuarded_pcie_cfg]

@[simp] theorem sendRecord_keep (s : State) (x1 : Nat) (x2 : Nat) (x3 : List Byte) :
    (sendRecord s x1 x2 x3).pending = s.pending ∧ (sendRecord s x1 x2 x3).mem = s.mem ∧ (sendRecord s x1 x2 x3).hostMem = s.hostMem ∧ (sendRecord s x1 x2 x3).otp = s.otp ∧ (sendRecord s x1 x2 x3).pcie.cfg = s.pcie.cfg := by
  unfold sendRecord
  (repeat' (first | split | simp [foldl_keep, foldl_cfg])) <;> simp_all [foldl_keep, foldl_cfg]

@[simp] theorem addOp_keep (s : State) (x1 : MirPend) :
    (addOp s x1).pending = s.pending ∧ (addOp s x1).mem = s.mem ∧ (addOp s x1).hostMem = s.hostMem ∧ (addOp s x1).otp = s.otp ∧ (addOp s x1).pcie.cfg = s.pcie.cfg := by
  unfold addOp
  (repeat' (first | split | simp [foldl_keep, foldl_cfg])) <;> simp_all [foldl_keep, foldl_cfg]

@[simp] theorem mirrorRecord_keep (s : State) (x1 : Nat) (x2 : Nat) (x3 : List Byte) :
    (mirrorRecord s x1 x2 x3).pending = s.pending ∧ (mirrorRecord s x1 x2 x3).mem = s.mem ∧ (mirrorRecord s x1 x2 x3).hostMem = s.hostMem ∧ (mirrorRecord s x1 x2 x3).otp = s.otp ∧ (mirrorRecord s x1 x2 x3).pcie.cfg = s.pcie.cfg := by
  unfold mirrorRecord
  (repeat' (first | split | simp [foldl_keep, foldl_cfg])) <;> simp_all [foldl_keep, foldl_cfg]

@[simp] theorem captureOp_keep (s : State) (x1 : Nat) (x2 : MirOp) (x3 : List Byte) :
    (captureOp s x1 x2 x3).pending = s.pending ∧ (captureOp s x1 x2 x3).mem = s.mem ∧ (captureOp s x1 x2 x3).hostMem = s.hostMem ∧ (captureOp s x1 x2 x3).otp = s.otp ∧ (captureOp s x1 x2 x3).pcie.cfg = s.pcie.cfg := by
  unfold captureOp
  (repeat' (first | split | simp [foldl_keep, foldl_cfg])) <;> simp_all [foldl_keep, foldl_cfg]

@[simp] theorem pairFence_keep (s : State) (x1 : FenceRec) (x2 : FenceRec) :
    (pairFence s x1 x2).pending = s.pending ∧ (pairFence s x1 x2).mem = s.mem ∧ (pairFence s x1 x2).hostMem = s.hostMem ∧ (pairFence s x1 x2).otp = s.otp ∧ (pairFence s x1 x2).pcie.cfg = s.pcie.cfg := by
  unfold pairFence
  (repeat' (first | split | simp [foldl_keep, foldl_cfg])) <;> simp_all [foldl_keep, foldl_cfg]

@[simp] theorem makePaired_keep (s : State) (x1 : Nat × Nat × Nat × Nat) :
    (makePaired s x1).pending = s.pending ∧ (makePaired s x1).mem = s.mem ∧ (makePaired s x1).hostMem = s.hostMem ∧ (makePaired s x1).otp = s.otp ∧ (makePaired s x1).pcie.cfg = s.pcie.cfg := by
  unfold makePaired
  (repeat' (first | split | simp [foldl_keep, foldl_cfg])) <;> simp_all [foldl_keep, foldl_cfg]

@[simp] theorem settleReady_keep (s : State) (x1 : Int) :
    (settleReady s x1).pending = s.pending ∧ (settleReady s x1).mem = s.mem ∧ (settleReady s x1).hostMem = s.hostMem ∧ (settleReady s x1).otp = s.otp ∧ (settleReady s x1).pcie.cfg = s.pcie.cfg := by
  unfold settleReady
  (repeat' (first | split | simp [foldl_keep, foldl_cfg])) <;> simp_all [foldl_keep, foldl_cfg]

@[simp] theorem addOwnFence_keep (s : State) (x1 : FenceRec) :
    (addOwnFence s x1).pending = s.pending ∧ (addOwnFence s x1).mem = s.mem ∧ (addOwnFence s x1).hostMem = s.hostMem ∧ (addOwnFence s x1).otp = s.otp ∧ (addOwnFence s x1).pcie.cfg = s.pcie.cfg := by
  unfold addOwnFence
  (repeat' (first | split | simp [foldl_keep, foldl_cfg])) <;> simp_all [foldl_keep, foldl_cfg]

@[simp] theorem addPeerFence_keep (s : State) (x1 : FenceRec) :
    (addPeerFence s x1).pending = s.pending ∧ (addPeerFence s x1).mem = s.mem ∧ (addPeerFence s x1).hostMem = s.hostMem ∧ (addPeerFence s x1).otp = s.otp ∧ (addPeerFence s x1).pcie.cfg = s.pcie.cfg := by
  unfold addPeerFence
  (repeat' (first | split | simp [foldl_keep, foldl_cfg])) <;> simp_all [foldl_keep, foldl_cfg]

@[simp] theorem mirrorFence_keep (s : State) (x1 : Nat) (x2 : Bool) (x3 : Word) (x4 : Bool) (x5 : Nat) (x6 : Nat) (x7 : Nat) :
    (mirrorFence s x1 x2 x3 x4 x5 x6 x7).pending = s.pending ∧ (mirrorFence s x1 x2 x3 x4 x5 x6 x7).mem = s.mem ∧ (mirrorFence s x1 x2 x3 x4 x5 x6 x7).hostMem = s.hostMem ∧ (mirrorFence s x1 x2 x3 x4 x5 x6 x7).otp = s.otp ∧ (mirrorFence s x1 x2 x3 x4 x5 x6 x7).pcie.cfg = s.pcie.cfg := by
  unfold mirrorFence
  (repeat' (first | split | simp [foldl_keep, foldl_cfg])) <;> simp_all [foldl_keep, foldl_cfg]

@[simp] theorem statBump_keep (s : State) (x1 : Nat) (x2 : Nat) :
    (statBump s x1 x2).pending = s.pending ∧ (statBump s x1 x2).mem = s.mem ∧ (statBump s x1 x2).hostMem = s.hostMem ∧ (statBump s x1 x2).otp = s.otp ∧ (statBump s x1 x2).pcie.cfg = s.pcie.cfg := by
  unfold statBump
  (repeat' (first | split | simp [foldl_keep, foldl_cfg])) <;> simp_all [foldl_keep, foldl_cfg]

@[simp] theorem setFill_keep (s : State) (x1 : Nat) (x2 : Nat) :
    (setFill s x1 x2).pending = s.pending ∧ (setFill s x1 x2).mem = s.mem ∧ (setFill s x1 x2).hostMem = s.hostMem ∧ (setFill s x1 x2).otp = s.otp ∧ (setFill s x1 x2).pcie.cfg = s.pcie.cfg := by
  unfold setFill
  (repeat' (first | split | simp [foldl_keep, foldl_cfg])) <;> simp_all [foldl_keep, foldl_cfg]

@[simp] theorem queueWrites_keep (s : State) (x1 : Nat) (x2 : Nat) (x3 : Nat) (x4 : Nat) (x5 : List Seg) :
    (queueWrites s x1 x2 x3 x4 x5).pending = s.pending ∧ (queueWrites s x1 x2 x3 x4 x5).mem = s.mem ∧ (queueWrites s x1 x2 x3 x4 x5).hostMem = s.hostMem ∧ (queueWrites s x1 x2 x3 x4 x5).otp = s.otp ∧ (queueWrites s x1 x2 x3 x4 x5).pcie.cfg = s.pcie.cfg := by
  unfold queueWrites
  (repeat' (first | split | simp [foldl_keep, foldl_cfg])) <;> simp_all [foldl_keep, foldl_cfg]

@[simp] theorem dropHeld_keep (s : State) (x1 : List (Nat × Nat × Nat × List Seg)) :
    (dropHeld s x1).pending = s.pending ∧ (dropHeld s x1).mem = s.mem ∧ (dropHeld s x1).hostMem = s.hostMem ∧ (dropHeld s x1).otp = s.otp ∧ (dropHeld s x1).pcie.cfg = s.pcie.cfg := by
  unfold dropHeld
  (repeat' (first | split | simp [foldl_keep, foldl_cfg])) <;> simp_all [foldl_keep, foldl_cfg]

@[simp] theorem removeFrame_keep (s : State) (x1 : Nat) (x2 : OpenFrame) :
    (removeFrame s x1 x2).pending = s.pending ∧ (removeFrame s x1 x2).mem = s.mem ∧ (removeFrame s x1 x2).hostMem = s.hostMem ∧ (removeFrame s x1 x2).otp = s.otp ∧ (removeFrame s x1 x2).pcie.cfg = s.pcie.cfg := by
  unfold removeFrame
  (repeat' (first | split | simp [foldl_keep, foldl_cfg])) <;> simp_all [foldl_keep, foldl_cfg]

@[simp] theorem noteWritten_keep (s : State) (x1 : Nat) (x2 : Nat) :
    (noteWritten s x1 x2).pending = s.pending ∧ (noteWritten s x1 x2).mem = s.mem ∧ (noteWritten s x1 x2).hostMem = s.hostMem ∧ (noteWritten s x1 x2).otp = s.otp ∧ (noteWritten s x1 x2).pcie.cfg = s.pcie.cfg := by
  unfold noteWritten
  (repeat' (first | split | simp [foldl_keep, foldl_cfg])) <;> simp_all [foldl_keep, foldl_cfg]

@[simp] theorem pendFence_keep (s : State) (x1 : Nat) (x2 : OpenFrame) (x3 : Nat) (x4 : Bool) (x5 : Nat) :
    (pendFence s x1 x2 x3 x4 x5).pending = s.pending ∧ (pendFence s x1 x2 x3 x4 x5).mem = s.mem ∧ (pendFence s x1 x2 x3 x4 x5).hostMem = s.hostMem ∧ (pendFence s x1 x2 x3 x4 x5).otp = s.otp ∧ (pendFence s x1 x2 x3 x4 x5).pcie.cfg = s.pcie.cfg := by
  unfold pendFence
  (repeat' (first | split | simp [foldl_keep, foldl_cfg])) <;> simp_all [foldl_keep, foldl_cfg]

@[simp] theorem freeBuf_keep (s : State) (x1 : Nat) (x2 : Nat) :
    (freeBuf s x1 x2).pending = s.pending ∧ (freeBuf s x1 x2).mem = s.mem ∧ (freeBuf s x1 x2).hostMem = s.hostMem ∧ (freeBuf s x1 x2).otp = s.otp ∧ (freeBuf s x1 x2).pcie.cfg = s.pcie.cfg := by
  unfold freeBuf
  (repeat' (first | split | simp [foldl_keep, foldl_cfg])) <;> simp_all [foldl_keep, foldl_cfg]

@[simp] theorem finishFrame_keep (s : State) (x1 : Nat) (x2 : OpenFrame) :
    (finishFrame s x1 x2).pending = s.pending ∧ (finishFrame s x1 x2).mem = s.mem ∧ (finishFrame s x1 x2).hostMem = s.hostMem ∧ (finishFrame s x1 x2).otp = s.otp ∧ (finishFrame s x1 x2).pcie.cfg = s.pcie.cfg := by
  unfold finishFrame
  (repeat' (first | split | simp [foldl_keep, foldl_cfg])) <;> simp_all [foldl_keep, foldl_cfg]

@[simp] theorem closeFrame_keep (s : State) (x1 : Nat) (x2 : OpenFrame) :
    (closeFrame s x1 x2).pending = s.pending ∧ (closeFrame s x1 x2).mem = s.mem ∧ (closeFrame s x1 x2).hostMem = s.hostMem ∧ (closeFrame s x1 x2).otp = s.otp ∧ (closeFrame s x1 x2).pcie.cfg = s.pcie.cfg := by
  unfold closeFrame
  (repeat' (first | split | simp [foldl_keep, foldl_cfg])) <;> simp_all [foldl_keep, foldl_cfg]

@[simp] theorem settleFrames_keep (x0 : Nat) (s : State) (x2 : Nat) :
    (settleFrames x0 s x2).pending = s.pending ∧ (settleFrames x0 s x2).mem = s.mem ∧ (settleFrames x0 s x2).hostMem = s.hostMem ∧ (settleFrames x0 s x2).otp = s.otp ∧ (settleFrames x0 s x2).pcie.cfg = s.pcie.cfg := by
  induction x0 generalizing s with
  | zero => simp [settleFrames]
  | succ n ih =>
    unfold settleFrames
    split
    · simp [ih]
    · simp

@[simp] theorem policeStream_keep (s : State) (x1 : Nat) (x2 : Bool) (x3 : Nat) :
    (policeStream s x1 x2 x3).2.pending = s.pending ∧ (policeStream s x1 x2 x3).2.mem = s.mem ∧ (policeStream s x1 x2 x3).2.hostMem = s.hostMem ∧ (policeStream s x1 x2 x3).2.otp = s.otp ∧ (policeStream s x1 x2 x3).2.pcie.cfg = s.pcie.cfg := by
  unfold policeStream
  (repeat' (first | split | simp [foldl_keep, foldl_cfg])) <;> simp_all [foldl_keep, foldl_cfg]

@[simp] theorem openFrame_keep (s : State) (x1 : Nat) (x2 : Word) :
    (openFrame s x1 x2).pending = s.pending ∧ (openFrame s x1 x2).mem = s.mem ∧ (openFrame s x1 x2).hostMem = s.hostMem ∧ (openFrame s x1 x2).otp = s.otp ∧ (openFrame s x1 x2).pcie.cfg = s.pcie.cfg := by
  unfold openFrame
  (repeat' (first | split | simp [foldl_keep, foldl_cfg])) <;> simp_all [foldl_keep, foldl_cfg]

@[simp] theorem noteMarker_keep (s : State) (x1 : Nat) (x2 : Word) (x3 : Nat) :
    (noteMarker s x1 x2 x3).pending = s.pending ∧ (noteMarker s x1 x2 x3).mem = s.mem ∧ (noteMarker s x1 x2 x3).hostMem = s.hostMem ∧ (noteMarker s x1 x2 x3).otp = s.otp ∧ (noteMarker s x1 x2 x3).pcie.cfg = s.pcie.cfg := by
  unfold noteMarker
  (repeat' (first | split | simp [foldl_keep, foldl_cfg])) <;> simp_all [foldl_keep, foldl_cfg]

@[simp] theorem takePacket_keep (s : State) (x1 : Nat) (x2 : Nat) (x3 : Nat) (x4 : Bool) (x5 : Rtp) :
    (takePacket s x1 x2 x3 x4 x5).pending = s.pending ∧ (takePacket s x1 x2 x3 x4 x5).mem = s.mem ∧ (takePacket s x1 x2 x3 x4 x5).hostMem = s.hostMem ∧ (takePacket s x1 x2 x3 x4 x5).otp = s.otp ∧ (takePacket s x1 x2 x3 x4 x5).pcie.cfg = s.pcie.cfg := by
  unfold takePacket
  (repeat' (first | split | simp [foldl_keep, foldl_cfg])) <;> simp_all [foldl_keep, foldl_cfg]

@[simp] theorem preferA_keep (s : State) (x1 : Nat) (x2 : Nat) (x3 : Nat) (x4 : Rtp) (x5 : Nat) :
    (preferA s x1 x2 x3 x4 x5).pending = s.pending ∧ (preferA s x1 x2 x3 x4 x5).mem = s.mem ∧ (preferA s x1 x2 x3 x4 x5).hostMem = s.hostMem ∧ (preferA s x1 x2 x3 x4 x5).otp = s.otp ∧ (preferA s x1 x2 x3 x4 x5).pcie.cfg = s.pcie.cfg := by
  unfold preferA
  (repeat' (first | split | simp [foldl_keep, foldl_cfg])) <;> simp_all [foldl_keep, foldl_cfg]

@[simp] theorem framePacket_keep (s : State) (x1 : Nat) (x2 : Nat) (x3 : Nat) (x4 : Bool) (x5 : Rtp) :
    (framePacket s x1 x2 x3 x4 x5).pending = s.pending ∧ (framePacket s x1 x2 x3 x4 x5).mem = s.mem ∧ (framePacket s x1 x2 x3 x4 x5).hostMem = s.hostMem ∧ (framePacket s x1 x2 x3 x4 x5).otp = s.otp ∧ (framePacket s x1 x2 x3 x4 x5).pcie.cfg = s.pcie.cfg := by
  unfold framePacket
  (repeat' (first | split | simp [foldl_keep, foldl_cfg])) <;> simp_all [foldl_keep, foldl_cfg]

@[simp] theorem streamPacket_keep (s : State) (x1 : Nat) (x2 : Nat) (x3 : Bool) (x4 : NetFrame) :
    (streamPacket s x1 x2 x3 x4).pending = s.pending ∧ (streamPacket s x1 x2 x3 x4).mem = s.mem ∧ (streamPacket s x1 x2 x3 x4).hostMem = s.hostMem ∧ (streamPacket s x1 x2 x3 x4).otp = s.otp ∧ (streamPacket s x1 x2 x3 x4).pcie.cfg = s.pcie.cfg := by
  unfold streamPacket
  (repeat' (first | split | simp [foldl_keep, foldl_cfg])) <;> simp_all [foldl_keep, foldl_cfg]

theorem execIgFrameRx_keep (x0 : Nat) (x1 : NetFrame) (s : State) :
    ∃ t, execIgFrameRx x0 x1 s = .next t ∧ t.pending = s.pending ∧ t.mem = s.mem ∧ t.hostMem = s.hostMem ∧ t.otp = s.otp ∧ t.pcie.cfg = s.pcie.cfg := by
  unfold execIgFrameRx
  refine ⟨_, rfl, ?_⟩
  (repeat' (first | split | simp [foldl_keep, foldl_cfg, guarded_pending, indGuarded_pending, guarded_mem, indGuarded_mem, guarded_hostMem, indGuarded_hostMem, guarded_otp, indGuarded_otp, guarded_pcie_cfg, indGuarded_pcie_cfg])) <;> simp_all [foldl_keep, foldl_cfg, guarded_pending, indGuarded_pending, guarded_mem, indGuarded_mem, guarded_hostMem, indGuarded_hostMem, guarded_otp, indGuarded_otp, guarded_pcie_cfg, indGuarded_pcie_cfg]

@[simp] theorem setIgLink_keep (s : State) (x1 : Nat) (x2 : Bool × Bool × Nat) :
    (setIgLink s x1 x2).pending = s.pending ∧ (setIgLink s x1 x2).mem = s.mem ∧ (setIgLink s x1 x2).hostMem = s.hostMem ∧ (setIgLink s x1 x2).otp = s.otp ∧ (setIgLink s x1 x2).pcie.cfg = s.pcie.cfg := by
  unfold setIgLink
  (repeat' (first | split | simp [foldl_keep, foldl_cfg])) <;> simp_all [foldl_keep, foldl_cfg]

theorem execIgLinkChange_keep (x0 : Nat) (x1 : Bool) (x2 : Bool) (x3 : Nat) (s : State) :
    ∃ t, execIgLinkChange x0 x1 x2 x3 s = .next t ∧ t.pending = s.pending ∧ t.mem = s.mem ∧ t.hostMem = s.hostMem ∧ t.otp = s.otp ∧ t.pcie.cfg = s.pcie.cfg := by
  unfold execIgLinkChange
  refine ⟨_, rfl, ?_⟩
  (repeat' (first | split | simp [foldl_keep, foldl_cfg, guarded_pending, indGuarded_pending, guarded_mem, indGuarded_mem, guarded_hostMem, indGuarded_hostMem, guarded_otp, indGuarded_otp, guarded_pcie_cfg, indGuarded_pcie_cfg])) <;> simp_all [foldl_keep, foldl_cfg, guarded_pending, indGuarded_pending, guarded_mem, indGuarded_mem, guarded_hostMem, indGuarded_hostMem, guarded_otp, indGuarded_otp, guarded_pcie_cfg, indGuarded_pcie_cfg]

@[simp] theorem assignTo_keep (s : State) (x1 : Nat) (x2 : OpenFrame) (x3 : Option Nat) :
    (assignTo s x1 x2 x3).pending = s.pending ∧ (assignTo s x1 x2 x3).mem = s.mem ∧ (assignTo s x1 x2 x3).hostMem = s.hostMem ∧ (assignTo s x1 x2 x3).otp = s.otp ∧ (assignTo s x1 x2 x3).pcie.cfg = s.pcie.cfg := by
  unfold assignTo
  (repeat' (first | split | simp [foldl_keep, foldl_cfg])) <;> simp_all [foldl_keep, foldl_cfg]

theorem execBufferAssign_keep (x0 : Nat) (x1 : Nat) (s : State) :
    ∃ t, execBufferAssign x0 x1 s = .next t ∧ t.pending = s.pending ∧ t.mem = s.mem ∧ t.hostMem = s.hostMem ∧ t.otp = s.otp ∧ t.pcie.cfg = s.pcie.cfg := by
  unfold execBufferAssign
  refine ⟨_, rfl, ?_⟩
  (repeat' (first | split | simp [foldl_keep, foldl_cfg, guarded_pending, indGuarded_pending, guarded_mem, indGuarded_mem, guarded_hostMem, indGuarded_hostMem, guarded_otp, indGuarded_otp, guarded_pcie_cfg, indGuarded_pcie_cfg])) <;> simp_all [foldl_keep, foldl_cfg, guarded_pending, indGuarded_pending, guarded_mem, indGuarded_mem, guarded_hostMem, indGuarded_hostMem, guarded_otp, indGuarded_otp, guarded_pcie_cfg, indGuarded_pcie_cfg]

theorem execFrameCloseTimeout_keep (x0 : Nat) (s : State) :
    ∃ t, execFrameCloseTimeout x0 s = .next t ∧ t.pending = s.pending ∧ t.mem = s.mem ∧ t.hostMem = s.hostMem ∧ t.otp = s.otp ∧ t.pcie.cfg = s.pcie.cfg := by
  unfold execFrameCloseTimeout
  refine ⟨_, rfl, ?_⟩
  (repeat' (first | split | simp [foldl_keep, foldl_cfg, guarded_pending, indGuarded_pending, guarded_mem, indGuarded_mem, guarded_hostMem, indGuarded_hostMem, guarded_otp, indGuarded_otp, guarded_pcie_cfg, indGuarded_pcie_cfg])) <;> simp_all [foldl_keep, foldl_cfg, guarded_pending, indGuarded_pending, guarded_mem, indGuarded_mem, guarded_hostMem, indGuarded_hostMem, guarded_otp, indGuarded_otp, guarded_pcie_cfg, indGuarded_pcie_cfg]

@[simp] theorem hostFenceRecord_keep (s : State) (x1 : Nat) (x2 : FencePend) (x3 : Nat) (x4 : Nat) :
    (hostFenceRecord s x1 x2 x3 x4).pending = s.pending ∧ (hostFenceRecord s x1 x2 x3 x4).otp = s.otp ∧ (hostFenceRecord s x1 x2 x3 x4).pcie.cfg = s.pcie.cfg := by
  unfold hostFenceRecord
  (repeat' (first | split | simp [foldl_keep, foldl_cfg])) <;> simp_all [foldl_keep, foldl_cfg]

theorem execFencePublish_keep (x0 : Nat) (x1 : Nat) (s : State) :
    ∃ t, execFencePublish x0 x1 s = .next t ∧ t.pending = s.pending ∧ t.otp = s.otp ∧ t.pcie.cfg = s.pcie.cfg := by
  unfold execFencePublish
  refine ⟨_, rfl, ?_⟩
  (repeat' (first | split | simp [foldl_keep, foldl_cfg, guarded_pending, indGuarded_pending, guarded_mem, indGuarded_mem, guarded_hostMem, indGuarded_hostMem, guarded_otp, indGuarded_otp, guarded_pcie_cfg, indGuarded_pcie_cfg])) <;> simp_all [foldl_keep, foldl_cfg, guarded_pending, indGuarded_pending, guarded_mem, indGuarded_mem, guarded_hostMem, indGuarded_hostMem, guarded_otp, indGuarded_otp, guarded_pcie_cfg, indGuarded_pcie_cfg]

@[simp] theorem putCfg_keep (s : State) (x1 : Nat) (x2 : Nat) (x3 : Word) :
    (putCfg s x1 x2 x3).pending = s.pending ∧ (putCfg s x1 x2 x3).mem = s.mem ∧ (putCfg s x1 x2 x3).hostMem = s.hostMem ∧ (putCfg s x1 x2 x3).otp = s.otp ∧ (putCfg s x1 x2 x3).pcie.cfg = s.pcie.cfg := by
  unfold putCfg
  (repeat' (first | split | simp [foldl_keep, foldl_cfg])) <;> simp_all [foldl_keep, foldl_cfg]

@[simp] theorem abandonFrames_keep (s : State) (x1 : Nat) :
    (abandonFrames s x1).pending = s.pending ∧ (abandonFrames s x1).mem = s.mem ∧ (abandonFrames s x1).hostMem = s.hostMem ∧ (abandonFrames s x1).otp = s.otp ∧ (abandonFrames s x1).pcie.cfg = s.pcie.cfg := by
  unfold abandonFrames
  refine ⟨?_, ?_, ?_, ?_, ?_⟩ <;> simp [foldl_keep, foldl_cfg]
  · exact foldl_keep (fun s : State => s.pending) _ (fun s o => by split <;> simp) _ _
  · exact foldl_keep (fun s : State => s.mem) _ (fun s o => by split <;> simp) _ _
  · exact foldl_keep (fun s : State => s.hostMem) _ (fun s o => by split <;> simp) _ _
  · exact foldl_keep (fun s : State => s.otp) _ (fun s o => by split <;> simp) _ _
  · exact foldl_cfg _ (fun s o => by split <;> simp) _ _

@[simp] theorem startStream_keep (s : State) (x1 : Nat) :
    (startStream s x1).pending = s.pending ∧ (startStream s x1).mem = s.mem ∧ (startStream s x1).hostMem = s.hostMem ∧ (startStream s x1).otp = s.otp ∧ (startStream s x1).pcie.cfg = s.pcie.cfg := by
  unfold startStream
  (repeat' (first | split | simp [foldl_keep, foldl_cfg])) <;> simp_all [foldl_keep, foldl_cfg]

@[simp] theorem writeStream0_keep (s : State) (x1 : Nat) (x2 : Word) :
    (writeStream0 s x1 x2).pending = s.pending ∧ (writeStream0 s x1 x2).mem = s.mem ∧ (writeStream0 s x1 x2).hostMem = s.hostMem ∧ (writeStream0 s x1 x2).otp = s.otp ∧ (writeStream0 s x1 x2).pcie.cfg = s.pcie.cfg := by
  unfold writeStream0
  (repeat' (first | split | simp [foldl_keep, foldl_cfg])) <;> simp_all [foldl_keep, foldl_cfg]

@[simp] theorem settleStream_keep (s : State) (x1 : Nat) :
    (settleStream s x1).pending = s.pending ∧ (settleStream s x1).mem = s.mem ∧ (settleStream s x1).hostMem = s.hostMem ∧ (settleStream s x1).otp = s.otp ∧ (settleStream s x1).pcie.cfg = s.pcie.cfg := by
  unfold settleStream
  (repeat' (first | split | simp [foldl_keep, foldl_cfg])) <;> simp_all [foldl_keep, foldl_cfg]

@[simp] theorem writeStreamWord_keep (s : State) (x1 : Nat) (x2 : Nat) (x3 : Word) :
    (writeStreamWord s x1 x2 x3).pending = s.pending ∧ (writeStreamWord s x1 x2 x3).mem = s.mem ∧ (writeStreamWord s x1 x2 x3).hostMem = s.hostMem ∧ (writeStreamWord s x1 x2 x3).otp = s.otp ∧ (writeStreamWord s x1 x2 x3).pcie.cfg = s.pcie.cfg := by
  unfold writeStreamWord
  (repeat' (first | split | simp [foldl_keep, foldl_cfg])) <;> simp_all [foldl_keep, foldl_cfg]

theorem execStreamEnable_keep (x0 : Agent) (x1 : Nat) (x2 : Word) (s : State) :
    ∃ t, execStreamEnable x0 x1 x2 s = .next t ∧ t.pending = s.pending ∧ t.mem = s.mem ∧ t.hostMem = s.hostMem ∧ t.otp = s.otp ∧ t.pcie.cfg = s.pcie.cfg := by
  unfold execStreamEnable
  refine ⟨_, rfl, ?_⟩
  (repeat' (first | split | simp [foldl_keep, foldl_cfg, guarded_pending, indGuarded_pending, guarded_mem, indGuarded_mem, guarded_hostMem, indGuarded_hostMem, guarded_otp, indGuarded_otp, guarded_pcie_cfg, indGuarded_pcie_cfg])) <;> simp_all [foldl_keep, foldl_cfg, guarded_pending, indGuarded_pending, guarded_mem, indGuarded_mem, guarded_hostMem, indGuarded_hostMem, guarded_otp, indGuarded_otp, guarded_pcie_cfg, indGuarded_pcie_cfg]

theorem execStreamDisable_keep (x0 : Agent) (x1 : Nat) (x2 : Word) (s : State) :
    ∃ t, execStreamDisable x0 x1 x2 s = .next t ∧ t.pending = s.pending ∧ t.mem = s.mem ∧ t.hostMem = s.hostMem ∧ t.otp = s.otp ∧ t.pcie.cfg = s.pcie.cfg := by
  unfold execStreamDisable
  refine ⟨_, rfl, ?_⟩
  (repeat' (first | split | simp [foldl_keep, foldl_cfg, guarded_pending, indGuarded_pending, guarded_mem, indGuarded_mem, guarded_hostMem, indGuarded_hostMem, guarded_otp, indGuarded_otp, guarded_pcie_cfg, indGuarded_pcie_cfg])) <;> simp_all [foldl_keep, foldl_cfg, guarded_pending, indGuarded_pending, guarded_mem, indGuarded_mem, guarded_hostMem, indGuarded_hostMem, guarded_otp, indGuarded_otp, guarded_pcie_cfg, indGuarded_pcie_cfg]

@[simp] theorem writeIgsCtrl_keep (s : State) (x1 : Word) :
    (writeIgsCtrl s x1).pending = s.pending ∧ (writeIgsCtrl s x1).mem = s.mem ∧ (writeIgsCtrl s x1).hostMem = s.hostMem ∧ (writeIgsCtrl s x1).otp = s.otp ∧ (writeIgsCtrl s x1).pcie.cfg = s.pcie.cfg := by
  unfold writeIgsCtrl
  (repeat' (first | split | simp [foldl_keep, foldl_cfg])) <;> simp_all [foldl_keep, foldl_cfg]

theorem execIngestEnable_keep (x0 : Agent) (x1 : Word) (s : State) :
    ∃ t, execIngestEnable x0 x1 s = .next t ∧ t.pending = s.pending ∧ t.mem = s.mem ∧ t.hostMem = s.hostMem ∧ t.otp = s.otp ∧ t.pcie.cfg = s.pcie.cfg := by
  unfold execIngestEnable
  refine ⟨_, rfl, ?_⟩
  (repeat' (first | split | simp [foldl_keep, foldl_cfg, guarded_pending, indGuarded_pending, guarded_mem, indGuarded_mem, guarded_hostMem, indGuarded_hostMem, guarded_otp, indGuarded_otp, guarded_pcie_cfg, indGuarded_pcie_cfg])) <;> simp_all [foldl_keep, foldl_cfg, guarded_pending, indGuarded_pending, guarded_mem, indGuarded_mem, guarded_hostMem, indGuarded_hostMem, guarded_otp, indGuarded_otp, guarded_pcie_cfg, indGuarded_pcie_cfg]

theorem execIngestDisable_keep (x0 : Agent) (x1 : Word) (s : State) :
    ∃ t, execIngestDisable x0 x1 s = .next t ∧ t.pending = s.pending ∧ t.mem = s.mem ∧ t.hostMem = s.hostMem ∧ t.otp = s.otp ∧ t.pcie.cfg = s.pcie.cfg := by
  unfold execIngestDisable
  refine ⟨_, rfl, ?_⟩
  (repeat' (first | split | simp [foldl_keep, foldl_cfg, guarded_pending, indGuarded_pending, guarded_mem, indGuarded_mem, guarded_hostMem, indGuarded_hostMem, guarded_otp, indGuarded_otp, guarded_pcie_cfg, indGuarded_pcie_cfg])) <;> simp_all [foldl_keep, foldl_cfg, guarded_pending, indGuarded_pending, guarded_mem, indGuarded_mem, guarded_hostMem, indGuarded_hostMem, guarded_otp, indGuarded_otp, guarded_pcie_cfg, indGuarded_pcie_cfg]

@[simp] theorem dropUnwritten_keep (s : State) (x1 : Nat) :
    (dropUnwritten s x1).pending = s.pending ∧ (dropUnwritten s x1).mem = s.mem ∧ (dropUnwritten s x1).hostMem = s.hostMem ∧ (dropUnwritten s x1).otp = s.otp ∧ (dropUnwritten s x1).pcie.cfg = s.pcie.cfg := by
  unfold dropUnwritten
  (repeat' (first | split | simp [foldl_keep, foldl_cfg])) <;> simp_all [foldl_keep, foldl_cfg]

@[simp] theorem setSdi_keep (s : State) (x1 : Nat) (x2 : Bool) (x3 : Bool) (x4 : Nat) :
    (setSdi s x1 x2 x3 x4).pending = s.pending ∧ (setSdi s x1 x2 x3 x4).mem = s.mem ∧ (setSdi s x1 x2 x3 x4).hostMem = s.hostMem ∧ (setSdi s x1 x2 x3 x4).otp = s.otp ∧ (setSdi s x1 x2 x3 x4).pcie.cfg = s.pcie.cfg := by
  unfold setSdi
  (repeat' (first | split | simp [foldl_keep, foldl_cfg])) <;> simp_all [foldl_keep, foldl_cfg]

theorem execSdiLockChange_keep (x0 : Nat) (x1 : Bool) (x2 : Bool) (x3 : Bool) (x4 : Nat) (s : State) :
    ∃ t, execSdiLockChange x0 x1 x2 x4 s x3 = .next t ∧ t.pending = s.pending ∧ t.mem = s.mem ∧ t.hostMem = s.hostMem ∧ t.otp = s.otp ∧ t.pcie.cfg = s.pcie.cfg := by
  unfold execSdiLockChange
  refine ⟨_, rfl, ?_⟩
  (repeat' (first | split | simp [foldl_keep, foldl_cfg, guarded_pending, indGuarded_pending, guarded_mem, indGuarded_mem, guarded_hostMem, indGuarded_hostMem, guarded_otp, indGuarded_otp, guarded_pcie_cfg, indGuarded_pcie_cfg])) <;> simp_all [foldl_keep, foldl_cfg, guarded_pending, indGuarded_pending, guarded_mem, indGuarded_mem, guarded_hostMem, indGuarded_hostMem, guarded_otp, indGuarded_otp, guarded_pcie_cfg, indGuarded_pcie_cfg]

theorem execSdiFrameRx_keep (x0 : Nat) (x1 : SdiFrame) (s : State) :
    ∃ t, execSdiFrameRx x0 x1 s = .next t ∧ t.pending = s.pending ∧ t.mem = s.mem ∧ t.hostMem = s.hostMem ∧ t.otp = s.otp ∧ t.pcie.cfg = s.pcie.cfg := by
  unfold execSdiFrameRx
  refine ⟨_, rfl, ?_⟩
  (repeat' (first | split | simp [foldl_keep, foldl_cfg, guarded_pending, indGuarded_pending, guarded_mem, indGuarded_mem, guarded_hostMem, indGuarded_hostMem, guarded_otp, indGuarded_otp, guarded_pcie_cfg, indGuarded_pcie_cfg])) <;> simp_all [foldl_keep, foldl_cfg, guarded_pending, indGuarded_pending, guarded_mem, indGuarded_mem, guarded_hostMem, indGuarded_hostMem, guarded_otp, indGuarded_otp, guarded_pcie_cfg, indGuarded_pcie_cfg]

@[simp] theorem admitInfo_keep (s : State) (x1 : Nat) (x2 : Nat) (x3 : Nat) :
    (admitInfo s x1 x2 x3).pending = s.pending ∧ (admitInfo s x1 x2 x3).mem = s.mem ∧ (admitInfo s x1 x2 x3).hostMem = s.hostMem ∧ (admitInfo s x1 x2 x3).otp = s.otp ∧ (admitInfo s x1 x2 x3).pcie.cfg = s.pcie.cfg := by
  unfold admitInfo
  (repeat' (first | split | simp [foldl_keep, foldl_cfg])) <;> simp_all [foldl_keep, foldl_cfg]

@[simp] theorem admitAll_keep (x0 : Bool) (x1 : Store Word) (s : State) (x3 : List Nat) :
    (admitAll x0 x1 s x3).2.pending = s.pending ∧ (admitAll x0 x1 s x3).2.mem = s.mem ∧ (admitAll x0 x1 s x3).2.hostMem = s.hostMem ∧ (admitAll x0 x1 s x3).2.otp = s.otp ∧ (admitAll x0 x1 s x3).2.pcie.cfg = s.pcie.cfg := by
  induction x3 generalizing s with
  | nil => simp [admitAll]
  | cons n ns ih =>
    unfold admitAll
    split
    · simp
    · cases x0 <;> simp [ih]

@[simp] theorem admitBank_keep (x0 : Bool) (s : State) (x2 : Store Word) :
    (admitBank x0 s x2).2.pending = s.pending ∧ (admitBank x0 s x2).2.mem = s.mem ∧ (admitBank x0 s x2).2.hostMem = s.hostMem ∧ (admitBank x0 s x2).2.otp = s.otp ∧ (admitBank x0 s x2).2.pcie.cfg = s.pcie.cfg := by
  unfold admitBank
  (repeat' (first | split | simp [foldl_keep, foldl_cfg])) <;> simp_all [foldl_keep, foldl_cfg]

@[simp] theorem setCheck_keep (s : State) (x1 : Nat) (x2 : Word) :
    (setCheck s x1 x2).2.pending = s.pending ∧ (setCheck s x1 x2).2.mem = s.mem ∧ (setCheck s x1 x2).2.hostMem = s.hostMem ∧ (setCheck s x1 x2).2.otp = s.otp ∧ (setCheck s x1 x2).2.pcie.cfg = s.pcie.cfg := by
  unfold setCheck
  (repeat' (first | split | simp [foldl_keep, foldl_cfg])) <;> simp_all [foldl_keep, foldl_cfg]

@[simp] theorem checkRequest_keep (s : State) (x1 : Nat) (x2 : CommitReq) (x3 : List Nat) :
    (checkRequest s x1 x2 x3).2.pending = s.pending ∧ (checkRequest s x1 x2 x3).2.mem = s.mem ∧ (checkRequest s x1 x2 x3).2.hostMem = s.hostMem ∧ (checkRequest s x1 x2 x3).2.otp = s.otp ∧ (checkRequest s x1 x2 x3).2.pcie.cfg = s.pcie.cfg := by
  unfold checkRequest
  (repeat' (first | split | simp [foldl_keep, foldl_cfg])) <;> simp_all [foldl_keep, foldl_cfg]

@[simp] theorem refuseCommit_keep (s : State) (x1 : Word) (x2 : Refuse) :
    (refuseCommit s x1 x2).pending = s.pending ∧ (refuseCommit s x1 x2).mem = s.mem ∧ (refuseCommit s x1 x2).hostMem = s.hostMem ∧ (refuseCommit s x1 x2).otp = s.otp ∧ (refuseCommit s x1 x2).pcie.cfg = s.pcie.cfg := by
  unfold refuseCommit
  (repeat' (first | split | simp [foldl_keep, foldl_cfg])) <;> simp_all [foldl_keep, foldl_cfg]

@[simp] theorem setQueue_keep (s : State) (x1 : List CommitReq) :
    (setQueue s x1).pending = s.pending ∧ (setQueue s x1).mem = s.mem ∧ (setQueue s x1).hostMem = s.hostMem ∧ (setQueue s x1).otp = s.otp ∧ (setQueue s x1).pcie.cfg = s.pcie.cfg := by
  unfold setQueue
  (repeat' (first | split | simp [foldl_keep, foldl_cfg])) <;> simp_all [foldl_keep, foldl_cfg]

@[simp] theorem enterCommit_keep (s : State) (x1 : Word) (x2 : Word) (x3 : Bool) (x4 : Nat) :
    (enterCommit s x1 x2 x3 x4).pending = s.pending ∧ (enterCommit s x1 x2 x3 x4).mem = s.mem ∧ (enterCommit s x1 x2 x3 x4).hostMem = s.hostMem ∧ (enterCommit s x1 x2 x3 x4).otp = s.otp ∧ (enterCommit s x1 x2 x3 x4).pcie.cfg = s.pcie.cfg := by
  unfold enterCommit
  (repeat' (first | split | simp [foldl_keep, foldl_cfg])) <;> simp_all [foldl_keep, foldl_cfg]

@[simp] theorem cancelGroups_keep (s : State) (x1 : Word) :
    (cancelGroups s x1).pending = s.pending ∧ (cancelGroups s x1).mem = s.mem ∧ (cancelGroups s x1).hostMem = s.hostMem ∧ (cancelGroups s x1).otp = s.otp ∧ (cancelGroups s x1).pcie.cfg = s.pcie.cfg := by
  unfold cancelGroups
  (repeat' (first | split | simp [foldl_keep, foldl_cfg])) <;> simp_all [foldl_keep, foldl_cfg]

@[simp] theorem settleCancels_keep (s : State) (x1 : ℤ) :
    (settleCancels s x1).pending = s.pending ∧ (settleCancels s x1).mem = s.mem ∧ (settleCancels s x1).hostMem = s.hostMem ∧ (settleCancels s x1).otp = s.otp ∧ (settleCancels s x1).pcie.cfg = s.pcie.cfg := by
  unfold settleCancels
  refine ⟨?_, ?_, ?_, ?_, ?_⟩
  · exact foldl_keep (fun s : State => s.pending) _ (fun s o => by split <;> simp) _ _
  · exact foldl_keep (fun s : State => s.mem) _ (fun s o => by split <;> simp) _ _
  · exact foldl_keep (fun s : State => s.hostMem) _ (fun s o => by split <;> simp) _ _
  · exact foldl_keep (fun s : State => s.otp) _ (fun s o => by split <;> simp) _ _
  · exact foldl_cfg _ (fun s o => by split <;> simp) _ _

theorem execCommit_keep (x0 : Agent) (x1 : Word) (s : State) :
    ∃ t, execCommit x0 x1 s = .next t ∧ t.pending = s.pending ∧ t.mem = s.mem ∧ t.hostMem = s.hostMem ∧ t.otp = s.otp ∧ t.pcie.cfg = s.pcie.cfg := by
  unfold execCommit
  refine ⟨_, rfl, ?_⟩
  (repeat' (first | split | simp [foldl_keep, foldl_cfg, guarded_pending, indGuarded_pending, guarded_mem, indGuarded_mem, guarded_hostMem, indGuarded_hostMem, guarded_otp, indGuarded_otp, guarded_pcie_cfg, indGuarded_pcie_cfg])) <;> simp_all [foldl_keep, foldl_cfg, guarded_pending, indGuarded_pending, guarded_mem, indGuarded_mem, guarded_hostMem, indGuarded_hostMem, guarded_otp, indGuarded_otp, guarded_pcie_cfg, indGuarded_pcie_cfg]

@[simp] theorem cancelNow_keep (s : State) (x1 : Word) :
    (cancelNow s x1).pending = s.pending ∧ (cancelNow s x1).mem = s.mem ∧ (cancelNow s x1).hostMem = s.hostMem ∧ (cancelNow s x1).otp = s.otp ∧ (cancelNow s x1).pcie.cfg = s.pcie.cfg := by
  unfold cancelNow
  (repeat' (first | split | simp [foldl_keep, foldl_cfg])) <;> simp_all [foldl_keep, foldl_cfg]

@[simp] theorem settleLate_keep (s : State) :
    (settleLate s).pending = s.pending ∧ (settleLate s).mem = s.mem ∧ (settleLate s).hostMem = s.hostMem ∧ (settleLate s).otp = s.otp ∧ (settleLate s).pcie.cfg = s.pcie.cfg := by
  unfold settleLate
  (repeat' (first | split | simp [foldl_keep, foldl_cfg])) <;> simp_all [foldl_keep, foldl_cfg]

theorem execCommitCancel_keep (x0 : Agent) (x1 : Word) (s : State) :
    ∃ t, execCommitCancel x0 x1 s = .next t ∧ t.pending = s.pending ∧ t.mem = s.mem ∧ t.hostMem = s.hostMem ∧ t.otp = s.otp ∧ t.pcie.cfg = s.pcie.cfg := by
  unfold execCommitCancel
  refine ⟨_, rfl, ?_⟩
  (repeat' (first | split | simp [foldl_keep, foldl_cfg, guarded_pending, indGuarded_pending, guarded_mem, indGuarded_mem, guarded_hostMem, indGuarded_hostMem, guarded_otp, indGuarded_otp, guarded_pcie_cfg, indGuarded_pcie_cfg])) <;> simp_all [foldl_keep, foldl_cfg, guarded_pending, indGuarded_pending, guarded_mem, indGuarded_mem, guarded_hostMem, indGuarded_hostMem, guarded_otp, indGuarded_otp, guarded_pcie_cfg, indGuarded_pcie_cfg]

theorem execCommitCheckDone_keep (x0 : List Upset) (s : State) :
    ∃ t, execCommitCheckDone x0 s = .next t ∧ t.pending = s.pending ∧ t.mem = s.mem ∧ t.hostMem = s.hostMem ∧ t.otp = s.otp ∧ t.pcie.cfg = s.pcie.cfg := by
  have hc (i : Nat) (r : CommitReq) (l : List Nat) := checkRequest_keep (noteUpsets s x0) i r l
  unfold execCommitCheckDone
  refine ⟨_, rfl, ?_⟩
  split
  · simp
  · split
    · split
      · simp
      · rename_i i r _
        simp only []
        split
        · rename_i t h
          have k := hc i r ((x0.filter fun u => u.uncorr && u.struct == 1).map (·.item))
          rw [h] at k
          simpa using k
        · rename_i f t h
          have k := hc i r ((x0.filter fun u => u.uncorr && u.struct == 1).map (·.item))
          rw [h] at k
          simpa using k
    · simp

@[simp] theorem setRef_keep (s : State) (x1 : Nat) (x2 : Nat) (x3 : Option LayerRef) :
    (setRef s x1 x2 x3).pending = s.pending ∧ (setRef s x1 x2 x3).mem = s.mem ∧ (setRef s x1 x2 x3).hostMem = s.hostMem ∧ (setRef s x1 x2 x3).otp = s.otp ∧ (setRef s x1 x2 x3).pcie.cfg = s.pcie.cfg := by
  unfold setRef
  (repeat' (first | split | simp [foldl_keep, foldl_cfg])) <;> simp_all [foldl_keep, foldl_cfg]

@[simp] theorem touchRefs_keep (x0 : List Word) (x1 : List Word) (x2 : Nat) (s : State) (x4 : Nat) :
    (touchRefs x0 x1 x2 s x4).pending = s.pending ∧ (touchRefs x0 x1 x2 s x4).mem = s.mem ∧ (touchRefs x0 x1 x2 s x4).hostMem = s.hostMem ∧ (touchRefs x0 x1 x2 s x4).otp = s.otp ∧ (touchRefs x0 x1 x2 s x4).pcie.cfg = s.pcie.cfg := by
  unfold touchRefs
  (repeat' (first | split | simp [foldl_keep, foldl_cfg])) <;> simp_all [foldl_keep, foldl_cfg]

@[simp] theorem applyRequest_keep (s : State) (x1 : CommitReq) :
    (applyRequest s x1).pending = s.pending ∧ (applyRequest s x1).mem = s.mem ∧ (applyRequest s x1).hostMem = s.hostMem ∧ (applyRequest s x1).otp = s.otp ∧ (applyRequest s x1).pcie.cfg = s.pcie.cfg := by
  unfold applyRequest
  (repeat' (first | split | simp [foldl_keep, foldl_cfg])) <;> simp_all [foldl_keep, foldl_cfg]

@[simp] theorem applyHead_keep (x0 : Nat) (x1 : ℤ) (x2 : List CommitReq) (s : State) (x4 : Word) :
    (applyHead x0 x1 x2 s x4).1.pending = s.pending ∧ (applyHead x0 x1 x2 s x4).1.mem = s.mem ∧ (applyHead x0 x1 x2 s x4).1.hostMem = s.hostMem ∧ (applyHead x0 x1 x2 s x4).1.otp = s.otp ∧ (applyHead x0 x1 x2 s x4).1.pcie.cfg = s.pcie.cfg := by
  induction x2 generalizing s x4 with
  | nil => simp [applyHead]
  | cons r rs ih =>
    unfold applyHead
    simp only []
    split <;> split <;> simp [ih]

@[simp] theorem dropTargets_keep (s : State) :
    (dropTargets s).pending = s.pending ∧ (dropTargets s).mem = s.mem ∧ (dropTargets s).hostMem = s.hostMem ∧ (dropTargets s).otp = s.otp ∧ (dropTargets s).pcie.cfg = s.pcie.cfg := by
  unfold dropTargets
  (repeat' (first | split | simp [foldl_keep, foldl_cfg])) <;> simp_all [foldl_keep, foldl_cfg]

@[simp] theorem storeLatch_keep (s : State) (x1 : Nat) (x2 : Nat) (x3 : LatchOut) :
    (storeLatch s x1 x2 x3).pending = s.pending ∧ (storeLatch s x1 x2 x3).mem = s.mem ∧ (storeLatch s x1 x2 x3).hostMem = s.hostMem ∧ (storeLatch s x1 x2 x3).otp = s.otp ∧ (storeLatch s x1 x2 x3).pcie.cfg = s.pcie.cfg := by
  unfold storeLatch
  (repeat' (first | split | simp [foldl_keep, foldl_cfg])) <;> simp_all [foldl_keep, foldl_cfg]

@[simp] theorem noteSample_keep (s : State) (x1 : PhaseCtx) :
    (noteSample s x1).pending = s.pending ∧ (noteSample s x1).mem = s.mem ∧ (noteSample s x1).hostMem = s.hostMem ∧ (noteSample s x1).otp = s.otp ∧ (noteSample s x1).pcie.cfg = s.pcie.cfg := by
  unfold noteSample
  (repeat' (first | split | simp [foldl_keep, foldl_cfg])) <;> simp_all [foldl_keep, foldl_cfg]

@[simp] theorem latchSlot_keep (s : State) (x1 : Nat) (x2 : Nat) (x3 : List Upset) :
    (latchSlot s x1 x2 x3).pending = s.pending ∧ (latchSlot s x1 x2 x3).mem = s.mem ∧ (latchSlot s x1 x2 x3).hostMem = s.hostMem ∧ (latchSlot s x1 x2 x3).otp = s.otp ∧ (latchSlot s x1 x2 x3).pcie.cfg = s.pcie.cfg := by
  unfold latchSlot
  (repeat' (first | split | simp [foldl_keep, foldl_cfg])) <;> simp_all [foldl_keep, foldl_cfg]

theorem execLayerLatch_keep (x0 : Nat) (x1 : Nat) (x2 : List Upset) (s : State) :
    ∃ t, execLayerLatch x0 x1 x2 s = .next t ∧ t.pending = s.pending ∧ t.mem = s.mem ∧ t.hostMem = s.hostMem ∧ t.otp = s.otp ∧ t.pcie.cfg = s.pcie.cfg := by
  unfold execLayerLatch
  refine ⟨_, rfl, ?_⟩
  (repeat' (first | split | simp [foldl_keep, foldl_cfg, guarded_pending, indGuarded_pending, guarded_mem, indGuarded_mem, guarded_hostMem, indGuarded_hostMem, guarded_otp, indGuarded_otp, guarded_pcie_cfg, indGuarded_pcie_cfg])) <;> simp_all [foldl_keep, foldl_cfg, guarded_pending, indGuarded_pending, guarded_mem, indGuarded_mem, guarded_hostMem, indGuarded_hostMem, guarded_otp, indGuarded_otp, guarded_pcie_cfg, indGuarded_pcie_cfg]

@[simp] theorem writeLayerWindow_keep (s : State) (x1 : Nat) (x2 : Word) :
    (writeLayerWindow s x1 x2).pending = s.pending ∧ (writeLayerWindow s x1 x2).mem = s.mem ∧ (writeLayerWindow s x1 x2).hostMem = s.hostMem ∧ (writeLayerWindow s x1 x2).otp = s.otp ∧ (writeLayerWindow s x1 x2).pcie.cfg = s.pcie.cfg := by
  unfold writeLayerWindow
  (repeat' (first | split | simp [foldl_keep, foldl_cfg])) <;> simp_all [foldl_keep, foldl_cfg]

@[simp] theorem issueFetch_keep (x0 : PhaseCtx) (x1 : Nat) (x2 : FetchKind) (s : State) (x4 : List Nat) :
    (issueFetch x0 x1 x2 s x4).pending = s.pending ∧ (issueFetch x0 x1 x2 s x4).mem = s.mem ∧ (issueFetch x0 x1 x2 s x4).hostMem = s.hostMem ∧ (issueFetch x0 x1 x2 s x4).otp = s.otp ∧ (issueFetch x0 x1 x2 s x4).pcie.cfg = s.pcie.cfg := by
  unfold issueFetch
  (repeat' (first | split | simp [foldl_keep, foldl_cfg])) <;> simp_all [foldl_keep, foldl_cfg]

@[simp] theorem policeAwning_keep (s : State) (x1 : Nat) (x2 : Nat) :
    (policeAwning s x1 x2).2.pending = s.pending ∧ (policeAwning s x1 x2).2.mem = s.mem ∧ (policeAwning s x1 x2).2.hostMem = s.hostMem ∧ (policeAwning s x1 x2).2.otp = s.otp ∧ (policeAwning s x1 x2).2.pcie.cfg = s.pcie.cfg := by
  unfold policeAwning
  (repeat' (first | split | simp [foldl_keep, foldl_cfg])) <;> simp_all [foldl_keep, foldl_cfg]

@[simp] theorem recordPlace_keep (s : State) (x1 : Place) :
    (recordPlace s x1).pending = s.pending ∧ (recordPlace s x1).mem = s.mem ∧ (recordPlace s x1).hostMem = s.hostMem ∧ (recordPlace s x1).otp = s.otp ∧ (recordPlace s x1).pcie.cfg = s.pcie.cfg := by
  unfold recordPlace
  (repeat' (first | split | simp [foldl_keep, foldl_cfg])) <;> simp_all [foldl_keep, foldl_cfg]

@[simp] theorem settlePlaces_keep (s : State) (x1 : ℤ) :
    (settlePlaces s x1).pending = s.pending ∧ (settlePlaces s x1).mem = s.mem ∧ (settlePlaces s x1).hostMem = s.hostMem ∧ (settlePlaces s x1).otp = s.otp ∧ (settlePlaces s x1).pcie.cfg = s.pcie.cfg := by
  unfold settlePlaces
  refine ⟨?_, ?_, ?_, ?_, ?_⟩
  · exact foldl_keep (fun s : State => s.pending) _ (fun s o => by split <;> simp) _ _
  · exact foldl_keep (fun s : State => s.mem) _ (fun s o => by split <;> simp) _ _
  · exact foldl_keep (fun s : State => s.hostMem) _ (fun s o => by split <;> simp) _ _
  · exact foldl_keep (fun s : State => s.otp) _ (fun s o => by split <;> simp) _ _
  · exact foldl_cfg _ (fun s o => by split <;> simp) _ _

@[simp] theorem judgePlace_keep (s : State) (x1 : Word) (x2 : Nat) (x3 : Place) :
    (judgePlace s x1 x2 x3).pending = s.pending ∧ (judgePlace s x1 x2 x3).mem = s.mem ∧ (judgePlace s x1 x2 x3).hostMem = s.hostMem ∧ (judgePlace s x1 x2 x3).otp = s.otp ∧ (judgePlace s x1 x2 x3).pcie.cfg = s.pcie.cfg := by
  unfold judgePlace
  (repeat' (first | split | simp [foldl_keep, foldl_cfg])) <;> simp_all [foldl_keep, foldl_cfg]

theorem execPlacementPacket_keep (x0 : Via) (x1 : Word) (x2 : Nat) (x3 : Nat) (x4 : List Byte) (s : State) :
    ∃ t, execPlacementPacket x0 x1 x2 x3 x4 s = .next t ∧ t.pending = s.pending ∧ t.mem = s.mem ∧ t.hostMem = s.hostMem ∧ t.otp = s.otp ∧ t.pcie.cfg = s.pcie.cfg := by
  unfold execPlacementPacket
  refine ⟨_, rfl, ?_⟩
  (repeat' (first | split | simp [foldl_keep, foldl_cfg, guarded_pending, indGuarded_pending, guarded_mem, indGuarded_mem, guarded_hostMem, indGuarded_hostMem, guarded_otp, indGuarded_otp, guarded_pcie_cfg, indGuarded_pcie_cfg])) <;> simp_all [foldl_keep, foldl_cfg, guarded_pending, indGuarded_pending, guarded_mem, indGuarded_mem, guarded_hostMem, indGuarded_hostMem, guarded_otp, indGuarded_otp, guarded_pcie_cfg, indGuarded_pcie_cfg]

@[simp] theorem setCur_keep (s : State) (x1 : Nat) (x2 : ℤ × ℤ × Nat × Nat) :
    (setCur s x1 x2).pending = s.pending ∧ (setCur s x1 x2).mem = s.mem ∧ (setCur s x1 x2).hostMem = s.hostMem ∧ (setCur s x1 x2).otp = s.otp ∧ (setCur s x1 x2).pcie.cfg = s.pcie.cfg := by
  unfold setCur
  (repeat' (first | split | simp [foldl_keep, foldl_cfg])) <;> simp_all [foldl_keep, foldl_cfg]

@[simp] theorem placeAwning_keep (s : State) (x1 : PhaseCtx) (x2 : Nat) (x3 : Nat) (x4 : ℤ × ℤ × Nat × Nat) :
    (placeAwning s x1 x2 x3 x4).pending = s.pending ∧ (placeAwning s x1 x2 x3 x4).mem = s.mem ∧ (placeAwning s x1 x2 x3 x4).hostMem = s.hostMem ∧ (placeAwning s x1 x2 x3 x4).otp = s.otp ∧ (placeAwning s x1 x2 x3 x4).pcie.cfg = s.pcie.cfg := by
  unfold placeAwning
  (repeat' (first | split | simp [foldl_keep, foldl_cfg])) <;> simp_all [foldl_keep, foldl_cfg]

@[simp] theorem latchAwning_keep (x0 : PhaseCtx) (x1 : Nat) (s : State) (x3 : Nat × Latched) :
    (latchAwning x0 x1 s x3).pending = s.pending ∧ (latchAwning x0 x1 s x3).mem = s.mem ∧ (latchAwning x0 x1 s x3).hostMem = s.hostMem ∧ (latchAwning x0 x1 s x3).otp = s.otp ∧ (latchAwning x0 x1 s x3).pcie.cfg = s.pcie.cfg := by
  unfold latchAwning
  (repeat' (first | split | simp [foldl_keep, foldl_cfg])) <;> simp_all [foldl_keep, foldl_cfg]

theorem execAwningGroupLatch_keep (x0 : Nat) (x1 : Nat) (x2 : Nat) (s : State) :
    ∃ t, execAwningGroupLatch x0 x1 x2 s = .next t ∧ t.pending = s.pending ∧ t.mem = s.mem ∧ t.hostMem = s.hostMem ∧ t.otp = s.otp ∧ t.pcie.cfg = s.pcie.cfg := by
  unfold execAwningGroupLatch
  refine ⟨_, rfl, ?_⟩
  (repeat' (first | split | simp [foldl_keep, foldl_cfg, guarded_pending, indGuarded_pending, guarded_mem, indGuarded_mem, guarded_hostMem, indGuarded_hostMem, guarded_otp, indGuarded_otp, guarded_pcie_cfg, indGuarded_pcie_cfg])) <;> simp_all [foldl_keep, foldl_cfg, guarded_pending, indGuarded_pending, guarded_mem, indGuarded_mem, guarded_hostMem, indGuarded_hostMem, guarded_otp, indGuarded_otp, guarded_pcie_cfg, indGuarded_pcie_cfg]

@[simp] theorem setStaged_keep (s : State) (x1 : SpanBank) :
    (setStaged s x1).pending = s.pending ∧ (setStaged s x1).mem = s.mem ∧ (setStaged s x1).hostMem = s.hostMem ∧ (setStaged s x1).otp = s.otp ∧ (setStaged s x1).pcie.cfg = s.pcie.cfg := by
  unfold setStaged
  (repeat' (first | split | simp [foldl_keep, foldl_cfg])) <;> simp_all [foldl_keep, foldl_cfg]

@[simp] theorem dropBuild_keep (s : State) :
    (dropBuild s).pending = s.pending ∧ (dropBuild s).mem = s.mem ∧ (dropBuild s).hostMem = s.hostMem ∧ (dropBuild s).otp = s.otp ∧ (dropBuild s).pcie.cfg = s.pcie.cfg := by
  unfold dropBuild
  (repeat' (first | split | simp [foldl_keep, foldl_cfg])) <;> simp_all [foldl_keep, foldl_cfg]

theorem execSpanBuildStart_keep (x0 : Nat) (x1 : Nat) (s : State) :
    ∃ t, execSpanBuildStart x0 x1 s = .next t ∧ t.pending = s.pending ∧ t.mem = s.mem ∧ t.hostMem = s.hostMem ∧ t.otp = s.otp ∧ t.pcie.cfg = s.pcie.cfg := by
  unfold execSpanBuildStart
  refine ⟨_, rfl, ?_⟩
  (repeat' (first | split | simp [foldl_keep, foldl_cfg, guarded_pending, indGuarded_pending, guarded_mem, indGuarded_mem, guarded_hostMem, indGuarded_hostMem, guarded_otp, indGuarded_otp, guarded_pcie_cfg, indGuarded_pcie_cfg])) <;> simp_all [foldl_keep, foldl_cfg, guarded_pending, indGuarded_pending, guarded_mem, indGuarded_mem, guarded_hostMem, indGuarded_hostMem, guarded_otp, indGuarded_otp, guarded_pcie_cfg, indGuarded_pcie_cfg]

theorem execSpanBuildDone_keep (x0 : Nat) (x1 : Nat) (x2 : Nat) (s : State) :
    ∃ t, execSpanBuildDone x0 x1 x2 s = .next t ∧ t.pending = s.pending ∧ t.mem = s.mem ∧ t.hostMem = s.hostMem ∧ t.otp = s.otp ∧ t.pcie.cfg = s.pcie.cfg := by
  unfold execSpanBuildDone
  refine ⟨_, rfl, ?_⟩
  (repeat' (first | split | simp [foldl_keep, foldl_cfg, guarded_pending, indGuarded_pending, guarded_mem, indGuarded_mem, guarded_hostMem, indGuarded_hostMem, guarded_otp, indGuarded_otp, guarded_pcie_cfg, indGuarded_pcie_cfg])) <;> simp_all [foldl_keep, foldl_cfg, guarded_pending, indGuarded_pending, guarded_mem, indGuarded_mem, guarded_hostMem, indGuarded_hostMem, guarded_otp, indGuarded_otp, guarded_pcie_cfg, indGuarded_pcie_cfg]

@[simp] theorem boundaryFlip_keep (s : State) (x1 : Nat) (x2 : ℤ) :
    (boundaryFlip s x1 x2).pending = s.pending ∧ (boundaryFlip s x1 x2).mem = s.mem ∧ (boundaryFlip s x1 x2).hostMem = s.hostMem ∧ (boundaryFlip s x1 x2).otp = s.otp ∧ (boundaryFlip s x1 x2).pcie.cfg = s.pcie.cfg := by
  unfold boundaryFlip
  (repeat' (first | split | simp [foldl_keep, foldl_cfg])) <;> simp_all [foldl_keep, foldl_cfg]

@[simp] theorem sweepStage_keep (s : State) (x1 : Nat) (x2 : Nat) :
    (sweepStage s x1 x2).pending = s.pending ∧ (sweepStage s x1 x2).mem = s.mem ∧ (sweepStage s x1 x2).hostMem = s.hostMem ∧ (sweepStage s x1 x2).otp = s.otp ∧ (sweepStage s x1 x2).pcie.cfg = s.pcie.cfg := by
  unfold sweepStage
  (repeat' (first | split | simp [foldl_keep, foldl_cfg])) <;> simp_all [foldl_keep, foldl_cfg]

@[simp] theorem boundary_keep (s : State) (x1 : PhaseCtx) :
    (boundary s x1).pending = s.pending ∧ (boundary s x1).mem = s.mem ∧ (boundary s x1).hostMem = s.hostMem ∧ (boundary s x1).otp = s.otp ∧ (boundary s x1).pcie.cfg = s.pcie.cfg := by
  unfold boundary
  (repeat' (first | split | simp [foldl_keep, foldl_cfg])) <;> simp_all [foldl_keep, foldl_cfg]

theorem execSpanSwap_keep (x0 : Nat) (x1 : Nat) (s : State) :
    ∃ t, execSpanSwap x0 x1 s = .next t ∧ t.pending = s.pending ∧ t.mem = s.mem ∧ t.hostMem = s.hostMem ∧ t.otp = s.otp ∧ t.pcie.cfg = s.pcie.cfg := by
  unfold execSpanSwap
  refine ⟨_, rfl, ?_⟩
  (repeat' (first | split | simp [foldl_keep, foldl_cfg, guarded_pending, indGuarded_pending, guarded_mem, indGuarded_mem, guarded_hostMem, indGuarded_hostMem, guarded_otp, indGuarded_otp, guarded_pcie_cfg, indGuarded_pcie_cfg])) <;> simp_all [foldl_keep, foldl_cfg, guarded_pending, indGuarded_pending, guarded_mem, indGuarded_mem, guarded_hostMem, indGuarded_hostMem, guarded_otp, indGuarded_otp, guarded_pcie_cfg, indGuarded_pcie_cfg]

@[simp] theorem releaseBand_keep (s : State) (x1 : PhaseCtx) (x2 : Nat) :
    (releaseBand s x1 x2).pending = s.pending ∧ (releaseBand s x1 x2).mem = s.mem ∧ (releaseBand s x1 x2).hostMem = s.hostMem ∧ (releaseBand s x1 x2).otp = s.otp ∧ (releaseBand s x1 x2).pcie.cfg = s.pcie.cfg := by
  unfold releaseBand
  (repeat' (first | split | simp [foldl_keep, foldl_cfg])) <;> simp_all [foldl_keep, foldl_cfg]

theorem execFetchRelease_keep (x0 : Nat) (x1 : Nat) (x2 : Nat) (s : State) :
    ∃ t, execFetchRelease x0 x1 x2 s = .next t ∧ t.pending = s.pending ∧ t.mem = s.mem ∧ t.hostMem = s.hostMem ∧ t.otp = s.otp ∧ t.pcie.cfg = s.pcie.cfg := by
  unfold execFetchRelease
  refine ⟨_, rfl, ?_⟩
  (repeat' (first | split | simp [foldl_keep, foldl_cfg, guarded_pending, indGuarded_pending, guarded_mem, indGuarded_mem, guarded_hostMem, indGuarded_hostMem, guarded_otp, indGuarded_otp, guarded_pcie_cfg, indGuarded_pcie_cfg])) <;> simp_all [foldl_keep, foldl_cfg, guarded_pending, indGuarded_pending, guarded_mem, indGuarded_mem, guarded_hostMem, indGuarded_hostMem, guarded_otp, indGuarded_otp, guarded_pcie_cfg, indGuarded_pcie_cfg]

theorem execFetchDataReturn_keep (x0 : Nat) (s : State) :
    ∃ t, execFetchDataReturn x0 s = .next t ∧ t.pending = s.pending ∧ t.mem = s.mem ∧ t.hostMem = s.hostMem ∧ t.otp = s.otp ∧ t.pcie.cfg = s.pcie.cfg := by
  unfold execFetchDataReturn
  refine ⟨_, rfl, ?_⟩
  (repeat' (first | split | simp [foldl_keep, foldl_cfg, guarded_pending, indGuarded_pending, guarded_mem, indGuarded_mem, guarded_hostMem, indGuarded_hostMem, guarded_otp, indGuarded_otp, guarded_pcie_cfg, indGuarded_pcie_cfg])) <;> simp_all [foldl_keep, foldl_cfg, guarded_pending, indGuarded_pending, guarded_mem, indGuarded_mem, guarded_hostMem, indGuarded_hostMem, guarded_otp, indGuarded_otp, guarded_pcie_cfg, indGuarded_pcie_cfg]

theorem execRecheckGo_keep (x0 : Agent) (x1 : Word) (s : State) :
    ∃ t, execRecheckGo x0 x1 s = .next t ∧ t.pending = s.pending ∧ t.mem = s.mem ∧ t.hostMem = s.hostMem ∧ t.otp = s.otp ∧ t.pcie.cfg = s.pcie.cfg := by
  unfold execRecheckGo
  refine ⟨_, rfl, ?_⟩
  (repeat' (first | split | simp [foldl_keep, foldl_cfg, guarded_pending, indGuarded_pending, guarded_mem, indGuarded_mem, guarded_hostMem, indGuarded_hostMem, guarded_otp, indGuarded_otp, guarded_pcie_cfg, indGuarded_pcie_cfg])) <;> simp_all [foldl_keep, foldl_cfg, guarded_pending, indGuarded_pending, guarded_mem, indGuarded_mem, guarded_hostMem, indGuarded_hostMem, guarded_otp, indGuarded_otp, guarded_pcie_cfg, indGuarded_pcie_cfg]

theorem execRecheckDone_keep (s : State) :
    ∃ t, execRecheckDone s = .next t ∧ t.pending = s.pending ∧ t.mem = s.mem ∧ t.hostMem = s.hostMem ∧ t.otp = s.otp ∧ t.pcie.cfg = s.pcie.cfg := by
  unfold execRecheckDone
  refine ⟨_, rfl, ?_⟩
  (repeat' (first | split | simp [foldl_keep, foldl_cfg, guarded_pending, indGuarded_pending, guarded_mem, indGuarded_mem, guarded_hostMem, indGuarded_hostMem, guarded_otp, indGuarded_otp, guarded_pcie_cfg, indGuarded_pcie_cfg])) <;> simp_all [foldl_keep, foldl_cfg, guarded_pending, indGuarded_pending, guarded_mem, indGuarded_mem, guarded_hostMem, indGuarded_hostMem, guarded_otp, indGuarded_otp, guarded_pcie_cfg, indGuarded_pcie_cfg]

@[simp] theorem setWin_keep (s : State) (x1 : Nat) (x2 : PcWin) :
    (setWin s x1 x2).pending = s.pending ∧ (setWin s x1 x2).mem = s.mem ∧ (setWin s x1 x2).hostMem = s.hostMem ∧ (setWin s x1 x2).otp = s.otp ∧ (setWin s x1 x2).pcie.cfg = s.pcie.cfg := by
  unfold setWin
  (repeat' (first | split | simp [foldl_keep, foldl_cfg])) <;> simp_all [foldl_keep, foldl_cfg]

@[simp] theorem newWindow_keep (s : State) (x1 : Nat) :
    (newWindow s x1).pending = s.pending ∧ (newWindow s x1).mem = s.mem ∧ (newWindow s x1).hostMem = s.hostMem ∧ (newWindow s x1).otp = s.otp ∧ (newWindow s x1).pcie.cfg = s.pcie.cfg := by
  unfold newWindow
  (repeat' (first | split | simp [foldl_keep, foldl_cfg])) <;> simp_all [foldl_keep, foldl_cfg]

theorem execArbitrationWindowEnd_keep (x0 : Nat) (s : State) :
    ∃ t, execArbitrationWindowEnd x0 s = .next t ∧ t.pending = s.pending ∧ t.mem = s.mem ∧ t.hostMem = s.hostMem ∧ t.otp = s.otp ∧ t.pcie.cfg = s.pcie.cfg := by
  unfold execArbitrationWindowEnd
  refine ⟨_, rfl, ?_⟩
  (repeat' (first | split | simp [foldl_keep, foldl_cfg, guarded_pending, indGuarded_pending, guarded_mem, indGuarded_mem, guarded_hostMem, indGuarded_hostMem, guarded_otp, indGuarded_otp, guarded_pcie_cfg, indGuarded_pcie_cfg])) <;> simp_all [foldl_keep, foldl_cfg, guarded_pending, indGuarded_pending, guarded_mem, indGuarded_mem, guarded_hostMem, indGuarded_hostMem, guarded_otp, indGuarded_otp, guarded_pcie_cfg, indGuarded_pcie_cfg]

@[simp] theorem grantDisplay_keep (s : State) (x1 : FetchReq) (x2 : Ecc) (x3 : Ecc) :
    (grantDisplay s x1 x2 x3).pending = s.pending ∧ (grantDisplay s x1 x2 x3).mem = s.mem ∧ (grantDisplay s x1 x2 x3).hostMem = s.hostMem ∧ (grantDisplay s x1 x2 x3).otp = s.otp ∧ (grantDisplay s x1 x2 x3).pcie.cfg = s.pcie.cfg := by
  unfold grantDisplay
  (repeat' (first | split | simp [foldl_keep, foldl_cfg])) <;> simp_all [foldl_keep, foldl_cfg]

@[simp] theorem writeCells_keep (s : State) (x1 : Nat) (x2 : List (Nat × Byte)) :
    (writeCells s x1 x2).pending = s.pending ∧ (writeCells s x1 x2).hostMem = s.hostMem ∧ (writeCells s x1 x2).otp = s.otp ∧ (writeCells s x1 x2).pcie.cfg = s.pcie.cfg := by
  unfold writeCells
  (repeat' (first | split | simp [foldl_keep, foldl_cfg])) <;> simp_all [foldl_keep, foldl_cfg]

@[simp] theorem frameWritten_keep (s : State) (x1 : IngWrite) :
    (frameWritten s x1).pending = s.pending ∧ (frameWritten s x1).mem = s.mem ∧ (frameWritten s x1).hostMem = s.hostMem ∧ (frameWritten s x1).otp = s.otp ∧ (frameWritten s x1).pcie.cfg = s.pcie.cfg := by
  unfold frameWritten
  (repeat' (first | split | simp [foldl_keep, foldl_cfg])) <;> simp_all [foldl_keep, foldl_cfg]

@[simp] theorem grantIngest_keep (s : State) (x1 : IngWrite) :
    (grantIngest s x1).pending = s.pending ∧ (grantIngest s x1).hostMem = s.hostMem ∧ (grantIngest s x1).otp = s.otp ∧ (grantIngest s x1).pcie.cfg = s.pcie.cfg := by
  unfold grantIngest
  (repeat' (first | split | simp [foldl_keep, foldl_cfg])) <;> simp_all [foldl_keep, foldl_cfg]

@[simp] theorem meetBest_keep (s : State) (x1 : Nat) (x2 : Ecc) :
    (meetBest s x1 x2).pending = s.pending ∧ (meetBest s x1 x2).mem = s.mem ∧ (meetBest s x1 x2).hostMem = s.hostMem ∧ (meetBest s x1 x2).otp = s.otp ∧ (meetBest s x1 x2).pcie.cfg = s.pcie.cfg := by
  unfold meetBest
  (repeat' (first | split | simp [foldl_keep, foldl_cfg])) <;> simp_all [foldl_keep, foldl_cfg]

@[simp] theorem grantBest_keep (s : State) (x1 : Nat) (x2 : Nat) (x3 : List BeReq) (x4 : Ecc) (x5 : Ecc) :
    (grantBest s x1 x2 x3 x4 x5).pending = s.pending ∧ (grantBest s x1 x2 x3 x4 x5).mem = s.mem ∧ (grantBest s x1 x2 x3 x4 x5).hostMem = s.hostMem ∧ (grantBest s x1 x2 x3 x4 x5).otp = s.otp ∧ (grantBest s x1 x2 x3 x4 x5).pcie.cfg = s.pcie.cfg := by
  unfold grantBest
  (repeat' (first | split | simp [foldl_keep, foldl_cfg])) <;> simp_all [foldl_keep, foldl_cfg]

@[simp] theorem noteWaits_keep (s : State) (x1 : Nat) (x2 : List BeReq) :
    (noteWaits s x1 x2).pending = s.pending ∧ (noteWaits s x1 x2).mem = s.mem ∧ (noteWaits s x1 x2).hostMem = s.hostMem ∧ (noteWaits s x1 x2).otp = s.otp ∧ (noteWaits s x1 x2).pcie.cfg = s.pcie.cfg := by
  unfold noteWaits
  (repeat' (first | split | simp [foldl_keep, foldl_cfg])) <;> simp_all [foldl_keep, foldl_cfg]

@[simp] theorem slotGrant_keep (s : State) (x1 : Nat) (x2 : List BeReq) (x3 : Ecc) (x4 : Ecc) :
    (slotGrant s x1 x2 x3 x4).pending = s.pending ∧ (slotGrant s x1 x2 x3 x4).hostMem = s.hostMem ∧ (slotGrant s x1 x2 x3 x4).otp = s.otp ∧ (slotGrant s x1 x2 x3 x4).pcie.cfg = s.pcie.cfg := by
  unfold slotGrant
  (repeat' (first | split | simp [foldl_keep, foldl_cfg])) <;> simp_all [foldl_keep, foldl_cfg]

theorem execFabricSlotGrant_keep (x0 : Nat) (x1 : List BeReq) (x2 : Ecc) (x3 : Ecc) (s : State) :
    ∃ t, execFabricSlotGrant x0 x1 x2 x3 s = .next t ∧ t.pending = s.pending ∧ t.hostMem = s.hostMem ∧ t.otp = s.otp ∧ t.pcie.cfg = s.pcie.cfg := by
  unfold execFabricSlotGrant
  refine ⟨_, rfl, ?_⟩
  (repeat' (first | split | simp [foldl_keep, foldl_cfg, guarded_pending, indGuarded_pending, guarded_mem, indGuarded_mem, guarded_hostMem, indGuarded_hostMem, guarded_otp, indGuarded_otp, guarded_pcie_cfg, indGuarded_pcie_cfg])) <;> simp_all [foldl_keep, foldl_cfg, guarded_pending, indGuarded_pending, guarded_mem, indGuarded_mem, guarded_hostMem, indGuarded_hostMem, guarded_otp, indGuarded_otp, guarded_pcie_cfg, indGuarded_pcie_cfg]

@[simp] theorem withdraw_keep (s : State) (x1 : Nat) (x2 : Nat) (x3 : Nat) :
    (withdraw s x1 x2 x3).pending = s.pending ∧ (withdraw s x1 x2 x3).mem = s.mem ∧ (withdraw s x1 x2 x3).hostMem = s.hostMem ∧ (withdraw s x1 x2 x3).otp = s.otp ∧ (withdraw s x1 x2 x3).pcie.cfg = s.pcie.cfg := by
  unfold withdraw
  (repeat' (first | split | simp [foldl_keep, foldl_cfg])) <;> simp_all [foldl_keep, foldl_cfg]

@[simp] theorem noteCopyFail_keep (s : State) (x1 : Nat) (x2 : Nat) (x3 : Bool) (x4 : Nat) :
    (noteCopyFail s x1 x2 x3 x4).pending = s.pending ∧ (noteCopyFail s x1 x2 x3 x4).mem = s.mem ∧ (noteCopyFail s x1 x2 x3 x4).hostMem = s.hostMem ∧ (noteCopyFail s x1 x2 x3 x4).otp = s.otp ∧ (noteCopyFail s x1 x2 x3 x4).pcie.cfg = s.pcie.cfg := ⟨(raiseE_pending _ _ _).trans ((wr_pending _ _ _).trans (bump_pending _ _)),
    (raiseE_mem _ _ _).trans ((wr_mem _ _ _).trans (bump_mem _ _)),
    (raiseE_hostMem _ _ _).trans ((wr_hostMem _ _ _).trans (bump_hostMem _ _)),
    (raiseE_otp _ _ _).trans ((wr_otp _ _ _).trans (bump_otp _ _)),
    (raiseE_pcie_cfg _ _ _).trans ((wr_pcie_cfg _ _ _).trans (bump_pcie_cfg _ _))⟩

@[simp] theorem holdCtx_keep (s : State) (x1 : Nat) (x2 : Nat) (x3 : Nat) (x4 : Option (List Byte)) :
    (holdCtx s x1 x2 x3 x4).pending = s.pending ∧ (holdCtx s x1 x2 x3 x4).mem = s.mem ∧ (holdCtx s x1 x2 x3 x4).hostMem = s.hostMem ∧ (holdCtx s x1 x2 x3 x4).otp = s.otp ∧ (holdCtx s x1 x2 x3 x4).pcie.cfg = s.pcie.cfg := by
  unfold holdCtx
  (repeat' (first | split | simp [foldl_keep, foldl_cfg])) <;> simp_all [foldl_keep, foldl_cfg]

@[simp] theorem judgeCtx_keep (x0 : PhaseCtx) (x1 : Nat) (x2 : FetchReq) (s : State) (x4 : Nat) :
    (judgeCtx x0 x1 x2 s x4).pending = s.pending ∧ (judgeCtx x0 x1 x2 s x4).mem = s.mem ∧ (judgeCtx x0 x1 x2 s x4).hostMem = s.hostMem ∧ (judgeCtx x0 x1 x2 s x4).otp = s.otp ∧ (judgeCtx x0 x1 x2 s x4).pcie.cfg = s.pcie.cfg := by
  unfold judgeCtx
  (repeat' (first | split | simp [foldl_keep, foldl_cfg])) <;> simp_all [foldl_keep, foldl_cfg]

@[simp] theorem reread_keep (x0 : PhaseCtx) (s : State) (x2 : FetchReq) :
    (reread x0 s x2).pending = s.pending ∧ (reread x0 s x2).mem = s.mem ∧ (reread x0 s x2).hostMem = s.hostMem ∧ (reread x0 s x2).otp = s.otp ∧ (reread x0 s x2).pcie.cfg = s.pcie.cfg := by
  unfold reread
  (repeat' (first | split | simp [foldl_keep, foldl_cfg])) <;> simp_all [foldl_keep, foldl_cfg]

@[simp] theorem judgeGranule_keep (s : State) (x1 : FetchReq) (x2 : Nat) :
    (judgeGranule s x1 x2).pending = s.pending ∧ (judgeGranule s x1 x2).mem = s.mem ∧ (judgeGranule s x1 x2).hostMem = s.hostMem ∧ (judgeGranule s x1 x2).otp = s.otp ∧ (judgeGranule s x1 x2).pcie.cfg = s.pcie.cfg := by
  unfold judgeGranule
  (repeat' (first | split | simp [foldl_keep, foldl_cfg])) <;> simp_all [foldl_keep, foldl_cfg]

theorem execContextGranuleReturn_keep (x0 : Nat) (s : State) :
    ∃ t, execContextGranuleReturn x0 s = .next t ∧ t.pending = s.pending ∧ t.mem = s.mem ∧ t.hostMem = s.hostMem ∧ t.otp = s.otp ∧ t.pcie.cfg = s.pcie.cfg := by
  unfold execContextGranuleReturn
  refine ⟨_, rfl, ?_⟩
  (repeat' (first | split | simp [foldl_keep, foldl_cfg, guarded_pending, indGuarded_pending, guarded_mem, indGuarded_mem, guarded_hostMem, indGuarded_hostMem, guarded_otp, indGuarded_otp, guarded_pcie_cfg, indGuarded_pcie_cfg])) <;> simp_all [foldl_keep, foldl_cfg, guarded_pending, indGuarded_pending, guarded_mem, indGuarded_mem, guarded_hostMem, indGuarded_hostMem, guarded_otp, indGuarded_otp, guarded_pcie_cfg, indGuarded_pcie_cfg]

@[simp] theorem writeCalCtrl_keep (s : State) (x1 : Word) :
    (writeCalCtrl s x1).pending = s.pending ∧ (writeCalCtrl s x1).mem = s.mem ∧ (writeCalCtrl s x1).hostMem = s.hostMem ∧ (writeCalCtrl s x1).otp = s.otp ∧ (writeCalCtrl s x1).pcie.cfg = s.pcie.cfg := by
  unfold writeCalCtrl
  (repeat' (first | split | simp [foldl_keep, foldl_cfg])) <;> simp_all [foldl_keep, foldl_cfg]

theorem execCalEnable_keep (x0 : Agent) (x1 : Word) (s : State) :
    ∃ t, execCalEnable x0 x1 s = .next t ∧ t.pending = s.pending ∧ t.mem = s.mem ∧ t.hostMem = s.hostMem ∧ t.otp = s.otp ∧ t.pcie.cfg = s.pcie.cfg := by
  unfold execCalEnable
  refine ⟨_, rfl, ?_⟩
  (repeat' (first | split | simp [foldl_keep, foldl_cfg, guarded_pending, indGuarded_pending, guarded_mem, indGuarded_mem, guarded_hostMem, indGuarded_hostMem, guarded_otp, indGuarded_otp, guarded_pcie_cfg, indGuarded_pcie_cfg])) <;> simp_all [foldl_keep, foldl_cfg, guarded_pending, indGuarded_pending, guarded_mem, indGuarded_mem, guarded_hostMem, indGuarded_hostMem, guarded_otp, indGuarded_otp, guarded_pcie_cfg, indGuarded_pcie_cfg]

@[simp] theorem goFlip_keep (s : State) :
    (goFlip s).pending = s.pending ∧ (goFlip s).mem = s.mem ∧ (goFlip s).hostMem = s.hostMem ∧ (goFlip s).otp = s.otp ∧ (goFlip s).pcie.cfg = s.pcie.cfg := by
  unfold goFlip
  (repeat' (first | split | simp [foldl_keep, foldl_cfg])) <;> simp_all [foldl_keep, foldl_cfg]

theorem execFlipGo_keep (x0 : Agent) (x1 : Word) (s : State) :
    ∃ t, execFlipGo x0 x1 s = .next t ∧ t.pending = s.pending ∧ t.mem = s.mem ∧ t.hostMem = s.hostMem ∧ t.otp = s.otp ∧ t.pcie.cfg = s.pcie.cfg := by
  unfold execFlipGo
  refine ⟨_, rfl, ?_⟩
  (repeat' (first | split | simp [foldl_keep, foldl_cfg, guarded_pending, indGuarded_pending, guarded_mem, indGuarded_mem, guarded_hostMem, indGuarded_hostMem, guarded_otp, indGuarded_otp, guarded_pcie_cfg, indGuarded_pcie_cfg])) <;> simp_all [foldl_keep, foldl_cfg, guarded_pending, indGuarded_pending, guarded_mem, indGuarded_mem, guarded_hostMem, indGuarded_hostMem, guarded_otp, indGuarded_otp, guarded_pcie_cfg, indGuarded_pcie_cfg]

@[simp] theorem scrubRead_keep (s : State) (x1 : Nat) (x2 : Nat) (x3 : Ecc) :
    (scrubRead s x1 x2 x3).1.pending = s.pending ∧ (scrubRead s x1 x2 x3).1.mem = s.mem ∧ (scrubRead s x1 x2 x3).1.hostMem = s.hostMem ∧ (scrubRead s x1 x2 x3).1.otp = s.otp ∧ (scrubRead s x1 x2 x3).1.pcie.cfg = s.pcie.cfg := by
  unfold scrubRead
  (repeat' (first | split | simp [foldl_keep, foldl_cfg])) <;> simp_all [foldl_keep, foldl_cfg]

theorem scrubRead_pending (s : State) (x1 : Nat) (x2 : Nat) (x3 : Ecc) : (scrubRead s x1 x2 x3).1.pending = s.pending := (scrubRead_keep s x1 x2 x3).1

theorem scrubRead_mem (s : State) (x1 : Nat) (x2 : Nat) (x3 : Ecc) : (scrubRead s x1 x2 x3).1.mem = s.mem := (scrubRead_keep s x1 x2 x3).2.1

theorem scrubRead_hostMem (s : State) (x1 : Nat) (x2 : Nat) (x3 : Ecc) : (scrubRead s x1 x2 x3).1.hostMem = s.hostMem := (scrubRead_keep s x1 x2 x3).2.2.1

theorem scrubRead_otp (s : State) (x1 : Nat) (x2 : Nat) (x3 : Ecc) : (scrubRead s x1 x2 x3).1.otp = s.otp := (scrubRead_keep s x1 x2 x3).2.2.2.1

theorem scrubRead_pcie_cfg (s : State) (x1 : Nat) (x2 : Nat) (x3 : Ecc) : (scrubRead s x1 x2 x3).1.pcie.cfg = s.pcie.cfg := (scrubRead_keep s x1 x2 x3).2.2.2.2

@[simp] theorem scrubWrite_keep (s : State) (x1 : Nat) (x2 : List Byte) :
    (scrubWrite s x1 x2).pending = s.pending ∧ (scrubWrite s x1 x2).hostMem = s.hostMem ∧ (scrubWrite s x1 x2).otp = s.otp ∧ (scrubWrite s x1 x2).pcie.cfg = s.pcie.cfg := by
  unfold scrubWrite
  (repeat' (first | split | simp [foldl_keep, foldl_cfg])) <;> simp_all [foldl_keep, foldl_cfg]

@[simp] theorem scrubSettle_keep (s : State) (x1 : Nat) (x2 : Nat) (x3 : List Byte) (x4 : List Byte) (x5 : Bool) (x6 : Bool) (x7 : Word) :
    (scrubSettle s x1 x2 x3 x4 x5 x6 x7).pending = s.pending ∧ (scrubSettle s x1 x2 x3 x4 x5 x6 x7).hostMem = s.hostMem ∧ (scrubSettle s x1 x2 x3 x4 x5 x6 x7).otp = s.otp ∧ (scrubSettle s x1 x2 x3 x4 x5 x6 x7).pcie.cfg = s.pcie.cfg := by
  unfold scrubSettle
  split
  · split <;> simp
  · simp
  · simp
  · exact ⟨(raiseE_pending _ _ _).trans ((wr_pending _ _ _).trans (bump_pending _ _)),
    (raiseE_hostMem _ _ _).trans ((wr_hostMem _ _ _).trans (bump_hostMem _ _)),
    (raiseE_otp _ _ _).trans ((wr_otp _ _ _).trans (bump_otp _ _)),
    (raiseE_pcie_cfg _ _ _).trans ((wr_pcie_cfg _ _ _).trans (bump_pcie_cfg _ _))⟩

theorem scrubSettle_pending (s : State) (x1 : Nat) (x2 : Nat) (x3 : List Byte) (x4 : List Byte) (x5 : Bool) (x6 : Bool) (x7 : Word) : (scrubSettle s x1 x2 x3 x4 x5 x6 x7).pending = s.pending := (scrubSettle_keep s x1 x2 x3 x4 x5 x6 x7).1

theorem scrubSettle_hostMem (s : State) (x1 : Nat) (x2 : Nat) (x3 : List Byte) (x4 : List Byte) (x5 : Bool) (x6 : Bool) (x7 : Word) : (scrubSettle s x1 x2 x3 x4 x5 x6 x7).hostMem = s.hostMem := (scrubSettle_keep s x1 x2 x3 x4 x5 x6 x7).2.1

theorem scrubSettle_otp (s : State) (x1 : Nat) (x2 : Nat) (x3 : List Byte) (x4 : List Byte) (x5 : Bool) (x6 : Bool) (x7 : Word) : (scrubSettle s x1 x2 x3 x4 x5 x6 x7).otp = s.otp := (scrubSettle_keep s x1 x2 x3 x4 x5 x6 x7).2.2.1

theorem scrubSettle_pcie_cfg (s : State) (x1 : Nat) (x2 : Nat) (x3 : List Byte) (x4 : List Byte) (x5 : Bool) (x6 : Bool) (x7 : Word) : (scrubSettle s x1 x2 x3 x4 x5 x6 x7).pcie.cfg = s.pcie.cfg := (scrubSettle_keep s x1 x2 x3 x4 x5 x6 x7).2.2.2

@[simp] theorem scrubNext_keep (s : State) (x1 : Option Nat) :
    (scrubNext s x1).pending = s.pending ∧ (scrubNext s x1).mem = s.mem ∧ (scrubNext s x1).hostMem = s.hostMem ∧ (scrubNext s x1).otp = s.otp ∧ (scrubNext s x1).pcie.cfg = s.pcie.cfg := by
  unfold scrubNext
  (repeat' (first | split | simp [foldl_keep, foldl_cfg])) <;> simp_all [foldl_keep, foldl_cfg]

theorem scrubNext_pending (s : State) (x1 : Option Nat) : (scrubNext s x1).pending = s.pending := (scrubNext_keep s x1).1

theorem scrubNext_mem (s : State) (x1 : Option Nat) : (scrubNext s x1).mem = s.mem := (scrubNext_keep s x1).2.1

theorem scrubNext_hostMem (s : State) (x1 : Option Nat) : (scrubNext s x1).hostMem = s.hostMem := (scrubNext_keep s x1).2.2.1

theorem scrubNext_otp (s : State) (x1 : Option Nat) : (scrubNext s x1).otp = s.otp := (scrubNext_keep s x1).2.2.2.1

theorem scrubNext_pcie_cfg (s : State) (x1 : Option Nat) : (scrubNext s x1).pcie.cfg = s.pcie.cfg := (scrubNext_keep s x1).2.2.2.2

@[simp] theorem scrubCell_keep (s : State) (x1 : Ecc) (x2 : Ecc) :
    (scrubCell s x1 x2).pending = s.pending ∧ (scrubCell s x1 x2).hostMem = s.hostMem ∧ (scrubCell s x1 x2).otp = s.otp ∧ (scrubCell s x1 x2).pcie.cfg = s.pcie.cfg := ⟨(scrubNext_pending _ _).trans ((scrubSettle_pending _ _ _ _ _ _ _ _).trans ((scrubRead_pending _ _ _ _).trans (scrubRead_pending _ _ _ _))),
    (scrubNext_hostMem _ _).trans ((scrubSettle_hostMem _ _ _ _ _ _ _ _).trans ((scrubRead_hostMem _ _ _ _).trans (scrubRead_hostMem _ _ _ _))),
    (scrubNext_otp _ _).trans ((scrubSettle_otp _ _ _ _ _ _ _ _).trans ((scrubRead_otp _ _ _ _).trans (scrubRead_otp _ _ _ _))),
    (scrubNext_pcie_cfg _ _).trans ((scrubSettle_pcie_cfg _ _ _ _ _ _ _ _).trans ((scrubRead_pcie_cfg _ _ _ _).trans (scrubRead_pcie_cfg _ _ _ _)))⟩

theorem execScrubCheck_keep (x0 : Ecc) (x1 : Ecc) (s : State) :
    ∃ t, execScrubCheck x0 x1 s = .next t ∧ t.pending = s.pending ∧ t.hostMem = s.hostMem ∧ t.otp = s.otp ∧ t.pcie.cfg = s.pcie.cfg := by
  unfold execScrubCheck
  refine ⟨_, rfl, ?_⟩
  (repeat' (first | split | simp [foldl_keep, foldl_cfg, guarded_pending, indGuarded_pending, guarded_mem, indGuarded_mem, guarded_hostMem, indGuarded_hostMem, guarded_otp, indGuarded_otp, guarded_pcie_cfg, indGuarded_pcie_cfg])) <;> simp_all [foldl_keep, foldl_cfg, guarded_pending, indGuarded_pending, guarded_mem, indGuarded_mem, guarded_hostMem, indGuarded_hostMem, guarded_otp, indGuarded_otp, guarded_pcie_cfg, indGuarded_pcie_cfg]

@[simp] theorem setTwnState_keep (s : State) (x1 : Nat) :
    (setTwnState s x1).pending = s.pending ∧ (setTwnState s x1).mem = s.mem ∧ (setTwnState s x1).hostMem = s.hostMem ∧ (setTwnState s x1).otp = s.otp ∧ (setTwnState s x1).pcie.cfg = s.pcie.cfg := by
  unfold setTwnState
  (repeat' (first | split | simp [foldl_keep, foldl_cfg])) <;> simp_all [foldl_keep, foldl_cfg]

@[simp] theorem forgetPair_keep (s : State) :
    (forgetPair s).pending = s.pending ∧ (forgetPair s).mem = s.mem ∧ (forgetPair s).hostMem = s.hostMem ∧ (forgetPair s).otp = s.otp ∧ (forgetPair s).pcie.cfg = s.pcie.cfg := by
  unfold forgetPair
  (repeat' (first | split | simp [foldl_keep, foldl_cfg])) <;> simp_all [foldl_keep, foldl_cfg]

@[simp] theorem goSolo_keep (s : State) :
    (goSolo s).pending = s.pending ∧ (goSolo s).mem = s.mem ∧ (goSolo s).hostMem = s.hostMem ∧ (goSolo s).otp = s.otp ∧ (goSolo s).pcie.cfg = s.pcie.cfg := by
  unfold goSolo
  (repeat' (first | split | simp [foldl_keep, foldl_cfg])) <;> simp_all [foldl_keep, foldl_cfg]

@[simp] theorem goJoining_keep (s : State) :
    (goJoining s).pending = s.pending ∧ (goJoining s).mem = s.mem ∧ (goJoining s).hostMem = s.hostMem ∧ (goJoining s).otp = s.otp ∧ (goJoining s).pcie.cfg = s.pcie.cfg := by
  unfold goJoining
  (repeat' (first | split | simp [foldl_keep, foldl_cfg])) <;> simp_all [foldl_keep, foldl_cfg]

@[simp] theorem setDiverge_keep (s : State) (x1 : Bool) :
    (setDiverge s x1).pending = s.pending ∧ (setDiverge s x1).mem = s.mem ∧ (setDiverge s x1).hostMem = s.hostMem ∧ (setDiverge s x1).otp = s.otp ∧ (setDiverge s x1).pcie.cfg = s.pcie.cfg := by
  unfold setDiverge
  (repeat' (first | split | simp [foldl_keep, foldl_cfg])) <;> simp_all [foldl_keep, foldl_cfg]

@[simp] theorem abandonMirrored_keep (s : State) :
    (abandonMirrored s).pending = s.pending ∧ (abandonMirrored s).mem = s.mem ∧ (abandonMirrored s).hostMem = s.hostMem ∧ (abandonMirrored s).otp = s.otp ∧ (abandonMirrored s).pcie.cfg = s.pcie.cfg := by
  unfold abandonMirrored
  (repeat' (first | split | simp [foldl_keep, foldl_cfg])) <;> simp_all [foldl_keep, foldl_cfg]

@[simp] theorem writeTwnCtrl_keep (s : State) (x1 : Word) :
    (writeTwnCtrl s x1).pending = s.pending ∧ (writeTwnCtrl s x1).mem = s.mem ∧ (writeTwnCtrl s x1).hostMem = s.hostMem ∧ (writeTwnCtrl s x1).otp = s.otp ∧ (writeTwnCtrl s x1).pcie.cfg = s.pcie.cfg := by
  unfold writeTwnCtrl
  (repeat' (first | split | simp [foldl_keep, foldl_cfg])) <;> simp_all [foldl_keep, foldl_cfg]

theorem execTwinEnable_keep (x0 : Agent) (x1 : Word) (s : State) :
    ∃ t, execTwinEnable x0 x1 s = .next t ∧ t.pending = s.pending ∧ t.mem = s.mem ∧ t.hostMem = s.hostMem ∧ t.otp = s.otp ∧ t.pcie.cfg = s.pcie.cfg := by
  unfold execTwinEnable
  refine ⟨_, rfl, ?_⟩
  (repeat' (first | split | simp [foldl_keep, foldl_cfg, guarded_pending, indGuarded_pending, guarded_mem, indGuarded_mem, guarded_hostMem, indGuarded_hostMem, guarded_otp, indGuarded_otp, guarded_pcie_cfg, indGuarded_pcie_cfg])) <;> simp_all [foldl_keep, foldl_cfg, guarded_pending, indGuarded_pending, guarded_mem, indGuarded_mem, guarded_hostMem, indGuarded_hostMem, guarded_otp, indGuarded_otp, guarded_pcie_cfg, indGuarded_pcie_cfg]

theorem execTwinDisable_keep (x0 : Agent) (x1 : Word) (s : State) :
    ∃ t, execTwinDisable x0 x1 s = .next t ∧ t.pending = s.pending ∧ t.mem = s.mem ∧ t.hostMem = s.hostMem ∧ t.otp = s.otp ∧ t.pcie.cfg = s.pcie.cfg := by
  unfold execTwinDisable
  refine ⟨_, rfl, ?_⟩
  (repeat' (first | split | simp [foldl_keep, foldl_cfg, guarded_pending, indGuarded_pending, guarded_mem, indGuarded_mem, guarded_hostMem, indGuarded_hostMem, guarded_otp, indGuarded_otp, guarded_pcie_cfg, indGuarded_pcie_cfg])) <;> simp_all [foldl_keep, foldl_cfg, guarded_pending, indGuarded_pending, guarded_mem, indGuarded_mem, guarded_hostMem, indGuarded_hostMem, guarded_otp, indGuarded_otp, guarded_pcie_cfg, indGuarded_pcie_cfg]

theorem execTwinLinkChange_keep (x0 : Nat) (x1 : Bool) (s : State) :
    ∃ t, execTwinLinkChange x0 x1 s = .next t ∧ t.pending = s.pending ∧ t.mem = s.mem ∧ t.hostMem = s.hostMem ∧ t.otp = s.otp ∧ t.pcie.cfg = s.pcie.cfg := by
  unfold execTwinLinkChange
  refine ⟨_, rfl, ?_⟩
  (repeat' (first | split | simp [foldl_keep, foldl_cfg, guarded_pending, indGuarded_pending, guarded_mem, indGuarded_mem, guarded_hostMem, indGuarded_hostMem, guarded_otp, indGuarded_otp, guarded_pcie_cfg, indGuarded_pcie_cfg])) <;> simp_all [foldl_keep, foldl_cfg, guarded_pending, indGuarded_pending, guarded_mem, indGuarded_mem, guarded_hostMem, indGuarded_hostMem, guarded_otp, indGuarded_otp, guarded_pcie_cfg, indGuarded_pcie_cfg]

@[simp] theorem judgePair_keep (s : State) (x1 : Nat) :
    (judgePair s x1).pending = s.pending ∧ (judgePair s x1).mem = s.mem ∧ (judgePair s x1).hostMem = s.hostMem ∧ (judgePair s x1).otp = s.otp ∧ (judgePair s x1).pcie.cfg = s.pcie.cfg := by
  unfold judgePair
  (repeat' (first | split | simp [foldl_keep, foldl_cfg])) <;> simp_all [foldl_keep, foldl_cfg]

@[simp] theorem meetPeer_keep (s : State) (x1 : Nat) :
    (meetPeer s x1).pending = s.pending ∧ (meetPeer s x1).mem = s.mem ∧ (meetPeer s x1).hostMem = s.hostMem ∧ (meetPeer s x1).otp = s.otp ∧ (meetPeer s x1).pcie.cfg = s.pcie.cfg := by
  unfold meetPeer
  (repeat' (first | split | simp [foldl_keep, foldl_cfg])) <;> simp_all [foldl_keep, foldl_cfg]

@[simp] theorem takeHealth_keep (s : State) (x1 : List Byte) :
    (takeHealth s x1).pending = s.pending ∧ (takeHealth s x1).mem = s.mem ∧ (takeHealth s x1).hostMem = s.hostMem ∧ (takeHealth s x1).otp = s.otp ∧ (takeHealth s x1).pcie.cfg = s.pcie.cfg := by
  unfold takeHealth
  (repeat' (first | split | simp [foldl_keep, foldl_cfg])) <;> simp_all [foldl_keep, foldl_cfg]

@[simp] theorem takeTime_keep (s : State) (x1 : List Byte) :
    (takeTime s x1).pending = s.pending ∧ (takeTime s x1).mem = s.mem ∧ (takeTime s x1).hostMem = s.hostMem ∧ (takeTime s x1).otp = s.otp ∧ (takeTime s x1).pcie.cfg = s.pcie.cfg := by
  unfold takeTime
  (repeat' (first | split | simp [foldl_keep, foldl_cfg])) <;> simp_all [foldl_keep, foldl_cfg]

@[simp] theorem useRecord_keep (s : State) (x1 : List Byte) :
    (useRecord s x1).pending = s.pending ∧ (useRecord s x1).mem = s.mem ∧ (useRecord s x1).hostMem = s.hostMem ∧ (useRecord s x1).otp = s.otp ∧ (useRecord s x1).pcie.cfg = s.pcie.cfg := by
  unfold useRecord
  (repeat' (first | split | simp [foldl_keep, foldl_cfg])) <;> simp_all [foldl_keep, foldl_cfg]

@[simp] theorem noteRecord_keep (s : State) (x1 : List Byte) :
    (noteRecord s x1).pending = s.pending ∧ (noteRecord s x1).mem = s.mem ∧ (noteRecord s x1).hostMem = s.hostMem ∧ (noteRecord s x1).otp = s.otp ∧ (noteRecord s x1).pcie.cfg = s.pcie.cfg := by
  unfold noteRecord
  (repeat' (first | split | simp [foldl_keep, foldl_cfg])) <;> simp_all [foldl_keep, foldl_cfg]

@[simp] theorem receiveRecord_keep (x0 : Nat) (x1 : List Byte) (s : State) :
    (receiveRecord x0 x1 s).pending = s.pending ∧ (receiveRecord x0 x1 s).mem = s.mem ∧ (receiveRecord x0 x1 s).hostMem = s.hostMem ∧ (receiveRecord x0 x1 s).otp = s.otp ∧ (receiveRecord x0 x1 s).pcie.cfg = s.pcie.cfg := by
  unfold receiveRecord
  (repeat' (first | split | simp [foldl_keep, foldl_cfg])) <;> simp_all [foldl_keep, foldl_cfg]

@[simp] theorem typedRecord_keep (x0 : Nat) (x1 : Nat) (x2 : List Byte) (s : State) :
    (typedRecord x0 x1 x2 s).pending = s.pending ∧ (typedRecord x0 x1 x2 s).mem = s.mem ∧ (typedRecord x0 x1 x2 s).hostMem = s.hostMem ∧ (typedRecord x0 x1 x2 s).otp = s.otp ∧ (typedRecord x0 x1 x2 s).pcie.cfg = s.pcie.cfg := by
  unfold typedRecord
  (repeat' (first | split | simp [foldl_keep, foldl_cfg])) <;> simp_all [foldl_keep, foldl_cfg]

theorem execHealthRecord_keep (x0 : Nat) (x1 : List Byte) (s : State) :
    ∃ t, execHealthRecord x0 x1 s = .next t ∧ t.pending = s.pending ∧ t.mem = s.mem ∧ t.hostMem = s.hostMem ∧ t.otp = s.otp ∧ t.pcie.cfg = s.pcie.cfg := by
  unfold execHealthRecord
  refine ⟨_, rfl, ?_⟩
  (repeat' (first | split | simp [foldl_keep, foldl_cfg, guarded_pending, indGuarded_pending, guarded_mem, indGuarded_mem, guarded_hostMem, indGuarded_hostMem, guarded_otp, indGuarded_otp, guarded_pcie_cfg, indGuarded_pcie_cfg])) <;> simp_all [foldl_keep, foldl_cfg, guarded_pending, indGuarded_pending, guarded_mem, indGuarded_mem, guarded_hostMem, indGuarded_hostMem, guarded_otp, indGuarded_otp, guarded_pcie_cfg, indGuarded_pcie_cfg]

theorem execTimeRecord_keep (x0 : Nat) (x1 : List Byte) (s : State) :
    ∃ t, execTimeRecord x0 x1 s = .next t ∧ t.pending = s.pending ∧ t.mem = s.mem ∧ t.hostMem = s.hostMem ∧ t.otp = s.otp ∧ t.pcie.cfg = s.pcie.cfg := by
  unfold execTimeRecord
  refine ⟨_, rfl, ?_⟩
  (repeat' (first | split | simp [foldl_keep, foldl_cfg, guarded_pending, indGuarded_pending, guarded_mem, indGuarded_mem, guarded_hostMem, indGuarded_hostMem, guarded_otp, indGuarded_otp, guarded_pcie_cfg, indGuarded_pcie_cfg])) <;> simp_all [foldl_keep, foldl_cfg, guarded_pending, indGuarded_pending, guarded_mem, indGuarded_mem, guarded_hostMem, indGuarded_hostMem, guarded_otp, indGuarded_otp, guarded_pcie_cfg, indGuarded_pcie_cfg]

theorem execCommitRecord_keep (x0 : Nat) (x1 : List Byte) (s : State) :
    ∃ t, execCommitRecord x0 x1 s = .next t ∧ t.pending = s.pending ∧ t.mem = s.mem ∧ t.hostMem = s.hostMem ∧ t.otp = s.otp ∧ t.pcie.cfg = s.pcie.cfg := by
  unfold execCommitRecord
  refine ⟨_, rfl, ?_⟩
  (repeat' (first | split | simp [foldl_keep, foldl_cfg, guarded_pending, indGuarded_pending, guarded_mem, indGuarded_mem, guarded_hostMem, indGuarded_hostMem, guarded_otp, indGuarded_otp, guarded_pcie_cfg, indGuarded_pcie_cfg])) <;> simp_all [foldl_keep, foldl_cfg, guarded_pending, indGuarded_pending, guarded_mem, indGuarded_mem, guarded_hostMem, indGuarded_hostMem, guarded_otp, indGuarded_otp, guarded_pcie_cfg, indGuarded_pcie_cfg]

theorem execCancelRecord_keep (x0 : Nat) (x1 : List Byte) (s : State) :
    ∃ t, execCancelRecord x0 x1 s = .next t ∧ t.pending = s.pending ∧ t.mem = s.mem ∧ t.hostMem = s.hostMem ∧ t.otp = s.otp ∧ t.pcie.cfg = s.pcie.cfg := by
  unfold execCancelRecord
  refine ⟨_, rfl, ?_⟩
  (repeat' (first | split | simp [foldl_keep, foldl_cfg, guarded_pending, indGuarded_pending, guarded_mem, indGuarded_mem, guarded_hostMem, indGuarded_hostMem, guarded_otp, indGuarded_otp, guarded_pcie_cfg, indGuarded_pcie_cfg])) <;> simp_all [foldl_keep, foldl_cfg, guarded_pending, indGuarded_pending, guarded_mem, indGuarded_mem, guarded_hostMem, indGuarded_hostMem, guarded_otp, indGuarded_otp, guarded_pcie_cfg, indGuarded_pcie_cfg]

theorem execDigestRecord_keep (x0 : Nat) (x1 : List Byte) (s : State) :
    ∃ t, execDigestRecord x0 x1 s = .next t ∧ t.pending = s.pending ∧ t.mem = s.mem ∧ t.hostMem = s.hostMem ∧ t.otp = s.otp ∧ t.pcie.cfg = s.pcie.cfg := by
  unfold execDigestRecord
  refine ⟨_, rfl, ?_⟩
  (repeat' (first | split | simp [foldl_keep, foldl_cfg, guarded_pending, indGuarded_pending, guarded_mem, indGuarded_mem, guarded_hostMem, indGuarded_hostMem, guarded_otp, indGuarded_otp, guarded_pcie_cfg, indGuarded_pcie_cfg])) <;> simp_all [foldl_keep, foldl_cfg, guarded_pending, indGuarded_pending, guarded_mem, indGuarded_mem, guarded_hostMem, indGuarded_hostMem, guarded_otp, indGuarded_otp, guarded_pcie_cfg, indGuarded_pcie_cfg]

theorem execFlipRecord_keep (x0 : Nat) (x1 : List Byte) (s : State) :
    ∃ t, execFlipRecord x0 x1 s = .next t ∧ t.pending = s.pending ∧ t.mem = s.mem ∧ t.hostMem = s.hostMem ∧ t.otp = s.otp ∧ t.pcie.cfg = s.pcie.cfg := by
  unfold execFlipRecord
  refine ⟨_, rfl, ?_⟩
  (repeat' (first | split | simp [foldl_keep, foldl_cfg, guarded_pending, indGuarded_pending, guarded_mem, indGuarded_mem, guarded_hostMem, indGuarded_hostMem, guarded_otp, indGuarded_otp, guarded_pcie_cfg, indGuarded_pcie_cfg])) <;> simp_all [foldl_keep, foldl_cfg, guarded_pending, indGuarded_pending, guarded_mem, indGuarded_mem, guarded_hostMem, indGuarded_hostMem, guarded_otp, indGuarded_otp, guarded_pcie_cfg, indGuarded_pcie_cfg]

theorem execPlaceRecord_keep (x0 : Nat) (x1 : List Byte) (s : State) :
    ∃ t, execPlaceRecord x0 x1 s = .next t ∧ t.pending = s.pending ∧ t.mem = s.mem ∧ t.hostMem = s.hostMem ∧ t.otp = s.otp ∧ t.pcie.cfg = s.pcie.cfg := by
  unfold execPlaceRecord
  refine ⟨_, rfl, ?_⟩
  (repeat' (first | split | simp [foldl_keep, foldl_cfg, guarded_pending, indGuarded_pending, guarded_mem, indGuarded_mem, guarded_hostMem, indGuarded_hostMem, guarded_otp, indGuarded_otp, guarded_pcie_cfg, indGuarded_pcie_cfg])) <;> simp_all [foldl_keep, foldl_cfg, guarded_pending, indGuarded_pending, guarded_mem, indGuarded_mem, guarded_hostMem, indGuarded_hostMem, guarded_otp, indGuarded_otp, guarded_pcie_cfg, indGuarded_pcie_cfg]

theorem execFenceRecord_keep (x0 : Nat) (x1 : List Byte) (s : State) :
    ∃ t, execFenceRecord x0 x1 s = .next t ∧ t.pending = s.pending ∧ t.mem = s.mem ∧ t.hostMem = s.hostMem ∧ t.otp = s.otp ∧ t.pcie.cfg = s.pcie.cfg := by
  unfold execFenceRecord
  refine ⟨_, rfl, ?_⟩
  (repeat' (first | split | simp [foldl_keep, foldl_cfg, guarded_pending, indGuarded_pending, guarded_mem, indGuarded_mem, guarded_hostMem, indGuarded_hostMem, guarded_otp, indGuarded_otp, guarded_pcie_cfg, indGuarded_pcie_cfg])) <;> simp_all [foldl_keep, foldl_cfg, guarded_pending, indGuarded_pending, guarded_mem, indGuarded_mem, guarded_hostMem, indGuarded_hostMem, guarded_otp, indGuarded_otp, guarded_pcie_cfg, indGuarded_pcie_cfg]

theorem execMalformedRecord_keep (x0 : Nat) (x1 : List Byte) (s : State) :
    ∃ t, execMalformedRecord x0 x1 s = .next t ∧ t.pending = s.pending ∧ t.mem = s.mem ∧ t.hostMem = s.hostMem ∧ t.otp = s.otp ∧ t.pcie.cfg = s.pcie.cfg := by
  unfold execMalformedRecord
  refine ⟨_, rfl, ?_⟩
  (repeat' (first | split | simp [foldl_keep, foldl_cfg, guarded_pending, indGuarded_pending, guarded_mem, indGuarded_mem, guarded_hostMem, indGuarded_hostMem, guarded_otp, indGuarded_otp, guarded_pcie_cfg, indGuarded_pcie_cfg])) <;> simp_all [foldl_keep, foldl_cfg, guarded_pending, indGuarded_pending, guarded_mem, indGuarded_mem, guarded_hostMem, indGuarded_hostMem, guarded_otp, indGuarded_otp, guarded_pcie_cfg, indGuarded_pcie_cfg]

theorem execDigestSend_keep (s : State) :
    ∃ t, execDigestSend s = .next t ∧ t.pending = s.pending ∧ t.mem = s.mem ∧ t.hostMem = s.hostMem ∧ t.otp = s.otp ∧ t.pcie.cfg = s.pcie.cfg := by
  unfold execDigestSend
  refine ⟨_, rfl, ?_⟩
  (repeat' (first | split | simp [foldl_keep, foldl_cfg, guarded_pending, indGuarded_pending, guarded_mem, indGuarded_mem, guarded_hostMem, indGuarded_hostMem, guarded_otp, indGuarded_otp, guarded_pcie_cfg, indGuarded_pcie_cfg])) <;> simp_all [foldl_keep, foldl_cfg, guarded_pending, indGuarded_pending, guarded_mem, indGuarded_mem, guarded_hostMem, indGuarded_hostMem, guarded_otp, indGuarded_otp, guarded_pcie_cfg, indGuarded_pcie_cfg]

@[simp] theorem compareDigest_keep (s : State) (x1 : MirPend) (x2 : Word) (x3 : Word) :
    (compareDigest s x1 x2 x3).pending = s.pending ∧ (compareDigest s x1 x2 x3).mem = s.mem ∧ (compareDigest s x1 x2 x3).hostMem = s.hostMem ∧ (compareDigest s x1 x2 x3).otp = s.otp ∧ (compareDigest s x1 x2 x3).pcie.cfg = s.pcie.cfg := by
  unfold compareDigest
  (repeat' (first | split | simp [foldl_keep, foldl_cfg])) <;> simp_all [foldl_keep, foldl_cfg]

theorem execDigestCompare_keep (s : State) :
    ∃ t, execDigestCompare s = .next t ∧ t.pending = s.pending ∧ t.mem = s.mem ∧ t.hostMem = s.hostMem ∧ t.otp = s.otp ∧ t.pcie.cfg = s.pcie.cfg := by
  unfold execDigestCompare
  refine ⟨_, rfl, ?_⟩
  (repeat' (first | split | simp [foldl_keep, foldl_cfg, guarded_pending, indGuarded_pending, guarded_mem, indGuarded_mem, guarded_hostMem, indGuarded_hostMem, guarded_otp, indGuarded_otp, guarded_pcie_cfg, indGuarded_pcie_cfg])) <;> simp_all [foldl_keep, foldl_cfg, guarded_pending, indGuarded_pending, guarded_mem, indGuarded_mem, guarded_hostMem, indGuarded_hostMem, guarded_otp, indGuarded_otp, guarded_pcie_cfg, indGuarded_pcie_cfg]

theorem execMirroredCancelApply_keep (s : State) :
    ∃ t, execMirroredCancelApply s = .next t ∧ t.pending = s.pending ∧ t.mem = s.mem ∧ t.hostMem = s.hostMem ∧ t.otp = s.otp ∧ t.pcie.cfg = s.pcie.cfg := by
  unfold execMirroredCancelApply
  refine ⟨_, rfl, ?_⟩
  (repeat' (first | split | simp [foldl_keep, foldl_cfg, guarded_pending, indGuarded_pending, guarded_mem, indGuarded_mem, guarded_hostMem, indGuarded_hostMem, guarded_otp, indGuarded_otp, guarded_pcie_cfg, indGuarded_pcie_cfg])) <;> simp_all [foldl_keep, foldl_cfg, guarded_pending, indGuarded_pending, guarded_mem, indGuarded_mem, guarded_hostMem, indGuarded_hostMem, guarded_otp, indGuarded_otp, guarded_pcie_cfg, indGuarded_pcie_cfg]

theorem execPlaceApply_keep (s : State) :
    ∃ t, execPlaceApply s = .next t ∧ t.pending = s.pending ∧ t.mem = s.mem ∧ t.hostMem = s.hostMem ∧ t.otp = s.otp ∧ t.pcie.cfg = s.pcie.cfg := by
  unfold execPlaceApply
  refine ⟨_, rfl, ?_⟩
  (repeat' (first | split | simp [foldl_keep, foldl_cfg, guarded_pending, indGuarded_pending, guarded_mem, indGuarded_mem, guarded_hostMem, indGuarded_hostMem, guarded_otp, indGuarded_otp, guarded_pcie_cfg, indGuarded_pcie_cfg])) <;> simp_all [foldl_keep, foldl_cfg, guarded_pending, indGuarded_pending, guarded_mem, indGuarded_mem, guarded_hostMem, indGuarded_hostMem, guarded_otp, indGuarded_otp, guarded_pcie_cfg, indGuarded_pcie_cfg]

theorem execFencePairReady_keep (s : State) :
    ∃ t, execFencePairReady s = .next t ∧ t.pending = s.pending ∧ t.mem = s.mem ∧ t.hostMem = s.hostMem ∧ t.otp = s.otp ∧ t.pcie.cfg = s.pcie.cfg := by
  unfold execFencePairReady
  refine ⟨_, rfl, ?_⟩
  (repeat' (first | split | simp [foldl_keep, foldl_cfg, guarded_pending, indGuarded_pending, guarded_mem, indGuarded_mem, guarded_hostMem, indGuarded_hostMem, guarded_otp, indGuarded_otp, guarded_pcie_cfg, indGuarded_pcie_cfg])) <;> simp_all [foldl_keep, foldl_cfg, guarded_pending, indGuarded_pending, guarded_mem, indGuarded_mem, guarded_hostMem, indGuarded_hostMem, guarded_otp, indGuarded_otp, guarded_pcie_cfg, indGuarded_pcie_cfg]

@[simp] theorem sendHealth_keep (s : State) (x1 : PhaseCtx) :
    (sendHealth s x1).pending = s.pending ∧ (sendHealth s x1).mem = s.mem ∧ (sendHealth s x1).hostMem = s.hostMem ∧ (sendHealth s x1).otp = s.otp ∧ (sendHealth s x1).pcie.cfg = s.pcie.cfg := by
  unfold sendHealth
  (repeat' (first | split | simp [foldl_keep, foldl_cfg])) <;> simp_all [foldl_keep, foldl_cfg]

theorem execHealthSend_keep (x0 : Nat) (x1 : Nat) (s : State) :
    ∃ t, execHealthSend x0 x1 s = .next t ∧ t.pending = s.pending ∧ t.mem = s.mem ∧ t.hostMem = s.hostMem ∧ t.otp = s.otp ∧ t.pcie.cfg = s.pcie.cfg := by
  unfold execHealthSend
  refine ⟨_, rfl, ?_⟩
  (repeat' (first | split | simp [foldl_keep, foldl_cfg, guarded_pending, indGuarded_pending, guarded_mem, indGuarded_mem, guarded_hostMem, indGuarded_hostMem, guarded_otp, indGuarded_otp, guarded_pcie_cfg, indGuarded_pcie_cfg])) <;> simp_all [foldl_keep, foldl_cfg, guarded_pending, indGuarded_pending, guarded_mem, indGuarded_mem, guarded_hostMem, indGuarded_hostMem, guarded_otp, indGuarded_otp, guarded_pcie_cfg, indGuarded_pcie_cfg]

theorem execTwinTimeSend_keep (s : State) :
    ∃ t, execTwinTimeSend s = .next t ∧ t.pending = s.pending ∧ t.mem = s.mem ∧ t.hostMem = s.hostMem ∧ t.otp = s.otp ∧ t.pcie.cfg = s.pcie.cfg := by
  unfold execTwinTimeSend
  refine ⟨_, rfl, ?_⟩
  (repeat' (first | split | simp [foldl_keep, foldl_cfg, guarded_pending, indGuarded_pending, guarded_mem, indGuarded_mem, guarded_hostMem, indGuarded_hostMem, guarded_otp, indGuarded_otp, guarded_pcie_cfg, indGuarded_pcie_cfg])) <;> simp_all [foldl_keep, foldl_cfg, guarded_pending, indGuarded_pending, guarded_mem, indGuarded_mem, guarded_hostMem, indGuarded_hostMem, guarded_otp, indGuarded_otp, guarded_pcie_cfg, indGuarded_pcie_cfg]

theorem execPeerLoss_keep (s : State) :
    ∃ t, execPeerLoss s = .next t ∧ t.pending = s.pending ∧ t.mem = s.mem ∧ t.hostMem = s.hostMem ∧ t.otp = s.otp ∧ t.pcie.cfg = s.pcie.cfg := by
  unfold execPeerLoss
  refine ⟨_, rfl, ?_⟩
  (repeat' (first | split | simp [foldl_keep, foldl_cfg, guarded_pending, indGuarded_pending, guarded_mem, indGuarded_mem, guarded_hostMem, indGuarded_hostMem, guarded_otp, indGuarded_otp, guarded_pcie_cfg, indGuarded_pcie_cfg])) <;> simp_all [foldl_keep, foldl_cfg, guarded_pending, indGuarded_pending, guarded_mem, indGuarded_mem, guarded_hostMem, indGuarded_hostMem, guarded_otp, indGuarded_otp, guarded_pcie_cfg, indGuarded_pcie_cfg]

theorem execSearchTimeout_keep (s : State) :
    ∃ t, execSearchTimeout s = .next t ∧ t.pending = s.pending ∧ t.mem = s.mem ∧ t.hostMem = s.hostMem ∧ t.otp = s.otp ∧ t.pcie.cfg = s.pcie.cfg := by
  unfold execSearchTimeout
  refine ⟨_, rfl, ?_⟩
  (repeat' (first | split | simp [foldl_keep, foldl_cfg, guarded_pending, indGuarded_pending, guarded_mem, indGuarded_mem, guarded_hostMem, indGuarded_hostMem, guarded_otp, indGuarded_otp, guarded_pcie_cfg, indGuarded_pcie_cfg])) <;> simp_all [foldl_keep, foldl_cfg, guarded_pending, indGuarded_pending, guarded_mem, indGuarded_mem, guarded_hostMem, indGuarded_hostMem, guarded_otp, indGuarded_otp, guarded_pcie_cfg, indGuarded_pcie_cfg]

theorem execJoin_keep (s : State) :
    ∃ t, execJoin s = .next t ∧ t.pending = s.pending ∧ t.mem = s.mem ∧ t.hostMem = s.hostMem ∧ t.otp = s.otp ∧ t.pcie.cfg = s.pcie.cfg := by
  unfold execJoin
  refine ⟨_, rfl, ?_⟩
  (repeat' (first | split | simp [foldl_keep, foldl_cfg, guarded_pending, indGuarded_pending, guarded_mem, indGuarded_mem, guarded_hostMem, indGuarded_hostMem, guarded_otp, indGuarded_otp, guarded_pcie_cfg, indGuarded_pcie_cfg])) <;> simp_all [foldl_keep, foldl_cfg, guarded_pending, indGuarded_pending, guarded_mem, indGuarded_mem, guarded_hostMem, indGuarded_hostMem, guarded_otp, indGuarded_otp, guarded_pcie_cfg, indGuarded_pcie_cfg]

theorem execPhaseYield_keep (x0 : Nat) (x1 : Nat) (s : State) :
    ∃ t, execPhaseYield x0 x1 s = .next t ∧ t.pending = s.pending ∧ t.mem = s.mem ∧ t.hostMem = s.hostMem ∧ t.otp = s.otp ∧ t.pcie.cfg = s.pcie.cfg := by
  unfold execPhaseYield
  refine ⟨_, rfl, ?_⟩
  (repeat' (first | split | simp [foldl_keep, foldl_cfg, guarded_pending, indGuarded_pending, guarded_mem, indGuarded_mem, guarded_hostMem, indGuarded_hostMem, guarded_otp, indGuarded_otp, guarded_pcie_cfg, indGuarded_pcie_cfg])) <;> simp_all [foldl_keep, foldl_cfg, guarded_pending, indGuarded_pending, guarded_mem, indGuarded_mem, guarded_hostMem, indGuarded_hostMem, guarded_otp, indGuarded_otp, guarded_pcie_cfg, indGuarded_pcie_cfg]

@[simp] theorem setSlot_keep (s : State) (x1 : BandSlot) :
    (setSlot s x1).pending = s.pending ∧ (setSlot s x1).mem = s.mem ∧ (setSlot s x1).hostMem = s.hostMem ∧ (setSlot s x1).otp = s.otp ∧ (setSlot s x1).pcie.cfg = s.pcie.cfg := by
  unfold setSlot
  (repeat' (first | split | simp [foldl_keep, foldl_cfg])) <;> simp_all [foldl_keep, foldl_cfg]

@[simp] theorem newSlot_keep (s : State) (x1 : PhaseCtx) (x2 : Nat) :
    (newSlot s x1 x2).2.pending = s.pending ∧ (newSlot s x1 x2).2.mem = s.mem ∧ (newSlot s x1 x2).2.hostMem = s.hostMem ∧ (newSlot s x1 x2).2.otp = s.otp ∧ (newSlot s x1 x2).2.pcie.cfg = s.pcie.cfg := by
  unfold newSlot
  (repeat' (first | split | simp [foldl_keep, foldl_cfg])) <;> simp_all [foldl_keep, foldl_cfg]

@[simp] theorem finalise_keep (s : State) (x1 : PhaseCtx) (x2 : BandSlot) :
    (finalise s x1 x2).pending = s.pending ∧ (finalise s x1 x2).mem = s.mem ∧ (finalise s x1 x2).hostMem = s.hostMem ∧ (finalise s x1 x2).otp = s.otp ∧ (finalise s x1 x2).pcie.cfg = s.pcie.cfg := by
  unfold finalise
  (repeat' (first | split | simp [foldl_keep, foldl_cfg])) <;> simp_all [foldl_keep, foldl_cfg]

@[simp] theorem showScaler_keep (x0 : PhaseCtx) (x1 : Nat) (s : State) (x3 : Nat) :
    (showScaler x0 x1 s x3).pending = s.pending ∧ (showScaler x0 x1 s x3).mem = s.mem ∧ (showScaler x0 x1 s x3).hostMem = s.hostMem ∧ (showScaler x0 x1 s x3).otp = s.otp ∧ (showScaler x0 x1 s x3).pcie.cfg = s.pcie.cfg := by
  unfold showScaler
  (repeat' (first | split | simp [foldl_keep, foldl_cfg])) <;> simp_all [foldl_keep, foldl_cfg]

@[simp] theorem showPool_keep (s : State) (x1 : PhaseCtx) (x2 : Nat) :
    (showPool s x1 x2).pending = s.pending ∧ (showPool s x1 x2).mem = s.mem ∧ (showPool s x1 x2).hostMem = s.hostMem ∧ (showPool s x1 x2).otp = s.otp ∧ (showPool s x1 x2).pcie.cfg = s.pcie.cfg := by
  unfold showPool
  (repeat' (first | split | simp [foldl_keep, foldl_cfg])) <;> simp_all [foldl_keep, foldl_cfg]

@[simp] theorem enterSlot_keep (s : State) (x1 : PhaseCtx) (x2 : BandSlot) :
    (enterSlot s x1 x2).pending = s.pending ∧ (enterSlot s x1 x2).mem = s.mem ∧ (enterSlot s x1 x2).hostMem = s.hostMem ∧ (enterSlot s x1 x2).otp = s.otp ∧ (enterSlot s x1 x2).pcie.cfg = s.pcie.cfg := by
  unfold enterSlot
  (repeat' (first | split | simp [foldl_keep, foldl_cfg])) <;> simp_all [foldl_keep, foldl_cfg]

theorem execBandEnter_keep (x0 : Nat) (x1 : Nat) (x2 : Nat) (s : State) :
    ∃ t, execBandEnter x0 x1 x2 s = .next t ∧ t.pending = s.pending ∧ t.mem = s.mem ∧ t.hostMem = s.hostMem ∧ t.otp = s.otp ∧ t.pcie.cfg = s.pcie.cfg := by
  unfold execBandEnter
  refine ⟨_, rfl, ?_⟩
  (repeat' (first | split | simp [foldl_keep, foldl_cfg, guarded_pending, indGuarded_pending, guarded_mem, indGuarded_mem, guarded_hostMem, indGuarded_hostMem, guarded_otp, indGuarded_otp, guarded_pcie_cfg, indGuarded_pcie_cfg])) <;> simp_all [foldl_keep, foldl_cfg, guarded_pending, indGuarded_pending, guarded_mem, indGuarded_mem, guarded_hostMem, indGuarded_hostMem, guarded_otp, indGuarded_otp, guarded_pcie_cfg, indGuarded_pcie_cfg]

@[simp] theorem addTally_keep (s : State) (x1 : Tally) :
    (addTally s x1).pending = s.pending ∧ (addTally s x1).mem = s.mem ∧ (addTally s x1).hostMem = s.hostMem ∧ (addTally s x1).otp = s.otp ∧ (addTally s x1).pcie.cfg = s.pcie.cfg := by
  unfold addTally
  (repeat' (first | split | simp [foldl_keep, foldl_cfg])) <;> simp_all [foldl_keep, foldl_cfg]

@[simp] theorem noteSlack_keep (s : State) (x1 : PhaseCtx) (x2 : Nat) :
    (noteSlack s x1 x2).pending = s.pending ∧ (noteSlack s x1 x2).mem = s.mem ∧ (noteSlack s x1 x2).hostMem = s.hostMem ∧ (noteSlack s x1 x2).otp = s.otp ∧ (noteSlack s x1 x2).pcie.cfg = s.pcie.cfg := by
  unfold noteSlack
  (repeat' (first | split | simp [foldl_keep, foldl_cfg])) <;> simp_all [foldl_keep, foldl_cfg]

@[simp] theorem finishStep_keep (s : State) (x1 : PhaseCtx) (x2 : BandSlot) :
    (finishStep s x1 x2).pending = s.pending ∧ (finishStep s x1 x2).mem = s.mem ∧ (finishStep s x1 x2).hostMem = s.hostMem ∧ (finishStep s x1 x2).otp = s.otp ∧ (finishStep s x1 x2).pcie.cfg = s.pcie.cfg := by
  unfold finishStep
  (repeat' (first | split | simp [foldl_keep, foldl_cfg])) <;> simp_all [foldl_keep, foldl_cfg]

theorem execCompositionStepDone_keep (x0 : List Upset) (s : State) :
    ∃ t, execCompositionStepDone x0 s = .next t ∧ t.pending = s.pending ∧ t.mem = s.mem ∧ t.hostMem = s.hostMem ∧ t.otp = s.otp ∧ t.pcie.cfg = s.pcie.cfg := by
  unfold execCompositionStepDone
  refine ⟨_, rfl, ?_⟩
  (repeat' (first | split | simp [foldl_keep, foldl_cfg, guarded_pending, indGuarded_pending, guarded_mem, indGuarded_mem, guarded_hostMem, indGuarded_hostMem, guarded_otp, indGuarded_otp, guarded_pcie_cfg, indGuarded_pcie_cfg])) <;> simp_all [foldl_keep, foldl_cfg, guarded_pending, indGuarded_pending, guarded_mem, indGuarded_mem, guarded_hostMem, indGuarded_hostMem, guarded_otp, indGuarded_otp, guarded_pcie_cfg, indGuarded_pcie_cfg]

@[simp] theorem noteLate_keep (s : State) (x1 : PhaseCtx) (x2 : BandSlot) (x3 : Nat) (x4 : Nat) (x5 : Nat) :
    (noteLate s x1 x2 x3 x4 x5).pending = s.pending ∧ (noteLate s x1 x2 x3 x4 x5).mem = s.mem ∧ (noteLate s x1 x2 x3 x4 x5).hostMem = s.hostMem ∧ (noteLate s x1 x2 x3 x4 x5).otp = s.otp ∧ (noteLate s x1 x2 x3 x4 x5).pcie.cfg = s.pcie.cfg := by
  unfold noteLate
  (repeat' (first | split | simp [foldl_keep, foldl_cfg])) <;> simp_all [foldl_keep, foldl_cfg]

@[simp] theorem lateBand_keep (s : State) (x1 : PhaseCtx) (x2 : BandSlot) :
    (lateBand s x1 x2).2.pending = s.pending ∧ (lateBand s x1 x2).2.mem = s.mem ∧ (lateBand s x1 x2).2.hostMem = s.hostMem ∧ (lateBand s x1 x2).2.otp = s.otp ∧ (lateBand s x1 x2).2.pcie.cfg = s.pcie.cfg := by
  unfold lateBand
  (repeat' (first | split | simp [foldl_keep, foldl_cfg])) <;> simp_all [foldl_keep, foldl_cfg]

@[simp] theorem judgeBand_keep (s : State) (x1 : PhaseCtx) (x2 : BandSlot) :
    (judgeBand s x1 x2).pending = s.pending ∧ (judgeBand s x1 x2).mem = s.mem ∧ (judgeBand s x1 x2).hostMem = s.hostMem ∧ (judgeBand s x1 x2).otp = s.otp ∧ (judgeBand s x1 x2).pcie.cfg = s.pcie.cfg := by
  unfold judgeBand
  (repeat' (first | split | simp [foldl_keep, foldl_cfg])) <;> simp_all [foldl_keep, foldl_cfg]

theorem execBandDeadline_keep (x0 : Nat) (x1 : Nat) (x2 : Nat) (s : State) :
    ∃ t, execBandDeadline x0 x1 x2 s = .next t ∧ t.pending = s.pending ∧ t.mem = s.mem ∧ t.hostMem = s.hostMem ∧ t.otp = s.otp ∧ t.pcie.cfg = s.pcie.cfg := by
  unfold execBandDeadline
  refine ⟨_, rfl, ?_⟩
  (repeat' (first | split | simp [foldl_keep, foldl_cfg, guarded_pending, indGuarded_pending, guarded_mem, indGuarded_mem, guarded_hostMem, indGuarded_hostMem, guarded_otp, indGuarded_otp, guarded_pcie_cfg, indGuarded_pcie_cfg])) <;> simp_all [foldl_keep, foldl_cfg, guarded_pending, indGuarded_pending, guarded_mem, indGuarded_mem, guarded_hostMem, indGuarded_hostMem, guarded_otp, indGuarded_otp, guarded_pcie_cfg, indGuarded_pcie_cfg]

theorem execGsFillGo_keep (x0 : Agent) (x1 : Word) (s : State) :
    ∃ t, execGsFillGo x0 x1 s = .next t ∧ t.pending = s.pending ∧ t.mem = s.mem ∧ t.hostMem = s.hostMem ∧ t.otp = s.otp ∧ t.pcie.cfg = s.pcie.cfg := by
  unfold execGsFillGo
  refine ⟨_, rfl, ?_⟩
  (repeat' (first | split | simp [foldl_keep, foldl_cfg, guarded_pending, indGuarded_pending, guarded_mem, indGuarded_mem, guarded_hostMem, indGuarded_hostMem, guarded_otp, indGuarded_otp, guarded_pcie_cfg, indGuarded_pcie_cfg])) <;> simp_all [foldl_keep, foldl_cfg, guarded_pending, indGuarded_pending, guarded_mem, indGuarded_mem, guarded_hostMem, indGuarded_hostMem, guarded_otp, indGuarded_otp, guarded_pcie_cfg, indGuarded_pcie_cfg]

theorem execGsFillDone_keep (s : State) :
    ∃ t, execGsFillDone s = .next t ∧ t.pending = s.pending ∧ t.mem = s.mem ∧ t.hostMem = s.hostMem ∧ t.otp = s.otp ∧ t.pcie.cfg = s.pcie.cfg := by
  unfold execGsFillDone
  refine ⟨_, rfl, ?_⟩
  (repeat' (first | split | simp [foldl_keep, foldl_cfg, guarded_pending, indGuarded_pending, guarded_mem, indGuarded_mem, guarded_hostMem, indGuarded_hostMem, guarded_otp, indGuarded_otp, guarded_pcie_cfg, indGuarded_pcie_cfg])) <;> simp_all [foldl_keep, foldl_cfg, guarded_pending, indGuarded_pending, guarded_mem, indGuarded_mem, guarded_hostMem, indGuarded_hostMem, guarded_otp, indGuarded_otp, guarded_pcie_cfg, indGuarded_pcie_cfg]

@[simp] theorem writeSheet_keep (s : State) (x1 : Nat) (x2 : Word) :
    (writeSheet s x1 x2).pending = s.pending ∧ (writeSheet s x1 x2).mem = s.mem ∧ (writeSheet s x1 x2).hostMem = s.hostMem ∧ (writeSheet s x1 x2).otp = s.otp ∧ (writeSheet s x1 x2).pcie.cfg = s.pcie.cfg := by
  unfold writeSheet
  (repeat' (first | split | simp [foldl_keep, foldl_cfg])) <;> simp_all [foldl_keep, foldl_cfg]

@[simp] theorem readSheet_keep (s : State) (x1 : Nat) (x2 : Ecc) :
    (readSheet s x1 x2).2.pending = s.pending ∧ (readSheet s x1 x2).2.mem = s.mem ∧ (readSheet s x1 x2).2.hostMem = s.hostMem ∧ (readSheet s x1 x2).2.otp = s.otp ∧ (readSheet s x1 x2).2.pcie.cfg = s.pcie.cfg := by
  unfold readSheet
  (repeat' (first | split | simp [foldl_keep, foldl_cfg])) <;> simp_all [foldl_keep, foldl_cfg]

@[simp] theorem endStream_keep (s : State) (x1 : Nat) (x2 : List Shape) :
    (endStream s x1 x2).pending = s.pending ∧ (endStream s x1 x2).mem = s.mem ∧ (endStream s x1 x2).hostMem = s.hostMem ∧ (endStream s x1 x2).otp = s.otp ∧ (endStream s x1 x2).pcie.cfg = s.pcie.cfg := by
  unfold endStream
  (repeat' (first | split | simp [foldl_keep, foldl_cfg])) <;> simp_all [foldl_keep, foldl_cfg]

@[simp] theorem writePart_keep (s : State) (x1 : BltOp) (x2 : Nat) :
    (writePart s x1 x2).pending = s.pending ∧ (writePart s x1 x2).hostMem = s.hostMem ∧ (writePart s x1 x2).otp = s.otp ∧ (writePart s x1 x2).pcie.cfg = s.pcie.cfg := by
  unfold writePart
  (repeat' (first | split | simp [foldl_keep, foldl_cfg])) <;> simp_all [foldl_keep, foldl_cfg]

@[simp] theorem setBlt_keep (s : State) (x1 : BltOp) :
    (setBlt s x1).pending = s.pending ∧ (setBlt s x1).mem = s.mem ∧ (setBlt s x1).hostMem = s.hostMem ∧ (setBlt s x1).otp = s.otp ∧ (setBlt s x1).pcie.cfg = s.pcie.cfg := by
  unfold setBlt
  (repeat' (first | split | simp [foldl_keep, foldl_cfg])) <;> simp_all [foldl_keep, foldl_cfg]

@[simp] theorem runRows_keep (x0 : Nat) (s : State) (x2 : BltOp) :
    (runRows x0 s x2).1.pending = s.pending ∧ (runRows x0 s x2).1.hostMem = s.hostMem ∧ (runRows x0 s x2).1.otp = s.otp ∧ (runRows x0 s x2).1.pcie.cfg = s.pcie.cfg := by
  induction x0 generalizing s x2 with
  | zero => simp [runRows]
  | succ n ih =>
    unfold runRows
    split
    · simp
    · simp [ih]

@[simp] theorem advanceBlt_keep (s : State) (x1 : BltOp) (x2 : Nat) :
    (advanceBlt s x1 x2).1.pending = s.pending ∧ (advanceBlt s x1 x2).1.hostMem = s.hostMem ∧ (advanceBlt s x1 x2).1.otp = s.otp ∧ (advanceBlt s x1 x2).1.pcie.cfg = s.pcie.cfg := by
  unfold advanceBlt
  (repeat' (first | split | simp [foldl_keep, foldl_cfg])) <;> simp_all [foldl_keep, foldl_cfg]

@[simp] theorem endBlt_keep (s : State) (x1 : BltOp) :
    (endBlt s x1).pending = s.pending ∧ (endBlt s x1).mem = s.mem ∧ (endBlt s x1).hostMem = s.hostMem ∧ (endBlt s x1).otp = s.otp ∧ (endBlt s x1).pcie.cfg = s.pcie.cfg := by
  unfold endBlt
  (repeat' (first | split | simp [foldl_keep, foldl_cfg])) <;> simp_all [foldl_keep, foldl_cfg]

@[simp] theorem goBlt_keep (s : State) (x1 : Nat) :
    (goBlt s x1).pending = s.pending ∧ (goBlt s x1).hostMem = s.hostMem ∧ (goBlt s x1).otp = s.otp ∧ (goBlt s x1).pcie.cfg = s.pcie.cfg := by
  unfold goBlt
  (repeat' (first | split | simp [foldl_keep, foldl_cfg])) <;> simp_all [foldl_keep, foldl_cfg]

@[simp] theorem stopBlt_keep (s : State) (x1 : BltOp) (x2 : Nat) (x3 : Nat) :
    (stopBlt s x1 x2 x3).1.pending = s.pending ∧ (stopBlt s x1 x2 x3).1.hostMem = s.hostMem ∧ (stopBlt s x1 x2 x3).1.otp = s.otp ∧ (stopBlt s x1 x2 x3).1.pcie.cfg = s.pcie.cfg := by
  unfold stopBlt
  (repeat' (first | split | simp [foldl_keep, foldl_cfg])) <;> simp_all [foldl_keep, foldl_cfg]

@[simp] theorem abortBlt_keep (s : State) (x1 : Nat) (x2 : Nat) :
    (abortBlt s x1 x2).pending = s.pending ∧ (abortBlt s x1 x2).hostMem = s.hostMem ∧ (abortBlt s x1 x2).otp = s.otp ∧ (abortBlt s x1 x2).pcie.cfg = s.pcie.cfg := by
  unfold abortBlt
  (repeat' (first | split | simp [foldl_keep, foldl_cfg])) <;> simp_all [foldl_keep, foldl_cfg]

@[simp] theorem writeBltGo_keep (s : State) (x1 : Word) (x2 : Nat) (x3 : Nat) (x4 : Nat) :
    (writeBltGo s x1 x2 x3 x4).pending = s.pending ∧ (writeBltGo s x1 x2 x3 x4).hostMem = s.hostMem ∧ (writeBltGo s x1 x2 x3 x4).otp = s.otp ∧ (writeBltGo s x1 x2 x3 x4).pcie.cfg = s.pcie.cfg := by
  unfold writeBltGo
  (repeat' (first | split | simp [foldl_keep, foldl_cfg])) <;> simp_all [foldl_keep, foldl_cfg]

theorem execBltCopy_keep (x0 : Agent) (x1 : Word) (x2 : Nat) (s : State) :
    ∃ t, execBltCopy x0 x1 x2 s = .next t ∧ t.pending = s.pending ∧ t.hostMem = s.hostMem ∧ t.otp = s.otp ∧ t.pcie.cfg = s.pcie.cfg := by
  unfold execBltCopy
  refine ⟨_, rfl, ?_⟩
  (repeat' (first | split | simp [foldl_keep, foldl_cfg, guarded_pending, indGuarded_pending, guarded_mem, indGuarded_mem, guarded_hostMem, indGuarded_hostMem, guarded_otp, indGuarded_otp, guarded_pcie_cfg, indGuarded_pcie_cfg])) <;> simp_all [foldl_keep, foldl_cfg, guarded_pending, indGuarded_pending, guarded_mem, indGuarded_mem, guarded_hostMem, indGuarded_hostMem, guarded_otp, indGuarded_otp, guarded_pcie_cfg, indGuarded_pcie_cfg]

theorem execBltFill_keep (x0 : Agent) (x1 : Word) (x2 : Nat) (s : State) :
    ∃ t, execBltFill x0 x1 x2 s = .next t ∧ t.pending = s.pending ∧ t.hostMem = s.hostMem ∧ t.otp = s.otp ∧ t.pcie.cfg = s.pcie.cfg := by
  unfold execBltFill
  refine ⟨_, rfl, ?_⟩
  (repeat' (first | split | simp [foldl_keep, foldl_cfg, guarded_pending, indGuarded_pending, guarded_mem, indGuarded_mem, guarded_hostMem, indGuarded_hostMem, guarded_otp, indGuarded_otp, guarded_pcie_cfg, indGuarded_pcie_cfg])) <;> simp_all [foldl_keep, foldl_cfg, guarded_pending, indGuarded_pending, guarded_mem, indGuarded_mem, guarded_hostMem, indGuarded_hostMem, guarded_otp, indGuarded_otp, guarded_pcie_cfg, indGuarded_pcie_cfg]

theorem execBltCopyBlend_keep (x0 : Agent) (x1 : Word) (x2 : Nat) (s : State) :
    ∃ t, execBltCopyBlend x0 x1 x2 s = .next t ∧ t.pending = s.pending ∧ t.hostMem = s.hostMem ∧ t.otp = s.otp ∧ t.pcie.cfg = s.pcie.cfg := by
  unfold execBltCopyBlend
  refine ⟨_, rfl, ?_⟩
  (repeat' (first | split | simp [foldl_keep, foldl_cfg, guarded_pending, indGuarded_pending, guarded_mem, indGuarded_mem, guarded_hostMem, indGuarded_hostMem, guarded_otp, indGuarded_otp, guarded_pcie_cfg, indGuarded_pcie_cfg])) <;> simp_all [foldl_keep, foldl_cfg, guarded_pending, indGuarded_pending, guarded_mem, indGuarded_mem, guarded_hostMem, indGuarded_hostMem, guarded_otp, indGuarded_otp, guarded_pcie_cfg, indGuarded_pcie_cfg]

theorem execBltCopyConvert_keep (x0 : Agent) (x1 : Word) (x2 : Nat) (s : State) :
    ∃ t, execBltCopyConvert x0 x1 x2 s = .next t ∧ t.pending = s.pending ∧ t.hostMem = s.hostMem ∧ t.otp = s.otp ∧ t.pcie.cfg = s.pcie.cfg := by
  unfold execBltCopyConvert
  refine ⟨_, rfl, ?_⟩
  (repeat' (first | split | simp [foldl_keep, foldl_cfg, guarded_pending, indGuarded_pending, guarded_mem, indGuarded_mem, guarded_hostMem, indGuarded_hostMem, guarded_otp, indGuarded_otp, guarded_pcie_cfg, indGuarded_pcie_cfg])) <;> simp_all [foldl_keep, foldl_cfg, guarded_pending, indGuarded_pending, guarded_mem, indGuarded_mem, guarded_hostMem, indGuarded_hostMem, guarded_otp, indGuarded_otp, guarded_pcie_cfg, indGuarded_pcie_cfg]

theorem execBltAbort_keep (x0 : Agent) (x1 : Word) (x2 : Nat) (x3 : Nat) (s : State) :
    ∃ t, execBltAbort x0 x1 x2 x3 s = .next t ∧ t.pending = s.pending ∧ t.hostMem = s.hostMem ∧ t.otp = s.otp ∧ t.pcie.cfg = s.pcie.cfg := by
  unfold execBltAbort
  refine ⟨_, rfl, ?_⟩
  (repeat' (first | split | simp [foldl_keep, foldl_cfg, guarded_pending, indGuarded_pending, guarded_mem, indGuarded_mem, guarded_hostMem, indGuarded_hostMem, guarded_otp, indGuarded_otp, guarded_pcie_cfg, indGuarded_pcie_cfg])) <;> simp_all [foldl_keep, foldl_cfg, guarded_pending, indGuarded_pending, guarded_mem, indGuarded_mem, guarded_hostMem, indGuarded_hostMem, guarded_otp, indGuarded_otp, guarded_pcie_cfg, indGuarded_pcie_cfg]

theorem execBltDone_keep (s : State) :
    ∃ t, execBltDone s = .next t ∧ t.pending = s.pending ∧ t.hostMem = s.hostMem ∧ t.otp = s.otp ∧ t.pcie.cfg = s.pcie.cfg := by
  unfold execBltDone
  refine ⟨_, rfl, ?_⟩
  (repeat' (first | split | simp [foldl_keep, foldl_cfg, guarded_pending, indGuarded_pending, guarded_mem, indGuarded_mem, guarded_hostMem, indGuarded_hostMem, guarded_otp, indGuarded_otp, guarded_pcie_cfg, indGuarded_pcie_cfg])) <;> simp_all [foldl_keep, foldl_cfg, guarded_pending, indGuarded_pending, guarded_mem, indGuarded_mem, guarded_hostMem, indGuarded_hostMem, guarded_otp, indGuarded_otp, guarded_pcie_cfg, indGuarded_pcie_cfg]

theorem execBltMemError_keep (x0 : Bool) (x1 : Nat) (x2 : Nat) (x3 : Nat) (s : State) :
    ∃ t, execBltMemError x0 x1 x2 x3 s = .next t ∧ t.pending = s.pending ∧ t.hostMem = s.hostMem ∧ t.otp = s.otp ∧ t.pcie.cfg = s.pcie.cfg := by
  unfold execBltMemError
  refine ⟨_, rfl, ?_⟩
  (repeat' (first | split | simp [foldl_keep, foldl_cfg, guarded_pending, indGuarded_pending, guarded_mem, indGuarded_mem, guarded_hostMem, indGuarded_hostMem, guarded_otp, indGuarded_otp, guarded_pcie_cfg, indGuarded_pcie_cfg])) <;> simp_all [foldl_keep, foldl_cfg, guarded_pending, indGuarded_pending, guarded_mem, indGuarded_mem, guarded_hostMem, indGuarded_hostMem, guarded_otp, indGuarded_otp, guarded_pcie_cfg, indGuarded_pcie_cfg]

@[simp] theorem writeStream_keep (x0 : DmaDesc) (x1 : Nat) (s : State) (x3 : Nat) (x4 : List Byte) :
    (writeStream x0 x1 s x3 x4).pending = s.pending ∧ (writeStream x0 x1 s x3 x4).otp = s.otp ∧ (writeStream x0 x1 s x3 x4).pcie.cfg = s.pcie.cfg := by
  induction x1 generalizing s x3 x4 with
  | zero => simp [writeStream]
  | succ n ih =>
    unfold writeStream
    split
    · simp
    · simp [ih]

@[simp] theorem moveTo_keep (s : State) (x1 : Nat) (x2 : DmaDesc) (x3 : Nat) (x4 : List Byte) :
    (moveTo s x1 x2 x3 x4).pending = s.pending ∧ (moveTo s x1 x2 x3 x4).otp = s.otp ∧ (moveTo s x1 x2 x3 x4).pcie.cfg = s.pcie.cfg := by
  unfold moveTo
  (repeat' (first | split | simp [foldl_keep, foldl_cfg])) <;> simp_all [foldl_keep, foldl_cfg]

@[simp] theorem startRun_keep (s : State) (x1 : Nat) :
    (startRun s x1).pending = s.pending ∧ (startRun s x1).mem = s.mem ∧ (startRun s x1).hostMem = s.hostMem ∧ (startRun s x1).otp = s.otp ∧ (startRun s x1).pcie.cfg = s.pcie.cfg := by
  unfold startRun
  (repeat' (first | split | simp [foldl_keep, foldl_cfg])) <;> simp_all [foldl_keep, foldl_cfg]

@[simp] theorem noteErr_keep (s : State) (x1 : Nat) (x2 : Nat) (x3 : Nat) :
    (noteErr s x1 x2 x3).pending = s.pending ∧ (noteErr s x1 x2 x3).mem = s.mem ∧ (noteErr s x1 x2 x3).hostMem = s.hostMem ∧ (noteErr s x1 x2 x3).otp = s.otp ∧ (noteErr s x1 x2 x3).pcie.cfg = s.pcie.cfg := by
  unfold noteErr
  (repeat' (first | split | simp [foldl_keep, foldl_cfg])) <;> simp_all [foldl_keep, foldl_cfg]

@[simp] theorem leaveStream_keep (s : State) (x1 : Nat) :
    (leaveStream s x1).pending = s.pending ∧ (leaveStream s x1).mem = s.mem ∧ (leaveStream s x1).hostMem = s.hostMem ∧ (leaveStream s x1).otp = s.otp ∧ (leaveStream s x1).pcie.cfg = s.pcie.cfg := by
  unfold leaveStream
  (repeat' (first | split | simp [foldl_keep, foldl_cfg])) <;> simp_all [foldl_keep, foldl_cfg]

@[simp] theorem drain_keep (s : State) (x1 : Nat) (x2 : Bool) :
    (drain s x1 x2).pending = s.pending ∧ (drain s x1 x2).mem = s.mem ∧ (drain s x1 x2).hostMem = s.hostMem ∧ (drain s x1 x2).otp = s.otp ∧ (drain s x1 x2).pcie.cfg = s.pcie.cfg := by
  unfold drain
  (repeat' (first | split | simp [foldl_keep, foldl_cfg])) <;> simp_all [foldl_keep, foldl_cfg]

@[simp] theorem failRun_keep (s : State) (x1 : Nat) (x2 : Nat) (x3 : Nat) :
    (failRun s x1 x2 x3).pending = s.pending ∧ (failRun s x1 x2 x3).mem = s.mem ∧ (failRun s x1 x2 x3).hostMem = s.hostMem ∧ (failRun s x1 x2 x3).otp = s.otp ∧ (failRun s x1 x2 x3).pcie.cfg = s.pcie.cfg := by
  unfold failRun
  (repeat' (first | split | simp [foldl_keep, foldl_cfg])) <;> simp_all [foldl_keep, foldl_cfg]

@[simp] theorem abortRun_keep (s : State) (x1 : Nat) (x2 : Nat) (x3 : List Byte) :
    (abortRun s x1 x2 x3).pending = s.pending ∧ (abortRun s x1 x2 x3).otp = s.otp ∧ (abortRun s x1 x2 x3).pcie.cfg = s.pcie.cfg := by
  unfold abortRun
  (repeat' (first | split | simp [foldl_keep, foldl_cfg])) <;> simp_all [foldl_keep, foldl_cfg]

@[simp] theorem writeChCmd_keep (s : State) (x1 : Nat) (x2 : Word) (x3 : Nat) (x4 : List Byte) :
    (writeChCmd s x1 x2 x3 x4).pending = s.pending ∧ (writeChCmd s x1 x2 x3 x4).otp = s.otp ∧ (writeChCmd s x1 x2 x3 x4).pcie.cfg = s.pcie.cfg := by
  unfold writeChCmd
  (repeat' (first | split | simp [foldl_keep, foldl_cfg])) <;> simp_all [foldl_keep, foldl_cfg]

@[simp] theorem writeChCtrl_keep (s : State) (x1 : Nat) (x2 : Word) (x3 : Nat) (x4 : List Byte) :
    (writeChCtrl s x1 x2 x3 x4).pending = s.pending ∧ (writeChCtrl s x1 x2 x3 x4).otp = s.otp ∧ (writeChCtrl s x1 x2 x3 x4).pcie.cfg = s.pcie.cfg := by
  unfold writeChCtrl
  (repeat' (first | split | simp [foldl_keep, foldl_cfg])) <;> simp_all [foldl_keep, foldl_cfg]

theorem execDmaGo_keep (x0 : Agent) (x1 : Nat) (x2 : Word) (s : State) :
    ∃ t, execDmaGo x0 x1 x2 s = .next t ∧ t.pending = s.pending ∧ t.otp = s.otp ∧ t.pcie.cfg = s.pcie.cfg := by
  unfold execDmaGo
  refine ⟨_, rfl, ?_⟩
  (repeat' (first | split | simp [foldl_keep, foldl_cfg, guarded_pending, indGuarded_pending, guarded_mem, indGuarded_mem, guarded_hostMem, indGuarded_hostMem, guarded_otp, indGuarded_otp, guarded_pcie_cfg, indGuarded_pcie_cfg])) <;> simp_all [foldl_keep, foldl_cfg, guarded_pending, indGuarded_pending, guarded_mem, indGuarded_mem, guarded_hostMem, indGuarded_hostMem, guarded_otp, indGuarded_otp, guarded_pcie_cfg, indGuarded_pcie_cfg]

theorem execDmaTrigger_keep (x0 : Nat) (s : State) :
    ∃ t, execDmaTrigger x0 s = .next t ∧ t.pending = s.pending ∧ t.mem = s.mem ∧ t.hostMem = s.hostMem ∧ t.otp = s.otp ∧ t.pcie.cfg = s.pcie.cfg := by
  unfold execDmaTrigger
  refine ⟨_, rfl, ?_⟩
  (repeat' (first | split | simp [foldl_keep, foldl_cfg, guarded_pending, indGuarded_pending, guarded_mem, indGuarded_mem, guarded_hostMem, indGuarded_hostMem, guarded_otp, indGuarded_otp, guarded_pcie_cfg, indGuarded_pcie_cfg])) <;> simp_all [foldl_keep, foldl_cfg, guarded_pending, indGuarded_pending, guarded_mem, indGuarded_mem, guarded_hostMem, indGuarded_hostMem, guarded_otp, indGuarded_otp, guarded_pcie_cfg, indGuarded_pcie_cfg]

@[simp] theorem adopt_keep (s : State) (x1 : Nat) (x2 : FetchEnd) (x3 : Option DmaDesc) :
    (adopt s x1 x2 x3).pending = s.pending ∧ (adopt s x1 x2 x3).mem = s.mem ∧ (adopt s x1 x2 x3).hostMem = s.hostMem ∧ (adopt s x1 x2 x3).otp = s.otp ∧ (adopt s x1 x2 x3).pcie.cfg = s.pcie.cfg := by
  unfold adopt
  (repeat' (first | split | simp [foldl_keep, foldl_cfg])) <;> simp_all [foldl_keep, foldl_cfg]

@[simp] theorem noteTmo_keep (s : State) (x1 : Nat) (x2 : Nat) :
    (noteTmo s x1 x2).pending = s.pending ∧ (noteTmo s x1 x2).mem = s.mem ∧ (noteTmo s x1 x2).hostMem = s.hostMem ∧ (noteTmo s x1 x2).otp = s.otp ∧ (noteTmo s x1 x2).pcie.cfg = s.pcie.cfg := by
  unfold noteTmo
  (repeat' (first | split | simp [foldl_keep, foldl_cfg])) <;> simp_all [foldl_keep, foldl_cfg]

theorem execDmaDescFetchDone_keep (x0 : Nat) (x1 : FetchEnd) (x2 : List Byte) (s : State) :
    ∃ t, execDmaDescFetchDone x0 x1 x2 s = .next t ∧ t.pending = s.pending ∧ t.mem = s.mem ∧ t.hostMem = s.hostMem ∧ t.otp = s.otp ∧ t.pcie.cfg = s.pcie.cfg := by
  unfold execDmaDescFetchDone
  refine ⟨_, rfl, ?_⟩
  (repeat' (first | split | simp [foldl_keep, foldl_cfg, guarded_pending, indGuarded_pending, guarded_mem, indGuarded_mem, guarded_hostMem, indGuarded_hostMem, guarded_otp, indGuarded_otp, guarded_pcie_cfg, indGuarded_pcie_cfg])) <;> simp_all [foldl_keep, foldl_cfg, guarded_pending, indGuarded_pending, guarded_mem, indGuarded_mem, guarded_hostMem, indGuarded_hostMem, guarded_otp, indGuarded_otp, guarded_pcie_cfg, indGuarded_pcie_cfg]

theorem execDmaDescCheck_keep (x0 : Nat) (s : State) :
    ∃ t, execDmaDescCheck x0 s = .next t ∧ t.pending = s.pending ∧ t.mem = s.mem ∧ t.hostMem = s.hostMem ∧ t.otp = s.otp ∧ t.pcie.cfg = s.pcie.cfg := by
  unfold execDmaDescCheck
  refine ⟨_, rfl, ?_⟩
  (repeat' (first | split | simp [foldl_keep, foldl_cfg, guarded_pending, indGuarded_pending, guarded_mem, indGuarded_mem, guarded_hostMem, indGuarded_hostMem, guarded_otp, indGuarded_otp, guarded_pcie_cfg, indGuarded_pcie_cfg])) <;> simp_all [foldl_keep, foldl_cfg, guarded_pending, indGuarded_pending, guarded_mem, indGuarded_mem, guarded_hostMem, indGuarded_hostMem, guarded_otp, indGuarded_otp, guarded_pcie_cfg, indGuarded_pcie_cfg]

@[simp] theorem finishDesc_keep (s : State) (x1 : Nat) (x2 : DmaDesc) :
    (finishDesc s x1 x2).pending = s.pending ∧ (finishDesc s x1 x2).mem = s.mem ∧ (finishDesc s x1 x2).hostMem = s.hostMem ∧ (finishDesc s x1 x2).otp = s.otp ∧ (finishDesc s x1 x2).pcie.cfg = s.pcie.cfg := by
  unfold finishDesc
  (repeat' (first | split | simp [foldl_keep, foldl_cfg])) <;> simp_all [foldl_keep, foldl_cfg]

theorem execDmaDescComplete_keep (x0 : Nat) (x1 : List Byte) (s : State) :
    ∃ t, execDmaDescComplete x0 x1 s = .next t ∧ t.pending = s.pending ∧ t.otp = s.otp ∧ t.pcie.cfg = s.pcie.cfg := by
  unfold execDmaDescComplete
  refine ⟨_, rfl, ?_⟩
  (repeat' (first | split | simp [foldl_keep, foldl_cfg, guarded_pending, indGuarded_pending, guarded_mem, indGuarded_mem, guarded_hostMem, indGuarded_hostMem, guarded_otp, indGuarded_otp, guarded_pcie_cfg, indGuarded_pcie_cfg])) <;> simp_all [foldl_keep, foldl_cfg, guarded_pending, indGuarded_pending, guarded_mem, indGuarded_mem, guarded_hostMem, indGuarded_hostMem, guarded_otp, indGuarded_otp, guarded_pcie_cfg, indGuarded_pcie_cfg]

@[simp] theorem meetResp_keep (s : State) (x1 : RespKind) (x2 : Nat) :
    (meetResp s x1 x2).pending = s.pending ∧ (meetResp s x1 x2).mem = s.mem ∧ (meetResp s x1 x2).hostMem = s.hostMem ∧ (meetResp s x1 x2).otp = s.otp ∧ (meetResp s x1 x2).pcie.cfg = s.pcie.cfg := by
  unfold meetResp
  (repeat' (first | split | simp [foldl_keep, foldl_cfg])) <;> simp_all [foldl_keep, foldl_cfg]

theorem execDmaResponseError_keep (x0 : Nat) (x1 : RespKind) (x2 : Nat) (x3 : Nat) (x4 : List Byte) (s : State) :
    ∃ t, execDmaResponseError x0 x1 x2 x3 x4 s = .next t ∧ t.pending = s.pending ∧ t.otp = s.otp ∧ t.pcie.cfg = s.pcie.cfg := by
  unfold execDmaResponseError
  refine ⟨_, rfl, ?_⟩
  (repeat' (first | split | simp [foldl_keep, foldl_cfg, guarded_pending, indGuarded_pending, guarded_mem, indGuarded_mem, guarded_hostMem, indGuarded_hostMem, guarded_otp, indGuarded_otp, guarded_pcie_cfg, indGuarded_pcie_cfg])) <;> simp_all [foldl_keep, foldl_cfg, guarded_pending, indGuarded_pending, guarded_mem, indGuarded_mem, guarded_hostMem, indGuarded_hostMem, guarded_otp, indGuarded_otp, guarded_pcie_cfg, indGuarded_pcie_cfg]

theorem execDmaTimeout_keep (x0 : Nat) (x1 : Nat) (x2 : Nat) (x3 : Nat) (x4 : List Byte) (s : State) :
    ∃ t, execDmaTimeout x0 x1 x3 x4 s x2 = .next t ∧ t.pending = s.pending ∧ t.otp = s.otp ∧ t.pcie.cfg = s.pcie.cfg := by
  unfold execDmaTimeout
  refine ⟨_, rfl, ?_⟩
  (repeat' (first | split | simp [foldl_keep, foldl_cfg, guarded_pending, indGuarded_pending, guarded_mem, indGuarded_mem, guarded_hostMem, indGuarded_hostMem, guarded_otp, indGuarded_otp, guarded_pcie_cfg, indGuarded_pcie_cfg])) <;> simp_all [foldl_keep, foldl_cfg, guarded_pending, indGuarded_pending, guarded_mem, indGuarded_mem, guarded_hostMem, indGuarded_hostMem, guarded_otp, indGuarded_otp, guarded_pcie_cfg, indGuarded_pcie_cfg]

theorem execDmaDrainDone_keep (x0 : Nat) (s : State) :
    ∃ t, execDmaDrainDone x0 s = .next t ∧ t.pending = s.pending ∧ t.mem = s.mem ∧ t.hostMem = s.hostMem ∧ t.otp = s.otp ∧ t.pcie.cfg = s.pcie.cfg := by
  unfold execDmaDrainDone
  refine ⟨_, rfl, ?_⟩
  (repeat' (first | split | simp [foldl_keep, foldl_cfg, guarded_pending, indGuarded_pending, guarded_mem, indGuarded_mem, guarded_hostMem, indGuarded_hostMem, guarded_otp, indGuarded_otp, guarded_pcie_cfg, indGuarded_pcie_cfg])) <;> simp_all [foldl_keep, foldl_cfg, guarded_pending, indGuarded_pending, guarded_mem, indGuarded_mem, guarded_hostMem, indGuarded_hostMem, guarded_otp, indGuarded_otp, guarded_pcie_cfg, indGuarded_pcie_cfg]

theorem execDmaAbort_keep (x0 : Agent) (x1 : Nat) (x2 : Bool) (x3 : Word) (x4 : Nat) (x5 : List Byte) (s : State) :
    ∃ t, execDmaAbort x0 x1 x2 x3 x4 x5 s = .next t ∧ t.pending = s.pending ∧ t.otp = s.otp ∧ t.pcie.cfg = s.pcie.cfg := by
  unfold execDmaAbort
  refine ⟨_, rfl, ?_⟩
  (repeat' (first | split | simp [foldl_keep, foldl_cfg, guarded_pending, indGuarded_pending, guarded_mem, indGuarded_mem, guarded_hostMem, indGuarded_hostMem, guarded_otp, indGuarded_otp, guarded_pcie_cfg, indGuarded_pcie_cfg])) <;> simp_all [foldl_keep, foldl_cfg, guarded_pending, indGuarded_pending, guarded_mem, indGuarded_mem, guarded_hostMem, indGuarded_hostMem, guarded_otp, indGuarded_otp, guarded_pcie_cfg, indGuarded_pcie_cfg]

@[simp] theorem writeDmaErr_keep (s : State) (x1 : Nat) (x2 : Word) :
    (writeDmaErr s x1 x2).pending = s.pending ∧ (writeDmaErr s x1 x2).mem = s.mem ∧ (writeDmaErr s x1 x2).hostMem = s.hostMem ∧ (writeDmaErr s x1 x2).otp = s.otp ∧ (writeDmaErr s x1 x2).pcie.cfg = s.pcie.cfg := by
  unfold writeDmaErr
  (repeat' (first | split | simp [foldl_keep, foldl_cfg])) <;> simp_all [foldl_keep, foldl_cfg]

theorem execDmaErrClear_keep (x0 : Agent) (x1 : Nat) (x2 : Word) (s : State) :
    ∃ t, execDmaErrClear x0 x1 x2 s = .next t ∧ t.pending = s.pending ∧ t.mem = s.mem ∧ t.hostMem = s.hostMem ∧ t.otp = s.otp ∧ t.pcie.cfg = s.pcie.cfg := by
  unfold execDmaErrClear
  refine ⟨_, rfl, ?_⟩
  (repeat' (first | split | simp [foldl_keep, foldl_cfg, guarded_pending, indGuarded_pending, guarded_mem, indGuarded_mem, guarded_hostMem, indGuarded_hostMem, guarded_otp, indGuarded_otp, guarded_pcie_cfg, indGuarded_pcie_cfg])) <;> simp_all [foldl_keep, foldl_cfg, guarded_pending, indGuarded_pending, guarded_mem, indGuarded_mem, guarded_hostMem, indGuarded_hostMem, guarded_otp, indGuarded_otp, guarded_pcie_cfg, indGuarded_pcie_cfg]

@[simp] theorem stopChannel_keep (s : State) (x1 : Nat) :
    (stopChannel s x1).pending = s.pending ∧ (stopChannel s x1).otp = s.otp ∧ (stopChannel s x1).pcie.cfg = s.pcie.cfg := by
  unfold stopChannel
  (repeat' (first | split | simp [foldl_keep, foldl_cfg])) <;> simp_all [foldl_keep, foldl_cfg]

@[simp] theorem writeSrcCfg_keep (s : State) (x1 : Agent) (x2 : Nat) (x3 : Word) :
    (writeSrcCfg s x1 x2 x3).pending = s.pending ∧ (writeSrcCfg s x1 x2 x3).mem = s.mem ∧ (writeSrcCfg s x1 x2 x3).hostMem = s.hostMem ∧ (writeSrcCfg s x1 x2 x3).otp = s.otp ∧ (writeSrcCfg s x1 x2 x3).pcie.cfg = s.pcie.cfg := by
  unfold writeSrcCfg
  (repeat' (first | split | simp [foldl_keep, foldl_cfg])) <;> simp_all [foldl_keep, foldl_cfg]

@[simp] theorem setPba_keep (s : State) (x1 : Nat) (x2 : Bool) :
    (setPba s x1 x2).pending = s.pending ∧ (setPba s x1 x2).mem = s.mem ∧ (setPba s x1 x2).hostMem = s.hostMem ∧ (setPba s x1 x2).otp = s.otp ∧ (setPba s x1 x2).pcie.cfg = s.pcie.cfg := by
  unfold setPba
  (repeat' (first | split | simp [foldl_keep, foldl_cfg])) <;> simp_all [foldl_keep, foldl_cfg]

@[simp] theorem setHeld_keep (s : State) (x1 : Nat) (x2 : Bool) :
    (setHeld s x1 x2).pending = s.pending ∧ (setHeld s x1 x2).mem = s.mem ∧ (setHeld s x1 x2).hostMem = s.hostMem ∧ (setHeld s x1 x2).otp = s.otp ∧ (setHeld s x1 x2).pcie.cfg = s.pcie.cfg := by
  unfold setHeld
  (repeat' (first | split | simp [foldl_keep, foldl_cfg])) <;> simp_all [foldl_keep, foldl_cfg]

theorem setHeld_hostMem (s : State) (x1 : Nat) (x2 : Bool) : (setHeld s x1 x2).hostMem = s.hostMem := (setHeld_keep s x1 x2).2.2.1

@[simp] theorem setTimer_keep (s : State) (x1 : Nat) (x2 : Nat) :
    (setTimer s x1 x2).pending = s.pending ∧ (setTimer s x1 x2).mem = s.mem ∧ (setTimer s x1 x2).hostMem = s.hostMem ∧ (setTimer s x1 x2).otp = s.otp ∧ (setTimer s x1 x2).pcie.cfg = s.pcie.cfg := by
  unfold setTimer
  (repeat' (first | split | simp [foldl_keep, foldl_cfg])) <;> simp_all [foldl_keep, foldl_cfg]

@[simp] theorem askL0_keep (s : State) :
    (askL0 s).pending = s.pending ∧ (askL0 s).mem = s.mem ∧ (askL0 s).hostMem = s.hostMem ∧ (askL0 s).otp = s.otp ∧ (askL0 s).pcie.cfg = s.pcie.cfg := by
  unfold askL0
  (repeat' (first | split | simp [foldl_keep, foldl_cfg])) <;> simp_all [foldl_keep, foldl_cfg]

@[simp] theorem sendVector_keep (s : State) (x1 : Nat) :
    (sendVector s x1).pending = s.pending ∧ (sendVector s x1).otp = s.otp ∧ (sendVector s x1).pcie.cfg = s.pcie.cfg := by
  unfold sendVector
  (repeat' (first | split | simp [foldl_keep, foldl_cfg])) <;> simp_all [foldl_keep, foldl_cfg]

theorem sendVector_pcie_cfg (s : State) (x1 : Nat) : (sendVector s x1).pcie.cfg = s.pcie.cfg := (sendVector_keep s x1).2.2

@[simp] theorem notePme_keep (s : State) :
    (notePme s).pending = s.pending ∧ (notePme s).mem = s.mem ∧ (notePme s).hostMem = s.hostMem ∧ (notePme s).otp = s.otp ∧ (notePme s).pcie.cfg = s.pcie.cfg := by
  unfold notePme
  (repeat' (first | split | simp [foldl_keep, foldl_cfg])) <;> simp_all [foldl_keep, foldl_cfg]

@[simp] theorem dueVector_keep (s : State) (x1 : Nat) :
    (dueVector s x1).pending = s.pending ∧ (dueVector s x1).otp = s.otp ∧ (dueVector s x1).pcie.cfg = s.pcie.cfg := by
  unfold dueVector
  (repeat' (first | split | simp [foldl_keep, foldl_cfg])) <;> simp_all [foldl_keep, foldl_cfg]

@[simp] theorem flushPba_keep (s : State) :
    (flushPba s).pending = s.pending ∧ (flushPba s).otp = s.otp ∧ (flushPba s).pcie.cfg = s.pcie.cfg := by
  unfold flushPba
  (repeat' (first | split | simp [foldl_keep, foldl_cfg])) <;> simp_all [foldl_keep, foldl_cfg]

@[simp] theorem flushHeld_keep (x0 : Bool) (s : State) :
    (flushHeld x0 s).pending = s.pending ∧ (flushHeld x0 s).otp = s.otp ∧ (flushHeld x0 s).pcie.cfg = s.pcie.cfg := by
  unfold flushHeld
  (repeat' (first | split | simp [foldl_keep, foldl_cfg])) <;> simp_all [foldl_keep, foldl_cfg]

@[simp] theorem noteFall_keep (s : State) (x1 : Nat) :
    (noteFall s x1).pending = s.pending ∧ (noteFall s x1).mem = s.mem ∧ (noteFall s x1).hostMem = s.hostMem ∧ (noteFall s x1).otp = s.otp ∧ (noteFall s x1).pcie.cfg = s.pcie.cfg := by
  unfold noteFall
  (repeat' (first | split | simp [foldl_keep, foldl_cfg])) <;> simp_all [foldl_keep, foldl_cfg]

theorem execIrqInputRise_keep (x0 : Nat) (s : State) :
    ∃ t, execIrqInputRise x0 s = .next t ∧ t.pending = s.pending ∧ t.mem = s.mem ∧ t.hostMem = s.hostMem ∧ t.otp = s.otp ∧ t.pcie.cfg = s.pcie.cfg := by
  unfold execIrqInputRise
  refine ⟨_, rfl, ?_⟩
  (repeat' (first | split | simp [foldl_keep, foldl_cfg, guarded_pending, indGuarded_pending, guarded_mem, indGuarded_mem, guarded_hostMem, indGuarded_hostMem, guarded_otp, indGuarded_otp, guarded_pcie_cfg, indGuarded_pcie_cfg])) <;> simp_all [foldl_keep, foldl_cfg, guarded_pending, indGuarded_pending, guarded_mem, indGuarded_mem, guarded_hostMem, indGuarded_hostMem, guarded_otp, indGuarded_otp, guarded_pcie_cfg, indGuarded_pcie_cfg]

theorem execIrqOffer_keep (x0 : Nat) (s : State) :
    ∃ t, execIrqOffer x0 s = .next t ∧ t.pending = s.pending ∧ t.otp = s.otp ∧ t.pcie.cfg = s.pcie.cfg := by
  unfold execIrqOffer
  refine ⟨_, rfl, ?_⟩
  (repeat' (first | split | simp [foldl_keep, foldl_cfg, guarded_pending, indGuarded_pending, guarded_mem, indGuarded_mem, guarded_hostMem, indGuarded_hostMem, guarded_otp, indGuarded_otp, guarded_pcie_cfg, indGuarded_pcie_cfg])) <;> simp_all [foldl_keep, foldl_cfg, guarded_pending, indGuarded_pending, guarded_mem, indGuarded_mem, guarded_hostMem, indGuarded_hostMem, guarded_otp, indGuarded_otp, guarded_pcie_cfg, indGuarded_pcie_cfg]

theorem execModerationExpiry_keep (x0 : Nat) (s : State) :
    ∃ t, execModerationExpiry x0 s = .next t ∧ t.pending = s.pending ∧ t.otp = s.otp ∧ t.pcie.cfg = s.pcie.cfg := by
  unfold execModerationExpiry
  refine ⟨_, rfl, ?_⟩
  (repeat' (first | split | simp [foldl_keep, foldl_cfg, guarded_pending, indGuarded_pending, guarded_mem, indGuarded_mem, guarded_hostMem, indGuarded_hostMem, guarded_otp, indGuarded_otp, guarded_pcie_cfg, indGuarded_pcie_cfg])) <;> simp_all [foldl_keep, foldl_cfg, guarded_pending, indGuarded_pending, guarded_mem, indGuarded_mem, guarded_hostMem, indGuarded_hostMem, guarded_otp, indGuarded_otp, guarded_pcie_cfg, indGuarded_pcie_cfg]

theorem execOfferWithdraw_keep (x0 : Nat) (s : State) :
    ∃ t, execOfferWithdraw x0 s = .next t ∧ t.pending = s.pending ∧ t.mem = s.mem ∧ t.hostMem = s.hostMem ∧ t.otp = s.otp ∧ t.pcie.cfg = s.pcie.cfg := by
  unfold execOfferWithdraw
  refine ⟨_, rfl, ?_⟩
  (repeat' (first | split | simp [foldl_keep, foldl_cfg, guarded_pending, indGuarded_pending, guarded_mem, indGuarded_mem, guarded_hostMem, indGuarded_hostMem, guarded_otp, indGuarded_otp, guarded_pcie_cfg, indGuarded_pcie_cfg])) <;> simp_all [foldl_keep, foldl_cfg, guarded_pending, indGuarded_pending, guarded_mem, indGuarded_mem, guarded_hostMem, indGuarded_hostMem, guarded_otp, indGuarded_otp, guarded_pcie_cfg, indGuarded_pcie_cfg]

@[simp] theorem activate_keep (s : State) (x1 : Nat) (x2 : Nat) :
    (activate s x1 x2).pending = s.pending ∧ (activate s x1 x2).mem = s.mem ∧ (activate s x1 x2).hostMem = s.hostMem ∧ (activate s x1 x2).otp = s.otp ∧ (activate s x1 x2).pcie.cfg = s.pcie.cfg := by
  unfold activate
  (repeat' (first | split | simp [foldl_keep, foldl_cfg])) <;> simp_all [foldl_keep, foldl_cfg]

@[simp] theorem claimOf_keep (s : State) (x1 : Nat) (x2 : Nat → Bool) :
    (claimOf s x1 x2).2.pending = s.pending ∧ (claimOf s x1 x2).2.mem = s.mem ∧ (claimOf s x1 x2).2.hostMem = s.hostMem ∧ (claimOf s x1 x2).2.otp = s.otp ∧ (claimOf s x1 x2).2.pcie.cfg = s.pcie.cfg := by
  unfold claimOf
  (repeat' (first | split | simp [foldl_keep, foldl_cfg])) <;> simp_all [foldl_keep, foldl_cfg]

theorem execClaim_keep (x0 : Agent) (x1 : Nat) (s : State) :
    ∃ t, execClaim x0 x1 s = .next t ∧ t.pending = s.pending ∧ t.mem = s.mem ∧ t.hostMem = s.hostMem ∧ t.otp = s.otp ∧ t.pcie.cfg = s.pcie.cfg := by
  unfold execClaim
  refine ⟨_, rfl, ?_⟩
  (repeat' (first | split | simp [foldl_keep, foldl_cfg, guarded_pending, indGuarded_pending, guarded_mem, indGuarded_mem, guarded_hostMem, indGuarded_hostMem, guarded_otp, indGuarded_otp, guarded_pcie_cfg, indGuarded_pcie_cfg])) <;> simp_all [foldl_keep, foldl_cfg, guarded_pending, indGuarded_pending, guarded_mem, indGuarded_mem, guarded_hostMem, indGuarded_hostMem, guarded_otp, indGuarded_otp, guarded_pcie_cfg, indGuarded_pcie_cfg]

theorem execHostClaim_keep (x0 : Agent) (x1 : Nat) (s : State) :
    ∃ t, execHostClaim x0 x1 s = .next t ∧ t.pending = s.pending ∧ t.mem = s.mem ∧ t.hostMem = s.hostMem ∧ t.otp = s.otp ∧ t.pcie.cfg = s.pcie.cfg := by
  unfold execHostClaim
  refine ⟨_, rfl, ?_⟩
  (repeat' (first | split | simp [foldl_keep, foldl_cfg, guarded_pending, indGuarded_pending, guarded_mem, indGuarded_mem, guarded_hostMem, indGuarded_hostMem, guarded_otp, indGuarded_otp, guarded_pcie_cfg, indGuarded_pcie_cfg])) <;> simp_all [foldl_keep, foldl_cfg, guarded_pending, indGuarded_pending, guarded_mem, indGuarded_mem, guarded_hostMem, indGuarded_hostMem, guarded_otp, indGuarded_otp, guarded_pcie_cfg, indGuarded_pcie_cfg]

@[simp] theorem completeSrc_keep (s : State) (x1 : Nat) :
    (completeSrc s x1).pending = s.pending ∧ (completeSrc s x1).mem = s.mem ∧ (completeSrc s x1).hostMem = s.hostMem ∧ (completeSrc s x1).otp = s.otp ∧ (completeSrc s x1).pcie.cfg = s.pcie.cfg := by
  unfold completeSrc
  (repeat' (first | split | simp [foldl_keep, foldl_cfg])) <;> simp_all [foldl_keep, foldl_cfg]

@[simp] theorem completeFor_keep (s : State) (x1 : Nat) (x2 : Word) :
    (completeFor s x1 x2).pending = s.pending ∧ (completeFor s x1 x2).mem = s.mem ∧ (completeFor s x1 x2).hostMem = s.hostMem ∧ (completeFor s x1 x2).otp = s.otp ∧ (completeFor s x1 x2).pcie.cfg = s.pcie.cfg := by
  unfold completeFor
  (repeat' (first | split | simp [foldl_keep, foldl_cfg])) <;> simp_all [foldl_keep, foldl_cfg]

theorem execCpl_keep (x0 : Agent) (x1 : Nat) (x2 : Word) (s : State) :
    ∃ t, execCpl x0 x1 x2 s = .next t ∧ t.pending = s.pending ∧ t.mem = s.mem ∧ t.hostMem = s.hostMem ∧ t.otp = s.otp ∧ t.pcie.cfg = s.pcie.cfg := by
  unfold execCpl
  refine ⟨_, rfl, ?_⟩
  (repeat' (first | split | simp [foldl_keep, foldl_cfg, guarded_pending, indGuarded_pending, guarded_mem, indGuarded_mem, guarded_hostMem, indGuarded_hostMem, guarded_otp, indGuarded_otp, guarded_pcie_cfg, indGuarded_pcie_cfg])) <;> simp_all [foldl_keep, foldl_cfg, guarded_pending, indGuarded_pending, guarded_mem, indGuarded_mem, guarded_hostMem, indGuarded_hostMem, guarded_otp, indGuarded_otp, guarded_pcie_cfg, indGuarded_pcie_cfg]

theorem execHostCpl_keep (x0 : Agent) (x1 : Word) (s : State) :
    ∃ t, execHostCpl x0 x1 s = .next t ∧ t.pending = s.pending ∧ t.mem = s.mem ∧ t.hostMem = s.hostMem ∧ t.otp = s.otp ∧ t.pcie.cfg = s.pcie.cfg := by
  unfold execHostCpl
  refine ⟨_, rfl, ?_⟩
  (repeat' (first | split | simp [foldl_keep, foldl_cfg, guarded_pending, indGuarded_pending, guarded_mem, indGuarded_mem, guarded_hostMem, indGuarded_hostMem, guarded_otp, indGuarded_otp, guarded_pcie_cfg, indGuarded_pcie_cfg])) <;> simp_all [foldl_keep, foldl_cfg, guarded_pending, indGuarded_pending, guarded_mem, indGuarded_mem, guarded_hostMem, indGuarded_hostMem, guarded_otp, indGuarded_otp, guarded_pcie_cfg, indGuarded_pcie_cfg]

@[simp] theorem completeCore_keep (s : State) (x1 : Nat) :
    (completeCore s x1).pending = s.pending ∧ (completeCore s x1).mem = s.mem ∧ (completeCore s x1).hostMem = s.hostMem ∧ (completeCore s x1).otp = s.otp ∧ (completeCore s x1).pcie.cfg = s.pcie.cfg := by
  unfold completeCore
  (repeat' (first | split | simp [foldl_keep, foldl_cfg])) <;> simp_all [foldl_keep, foldl_cfg]

@[simp] theorem writeSwSet_keep (s : State) (x1 : Word) :
    (writeSwSet s x1).pending = s.pending ∧ (writeSwSet s x1).mem = s.mem ∧ (writeSwSet s x1).hostMem = s.hostMem ∧ (writeSwSet s x1).otp = s.otp ∧ (writeSwSet s x1).pcie.cfg = s.pcie.cfg := by
  unfold writeSwSet
  (repeat' (first | split | simp [foldl_keep, foldl_cfg])) <;> simp_all [foldl_keep, foldl_cfg]

theorem execSwSourceSet_keep (x0 : Agent) (x1 : Word) (s : State) :
    ∃ t, execSwSourceSet x0 x1 s = .next t ∧ t.pending = s.pending ∧ t.mem = s.mem ∧ t.hostMem = s.hostMem ∧ t.otp = s.otp ∧ t.pcie.cfg = s.pcie.cfg := by
  unfold execSwSourceSet
  refine ⟨_, rfl, ?_⟩
  (repeat' (first | split | simp [foldl_keep, foldl_cfg, guarded_pending, indGuarded_pending, guarded_mem, indGuarded_mem, guarded_hostMem, indGuarded_hostMem, guarded_otp, indGuarded_otp, guarded_pcie_cfg, indGuarded_pcie_cfg])) <;> simp_all [foldl_keep, foldl_cfg, guarded_pending, indGuarded_pending, guarded_mem, indGuarded_mem, guarded_hostMem, indGuarded_hostMem, guarded_otp, indGuarded_otp, guarded_pcie_cfg, indGuarded_pcie_cfg]

theorem execSwSourceClear_keep (x0 : Agent) (x1 : Word) (s : State) :
    ∃ t, execSwSourceClear x0 x1 s = .next t ∧ t.pending = s.pending ∧ t.mem = s.mem ∧ t.hostMem = s.hostMem ∧ t.otp = s.otp ∧ t.pcie.cfg = s.pcie.cfg := by
  unfold execSwSourceClear
  refine ⟨_, rfl, ?_⟩
  (repeat' (first | split | simp [foldl_keep, foldl_cfg, guarded_pending, indGuarded_pending, guarded_mem, indGuarded_mem, guarded_hostMem, indGuarded_hostMem, guarded_otp, indGuarded_otp, guarded_pcie_cfg, indGuarded_pcie_cfg])) <;> simp_all [foldl_keep, foldl_cfg, guarded_pending, indGuarded_pending, guarded_mem, indGuarded_mem, guarded_hostMem, indGuarded_hostMem, guarded_otp, indGuarded_otp, guarded_pcie_cfg, indGuarded_pcie_cfg]

theorem execD0Entry_keep (s : State) :
    ∃ t, execD0Entry s = .next t ∧ t.pending = s.pending ∧ t.otp = s.otp ∧ t.pcie.cfg = s.pcie.cfg := by
  unfold execD0Entry
  refine ⟨_, rfl, ?_⟩
  (repeat' (first | split | simp [foldl_keep, foldl_cfg, guarded_pending, indGuarded_pending, guarded_mem, indGuarded_mem, guarded_hostMem, indGuarded_hostMem, guarded_otp, indGuarded_otp, guarded_pcie_cfg, indGuarded_pcie_cfg])) <;> simp_all [foldl_keep, foldl_cfg, guarded_pending, indGuarded_pending, guarded_mem, indGuarded_mem, guarded_hostMem, indGuarded_hostMem, guarded_otp, indGuarded_otp, guarded_pcie_cfg, indGuarded_pcie_cfg]

@[simp] theorem writeSwPulse_keep (s : State) (x1 : Word) :
    (writeSwPulse s x1).pending = s.pending ∧ (writeSwPulse s x1).mem = s.mem ∧ (writeSwPulse s x1).hostMem = s.hostMem ∧ (writeSwPulse s x1).otp = s.otp ∧ (writeSwPulse s x1).pcie.cfg = s.pcie.cfg := by
  unfold writeSwPulse
  (repeat' (first | split | simp [foldl_keep, foldl_cfg])) <;> simp_all [foldl_keep, foldl_cfg]

theorem execSwPulse_keep (x0 : Agent) (x1 : Word) (s : State) :
    ∃ t, execSwPulse x0 x1 s = .next t ∧ t.pending = s.pending ∧ t.mem = s.mem ∧ t.hostMem = s.hostMem ∧ t.otp = s.otp ∧ t.pcie.cfg = s.pcie.cfg := by
  unfold execSwPulse
  refine ⟨_, rfl, ?_⟩
  (repeat' (first | split | simp [foldl_keep, foldl_cfg, guarded_pending, indGuarded_pending, guarded_mem, indGuarded_mem, guarded_hostMem, indGuarded_hostMem, guarded_otp, indGuarded_otp, guarded_pcie_cfg, indGuarded_pcie_cfg])) <;> simp_all [foldl_keep, foldl_cfg, guarded_pending, indGuarded_pending, guarded_mem, indGuarded_mem, guarded_hostMem, indGuarded_hostMem, guarded_otp, indGuarded_otp, guarded_pcie_cfg, indGuarded_pcie_cfg]

@[simp] theorem extend_keep (s : State) (x1 : Nat) (x2 : List Byte) :
    (extend s x1 x2).pending = s.pending ∧ (extend s x1 x2).mem = s.mem ∧ (extend s x1 x2).hostMem = s.hostMem ∧ (extend s x1 x2).otp = s.otp ∧ (extend s x1 x2).pcie.cfg = s.pcie.cfg := by
  unfold extend
  (repeat' (first | split | simp [foldl_keep, foldl_cfg])) <;> simp_all [foldl_keep, foldl_cfg]

@[simp] theorem sessResult_keep (s : State) (x1 : Nat) :
    (sessResult s x1).pending = s.pending ∧ (sessResult s x1).mem = s.mem ∧ (sessResult s x1).hostMem = s.hostMem ∧ (sessResult s x1).otp = s.otp ∧ (sessResult s x1).pcie.cfg = s.pcie.cfg := by
  unfold sessResult
  (repeat' (first | split | simp [foldl_keep, foldl_cfg])) <;> simp_all [foldl_keep, foldl_cfg]

@[simp] theorem closeSession_keep (s : State) (x1 : Nat) (x2 : Nat) (x3 : Nat) :
    (closeSession s x1 x2 x3).pending = s.pending ∧ (closeSession s x1 x2 x3).mem = s.mem ∧ (closeSession s x1 x2 x3).hostMem = s.hostMem ∧ (closeSession s x1 x2 x3).otp = s.otp ∧ (closeSession s x1 x2 x3).pcie.cfg = s.pcie.cfg := by
  unfold closeSession
  (repeat' (first | split | simp [foldl_keep, foldl_cfg])) <;> simp_all [foldl_keep, foldl_cfg]

@[simp] theorem failOpen_keep (s : State) (x1 : Nat) (x2 : Nat) :
    (failOpen s x1 x2).pending = s.pending ∧ (failOpen s x1 x2).mem = s.mem ∧ (failOpen s x1 x2).hostMem = s.hostMem ∧ (failOpen s x1 x2).otp = s.otp ∧ (failOpen s x1 x2).pcie.cfg = s.pcie.cfg := by
  unfold failOpen
  (repeat' (first | split | simp [foldl_keep, foldl_cfg])) <;> simp_all [foldl_keep, foldl_cfg]

@[simp] theorem writeSessCtrl_keep (s : State) (x1 : Agent) (x2 : Word) :
    (writeSessCtrl s x1 x2).pending = s.pending ∧ (writeSessCtrl s x1 x2).mem = s.mem ∧ (writeSessCtrl s x1 x2).hostMem = s.hostMem ∧ (writeSessCtrl s x1 x2).otp = s.otp ∧ (writeSessCtrl s x1 x2).pcie.cfg = s.pcie.cfg := by
  unfold writeSessCtrl
  (repeat' (first | split | simp [foldl_keep, foldl_cfg])) <;> simp_all [foldl_keep, foldl_cfg]

theorem execSessionChallenge_keep (x0 : Agent) (x1 : Word) (s : State) :
    ∃ t, execSessionChallenge x0 x1 s = .next t ∧ t.pending = s.pending ∧ t.mem = s.mem ∧ t.hostMem = s.hostMem ∧ t.otp = s.otp ∧ t.pcie.cfg = s.pcie.cfg := by
  unfold execSessionChallenge
  refine ⟨_, rfl, ?_⟩
  (repeat' (first | split | simp [foldl_keep, foldl_cfg, guarded_pending, indGuarded_pending, guarded_mem, indGuarded_mem, guarded_hostMem, indGuarded_hostMem, guarded_otp, indGuarded_otp, guarded_pcie_cfg, indGuarded_pcie_cfg])) <;> simp_all [foldl_keep, foldl_cfg, guarded_pending, indGuarded_pending, guarded_mem, indGuarded_mem, guarded_hostMem, indGuarded_hostMem, guarded_otp, indGuarded_otp, guarded_pcie_cfg, indGuarded_pcie_cfg]

theorem execSessionOpen_keep (x0 : Agent) (x1 : Word) (s : State) :
    ∃ t, execSessionOpen x0 x1 s = .next t ∧ t.pending = s.pending ∧ t.mem = s.mem ∧ t.hostMem = s.hostMem ∧ t.otp = s.otp ∧ t.pcie.cfg = s.pcie.cfg := by
  unfold execSessionOpen
  refine ⟨_, rfl, ?_⟩
  (repeat' (first | split | simp [foldl_keep, foldl_cfg, guarded_pending, indGuarded_pending, guarded_mem, indGuarded_mem, guarded_hostMem, indGuarded_hostMem, guarded_otp, indGuarded_otp, guarded_pcie_cfg, indGuarded_pcie_cfg])) <;> simp_all [foldl_keep, foldl_cfg, guarded_pending, indGuarded_pending, guarded_mem, indGuarded_mem, guarded_hostMem, indGuarded_hostMem, guarded_otp, indGuarded_otp, guarded_pcie_cfg, indGuarded_pcie_cfg]

theorem execSessionClose_keep (x0 : Agent) (x1 : Word) (s : State) :
    ∃ t, execSessionClose x0 x1 s = .next t ∧ t.pending = s.pending ∧ t.mem = s.mem ∧ t.hostMem = s.hostMem ∧ t.otp = s.otp ∧ t.pcie.cfg = s.pcie.cfg := by
  unfold execSessionClose
  refine ⟨_, rfl, ?_⟩
  (repeat' (first | split | simp [foldl_keep, foldl_cfg, guarded_pending, indGuarded_pending, guarded_mem, indGuarded_mem, guarded_hostMem, indGuarded_hostMem, guarded_otp, indGuarded_otp, guarded_pcie_cfg, indGuarded_pcie_cfg])) <;> simp_all [foldl_keep, foldl_cfg, guarded_pending, indGuarded_pending, guarded_mem, indGuarded_mem, guarded_hostMem, indGuarded_hostMem, guarded_otp, indGuarded_otp, guarded_pcie_cfg, indGuarded_pcie_cfg]

theorem execChallengeReady_keep (x0 : List Byte) (s : State) :
    ∃ t, execChallengeReady x0 s = .next t ∧ t.pending = s.pending ∧ t.mem = s.mem ∧ t.hostMem = s.hostMem ∧ t.otp = s.otp ∧ t.pcie.cfg = s.pcie.cfg := by
  unfold execChallengeReady
  refine ⟨_, rfl, ?_⟩
  (repeat' (first | split | simp [foldl_keep, foldl_cfg, guarded_pending, indGuarded_pending, guarded_mem, indGuarded_mem, guarded_hostMem, indGuarded_hostMem, guarded_otp, indGuarded_otp, guarded_pcie_cfg, indGuarded_pcie_cfg])) <;> simp_all [foldl_keep, foldl_cfg, guarded_pending, indGuarded_pending, guarded_mem, indGuarded_mem, guarded_hostMem, indGuarded_hostMem, guarded_otp, indGuarded_otp, guarded_pcie_cfg, indGuarded_pcie_cfg]

theorem execChallengeExpiry_keep (s : State) :
    ∃ t, execChallengeExpiry s = .next t ∧ t.pending = s.pending ∧ t.mem = s.mem ∧ t.hostMem = s.hostMem ∧ t.otp = s.otp ∧ t.pcie.cfg = s.pcie.cfg := by
  unfold execChallengeExpiry
  refine ⟨_, rfl, ?_⟩
  (repeat' (first | split | simp [foldl_keep, foldl_cfg, guarded_pending, indGuarded_pending, guarded_mem, indGuarded_mem, guarded_hostMem, indGuarded_hostMem, guarded_otp, indGuarded_otp, guarded_pcie_cfg, indGuarded_pcie_cfg])) <;> simp_all [foldl_keep, foldl_cfg, guarded_pending, indGuarded_pending, guarded_mem, indGuarded_mem, guarded_hostMem, indGuarded_hostMem, guarded_otp, indGuarded_otp, guarded_pcie_cfg, indGuarded_pcie_cfg]

@[simp] theorem openAs_keep (s : State) (x1 : Nat) :
    (openAs s x1).pending = s.pending ∧ (openAs s x1).mem = s.mem ∧ (openAs s x1).hostMem = s.hostMem ∧ (openAs s x1).otp = s.otp ∧ (openAs s x1).pcie.cfg = s.pcie.cfg := by
  unfold openAs
  (repeat' (first | split | simp [foldl_keep, foldl_cfg])) <;> simp_all [foldl_keep, foldl_cfg]

theorem execSessionVerifyDone_keep (s : State) :
    ∃ t, execSessionVerifyDone s = .next t ∧ t.pending = s.pending ∧ t.mem = s.mem ∧ t.hostMem = s.hostMem ∧ t.otp = s.otp ∧ t.pcie.cfg = s.pcie.cfg := by
  unfold execSessionVerifyDone
  refine ⟨_, rfl, ?_⟩
  (repeat' (first | split | simp [foldl_keep, foldl_cfg, guarded_pending, indGuarded_pending, guarded_mem, indGuarded_mem, guarded_hostMem, indGuarded_hostMem, guarded_otp, indGuarded_otp, guarded_pcie_cfg, indGuarded_pcie_cfg])) <;> simp_all [foldl_keep, foldl_cfg, guarded_pending, indGuarded_pending, guarded_mem, indGuarded_mem, guarded_hostMem, indGuarded_hostMem, guarded_otp, indGuarded_otp, guarded_pcie_cfg, indGuarded_pcie_cfg]

theorem execSessionLockoutEnd_keep (s : State) :
    ∃ t, execSessionLockoutEnd s = .next t ∧ t.pending = s.pending ∧ t.mem = s.mem ∧ t.hostMem = s.hostMem ∧ t.otp = s.otp ∧ t.pcie.cfg = s.pcie.cfg := by
  unfold execSessionLockoutEnd
  refine ⟨_, rfl, ?_⟩
  (repeat' (first | split | simp [foldl_keep, foldl_cfg, guarded_pending, indGuarded_pending, guarded_mem, indGuarded_mem, guarded_hostMem, indGuarded_hostMem, guarded_otp, indGuarded_otp, guarded_pcie_cfg, indGuarded_pcie_cfg])) <;> simp_all [foldl_keep, foldl_cfg, guarded_pending, indGuarded_pending, guarded_mem, indGuarded_mem, guarded_hostMem, indGuarded_hostMem, guarded_otp, indGuarded_otp, guarded_pcie_cfg, indGuarded_pcie_cfg]

theorem execSessionIdleTimeout_keep (s : State) :
    ∃ t, execSessionIdleTimeout s = .next t ∧ t.pending = s.pending ∧ t.mem = s.mem ∧ t.hostMem = s.hostMem ∧ t.otp = s.otp ∧ t.pcie.cfg = s.pcie.cfg := by
  unfold execSessionIdleTimeout
  refine ⟨_, rfl, ?_⟩
  (repeat' (first | split | simp [foldl_keep, foldl_cfg, guarded_pending, indGuarded_pending, guarded_mem, indGuarded_mem, guarded_hostMem, indGuarded_hostMem, guarded_otp, indGuarded_otp, guarded_pcie_cfg, indGuarded_pcie_cfg])) <;> simp_all [foldl_keep, foldl_cfg, guarded_pending, indGuarded_pending, guarded_mem, indGuarded_mem, guarded_hostMem, indGuarded_hostMem, guarded_otp, indGuarded_otp, guarded_pcie_cfg, indGuarded_pcie_cfg]

theorem execSessionMaxTimeout_keep (s : State) :
    ∃ t, execSessionMaxTimeout s = .next t ∧ t.pending = s.pending ∧ t.mem = s.mem ∧ t.hostMem = s.hostMem ∧ t.otp = s.otp ∧ t.pcie.cfg = s.pcie.cfg := by
  unfold execSessionMaxTimeout
  refine ⟨_, rfl, ?_⟩
  (repeat' (first | split | simp [foldl_keep, foldl_cfg, guarded_pending, indGuarded_pending, guarded_mem, indGuarded_mem, guarded_hostMem, indGuarded_hostMem, guarded_otp, indGuarded_otp, guarded_pcie_cfg, indGuarded_pcie_cfg])) <;> simp_all [foldl_keep, foldl_cfg, guarded_pending, indGuarded_pending, guarded_mem, indGuarded_mem, guarded_hostMem, indGuarded_hostMem, guarded_otp, indGuarded_otp, guarded_pcie_cfg, indGuarded_pcie_cfg]

@[simp] theorem reqResult_keep (s : State) (x1 : Nat) :
    (reqResult s x1).pending = s.pending ∧ (reqResult s x1).mem = s.mem ∧ (reqResult s x1).hostMem = s.hostMem ∧ (reqResult s x1).otp = s.otp ∧ (reqResult s x1).pcie.cfg = s.pcie.cfg := by
  unfold reqResult
  (repeat' (first | split | simp [foldl_keep, foldl_cfg])) <;> simp_all [foldl_keep, foldl_cfg]

@[simp] theorem submit_keep (s : State) (x1 : Agent) (x2 : List Byte) :
    (submit s x1 x2).pending = s.pending ∧ (submit s x1 x2).mem = s.mem ∧ (submit s x1 x2).hostMem = s.hostMem ∧ (submit s x1 x2).otp = s.otp ∧ (submit s x1 x2).pcie.cfg = s.pcie.cfg := by
  unfold submit
  (repeat' (first | split | simp [foldl_keep, foldl_cfg])) <;> simp_all [foldl_keep, foldl_cfg]

@[simp] theorem approveRecord_keep (s : State) (x1 : Nat) (x2 : Nat) (x3 : Nat) :
    (approveRecord s x1 x2 x3).pending = s.pending ∧ (approveRecord s x1 x2 x3).mem = s.mem ∧ (approveRecord s x1 x2 x3).hostMem = s.hostMem ∧ (approveRecord s x1 x2 x3).otp = s.otp ∧ (approveRecord s x1 x2 x3).pcie.cfg = s.pcie.cfg := by
  unfold approveRecord
  (repeat' (first | split | simp [foldl_keep, foldl_cfg])) <;> simp_all [foldl_keep, foldl_cfg]

@[simp] theorem approve_keep (s : State) (x1 : Nat) :
    (approve s x1).pending = s.pending ∧ (approve s x1).mem = s.mem ∧ (approve s x1).hostMem = s.hostMem ∧ (approve s x1).otp = s.otp ∧ (approve s x1).pcie.cfg = s.pcie.cfg := by
  unfold approve
  (repeat' (first | split | simp [foldl_keep, foldl_cfg])) <;> simp_all [foldl_keep, foldl_cfg]

@[simp] theorem endRequest_keep (s : State) (x1 : Nat) (x2 : Nat) (x3 : Nat) :
    (endRequest s x1 x2 x3).pending = s.pending ∧ (endRequest s x1 x2 x3).mem = s.mem ∧ (endRequest s x1 x2 x3).hostMem = s.hostMem ∧ (endRequest s x1 x2 x3).otp = s.otp ∧ (endRequest s x1 x2 x3).pcie.cfg = s.pcie.cfg := by
  unfold endRequest
  (repeat' (first | split | simp [foldl_keep, foldl_cfg])) <;> simp_all [foldl_keep, foldl_cfg]

@[simp] theorem withdrawReq_keep (s : State) (x1 : Agent) :
    (withdrawReq s x1).pending = s.pending ∧ (withdrawReq s x1).mem = s.mem ∧ (withdrawReq s x1).hostMem = s.hostMem ∧ (withdrawReq s x1).otp = s.otp ∧ (withdrawReq s x1).pcie.cfg = s.pcie.cfg := by
  unfold withdrawReq
  (repeat' (first | split | simp [foldl_keep, foldl_cfg])) <;> simp_all [foldl_keep, foldl_cfg]

@[simp] theorem writeReqCtrl_keep (s : State) (x1 : Agent) (x2 : Word) (x3 : List Byte) :
    (writeReqCtrl s x1 x2 x3).pending = s.pending ∧ (writeReqCtrl s x1 x2 x3).mem = s.mem ∧ (writeReqCtrl s x1 x2 x3).hostMem = s.hostMem ∧ (writeReqCtrl s x1 x2 x3).otp = s.otp ∧ (writeReqCtrl s x1 x2 x3).pcie.cfg = s.pcie.cfg := by
  unfold writeReqCtrl
  (repeat' (first | split | simp [foldl_keep, foldl_cfg])) <;> simp_all [foldl_keep, foldl_cfg]

@[simp] theorem writeReqFree_keep (s : State) (x1 : Agent) (x2 : Word) :
    (writeReqFree s x1 x2).pending = s.pending ∧ (writeReqFree s x1 x2).mem = s.mem ∧ (writeReqFree s x1 x2).hostMem = s.hostMem ∧ (writeReqFree s x1 x2).otp = s.otp ∧ (writeReqFree s x1 x2).pcie.cfg = s.pcie.cfg := by
  unfold writeReqFree
  (repeat' (first | split | simp [foldl_keep, foldl_cfg])) <;> simp_all [foldl_keep, foldl_cfg]

theorem execReqSubmit_keep (x0 : Agent) (x1 : Word) (x2 : List Byte) (s : State) :
    ∃ t, execReqSubmit x0 x1 x2 s = .next t ∧ t.pending = s.pending ∧ t.mem = s.mem ∧ t.hostMem = s.hostMem ∧ t.otp = s.otp ∧ t.pcie.cfg = s.pcie.cfg := by
  unfold execReqSubmit
  refine ⟨_, rfl, ?_⟩
  (repeat' (first | split | simp [foldl_keep, foldl_cfg, guarded_pending, indGuarded_pending, guarded_mem, indGuarded_mem, guarded_hostMem, indGuarded_hostMem, guarded_otp, indGuarded_otp, guarded_pcie_cfg, indGuarded_pcie_cfg])) <;> simp_all [foldl_keep, foldl_cfg, guarded_pending, indGuarded_pending, guarded_mem, indGuarded_mem, guarded_hostMem, indGuarded_hostMem, guarded_otp, indGuarded_otp, guarded_pcie_cfg, indGuarded_pcie_cfg]

theorem execReqApprove_keep (x0 : Agent) (x1 : Word) (s : State) :
    ∃ t, execReqApprove x0 x1 s = .next t ∧ t.pending = s.pending ∧ t.mem = s.mem ∧ t.hostMem = s.hostMem ∧ t.otp = s.otp ∧ t.pcie.cfg = s.pcie.cfg := by
  unfold execReqApprove
  refine ⟨_, rfl, ?_⟩
  (repeat' (first | split | simp [foldl_keep, foldl_cfg, guarded_pending, indGuarded_pending, guarded_mem, indGuarded_mem, guarded_hostMem, indGuarded_hostMem, guarded_otp, indGuarded_otp, guarded_pcie_cfg, indGuarded_pcie_cfg])) <;> simp_all [foldl_keep, foldl_cfg, guarded_pending, indGuarded_pending, guarded_mem, indGuarded_mem, guarded_hostMem, indGuarded_hostMem, guarded_otp, indGuarded_otp, guarded_pcie_cfg, indGuarded_pcie_cfg]

theorem execReqWithdraw_keep (x0 : Agent) (x1 : Word) (s : State) :
    ∃ t, execReqWithdraw x0 x1 s = .next t ∧ t.pending = s.pending ∧ t.mem = s.mem ∧ t.hostMem = s.hostMem ∧ t.otp = s.otp ∧ t.pcie.cfg = s.pcie.cfg := by
  unfold execReqWithdraw
  refine ⟨_, rfl, ?_⟩
  (repeat' (first | split | simp [foldl_keep, foldl_cfg, guarded_pending, indGuarded_pending, guarded_mem, indGuarded_mem, guarded_hostMem, indGuarded_hostMem, guarded_otp, indGuarded_otp, guarded_pcie_cfg, indGuarded_pcie_cfg])) <;> simp_all [foldl_keep, foldl_cfg, guarded_pending, indGuarded_pending, guarded_mem, indGuarded_mem, guarded_hostMem, indGuarded_hostMem, guarded_otp, indGuarded_otp, guarded_pcie_cfg, indGuarded_pcie_cfg]

theorem execApprovalVerifyDone_keep (s : State) :
    ∃ t, execApprovalVerifyDone s = .next t ∧ t.pending = s.pending ∧ t.mem = s.mem ∧ t.hostMem = s.hostMem ∧ t.otp = s.otp ∧ t.pcie.cfg = s.pcie.cfg := by
  unfold execApprovalVerifyDone
  refine ⟨_, rfl, ?_⟩
  (repeat' (first | split | simp [foldl_keep, foldl_cfg, guarded_pending, indGuarded_pending, guarded_mem, indGuarded_mem, guarded_hostMem, indGuarded_hostMem, guarded_otp, indGuarded_otp, guarded_pcie_cfg, indGuarded_pcie_cfg])) <;> simp_all [foldl_keep, foldl_cfg, guarded_pending, indGuarded_pending, guarded_mem, indGuarded_mem, guarded_hostMem, indGuarded_hostMem, guarded_otp, indGuarded_otp, guarded_pcie_cfg, indGuarded_pcie_cfg]

theorem execReqTimeout_keep (s : State) :
    ∃ t, execReqTimeout s = .next t ∧ t.pending = s.pending ∧ t.mem = s.mem ∧ t.hostMem = s.hostMem ∧ t.otp = s.otp ∧ t.pcie.cfg = s.pcie.cfg := by
  unfold execReqTimeout
  refine ⟨_, rfl, ?_⟩
  (repeat' (first | split | simp [foldl_keep, foldl_cfg, guarded_pending, indGuarded_pending, guarded_mem, indGuarded_mem, guarded_hostMem, indGuarded_hostMem, guarded_otp, indGuarded_otp, guarded_pcie_cfg, indGuarded_pcie_cfg])) <;> simp_all [foldl_keep, foldl_cfg, guarded_pending, indGuarded_pending, guarded_mem, indGuarded_mem, guarded_hostMem, indGuarded_hostMem, guarded_otp, indGuarded_otp, guarded_pcie_cfg, indGuarded_pcie_cfg]

@[simp] theorem applied_keep (s : State) (x1 : Request) (x2 : Nat) :
    (applied s x1 x2).pending = s.pending ∧ (applied s x1 x2).mem = s.mem ∧ (applied s x1 x2).hostMem = s.hostMem ∧ (applied s x1 x2).otp = s.otp ∧ (applied s x1 x2).pcie.cfg = s.pcie.cfg := by
  unfold applied
  (repeat' (first | split | simp [foldl_keep, foldl_cfg])) <;> simp_all [foldl_keep, foldl_cfg]

@[simp] theorem norFail_keep (s : State) :
    (norFail s).pending = s.pending ∧ (norFail s).mem = s.mem ∧ (norFail s).hostMem = s.hostMem ∧ (norFail s).otp = s.otp ∧ (norFail s).pcie.cfg = s.pcie.cfg := by
  unfold norFail
  (repeat' (first | split | simp [foldl_keep, foldl_cfg])) <;> simp_all [foldl_keep, foldl_cfg]

@[simp] theorem newConfig_keep (s : State) (x1 : Bool) :
    (newConfig s x1).pending = s.pending ∧ (newConfig s x1).mem = s.mem ∧ (newConfig s x1).hostMem = s.hostMem ∧ (newConfig s x1).otp = s.otp ∧ (newConfig s x1).pcie.cfg = s.pcie.cfg := by
  unfold newConfig
  (repeat' (first | split | simp [foldl_keep, foldl_cfg])) <;> simp_all [foldl_keep, foldl_cfg]

theorem execRights_keep (x0 : Bool) (s : State) :
    ∃ t, execRights s x0 = .next t ∧ t.pending = s.pending ∧ t.mem = s.mem ∧ t.hostMem = s.hostMem ∧ t.otp = s.otp ∧ t.pcie.cfg = s.pcie.cfg := by
  unfold execRights
  refine ⟨_, rfl, ?_⟩
  (repeat' (first | split | simp [foldl_keep, foldl_cfg, guarded_pending, indGuarded_pending, guarded_mem, indGuarded_mem, guarded_hostMem, indGuarded_hostMem, guarded_otp, indGuarded_otp, guarded_pcie_cfg, indGuarded_pcie_cfg])) <;> simp_all [foldl_keep, foldl_cfg, guarded_pending, indGuarded_pending, guarded_mem, indGuarded_mem, guarded_hostMem, indGuarded_hostMem, guarded_otp, indGuarded_otp, guarded_pcie_cfg, indGuarded_pcie_cfg]

theorem execEnrol_keep (x0 : Bool) (s : State) :
    ∃ t, execEnrol s x0 = .next t ∧ t.pending = s.pending ∧ t.mem = s.mem ∧ t.hostMem = s.hostMem ∧ t.otp = s.otp ∧ t.pcie.cfg = s.pcie.cfg := by
  unfold execEnrol
  refine ⟨_, rfl, ?_⟩
  (repeat' (first | split | simp [foldl_keep, foldl_cfg, guarded_pending, indGuarded_pending, guarded_mem, indGuarded_mem, guarded_hostMem, indGuarded_hostMem, guarded_otp, indGuarded_otp, guarded_pcie_cfg, indGuarded_pcie_cfg])) <;> simp_all [foldl_keep, foldl_cfg, guarded_pending, indGuarded_pending, guarded_mem, indGuarded_mem, guarded_hostMem, indGuarded_hostMem, guarded_otp, indGuarded_otp, guarded_pcie_cfg, indGuarded_pcie_cfg]

theorem execFwkey_keep (s : State) :
    ∃ t, execFwkey s = .next t ∧ t.pending = s.pending ∧ t.mem = s.mem ∧ t.hostMem = s.hostMem ∧ t.pcie.cfg = s.pcie.cfg := by
  unfold execFwkey
  refine ⟨_, rfl, ?_⟩
  (repeat' (first | split | simp [foldl_keep, foldl_cfg, guarded_pending, indGuarded_pending, guarded_mem, indGuarded_mem, guarded_hostMem, indGuarded_hostMem, guarded_otp, indGuarded_otp, guarded_pcie_cfg, indGuarded_pcie_cfg])) <;> simp_all [foldl_keep, foldl_cfg, guarded_pending, indGuarded_pending, guarded_mem, indGuarded_mem, guarded_hostMem, indGuarded_hostMem, guarded_otp, indGuarded_otp, guarded_pcie_cfg, indGuarded_pcie_cfg]

theorem execDebug_keep (s : State) :
    ∃ t, execDebug s = .next t ∧ t.pending = s.pending ∧ t.mem = s.mem ∧ t.hostMem = s.hostMem ∧ t.otp = s.otp ∧ t.pcie.cfg = s.pcie.cfg := by
  unfold execDebug
  refine ⟨_, rfl, ?_⟩
  (repeat' (first | split | simp [foldl_keep, foldl_cfg, guarded_pending, indGuarded_pending, guarded_mem, indGuarded_mem, guarded_hostMem, indGuarded_hostMem, guarded_otp, indGuarded_otp, guarded_pcie_cfg, indGuarded_pcie_cfg])) <;> simp_all [foldl_keep, foldl_cfg, guarded_pending, indGuarded_pending, guarded_mem, indGuarded_mem, guarded_hostMem, indGuarded_hostMem, guarded_otp, indGuarded_otp, guarded_pcie_cfg, indGuarded_pcie_cfg]

theorem execJump_keep (s : State) :
    ∃ t, execJump s = .next t ∧ t.pending = s.pending ∧ t.mem = s.mem ∧ t.hostMem = s.hostMem ∧ t.otp = s.otp ∧ t.pcie.cfg = s.pcie.cfg := by
  unfold execJump
  refine ⟨_, rfl, ?_⟩
  (repeat' (first | split | simp [foldl_keep, foldl_cfg, guarded_pending, indGuarded_pending, guarded_mem, indGuarded_mem, guarded_hostMem, indGuarded_hostMem, guarded_otp, indGuarded_otp, guarded_pcie_cfg, indGuarded_pcie_cfg])) <;> simp_all [foldl_keep, foldl_cfg, guarded_pending, indGuarded_pending, guarded_mem, indGuarded_mem, guarded_hostMem, indGuarded_hostMem, guarded_otp, indGuarded_otp, guarded_pcie_cfg, indGuarded_pcie_cfg]

@[simp] theorem writeRelock_keep (s : State) (x1 : Agent) (x2 : Word) :
    (writeRelock s x1 x2).pending = s.pending ∧ (writeRelock s x1 x2).mem = s.mem ∧ (writeRelock s x1 x2).hostMem = s.hostMem ∧ (writeRelock s x1 x2).otp = s.otp ∧ (writeRelock s x1 x2).pcie.cfg = s.pcie.cfg := by
  unfold writeRelock
  (repeat' (first | split | simp [foldl_keep, foldl_cfg])) <;> simp_all [foldl_keep, foldl_cfg]

theorem execDebugRelock_keep (x0 : Agent) (x1 : Word) (s : State) :
    ∃ t, execDebugRelock x0 x1 s = .next t ∧ t.pending = s.pending ∧ t.mem = s.mem ∧ t.hostMem = s.hostMem ∧ t.otp = s.otp ∧ t.pcie.cfg = s.pcie.cfg := by
  unfold execDebugRelock
  refine ⟨_, rfl, ?_⟩
  (repeat' (first | split | simp [foldl_keep, foldl_cfg, guarded_pending, indGuarded_pending, guarded_mem, indGuarded_mem, guarded_hostMem, indGuarded_hostMem, guarded_otp, indGuarded_otp, guarded_pcie_cfg, indGuarded_pcie_cfg])) <;> simp_all [foldl_keep, foldl_cfg, guarded_pending, indGuarded_pending, guarded_mem, indGuarded_mem, guarded_hostMem, indGuarded_hostMem, guarded_otp, indGuarded_otp, guarded_pcie_cfg, indGuarded_pcie_cfg]

@[simp] theorem writeAttest_keep (s : State) (x1 : Word) :
    (writeAttest s x1).pending = s.pending ∧ (writeAttest s x1).mem = s.mem ∧ (writeAttest s x1).hostMem = s.hostMem ∧ (writeAttest s x1).otp = s.otp ∧ (writeAttest s x1).pcie.cfg = s.pcie.cfg := by
  unfold writeAttest
  (repeat' (first | split | simp [foldl_keep, foldl_cfg])) <;> simp_all [foldl_keep, foldl_cfg]

theorem execAttest_keep (x0 : Agent) (x1 : Word) (s : State) :
    ∃ t, execAttest x0 x1 s = .next t ∧ t.pending = s.pending ∧ t.mem = s.mem ∧ t.hostMem = s.hostMem ∧ t.otp = s.otp ∧ t.pcie.cfg = s.pcie.cfg := by
  unfold execAttest
  refine ⟨_, rfl, ?_⟩
  (repeat' (first | split | simp [foldl_keep, foldl_cfg, guarded_pending, indGuarded_pending, guarded_mem, indGuarded_mem, guarded_hostMem, indGuarded_hostMem, guarded_otp, indGuarded_otp, guarded_pcie_cfg, indGuarded_pcie_cfg])) <;> simp_all [foldl_keep, foldl_cfg, guarded_pending, indGuarded_pending, guarded_mem, indGuarded_mem, guarded_hostMem, indGuarded_hostMem, guarded_otp, indGuarded_otp, guarded_pcie_cfg, indGuarded_pcie_cfg]

theorem execAttestDone_keep (s : State) :
    ∃ t, execAttestDone s = .next t ∧ t.pending = s.pending ∧ t.mem = s.mem ∧ t.hostMem = s.hostMem ∧ t.otp = s.otp ∧ t.pcie.cfg = s.pcie.cfg := by
  unfold execAttestDone
  refine ⟨_, rfl, ?_⟩
  (repeat' (first | split | simp [foldl_keep, foldl_cfg, guarded_pending, indGuarded_pending, guarded_mem, indGuarded_mem, guarded_hostMem, indGuarded_hostMem, guarded_otp, indGuarded_otp, guarded_pcie_cfg, indGuarded_pcie_cfg])) <;> simp_all [foldl_keep, foldl_cfg, guarded_pending, indGuarded_pending, guarded_mem, indGuarded_mem, guarded_hostMem, indGuarded_hostMem, guarded_otp, indGuarded_otp, guarded_pcie_cfg, indGuarded_pcie_cfg]

@[simp] theorem writeSecWindow_keep (s : State) (x1 : Agent) (x2 : Nat) (x3 : Word) :
    (writeSecWindow s x1 x2 x3).pending = s.pending ∧ (writeSecWindow s x1 x2 x3).mem = s.mem ∧ (writeSecWindow s x1 x2 x3).hostMem = s.hostMem ∧ (writeSecWindow s x1 x2 x3).otp = s.otp ∧ (writeSecWindow s x1 x2 x3).pcie.cfg = s.pcie.cfg := by
  unfold writeSecWindow
  (repeat' (first | split | simp [foldl_keep, foldl_cfg])) <;> simp_all [foldl_keep, foldl_cfg]

@[simp] theorem showLog_keep (s : State) :
    (showLog s).pending = s.pending ∧ (showLog s).mem = s.mem ∧ (showLog s).hostMem = s.hostMem ∧ (showLog s).otp = s.otp ∧ (showLog s).pcie.cfg = s.pcie.cfg := by
  unfold showLog
  (repeat' (first | split | simp [foldl_keep, foldl_cfg])) <;> simp_all [foldl_keep, foldl_cfg]

theorem execAuditRecordWrite_keep (x0 : Bool) (s : State) :
    ∃ t, execAuditRecordWrite x0 s = .next t ∧ t.pending = s.pending ∧ t.mem = s.mem ∧ t.hostMem = s.hostMem ∧ t.otp = s.otp ∧ t.pcie.cfg = s.pcie.cfg := by
  unfold execAuditRecordWrite
  refine ⟨_, rfl, ?_⟩
  (repeat' (first | split | simp [foldl_keep, foldl_cfg, guarded_pending, indGuarded_pending, guarded_mem, indGuarded_mem, guarded_hostMem, indGuarded_hostMem, guarded_otp, indGuarded_otp, guarded_pcie_cfg, indGuarded_pcie_cfg])) <;> simp_all [foldl_keep, foldl_cfg, guarded_pending, indGuarded_pending, guarded_mem, indGuarded_mem, guarded_hostMem, indGuarded_hostMem, guarded_otp, indGuarded_otp, guarded_pcie_cfg, indGuarded_pcie_cfg]

@[simp] theorem takePresets_keep (s : State) (x1 : Bool) (x2 : List Nat) :
    (takePresets s x1 x2).pending = s.pending ∧ (takePresets s x1 x2).mem = s.mem ∧ (takePresets s x1 x2).hostMem = s.hostMem ∧ (takePresets s x1 x2).otp = s.otp ∧ (takePresets s x1 x2).pcie.cfg = s.pcie.cfg := by
  unfold takePresets
  (repeat' (first | split | simp [foldl_keep, foldl_cfg])) <;> simp_all [foldl_keep, foldl_cfg]

@[simp] theorem bootBoard_keep (s : State) :
    (bootBoard s).pending = s.pending ∧ (bootBoard s).mem = s.mem ∧ (bootBoard s).hostMem = s.hostMem ∧ (bootBoard s).otp = s.otp ∧ (bootBoard s).pcie.cfg = s.pcie.cfg := by
  unfold bootBoard
  (repeat' (first | split | simp [foldl_keep, foldl_cfg])) <;> simp_all [foldl_keep, foldl_cfg]

@[simp] theorem bootConfig_keep (s : State) :
    (bootConfig s).pending = s.pending ∧ (bootConfig s).mem = s.mem ∧ (bootConfig s).hostMem = s.hostMem ∧ (bootConfig s).pcie.cfg = s.pcie.cfg := by
  unfold bootConfig
  (repeat' (first | split | simp [foldl_keep, foldl_cfg])) <;> simp_all [foldl_keep, foldl_cfg]

@[simp] theorem bootMeasure_keep (s : State) (x1 : Option (List Byte)) :
    (bootMeasure s x1).pending = s.pending ∧ (bootMeasure s x1).mem = s.mem ∧ (bootMeasure s x1).hostMem = s.hostMem ∧ (bootMeasure s x1).otp = s.otp ∧ (bootMeasure s x1).pcie.cfg = s.pcie.cfg := by
  unfold bootMeasure
  (repeat' (first | split | simp [foldl_keep, foldl_cfg])) <;> simp_all [foldl_keep, foldl_cfg]

@[simp] theorem loadComponents_keep (s : State) (x1 : List Byte) :
    (loadComponents s x1).pending = s.pending ∧ (loadComponents s x1).mem = s.mem ∧ (loadComponents s x1).hostMem = s.hostMem ∧ (loadComponents s x1).otp = s.otp ∧ (loadComponents s x1).pcie.cfg = s.pcie.cfg := by
  unfold loadComponents
  (repeat' (first | split | simp [foldl_keep, foldl_cfg])) <;> simp_all [foldl_keep, foldl_cfg]

@[simp] theorem startCore_keep (s : State) (x1 : Nat) :
    (startCore s x1).pending = s.pending ∧ (startCore s x1).mem = s.mem ∧ (startCore s x1).hostMem = s.hostMem ∧ (startCore s x1).otp = s.otp ∧ (startCore s x1).pcie.cfg = s.pcie.cfg := by
  unfold startCore
  (repeat' (first | split | simp [foldl_keep, foldl_cfg])) <;> simp_all [foldl_keep, foldl_cfg]

@[simp] theorem bootImage_keep (s : State) (x1 : Nat) :
    (bootImage s x1).pending = s.pending ∧ (bootImage s x1).mem = s.mem ∧ (bootImage s x1).hostMem = s.hostMem ∧ (bootImage s x1).pcie.cfg = s.pcie.cfg := by
  unfold bootImage
  (repeat' (first | split | simp [foldl_keep, foldl_cfg])) <;> simp_all [foldl_keep, foldl_cfg]

@[simp] theorem epochRecord_keep (s : State) (x1 : Nat) (x2 : Nat) :
    (epochRecord s x1 x2).pending = s.pending ∧ (epochRecord s x1 x2).mem = s.mem ∧ (epochRecord s x1 x2).hostMem = s.hostMem ∧ (epochRecord s x1 x2).otp = s.otp ∧ (epochRecord s x1 x2).pcie.cfg = s.pcie.cfg := by
  unfold epochRecord
  (repeat' (first | split | simp [foldl_keep, foldl_cfg])) <;> simp_all [foldl_keep, foldl_cfg]

theorem execTcBoot_keep (s : State) :
    ∃ t, execTcBoot s = .next t ∧ t.pending = s.pending ∧ t.mem = s.mem ∧ t.hostMem = s.hostMem ∧ t.pcie.cfg = s.pcie.cfg := by
  unfold execTcBoot
  refine ⟨_, rfl, ?_⟩
  (repeat' (first | split | simp [foldl_keep, foldl_cfg, guarded_pending, indGuarded_pending, guarded_mem, indGuarded_mem, guarded_hostMem, indGuarded_hostMem, guarded_otp, indGuarded_otp, guarded_pcie_cfg, indGuarded_pcie_cfg])) <;> simp_all [foldl_keep, foldl_cfg, guarded_pending, indGuarded_pending, guarded_mem, indGuarded_mem, guarded_hostMem, indGuarded_hostMem, guarded_otp, indGuarded_otp, guarded_pcie_cfg, indGuarded_pcie_cfg]

@[simp] theorem updResult_keep (s : State) (x1 : Nat) :
    (updResult s x1).pending = s.pending ∧ (updResult s x1).mem = s.mem ∧ (updResult s x1).hostMem = s.hostMem ∧ (updResult s x1).otp = s.otp ∧ (updResult s x1).pcie.cfg = s.pcie.cfg := by
  unfold updResult
  (repeat' (first | split | simp [foldl_keep, foldl_cfg])) <;> simp_all [foldl_keep, foldl_cfg]

@[simp] theorem writeUpdCtrl_keep (s : State) (x1 : Word) :
    (writeUpdCtrl s x1).pending = s.pending ∧ (writeUpdCtrl s x1).mem = s.mem ∧ (writeUpdCtrl s x1).hostMem = s.hostMem ∧ (writeUpdCtrl s x1).otp = s.otp ∧ (writeUpdCtrl s x1).pcie.cfg = s.pcie.cfg := by
  unfold writeUpdCtrl
  (repeat' (first | split | simp [foldl_keep, foldl_cfg])) <;> simp_all [foldl_keep, foldl_cfg]

theorem execImageUpdate_keep (x0 : Agent) (x1 : Word) (s : State) :
    ∃ t, execImageUpdate x0 x1 s = .next t ∧ t.pending = s.pending ∧ t.mem = s.mem ∧ t.hostMem = s.hostMem ∧ t.otp = s.otp ∧ t.pcie.cfg = s.pcie.cfg := by
  unfold execImageUpdate
  refine ⟨_, rfl, ?_⟩
  (repeat' (first | split | simp [foldl_keep, foldl_cfg, guarded_pending, indGuarded_pending, guarded_mem, indGuarded_mem, guarded_hostMem, indGuarded_hostMem, guarded_otp, indGuarded_otp, guarded_pcie_cfg, indGuarded_pcie_cfg])) <;> simp_all [foldl_keep, foldl_cfg, guarded_pending, indGuarded_pending, guarded_mem, indGuarded_mem, guarded_hostMem, indGuarded_hostMem, guarded_otp, indGuarded_otp, guarded_pcie_cfg, indGuarded_pcie_cfg]

theorem execImageUpdateDone_keep (x0 : Bool) (s : State) :
    ∃ t, execImageUpdateDone s x0 = .next t ∧ t.pending = s.pending ∧ t.mem = s.mem ∧ t.hostMem = s.hostMem ∧ t.otp = s.otp ∧ t.pcie.cfg = s.pcie.cfg := by
  unfold execImageUpdateDone
  refine ⟨_, rfl, ?_⟩
  (repeat' (first | split | simp [foldl_keep, foldl_cfg, guarded_pending, indGuarded_pending, guarded_mem, indGuarded_mem, guarded_hostMem, indGuarded_hostMem, guarded_otp, indGuarded_otp, guarded_pcie_cfg, indGuarded_pcie_cfg])) <;> simp_all [foldl_keep, foldl_cfg, guarded_pending, indGuarded_pending, guarded_mem, indGuarded_mem, guarded_hostMem, indGuarded_hostMem, guarded_otp, indGuarded_otp, guarded_pcie_cfg, indGuarded_pcie_cfg]

@[simp] theorem fwFault_keep (s : State) (x1 : Nat) (x2 : Nat) (x3 : Bool) :
    (fwFault s x1 x2 x3).pending = s.pending ∧ (fwFault s x1 x2 x3).mem = s.mem ∧ (fwFault s x1 x2 x3).hostMem = s.hostMem ∧ (fwFault s x1 x2 x3).otp = s.otp ∧ (fwFault s x1 x2 x3).pcie.cfg = s.pcie.cfg := by
  unfold fwFault
  (repeat' (first | split | simp [foldl_keep, foldl_cfg])) <;> simp_all [foldl_keep, foldl_cfg]

@[simp] theorem endStep_keep (s : State) (x1 : Nat) :
    (endStep s x1).pending = s.pending ∧ (endStep s x1).mem = s.mem ∧ (endStep s x1).hostMem = s.hostMem ∧ (endStep s x1).otp = s.otp ∧ (endStep s x1).pcie.cfg = s.pcie.cfg := by
  unfold endStep
  (repeat' (first | split | simp [foldl_keep, foldl_cfg])) <;> simp_all [foldl_keep, foldl_cfg]

theorem execFwMemoryAccess_keep (x0 : Nat) (x1 : Nat) (x2 : Bool) (x3 : Nat) (x4 : List Byte) (s : State) :
    ∃ t, execFwMemoryAccess x0 x1 x2 x3 x4 s = .next t ∧ t.pending = s.pending ∧ t.hostMem = s.hostMem ∧ t.otp = s.otp ∧ t.pcie.cfg = s.pcie.cfg := by
  unfold execFwMemoryAccess
  refine ⟨_, rfl, ?_⟩
  (repeat' (first | split | simp [foldl_keep, foldl_cfg, guarded_pending, indGuarded_pending, guarded_mem, indGuarded_mem, guarded_hostMem, indGuarded_hostMem, guarded_otp, indGuarded_otp, guarded_pcie_cfg, indGuarded_pcie_cfg])) <;> simp_all [foldl_keep, foldl_cfg, guarded_pending, indGuarded_pending, guarded_mem, indGuarded_mem, guarded_hostMem, indGuarded_hostMem, guarded_otp, indGuarded_otp, guarded_pcie_cfg, indGuarded_pcie_cfg]

@[simp] theorem writeKick_keep (s : State) (x1 : Word) :
    (writeKick s x1).pending = s.pending ∧ (writeKick s x1).mem = s.mem ∧ (writeKick s x1).hostMem = s.hostMem ∧ (writeKick s x1).otp = s.otp ∧ (writeKick s x1).pcie.cfg = s.pcie.cfg := by
  unfold writeKick
  (repeat' (first | split | simp [foldl_keep, foldl_cfg])) <;> simp_all [foldl_keep, foldl_cfg]

theorem execWdtKick_keep (x0 : Agent) (x1 : Word) (s : State) :
    ∃ t, execWdtKick x0 x1 s = .next t ∧ t.pending = s.pending ∧ t.mem = s.mem ∧ t.hostMem = s.hostMem ∧ t.otp = s.otp ∧ t.pcie.cfg = s.pcie.cfg := by
  unfold execWdtKick
  refine ⟨_, rfl, ?_⟩
  (repeat' (first | split | simp [foldl_keep, foldl_cfg, guarded_pending, indGuarded_pending, guarded_mem, indGuarded_mem, guarded_hostMem, indGuarded_hostMem, guarded_otp, indGuarded_otp, guarded_pcie_cfg, indGuarded_pcie_cfg])) <;> simp_all [foldl_keep, foldl_cfg, guarded_pending, indGuarded_pending, guarded_mem, indGuarded_mem, guarded_hostMem, indGuarded_hostMem, guarded_otp, indGuarded_otp, guarded_pcie_cfg, indGuarded_pcie_cfg]

@[simp] theorem haltFor_keep (s : State) (x1 : Nat) (x2 : Nat) :
    (haltFor s x1 x2).pending = s.pending ∧ (haltFor s x1 x2).mem = s.mem ∧ (haltFor s x1 x2).hostMem = s.hostMem ∧ (haltFor s x1 x2).otp = s.otp ∧ (haltFor s x1 x2).pcie.cfg = s.pcie.cfg := by
  unfold haltFor
  (repeat' (first | split | simp [foldl_keep, foldl_cfg])) <;> simp_all [foldl_keep, foldl_cfg]

theorem execWatchdogExpiry_keep (x0 : Nat) (s : State) :
    ∃ t, execWatchdogExpiry x0 s = .next t ∧ t.pending = s.pending ∧ t.mem = s.mem ∧ t.hostMem = s.hostMem ∧ t.otp = s.otp ∧ t.pcie.cfg = s.pcie.cfg := by
  unfold execWatchdogExpiry
  refine ⟨_, rfl, ?_⟩
  (repeat' (first | split | simp [foldl_keep, foldl_cfg, guarded_pending, indGuarded_pending, guarded_mem, indGuarded_mem, guarded_hostMem, indGuarded_hostMem, guarded_otp, indGuarded_otp, guarded_pcie_cfg, indGuarded_pcie_cfg])) <;> simp_all [foldl_keep, foldl_cfg, guarded_pending, indGuarded_pending, guarded_mem, indGuarded_mem, guarded_hostMem, indGuarded_hostMem, guarded_otp, indGuarded_otp, guarded_pcie_cfg, indGuarded_pcie_cfg]

theorem execCoreFault_keep (x0 : Nat) (s : State) :
    ∃ t, execCoreFault x0 s = .next t ∧ t.pending = s.pending ∧ t.mem = s.mem ∧ t.hostMem = s.hostMem ∧ t.otp = s.otp ∧ t.pcie.cfg = s.pcie.cfg := by
  unfold execCoreFault
  refine ⟨_, rfl, ?_⟩
  (repeat' (first | split | simp [foldl_keep, foldl_cfg, guarded_pending, indGuarded_pending, guarded_mem, indGuarded_mem, guarded_hostMem, indGuarded_hostMem, guarded_otp, indGuarded_otp, guarded_pcie_cfg, indGuarded_pcie_cfg])) <;> simp_all [foldl_keep, foldl_cfg, guarded_pending, indGuarded_pending, guarded_mem, indGuarded_mem, guarded_hostMem, indGuarded_hostMem, guarded_otp, indGuarded_otp, guarded_pcie_cfg, indGuarded_pcie_cfg]

@[simp] theorem restartRecord_keep (s : State) (x1 : Nat) (x2 : Nat) (x3 : Nat) :
    (restartRecord s x1 x2 x3).pending = s.pending ∧ (restartRecord s x1 x2 x3).mem = s.mem ∧ (restartRecord s x1 x2 x3).hostMem = s.hostMem ∧ (restartRecord s x1 x2 x3).otp = s.otp ∧ (restartRecord s x1 x2 x3).pcie.cfg = s.pcie.cfg := by
  unfold restartRecord
  (repeat' (first | split | simp [foldl_keep, foldl_cfg])) <;> simp_all [foldl_keep, foldl_cfg]

theorem execCoreRestart_keep (x0 : Nat) (s : State) :
    ∃ t, execCoreRestart x0 s = .next t ∧ t.pending = s.pending ∧ t.mem = s.mem ∧ t.hostMem = s.hostMem ∧ t.otp = s.otp ∧ t.pcie.cfg = s.pcie.cfg := by
  unfold execCoreRestart
  refine ⟨_, rfl, ?_⟩
  (repeat' (first | split | simp [foldl_keep, foldl_cfg, guarded_pending, indGuarded_pending, guarded_mem, indGuarded_mem, guarded_hostMem, indGuarded_hostMem, guarded_otp, indGuarded_otp, guarded_pcie_cfg, indGuarded_pcie_cfg])) <;> simp_all [foldl_keep, foldl_cfg, guarded_pending, indGuarded_pending, guarded_mem, indGuarded_mem, guarded_hostMem, indGuarded_hostMem, guarded_otp, indGuarded_otp, guarded_pcie_cfg, indGuarded_pcie_cfg]

@[simp] theorem txqPost_keep (s : State) (x1 : Nat) (x2 : Nat) :
    (txqPost s x1 x2).pending = s.pending ∧ (txqPost s x1 x2).mem = s.mem ∧ (txqPost s x1 x2).hostMem = s.hostMem ∧ (txqPost s x1 x2).otp = s.otp ∧ (txqPost s x1 x2).pcie.cfg = s.pcie.cfg := by
  unfold txqPost
  (repeat' (first | split | simp [foldl_keep, foldl_cfg])) <;> simp_all [foldl_keep, foldl_cfg]

@[simp] theorem writeTxqIdx_keep (s : State) (x1 : Word) :
    (writeTxqIdx s x1).pending = s.pending ∧ (writeTxqIdx s x1).mem = s.mem ∧ (writeTxqIdx s x1).hostMem = s.hostMem ∧ (writeTxqIdx s x1).otp = s.otp ∧ (writeTxqIdx s x1).pcie.cfg = s.pcie.cfg := by
  unfold writeTxqIdx
  (repeat' (first | split | simp [foldl_keep, foldl_cfg])) <;> simp_all [foldl_keep, foldl_cfg]

theorem execTxqDoorbell_keep (x0 : Agent) (x1 : Word) (s : State) :
    ∃ t, execTxqDoorbell x0 x1 s = .next t ∧ t.pending = s.pending ∧ t.mem = s.mem ∧ t.hostMem = s.hostMem ∧ t.otp = s.otp ∧ t.pcie.cfg = s.pcie.cfg := by
  unfold execTxqDoorbell
  refine ⟨_, rfl, ?_⟩
  (repeat' (first | split | simp [foldl_keep, foldl_cfg, guarded_pending, indGuarded_pending, guarded_mem, indGuarded_mem, guarded_hostMem, indGuarded_hostMem, guarded_otp, indGuarded_otp, guarded_pcie_cfg, indGuarded_pcie_cfg])) <;> simp_all [foldl_keep, foldl_cfg, guarded_pending, indGuarded_pending, guarded_mem, indGuarded_mem, guarded_hostMem, indGuarded_hostMem, guarded_otp, indGuarded_otp, guarded_pcie_cfg, indGuarded_pcie_cfg]

@[simp] theorem txqRetire_keep (s : State) :
    (txqRetire s).pending = s.pending ∧ (txqRetire s).mem = s.mem ∧ (txqRetire s).hostMem = s.hostMem ∧ (txqRetire s).otp = s.otp ∧ (txqRetire s).pcie.cfg = s.pcie.cfg := by
  unfold txqRetire
  (repeat' (first | split | simp [foldl_keep, foldl_cfg])) <;> simp_all [foldl_keep, foldl_cfg]

theorem execTransmitDone_keep (x0 : Nat) (x1 : Nat) (s : State) :
    ∃ t, execTransmitDone x0 x1 s = .next t ∧ t.pending = s.pending ∧ t.mem = s.mem ∧ t.hostMem = s.hostMem ∧ t.otp = s.otp ∧ t.pcie.cfg = s.pcie.cfg := by
  unfold execTransmitDone
  refine ⟨_, rfl, ?_⟩
  (repeat' (first | split | simp [foldl_keep, foldl_cfg, guarded_pending, indGuarded_pending, guarded_mem, indGuarded_mem, guarded_hostMem, indGuarded_hostMem, guarded_otp, indGuarded_otp, guarded_pcie_cfg, indGuarded_pcie_cfg])) <;> simp_all [foldl_keep, foldl_cfg, guarded_pending, indGuarded_pending, guarded_mem, indGuarded_mem, guarded_hostMem, indGuarded_hostMem, guarded_otp, indGuarded_otp, guarded_pcie_cfg, indGuarded_pcie_cfg]

@[simp] theorem deviceReset_keep (s : State) :
    (deviceReset s).pending = s.pending ∧ (deviceReset s).mem = s.mem ∧ (deviceReset s).hostMem = s.hostMem ∧ (deviceReset s).otp = s.otp := by
  unfold deviceReset
  (repeat' (first | split | simp [foldl_keep, foldl_cfg])) <;> simp_all [foldl_keep, foldl_cfg]

@[simp] theorem resetFor_keep (s : State) (x1 : Nat) :
    (resetFor s x1).pending = s.pending ∧ (resetFor s x1).mem = s.mem ∧ (resetFor s x1).hostMem = s.hostMem ∧ (resetFor s x1).otp = s.otp := by
  unfold resetFor
  (repeat' (first | split | simp [foldl_keep, foldl_cfg])) <;> simp_all [foldl_keep, foldl_cfg]

theorem execPowerOnReset_keep (s : State) :
    ∃ t, execPowerOnReset s = .next t ∧ t.pending = s.pending ∧ t.hostMem = s.hostMem ∧ t.otp = s.otp := by
  unfold execPowerOnReset
  refine ⟨_, rfl, ?_⟩
  (repeat' (first | split | simp [foldl_keep, foldl_cfg, guarded_pending, indGuarded_pending, guarded_mem, indGuarded_mem, guarded_hostMem, indGuarded_hostMem, guarded_otp, indGuarded_otp, guarded_pcie_cfg, indGuarded_pcie_cfg])) <;> simp_all [foldl_keep, foldl_cfg, guarded_pending, indGuarded_pending, guarded_mem, indGuarded_mem, guarded_hostMem, indGuarded_hostMem, guarded_otp, indGuarded_otp, guarded_pcie_cfg, indGuarded_pcie_cfg]

theorem execResetPin_keep (x0 : Nat) (s : State) :
    ∃ t, execResetPin x0 s = .next t ∧ t.pending = s.pending ∧ t.mem = s.mem ∧ t.hostMem = s.hostMem ∧ t.otp = s.otp := by
  unfold execResetPin
  simp only []
  (repeat' split) <;> exact ⟨_, rfl, by simp⟩

@[simp] theorem writeDevRst_keep (s : State) (x1 : Word) :
    (writeDevRst s x1).pending = s.pending ∧ (writeDevRst s x1).mem = s.mem ∧ (writeDevRst s x1).hostMem = s.hostMem ∧ (writeDevRst s x1).otp = s.otp := by
  unfold writeDevRst
  (repeat' (first | split | simp [foldl_keep, foldl_cfg])) <;> simp_all [foldl_keep, foldl_cfg]

theorem execDevRst_keep (x0 : Agent) (x1 : Word) (s : State) :
    ∃ t, execDevRst x0 x1 s = .next t ∧ t.pending = s.pending ∧ t.mem = s.mem ∧ t.hostMem = s.hostMem ∧ t.otp = s.otp := by
  unfold execDevRst
  refine ⟨_, rfl, ?_⟩
  (repeat' (first | split | simp [foldl_keep, foldl_cfg, guarded_pending, indGuarded_pending, guarded_mem, indGuarded_mem, guarded_hostMem, indGuarded_hostMem, guarded_otp, indGuarded_otp, guarded_pcie_cfg, indGuarded_pcie_cfg])) <;> simp_all [foldl_keep, foldl_cfg, guarded_pending, indGuarded_pending, guarded_mem, indGuarded_mem, guarded_hostMem, indGuarded_hostMem, guarded_otp, indGuarded_otp, guarded_pcie_cfg, indGuarded_pcie_cfg]

theorem execResetRelease_keep (s : State) :
    ∃ t, execResetRelease s = .next t ∧ t.pending = s.pending ∧ t.mem = s.mem ∧ t.hostMem = s.hostMem ∧ t.otp = s.otp ∧ t.pcie.cfg = s.pcie.cfg := by
  unfold execResetRelease
  refine ⟨_, rfl, ?_⟩
  (repeat' (first | split | simp [foldl_keep, foldl_cfg, guarded_pending, indGuarded_pending, guarded_mem, indGuarded_mem, guarded_hostMem, indGuarded_hostMem, guarded_otp, indGuarded_otp, guarded_pcie_cfg, indGuarded_pcie_cfg])) <;> simp_all [foldl_keep, foldl_cfg, guarded_pending, indGuarded_pending, guarded_mem, indGuarded_mem, guarded_hostMem, indGuarded_hostMem, guarded_otp, indGuarded_otp, guarded_pcie_cfg, indGuarded_pcie_cfg]

theorem execSramInitDone_keep (s : State) :
    ∃ t, execSramInitDone s = .next t ∧ t.pending = s.pending ∧ t.mem = s.mem ∧ t.hostMem = s.hostMem ∧ t.otp = s.otp ∧ t.pcie.cfg = s.pcie.cfg := by
  unfold execSramInitDone
  refine ⟨_, rfl, ?_⟩
  (repeat' (first | split | simp [foldl_keep, foldl_cfg, guarded_pending, indGuarded_pending, guarded_mem, indGuarded_mem, guarded_hostMem, indGuarded_hostMem, guarded_otp, indGuarded_otp, guarded_pcie_cfg, indGuarded_pcie_cfg])) <;> simp_all [foldl_keep, foldl_cfg, guarded_pending, indGuarded_pending, guarded_mem, indGuarded_mem, guarded_hostMem, indGuarded_hostMem, guarded_otp, indGuarded_otp, guarded_pcie_cfg, indGuarded_pcie_cfg]

theorem execHbmTrained_keep (s : State) :
    ∃ t, execHbmTrained s = .next t ∧ t.pending = s.pending ∧ t.mem = s.mem ∧ t.hostMem = s.hostMem ∧ t.otp = s.otp ∧ t.pcie.cfg = s.pcie.cfg := by
  unfold execHbmTrained
  refine ⟨_, rfl, ?_⟩
  (repeat' (first | split | simp [foldl_keep, foldl_cfg, guarded_pending, indGuarded_pending, guarded_mem, indGuarded_mem, guarded_hostMem, indGuarded_hostMem, guarded_otp, indGuarded_otp, guarded_pcie_cfg, indGuarded_pcie_cfg])) <;> simp_all [foldl_keep, foldl_cfg, guarded_pending, indGuarded_pending, guarded_mem, indGuarded_mem, guarded_hostMem, indGuarded_hostMem, guarded_otp, indGuarded_otp, guarded_pcie_cfg, indGuarded_pcie_cfg]

theorem execRefSysLoss_keep (x0 : SysLoss) (s : State) :
    ∃ t, execRefSysLoss x0 s = .next t ∧ t.pending = s.pending ∧ t.mem = s.mem ∧ t.hostMem = s.hostMem ∧ t.otp = s.otp := by
  unfold execRefSysLoss
  refine ⟨_, rfl, ?_⟩
  (repeat' (first | split | simp [foldl_keep, foldl_cfg, guarded_pending, indGuarded_pending, guarded_mem, indGuarded_mem, guarded_hostMem, indGuarded_hostMem, guarded_otp, indGuarded_otp, guarded_pcie_cfg, indGuarded_pcie_cfg])) <;> simp_all [foldl_keep, foldl_cfg, guarded_pending, indGuarded_pending, guarded_mem, indGuarded_mem, guarded_hostMem, indGuarded_hostMem, guarded_otp, indGuarded_otp, guarded_pcie_cfg, indGuarded_pcie_cfg]

theorem execSupplyDip_keep (s : State) :
    ∃ t, execSupplyDip s = .next t ∧ t.pending = s.pending ∧ t.mem = s.mem ∧ t.hostMem = s.hostMem ∧ t.otp = s.otp := by
  unfold execSupplyDip
  refine ⟨_, rfl, ?_⟩
  (repeat' (first | split | simp [foldl_keep, foldl_cfg, guarded_pending, indGuarded_pending, guarded_mem, indGuarded_mem, guarded_hostMem, indGuarded_hostMem, guarded_otp, indGuarded_otp, guarded_pcie_cfg, indGuarded_pcie_cfg])) <;> simp_all [foldl_keep, foldl_cfg, guarded_pending, indGuarded_pending, guarded_mem, indGuarded_mem, guarded_hostMem, indGuarded_hostMem, guarded_otp, indGuarded_otp, guarded_pcie_cfg, indGuarded_pcie_cfg]

theorem execThermalTrip_keep (s : State) :
    ∃ t, execThermalTrip s = .next t ∧ t.pending = s.pending ∧ t.mem = s.mem ∧ t.hostMem = s.hostMem ∧ t.otp = s.otp := by
  unfold execThermalTrip
  refine ⟨_, rfl, ?_⟩
  (repeat' (first | split | simp [foldl_keep, foldl_cfg, guarded_pending, indGuarded_pending, guarded_mem, indGuarded_mem, guarded_hostMem, indGuarded_hostMem, guarded_otp, indGuarded_otp, guarded_pcie_cfg, indGuarded_pcie_cfg])) <;> simp_all [foldl_keep, foldl_cfg, guarded_pending, indGuarded_pending, guarded_mem, indGuarded_mem, guarded_hostMem, indGuarded_hostMem, guarded_otp, indGuarded_otp, guarded_pcie_cfg, indGuarded_pcie_cfg]

theorem execOctetPllUnlock_keep (x0 : Nat) (s : State) :
    ∃ t, execOctetPllUnlock x0 s = .next t ∧ t.pending = s.pending ∧ t.mem = s.mem ∧ t.hostMem = s.hostMem ∧ t.otp = s.otp ∧ t.pcie.cfg = s.pcie.cfg := by
  unfold execOctetPllUnlock
  refine ⟨_, rfl, ?_⟩
  (repeat' (first | split | simp [foldl_keep, foldl_cfg, guarded_pending, indGuarded_pending, guarded_mem, indGuarded_mem, guarded_hostMem, indGuarded_hostMem, guarded_otp, indGuarded_otp, guarded_pcie_cfg, indGuarded_pcie_cfg])) <;> simp_all [foldl_keep, foldl_cfg, guarded_pending, indGuarded_pending, guarded_mem, indGuarded_mem, guarded_hostMem, indGuarded_hostMem, guarded_otp, indGuarded_otp, guarded_pcie_cfg, indGuarded_pcie_cfg]

theorem execOctetPllRelock_keep (x0 : Nat) (s : State) :
    ∃ t, execOctetPllRelock x0 s = .next t ∧ t.pending = s.pending ∧ t.mem = s.mem ∧ t.hostMem = s.hostMem ∧ t.otp = s.otp ∧ t.pcie.cfg = s.pcie.cfg := by
  unfold execOctetPllRelock
  refine ⟨_, rfl, ?_⟩
  (repeat' (first | split | simp [foldl_keep, foldl_cfg, guarded_pending, indGuarded_pending, guarded_mem, indGuarded_mem, guarded_hostMem, indGuarded_hostMem, guarded_otp, indGuarded_otp, guarded_pcie_cfg, indGuarded_pcie_cfg])) <;> simp_all [foldl_keep, foldl_cfg, guarded_pending, indGuarded_pending, guarded_mem, indGuarded_mem, guarded_hostMem, indGuarded_hostMem, guarded_otp, indGuarded_otp, guarded_pcie_cfg, indGuarded_pcie_cfg]

theorem execIgPllUnlock_keep (x0 : Nat) (s : State) :
    ∃ t, execIgPllUnlock x0 s = .next t ∧ t.pending = s.pending ∧ t.mem = s.mem ∧ t.hostMem = s.hostMem ∧ t.otp = s.otp ∧ t.pcie.cfg = s.pcie.cfg := by
  unfold execIgPllUnlock
  refine ⟨_, rfl, ?_⟩
  (repeat' (first | split | simp [foldl_keep, foldl_cfg, guarded_pending, indGuarded_pending, guarded_mem, indGuarded_mem, guarded_hostMem, indGuarded_hostMem, guarded_otp, indGuarded_otp, guarded_pcie_cfg, indGuarded_pcie_cfg])) <;> simp_all [foldl_keep, foldl_cfg, guarded_pending, indGuarded_pending, guarded_mem, indGuarded_mem, guarded_hostMem, indGuarded_hostMem, guarded_otp, indGuarded_otp, guarded_pcie_cfg, indGuarded_pcie_cfg]

theorem execIgPllRelock_keep (x0 : Nat) (s : State) :
    ∃ t, execIgPllRelock x0 s = .next t ∧ t.pending = s.pending ∧ t.mem = s.mem ∧ t.hostMem = s.hostMem ∧ t.otp = s.otp ∧ t.pcie.cfg = s.pcie.cfg := by
  unfold execIgPllRelock
  refine ⟨_, rfl, ?_⟩
  (repeat' (first | split | simp [foldl_keep, foldl_cfg, guarded_pending, indGuarded_pending, guarded_mem, indGuarded_mem, guarded_hostMem, indGuarded_hostMem, guarded_otp, indGuarded_otp, guarded_pcie_cfg, indGuarded_pcie_cfg])) <;> simp_all [foldl_keep, foldl_cfg, guarded_pending, indGuarded_pending, guarded_mem, indGuarded_mem, guarded_hostMem, indGuarded_hostMem, guarded_otp, indGuarded_otp, guarded_pcie_cfg, indGuarded_pcie_cfg]

@[simp] theorem unlockSdi_keep (s : State) :
    (unlockSdi s).pending = s.pending ∧ (unlockSdi s).mem = s.mem ∧ (unlockSdi s).hostMem = s.hostMem ∧ (unlockSdi s).otp = s.otp ∧ (unlockSdi s).pcie.cfg = s.pcie.cfg := by
  unfold unlockSdi
  (repeat' (first | split | simp [foldl_keep, foldl_cfg])) <;> simp_all [foldl_keep, foldl_cfg]

theorem execRefSdiLoss_keep (s : State) :
    ∃ t, execRefSdiLoss s = .next t ∧ t.pending = s.pending ∧ t.mem = s.mem ∧ t.hostMem = s.hostMem ∧ t.otp = s.otp ∧ t.pcie.cfg = s.pcie.cfg := by
  unfold execRefSdiLoss
  refine ⟨_, rfl, ?_⟩
  (repeat' (first | split | simp [foldl_keep, foldl_cfg, guarded_pending, indGuarded_pending, guarded_mem, indGuarded_mem, guarded_hostMem, indGuarded_hostMem, guarded_otp, indGuarded_otp, guarded_pcie_cfg, indGuarded_pcie_cfg])) <;> simp_all [foldl_keep, foldl_cfg, guarded_pending, indGuarded_pending, guarded_mem, indGuarded_mem, guarded_hostMem, indGuarded_hostMem, guarded_otp, indGuarded_otp, guarded_pcie_cfg, indGuarded_pcie_cfg]

theorem execRefSdiReturn_keep (s : State) :
    ∃ t, execRefSdiReturn s = .next t ∧ t.pending = s.pending ∧ t.mem = s.mem ∧ t.hostMem = s.hostMem ∧ t.otp = s.otp ∧ t.pcie.cfg = s.pcie.cfg := by
  unfold execRefSdiReturn
  refine ⟨_, rfl, ?_⟩
  (repeat' (first | split | simp [foldl_keep, foldl_cfg, guarded_pending, indGuarded_pending, guarded_mem, indGuarded_mem, guarded_hostMem, indGuarded_hostMem, guarded_otp, indGuarded_otp, guarded_pcie_cfg, indGuarded_pcie_cfg])) <;> simp_all [foldl_keep, foldl_cfg, guarded_pending, indGuarded_pending, guarded_mem, indGuarded_mem, guarded_hostMem, indGuarded_hostMem, guarded_otp, indGuarded_otp, guarded_pcie_cfg, indGuarded_pcie_cfg]

theorem execRefAonLoss_keep (s : State) :
    ∃ t, execRefAonLoss s = .next t ∧ t.pending = s.pending ∧ t.mem = s.mem ∧ t.hostMem = s.hostMem ∧ t.otp = s.otp ∧ t.pcie.cfg = s.pcie.cfg := by
  unfold execRefAonLoss
  refine ⟨_, rfl, ?_⟩
  (repeat' (first | split | simp [foldl_keep, foldl_cfg, guarded_pending, indGuarded_pending, guarded_mem, indGuarded_mem, guarded_hostMem, indGuarded_hostMem, guarded_otp, indGuarded_otp, guarded_pcie_cfg, indGuarded_pcie_cfg])) <;> simp_all [foldl_keep, foldl_cfg, guarded_pending, indGuarded_pending, guarded_mem, indGuarded_mem, guarded_hostMem, indGuarded_hostMem, guarded_otp, indGuarded_otp, guarded_pcie_cfg, indGuarded_pcie_cfg]

theorem execRefAonReturn_keep (s : State) :
    ∃ t, execRefAonReturn s = .next t ∧ t.pending = s.pending ∧ t.mem = s.mem ∧ t.hostMem = s.hostMem ∧ t.otp = s.otp ∧ t.pcie.cfg = s.pcie.cfg := by
  unfold execRefAonReturn
  refine ⟨_, rfl, ?_⟩
  (repeat' (first | split | simp [foldl_keep, foldl_cfg, guarded_pending, indGuarded_pending, guarded_mem, indGuarded_mem, guarded_hostMem, indGuarded_hostMem, guarded_otp, indGuarded_otp, guarded_pcie_cfg, indGuarded_pcie_cfg])) <;> simp_all [foldl_keep, foldl_cfg, guarded_pending, indGuarded_pending, guarded_mem, indGuarded_mem, guarded_hostMem, indGuarded_hostMem, guarded_otp, indGuarded_otp, guarded_pcie_cfg, indGuarded_pcie_cfg]

theorem execPcieLinkChange_keep (x0 : PcieLink) (s : State) :
    ∃ t, execPcieLinkChange x0 s = .next t ∧ t.pending = s.pending ∧ t.otp = s.otp ∧ t.pcie.cfg = s.pcie.cfg := by
  unfold execPcieLinkChange
  refine ⟨_, rfl, ?_⟩
  (repeat' (first | split | simp [foldl_keep, foldl_cfg, guarded_pending, indGuarded_pending, guarded_mem, indGuarded_mem, guarded_hostMem, indGuarded_hostMem, guarded_otp, indGuarded_otp, guarded_pcie_cfg, indGuarded_pcie_cfg])) <;> simp_all [foldl_keep, foldl_cfg, guarded_pending, indGuarded_pending, guarded_mem, indGuarded_mem, guarded_hostMem, indGuarded_hostMem, guarded_otp, indGuarded_otp, guarded_pcie_cfg, indGuarded_pcie_cfg]

theorem execPcieDomainReset_keep (x0 : PcieResetBy) (s : State) :
    ∃ t, execPcieDomainReset x0 s = .next t ∧ t.pending = s.pending ∧ t.mem = s.mem ∧ t.hostMem = s.hostMem ∧ t.otp = s.otp := by
  unfold execPcieDomainReset
  refine ⟨_, rfl, ?_⟩
  (repeat' (first | split | simp [foldl_keep, foldl_cfg, guarded_pending, indGuarded_pending, guarded_mem, indGuarded_mem, guarded_hostMem, indGuarded_hostMem, guarded_otp, indGuarded_otp, guarded_pcie_cfg, indGuarded_pcie_cfg])) <;> simp_all [foldl_keep, foldl_cfg, guarded_pending, indGuarded_pending, guarded_mem, indGuarded_mem, guarded_hostMem, indGuarded_hostMem, guarded_otp, indGuarded_otp, guarded_pcie_cfg, indGuarded_pcie_cfg]

theorem execPcieDomainRelease_keep (s : State) :
    ∃ t, execPcieDomainRelease s = .next t ∧ t.pending = s.pending ∧ t.mem = s.mem ∧ t.hostMem = s.hostMem ∧ t.otp = s.otp ∧ t.pcie.cfg = s.pcie.cfg := by
  unfold execPcieDomainRelease
  refine ⟨_, rfl, ?_⟩
  (repeat' (first | split | simp [foldl_keep, foldl_cfg, guarded_pending, indGuarded_pending, guarded_mem, indGuarded_mem, guarded_hostMem, indGuarded_hostMem, guarded_otp, indGuarded_otp, guarded_pcie_cfg, indGuarded_pcie_cfg])) <;> simp_all [foldl_keep, foldl_cfg, guarded_pending, indGuarded_pending, guarded_mem, indGuarded_mem, guarded_hostMem, indGuarded_hostMem, guarded_otp, indGuarded_otp, guarded_pcie_cfg, indGuarded_pcie_cfg]

theorem execConfigurationWrite_keep (x0 : PcieCfg) (x1 : Bool) (s : State) :
    ∃ t, execConfigurationWrite x0 s x1 = .next t ∧ t.pending = s.pending ∧ t.otp = s.otp := by
  unfold execConfigurationWrite
  refine ⟨_, rfl, ?_⟩
  (repeat' (first | split | simp [foldl_keep, foldl_cfg, guarded_pending, indGuarded_pending, guarded_mem, indGuarded_mem, guarded_hostMem, indGuarded_hostMem, guarded_otp, indGuarded_otp, guarded_pcie_cfg, indGuarded_pcie_cfg])) <;> simp_all [foldl_keep, foldl_cfg, guarded_pending, indGuarded_pending, guarded_mem, indGuarded_mem, guarded_hostMem, indGuarded_hostMem, guarded_otp, indGuarded_otp, guarded_pcie_cfg, indGuarded_pcie_cfg]

theorem execCompletionTimeout_keep (s : State) :
    ∃ t, execCompletionTimeout s = .next t ∧ t.pending = s.pending ∧ t.mem = s.mem ∧ t.hostMem = s.hostMem ∧ t.otp = s.otp ∧ t.pcie.cfg = s.pcie.cfg := by
  unfold execCompletionTimeout
  refine ⟨_, rfl, ?_⟩
  (repeat' (first | split | simp [foldl_keep, foldl_cfg, guarded_pending, indGuarded_pending, guarded_mem, indGuarded_mem, guarded_hostMem, indGuarded_hostMem, guarded_otp, indGuarded_otp, guarded_pcie_cfg, indGuarded_pcie_cfg])) <;> simp_all [foldl_keep, foldl_cfg, guarded_pending, indGuarded_pending, guarded_mem, indGuarded_mem, guarded_hostMem, indGuarded_hostMem, guarded_otp, indGuarded_otp, guarded_pcie_cfg, indGuarded_pcie_cfg]

theorem execHbmRetrain_keep (x0 : Nat) (s : State) :
    ∃ t, execHbmRetrain x0 s = .next t ∧ t.pending = s.pending ∧ t.mem = s.mem ∧ t.hostMem = s.hostMem ∧ t.otp = s.otp ∧ t.pcie.cfg = s.pcie.cfg := by
  unfold execHbmRetrain
  refine ⟨_, rfl, ?_⟩
  (repeat' (first | split | simp [foldl_keep, foldl_cfg, guarded_pending, indGuarded_pending, guarded_mem, indGuarded_mem, guarded_hostMem, indGuarded_hostMem, guarded_otp, indGuarded_otp, guarded_pcie_cfg, indGuarded_pcie_cfg])) <;> simp_all [foldl_keep, foldl_cfg, guarded_pending, indGuarded_pending, guarded_mem, indGuarded_mem, guarded_hostMem, indGuarded_hostMem, guarded_otp, indGuarded_otp, guarded_pcie_cfg, indGuarded_pcie_cfg]

theorem execHbmRetrainingDone_keep (x0 : Nat) (s : State) :
    ∃ t, execHbmRetrainingDone x0 s = .next t ∧ t.pending = s.pending ∧ t.mem = s.mem ∧ t.hostMem = s.hostMem ∧ t.otp = s.otp ∧ t.pcie.cfg = s.pcie.cfg := by
  unfold execHbmRetrainingDone
  refine ⟨_, rfl, ?_⟩
  (repeat' (first | split | simp [foldl_keep, foldl_cfg, guarded_pending, indGuarded_pending, guarded_mem, indGuarded_mem, guarded_hostMem, indGuarded_hostMem, guarded_otp, indGuarded_otp, guarded_pcie_cfg, indGuarded_pcie_cfg])) <;> simp_all [foldl_keep, foldl_cfg, guarded_pending, indGuarded_pending, guarded_mem, indGuarded_mem, guarded_hostMem, indGuarded_hostMem, guarded_otp, indGuarded_otp, guarded_pcie_cfg, indGuarded_pcie_cfg]

@[simp] theorem linksDown_keep (s : State) :
    (linksDown s).pending = s.pending ∧ (linksDown s).mem = s.mem ∧ (linksDown s).hostMem = s.hostMem ∧ (linksDown s).otp = s.otp ∧ (linksDown s).pcie.cfg = s.pcie.cfg := by
  unfold linksDown
  (repeat' (first | split | simp [foldl_keep, foldl_cfg])) <;> simp_all [foldl_keep, foldl_cfg]

@[simp] theorem enterStandby_keep (s : State) :
    (enterStandby s).pending = s.pending ∧ (enterStandby s).mem = s.mem ∧ (enterStandby s).hostMem = s.hostMem ∧ (enterStandby s).otp = s.otp ∧ (enterStandby s).pcie.cfg = s.pcie.cfg := by
  unfold enterStandby
  (repeat' (first | split | simp [foldl_keep, foldl_cfg])) <;> simp_all [foldl_keep, foldl_cfg]

@[simp] theorem settleSamples_keep (s : State) (x1 : Nat) :
    (settleSamples s x1).pending = s.pending ∧ (settleSamples s x1).mem = s.mem ∧ (settleSamples s x1).hostMem = s.hostMem ∧ (settleSamples s x1).otp = s.otp ∧ (settleSamples s x1).pcie.cfg = s.pcie.cfg := by
  unfold settleSamples
  generalize List.range 256 = l
  simp [foldl_keep, foldl_cfg]

@[simp] theorem leaveStandby_keep (s : State) :
    (leaveStandby s).pending = s.pending ∧ (leaveStandby s).mem = s.mem ∧ (leaveStandby s).hostMem = s.hostMem ∧ (leaveStandby s).otp = s.otp ∧ (leaveStandby s).pcie.cfg = s.pcie.cfg := by
  have h := settleSamples_keep s (nowNs s)
  simp only [leaveStandby, h, and_self]

@[simp] theorem applyPwr_keep (s : State) (x1 : Bool) :
    (applyPwr s x1).pending = s.pending ∧ (applyPwr s x1).mem = s.mem ∧ (applyPwr s x1).hostMem = s.hostMem ∧ (applyPwr s x1).otp = s.otp ∧ (applyPwr s x1).pcie.cfg = s.pcie.cfg := by
  unfold applyPwr
  (repeat' (first | split | simp [foldl_keep, foldl_cfg])) <;> simp_all [foldl_keep, foldl_cfg]

@[simp] theorem writePwrCtrl_keep (s : State) (x1 : Word) :
    (writePwrCtrl s x1).pending = s.pending ∧ (writePwrCtrl s x1).mem = s.mem ∧ (writePwrCtrl s x1).hostMem = s.hostMem ∧ (writePwrCtrl s x1).otp = s.otp ∧ (writePwrCtrl s x1).pcie.cfg = s.pcie.cfg := by
  unfold writePwrCtrl
  (repeat' (first | split | simp [foldl_keep, foldl_cfg])) <;> simp_all [foldl_keep, foldl_cfg]

theorem execStandbyEnter_keep (x0 : Agent) (x1 : Word) (s : State) :
    ∃ t, execStandbyEnter x0 x1 s = .next t ∧ t.pending = s.pending ∧ t.mem = s.mem ∧ t.hostMem = s.hostMem ∧ t.otp = s.otp ∧ t.pcie.cfg = s.pcie.cfg := by
  unfold execStandbyEnter
  refine ⟨_, rfl, ?_⟩
  (repeat' (first | split | simp [foldl_keep, foldl_cfg, guarded_pending, indGuarded_pending, guarded_mem, indGuarded_mem, guarded_hostMem, indGuarded_hostMem, guarded_otp, indGuarded_otp, guarded_pcie_cfg, indGuarded_pcie_cfg])) <;> simp_all [foldl_keep, foldl_cfg, guarded_pending, indGuarded_pending, guarded_mem, indGuarded_mem, guarded_hostMem, indGuarded_hostMem, guarded_otp, indGuarded_otp, guarded_pcie_cfg, indGuarded_pcie_cfg]

theorem execStandbyLeave_keep (x0 : Agent) (x1 : Word) (s : State) :
    ∃ t, execStandbyLeave x0 x1 s = .next t ∧ t.pending = s.pending ∧ t.mem = s.mem ∧ t.hostMem = s.hostMem ∧ t.otp = s.otp ∧ t.pcie.cfg = s.pcie.cfg := by
  unfold execStandbyLeave
  refine ⟨_, rfl, ?_⟩
  (repeat' (first | split | simp [foldl_keep, foldl_cfg, guarded_pending, indGuarded_pending, guarded_mem, indGuarded_mem, guarded_hostMem, indGuarded_hostMem, guarded_otp, indGuarded_otp, guarded_pcie_cfg, indGuarded_pcie_cfg])) <;> simp_all [foldl_keep, foldl_cfg, guarded_pending, indGuarded_pending, guarded_mem, indGuarded_mem, guarded_hostMem, indGuarded_hostMem, guarded_otp, indGuarded_otp, guarded_pcie_cfg, indGuarded_pcie_cfg]

@[simp] theorem settlePwr_keep (s : State) (x1 : PwrMode) :
    (settlePwr s x1).pending = s.pending ∧ (settlePwr s x1).mem = s.mem ∧ (settlePwr s x1).hostMem = s.hostMem ∧ (settlePwr s x1).otp = s.otp ∧ (settlePwr s x1).pcie.cfg = s.pcie.cfg := by
  unfold settlePwr
  (repeat' (first | split | simp [foldl_keep, foldl_cfg])) <;> simp_all [foldl_keep, foldl_cfg]

theorem execStandbyTransitionDone_keep (s : State) :
    ∃ t, execStandbyTransitionDone s = .next t ∧ t.pending = s.pending ∧ t.mem = s.mem ∧ t.hostMem = s.hostMem ∧ t.otp = s.otp ∧ t.pcie.cfg = s.pcie.cfg := by
  unfold execStandbyTransitionDone
  refine ⟨_, rfl, ?_⟩
  (repeat' (first | split | simp [foldl_keep, foldl_cfg, guarded_pending, indGuarded_pending, guarded_mem, indGuarded_mem, guarded_hostMem, indGuarded_hostMem, guarded_otp, indGuarded_otp, guarded_pcie_cfg, indGuarded_pcie_cfg])) <;> simp_all [foldl_keep, foldl_cfg, guarded_pending, indGuarded_pending, guarded_mem, indGuarded_mem, guarded_hostMem, indGuarded_hostMem, guarded_otp, indGuarded_otp, guarded_pcie_cfg, indGuarded_pcie_cfg]

theorem execRailSample_keep (x0 : List Nat) (x1 : List Nat) (s : State) :
    ∃ t, execRailSample x0 x1 s = .next t ∧ t.pending = s.pending ∧ t.mem = s.mem ∧ t.hostMem = s.hostMem ∧ t.otp = s.otp ∧ t.pcie.cfg = s.pcie.cfg := by
  unfold execRailSample
  refine ⟨_, rfl, ?_⟩
  (repeat' (first | split | simp [foldl_keep, foldl_cfg, guarded_pending, indGuarded_pending, guarded_mem, indGuarded_mem, guarded_hostMem, indGuarded_hostMem, guarded_otp, indGuarded_otp, guarded_pcie_cfg, indGuarded_pcie_cfg])) <;> simp_all [foldl_keep, foldl_cfg, guarded_pending, indGuarded_pending, guarded_mem, indGuarded_mem, guarded_hostMem, indGuarded_hostMem, guarded_otp, indGuarded_otp, guarded_pcie_cfg, indGuarded_pcie_cfg]

theorem execPowerSample_keep (x0 : Nat) (x1 : Nat) (s : State) :
    ∃ t, execPowerSample x0 x1 s = .next t ∧ t.pending = s.pending ∧ t.mem = s.mem ∧ t.hostMem = s.hostMem ∧ t.otp = s.otp ∧ t.pcie.cfg = s.pcie.cfg := by
  unfold execPowerSample
  refine ⟨_, rfl, ?_⟩
  (repeat' (first | split | simp [foldl_keep, foldl_cfg, guarded_pending, indGuarded_pending, guarded_mem, indGuarded_mem, guarded_hostMem, indGuarded_hostMem, guarded_otp, indGuarded_otp, guarded_pcie_cfg, indGuarded_pcie_cfg])) <;> simp_all [foldl_keep, foldl_cfg, guarded_pending, indGuarded_pending, guarded_mem, indGuarded_mem, guarded_hostMem, indGuarded_hostMem, guarded_otp, indGuarded_otp, guarded_pcie_cfg, indGuarded_pcie_cfg]

theorem execTemperatureSample_keep (x0 : List (BitVec 16)) (x1 : List Nat) (s : State) :
    ∃ t, execTemperatureSample x0 x1 s = .next t ∧ t.pending = s.pending ∧ t.mem = s.mem ∧ t.hostMem = s.hostMem ∧ t.otp = s.otp ∧ t.pcie.cfg = s.pcie.cfg := by
  unfold execTemperatureSample
  refine ⟨_, rfl, ?_⟩
  (repeat' (first | split | simp [foldl_keep, foldl_cfg, guarded_pending, indGuarded_pending, guarded_mem, indGuarded_mem, guarded_hostMem, indGuarded_hostMem, guarded_otp, indGuarded_otp, guarded_pcie_cfg, indGuarded_pcie_cfg])) <;> simp_all [foldl_keep, foldl_cfg, guarded_pending, indGuarded_pending, guarded_mem, indGuarded_mem, guarded_hostMem, indGuarded_hostMem, guarded_otp, indGuarded_otp, guarded_pcie_cfg, indGuarded_pcie_cfg]

theorem execFrequencyMeasurement_keep (x0 : List Nat) (s : State) :
    ∃ t, execFrequencyMeasurement x0 s = .next t ∧ t.pending = s.pending ∧ t.mem = s.mem ∧ t.hostMem = s.hostMem ∧ t.otp = s.otp ∧ t.pcie.cfg = s.pcie.cfg := by
  unfold execFrequencyMeasurement
  refine ⟨_, rfl, ?_⟩
  (repeat' (first | split | simp [foldl_keep, foldl_cfg, guarded_pending, indGuarded_pending, guarded_mem, indGuarded_mem, guarded_hostMem, indGuarded_hostMem, guarded_otp, indGuarded_otp, guarded_pcie_cfg, indGuarded_pcie_cfg])) <;> simp_all [foldl_keep, foldl_cfg, guarded_pending, indGuarded_pending, guarded_mem, indGuarded_mem, guarded_hostMem, indGuarded_hostMem, guarded_otp, indGuarded_otp, guarded_pcie_cfg, indGuarded_pcie_cfg]

@[simp] theorem windowRead_keep (s : State) (x1 : Agent) (x2 : PageKind) (x3 : Nat) (x4 : Nat) (x5 : Ecc) :
    (windowRead s x1 x2 x3 x4 x5).2.pending = s.pending ∧ (windowRead s x1 x2 x3 x4 x5).2.mem = s.mem ∧ (windowRead s x1 x2 x3 x4 x5).2.hostMem = s.hostMem ∧ (windowRead s x1 x2 x3 x4 x5).2.otp = s.otp ∧ (windowRead s x1 x2 x3 x4 x5).2.pcie.cfg = s.pcie.cfg := by
  unfold windowRead
  (repeat' (first | split | simp [foldl_keep, foldl_cfg])) <;> simp_all [foldl_keep, foldl_cfg]

@[simp] theorem windowMeets_keep (s : State) (x1 : Agent) (x2 : PageKind) (x3 : Nat) (x4 : Nat) (x5 : Ecc) :
    (windowMeets s x1 x2 x3 x4 x5).2.pending = s.pending ∧ (windowMeets s x1 x2 x3 x4 x5).2.mem = s.mem ∧ (windowMeets s x1 x2 x3 x4 x5).2.hostMem = s.hostMem ∧ (windowMeets s x1 x2 x3 x4 x5).2.otp = s.otp ∧ (windowMeets s x1 x2 x3 x4 x5).2.pcie.cfg = s.pcie.cfg := by
  unfold windowMeets
  (repeat' (first | split | simp [foldl_keep, foldl_cfg])) <;> simp_all [foldl_keep, foldl_cfg]

@[simp] theorem writePitch_keep (s : State) (x1 : Nat) (x2 : Nat) (x3 : Word) :
    (writePitch s x1 x2 x3).pending = s.pending ∧ (writePitch s x1 x2 x3).mem = s.mem ∧ (writePitch s x1 x2 x3).hostMem = s.hostMem ∧ (writePitch s x1 x2 x3).otp = s.otp ∧ (writePitch s x1 x2 x3).pcie.cfg = s.pcie.cfg := by
  unfold writePitch
  (repeat' (first | split | simp [foldl_keep, foldl_cfg])) <;> simp_all [foldl_keep, foldl_cfg]

@[simp] theorem windowWrite_keep (s : State) (x1 : Agent) (x2 : PageKind) (x3 : Nat) (x4 : Nat) (x5 : Word) :
    (windowWrite s x1 x2 x3 x4 x5).pending = s.pending ∧ (windowWrite s x1 x2 x3 x4 x5).mem = s.mem ∧ (windowWrite s x1 x2 x3 x4 x5).hostMem = s.hostMem ∧ (windowWrite s x1 x2 x3 x4 x5).otp = s.otp ∧ (windowWrite s x1 x2 x3 x4 x5).pcie.cfg = s.pcie.cfg := by
  unfold windowWrite
  (repeat' (first | split | simp [foldl_keep, foldl_cfg])) <;> simp_all [foldl_keep, foldl_cfg]

theorem execIndDataRead_keep (x0 : Agent) (x1 : Nat) (x2 : Ecc) (s : State) :
    ∃ t, execIndDataRead x0 x1 x2 s = .next t ∧ t.pending = s.pending ∧ t.mem = s.mem ∧ t.hostMem = s.hostMem ∧ t.otp = s.otp ∧ t.pcie.cfg = s.pcie.cfg := by
  unfold execIndDataRead
  refine ⟨_, rfl, ?_⟩
  (repeat' (first | split | simp [foldl_keep, foldl_cfg, guarded_pending, indGuarded_pending, guarded_mem, indGuarded_mem, guarded_hostMem, indGuarded_hostMem, guarded_otp, indGuarded_otp, guarded_pcie_cfg, indGuarded_pcie_cfg])) <;> simp_all [foldl_keep, foldl_cfg, guarded_pending, indGuarded_pending, guarded_mem, indGuarded_mem, guarded_hostMem, indGuarded_hostMem, guarded_otp, indGuarded_otp, guarded_pcie_cfg, indGuarded_pcie_cfg]

theorem execIndDataWrite_keep (x0 : Agent) (x1 : Nat) (x2 : Word) (s : State) :
    ∃ t, execIndDataWrite x0 x1 x2 s = .next t ∧ t.pending = s.pending ∧ t.mem = s.mem ∧ t.hostMem = s.hostMem ∧ t.otp = s.otp ∧ t.pcie.cfg = s.pcie.cfg := by
  unfold execIndDataWrite
  refine ⟨_, rfl, ?_⟩
  (repeat' (first | split | simp [foldl_keep, foldl_cfg, guarded_pending, indGuarded_pending, guarded_mem, indGuarded_mem, guarded_hostMem, indGuarded_hostMem, guarded_otp, indGuarded_otp, guarded_pcie_cfg, indGuarded_pcie_cfg])) <;> simp_all [foldl_keep, foldl_cfg, guarded_pending, indGuarded_pending, guarded_mem, indGuarded_mem, guarded_hostMem, indGuarded_hostMem, guarded_otp, indGuarded_otp, guarded_pcie_cfg, indGuarded_pcie_cfg]

@[simp] theorem settleReturn_keep (s : State) (x1 : Nat) :
    (settleReturn s x1).pending = s.pending ∧ (settleReturn s x1).mem = s.mem ∧ (settleReturn s x1).hostMem = s.hostMem ∧ (settleReturn s x1).otp = s.otp ∧ (settleReturn s x1).pcie.cfg = s.pcie.cfg := by
  unfold settleReturn
  (repeat' (first | split | simp [foldl_keep, foldl_cfg])) <;> simp_all [foldl_keep, foldl_cfg]

@[simp] theorem settleAwning_keep (s : State) (x1 : Nat) :
    (settleAwning s x1).pending = s.pending ∧ (settleAwning s x1).mem = s.mem ∧ (settleAwning s x1).hostMem = s.hostMem ∧ (settleAwning s x1).otp = s.otp ∧ (settleAwning s x1).pcie.cfg = s.pcie.cfg := by
  unfold settleAwning
  (repeat' (first | split | simp [foldl_keep, foldl_cfg])) <;> simp_all [foldl_keep, foldl_cfg]

@[simp] theorem beforeWrite_keep (s : State) (x1 : PageKind) (x2 : Nat) (x3 : Nat) :
    (beforeWrite s x1 x2 x3).pending = s.pending ∧ (beforeWrite s x1 x2 x3).mem = s.mem ∧ (beforeWrite s x1 x2 x3).hostMem = s.hostMem ∧ (beforeWrite s x1 x2 x3).otp = s.otp ∧ (beforeWrite s x1 x2 x3).pcie.cfg = s.pcie.cfg := by
  unfold beforeWrite
  (repeat' (first | split | simp [foldl_keep, foldl_cfg])) <;> simp_all [foldl_keep, foldl_cfg]

@[simp] theorem notePage_keep (s : State) (x1 : Nat) :
    (notePage s x1).pending = s.pending ∧ (notePage s x1).mem = s.mem ∧ (notePage s x1).hostMem = s.hostMem ∧ (notePage s x1).otp = s.otp ∧ (notePage s x1).pcie.cfg = s.pcie.cfg := by
  unfold notePage
  (repeat' (first | split | simp [foldl_keep, foldl_cfg])) <;> simp_all [foldl_keep, foldl_cfg]

@[simp] theorem wroteSession_pending (s t : State) (p se : Nat) : (wroteSession s t p se).pending = t.pending := by
  unfold wroteSession
  simp only []
  split
  · simp
  · split <;> simp

@[simp] theorem wroteTxq_pending (s t : State) : (wroteTxq s t).pending = t.pending := by
  unfold wroteTxq
  simp only []
  split <;> simp

@[simp] theorem afterWrite_pending (s t : State) (k : PageKind) (i off : Nat) : (afterWrite s t k i off).pending = t.pending := by
  unfold afterWrite
  (repeat' (first | split | simp [foldl_keep, foldl_cfg])) <;> simp_all [foldl_keep, foldl_cfg]

@[simp] theorem wroteSession_mem (s t : State) (p se : Nat) : (wroteSession s t p se).mem = t.mem := by
  unfold wroteSession
  simp only []
  split
  · simp
  · split <;> simp

@[simp] theorem wroteTxq_mem (s t : State) : (wroteTxq s t).mem = t.mem := by
  unfold wroteTxq
  simp only []
  split <;> simp

@[simp] theorem wroteSession_hostMem (s t : State) (p se : Nat) : (wroteSession s t p se).hostMem = t.hostMem := by
  unfold wroteSession
  simp only []
  split
  · simp
  · split <;> simp

@[simp] theorem wroteTxq_hostMem (s t : State) : (wroteTxq s t).hostMem = t.hostMem := by
  unfold wroteTxq
  simp only []
  split <;> simp

@[simp] theorem wroteSession_otp (s t : State) (p se : Nat) : (wroteSession s t p se).otp = t.otp := by
  unfold wroteSession
  simp only []
  split
  · simp
  · split <;> simp

@[simp] theorem wroteTxq_otp (s t : State) : (wroteTxq s t).otp = t.otp := by
  unfold wroteTxq
  simp only []
  split <;> simp

@[simp] theorem afterWrite_otp (s t : State) (k : PageKind) (i off : Nat) : (afterWrite s t k i off).otp = t.otp := by
  unfold afterWrite
  (repeat' (first | split | simp [foldl_keep, foldl_cfg])) <;> simp_all [foldl_keep, foldl_cfg]

@[simp] theorem wroteSession_pcie_cfg (s t : State) (p se : Nat) : (wroteSession s t p se).pcie.cfg = t.pcie.cfg := by
  unfold wroteSession
  simp only []
  split
  · simp
  · split <;> simp

@[simp] theorem wroteTxq_pcie_cfg (s t : State) : (wroteTxq s t).pcie.cfg = t.pcie.cfg := by
  unfold wroteTxq
  simp only []
  split <;> simp

@[simp] theorem afterWrite_pcie_cfg (s t : State) (k : PageKind) (i off : Nat) : (afterWrite s t k i off).pcie.cfg = t.pcie.cfg := by
  unfold afterWrite
  (repeat' (first | split | simp [foldl_keep, foldl_cfg])) <;> simp_all [foldl_keep, foldl_cfg]

@[simp] theorem storeReg_keep (s : State) (x1 : PageKind) (x2 : Nat) (x3 : RegRow) (x4 : Nat) (x5 : Word) :
    (storeReg s x1 x2 x3 x4 x5).pending = s.pending ∧ (storeReg s x1 x2 x3 x4 x5).otp = s.otp ∧ (storeReg s x1 x2 x3 x4 x5).pcie.cfg = s.pcie.cfg := by
  unfold storeReg
  simp

@[simp] theorem acceptReg_keep (s : State) (x1 : PageKind) (x2 : Nat) (x3 : RegRow) (x4 : Nat) (x5 : Word) :
    (acceptReg s x1 x2 x3 x4 x5).pending = s.pending ∧ (acceptReg s x1 x2 x3 x4 x5).otp = s.otp ∧ (acceptReg s x1 x2 x3 x4 x5).pcie.cfg = s.pcie.cfg := by
  unfold acceptReg
  (repeat' (first | split | simp [foldl_keep, foldl_cfg])) <;> simp_all [foldl_keep, foldl_cfg]

@[simp] theorem safeOnset_keep (s : State) (x1 : Nat) :
    (safeOnset s x1).pending = s.pending ∧ (safeOnset s x1).otp = s.otp ∧ (safeOnset s x1).pcie.cfg = s.pcie.cfg := by
  unfold safeOnset
  (repeat' (first | split | simp [foldl_keep, foldl_cfg])) <;> simp_all [foldl_keep, foldl_cfg]

@[simp] theorem recordParity_keep (s : State) (x1 : Nat) (x2 : Nat) :
    (recordParity s x1 x2).pending = s.pending ∧ (recordParity s x1 x2).mem = s.mem ∧ (recordParity s x1 x2).hostMem = s.hostMem ∧ (recordParity s x1 x2).otp = s.otp ∧ (recordParity s x1 x2).pcie.cfg = s.pcie.cfg := by
  unfold recordParity
  (repeat' (first | split | simp [foldl_keep, foldl_cfg])) <;> simp_all [foldl_keep, foldl_cfg]

@[simp] theorem settleParity_keep (s : State) (x1 : Nat) :
    (settleParity s x1).pending = s.pending ∧ (settleParity s x1).mem = s.mem ∧ (settleParity s x1).hostMem = s.hostMem ∧ (settleParity s x1).otp = s.otp ∧ (settleParity s x1).pcie.cfg = s.pcie.cfg := by
  unfold settleParity
  (repeat' (first | split | simp [foldl_keep, foldl_cfg])) <;> simp_all [foldl_keep, foldl_cfg]

theorem execParityMismatch_keep (x0 : Nat) (x1 : Nat) (s : State) :
    ∃ t, execParityMismatch x0 x1 s = .next t ∧ t.pending = s.pending ∧ t.otp = s.otp ∧ t.pcie.cfg = s.pcie.cfg := by
  unfold execParityMismatch
  refine ⟨_, rfl, ?_⟩
  (repeat' (first | split | simp [foldl_keep, foldl_cfg, guarded_pending, indGuarded_pending, guarded_mem, indGuarded_mem, guarded_hostMem, indGuarded_hostMem, guarded_otp, indGuarded_otp, guarded_pcie_cfg, indGuarded_pcie_cfg])) <;> simp_all [foldl_keep, foldl_cfg, guarded_pending, indGuarded_pending, guarded_mem, indGuarded_mem, guarded_hostMem, indGuarded_hostMem, guarded_otp, indGuarded_otp, guarded_pcie_cfg, indGuarded_pcie_cfg]

@[simp] theorem resetBlock_keep (s : State) (x1 : PageKind) (x2 : Nat) :
    (resetBlock s x1 x2).pending = s.pending ∧ (resetBlock s x1 x2).mem = s.mem ∧ (resetBlock s x1 x2).hostMem = s.hostMem ∧ (resetBlock s x1 x2).otp = s.otp ∧ (resetBlock s x1 x2).pcie.cfg = s.pcie.cfg := by
  unfold resetBlock
  (repeat' (first | split | simp [foldl_keep, foldl_cfg])) <;> simp_all [foldl_keep, foldl_cfg]

@[simp] theorem softReset_keep (s : State) (x1 : Nat) :
    (softReset s x1).pending = s.pending ∧ (softReset s x1).mem = s.mem ∧ (softReset s x1).hostMem = s.hostMem ∧ (softReset s x1).otp = s.otp ∧ (softReset s x1).pcie.cfg = s.pcie.cfg := by
  unfold softReset
  (repeat' (first | split | simp [foldl_keep, foldl_cfg])) <;> simp_all [foldl_keep, foldl_cfg]

@[simp] theorem writePageCtrl_keep (s : State) (x1 : Nat) (x2 : Word) :
    (writePageCtrl s x1 x2).pending = s.pending ∧ (writePageCtrl s x1 x2).otp = s.otp ∧ (writePageCtrl s x1 x2).pcie.cfg = s.pcie.cfg := by
  unfold writePageCtrl
  (repeat' (first | split | simp [foldl_keep, foldl_cfg])) <;> simp_all [foldl_keep, foldl_cfg]

@[simp] theorem pageCtrl_keep (s : State) (x1 : Agent) (x2 : Nat) (x3 : Word) :
    (pageCtrl s x1 x2 x3).pending = s.pending ∧ (pageCtrl s x1 x2 x3).otp = s.otp ∧ (pageCtrl s x1 x2 x3).pcie.cfg = s.pcie.cfg := by
  unfold pageCtrl
  split
  · simp
  · simp [guarded_pending, guarded_otp, guarded_pcie_cfg]

theorem execPageDisable_keep (x0 : Agent) (x1 : Nat) (x2 : Word) (s : State) :
    ∃ t, execPageDisable x0 x1 x2 s = .next t ∧ t.pending = s.pending ∧ t.otp = s.otp ∧ t.pcie.cfg = s.pcie.cfg := by
  unfold execPageDisable
  refine ⟨_, rfl, ?_⟩
  (repeat' (first | split | simp [foldl_keep, foldl_cfg, guarded_pending, indGuarded_pending, guarded_mem, indGuarded_mem, guarded_hostMem, indGuarded_hostMem, guarded_otp, indGuarded_otp, guarded_pcie_cfg, indGuarded_pcie_cfg])) <;> simp_all [foldl_keep, foldl_cfg, guarded_pending, indGuarded_pending, guarded_mem, indGuarded_mem, guarded_hostMem, indGuarded_hostMem, guarded_otp, indGuarded_otp, guarded_pcie_cfg, indGuarded_pcie_cfg]

theorem execPageEnable_keep (x0 : Agent) (x1 : Nat) (x2 : Word) (s : State) :
    ∃ t, execPageEnable x0 x1 x2 s = .next t ∧ t.pending = s.pending ∧ t.otp = s.otp ∧ t.pcie.cfg = s.pcie.cfg := by
  unfold execPageEnable
  refine ⟨_, rfl, ?_⟩
  (repeat' (first | split | simp [foldl_keep, foldl_cfg, guarded_pending, indGuarded_pending, guarded_mem, indGuarded_mem, guarded_hostMem, indGuarded_hostMem, guarded_otp, indGuarded_otp, guarded_pcie_cfg, indGuarded_pcie_cfg])) <;> simp_all [foldl_keep, foldl_cfg, guarded_pending, indGuarded_pending, guarded_mem, indGuarded_mem, guarded_hostMem, indGuarded_hostMem, guarded_otp, indGuarded_otp, guarded_pcie_cfg, indGuarded_pcie_cfg]

theorem execPageSoftReset_keep (x0 : Agent) (x1 : Nat) (x2 : Word) (s : State) :
    ∃ t, execPageSoftReset x0 x1 x2 s = .next t ∧ t.pending = s.pending ∧ t.otp = s.otp ∧ t.pcie.cfg = s.pcie.cfg := by
  unfold execPageSoftReset
  refine ⟨_, rfl, ?_⟩
  (repeat' (first | split | simp [foldl_keep, foldl_cfg, guarded_pending, indGuarded_pending, guarded_mem, indGuarded_mem, guarded_hostMem, indGuarded_hostMem, guarded_otp, indGuarded_otp, guarded_pcie_cfg, indGuarded_pcie_cfg])) <;> simp_all [foldl_keep, foldl_cfg, guarded_pending, indGuarded_pending, guarded_mem, indGuarded_mem, guarded_hostMem, indGuarded_hostMem, guarded_otp, indGuarded_otp, guarded_pcie_cfg, indGuarded_pcie_cfg]

theorem execSoftResetDone_keep (x0 : Nat) (s : State) :
    ∃ t, execSoftResetDone x0 s = .next t ∧ t.pending = s.pending ∧ t.mem = s.mem ∧ t.hostMem = s.hostMem ∧ t.otp = s.otp ∧ t.pcie.cfg = s.pcie.cfg := by
  unfold execSoftResetDone
  refine ⟨_, rfl, ?_⟩
  (repeat' (first | split | simp [foldl_keep, foldl_cfg, guarded_pending, indGuarded_pending, guarded_mem, indGuarded_mem, guarded_hostMem, indGuarded_hostMem, guarded_otp, indGuarded_otp, guarded_pcie_cfg, indGuarded_pcie_cfg])) <;> simp_all [foldl_keep, foldl_cfg, guarded_pending, indGuarded_pending, guarded_mem, indGuarded_mem, guarded_hostMem, indGuarded_hostMem, guarded_otp, indGuarded_otp, guarded_pcie_cfg, indGuarded_pcie_cfg]

@[simp] theorem writePageLock_keep (s : State) (x1 : Agent) (x2 : Nat) (x3 : Word) :
    (writePageLock s x1 x2 x3).pending = s.pending ∧ (writePageLock s x1 x2 x3).mem = s.mem ∧ (writePageLock s x1 x2 x3).hostMem = s.hostMem ∧ (writePageLock s x1 x2 x3).otp = s.otp ∧ (writePageLock s x1 x2 x3).pcie.cfg = s.pcie.cfg := by
  unfold writePageLock
  simp only []
  split
  · simp
  · split
    · simp
    · split <;> simp [touchSession_pending, touchSession_mem, touchSession_hostMem, touchSession_otp, touchSession_pcie_cfg]

theorem execPageLockWrite_keep (x0 : Agent) (x1 : Nat) (x2 : Word) (s : State) :
    ∃ t, execPageLockWrite x0 x1 x2 s = .next t ∧ t.pending = s.pending ∧ t.mem = s.mem ∧ t.hostMem = s.hostMem ∧ t.otp = s.otp ∧ t.pcie.cfg = s.pcie.cfg := by
  unfold execPageLockWrite
  refine ⟨_, rfl, ?_⟩
  (repeat' (first | split | simp [foldl_keep, foldl_cfg, guarded_pending, indGuarded_pending, guarded_mem, indGuarded_mem, guarded_hostMem, indGuarded_hostMem, guarded_otp, indGuarded_otp, guarded_pcie_cfg, indGuarded_pcie_cfg])) <;> simp_all [foldl_keep, foldl_cfg, guarded_pending, indGuarded_pending, guarded_mem, indGuarded_mem, guarded_hostMem, indGuarded_hostMem, guarded_otp, indGuarded_otp, guarded_pcie_cfg, indGuarded_pcie_cfg]

@[simp] theorem clearBits_keep (s : State) (x1 : Nat) (x2 : Word) :
    (clearBits s x1 x2).pending = s.pending ∧ (clearBits s x1 x2).mem = s.mem ∧ (clearBits s x1 x2).hostMem = s.hostMem ∧ (clearBits s x1 x2).otp = s.otp ∧ (clearBits s x1 x2).pcie.cfg = s.pcie.cfg := by
  unfold clearBits
  (repeat' (first | split | simp [foldl_keep, foldl_cfg])) <;> simp_all [foldl_keep, foldl_cfg]

@[simp] theorem writeW1c_keep (s : State) (x1 : Agent) (x2 : Nat) (x3 : Word) :
    (writeW1c s x1 x2 x3).pending = s.pending ∧ (writeW1c s x1 x2 x3).mem = s.mem ∧ (writeW1c s x1 x2 x3).hostMem = s.hostMem ∧ (writeW1c s x1 x2 x3).otp = s.otp ∧ (writeW1c s x1 x2 x3).pcie.cfg = s.pcie.cfg := by
  unfold writeW1c
  simp only []
  split
  · simp [guarded_pending, guarded_mem, guarded_hostMem, guarded_otp, guarded_pcie_cfg]
  · split
    · split
      · split <;> simp [guarded_pending, guarded_mem, guarded_hostMem, guarded_otp, guarded_pcie_cfg]
      · simp
    · simp

theorem execW1cWrite_keep (x0 : Agent) (x1 : Nat) (x2 : Word) (s : State) :
    ∃ t, execW1cWrite x0 x1 x2 s = .next t ∧ t.pending = s.pending ∧ t.mem = s.mem ∧ t.hostMem = s.hostMem ∧ t.otp = s.otp ∧ t.pcie.cfg = s.pcie.cfg := by
  unfold execW1cWrite
  refine ⟨_, rfl, ?_⟩
  (repeat' (first | split | simp [foldl_keep, foldl_cfg, guarded_pending, indGuarded_pending, guarded_mem, indGuarded_mem, guarded_hostMem, indGuarded_hostMem, guarded_otp, indGuarded_otp, guarded_pcie_cfg, indGuarded_pcie_cfg])) <;> simp_all [foldl_keep, foldl_cfg, guarded_pending, indGuarded_pending, guarded_mem, indGuarded_mem, guarded_hostMem, indGuarded_hostMem, guarded_otp, indGuarded_otp, guarded_pcie_cfg, indGuarded_pcie_cfg]

@[simp] theorem writeMsix_keep (s : State) (x1 : Nat) (x2 : Nat) (x3 : Word) :
    (writeMsix s x1 x2 x3).pending = s.pending ∧ (writeMsix s x1 x2 x3).otp = s.otp ∧ (writeMsix s x1 x2 x3).pcie.cfg = s.pcie.cfg := by
  unfold writeMsix
  (repeat' (first | split | simp [foldl_keep, foldl_cfg])) <;> simp_all [foldl_keep, foldl_cfg]

@[simp] theorem writePtr_keep (s : State) (x1 : Agent) (x2 : Nat) (x3 : Bool) (x4 : Nat) (x5 : Word) :
    (writePtr s x1 x2 x3 x4 x5).pending = s.pending ∧ (writePtr s x1 x2 x3 x4 x5).mem = s.mem ∧ (writePtr s x1 x2 x3 x4 x5).hostMem = s.hostMem ∧ (writePtr s x1 x2 x3 x4 x5).otp = s.otp ∧ (writePtr s x1 x2 x3 x4 x5).pcie.cfg = s.pcie.cfg := by
  unfold writePtr
  (repeat' (first | split | simp [foldl_keep, foldl_cfg])) <;> simp_all [foldl_keep, foldl_cfg]

theorem after_indWrite_pending (s : State) (a : Agent) (pg : Nat) (v : Word) : (after s (execIndDataWrite a pg v s)).pending = s.pending := by
  unfold execIndDataWrite
  simp only [live, after, ite_pending]
  split
  · rfl
  · split
    · rfl
    · exact indGuarded_pending _ _ _ _ _ (by simp)

theorem after_indWrite_mem (s : State) (a : Agent) (pg : Nat) (v : Word) : (after s (execIndDataWrite a pg v s)).mem = s.mem := by
  unfold execIndDataWrite
  simp only [live, after, ite_mem]
  split
  · rfl
  · split
    · rfl
    · exact indGuarded_mem _ _ _ _ _ (by simp)

theorem after_indWrite_hostMem (s : State) (a : Agent) (pg : Nat) (v : Word) : (after s (execIndDataWrite a pg v s)).hostMem = s.hostMem := by
  unfold execIndDataWrite
  simp only [live, after, ite_hostMem]
  split
  · rfl
  · split
    · rfl
    · exact indGuarded_hostMem _ _ _ _ _ (by simp)

theorem after_indWrite_otp (s : State) (a : Agent) (pg : Nat) (v : Word) : (after s (execIndDataWrite a pg v s)).otp = s.otp := by
  unfold execIndDataWrite
  simp only [live, after, ite_otp]
  split
  · rfl
  · split
    · rfl
    · exact indGuarded_otp _ _ _ _ _ (by simp)

theorem after_indWrite_cfg (s : State) (a : Agent) (pg : Nat) (v : Word) : (after s (execIndDataWrite a pg v s)).pcie.cfg = s.pcie.cfg := by
  unfold execIndDataWrite
  simp only [live, after, ite_pcie_cfg]
  split
  · rfl
  · split
    · rfl
    · exact indGuarded_pcie_cfg _ _ _ _ _ (by simp)

@[simp] theorem writeHeader_keep (s : State) (x1 : Agent) (x2 : Nat) (x3 : Nat) (x4 : Word) :
    (writeHeader s x1 x2 x3 x4).pending = s.pending ∧ (writeHeader s x1 x2 x3 x4).otp = s.otp ∧ (writeHeader s x1 x2 x3 x4).pcie.cfg = s.pcie.cfg := by
  unfold writeHeader
  split <;> simp [guarded_pending, guarded_otp, guarded_pcie_cfg, after_indWrite_pending, after_indWrite_otp, after_indWrite_cfg]

@[simp] theorem after_execCommit_pending (x0 : Agent) (x1 : Word) (s : State) : (after s (execCommit x0 x1 s)).pending = s.pending := by
  obtain ⟨t, ht, h⟩ := execCommit_keep x0 x1 s
  rw [ht]; exact h.1

@[simp] theorem after_execCommit_mem (x0 : Agent) (x1 : Word) (s : State) : (after s (execCommit x0 x1 s)).mem = s.mem := by
  obtain ⟨t, ht, h⟩ := execCommit_keep x0 x1 s
  rw [ht]; exact h.2.1

@[simp] theorem after_execCommit_hostMem (x0 : Agent) (x1 : Word) (s : State) : (after s (execCommit x0 x1 s)).hostMem = s.hostMem := by
  obtain ⟨t, ht, h⟩ := execCommit_keep x0 x1 s
  rw [ht]; exact h.2.2.1

@[simp] theorem after_execCommit_otp (x0 : Agent) (x1 : Word) (s : State) : (after s (execCommit x0 x1 s)).otp = s.otp := by
  obtain ⟨t, ht, h⟩ := execCommit_keep x0 x1 s
  rw [ht]; exact h.2.2.2.1

@[simp] theorem after_execCommitCancel_pending (x0 : Agent) (x1 : Word) (s : State) : (after s (execCommitCancel x0 x1 s)).pending = s.pending := by
  obtain ⟨t, ht, h⟩ := execCommitCancel_keep x0 x1 s
  rw [ht]; exact h.1

@[simp] theorem after_execCommitCancel_mem (x0 : Agent) (x1 : Word) (s : State) : (after s (execCommitCancel x0 x1 s)).mem = s.mem := by
  obtain ⟨t, ht, h⟩ := execCommitCancel_keep x0 x1 s
  rw [ht]; exact h.2.1

@[simp] theorem after_execCommitCancel_hostMem (x0 : Agent) (x1 : Word) (s : State) : (after s (execCommitCancel x0 x1 s)).hostMem = s.hostMem := by
  obtain ⟨t, ht, h⟩ := execCommitCancel_keep x0 x1 s
  rw [ht]; exact h.2.2.1

@[simp] theorem after_execCommitCancel_otp (x0 : Agent) (x1 : Word) (s : State) : (after s (execCommitCancel x0 x1 s)).otp = s.otp := by
  obtain ⟨t, ht, h⟩ := execCommitCancel_keep x0 x1 s
  rw [ht]; exact h.2.2.2.1

@[simp] theorem after_execRecheckGo_pending (x0 : Agent) (x1 : Word) (s : State) : (after s (execRecheckGo x0 x1 s)).pending = s.pending := by
  obtain ⟨t, ht, h⟩ := execRecheckGo_keep x0 x1 s
  rw [ht]; exact h.1

@[simp] theorem after_execRecheckGo_mem (x0 : Agent) (x1 : Word) (s : State) : (after s (execRecheckGo x0 x1 s)).mem = s.mem := by
  obtain ⟨t, ht, h⟩ := execRecheckGo_keep x0 x1 s
  rw [ht]; exact h.2.1

@[simp] theorem after_execRecheckGo_hostMem (x0 : Agent) (x1 : Word) (s : State) : (after s (execRecheckGo x0 x1 s)).hostMem = s.hostMem := by
  obtain ⟨t, ht, h⟩ := execRecheckGo_keep x0 x1 s
  rw [ht]; exact h.2.2.1

@[simp] theorem after_execRecheckGo_otp (x0 : Agent) (x1 : Word) (s : State) : (after s (execRecheckGo x0 x1 s)).otp = s.otp := by
  obtain ⟨t, ht, h⟩ := execRecheckGo_keep x0 x1 s
  rw [ht]; exact h.2.2.2.1

@[simp] theorem after_execIncOfsWrite_pending (x0 : Agent) (x1 : Word) (s : State) : (after s (execIncOfsWrite x0 x1 s)).pending = s.pending := by
  obtain ⟨t, ht, h⟩ := execIncOfsWrite_keep x0 x1 s
  rw [ht]; exact h.1

@[simp] theorem after_execIncOfsWrite_mem (x0 : Agent) (x1 : Word) (s : State) : (after s (execIncOfsWrite x0 x1 s)).mem = s.mem := by
  obtain ⟨t, ht, h⟩ := execIncOfsWrite_keep x0 x1 s
  rw [ht]; exact h.2.1

@[simp] theorem after_execIncOfsWrite_hostMem (x0 : Agent) (x1 : Word) (s : State) : (after s (execIncOfsWrite x0 x1 s)).hostMem = s.hostMem := by
  obtain ⟨t, ht, h⟩ := execIncOfsWrite_keep x0 x1 s
  rw [ht]; exact h.2.2.1

@[simp] theorem after_execIncOfsWrite_otp (x0 : Agent) (x1 : Word) (s : State) : (after s (execIncOfsWrite x0 x1 s)).otp = s.otp := by
  obtain ⟨t, ht, h⟩ := execIncOfsWrite_keep x0 x1 s
  rw [ht]; exact h.2.2.2.1

@[simp] theorem after_execCaptureGo_pending (x0 : Agent) (x1 : Word) (s : State) : (after s (execCaptureGo x0 x1 s)).pending = s.pending := by
  obtain ⟨t, ht, h⟩ := execCaptureGo_keep x0 x1 s
  rw [ht]; exact h.1

@[simp] theorem after_execCaptureGo_mem (x0 : Agent) (x1 : Word) (s : State) : (after s (execCaptureGo x0 x1 s)).mem = s.mem := by
  obtain ⟨t, ht, h⟩ := execCaptureGo_keep x0 x1 s
  rw [ht]; exact h.2.1

@[simp] theorem after_execCaptureGo_hostMem (x0 : Agent) (x1 : Word) (s : State) : (after s (execCaptureGo x0 x1 s)).hostMem = s.hostMem := by
  obtain ⟨t, ht, h⟩ := execCaptureGo_keep x0 x1 s
  rw [ht]; exact h.2.2.1

@[simp] theorem after_execCaptureGo_otp (x0 : Agent) (x1 : Word) (s : State) : (after s (execCaptureGo x0 x1 s)).otp = s.otp := by
  obtain ⟨t, ht, h⟩ := execCaptureGo_keep x0 x1 s
  rw [ht]; exact h.2.2.2.1

@[simp] theorem after_execCaptureArm_pending (x0 : Agent) (x1 : Word) (s : State) : (after s (execCaptureArm x0 x1 s)).pending = s.pending := by
  obtain ⟨t, ht, h⟩ := execCaptureArm_keep x0 x1 s
  rw [ht]; exact h.1

@[simp] theorem after_execCaptureArm_mem (x0 : Agent) (x1 : Word) (s : State) : (after s (execCaptureArm x0 x1 s)).mem = s.mem := by
  obtain ⟨t, ht, h⟩ := execCaptureArm_keep x0 x1 s
  rw [ht]; exact h.2.1

@[simp] theorem after_execCaptureArm_hostMem (x0 : Agent) (x1 : Word) (s : State) : (after s (execCaptureArm x0 x1 s)).hostMem = s.hostMem := by
  obtain ⟨t, ht, h⟩ := execCaptureArm_keep x0 x1 s
  rw [ht]; exact h.2.2.1

@[simp] theorem after_execCaptureArm_otp (x0 : Agent) (x1 : Word) (s : State) : (after s (execCaptureArm x0 x1 s)).otp = s.otp := by
  obtain ⟨t, ht, h⟩ := execCaptureArm_keep x0 x1 s
  rw [ht]; exact h.2.2.2.1

@[simp] theorem after_execStepOffset_pending (x0 : Agent) (x1 : Word) (s : State) : (after s (execStepOffset x0 x1 s)).pending = s.pending := by
  obtain ⟨t, ht, h⟩ := execStepOffset_keep x0 x1 s
  rw [ht]; exact h.1

@[simp] theorem after_execStepOffset_mem (x0 : Agent) (x1 : Word) (s : State) : (after s (execStepOffset x0 x1 s)).mem = s.mem := by
  obtain ⟨t, ht, h⟩ := execStepOffset_keep x0 x1 s
  rw [ht]; exact h.2.1

@[simp] theorem after_execStepOffset_hostMem (x0 : Agent) (x1 : Word) (s : State) : (after s (execStepOffset x0 x1 s)).hostMem = s.hostMem := by
  obtain ⟨t, ht, h⟩ := execStepOffset_keep x0 x1 s
  rw [ht]; exact h.2.2.1

@[simp] theorem after_execStepOffset_otp (x0 : Agent) (x1 : Word) (s : State) : (after s (execStepOffset x0 x1 s)).otp = s.otp := by
  obtain ⟨t, ht, h⟩ := execStepOffset_keep x0 x1 s
  rw [ht]; exact h.2.2.2.1

@[simp] theorem after_execStepAbsolute_pending (x0 : Agent) (x1 : Word) (s : State) : (after s (execStepAbsolute x0 x1 s)).pending = s.pending := by
  obtain ⟨t, ht, h⟩ := execStepAbsolute_keep x0 x1 s
  rw [ht]; exact h.1

@[simp] theorem after_execStepAbsolute_mem (x0 : Agent) (x1 : Word) (s : State) : (after s (execStepAbsolute x0 x1 s)).mem = s.mem := by
  obtain ⟨t, ht, h⟩ := execStepAbsolute_keep x0 x1 s
  rw [ht]; exact h.2.1

@[simp] theorem after_execStepAbsolute_hostMem (x0 : Agent) (x1 : Word) (s : State) : (after s (execStepAbsolute x0 x1 s)).hostMem = s.hostMem := by
  obtain ⟨t, ht, h⟩ := execStepAbsolute_keep x0 x1 s
  rw [ht]; exact h.2.2.1

@[simp] theorem after_execStepAbsolute_otp (x0 : Agent) (x1 : Word) (s : State) : (after s (execStepAbsolute x0 x1 s)).otp = s.otp := by
  obtain ⟨t, ht, h⟩ := execStepAbsolute_keep x0 x1 s
  rw [ht]; exact h.2.2.2.1

@[simp] theorem after_execHoldoverEnd_pending (x0 : Agent) (x1 : Word) (s : State) : (after s (execHoldoverEnd x0 x1 s)).pending = s.pending := by
  obtain ⟨t, ht, h⟩ := execHoldoverEnd_keep x0 x1 s
  rw [ht]; exact h.1

@[simp] theorem after_execHoldoverEnd_mem (x0 : Agent) (x1 : Word) (s : State) : (after s (execHoldoverEnd x0 x1 s)).mem = s.mem := by
  obtain ⟨t, ht, h⟩ := execHoldoverEnd_keep x0 x1 s
  rw [ht]; exact h.2.1

@[simp] theorem after_execHoldoverEnd_hostMem (x0 : Agent) (x1 : Word) (s : State) : (after s (execHoldoverEnd x0 x1 s)).hostMem = s.hostMem := by
  obtain ⟨t, ht, h⟩ := execHoldoverEnd_keep x0 x1 s
  rw [ht]; exact h.2.2.1

@[simp] theorem after_execHoldoverEnd_otp (x0 : Agent) (x1 : Word) (s : State) : (after s (execHoldoverEnd x0 x1 s)).otp = s.otp := by
  obtain ⟨t, ht, h⟩ := execHoldoverEnd_keep x0 x1 s
  rw [ht]; exact h.2.2.2.1

@[simp] theorem after_execPhaseEnable_pending (x0 : Agent) (x1 : Word) (s : State) : (after s (execPhaseEnable x0 x1 s)).pending = s.pending := by
  obtain ⟨t, ht, h⟩ := execPhaseEnable_keep x0 x1 s
  rw [ht]; exact h.1

@[simp] theorem after_execPhaseEnable_mem (x0 : Agent) (x1 : Word) (s : State) : (after s (execPhaseEnable x0 x1 s)).mem = s.mem := by
  obtain ⟨t, ht, h⟩ := execPhaseEnable_keep x0 x1 s
  rw [ht]; exact h.2.1

@[simp] theorem after_execPhaseEnable_hostMem (x0 : Agent) (x1 : Word) (s : State) : (after s (execPhaseEnable x0 x1 s)).hostMem = s.hostMem := by
  obtain ⟨t, ht, h⟩ := execPhaseEnable_keep x0 x1 s
  rw [ht]; exact h.2.2.1

@[simp] theorem after_execPhaseEnable_otp (x0 : Agent) (x1 : Word) (s : State) : (after s (execPhaseEnable x0 x1 s)).otp = s.otp := by
  obtain ⟨t, ht, h⟩ := execPhaseEnable_keep x0 x1 s
  rw [ht]; exact h.2.2.2.1

@[simp] theorem after_execOffsetApplyGo_pending (x0 : Agent) (x1 : Word) (s : State) : (after s (execOffsetApplyGo x0 x1 s)).pending = s.pending := by
  obtain ⟨t, ht, h⟩ := execOffsetApplyGo_keep x0 x1 s
  rw [ht]; exact h.1

@[simp] theorem after_execOffsetApplyGo_mem (x0 : Agent) (x1 : Word) (s : State) : (after s (execOffsetApplyGo x0 x1 s)).mem = s.mem := by
  obtain ⟨t, ht, h⟩ := execOffsetApplyGo_keep x0 x1 s
  rw [ht]; exact h.2.1

@[simp] theorem after_execOffsetApplyGo_hostMem (x0 : Agent) (x1 : Word) (s : State) : (after s (execOffsetApplyGo x0 x1 s)).hostMem = s.hostMem := by
  obtain ⟨t, ht, h⟩ := execOffsetApplyGo_keep x0 x1 s
  rw [ht]; exact h.2.2.1

@[simp] theorem after_execOffsetApplyGo_otp (x0 : Agent) (x1 : Word) (s : State) : (after s (execOffsetApplyGo x0 x1 s)).otp = s.otp := by
  obtain ⟨t, ht, h⟩ := execOffsetApplyGo_keep x0 x1 s
  rw [ht]; exact h.2.2.2.1

@[simp] theorem after_execIngestEnable_pending (x0 : Agent) (x1 : Word) (s : State) : (after s (execIngestEnable x0 x1 s)).pending = s.pending := by
  obtain ⟨t, ht, h⟩ := execIngestEnable_keep x0 x1 s
  rw [ht]; exact h.1

@[simp] theorem after_execIngestEnable_mem (x0 : Agent) (x1 : Word) (s : State) : (after s (execIngestEnable x0 x1 s)).mem = s.mem := by
  obtain ⟨t, ht, h⟩ := execIngestEnable_keep x0 x1 s
  rw [ht]; exact h.2.1

@[simp] theorem after_execIngestEnable_hostMem (x0 : Agent) (x1 : Word) (s : State) : (after s (execIngestEnable x0 x1 s)).hostMem = s.hostMem := by
  obtain ⟨t, ht, h⟩ := execIngestEnable_keep x0 x1 s
  rw [ht]; exact h.2.2.1

@[simp] theorem after_execIngestEnable_otp (x0 : Agent) (x1 : Word) (s : State) : (after s (execIngestEnable x0 x1 s)).otp = s.otp := by
  obtain ⟨t, ht, h⟩ := execIngestEnable_keep x0 x1 s
  rw [ht]; exact h.2.2.2.1

@[simp] theorem after_execGsFillGo_pending (x0 : Agent) (x1 : Word) (s : State) : (after s (execGsFillGo x0 x1 s)).pending = s.pending := by
  obtain ⟨t, ht, h⟩ := execGsFillGo_keep x0 x1 s
  rw [ht]; exact h.1

@[simp] theorem after_execGsFillGo_mem (x0 : Agent) (x1 : Word) (s : State) : (after s (execGsFillGo x0 x1 s)).mem = s.mem := by
  obtain ⟨t, ht, h⟩ := execGsFillGo_keep x0 x1 s
  rw [ht]; exact h.2.1

@[simp] theorem after_execGsFillGo_hostMem (x0 : Agent) (x1 : Word) (s : State) : (after s (execGsFillGo x0 x1 s)).hostMem = s.hostMem := by
  obtain ⟨t, ht, h⟩ := execGsFillGo_keep x0 x1 s
  rw [ht]; exact h.2.2.1

@[simp] theorem after_execGsFillGo_otp (x0 : Agent) (x1 : Word) (s : State) : (after s (execGsFillGo x0 x1 s)).otp = s.otp := by
  obtain ⟨t, ht, h⟩ := execGsFillGo_keep x0 x1 s
  rw [ht]; exact h.2.2.2.1

@[simp] theorem after_execLoadCheckGo_pending (x0 : Agent) (x1 : Nat) (x2 : Word) (s : State) : (after s (execLoadCheckGo x0 x1 x2 s)).pending = s.pending := by
  obtain ⟨t, ht, h⟩ := execLoadCheckGo_keep x0 x1 x2 s
  rw [ht]; exact h.1

@[simp] theorem after_execLoadCheckGo_mem (x0 : Agent) (x1 : Nat) (x2 : Word) (s : State) : (after s (execLoadCheckGo x0 x1 x2 s)).mem = s.mem := by
  obtain ⟨t, ht, h⟩ := execLoadCheckGo_keep x0 x1 x2 s
  rw [ht]; exact h.2.1

@[simp] theorem after_execLoadCheckGo_hostMem (x0 : Agent) (x1 : Nat) (x2 : Word) (s : State) : (after s (execLoadCheckGo x0 x1 x2 s)).hostMem = s.hostMem := by
  obtain ⟨t, ht, h⟩ := execLoadCheckGo_keep x0 x1 x2 s
  rw [ht]; exact h.2.2.1

@[simp] theorem after_execLoadCheckGo_otp (x0 : Agent) (x1 : Nat) (x2 : Word) (s : State) : (after s (execLoadCheckGo x0 x1 x2 s)).otp = s.otp := by
  obtain ⟨t, ht, h⟩ := execLoadCheckGo_keep x0 x1 x2 s
  rw [ht]; exact h.2.2.2.1

@[simp] theorem after_execSwapGo_pending (x0 : Agent) (x1 : Nat) (x2 : Word) (s : State) : (after s (execSwapGo x0 x1 x2 s)).pending = s.pending := by
  obtain ⟨t, ht, h⟩ := execSwapGo_keep x0 x1 x2 s
  rw [ht]; exact h.1

@[simp] theorem after_execSwapGo_mem (x0 : Agent) (x1 : Nat) (x2 : Word) (s : State) : (after s (execSwapGo x0 x1 x2 s)).mem = s.mem := by
  obtain ⟨t, ht, h⟩ := execSwapGo_keep x0 x1 x2 s
  rw [ht]; exact h.2.1

@[simp] theorem after_execSwapGo_hostMem (x0 : Agent) (x1 : Nat) (x2 : Word) (s : State) : (after s (execSwapGo x0 x1 x2 s)).hostMem = s.hostMem := by
  obtain ⟨t, ht, h⟩ := execSwapGo_keep x0 x1 x2 s
  rw [ht]; exact h.2.2.1

@[simp] theorem after_execSwapGo_otp (x0 : Agent) (x1 : Nat) (x2 : Word) (s : State) : (after s (execSwapGo x0 x1 x2 s)).otp = s.otp := by
  obtain ⟨t, ht, h⟩ := execSwapGo_keep x0 x1 x2 s
  rw [ht]; exact h.2.2.2.1

@[simp] theorem after_execSeqDisable_pending (x0 : Agent) (x1 : Nat) (x2 : Word) (s : State) : (after s (execSeqDisable x0 x1 x2 s)).pending = s.pending := by
  obtain ⟨t, ht, h⟩ := execSeqDisable_keep x0 x1 x2 s
  rw [ht]; exact h.1

@[simp] theorem after_execSeqDisable_mem (x0 : Agent) (x1 : Nat) (x2 : Word) (s : State) : (after s (execSeqDisable x0 x1 x2 s)).mem = s.mem := by
  obtain ⟨t, ht, h⟩ := execSeqDisable_keep x0 x1 x2 s
  rw [ht]; exact h.2.1

@[simp] theorem after_execSeqDisable_hostMem (x0 : Agent) (x1 : Nat) (x2 : Word) (s : State) : (after s (execSeqDisable x0 x1 x2 s)).hostMem = s.hostMem := by
  obtain ⟨t, ht, h⟩ := execSeqDisable_keep x0 x1 x2 s
  rw [ht]; exact h.2.2.1

@[simp] theorem after_execSeqDisable_otp (x0 : Agent) (x1 : Nat) (x2 : Word) (s : State) : (after s (execSeqDisable x0 x1 x2 s)).otp = s.otp := by
  obtain ⟨t, ht, h⟩ := execSeqDisable_keep x0 x1 x2 s
  rw [ht]; exact h.2.2.2.1

@[simp] theorem after_execMqDoorbell_pending (x0 : Agent) (x1 : Nat) (x2 : Word) (s : State) : (after s (execMqDoorbell x0 x1 x2 s)).pending = s.pending := by
  obtain ⟨t, ht, h⟩ := execMqDoorbell_keep x0 x1 x2 s
  rw [ht]; exact h.1

@[simp] theorem after_execMqDoorbell_mem (x0 : Agent) (x1 : Nat) (x2 : Word) (s : State) : (after s (execMqDoorbell x0 x1 x2 s)).mem = s.mem := by
  obtain ⟨t, ht, h⟩ := execMqDoorbell_keep x0 x1 x2 s
  rw [ht]; exact h.2.1

@[simp] theorem after_execMqDoorbell_hostMem (x0 : Agent) (x1 : Nat) (x2 : Word) (s : State) : (after s (execMqDoorbell x0 x1 x2 s)).hostMem = s.hostMem := by
  obtain ⟨t, ht, h⟩ := execMqDoorbell_keep x0 x1 x2 s
  rw [ht]; exact h.2.2.1

@[simp] theorem after_execMqDoorbell_otp (x0 : Agent) (x1 : Nat) (x2 : Word) (s : State) : (after s (execMqDoorbell x0 x1 x2 s)).otp = s.otp := by
  obtain ⟨t, ht, h⟩ := execMqDoorbell_keep x0 x1 x2 s
  rw [ht]; exact h.2.2.2.1

@[simp] theorem after_execSessionDoorbell_pending (x0 : Agent) (x1 : Nat) (x2 : Nat) (x3 : Word) (s : State) : (after s (execSessionDoorbell x0 x1 x2 x3 s)).pending = s.pending := by
  obtain ⟨t, ht, h⟩ := execSessionDoorbell_keep x0 x1 x2 x3 s
  rw [ht]; exact h.1

@[simp] theorem after_execSessionDoorbell_mem (x0 : Agent) (x1 : Nat) (x2 : Nat) (x3 : Word) (s : State) : (after s (execSessionDoorbell x0 x1 x2 x3 s)).mem = s.mem := by
  obtain ⟨t, ht, h⟩ := execSessionDoorbell_keep x0 x1 x2 x3 s
  rw [ht]; exact h.2.1

@[simp] theorem after_execSessionDoorbell_hostMem (x0 : Agent) (x1 : Nat) (x2 : Nat) (x3 : Word) (s : State) : (after s (execSessionDoorbell x0 x1 x2 x3 s)).hostMem = s.hostMem := by
  obtain ⟨t, ht, h⟩ := execSessionDoorbell_keep x0 x1 x2 x3 s
  rw [ht]; exact h.2.2.1

@[simp] theorem after_execSessionDoorbell_otp (x0 : Agent) (x1 : Nat) (x2 : Nat) (x3 : Word) (s : State) : (after s (execSessionDoorbell x0 x1 x2 x3 s)).otp = s.otp := by
  obtain ⟨t, ht, h⟩ := execSessionDoorbell_keep x0 x1 x2 x3 s
  rw [ht]; exact h.2.2.2.1

@[simp] theorem after_execSampleClear_pending (x0 : Agent) (x1 : Nat) (x2 : Word) (s : State) : (after s (execSampleClear x0 x1 x2 s)).pending = s.pending := by
  obtain ⟨t, ht, h⟩ := execSampleClear_keep x0 x1 x2 s
  rw [ht]; exact h.1

@[simp] theorem after_execSampleClear_mem (x0 : Agent) (x1 : Nat) (x2 : Word) (s : State) : (after s (execSampleClear x0 x1 x2 s)).mem = s.mem := by
  obtain ⟨t, ht, h⟩ := execSampleClear_keep x0 x1 x2 s
  rw [ht]; exact h.2.1

@[simp] theorem after_execSampleClear_hostMem (x0 : Agent) (x1 : Nat) (x2 : Word) (s : State) : (after s (execSampleClear x0 x1 x2 s)).hostMem = s.hostMem := by
  obtain ⟨t, ht, h⟩ := execSampleClear_keep x0 x1 x2 s
  rw [ht]; exact h.2.2.1

@[simp] theorem after_execSampleClear_otp (x0 : Agent) (x1 : Nat) (x2 : Word) (s : State) : (after s (execSampleClear x0 x1 x2 s)).otp = s.otp := by
  obtain ⟨t, ht, h⟩ := execSampleClear_keep x0 x1 x2 s
  rw [ht]; exact h.2.2.2.1

@[simp] theorem after_execCalEnable_pending (x0 : Agent) (x1 : Word) (s : State) : (after s (execCalEnable x0 x1 s)).pending = s.pending := by
  obtain ⟨t, ht, h⟩ := execCalEnable_keep x0 x1 s
  rw [ht]; exact h.1

@[simp] theorem after_execCalEnable_mem (x0 : Agent) (x1 : Word) (s : State) : (after s (execCalEnable x0 x1 s)).mem = s.mem := by
  obtain ⟨t, ht, h⟩ := execCalEnable_keep x0 x1 s
  rw [ht]; exact h.2.1

@[simp] theorem after_execCalEnable_hostMem (x0 : Agent) (x1 : Word) (s : State) : (after s (execCalEnable x0 x1 s)).hostMem = s.hostMem := by
  obtain ⟨t, ht, h⟩ := execCalEnable_keep x0 x1 s
  rw [ht]; exact h.2.2.1

@[simp] theorem after_execCalEnable_otp (x0 : Agent) (x1 : Word) (s : State) : (after s (execCalEnable x0 x1 s)).otp = s.otp := by
  obtain ⟨t, ht, h⟩ := execCalEnable_keep x0 x1 s
  rw [ht]; exact h.2.2.2.1

@[simp] theorem after_execFlipGo_pending (x0 : Agent) (x1 : Word) (s : State) : (after s (execFlipGo x0 x1 s)).pending = s.pending := by
  obtain ⟨t, ht, h⟩ := execFlipGo_keep x0 x1 s
  rw [ht]; exact h.1

@[simp] theorem after_execFlipGo_mem (x0 : Agent) (x1 : Word) (s : State) : (after s (execFlipGo x0 x1 s)).mem = s.mem := by
  obtain ⟨t, ht, h⟩ := execFlipGo_keep x0 x1 s
  rw [ht]; exact h.2.1

@[simp] theorem after_execFlipGo_hostMem (x0 : Agent) (x1 : Word) (s : State) : (after s (execFlipGo x0 x1 s)).hostMem = s.hostMem := by
  obtain ⟨t, ht, h⟩ := execFlipGo_keep x0 x1 s
  rw [ht]; exact h.2.2.1

@[simp] theorem after_execFlipGo_otp (x0 : Agent) (x1 : Word) (s : State) : (after s (execFlipGo x0 x1 s)).otp = s.otp := by
  obtain ⟨t, ht, h⟩ := execFlipGo_keep x0 x1 s
  rw [ht]; exact h.2.2.2.1

@[simp] theorem after_execTwinEnable_pending (x0 : Agent) (x1 : Word) (s : State) : (after s (execTwinEnable x0 x1 s)).pending = s.pending := by
  obtain ⟨t, ht, h⟩ := execTwinEnable_keep x0 x1 s
  rw [ht]; exact h.1

@[simp] theorem after_execTwinEnable_mem (x0 : Agent) (x1 : Word) (s : State) : (after s (execTwinEnable x0 x1 s)).mem = s.mem := by
  obtain ⟨t, ht, h⟩ := execTwinEnable_keep x0 x1 s
  rw [ht]; exact h.2.1

@[simp] theorem after_execTwinEnable_hostMem (x0 : Agent) (x1 : Word) (s : State) : (after s (execTwinEnable x0 x1 s)).hostMem = s.hostMem := by
  obtain ⟨t, ht, h⟩ := execTwinEnable_keep x0 x1 s
  rw [ht]; exact h.2.2.1

@[simp] theorem after_execTwinEnable_otp (x0 : Agent) (x1 : Word) (s : State) : (after s (execTwinEnable x0 x1 s)).otp = s.otp := by
  obtain ⟨t, ht, h⟩ := execTwinEnable_keep x0 x1 s
  rw [ht]; exact h.2.2.2.1

@[simp] theorem after_execBltAbort_pending (x0 : Agent) (x1 : Word) (x2 : Nat) (x3 : Nat) (s : State) : (after s (execBltAbort x0 x1 x2 x3 s)).pending = s.pending := by
  obtain ⟨t, ht, h⟩ := execBltAbort_keep x0 x1 x2 x3 s
  rw [ht]; exact h.1

@[simp] theorem after_execBltAbort_hostMem (x0 : Agent) (x1 : Word) (x2 : Nat) (x3 : Nat) (s : State) : (after s (execBltAbort x0 x1 x2 x3 s)).hostMem = s.hostMem := by
  obtain ⟨t, ht, h⟩ := execBltAbort_keep x0 x1 x2 x3 s
  rw [ht]; exact h.2.1

@[simp] theorem after_execBltAbort_otp (x0 : Agent) (x1 : Word) (x2 : Nat) (x3 : Nat) (s : State) : (after s (execBltAbort x0 x1 x2 x3 s)).otp = s.otp := by
  obtain ⟨t, ht, h⟩ := execBltAbort_keep x0 x1 x2 x3 s
  rw [ht]; exact h.2.2.1

@[simp] theorem after_execDmaAbort_pending (x0 : Agent) (x1 : Nat) (x2 : Bool) (x3 : Word) (x4 : Nat) (x5 : List Byte) (s : State) : (after s (execDmaAbort x0 x1 x2 x3 x4 x5 s)).pending = s.pending := by
  obtain ⟨t, ht, h⟩ := execDmaAbort_keep x0 x1 x2 x3 x4 x5 s
  rw [ht]; exact h.1

@[simp] theorem after_execDmaAbort_otp (x0 : Agent) (x1 : Nat) (x2 : Bool) (x3 : Word) (x4 : Nat) (x5 : List Byte) (s : State) : (after s (execDmaAbort x0 x1 x2 x3 x4 x5 s)).otp = s.otp := by
  obtain ⟨t, ht, h⟩ := execDmaAbort_keep x0 x1 x2 x3 x4 x5 s
  rw [ht]; exact h.2.1

@[simp] theorem after_execCpl_pending (x0 : Agent) (x1 : Nat) (x2 : Word) (s : State) : (after s (execCpl x0 x1 x2 s)).pending = s.pending := by
  obtain ⟨t, ht, h⟩ := execCpl_keep x0 x1 x2 s
  rw [ht]; exact h.1

@[simp] theorem after_execCpl_mem (x0 : Agent) (x1 : Nat) (x2 : Word) (s : State) : (after s (execCpl x0 x1 x2 s)).mem = s.mem := by
  obtain ⟨t, ht, h⟩ := execCpl_keep x0 x1 x2 s
  rw [ht]; exact h.2.1

@[simp] theorem after_execCpl_hostMem (x0 : Agent) (x1 : Nat) (x2 : Word) (s : State) : (after s (execCpl x0 x1 x2 s)).hostMem = s.hostMem := by
  obtain ⟨t, ht, h⟩ := execCpl_keep x0 x1 x2 s
  rw [ht]; exact h.2.2.1

@[simp] theorem after_execCpl_otp (x0 : Agent) (x1 : Nat) (x2 : Word) (s : State) : (after s (execCpl x0 x1 x2 s)).otp = s.otp := by
  obtain ⟨t, ht, h⟩ := execCpl_keep x0 x1 x2 s
  rw [ht]; exact h.2.2.2.1

@[simp] theorem after_execHostCpl_pending (x0 : Agent) (x1 : Word) (s : State) : (after s (execHostCpl x0 x1 s)).pending = s.pending := by
  obtain ⟨t, ht, h⟩ := execHostCpl_keep x0 x1 s
  rw [ht]; exact h.1

@[simp] theorem after_execHostCpl_mem (x0 : Agent) (x1 : Word) (s : State) : (after s (execHostCpl x0 x1 s)).mem = s.mem := by
  obtain ⟨t, ht, h⟩ := execHostCpl_keep x0 x1 s
  rw [ht]; exact h.2.1

@[simp] theorem after_execHostCpl_hostMem (x0 : Agent) (x1 : Word) (s : State) : (after s (execHostCpl x0 x1 s)).hostMem = s.hostMem := by
  obtain ⟨t, ht, h⟩ := execHostCpl_keep x0 x1 s
  rw [ht]; exact h.2.2.1

@[simp] theorem after_execHostCpl_otp (x0 : Agent) (x1 : Word) (s : State) : (after s (execHostCpl x0 x1 s)).otp = s.otp := by
  obtain ⟨t, ht, h⟩ := execHostCpl_keep x0 x1 s
  rw [ht]; exact h.2.2.2.1

@[simp] theorem after_execSwSourceSet_pending (x0 : Agent) (x1 : Word) (s : State) : (after s (execSwSourceSet x0 x1 s)).pending = s.pending := by
  obtain ⟨t, ht, h⟩ := execSwSourceSet_keep x0 x1 s
  rw [ht]; exact h.1

@[simp] theorem after_execSwSourceSet_mem (x0 : Agent) (x1 : Word) (s : State) : (after s (execSwSourceSet x0 x1 s)).mem = s.mem := by
  obtain ⟨t, ht, h⟩ := execSwSourceSet_keep x0 x1 s
  rw [ht]; exact h.2.1

@[simp] theorem after_execSwSourceSet_hostMem (x0 : Agent) (x1 : Word) (s : State) : (after s (execSwSourceSet x0 x1 s)).hostMem = s.hostMem := by
  obtain ⟨t, ht, h⟩ := execSwSourceSet_keep x0 x1 s
  rw [ht]; exact h.2.2.1

@[simp] theorem after_execSwSourceSet_otp (x0 : Agent) (x1 : Word) (s : State) : (after s (execSwSourceSet x0 x1 s)).otp = s.otp := by
  obtain ⟨t, ht, h⟩ := execSwSourceSet_keep x0 x1 s
  rw [ht]; exact h.2.2.2.1

@[simp] theorem after_execSwPulse_pending (x0 : Agent) (x1 : Word) (s : State) : (after s (execSwPulse x0 x1 s)).pending = s.pending := by
  obtain ⟨t, ht, h⟩ := execSwPulse_keep x0 x1 s
  rw [ht]; exact h.1

@[simp] theorem after_execSwPulse_mem (x0 : Agent) (x1 : Word) (s : State) : (after s (execSwPulse x0 x1 s)).mem = s.mem := by
  obtain ⟨t, ht, h⟩ := execSwPulse_keep x0 x1 s
  rw [ht]; exact h.2.1

@[simp] theorem after_execSwPulse_hostMem (x0 : Agent) (x1 : Word) (s : State) : (after s (execSwPulse x0 x1 s)).hostMem = s.hostMem := by
  obtain ⟨t, ht, h⟩ := execSwPulse_keep x0 x1 s
  rw [ht]; exact h.2.2.1

@[simp] theorem after_execSwPulse_otp (x0 : Agent) (x1 : Word) (s : State) : (after s (execSwPulse x0 x1 s)).otp = s.otp := by
  obtain ⟨t, ht, h⟩ := execSwPulse_keep x0 x1 s
  rw [ht]; exact h.2.2.2.1

@[simp] theorem after_execSessionChallenge_pending (x0 : Agent) (x1 : Word) (s : State) : (after s (execSessionChallenge x0 x1 s)).pending = s.pending := by
  obtain ⟨t, ht, h⟩ := execSessionChallenge_keep x0 x1 s
  rw [ht]; exact h.1

@[simp] theorem after_execSessionChallenge_mem (x0 : Agent) (x1 : Word) (s : State) : (after s (execSessionChallenge x0 x1 s)).mem = s.mem := by
  obtain ⟨t, ht, h⟩ := execSessionChallenge_keep x0 x1 s
  rw [ht]; exact h.2.1

@[simp] theorem after_execSessionChallenge_hostMem (x0 : Agent) (x1 : Word) (s : State) : (after s (execSessionChallenge x0 x1 s)).hostMem = s.hostMem := by
  obtain ⟨t, ht, h⟩ := execSessionChallenge_keep x0 x1 s
  rw [ht]; exact h.2.2.1

@[simp] theorem after_execSessionChallenge_otp (x0 : Agent) (x1 : Word) (s : State) : (after s (execSessionChallenge x0 x1 s)).otp = s.otp := by
  obtain ⟨t, ht, h⟩ := execSessionChallenge_keep x0 x1 s
  rw [ht]; exact h.2.2.2.1

@[simp] theorem after_execReqApprove_pending (x0 : Agent) (x1 : Word) (s : State) : (after s (execReqApprove x0 x1 s)).pending = s.pending := by
  obtain ⟨t, ht, h⟩ := execReqApprove_keep x0 x1 s
  rw [ht]; exact h.1

@[simp] theorem after_execReqApprove_mem (x0 : Agent) (x1 : Word) (s : State) : (after s (execReqApprove x0 x1 s)).mem = s.mem := by
  obtain ⟨t, ht, h⟩ := execReqApprove_keep x0 x1 s
  rw [ht]; exact h.2.1

@[simp] theorem after_execReqApprove_hostMem (x0 : Agent) (x1 : Word) (s : State) : (after s (execReqApprove x0 x1 s)).hostMem = s.hostMem := by
  obtain ⟨t, ht, h⟩ := execReqApprove_keep x0 x1 s
  rw [ht]; exact h.2.2.1

@[simp] theorem after_execReqApprove_otp (x0 : Agent) (x1 : Word) (s : State) : (after s (execReqApprove x0 x1 s)).otp = s.otp := by
  obtain ⟨t, ht, h⟩ := execReqApprove_keep x0 x1 s
  rw [ht]; exact h.2.2.2.1

@[simp] theorem after_execDebugRelock_pending (x0 : Agent) (x1 : Word) (s : State) : (after s (execDebugRelock x0 x1 s)).pending = s.pending := by
  obtain ⟨t, ht, h⟩ := execDebugRelock_keep x0 x1 s
  rw [ht]; exact h.1

@[simp] theorem after_execDebugRelock_mem (x0 : Agent) (x1 : Word) (s : State) : (after s (execDebugRelock x0 x1 s)).mem = s.mem := by
  obtain ⟨t, ht, h⟩ := execDebugRelock_keep x0 x1 s
  rw [ht]; exact h.2.1

@[simp] theorem after_execDebugRelock_hostMem (x0 : Agent) (x1 : Word) (s : State) : (after s (execDebugRelock x0 x1 s)).hostMem = s.hostMem := by
  obtain ⟨t, ht, h⟩ := execDebugRelock_keep x0 x1 s
  rw [ht]; exact h.2.2.1

@[simp] theorem after_execDebugRelock_otp (x0 : Agent) (x1 : Word) (s : State) : (after s (execDebugRelock x0 x1 s)).otp = s.otp := by
  obtain ⟨t, ht, h⟩ := execDebugRelock_keep x0 x1 s
  rw [ht]; exact h.2.2.2.1

@[simp] theorem after_execAttest_pending (x0 : Agent) (x1 : Word) (s : State) : (after s (execAttest x0 x1 s)).pending = s.pending := by
  obtain ⟨t, ht, h⟩ := execAttest_keep x0 x1 s
  rw [ht]; exact h.1

@[simp] theorem after_execAttest_mem (x0 : Agent) (x1 : Word) (s : State) : (after s (execAttest x0 x1 s)).mem = s.mem := by
  obtain ⟨t, ht, h⟩ := execAttest_keep x0 x1 s
  rw [ht]; exact h.2.1

@[simp] theorem after_execAttest_hostMem (x0 : Agent) (x1 : Word) (s : State) : (after s (execAttest x0 x1 s)).hostMem = s.hostMem := by
  obtain ⟨t, ht, h⟩ := execAttest_keep x0 x1 s
  rw [ht]; exact h.2.2.1

@[simp] theorem after_execAttest_otp (x0 : Agent) (x1 : Word) (s : State) : (after s (execAttest x0 x1 s)).otp = s.otp := by
  obtain ⟨t, ht, h⟩ := execAttest_keep x0 x1 s
  rw [ht]; exact h.2.2.2.1

@[simp] theorem after_execImageUpdate_pending (x0 : Agent) (x1 : Word) (s : State) : (after s (execImageUpdate x0 x1 s)).pending = s.pending := by
  obtain ⟨t, ht, h⟩ := execImageUpdate_keep x0 x1 s
  rw [ht]; exact h.1

@[simp] theorem after_execImageUpdate_mem (x0 : Agent) (x1 : Word) (s : State) : (after s (execImageUpdate x0 x1 s)).mem = s.mem := by
  obtain ⟨t, ht, h⟩ := execImageUpdate_keep x0 x1 s
  rw [ht]; exact h.2.1

@[simp] theorem after_execImageUpdate_hostMem (x0 : Agent) (x1 : Word) (s : State) : (after s (execImageUpdate x0 x1 s)).hostMem = s.hostMem := by
  obtain ⟨t, ht, h⟩ := execImageUpdate_keep x0 x1 s
  rw [ht]; exact h.2.2.1

@[simp] theorem after_execImageUpdate_otp (x0 : Agent) (x1 : Word) (s : State) : (after s (execImageUpdate x0 x1 s)).otp = s.otp := by
  obtain ⟨t, ht, h⟩ := execImageUpdate_keep x0 x1 s
  rw [ht]; exact h.2.2.2.1

@[simp] theorem after_execWdtKick_pending (x0 : Agent) (x1 : Word) (s : State) : (after s (execWdtKick x0 x1 s)).pending = s.pending := by
  obtain ⟨t, ht, h⟩ := execWdtKick_keep x0 x1 s
  rw [ht]; exact h.1

@[simp] theorem after_execWdtKick_mem (x0 : Agent) (x1 : Word) (s : State) : (after s (execWdtKick x0 x1 s)).mem = s.mem := by
  obtain ⟨t, ht, h⟩ := execWdtKick_keep x0 x1 s
  rw [ht]; exact h.2.1

@[simp] theorem after_execWdtKick_hostMem (x0 : Agent) (x1 : Word) (s : State) : (after s (execWdtKick x0 x1 s)).hostMem = s.hostMem := by
  obtain ⟨t, ht, h⟩ := execWdtKick_keep x0 x1 s
  rw [ht]; exact h.2.2.1

@[simp] theorem after_execWdtKick_otp (x0 : Agent) (x1 : Word) (s : State) : (after s (execWdtKick x0 x1 s)).otp = s.otp := by
  obtain ⟨t, ht, h⟩ := execWdtKick_keep x0 x1 s
  rw [ht]; exact h.2.2.2.1

@[simp] theorem after_execTxqDoorbell_pending (x0 : Agent) (x1 : Word) (s : State) : (after s (execTxqDoorbell x0 x1 s)).pending = s.pending := by
  obtain ⟨t, ht, h⟩ := execTxqDoorbell_keep x0 x1 s
  rw [ht]; exact h.1

@[simp] theorem after_execTxqDoorbell_mem (x0 : Agent) (x1 : Word) (s : State) : (after s (execTxqDoorbell x0 x1 s)).mem = s.mem := by
  obtain ⟨t, ht, h⟩ := execTxqDoorbell_keep x0 x1 s
  rw [ht]; exact h.2.1

@[simp] theorem after_execTxqDoorbell_hostMem (x0 : Agent) (x1 : Word) (s : State) : (after s (execTxqDoorbell x0 x1 s)).hostMem = s.hostMem := by
  obtain ⟨t, ht, h⟩ := execTxqDoorbell_keep x0 x1 s
  rw [ht]; exact h.2.2.1

@[simp] theorem after_execTxqDoorbell_otp (x0 : Agent) (x1 : Word) (s : State) : (after s (execTxqDoorbell x0 x1 s)).otp = s.otp := by
  obtain ⟨t, ht, h⟩ := execTxqDoorbell_keep x0 x1 s
  rw [ht]; exact h.2.2.2.1

@[simp] theorem after_execDevRst_pending (x0 : Agent) (x1 : Word) (s : State) : (after s (execDevRst x0 x1 s)).pending = s.pending := by
  obtain ⟨t, ht, h⟩ := execDevRst_keep x0 x1 s
  rw [ht]; exact h.1

@[simp] theorem after_execDevRst_mem (x0 : Agent) (x1 : Word) (s : State) : (after s (execDevRst x0 x1 s)).mem = s.mem := by
  obtain ⟨t, ht, h⟩ := execDevRst_keep x0 x1 s
  rw [ht]; exact h.2.1

@[simp] theorem after_execDevRst_hostMem (x0 : Agent) (x1 : Word) (s : State) : (after s (execDevRst x0 x1 s)).hostMem = s.hostMem := by
  obtain ⟨t, ht, h⟩ := execDevRst_keep x0 x1 s
  rw [ht]; exact h.2.2.1

@[simp] theorem after_execDevRst_otp (x0 : Agent) (x1 : Word) (s : State) : (after s (execDevRst x0 x1 s)).otp = s.otp := by
  obtain ⟨t, ht, h⟩ := execDevRst_keep x0 x1 s
  rw [ht]; exact h.2.2.2

@[simp] theorem after_execStandbyEnter_pending (x0 : Agent) (x1 : Word) (s : State) : (after s (execStandbyEnter x0 x1 s)).pending = s.pending := by
  obtain ⟨t, ht, h⟩ := execStandbyEnter_keep x0 x1 s
  rw [ht]; exact h.1

@[simp] theorem after_execStandbyEnter_mem (x0 : Agent) (x1 : Word) (s : State) : (after s (execStandbyEnter x0 x1 s)).mem = s.mem := by
  obtain ⟨t, ht, h⟩ := execStandbyEnter_keep x0 x1 s
  rw [ht]; exact h.2.1

@[simp] theorem after_execStandbyEnter_hostMem (x0 : Agent) (x1 : Word) (s : State) : (after s (execStandbyEnter x0 x1 s)).hostMem = s.hostMem := by
  obtain ⟨t, ht, h⟩ := execStandbyEnter_keep x0 x1 s
  rw [ht]; exact h.2.2.1

@[simp] theorem after_execStandbyEnter_otp (x0 : Agent) (x1 : Word) (s : State) : (after s (execStandbyEnter x0 x1 s)).otp = s.otp := by
  obtain ⟨t, ht, h⟩ := execStandbyEnter_keep x0 x1 s
  rw [ht]; exact h.2.2.2.1

theorem writeOwn_keep (s : State) (a : Agent) (k : PageKind) (i off : Nat) (v : Word) (t : State)
    (h : writeOwn s a k i off v = some t) : t.pending = s.pending ∧ t.otp = s.otp := by
  unfold writeOwn at h
  simp only [] at h
  split at h <;> (try split at h) <;> cases h <;> simp

@[simp] theorem writeBody_keep (s : State) (x1 : Agent) (x2 : Nat) (x3 : Word) :
    (writeBody s x1 x2 x3).pending = s.pending ∧ (writeBody s x1 x2 x3).otp = s.otp := by
  unfold writeBody
  split
  · simp [guarded_pending, guarded_otp]
  · split
    · rename_i h
      exact writeOwn_keep _ _ _ _ _ _ _ h
    · split
      · simp
      · split <;> simp [guarded_pending, guarded_otp]
      · split <;> simp [guarded_pending, guarded_otp]
      · simp [guarded_pending, guarded_otp]
      · simp [guarded_pending, guarded_otp]

@[simp] theorem writeReg_keep (s : State) (x1 : Agent) (x2 : Nat) (x3 : Word) :
    (writeReg s x1 x2 x3).pending = s.pending ∧ (writeReg s x1 x2 x3).otp = s.otp := by
  unfold writeReg
  simp only []
  split
  · split <;> simp
  · split
    · simp
    · split
      · simp
      · split <;> simp [guarded_pending, guarded_otp, guarded_pcie_cfg]

theorem execRegisterWrite_keep (x0 : Agent) (x1 : Nat) (x2 : Word) (s : State) :
    ∃ t, execRegisterWrite x0 x1 x2 s = .next t ∧ t.pending = s.pending ∧ t.otp = s.otp := by
  unfold execRegisterWrite
  refine ⟨_, rfl, ?_⟩
  (repeat' (first | split | simp [foldl_keep, foldl_cfg, guarded_pending, indGuarded_pending, guarded_mem, indGuarded_mem, guarded_hostMem, indGuarded_hostMem, guarded_otp, indGuarded_otp, guarded_pcie_cfg, indGuarded_pcie_cfg])) <;> simp_all [foldl_keep, foldl_cfg, guarded_pending, indGuarded_pending, guarded_mem, indGuarded_mem, guarded_hostMem, indGuarded_hostMem, guarded_otp, indGuarded_otp, guarded_pcie_cfg, indGuarded_pcie_cfg]

@[simp] theorem clearRc_keep (s : State) (x1 : Nat) :
    (clearRc s x1).pending = s.pending ∧ (clearRc s x1).mem = s.mem ∧ (clearRc s x1).hostMem = s.hostMem ∧ (clearRc s x1).otp = s.otp ∧ (clearRc s x1).pcie.cfg = s.pcie.cfg := by
  unfold clearRc
  (repeat' (first | split | simp [foldl_keep, foldl_cfg])) <;> simp_all [foldl_keep, foldl_cfg]

@[simp] theorem readBody_keep (s : State) (x1 : Agent) (x2 : Nat) :
    (readBody s x1 x2).pending = s.pending ∧ (readBody s x1 x2).mem = s.mem ∧ (readBody s x1 x2).hostMem = s.hostMem ∧ (readBody s x1 x2).otp = s.otp ∧ (readBody s x1 x2).pcie.cfg = s.pcie.cfg := by
  have hc (k : Nat) := execClaim_keep x1 k s
  have hh (v : Nat) := execHostClaim_keep x1 v s
  unfold readBody
  split
  · simp
  · simp only []
    split
    · split
      · obtain ⟨t, ht, h⟩ := hc ((x2 % 4096 - 160) / 8)
        rw [ht]
        exact h
      · split
        · obtain ⟨t, ht, h⟩ := hh ((x2 % 4096 - 256) / 4)
          rw [ht]
          exact h
        · simp
    · simp

@[simp] theorem readReg_keep (s : State) (x1 : Agent) (x2 : Nat) :
    (readReg s x1 x2).pending = s.pending ∧ (readReg s x1 x2).mem = s.mem ∧ (readReg s x1 x2).hostMem = s.hostMem ∧ (readReg s x1 x2).otp = s.otp ∧ (readReg s x1 x2).pcie.cfg = s.pcie.cfg := by
  unfold readReg
  simp only []
  split
  · simp
  · split
    · simp
    · split
      · split
        · simp [execIndDataRead, live, after]
          (repeat' split) <;> simp
        · simp
      · simp

theorem execRcRead_keep (x0 : Agent) (x1 : Nat) (s : State) :
    ∃ t, execRcRead x0 x1 s = .next t ∧ t.pending = s.pending ∧ t.mem = s.mem ∧ t.hostMem = s.hostMem ∧ t.otp = s.otp ∧ t.pcie.cfg = s.pcie.cfg := by
  unfold execRcRead
  refine ⟨_, rfl, ?_⟩
  (repeat' (first | split | simp [foldl_keep, foldl_cfg, guarded_pending, indGuarded_pending, guarded_mem, indGuarded_mem, guarded_hostMem, indGuarded_hostMem, guarded_otp, indGuarded_otp, guarded_pcie_cfg, indGuarded_pcie_cfg])) <;> simp_all [foldl_keep, foldl_cfg, guarded_pending, indGuarded_pending, guarded_mem, indGuarded_mem, guarded_hostMem, indGuarded_hostMem, guarded_otp, indGuarded_otp, guarded_pcie_cfg, indGuarded_pcie_cfg]

theorem execPartialAccess_keep (x0 : Agent) (x1 : Nat) (x2 : Bool) (s : State) :
    ∃ t, execPartialAccess x0 x1 x2 s = .next t ∧ t.pending = s.pending ∧ t.mem = s.mem ∧ t.hostMem = s.hostMem ∧ t.otp = s.otp ∧ t.pcie.cfg = s.pcie.cfg := by
  unfold execPartialAccess
  refine ⟨_, rfl, ?_⟩
  (repeat' (first | split | simp [foldl_keep, foldl_cfg, guarded_pending, indGuarded_pending, guarded_mem, indGuarded_mem, guarded_hostMem, indGuarded_hostMem, guarded_otp, indGuarded_otp, guarded_pcie_cfg, indGuarded_pcie_cfg])) <;> simp_all [foldl_keep, foldl_cfg, guarded_pending, indGuarded_pending, guarded_mem, indGuarded_mem, guarded_hostMem, indGuarded_hostMem, guarded_otp, indGuarded_otp, guarded_pcie_cfg, indGuarded_pcie_cfg]

@[simp] theorem bar2Drop_keep (s : State) :
    (bar2Drop s).pending = s.pending ∧ (bar2Drop s).mem = s.mem ∧ (bar2Drop s).hostMem = s.hostMem ∧ (bar2Drop s).otp = s.otp ∧ (bar2Drop s).pcie.cfg = s.pcie.cfg := by
  unfold bar2Drop
  (repeat' (first | split | simp [foldl_keep, foldl_cfg])) <;> simp_all [foldl_keep, foldl_cfg]

theorem execBar2Read_keep (x0 : Nat) (x1 : Nat) (s : State) :
    ∃ t, execBar2Read x0 x1 s = .next t ∧ t.pending = s.pending ∧ t.mem = s.mem ∧ t.hostMem = s.hostMem ∧ t.otp = s.otp ∧ t.pcie.cfg = s.pcie.cfg := by
  unfold execBar2Read
  refine ⟨_, rfl, ?_⟩
  (repeat' (first | split | simp [foldl_keep, foldl_cfg, guarded_pending, indGuarded_pending, guarded_mem, indGuarded_mem, guarded_hostMem, indGuarded_hostMem, guarded_otp, indGuarded_otp, guarded_pcie_cfg, indGuarded_pcie_cfg])) <;> simp_all [foldl_keep, foldl_cfg, guarded_pending, indGuarded_pending, guarded_mem, indGuarded_mem, guarded_hostMem, indGuarded_hostMem, guarded_otp, indGuarded_otp, guarded_pcie_cfg, indGuarded_pcie_cfg]

theorem execBar2Write_keep (x0 : Nat) (x1 : List Byte) (s : State) :
    ∃ t, execBar2Write x0 x1 s = .next t ∧ t.pending = s.pending ∧ t.hostMem = s.hostMem ∧ t.otp = s.otp ∧ t.pcie.cfg = s.pcie.cfg := by
  unfold execBar2Write
  refine ⟨_, rfl, ?_⟩
  (repeat' (first | split | simp [foldl_keep, foldl_cfg, guarded_pending, indGuarded_pending, guarded_mem, indGuarded_mem, guarded_hostMem, indGuarded_hostMem, guarded_otp, indGuarded_otp, guarded_pcie_cfg, indGuarded_pcie_cfg])) <;> simp_all [foldl_keep, foldl_cfg, guarded_pending, indGuarded_pending, guarded_mem, indGuarded_mem, guarded_hostMem, indGuarded_hostMem, guarded_otp, indGuarded_otp, guarded_pcie_cfg, indGuarded_pcie_cfg]

@[simp] theorem tapRun_keep (s : State) (x1 : TapOp) :
    (tapRun s x1).pending = s.pending ∧ (tapRun s x1).otp = s.otp ∧ (tapRun s x1).pcie.cfg = s.pcie.cfg := by
  unfold tapRun
  (repeat' (first | split | simp [foldl_keep, foldl_cfg])) <;> simp_all [foldl_keep, foldl_cfg]

theorem execTapAccess_keep (x0 : TapOp) (s : State) :
    ∃ t, execTapAccess x0 s = .next t ∧ t.pending = s.pending ∧ t.otp = s.otp ∧ t.pcie.cfg = s.pcie.cfg := by
  unfold execTapAccess
  refine ⟨_, rfl, ?_⟩
  (repeat' (first | split | simp [foldl_keep, foldl_cfg, guarded_pending, indGuarded_pending, guarded_mem, indGuarded_mem, guarded_hostMem, indGuarded_hostMem, guarded_otp, indGuarded_otp, guarded_pcie_cfg, indGuarded_pcie_cfg])) <;> simp_all [foldl_keep, foldl_cfg, guarded_pending, indGuarded_pending, guarded_mem, indGuarded_mem, guarded_hostMem, indGuarded_hostMem, guarded_otp, indGuarded_otp, guarded_pcie_cfg, indGuarded_pcie_cfg]

theorem Memory.wf_set (m : Store Byte) (k : Nat) (v : Byte) (h : Memory.wf m) : Memory.wf (Store.set memDefault m k v) := Store.wf_set _ _ _ _ h

theorem Memory.wf_setList (m : Store Byte) (k : Nat) (v : List Byte) (h : Memory.wf m) : Memory.wf (Store.setList memDefault m k v) := Store.wf_setList _ _ _ _ h

end Sys2Proof.Machine
end

