-- ==== Sys2Proof/Laws/Canonical.lean ====
section
/-! SUPPORT. Every operation and every meaning that writes memory keeps the canonical form of device memory and of host memory. -/

set_option linter.all false

namespace Sys2Proof.Machine



theorem foldl_inv {α : Type} (P : State → Prop) (f : State → α → State) (h : ∀ s a, P s → P (f s a)) (l : List α) (s : State) (hs : P s) : P (l.foldl f s) := by
  induction l generalizing s with
  | nil => exact hs
  | cons a l ih => exact ih _ (h _ _ hs)

theorem foldl_memwf {α : Type} (f : State → α → State) (h : ∀ s a, Memory.wf s.mem → Memory.wf (f s a).mem) (l : List α) (s : State) (hs : Memory.wf s.mem) : Memory.wf (l.foldl f s).mem := foldl_inv (fun s => Memory.wf s.mem) f h l s hs

theorem foldl_hostwf {α : Type} (f : State → α → State) (h : ∀ s a, Memory.wf s.hostMem → Memory.wf (f s a).hostMem) (l : List α) (s : State) (hs : Memory.wf s.hostMem) : Memory.wf (l.foldl f s).hostMem := foldl_inv (fun s => Memory.wf s.hostMem) f h l s hs

theorem guarded_memwf (s t : State) (a : Agent) (addr : Nat) (v : Word) (k : LockKind) (h : Memory.wf s.mem) (ht : Memory.wf t.mem) : Memory.wf (guarded s a addr v k t).mem := by
  unfold guarded
  split
  · exact h
  · split
    · simpa using h
    · simpa [touchSession_mem] using ht

theorem guarded_hostwf (s t : State) (a : Agent) (addr : Nat) (v : Word) (k : LockKind) (h : Memory.wf s.hostMem) (ht : Memory.wf t.hostMem) : Memory.wf (guarded s a addr v k t).hostMem := by
  unfold guarded
  split
  · exact h
  · split
    · simpa using h
    · simpa [touchSession_hostMem] using ht

@[simp] theorem memWrite_memwf (s : State) (x1 : Nat) (x2 : List Byte) (h : Memory.wf s.mem) : Memory.wf (memWrite s x1 x2).mem := by
  unfold memWrite
  exact Memory.wf_setList _ _ _ h

@[simp] theorem devWrite_memwf (s : State) (x1 : Nat) (x2 : List Byte) (h : Memory.wf s.mem) : Memory.wf (devWrite s x1 x2).mem := by
  unfold devWrite
  (repeat' (first | assumption | split | simp [foldl_keep, foldl_memwf, foldl_hostwf, guarded_memwf, guarded_hostwf, guarded_mem, guarded_hostMem, h])) <;> simp_all [foldl_keep, foldl_memwf, foldl_hostwf, guarded_memwf, guarded_hostwf, guarded_mem, guarded_hostMem]

@[simp] theorem devWrite_hostwf (s : State) (x1 : Nat) (x2 : List Byte) (h : Memory.wf s.hostMem) : Memory.wf (devWrite s x1 x2).hostMem := by
  unfold devWrite
  split
  · simpa using h
  · split
    · exact Memory.wf_setList _ _ _ h
    · exact h

@[simp] theorem mqComplete_memwf (s : State) (x1 : Nat) (x2 : Nat) (x3 : Nat) (h : Memory.wf s.mem) : Memory.wf (mqComplete s x1 x2 x3).mem := by
  unfold mqComplete
  (repeat' (first | assumption | split | simp [foldl_keep, foldl_memwf, foldl_hostwf, guarded_memwf, guarded_hostwf, guarded_mem, guarded_hostMem, h])) <;> simp_all [foldl_keep, foldl_memwf, foldl_hostwf, guarded_memwf, guarded_hostwf, guarded_mem, guarded_hostMem]

@[simp] theorem mqComplete_hostwf (s : State) (x1 : Nat) (x2 : Nat) (x3 : Nat) (h : Memory.wf s.hostMem) : Memory.wf (mqComplete s x1 x2 x3).hostMem := by
  unfold mqComplete
  (repeat' (first | assumption | split | simp [foldl_keep, foldl_memwf, foldl_hostwf, guarded_memwf, guarded_hostwf, guarded_mem, guarded_hostMem, h])) <;> simp_all [foldl_keep, foldl_memwf, foldl_hostwf, guarded_memwf, guarded_hostwf, guarded_mem, guarded_hostMem]

theorem execTxFrameDone_memwf (x0 : Nat) (s : State) (h : Memory.wf s.mem) (t : State) (ht : execTxFrameDone x0 s = .next t) : Memory.wf t.mem := by
  unfold execTxFrameDone at ht
  cases ht
  (repeat' (first | assumption | split | simp [foldl_keep, foldl_memwf, foldl_hostwf, guarded_memwf, guarded_hostwf, guarded_mem, guarded_hostMem, h])) <;> simp_all [foldl_keep, foldl_memwf, foldl_hostwf, guarded_memwf, guarded_hostwf, guarded_mem, guarded_hostMem]

theorem execTxFrameDone_hostwf (x0 : Nat) (s : State) (h : Memory.wf s.hostMem) (t : State) (ht : execTxFrameDone x0 s = .next t) : Memory.wf t.hostMem := by
  unfold execTxFrameDone at ht
  cases ht
  (repeat' (first | assumption | split | simp [foldl_keep, foldl_memwf, foldl_hostwf, guarded_memwf, guarded_hostwf, guarded_mem, guarded_hostMem, h])) <;> simp_all [foldl_keep, foldl_memwf, foldl_hostwf, guarded_memwf, guarded_hostwf, guarded_mem, guarded_hostMem]

theorem execMqDescReadDone_memwf (x0 : Nat) (x1 : Bool) (x2 : List Byte) (s : State) (h : Memory.wf s.mem) (t : State) (ht : execMqDescReadDone x0 x2 s x1 = .next t) : Memory.wf t.mem := by
  unfold execMqDescReadDone at ht
  cases ht
  (repeat' (first | assumption | split | simp [foldl_keep, foldl_memwf, foldl_hostwf, guarded_memwf, guarded_hostwf, guarded_mem, guarded_hostMem, h])) <;> simp_all [foldl_keep, foldl_memwf, foldl_hostwf, guarded_memwf, guarded_hostwf, guarded_mem, guarded_hostMem]

theorem execMqDescReadDone_hostwf (x0 : Nat) (x1 : Bool) (x2 : List Byte) (s : State) (h : Memory.wf s.hostMem) (t : State) (ht : execMqDescReadDone x0 x2 s x1 = .next t) : Memory.wf t.hostMem := by
  unfold execMqDescReadDone at ht
  cases ht
  (repeat' (first | assumption | split | simp [foldl_keep, foldl_memwf, foldl_hostwf, guarded_memwf, guarded_hostwf, guarded_mem, guarded_hostMem, h])) <;> simp_all [foldl_keep, foldl_memwf, foldl_hostwf, guarded_memwf, guarded_hostwf, guarded_mem, guarded_hostMem]

@[simp] theorem completeReq_memwf (s : State) (x1 : Nat) (x2 : Nat) (x3 : CSession) (x4 : CReq) (x5 : Nat) (x6 : List Byte) (h : Memory.wf s.mem) : Memory.wf (completeReq s x1 x2 x3 x4 x5 x6).mem := by
  unfold completeReq
  (repeat' (first | assumption | split | simp [foldl_keep, foldl_memwf, foldl_hostwf, guarded_memwf, guarded_hostwf, guarded_mem, guarded_hostMem, h])) <;> simp_all [foldl_keep, foldl_memwf, foldl_hostwf, guarded_memwf, guarded_hostwf, guarded_mem, guarded_hostMem]

@[simp] theorem completeReq_hostwf (s : State) (x1 : Nat) (x2 : Nat) (x3 : CSession) (x4 : CReq) (x5 : Nat) (x6 : List Byte) (h : Memory.wf s.hostMem) : Memory.wf (completeReq s x1 x2 x3 x4 x5 x6).hostMem := by
  unfold completeReq
  (repeat' (first | assumption | split | simp [foldl_keep, foldl_memwf, foldl_hostwf, guarded_memwf, guarded_hostwf, guarded_mem, guarded_hostMem, h])) <;> simp_all [foldl_keep, foldl_memwf, foldl_hostwf, guarded_memwf, guarded_hostwf, guarded_mem, guarded_hostMem]

theorem execSessionComplete_memwf (x0 : Nat) (x1 : Nat) (s : State) (h : Memory.wf s.mem) (t : State) (ht : execSessionComplete x0 x1 s = .next t) : Memory.wf t.mem := by
  unfold execSessionComplete at ht
  cases ht
  (repeat' (first | assumption | split | simp [foldl_keep, foldl_memwf, foldl_hostwf, guarded_memwf, guarded_hostwf, guarded_mem, guarded_hostMem, h])) <;> simp_all [foldl_keep, foldl_memwf, foldl_hostwf, guarded_memwf, guarded_hostwf, guarded_mem, guarded_hostMem]

theorem execSessionComplete_hostwf (x0 : Nat) (x1 : Nat) (s : State) (h : Memory.wf s.hostMem) (t : State) (ht : execSessionComplete x0 x1 s = .next t) : Memory.wf t.hostMem := by
  unfold execSessionComplete at ht
  cases ht
  (repeat' (first | assumption | split | simp [foldl_keep, foldl_memwf, foldl_hostwf, guarded_memwf, guarded_hostwf, guarded_mem, guarded_hostMem, h])) <;> simp_all [foldl_keep, foldl_memwf, foldl_hostwf, guarded_memwf, guarded_hostwf, guarded_mem, guarded_hostMem]

@[simp] theorem hostFenceRecord_memwf (s : State) (x1 : Nat) (x2 : FencePend) (x3 : Nat) (x4 : Nat) (h : Memory.wf s.mem) : Memory.wf (hostFenceRecord s x1 x2 x3 x4).mem := by
  unfold hostFenceRecord
  (repeat' (first | assumption | split | simp [foldl_keep, foldl_memwf, foldl_hostwf, guarded_memwf, guarded_hostwf, guarded_mem, guarded_hostMem, h])) <;> simp_all [foldl_keep, foldl_memwf, foldl_hostwf, guarded_memwf, guarded_hostwf, guarded_mem, guarded_hostMem]

@[simp] theorem hostFenceRecord_hostwf (s : State) (x1 : Nat) (x2 : FencePend) (x3 : Nat) (x4 : Nat) (h : Memory.wf s.hostMem) : Memory.wf (hostFenceRecord s x1 x2 x3 x4).hostMem := by
  unfold hostFenceRecord
  (repeat' (first | assumption | split | simp [foldl_keep, foldl_memwf, foldl_hostwf, guarded_memwf, guarded_hostwf, guarded_mem, guarded_hostMem, h])) <;> simp_all [foldl_keep, foldl_memwf, foldl_hostwf, guarded_memwf, guarded_hostwf, guarded_mem, guarded_hostMem]

theorem execFencePublish_memwf (x0 : Nat) (x1 : Nat) (s : State) (h : Memory.wf s.mem) (t : State) (ht : execFencePublish x0 x1 s = .next t) : Memory.wf t.mem := by
  unfold execFencePublish at ht
  cases ht
  (repeat' (first | assumption | split | simp [foldl_keep, foldl_memwf, foldl_hostwf, guarded_memwf, guarded_hostwf, guarded_mem, guarded_hostMem, h])) <;> simp_all [foldl_keep, foldl_memwf, foldl_hostwf, guarded_memwf, guarded_hostwf, guarded_mem, guarded_hostMem]

theorem execFencePublish_hostwf (x0 : Nat) (x1 : Nat) (s : State) (h : Memory.wf s.hostMem) (t : State) (ht : execFencePublish x0 x1 s = .next t) : Memory.wf t.hostMem := by
  unfold execFencePublish at ht
  cases ht
  (repeat' (first | assumption | split | simp [foldl_keep, foldl_memwf, foldl_hostwf, guarded_memwf, guarded_hostwf, guarded_mem, guarded_hostMem, h])) <;> simp_all [foldl_keep, foldl_memwf, foldl_hostwf, guarded_memwf, guarded_hostwf, guarded_mem, guarded_hostMem]

@[simp] theorem writeCells_memwf (s : State) (x1 : Nat) (x2 : List (Nat × Byte)) (h : Memory.wf s.mem) : Memory.wf (writeCells s x1 x2).mem := by
  unfold writeCells
  have k : ∀ (l : List (Nat × Byte)) (m : Store Byte), Memory.wf m →
      Memory.wf (l.foldl (fun m c => if c.1 < memBytes then Store.set memDefault m c.1 c.2 else m) m) := by
    intro l
    induction l with
    | nil => intro m hm; exact hm
    | cons c l ih =>
      intro m hm
      refine ih _ ?_
      show Memory.wf (if c.1 < memBytes then Store.set memDefault m c.1 c.2 else m) = true
      split
      · exact Memory.wf_set _ _ _ hm
      · exact hm
  exact k _ _ h

@[simp] theorem grantIngest_memwf (s : State) (x1 : IngWrite) (h : Memory.wf s.mem) : Memory.wf (grantIngest s x1).mem := by
  unfold grantIngest
  (repeat' (first | assumption | split | simp [foldl_keep, foldl_memwf, foldl_hostwf, guarded_memwf, guarded_hostwf, guarded_mem, guarded_hostMem, h])) <;> simp_all [foldl_keep, foldl_memwf, foldl_hostwf, guarded_memwf, guarded_hostwf, guarded_mem, guarded_hostMem]

@[simp] theorem slotGrant_memwf (s : State) (x1 : Nat) (x2 : List BeReq) (x3 : Ecc) (x4 : Ecc) (h : Memory.wf s.mem) : Memory.wf (slotGrant s x1 x2 x3 x4).mem := by
  unfold slotGrant
  (repeat' (first | assumption | split | simp [foldl_keep, foldl_memwf, foldl_hostwf, guarded_memwf, guarded_hostwf, guarded_mem, guarded_hostMem, h])) <;> simp_all [foldl_keep, foldl_memwf, foldl_hostwf, guarded_memwf, guarded_hostwf, guarded_mem, guarded_hostMem]

theorem execFabricSlotGrant_memwf (x0 : Nat) (x1 : List BeReq) (x2 : Ecc) (x3 : Ecc) (s : State) (h : Memory.wf s.mem) (t : State) (ht : execFabricSlotGrant x0 x1 x2 x3 s = .next t) : Memory.wf t.mem := by
  unfold execFabricSlotGrant at ht
  cases ht
  (repeat' (first | assumption | split | simp [foldl_keep, foldl_memwf, foldl_hostwf, guarded_memwf, guarded_hostwf, guarded_mem, guarded_hostMem, h])) <;> simp_all [foldl_keep, foldl_memwf, foldl_hostwf, guarded_memwf, guarded_hostwf, guarded_mem, guarded_hostMem]

@[simp] theorem scrubWrite_memwf (s : State) (x1 : Nat) (x2 : List Byte) (h : Memory.wf s.mem) : Memory.wf (scrubWrite s x1 x2).mem := by
  unfold scrubWrite
  rw [bump_mem]
  refine memWrite_memwf _ _ _ ?_
  rw [bump64_mem, countTransfer_mem]
  exact h

@[simp] theorem scrubSettle_memwf (s : State) (x1 : Nat) (x2 : Nat) (x3 : List Byte) (x4 : List Byte) (x5 : Bool) (x6 : Bool) (x7 : Word) (h : Memory.wf s.mem) : Memory.wf (scrubSettle s x1 x2 x3 x4 x5 x6 x7).mem := by
  unfold scrubSettle
  split
  · split
    · exact h
    · simpa using h
  · exact scrubWrite_memwf _ _ _ h
  · exact scrubWrite_memwf _ _ _ h
  · rw [raiseE_mem, wr_mem, bump_mem]
    exact h

@[simp] theorem scrubCell_memwf (s : State) (x1 : Ecc) (x2 : Ecc) (h : Memory.wf s.mem) : Memory.wf (scrubCell s x1 x2).mem := by
  unfold scrubCell
  rw [scrubNext_mem]
  refine scrubSettle_memwf _ _ _ _ _ _ _ _ ?_
  rw [scrubRead_mem, scrubRead_mem]
  exact h

theorem execScrubCheck_memwf (x0 : Ecc) (x1 : Ecc) (s : State) (h : Memory.wf s.mem) (t : State) (ht : execScrubCheck x0 x1 s = .next t) : Memory.wf t.mem := by
  unfold execScrubCheck at ht
  cases ht
  (repeat' (first | assumption | split | simp [foldl_keep, foldl_memwf, foldl_hostwf, guarded_memwf, guarded_hostwf, guarded_mem, guarded_hostMem, h])) <;> simp_all [foldl_keep, foldl_memwf, foldl_hostwf, guarded_memwf, guarded_hostwf, guarded_mem, guarded_hostMem]

@[simp] theorem writePart_memwf (s : State) (x1 : BltOp) (x2 : Nat) (h : Memory.wf s.mem) : Memory.wf (writePart s x1 x2).mem := by
  unfold writePart
  (repeat' (first | assumption | split | simp [foldl_keep, foldl_memwf, foldl_hostwf, guarded_memwf, guarded_hostwf, guarded_mem, guarded_hostMem, h])) <;> simp_all [foldl_keep, foldl_memwf, foldl_hostwf, guarded_memwf, guarded_hostwf, guarded_mem, guarded_hostMem]

@[simp] theorem runRows_memwf (x0 : Nat) (s : State) (x2 : BltOp) (h : Memory.wf s.mem) : Memory.wf (runRows x0 s x2).1.mem := by
  induction x0 generalizing s x2 with
  | zero => simpa [runRows] using h
  | succ n ih =>
    unfold runRows
    split
    · exact h
    · exact ih _ _ (writePart_memwf _ _ _ h)

@[simp] theorem advanceBlt_memwf (s : State) (x1 : BltOp) (x2 : Nat) (h : Memory.wf s.mem) : Memory.wf (advanceBlt s x1 x2).1.mem := by
  unfold advanceBlt
  (repeat' (first | assumption | split | simp [foldl_keep, foldl_memwf, foldl_hostwf, guarded_memwf, guarded_hostwf, guarded_mem, guarded_hostMem, h])) <;> simp_all [foldl_keep, foldl_memwf, foldl_hostwf, guarded_memwf, guarded_hostwf, guarded_mem, guarded_hostMem]

@[simp] theorem goBlt_memwf (s : State) (x1 : Nat) (h : Memory.wf s.mem) : Memory.wf (goBlt s x1).mem := by
  unfold goBlt
  (repeat' (first | assumption | split | simp [foldl_keep, foldl_memwf, foldl_hostwf, guarded_memwf, guarded_hostwf, guarded_mem, guarded_hostMem, h])) <;> simp_all [foldl_keep, foldl_memwf, foldl_hostwf, guarded_memwf, guarded_hostwf, guarded_mem, guarded_hostMem]

@[simp] theorem stopBlt_memwf (s : State) (x1 : BltOp) (x2 : Nat) (x3 : Nat) (h : Memory.wf s.mem) : Memory.wf (stopBlt s x1 x2 x3).1.mem := by
  have k := advanceBlt_memwf s x1 (done s x2) h
  unfold stopBlt
  simp only [wrB_mem, endBlt_keep]
  split
  · exact writePart_memwf _ _ _ k
  · exact k

@[simp] theorem abortBlt_memwf (s : State) (x1 : Nat) (x2 : Nat) (h : Memory.wf s.mem) : Memory.wf (abortBlt s x1 x2).mem := by
  unfold abortBlt
  split
  · rw [wrB_mem]; exact stopBlt_memwf _ _ _ _ h
  · exact h

@[simp] theorem writeBltGo_memwf (s : State) (x1 : Word) (x2 : Nat) (x3 : Nat) (x4 : Nat) (h : Memory.wf s.mem) : Memory.wf (writeBltGo s x1 x2 x3 x4).mem := by
  unfold writeBltGo
  (repeat' (first | assumption | split | simp [foldl_keep, foldl_memwf, foldl_hostwf, guarded_memwf, guarded_hostwf, guarded_mem, guarded_hostMem, h])) <;> simp_all [foldl_keep, foldl_memwf, foldl_hostwf, guarded_memwf, guarded_hostwf, guarded_mem, guarded_hostMem]

theorem execBltCopy_memwf (x0 : Agent) (x1 : Word) (x2 : Nat) (s : State) (h : Memory.wf s.mem) (t : State) (ht : execBltCopy x0 x1 x2 s = .next t) : Memory.wf t.mem := by
  unfold execBltCopy at ht
  cases ht
  (repeat' (first | assumption | split | simp [foldl_keep, foldl_memwf, foldl_hostwf, guarded_memwf, guarded_hostwf, guarded_mem, guarded_hostMem, h])) <;> simp_all [foldl_keep, foldl_memwf, foldl_hostwf, guarded_memwf, guarded_hostwf, guarded_mem, guarded_hostMem]

theorem execBltFill_memwf (x0 : Agent) (x1 : Word) (x2 : Nat) (s : State) (h : Memory.wf s.mem) (t : State) (ht : execBltFill x0 x1 x2 s = .next t) : Memory.wf t.mem := by
  unfold execBltFill at ht
  cases ht
  (repeat' (first | assumption | split | simp [foldl_keep, foldl_memwf, foldl_hostwf, guarded_memwf, guarded_hostwf, guarded_mem, guarded_hostMem, h])) <;> simp_all [foldl_keep, foldl_memwf, foldl_hostwf, guarded_memwf, guarded_hostwf, guarded_mem, guarded_hostMem]

theorem execBltCopyBlend_memwf (x0 : Agent) (x1 : Word) (x2 : Nat) (s : State) (h : Memory.wf s.mem) (t : State) (ht : execBltCopyBlend x0 x1 x2 s = .next t) : Memory.wf t.mem := by
  unfold execBltCopyBlend at ht
  cases ht
  (repeat' (first | assumption | split | simp [foldl_keep, foldl_memwf, foldl_hostwf, guarded_memwf, guarded_hostwf, guarded_mem, guarded_hostMem, h])) <;> simp_all [foldl_keep, foldl_memwf, foldl_hostwf, guarded_memwf, guarded_hostwf, guarded_mem, guarded_hostMem]

theorem execBltCopyConvert_memwf (x0 : Agent) (x1 : Word) (x2 : Nat) (s : State) (h : Memory.wf s.mem) (t : State) (ht : execBltCopyConvert x0 x1 x2 s = .next t) : Memory.wf t.mem := by
  unfold execBltCopyConvert at ht
  cases ht
  (repeat' (first | assumption | split | simp [foldl_keep, foldl_memwf, foldl_hostwf, guarded_memwf, guarded_hostwf, guarded_mem, guarded_hostMem, h])) <;> simp_all [foldl_keep, foldl_memwf, foldl_hostwf, guarded_memwf, guarded_hostwf, guarded_mem, guarded_hostMem]

theorem execBltAbort_memwf (x0 : Agent) (x1 : Word) (x2 : Nat) (x3 : Nat) (s : State) (h : Memory.wf s.mem) (t : State) (ht : execBltAbort x0 x1 x2 x3 s = .next t) : Memory.wf t.mem := by
  unfold execBltAbort at ht
  cases ht
  (repeat' (first | assumption | split | simp [foldl_keep, foldl_memwf, foldl_hostwf, guarded_memwf, guarded_hostwf, guarded_mem, guarded_hostMem, h])) <;> simp_all [foldl_keep, foldl_memwf, foldl_hostwf, guarded_memwf, guarded_hostwf, guarded_mem, guarded_hostMem]

theorem execBltDone_memwf (s : State) (h : Memory.wf s.mem) (t : State) (ht : execBltDone s = .next t) : Memory.wf t.mem := by
  unfold execBltDone at ht
  cases ht
  (repeat' (first | assumption | split | simp [foldl_keep, foldl_memwf, foldl_hostwf, guarded_memwf, guarded_hostwf, guarded_mem, guarded_hostMem, h])) <;> simp_all [foldl_keep, foldl_memwf, foldl_hostwf, guarded_memwf, guarded_hostwf, guarded_mem, guarded_hostMem]

theorem execBltMemError_memwf (x0 : Bool) (x1 : Nat) (x2 : Nat) (x3 : Nat) (s : State) (h : Memory.wf s.mem) (t : State) (ht : execBltMemError x0 x1 x2 x3 s = .next t) : Memory.wf t.mem := by
  unfold execBltMemError at ht
  cases ht
  (repeat' (first | assumption | split | simp [foldl_keep, foldl_memwf, foldl_hostwf, guarded_memwf, guarded_hostwf, guarded_mem, guarded_hostMem, h])) <;> simp_all [foldl_keep, foldl_memwf, foldl_hostwf, guarded_memwf, guarded_hostwf, guarded_mem, guarded_hostMem]

@[simp] theorem writeStream_memwf (x0 : DmaDesc) (x1 : Nat) (s : State) (x3 : Nat) (x4 : List Byte) (h : Memory.wf s.mem) : Memory.wf (writeStream x0 x1 s x3 x4).mem := by
  induction x1 generalizing s x3 x4 with
  | zero => simpa [writeStream] using h
  | succ n ih =>
    unfold writeStream
    split
    · exact h
    · exact ih _ _ _ (devWrite_memwf _ _ _ h)

@[simp] theorem writeStream_hostwf (x0 : DmaDesc) (x1 : Nat) (s : State) (x3 : Nat) (x4 : List Byte) (h : Memory.wf s.hostMem) : Memory.wf (writeStream x0 x1 s x3 x4).hostMem := by
  induction x1 generalizing s x3 x4 with
  | zero => simpa [writeStream] using h
  | succ n ih =>
    unfold writeStream
    split
    · exact h
    · exact ih _ _ _ (devWrite_hostwf _ _ _ h)

@[simp] theorem moveTo_memwf (s : State) (x1 : Nat) (x2 : DmaDesc) (x3 : Nat) (x4 : List Byte) (h : Memory.wf s.mem) : Memory.wf (moveTo s x1 x2 x3 x4).mem := by
  unfold moveTo
  (repeat' (first | assumption | split | simp [foldl_keep, foldl_memwf, foldl_hostwf, guarded_memwf, guarded_hostwf, guarded_mem, guarded_hostMem, h])) <;> simp_all [foldl_keep, foldl_memwf, foldl_hostwf, guarded_memwf, guarded_hostwf, guarded_mem, guarded_hostMem]

@[simp] theorem moveTo_hostwf (s : State) (x1 : Nat) (x2 : DmaDesc) (x3 : Nat) (x4 : List Byte) (h : Memory.wf s.hostMem) : Memory.wf (moveTo s x1 x2 x3 x4).hostMem := by
  unfold moveTo
  (repeat' (first | assumption | split | simp [foldl_keep, foldl_memwf, foldl_hostwf, guarded_memwf, guarded_hostwf, guarded_mem, guarded_hostMem, h])) <;> simp_all [foldl_keep, foldl_memwf, foldl_hostwf, guarded_memwf, guarded_hostwf, guarded_mem, guarded_hostMem]

@[simp] theorem abortRun_memwf (s : State) (x1 : Nat) (x2 : Nat) (x3 : List Byte) (h : Memory.wf s.mem) : Memory.wf (abortRun s x1 x2 x3).mem := by
  unfold abortRun
  (repeat' (first | assumption | split | simp [foldl_keep, foldl_memwf, foldl_hostwf, guarded_memwf, guarded_hostwf, guarded_mem, guarded_hostMem, h])) <;> simp_all [foldl_keep, foldl_memwf, foldl_hostwf, guarded_memwf, guarded_hostwf, guarded_mem, guarded_hostMem]

@[simp] theorem abortRun_hostwf (s : State) (x1 : Nat) (x2 : Nat) (x3 : List Byte) (h : Memory.wf s.hostMem) : Memory.wf (abortRun s x1 x2 x3).hostMem := by
  unfold abortRun
  (repeat' (first | assumption | split | simp [foldl_keep, foldl_memwf, foldl_hostwf, guarded_memwf, guarded_hostwf, guarded_mem, guarded_hostMem, h])) <;> simp_all [foldl_keep, foldl_memwf, foldl_hostwf, guarded_memwf, guarded_hostwf, guarded_mem, guarded_hostMem]

@[simp] theorem writeChCmd_memwf (s : State) (x1 : Nat) (x2 : Word) (x3 : Nat) (x4 : List Byte) (h : Memory.wf s.mem) : Memory.wf (writeChCmd s x1 x2 x3 x4).mem := by
  unfold writeChCmd
  (repeat' (first | assumption | split | simp [foldl_keep, foldl_memwf, foldl_hostwf, guarded_memwf, guarded_hostwf, guarded_mem, guarded_hostMem, h])) <;> simp_all [foldl_keep, foldl_memwf, foldl_hostwf, guarded_memwf, guarded_hostwf, guarded_mem, guarded_hostMem]

@[simp] theorem writeChCmd_hostwf (s : State) (x1 : Nat) (x2 : Word) (x3 : Nat) (x4 : List Byte) (h : Memory.wf s.hostMem) : Memory.wf (writeChCmd s x1 x2 x3 x4).hostMem := by
  unfold writeChCmd
  (repeat' (first | assumption | split | simp [foldl_keep, foldl_memwf, foldl_hostwf, guarded_memwf, guarded_hostwf, guarded_mem, guarded_hostMem, h])) <;> simp_all [foldl_keep, foldl_memwf, foldl_hostwf, guarded_memwf, guarded_hostwf, guarded_mem, guarded_hostMem]

@[simp] theorem writeChCtrl_memwf (s : State) (x1 : Nat) (x2 : Word) (x3 : Nat) (x4 : List Byte) (h : Memory.wf s.mem) : Memory.wf (writeChCtrl s x1 x2 x3 x4).mem := by
  unfold writeChCtrl
  (repeat' (first | assumption | split | simp [foldl_keep, foldl_memwf, foldl_hostwf, guarded_memwf, guarded_hostwf, guarded_mem, guarded_hostMem, h])) <;> simp_all [foldl_keep, foldl_memwf, foldl_hostwf, guarded_memwf, guarded_hostwf, guarded_mem, guarded_hostMem]

@[simp] theorem writeChCtrl_hostwf (s : State) (x1 : Nat) (x2 : Word) (x3 : Nat) (x4 : List Byte) (h : Memory.wf s.hostMem) : Memory.wf (writeChCtrl s x1 x2 x3 x4).hostMem := by
  unfold writeChCtrl
  (repeat' (first | assumption | split | simp [foldl_keep, foldl_memwf, foldl_hostwf, guarded_memwf, guarded_hostwf, guarded_mem, guarded_hostMem, h])) <;> simp_all [foldl_keep, foldl_memwf, foldl_hostwf, guarded_memwf, guarded_hostwf, guarded_mem, guarded_hostMem]

theorem execDmaGo_memwf (x0 : Agent) (x1 : Nat) (x2 : Word) (s : State) (h : Memory.wf s.mem) (t : State) (ht : execDmaGo x0 x1 x2 s = .next t) : Memory.wf t.mem := by
  unfold execDmaGo at ht
  cases ht
  (repeat' (first | assumption | split | simp [foldl_keep, foldl_memwf, foldl_hostwf, guarded_memwf, guarded_hostwf, guarded_mem, guarded_hostMem, h])) <;> simp_all [foldl_keep, foldl_memwf, foldl_hostwf, guarded_memwf, guarded_hostwf, guarded_mem, guarded_hostMem]

theorem execDmaGo_hostwf (x0 : Agent) (x1 : Nat) (x2 : Word) (s : State) (h : Memory.wf s.hostMem) (t : State) (ht : execDmaGo x0 x1 x2 s = .next t) : Memory.wf t.hostMem := by
  unfold execDmaGo at ht
  cases ht
  (repeat' (first | assumption | split | simp [foldl_keep, foldl_memwf, foldl_hostwf, guarded_memwf, guarded_hostwf, guarded_mem, guarded_hostMem, h])) <;> simp_all [foldl_keep, foldl_memwf, foldl_hostwf, guarded_memwf, guarded_hostwf, guarded_mem, guarded_hostMem]

theorem execDmaDescComplete_memwf (x0 : Nat) (x1 : List Byte) (s : State) (h : Memory.wf s.mem) (t : State) (ht : execDmaDescComplete x0 x1 s = .next t) : Memory.wf t.mem := by
  unfold execDmaDescComplete at ht
  cases ht
  (repeat' (first | assumption | split | simp [foldl_keep, foldl_memwf, foldl_hostwf, guarded_memwf, guarded_hostwf, guarded_mem, guarded_hostMem, h])) <;> simp_all [foldl_keep, foldl_memwf, foldl_hostwf, guarded_memwf, guarded_hostwf, guarded_mem, guarded_hostMem]

theorem execDmaDescComplete_hostwf (x0 : Nat) (x1 : List Byte) (s : State) (h : Memory.wf s.hostMem) (t : State) (ht : execDmaDescComplete x0 x1 s = .next t) : Memory.wf t.hostMem := by
  unfold execDmaDescComplete at ht
  cases ht
  (repeat' (first | assumption | split | simp [foldl_keep, foldl_memwf, foldl_hostwf, guarded_memwf, guarded_hostwf, guarded_mem, guarded_hostMem, h])) <;> simp_all [foldl_keep, foldl_memwf, foldl_hostwf, guarded_memwf, guarded_hostwf, guarded_mem, guarded_hostMem]

theorem execDmaResponseError_memwf (x0 : Nat) (x1 : RespKind) (x2 : Nat) (x3 : Nat) (x4 : List Byte) (s : State) (h : Memory.wf s.mem) (t : State) (ht : execDmaResponseError x0 x1 x2 x3 x4 s = .next t) : Memory.wf t.mem := by
  unfold execDmaResponseError at ht
  cases ht
  split
  · exact h
  · split
    · simp only []
      split
      · simpa using h
      · split
        · simp only [failRun_keep, meetResp_keep]
          exact moveTo_memwf _ _ _ _ _ h
        · simpa using h
        · exact h
    · exact h

theorem execDmaResponseError_hostwf (x0 : Nat) (x1 : RespKind) (x2 : Nat) (x3 : Nat) (x4 : List Byte) (s : State) (h : Memory.wf s.hostMem) (t : State) (ht : execDmaResponseError x0 x1 x2 x3 x4 s = .next t) : Memory.wf t.hostMem := by
  unfold execDmaResponseError at ht
  cases ht
  split
  · exact h
  · split
    · simp only []
      split
      · simpa using h
      · split
        · simp only [failRun_keep, meetResp_keep]
          exact moveTo_hostwf _ _ _ _ _ h
        · simpa using h
        · exact h
    · exact h

theorem execDmaTimeout_memwf (x0 : Nat) (x1 : Nat) (x2 : Nat) (x3 : Nat) (x4 : List Byte) (s : State) (h : Memory.wf s.mem) (t : State) (ht : execDmaTimeout x0 x1 x3 x4 s x2 = .next t) : Memory.wf t.mem := by
  unfold execDmaTimeout at ht
  cases ht
  (repeat' (first | assumption | split | simp [foldl_keep, foldl_memwf, foldl_hostwf, guarded_memwf, guarded_hostwf, guarded_mem, guarded_hostMem, h])) <;> simp_all [foldl_keep, foldl_memwf, foldl_hostwf, guarded_memwf, guarded_hostwf, guarded_mem, guarded_hostMem]

theorem execDmaTimeout_hostwf (x0 : Nat) (x1 : Nat) (x2 : Nat) (x3 : Nat) (x4 : List Byte) (s : State) (h : Memory.wf s.hostMem) (t : State) (ht : execDmaTimeout x0 x1 x3 x4 s x2 = .next t) : Memory.wf t.hostMem := by
  unfold execDmaTimeout at ht
  cases ht
  (repeat' (first | assumption | split | simp [foldl_keep, foldl_memwf, foldl_hostwf, guarded_memwf, guarded_hostwf, guarded_mem, guarded_hostMem, h])) <;> simp_all [foldl_keep, foldl_memwf, foldl_hostwf, guarded_memwf, guarded_hostwf, guarded_mem, guarded_hostMem]

theorem execDmaAbort_memwf (x0 : Agent) (x1 : Nat) (x2 : Bool) (x3 : Word) (x4 : Nat) (x5 : List Byte) (s : State) (h : Memory.wf s.mem) (t : State) (ht : execDmaAbort x0 x1 x2 x3 x4 x5 s = .next t) : Memory.wf t.mem := by
  unfold execDmaAbort at ht
  cases ht
  (repeat' (first | assumption | split | simp [foldl_keep, foldl_memwf, foldl_hostwf, guarded_memwf, guarded_hostwf, guarded_mem, guarded_hostMem, h])) <;> simp_all [foldl_keep, foldl_memwf, foldl_hostwf, guarded_memwf, guarded_hostwf, guarded_mem, guarded_hostMem]

theorem execDmaAbort_hostwf (x0 : Agent) (x1 : Nat) (x2 : Bool) (x3 : Word) (x4 : Nat) (x5 : List Byte) (s : State) (h : Memory.wf s.hostMem) (t : State) (ht : execDmaAbort x0 x1 x2 x3 x4 x5 s = .next t) : Memory.wf t.hostMem := by
  unfold execDmaAbort at ht
  cases ht
  (repeat' (first | assumption | split | simp [foldl_keep, foldl_memwf, foldl_hostwf, guarded_memwf, guarded_hostwf, guarded_mem, guarded_hostMem, h])) <;> simp_all [foldl_keep, foldl_memwf, foldl_hostwf, guarded_memwf, guarded_hostwf, guarded_mem, guarded_hostMem]

@[simp] theorem stopChannel_memwf (s : State) (x1 : Nat) (h : Memory.wf s.mem) : Memory.wf (stopChannel s x1).mem := by
  unfold stopChannel
  (repeat' (first | assumption | split | simp [foldl_keep, foldl_memwf, foldl_hostwf, guarded_memwf, guarded_hostwf, guarded_mem, guarded_hostMem, h])) <;> simp_all [foldl_keep, foldl_memwf, foldl_hostwf, guarded_memwf, guarded_hostwf, guarded_mem, guarded_hostMem]

@[simp] theorem stopChannel_hostwf (s : State) (x1 : Nat) (h : Memory.wf s.hostMem) : Memory.wf (stopChannel s x1).hostMem := by
  unfold stopChannel
  (repeat' (first | assumption | split | simp [foldl_keep, foldl_memwf, foldl_hostwf, guarded_memwf, guarded_hostwf, guarded_mem, guarded_hostMem, h])) <;> simp_all [foldl_keep, foldl_memwf, foldl_hostwf, guarded_memwf, guarded_hostwf, guarded_mem, guarded_hostMem]

@[simp] theorem sendVector_memwf (s : State) (x1 : Nat) (h : Memory.wf s.mem) : Memory.wf (sendVector s x1).mem := by
  unfold sendVector
  (repeat' (first | assumption | split | simp [foldl_keep, foldl_memwf, foldl_hostwf, guarded_memwf, guarded_hostwf, guarded_mem, guarded_hostMem, h])) <;> simp_all [foldl_keep, foldl_memwf, foldl_hostwf, guarded_memwf, guarded_hostwf, guarded_mem, guarded_hostMem]

@[simp] theorem sendVector_hostwf (s : State) (x1 : Nat) (h : Memory.wf s.hostMem) : Memory.wf (sendVector s x1).hostMem := by
  unfold sendVector
  (repeat' (first | assumption | split | simp [foldl_keep, foldl_memwf, foldl_hostwf, guarded_memwf, guarded_hostwf, guarded_mem, guarded_hostMem, h])) <;> simp_all [foldl_keep, foldl_memwf, foldl_hostwf, guarded_memwf, guarded_hostwf, guarded_mem, guarded_hostMem]

@[simp] theorem dueVector_memwf (s : State) (x1 : Nat) (h : Memory.wf s.mem) : Memory.wf (dueVector s x1).mem := by
  unfold dueVector
  (repeat' (first | assumption | split | simp [foldl_keep, foldl_memwf, foldl_hostwf, guarded_memwf, guarded_hostwf, guarded_mem, guarded_hostMem, h])) <;> simp_all [foldl_keep, foldl_memwf, foldl_hostwf, guarded_memwf, guarded_hostwf, guarded_mem, guarded_hostMem]

@[simp] theorem dueVector_hostwf (s : State) (x1 : Nat) (h : Memory.wf s.hostMem) : Memory.wf (dueVector s x1).hostMem := by
  unfold dueVector
  (repeat' (first | assumption | split | simp [foldl_keep, foldl_memwf, foldl_hostwf, guarded_memwf, guarded_hostwf, guarded_mem, guarded_hostMem, h])) <;> simp_all [foldl_keep, foldl_memwf, foldl_hostwf, guarded_memwf, guarded_hostwf, guarded_mem, guarded_hostMem]

@[simp] theorem flushPba_memwf (s : State) (h : Memory.wf s.mem) : Memory.wf (flushPba s).mem := by
  unfold flushPba
  refine foldl_memwf _ (fun s v hs => ?_) _ _ h
  split
  · split
    · exact sendVector_memwf _ _ hs
    · simpa using hs
  · exact hs

@[simp] theorem flushPba_hostwf (s : State) (h : Memory.wf s.hostMem) : Memory.wf (flushPba s).hostMem := by
  unfold flushPba
  refine foldl_hostwf _ (fun s v hs => ?_) _ _ h
  split
  · split
    · exact sendVector_hostwf _ _ hs
    · simpa using hs
  · exact hs

@[simp] theorem flushHeld_memwf (x0 : Bool) (s : State) (h : Memory.wf s.mem) : Memory.wf (flushHeld x0 s).mem := by
  unfold flushHeld
  refine flushPba_memwf _ (foldl_memwf _ (fun s v hs => ?_) _ _ h)
  split
  · exact sendVector_memwf _ _ (by simpa using hs)
  · exact hs

@[simp] theorem flushHeld_hostwf (x0 : Bool) (s : State) (h : Memory.wf s.hostMem) : Memory.wf (flushHeld x0 s).hostMem := by
  unfold flushHeld
  refine flushPba_hostwf _ (foldl_hostwf _ (fun s v hs => ?_) _ _ h)
  split
  · exact sendVector_hostwf _ _ (by simpa using hs)
  · exact hs

theorem execIrqOffer_memwf (x0 : Nat) (s : State) (h : Memory.wf s.mem) (t : State) (ht : execIrqOffer x0 s = .next t) : Memory.wf t.mem := by
  unfold execIrqOffer at ht
  cases ht
  (repeat' (first | assumption | split | simp [foldl_keep, foldl_memwf, foldl_hostwf, guarded_memwf, guarded_hostwf, guarded_mem, guarded_hostMem, h])) <;> simp_all [foldl_keep, foldl_memwf, foldl_hostwf, guarded_memwf, guarded_hostwf, guarded_mem, guarded_hostMem]

theorem execIrqOffer_hostwf (x0 : Nat) (s : State) (h : Memory.wf s.hostMem) (t : State) (ht : execIrqOffer x0 s = .next t) : Memory.wf t.hostMem := by
  unfold execIrqOffer at ht
  cases ht
  (repeat' (first | assumption | split | simp [foldl_keep, foldl_memwf, foldl_hostwf, guarded_memwf, guarded_hostwf, guarded_mem, guarded_hostMem, h])) <;> simp_all [foldl_keep, foldl_memwf, foldl_hostwf, guarded_memwf, guarded_hostwf, guarded_mem, guarded_hostMem]

theorem execModerationExpiry_memwf (x0 : Nat) (s : State) (h : Memory.wf s.mem) (t : State) (ht : execModerationExpiry x0 s = .next t) : Memory.wf t.mem := by
  unfold execModerationExpiry at ht
  cases ht
  (repeat' (first | assumption | split | simp [foldl_keep, foldl_memwf, foldl_hostwf, guarded_memwf, guarded_hostwf, guarded_mem, guarded_hostMem, h])) <;> simp_all [foldl_keep, foldl_memwf, foldl_hostwf, guarded_memwf, guarded_hostwf, guarded_mem, guarded_hostMem]

theorem execModerationExpiry_hostwf (x0 : Nat) (s : State) (h : Memory.wf s.hostMem) (t : State) (ht : execModerationExpiry x0 s = .next t) : Memory.wf t.hostMem := by
  unfold execModerationExpiry at ht
  cases ht
  (repeat' (first | assumption | split | simp [foldl_keep, foldl_memwf, foldl_hostwf, guarded_memwf, guarded_hostwf, guarded_mem, guarded_hostMem, h])) <;> simp_all [foldl_keep, foldl_memwf, foldl_hostwf, guarded_memwf, guarded_hostwf, guarded_mem, guarded_hostMem]

theorem execD0Entry_memwf (s : State) (h : Memory.wf s.mem) (t : State) (ht : execD0Entry s = .next t) : Memory.wf t.mem := by
  unfold execD0Entry at ht
  cases ht
  split
  · exact h
  · split
    · exact flushHeld_memwf true _ h
    · exact h

theorem execD0Entry_hostwf (s : State) (h : Memory.wf s.hostMem) (t : State) (ht : execD0Entry s = .next t) : Memory.wf t.hostMem := by
  unfold execD0Entry at ht
  cases ht
  split
  · exact h
  · split
    · exact flushHeld_hostwf true _ h
    · exact h

theorem execFwMemoryAccess_memwf (x0 : Nat) (x1 : Nat) (x2 : Bool) (x3 : Nat) (x4 : List Byte) (s : State) (h : Memory.wf s.mem) (t : State) (ht : execFwMemoryAccess x0 x1 x2 x3 x4 s = .next t) : Memory.wf t.mem := by
  unfold execFwMemoryAccess at ht
  cases ht
  (repeat' (first | assumption | split | simp [foldl_keep, foldl_memwf, foldl_hostwf, guarded_memwf, guarded_hostwf, guarded_mem, guarded_hostMem, h])) <;> simp_all [foldl_keep, foldl_memwf, foldl_hostwf, guarded_memwf, guarded_hostwf, guarded_mem, guarded_hostMem]

theorem execPowerOnReset_memwf (s : State) (h : Memory.wf s.mem) (t : State) (ht : execPowerOnReset s = .next t) : Memory.wf t.mem := by
  unfold execPowerOnReset at ht
  cases ht
  rfl

theorem execPcieLinkChange_memwf (x0 : PcieLink) (s : State) (h : Memory.wf s.mem) (t : State) (ht : execPcieLinkChange x0 s = .next t) : Memory.wf t.mem := by
  unfold execPcieLinkChange at ht
  cases ht
  split
  · exact h
  · split
    · exact h
    · split
      · exact flushHeld_memwf false _ h
      · exact h

theorem execPcieLinkChange_hostwf (x0 : PcieLink) (s : State) (h : Memory.wf s.hostMem) (t : State) (ht : execPcieLinkChange x0 s = .next t) : Memory.wf t.hostMem := by
  unfold execPcieLinkChange at ht
  cases ht
  split
  · exact h
  · split
    · exact h
    · split
      · exact flushHeld_hostwf false _ h
      · exact h

theorem execConfigurationWrite_memwf (x0 : PcieCfg) (x1 : Bool) (s : State) (h : Memory.wf s.mem) (t : State) (ht : execConfigurationWrite x0 s x1 = .next t) : Memory.wf t.mem := by
  unfold execConfigurationWrite at ht
  cases ht
  split
  · exact h
  · split
    · exact flushPba_memwf _ h
    · exact h

theorem execConfigurationWrite_hostwf (x0 : PcieCfg) (x1 : Bool) (s : State) (h : Memory.wf s.hostMem) (t : State) (ht : execConfigurationWrite x0 s x1 = .next t) : Memory.wf t.hostMem := by
  unfold execConfigurationWrite at ht
  cases ht
  split
  · exact h
  · split
    · exact flushPba_hostwf _ h
    · exact h

theorem afterWrite_memwf (s t : State) (k : PageKind) (i off : Nat) (h : Memory.wf t.mem) : Memory.wf (afterWrite s t k i off).mem := by
  unfold afterWrite
  split
  case h_7 =>
    split
    · exact flushHeld_memwf false t h
    · exact h
  all_goals (repeat' (first | assumption | split)) <;> simpa [foldl_keep] using h

@[simp] theorem storeReg_memwf (s : State) (x1 : PageKind) (x2 : Nat) (x3 : RegRow) (x4 : Nat) (x5 : Word) (h : Memory.wf s.mem) : Memory.wf (storeReg s x1 x2 x3 x4 x5).mem := by
  unfold storeReg
  simp only [notePage_keep]
  exact afterWrite_memwf _ _ _ _ _ (by simpa using h)

theorem afterWrite_hostwf (s t : State) (k : PageKind) (i off : Nat) (h : Memory.wf t.hostMem) : Memory.wf (afterWrite s t k i off).hostMem := by
  unfold afterWrite
  split
  case h_7 =>
    split
    · exact flushHeld_hostwf false t h
    · exact h
  all_goals (repeat' (first | assumption | split)) <;> simpa [foldl_keep] using h

@[simp] theorem storeReg_hostwf (s : State) (x1 : PageKind) (x2 : Nat) (x3 : RegRow) (x4 : Nat) (x5 : Word) (h : Memory.wf s.hostMem) : Memory.wf (storeReg s x1 x2 x3 x4 x5).hostMem := by
  unfold storeReg
  simp only [notePage_keep]
  exact afterWrite_hostwf _ _ _ _ _ (by simpa using h)

@[simp] theorem acceptReg_memwf (s : State) (x1 : PageKind) (x2 : Nat) (x3 : RegRow) (x4 : Nat) (x5 : Word) (h : Memory.wf s.mem) : Memory.wf (acceptReg s x1 x2 x3 x4 x5).mem := by
  unfold acceptReg
  split
  · simpa using h
  · exact storeReg_memwf _ _ _ _ _ _ h

@[simp] theorem acceptReg_hostwf (s : State) (x1 : PageKind) (x2 : Nat) (x3 : RegRow) (x4 : Nat) (x5 : Word) (h : Memory.wf s.hostMem) : Memory.wf (acceptReg s x1 x2 x3 x4 x5).hostMem := by
  unfold acceptReg
  split
  · simpa using h
  · exact storeReg_hostwf _ _ _ _ _ _ h

@[simp] theorem safeOnset_memwf (s : State) (x1 : Nat) (h : Memory.wf s.mem) : Memory.wf (safeOnset s x1).mem := by
  unfold safeOnset
  (repeat' (first | assumption | split | simp [foldl_keep, foldl_memwf, foldl_hostwf, guarded_memwf, guarded_hostwf, guarded_mem, guarded_hostMem, h])) <;> simp_all [foldl_keep, foldl_memwf, foldl_hostwf, guarded_memwf, guarded_hostwf, guarded_mem, guarded_hostMem]

@[simp] theorem safeOnset_hostwf (s : State) (x1 : Nat) (h : Memory.wf s.hostMem) : Memory.wf (safeOnset s x1).hostMem := by
  unfold safeOnset
  (repeat' (first | assumption | split | simp [foldl_keep, foldl_memwf, foldl_hostwf, guarded_memwf, guarded_hostwf, guarded_mem, guarded_hostMem, h])) <;> simp_all [foldl_keep, foldl_memwf, foldl_hostwf, guarded_memwf, guarded_hostwf, guarded_mem, guarded_hostMem]

theorem execParityMismatch_memwf (x0 : Nat) (x1 : Nat) (s : State) (h : Memory.wf s.mem) (t : State) (ht : execParityMismatch x0 x1 s = .next t) : Memory.wf t.mem := by
  unfold execParityMismatch at ht
  cases ht
  (repeat' (first | assumption | split | simp [foldl_keep, foldl_memwf, foldl_hostwf, guarded_memwf, guarded_hostwf, guarded_mem, guarded_hostMem, h])) <;> simp_all [foldl_keep, foldl_memwf, foldl_hostwf, guarded_memwf, guarded_hostwf, guarded_mem, guarded_hostMem]

theorem execParityMismatch_hostwf (x0 : Nat) (x1 : Nat) (s : State) (h : Memory.wf s.hostMem) (t : State) (ht : execParityMismatch x0 x1 s = .next t) : Memory.wf t.hostMem := by
  unfold execParityMismatch at ht
  cases ht
  (repeat' (first | assumption | split | simp [foldl_keep, foldl_memwf, foldl_hostwf, guarded_memwf, guarded_hostwf, guarded_mem, guarded_hostMem, h])) <;> simp_all [foldl_keep, foldl_memwf, foldl_hostwf, guarded_memwf, guarded_hostwf, guarded_mem, guarded_hostMem]

@[simp] theorem writePageCtrl_memwf (s : State) (x1 : Nat) (x2 : Word) (h : Memory.wf s.mem) : Memory.wf (writePageCtrl s x1 x2).mem := by
  unfold writePageCtrl
  (repeat' (first | assumption | split | simp [foldl_keep, foldl_memwf, foldl_hostwf, guarded_memwf, guarded_hostwf, guarded_mem, guarded_hostMem, h])) <;> simp_all [foldl_keep, foldl_memwf, foldl_hostwf, guarded_memwf, guarded_hostwf, guarded_mem, guarded_hostMem]

@[simp] theorem writePageCtrl_hostwf (s : State) (x1 : Nat) (x2 : Word) (h : Memory.wf s.hostMem) : Memory.wf (writePageCtrl s x1 x2).hostMem := by
  unfold writePageCtrl
  (repeat' (first | assumption | split | simp [foldl_keep, foldl_memwf, foldl_hostwf, guarded_memwf, guarded_hostwf, guarded_mem, guarded_hostMem, h])) <;> simp_all [foldl_keep, foldl_memwf, foldl_hostwf, guarded_memwf, guarded_hostwf, guarded_mem, guarded_hostMem]

@[simp] theorem pageCtrl_memwf (s : State) (x1 : Agent) (x2 : Nat) (x3 : Word) (h : Memory.wf s.mem) : Memory.wf (pageCtrl s x1 x2 x3).mem := by
  unfold pageCtrl
  (repeat' (first | assumption | split | simp [foldl_keep, foldl_memwf, foldl_hostwf, guarded_memwf, guarded_hostwf, guarded_mem, guarded_hostMem, h])) <;> simp_all [foldl_keep, foldl_memwf, foldl_hostwf, guarded_memwf, guarded_hostwf, guarded_mem, guarded_hostMem]

@[simp] theorem pageCtrl_hostwf (s : State) (x1 : Agent) (x2 : Nat) (x3 : Word) (h : Memory.wf s.hostMem) : Memory.wf (pageCtrl s x1 x2 x3).hostMem := by
  unfold pageCtrl
  (repeat' (first | assumption | split | simp [foldl_keep, foldl_memwf, foldl_hostwf, guarded_memwf, guarded_hostwf, guarded_mem, guarded_hostMem, h])) <;> simp_all [foldl_keep, foldl_memwf, foldl_hostwf, guarded_memwf, guarded_hostwf, guarded_mem, guarded_hostMem]

theorem execPageDisable_memwf (x0 : Agent) (x1 : Nat) (x2 : Word) (s : State) (h : Memory.wf s.mem) (t : State) (ht : execPageDisable x0 x1 x2 s = .next t) : Memory.wf t.mem := by
  unfold execPageDisable at ht
  cases ht
  (repeat' (first | assumption | split | simp [foldl_keep, foldl_memwf, foldl_hostwf, guarded_memwf, guarded_hostwf, guarded_mem, guarded_hostMem, h])) <;> simp_all [foldl_keep, foldl_memwf, foldl_hostwf, guarded_memwf, guarded_hostwf, guarded_mem, guarded_hostMem]

theorem execPageDisable_hostwf (x0 : Agent) (x1 : Nat) (x2 : Word) (s : State) (h : Memory.wf s.hostMem) (t : State) (ht : execPageDisable x0 x1 x2 s = .next t) : Memory.wf t.hostMem := by
  unfold execPageDisable at ht
  cases ht
  (repeat' (first | assumption | split | simp [foldl_keep, foldl_memwf, foldl_hostwf, guarded_memwf, guarded_hostwf, guarded_mem, guarded_hostMem, h])) <;> simp_all [foldl_keep, foldl_memwf, foldl_hostwf, guarded_memwf, guarded_hostwf, guarded_mem, guarded_hostMem]

theorem execPageEnable_memwf (x0 : Agent) (x1 : Nat) (x2 : Word) (s : State) (h : Memory.wf s.mem) (t : State) (ht : execPageEnable x0 x1 x2 s = .next t) : Memory.wf t.mem := by
  unfold execPageEnable at ht
  cases ht
  (repeat' (first | assumption | split | simp [foldl_keep, foldl_memwf, foldl_hostwf, guarded_memwf, guarded_hostwf, guarded_mem, guarded_hostMem, h])) <;> simp_all [foldl_keep, foldl_memwf, foldl_hostwf, guarded_memwf, guarded_hostwf, guarded_mem, guarded_hostMem]

theorem execPageEnable_hostwf (x0 : Agent) (x1 : Nat) (x2 : Word) (s : State) (h : Memory.wf s.hostMem) (t : State) (ht : execPageEnable x0 x1 x2 s = .next t) : Memory.wf t.hostMem := by
  unfold execPageEnable at ht
  cases ht
  (repeat' (first | assumption | split | simp [foldl_keep, foldl_memwf, foldl_hostwf, guarded_memwf, guarded_hostwf, guarded_mem, guarded_hostMem, h])) <;> simp_all [foldl_keep, foldl_memwf, foldl_hostwf, guarded_memwf, guarded_hostwf, guarded_mem, guarded_hostMem]

theorem execPageSoftReset_memwf (x0 : Agent) (x1 : Nat) (x2 : Word) (s : State) (h : Memory.wf s.mem) (t : State) (ht : execPageSoftReset x0 x1 x2 s = .next t) : Memory.wf t.mem := by
  unfold execPageSoftReset at ht
  cases ht
  (repeat' (first | assumption | split | simp [foldl_keep, foldl_memwf, foldl_hostwf, guarded_memwf, guarded_hostwf, guarded_mem, guarded_hostMem, h])) <;> simp_all [foldl_keep, foldl_memwf, foldl_hostwf, guarded_memwf, guarded_hostwf, guarded_mem, guarded_hostMem]

theorem execPageSoftReset_hostwf (x0 : Agent) (x1 : Nat) (x2 : Word) (s : State) (h : Memory.wf s.hostMem) (t : State) (ht : execPageSoftReset x0 x1 x2 s = .next t) : Memory.wf t.hostMem := by
  unfold execPageSoftReset at ht
  cases ht
  (repeat' (first | assumption | split | simp [foldl_keep, foldl_memwf, foldl_hostwf, guarded_memwf, guarded_hostwf, guarded_mem, guarded_hostMem, h])) <;> simp_all [foldl_keep, foldl_memwf, foldl_hostwf, guarded_memwf, guarded_hostwf, guarded_mem, guarded_hostMem]

@[simp] theorem writeMsix_memwf (s : State) (x1 : Nat) (x2 : Nat) (x3 : Word) (h : Memory.wf s.mem) : Memory.wf (writeMsix s x1 x2 x3).mem := by
  unfold writeMsix
  exact flushPba_memwf _ h

@[simp] theorem writeMsix_hostwf (s : State) (x1 : Nat) (x2 : Nat) (x3 : Word) (h : Memory.wf s.hostMem) : Memory.wf (writeMsix s x1 x2 x3).hostMem := by
  unfold writeMsix
  exact flushPba_hostwf _ h

@[simp] theorem writeHeader_memwf (s : State) (x1 : Agent) (x2 : Nat) (x3 : Nat) (x4 : Word) (h : Memory.wf s.mem) : Memory.wf (writeHeader s x1 x2 x3 x4).mem := by
  unfold writeHeader
  split
  · exact pageCtrl_memwf _ _ _ _ h
  · simpa using h
  · exact guarded_memwf _ _ _ _ _ _ h (by simpa using h)
  · simpa using h
  · simpa using h
  · rw [after_indWrite_mem]; exact h
  · simpa using h
  · exact guarded_memwf _ _ _ _ _ _ h h

@[simp] theorem writeHeader_hostwf (s : State) (x1 : Agent) (x2 : Nat) (x3 : Nat) (x4 : Word) (h : Memory.wf s.hostMem) : Memory.wf (writeHeader s x1 x2 x3 x4).hostMem := by
  unfold writeHeader
  split
  · exact pageCtrl_hostwf _ _ _ _ h
  · simpa using h
  · exact guarded_hostwf _ _ _ _ _ _ h (by simpa using h)
  · simpa using h
  · simpa using h
  · rw [after_indWrite_hostMem]; exact h
  · simpa using h
  · exact guarded_hostwf _ _ _ _ _ _ h h

theorem after_wf (P : State → Prop) (s : State) (o : Host.Outcome State Fault Refusal) (h : P s) (k : ∀ t, o = .next t → P t) : P (after s o) := by
  cases o <;> first | exact k _ rfl | exact h

@[simp] theorem after_execBltAbort_memwf (a : Agent) (v : Word) (r b : Nat) (s : State) (h : Memory.wf s.mem) :
    Memory.wf (after s (execBltAbort a v r b s)).mem := after_wf (fun s => Memory.wf s.mem) _ _ h (execBltAbort_memwf _ _ _ _ _ h)

@[simp] theorem after_execDmaAbort_memwf (a : Agent) (ch : Nat) (c : Bool) (v : Word) (m : Nat) (hd : List Byte) (s : State) (h : Memory.wf s.mem) :
    Memory.wf (after s (execDmaAbort a ch c v m hd s)).mem := after_wf (fun s => Memory.wf s.mem) _ _ h (execDmaAbort_memwf _ _ _ _ _ _ _ h)

@[simp] theorem after_execDmaAbort_hostwf (a : Agent) (ch : Nat) (c : Bool) (v : Word) (m : Nat) (hd : List Byte) (s : State) (h : Memory.wf s.hostMem) :
    Memory.wf (after s (execDmaAbort a ch c v m hd s)).hostMem := after_wf (fun s => Memory.wf s.hostMem) _ _ h (execDmaAbort_hostwf _ _ _ _ _ _ _ h)

theorem writeOwn_memwf (s : State) (a : Agent) (k : PageKind) (i off : Nat) (v : Word) (t : State)
    (e : writeOwn s a k i off v = some t) (h : Memory.wf s.mem) : Memory.wf t.mem := by
  unfold writeOwn at e
  simp only [] at e
  split at e <;> (try split at e) <;> cases e <;> simp [h]

theorem writeOwn_hostwf (s : State) (a : Agent) (k : PageKind) (i off : Nat) (v : Word) (t : State)
    (e : writeOwn s a k i off v = some t) (h : Memory.wf s.hostMem) : Memory.wf t.hostMem := by
  unfold writeOwn at e
  simp only [] at e
  split at e <;> (try split at e) <;> cases e <;> simp [h]

@[simp] theorem writeBody_memwf (s : State) (x1 : Agent) (x2 : Nat) (x3 : Word) (h : Memory.wf s.mem) : Memory.wf (writeBody s x1 x2 x3).mem := by
  unfold writeBody
  split
  · exact guarded_memwf _ _ _ _ _ _ h h
  · split
    · rename_i e
      exact writeOwn_memwf _ _ _ _ _ _ _ e h
    · split
      · simpa using h
      · split
        · simpa using h
        · exact guarded_memwf _ _ _ _ _ _ h (acceptReg_memwf _ _ _ _ _ _ h)
      · split
        · exact guarded_memwf _ _ _ _ _ _ h (acceptReg_memwf _ _ _ _ _ _ h)
        · simpa using h
      · exact guarded_memwf _ _ _ _ _ _ h h
      · exact guarded_memwf _ _ _ _ _ _ h h

@[simp] theorem writeBody_hostwf (s : State) (x1 : Agent) (x2 : Nat) (x3 : Word) (h : Memory.wf s.hostMem) : Memory.wf (writeBody s x1 x2 x3).hostMem := by
  unfold writeBody
  split
  · exact guarded_hostwf _ _ _ _ _ _ h h
  · split
    · rename_i e
      exact writeOwn_hostwf _ _ _ _ _ _ _ e h
    · split
      · simpa using h
      · split
        · simpa using h
        · exact guarded_hostwf _ _ _ _ _ _ h (acceptReg_hostwf _ _ _ _ _ _ h)
      · split
        · exact guarded_hostwf _ _ _ _ _ _ h (acceptReg_hostwf _ _ _ _ _ _ h)
        · simpa using h
      · exact guarded_hostwf _ _ _ _ _ _ h h
      · exact guarded_hostwf _ _ _ _ _ _ h h

@[simp] theorem writeReg_memwf (s : State) (x1 : Agent) (x2 : Nat) (x3 : Word) (h : Memory.wf s.mem) : Memory.wf (writeReg s x1 x2 x3).mem := by
  unfold writeReg
  simp only []
  split
  · split
    · exact writeMsix_memwf _ _ _ _ h
    · exact h
  · split
    · exact h
    · split
      · exact writeHeader_memwf _ _ _ _ _ h
      · split
        · exact guarded_memwf _ _ _ _ _ _ h h
        · exact writeBody_memwf _ _ _ _ h

@[simp] theorem writeReg_hostwf (s : State) (x1 : Agent) (x2 : Nat) (x3 : Word) (h : Memory.wf s.hostMem) : Memory.wf (writeReg s x1 x2 x3).hostMem := by
  unfold writeReg
  simp only []
  split
  · split
    · exact writeMsix_hostwf _ _ _ _ h
    · exact h
  · split
    · exact h
    · split
      · exact writeHeader_hostwf _ _ _ _ _ h
      · split
        · exact guarded_hostwf _ _ _ _ _ _ h h
        · exact writeBody_hostwf _ _ _ _ h

theorem execRegisterWrite_memwf (x0 : Agent) (x1 : Nat) (x2 : Word) (s : State) (h : Memory.wf s.mem) (t : State) (ht : execRegisterWrite x0 x1 x2 s = .next t) : Memory.wf t.mem := by
  unfold execRegisterWrite at ht
  cases ht
  (repeat' (first | assumption | split | simp [foldl_keep, foldl_memwf, foldl_hostwf, guarded_memwf, guarded_hostwf, guarded_mem, guarded_hostMem, h])) <;> simp_all [foldl_keep, foldl_memwf, foldl_hostwf, guarded_memwf, guarded_hostwf, guarded_mem, guarded_hostMem]

theorem execRegisterWrite_hostwf (x0 : Agent) (x1 : Nat) (x2 : Word) (s : State) (h : Memory.wf s.hostMem) (t : State) (ht : execRegisterWrite x0 x1 x2 s = .next t) : Memory.wf t.hostMem := by
  unfold execRegisterWrite at ht
  cases ht
  (repeat' (first | assumption | split | simp [foldl_keep, foldl_memwf, foldl_hostwf, guarded_memwf, guarded_hostwf, guarded_mem, guarded_hostMem, h])) <;> simp_all [foldl_keep, foldl_memwf, foldl_hostwf, guarded_memwf, guarded_hostwf, guarded_mem, guarded_hostMem]

theorem execBar2Write_memwf (x0 : Nat) (x1 : List Byte) (s : State) (h : Memory.wf s.mem) (t : State) (ht : execBar2Write x0 x1 s = .next t) : Memory.wf t.mem := by
  unfold execBar2Write at ht
  cases ht
  (repeat' (first | assumption | split | simp [foldl_keep, foldl_memwf, foldl_hostwf, guarded_memwf, guarded_hostwf, guarded_mem, guarded_hostMem, h])) <;> simp_all [foldl_keep, foldl_memwf, foldl_hostwf, guarded_memwf, guarded_hostwf, guarded_mem, guarded_hostMem]

@[simp] theorem tapRun_memwf (s : State) (x1 : TapOp) (h : Memory.wf s.mem) : Memory.wf (tapRun s x1).mem := by
  unfold tapRun
  (repeat' (first | assumption | split | simp [foldl_keep, foldl_memwf, foldl_hostwf, guarded_memwf, guarded_hostwf, guarded_mem, guarded_hostMem, h])) <;> simp_all [foldl_keep, foldl_memwf, foldl_hostwf, guarded_memwf, guarded_hostwf, guarded_mem, guarded_hostMem]

@[simp] theorem tapRun_hostwf (s : State) (x1 : TapOp) (h : Memory.wf s.hostMem) : Memory.wf (tapRun s x1).hostMem := by
  unfold tapRun
  (repeat' (first | assumption | split | simp [foldl_keep, foldl_memwf, foldl_hostwf, guarded_memwf, guarded_hostwf, guarded_mem, guarded_hostMem, h])) <;> simp_all [foldl_keep, foldl_memwf, foldl_hostwf, guarded_memwf, guarded_hostwf, guarded_mem, guarded_hostMem]

theorem execTapAccess_memwf (x0 : TapOp) (s : State) (h : Memory.wf s.mem) (t : State) (ht : execTapAccess x0 s = .next t) : Memory.wf t.mem := by
  unfold execTapAccess at ht
  cases ht
  (repeat' (first | assumption | split | simp [foldl_keep, foldl_memwf, foldl_hostwf, guarded_memwf, guarded_hostwf, guarded_mem, guarded_hostMem, h])) <;> simp_all [foldl_keep, foldl_memwf, foldl_hostwf, guarded_memwf, guarded_hostwf, guarded_mem, guarded_hostMem]

theorem execTapAccess_hostwf (x0 : TapOp) (s : State) (h : Memory.wf s.hostMem) (t : State) (ht : execTapAccess x0 s = .next t) : Memory.wf t.hostMem := by
  unfold execTapAccess at ht
  cases ht
  (repeat' (first | assumption | split | simp [foldl_keep, foldl_memwf, foldl_hostwf, guarded_memwf, guarded_hostwf, guarded_mem, guarded_hostMem, h])) <;> simp_all [foldl_keep, foldl_memwf, foldl_hostwf, guarded_memwf, guarded_hostwf, guarded_mem, guarded_hostMem]

end Sys2Proof.Machine
end

