-- ==== Sys2Proof/Laws/HostMemory.lean ====
section
/-! SUPPORT. While bus mastering is disabled no operation and no meaning changes host memory (R374, R375). -/

set_option linter.all false

namespace Sys2Proof.Machine



theorem foldl_host {α : Type} (f : State → α → State) (h : ∀ s a, s.pcie.cfg.busMaster = false → (f s a).hostMem = s.hostMem ∧ (f s a).pcie.cfg = s.pcie.cfg) (l : List α) (s : State) (hs : s.pcie.cfg.busMaster = false) : (l.foldl f s).hostMem = s.hostMem := by
  induction l generalizing s with
  | nil => rfl
  | cons a l ih =>
    have k := h s a hs
    exact (ih (f s a) (by rw [k.2]; exact hs)).trans k.1

theorem guarded_host (s t : State) (a : Agent) (addr : Nat) (v : Word) (k : LockKind) (ht : t.hostMem = s.hostMem) : (guarded s a addr v k t).hostMem = s.hostMem := guarded_hostMem _ _ _ _ _ _ ht

@[simp] theorem devWrite_host (s : State) (x1 : Nat) (x2 : List Byte) (h : s.pcie.cfg.busMaster = false) : (devWrite s x1 x2).hostMem = s.hostMem := by
  unfold devWrite
  (repeat' (first | assumption | split | simp [foldl_keep, foldl_cfg, guarded_hostMem, h])) <;> simp_all [foldl_keep, foldl_cfg, guarded_hostMem]

@[simp] theorem mqComplete_host (s : State) (x1 : Nat) (x2 : Nat) (x3 : Nat) (h : s.pcie.cfg.busMaster = false) : (mqComplete s x1 x2 x3).hostMem = s.hostMem := by
  unfold mqComplete
  (repeat' (first | assumption | split | simp [foldl_keep, foldl_cfg, guarded_hostMem, h])) <;> simp_all [foldl_keep, foldl_cfg, guarded_hostMem]

theorem execTxFrameDone_host (x0 : Nat) (s : State) (h : s.pcie.cfg.busMaster = false) (t : State) (ht : execTxFrameDone x0 s = .next t) : t.hostMem = s.hostMem := by
  unfold execTxFrameDone at ht
  cases ht
  (repeat' (first | assumption | split | simp [foldl_keep, foldl_cfg, guarded_hostMem, h])) <;> simp_all [foldl_keep, foldl_cfg, guarded_hostMem]

theorem execMqDescReadDone_host (x0 : Nat) (x1 : Bool) (x2 : List Byte) (s : State) (h : s.pcie.cfg.busMaster = false) (t : State) (ht : execMqDescReadDone x0 x2 s x1 = .next t) : t.hostMem = s.hostMem := by
  unfold execMqDescReadDone at ht
  cases ht
  (repeat' (first | assumption | split | simp [foldl_keep, foldl_cfg, guarded_hostMem, h])) <;> simp_all [foldl_keep, foldl_cfg, guarded_hostMem]

@[simp] theorem completeReq_host (s : State) (x1 : Nat) (x2 : Nat) (x3 : CSession) (x4 : CReq) (x5 : Nat) (x6 : List Byte) (h : s.pcie.cfg.busMaster = false) : (completeReq s x1 x2 x3 x4 x5 x6).hostMem = s.hostMem := by
  unfold completeReq
  (repeat' (first | assumption | split | simp [foldl_keep, foldl_cfg, guarded_hostMem, h])) <;> simp_all [foldl_keep, foldl_cfg, guarded_hostMem]

theorem execSessionComplete_host (x0 : Nat) (x1 : Nat) (s : State) (h : s.pcie.cfg.busMaster = false) (t : State) (ht : execSessionComplete x0 x1 s = .next t) : t.hostMem = s.hostMem := by
  unfold execSessionComplete at ht
  cases ht
  (repeat' (first | assumption | split | simp [foldl_keep, foldl_cfg, guarded_hostMem, h])) <;> simp_all [foldl_keep, foldl_cfg, guarded_hostMem]

@[simp] theorem hostFenceRecord_host (s : State) (x1 : Nat) (x2 : FencePend) (x3 : Nat) (x4 : Nat) (h : s.pcie.cfg.busMaster = false) : (hostFenceRecord s x1 x2 x3 x4).hostMem = s.hostMem := by
  unfold hostFenceRecord
  (repeat' (first | assumption | split | simp [foldl_keep, foldl_cfg, guarded_hostMem, h])) <;> simp_all [foldl_keep, foldl_cfg, guarded_hostMem]

theorem execFencePublish_host (x0 : Nat) (x1 : Nat) (s : State) (h : s.pcie.cfg.busMaster = false) (t : State) (ht : execFencePublish x0 x1 s = .next t) : t.hostMem = s.hostMem := by
  unfold execFencePublish at ht
  cases ht
  (repeat' (first | assumption | split | simp [foldl_keep, foldl_cfg, guarded_hostMem, h])) <;> simp_all [foldl_keep, foldl_cfg, guarded_hostMem]

@[simp] theorem writeStream_host (x0 : DmaDesc) (x1 : Nat) (s : State) (x3 : Nat) (x4 : List Byte) (h : s.pcie.cfg.busMaster = false) : (writeStream x0 x1 s x3 x4).hostMem = s.hostMem := by
  induction x1 generalizing s x3 x4 with
  | zero => rfl
  | succ n ih =>
    unfold writeStream
    split
    · rfl
    · rw [ih _ _ _ (by rw [devWrite_pcie_cfg]; exact h), devWrite_host _ _ _ h]

@[simp] theorem moveTo_host (s : State) (x1 : Nat) (x2 : DmaDesc) (x3 : Nat) (x4 : List Byte) (h : s.pcie.cfg.busMaster = false) : (moveTo s x1 x2 x3 x4).hostMem = s.hostMem := by
  unfold moveTo
  (repeat' (first | assumption | split | simp [foldl_keep, foldl_cfg, guarded_hostMem, h])) <;> simp_all [foldl_keep, foldl_cfg, guarded_hostMem]

@[simp] theorem abortRun_host (s : State) (x1 : Nat) (x2 : Nat) (x3 : List Byte) (h : s.pcie.cfg.busMaster = false) : (abortRun s x1 x2 x3).hostMem = s.hostMem := by
  unfold abortRun
  (repeat' (first | assumption | split | simp [foldl_keep, foldl_cfg, guarded_hostMem, h])) <;> simp_all [foldl_keep, foldl_cfg, guarded_hostMem]

@[simp] theorem writeChCmd_host (s : State) (x1 : Nat) (x2 : Word) (x3 : Nat) (x4 : List Byte) (h : s.pcie.cfg.busMaster = false) : (writeChCmd s x1 x2 x3 x4).hostMem = s.hostMem := by
  unfold writeChCmd
  (repeat' (first | assumption | split | simp [foldl_keep, foldl_cfg, guarded_hostMem, h])) <;> simp_all [foldl_keep, foldl_cfg, guarded_hostMem]

@[simp] theorem writeChCtrl_host (s : State) (x1 : Nat) (x2 : Word) (x3 : Nat) (x4 : List Byte) (h : s.pcie.cfg.busMaster = false) : (writeChCtrl s x1 x2 x3 x4).hostMem = s.hostMem := by
  unfold writeChCtrl
  (repeat' (first | assumption | split | simp [foldl_keep, foldl_cfg, guarded_hostMem, h])) <;> simp_all [foldl_keep, foldl_cfg, guarded_hostMem]

theorem execDmaGo_host (x0 : Agent) (x1 : Nat) (x2 : Word) (s : State) (h : s.pcie.cfg.busMaster = false) (t : State) (ht : execDmaGo x0 x1 x2 s = .next t) : t.hostMem = s.hostMem := by
  unfold execDmaGo at ht
  cases ht
  (repeat' (first | assumption | split | simp [foldl_keep, foldl_cfg, guarded_hostMem, h])) <;> simp_all [foldl_keep, foldl_cfg, guarded_hostMem]

theorem execDmaDescComplete_host (x0 : Nat) (x1 : List Byte) (s : State) (h : s.pcie.cfg.busMaster = false) (t : State) (ht : execDmaDescComplete x0 x1 s = .next t) : t.hostMem = s.hostMem := by
  unfold execDmaDescComplete at ht
  cases ht
  (repeat' (first | assumption | split | simp [foldl_keep, foldl_cfg, guarded_hostMem, h])) <;> simp_all [foldl_keep, foldl_cfg, guarded_hostMem]

theorem execDmaResponseError_host (x0 : Nat) (x1 : RespKind) (x2 : Nat) (x3 : Nat) (x4 : List Byte) (s : State) (h : s.pcie.cfg.busMaster = false) (t : State) (ht : execDmaResponseError x0 x1 x2 x3 x4 s = .next t) : t.hostMem = s.hostMem := by
  unfold execDmaResponseError at ht
  cases ht
  (repeat' (first | assumption | split | simp [foldl_keep, foldl_cfg, guarded_hostMem, h])) <;> simp_all [foldl_keep, foldl_cfg, guarded_hostMem]

theorem execDmaTimeout_host (x0 : Nat) (x1 : Nat) (x2 : Nat) (x3 : Nat) (x4 : List Byte) (s : State) (h : s.pcie.cfg.busMaster = false) (t : State) (ht : execDmaTimeout x0 x1 x3 x4 s x2 = .next t) : t.hostMem = s.hostMem := by
  unfold execDmaTimeout at ht
  cases ht
  (repeat' (first | assumption | split | simp [foldl_keep, foldl_cfg, guarded_hostMem, h])) <;> simp_all [foldl_keep, foldl_cfg, guarded_hostMem]

theorem execDmaAbort_host (x0 : Agent) (x1 : Nat) (x2 : Bool) (x3 : Word) (x4 : Nat) (x5 : List Byte) (s : State) (h : s.pcie.cfg.busMaster = false) (t : State) (ht : execDmaAbort x0 x1 x2 x3 x4 x5 s = .next t) : t.hostMem = s.hostMem := by
  unfold execDmaAbort at ht
  cases ht
  (repeat' (first | assumption | split | simp [foldl_keep, foldl_cfg, guarded_hostMem, h])) <;> simp_all [foldl_keep, foldl_cfg, guarded_hostMem]

@[simp] theorem stopChannel_host (s : State) (x1 : Nat) (h : s.pcie.cfg.busMaster = false) : (stopChannel s x1).hostMem = s.hostMem := by
  unfold stopChannel
  (repeat' (first | assumption | split | simp [foldl_keep, foldl_cfg, guarded_hostMem, h])) <;> simp_all [foldl_keep, foldl_cfg, guarded_hostMem]

@[simp] theorem sendVector_host (s : State) (x1 : Nat) (h : s.pcie.cfg.busMaster = false) : (sendVector s x1).hostMem = s.hostMem := by
  unfold sendVector
  (repeat' (first | assumption | split | simp [foldl_keep, foldl_cfg, guarded_hostMem, h])) <;> simp_all [foldl_keep, foldl_cfg, guarded_hostMem]

@[simp] theorem dueVector_host (s : State) (x1 : Nat) (h : s.pcie.cfg.busMaster = false) : (dueVector s x1).hostMem = s.hostMem := by
  unfold dueVector
  (repeat' (first | assumption | split | simp [foldl_keep, foldl_cfg, guarded_hostMem, h])) <;> simp_all [foldl_keep, foldl_cfg, guarded_hostMem]

@[simp] theorem flushPba_host (s : State) (h : s.pcie.cfg.busMaster = false) : (flushPba s).hostMem = s.hostMem := by
  unfold flushPba
  refine foldl_host _ (fun s v hs => ?_) _ _ h
  split
  · split
    · exact ⟨sendVector_host _ _ hs, sendVector_pcie_cfg _ _⟩
    · simp
  · exact ⟨rfl, rfl⟩

@[simp] theorem flushHeld_host (x0 : Bool) (s : State) (h : s.pcie.cfg.busMaster = false) : (flushHeld x0 s).hostMem = s.hostMem := by
  unfold flushHeld
  generalize List.range 64 = l
  have k := foldl_host (fun s v => if Store.get noB s.icu.held v && (x0 || Store.get zeroN s.icu.timers v == 0) then
      sendVector (setHeld s v false) v else s) (fun s v hs => by
    split
    · exact ⟨(sendVector_host _ _ (by simpa using hs)).trans (setHeld_hostMem _ _ _), by simp⟩
    · exact ⟨rfl, rfl⟩) l s h
  have k2 := foldl_cfg (fun s v => if Store.get noB s.icu.held v && (x0 || Store.get zeroN s.icu.timers v == 0) then
      sendVector (setHeld s v false) v else s) (fun s v => by split <;> simp) l s
  rw [flushPba_host _ (by rw [k2]; exact h), k]

theorem execIrqOffer_host (x0 : Nat) (s : State) (h : s.pcie.cfg.busMaster = false) (t : State) (ht : execIrqOffer x0 s = .next t) : t.hostMem = s.hostMem := by
  unfold execIrqOffer at ht
  cases ht
  (repeat' (first | assumption | split | simp [foldl_keep, foldl_cfg, guarded_hostMem, h])) <;> simp_all [foldl_keep, foldl_cfg, guarded_hostMem]

theorem execModerationExpiry_host (x0 : Nat) (s : State) (h : s.pcie.cfg.busMaster = false) (t : State) (ht : execModerationExpiry x0 s = .next t) : t.hostMem = s.hostMem := by
  unfold execModerationExpiry at ht
  cases ht
  (repeat' (first | assumption | split | simp [foldl_keep, foldl_cfg, guarded_hostMem, h])) <;> simp_all [foldl_keep, foldl_cfg, guarded_hostMem]

theorem execD0Entry_host (s : State) (h : s.pcie.cfg.busMaster = false) (t : State) (ht : execD0Entry s = .next t) : t.hostMem = s.hostMem := by
  unfold execD0Entry at ht
  cases ht
  split
  · rfl
  · split
    · exact flushHeld_host true _ h
    · rfl

theorem execPcieLinkChange_host (x0 : PcieLink) (s : State) (h : s.pcie.cfg.busMaster = false) (t : State) (ht : execPcieLinkChange x0 s = .next t) : t.hostMem = s.hostMem := by
  unfold execPcieLinkChange at ht
  cases ht
  split
  · rfl
  · split
    · rfl
    · split
      · exact flushHeld_host false _ h
      · rfl

theorem afterWrite_host (s t : State) (k : PageKind) (i off : Nat) (h : t.pcie.cfg.busMaster = false) :
    (afterWrite s t k i off).hostMem = t.hostMem := by
  unfold afterWrite
  split
  case h_7 =>
    split
    · exact flushHeld_host false t h
    · rfl
  all_goals (repeat' (first | rfl | split)) <;> simp [foldl_keep]

@[simp] theorem storeReg_host (s : State) (x1 : PageKind) (x2 : Nat) (x3 : RegRow) (x4 : Nat) (x5 : Word) (h : s.pcie.cfg.busMaster = false) : (storeReg s x1 x2 x3 x4 x5).hostMem = s.hostMem := by
  unfold storeReg
  simp only [notePage_keep]
  rw [afterWrite_host _ _ _ _ _ (by simpa using h)]
  simp

@[simp] theorem acceptReg_host (s : State) (x1 : PageKind) (x2 : Nat) (x3 : RegRow) (x4 : Nat) (x5 : Word) (h : s.pcie.cfg.busMaster = false) : (acceptReg s x1 x2 x3 x4 x5).hostMem = s.hostMem := by
  unfold acceptReg
  split
  · simp
  · exact storeReg_host _ _ _ _ _ _ h

theorem foldl_stop_host (l : List Nat) (s : State) (h : s.pcie.cfg.busMaster = false) :
    (l.foldl stopChannel s).hostMem = s.hostMem := by
  induction l generalizing s with
  | nil => rfl
  | cons c l ih => rw [List.foldl_cons, ih _ (by simpa using h), stopChannel_host s c h]

@[simp] theorem safeOnset_host (s : State) (x1 : Nat) (h : s.pcie.cfg.busMaster = false) : (safeOnset s x1).hostMem = s.hostMem := by
  unfold safeOnset
  have hh : (holdSafe s x1).pcie.cfg.busMaster = false := by simpa using h
  simp only []
  split
  · simp
  · simp
  · simp
  · simp
  · rw [foldl_stop_host _ _ hh]; simp
  · rw [stopChannel_host _ _ hh]; simp
  · simp

theorem execParityMismatch_host (x0 : Nat) (x1 : Nat) (s : State) (h : s.pcie.cfg.busMaster = false) (t : State) (ht : execParityMismatch x0 x1 s = .next t) : t.hostMem = s.hostMem := by
  unfold execParityMismatch at ht
  cases ht
  (repeat' (first | assumption | split | simp [foldl_keep, foldl_cfg, guarded_hostMem, h])) <;> simp_all [foldl_keep, foldl_cfg, guarded_hostMem]

@[simp] theorem writePageCtrl_host (s : State) (x1 : Nat) (x2 : Word) (h : s.pcie.cfg.busMaster = false) : (writePageCtrl s x1 x2).hostMem = s.hostMem := by
  unfold writePageCtrl
  (repeat' (first | assumption | split | simp [foldl_keep, foldl_cfg, guarded_hostMem, h])) <;> simp_all [foldl_keep, foldl_cfg, guarded_hostMem]

@[simp] theorem pageCtrl_host (s : State) (x1 : Agent) (x2 : Nat) (x3 : Word) (h : s.pcie.cfg.busMaster = false) : (pageCtrl s x1 x2 x3).hostMem = s.hostMem := by
  unfold pageCtrl
  (repeat' (first | assumption | split | simp [foldl_keep, foldl_cfg, guarded_hostMem, h])) <;> simp_all [foldl_keep, foldl_cfg, guarded_hostMem]

theorem execPageDisable_host (x0 : Agent) (x1 : Nat) (x2 : Word) (s : State) (h : s.pcie.cfg.busMaster = false) (t : State) (ht : execPageDisable x0 x1 x2 s = .next t) : t.hostMem = s.hostMem := by
  unfold execPageDisable at ht
  cases ht
  (repeat' (first | assumption | split | simp [foldl_keep, foldl_cfg, guarded_hostMem, h])) <;> simp_all [foldl_keep, foldl_cfg, guarded_hostMem]

theorem execPageEnable_host (x0 : Agent) (x1 : Nat) (x2 : Word) (s : State) (h : s.pcie.cfg.busMaster = false) (t : State) (ht : execPageEnable x0 x1 x2 s = .next t) : t.hostMem = s.hostMem := by
  unfold execPageEnable at ht
  cases ht
  (repeat' (first | assumption | split | simp [foldl_keep, foldl_cfg, guarded_hostMem, h])) <;> simp_all [foldl_keep, foldl_cfg, guarded_hostMem]

theorem execPageSoftReset_host (x0 : Agent) (x1 : Nat) (x2 : Word) (s : State) (h : s.pcie.cfg.busMaster = false) (t : State) (ht : execPageSoftReset x0 x1 x2 s = .next t) : t.hostMem = s.hostMem := by
  unfold execPageSoftReset at ht
  cases ht
  (repeat' (first | assumption | split | simp [foldl_keep, foldl_cfg, guarded_hostMem, h])) <;> simp_all [foldl_keep, foldl_cfg, guarded_hostMem]

@[simp] theorem writeMsix_host (s : State) (x1 : Nat) (x2 : Nat) (x3 : Word) (h : s.pcie.cfg.busMaster = false) : (writeMsix s x1 x2 x3).hostMem = s.hostMem := by
  unfold writeMsix
  exact flushPba_host _ h

@[simp] theorem writeHeader_host (s : State) (x1 : Agent) (x2 : Nat) (x3 : Nat) (x4 : Word) (h : s.pcie.cfg.busMaster = false) : (writeHeader s x1 x2 x3 x4).hostMem = s.hostMem := by
  unfold writeHeader
  split
  · exact pageCtrl_host _ _ _ _ h
  · simp
  · exact guarded_hostMem _ _ _ _ _ _ (by simp)
  · simp
  · simp
  · rw [after_indWrite_hostMem]
  · simp
  · exact guarded_hostMem _ _ _ _ _ _ rfl

@[simp] theorem after_execDmaAbort_host (a : Agent) (ch : Nat) (c : Bool) (v : Word) (m : Nat) (hd : List Byte) (s : State) (h : s.pcie.cfg.busMaster = false) :
    (after s (execDmaAbort a ch c v m hd s)).hostMem = s.hostMem := by
  obtain ⟨t, ht, k⟩ := execDmaAbort_keep a ch c v m hd s
  rw [ht]; exact execDmaAbort_host _ _ _ _ _ _ _ h t ht

theorem writeOwn_host (s : State) (a : Agent) (k : PageKind) (i off : Nat) (v : Word) (t : State)
    (e : writeOwn s a k i off v = some t) (h : s.pcie.cfg.busMaster = false) : t.hostMem = s.hostMem := by
  unfold writeOwn at e
  simp only [] at e
  split at e <;> (try split at e) <;> cases e <;> simp [h]

@[simp] theorem writeBody_host (s : State) (x1 : Agent) (x2 : Nat) (x3 : Word) (h : s.pcie.cfg.busMaster = false) : (writeBody s x1 x2 x3).hostMem = s.hostMem := by
  unfold writeBody
  split
  · exact guarded_hostMem _ _ _ _ _ _ rfl
  · split
    · rename_i e
      exact writeOwn_host _ _ _ _ _ _ _ e h
    · split
      · simp
      · split
        · simp
        · exact guarded_hostMem _ _ _ _ _ _ (acceptReg_host _ _ _ _ _ _ h)
      · split
        · exact guarded_hostMem _ _ _ _ _ _ (acceptReg_host _ _ _ _ _ _ h)
        · simp
      · exact guarded_hostMem _ _ _ _ _ _ rfl
      · exact guarded_hostMem _ _ _ _ _ _ rfl

@[simp] theorem writeReg_host (s : State) (x1 : Agent) (x2 : Nat) (x3 : Word) (h : s.pcie.cfg.busMaster = false) : (writeReg s x1 x2 x3).hostMem = s.hostMem := by
  unfold writeReg
  simp only []
  split
  · split
    · exact writeMsix_host _ _ _ _ h
    · rfl
  · split
    · rfl
    · split
      · exact writeHeader_host _ _ _ _ _ h
      · split
        · exact guarded_hostMem _ _ _ _ _ _ rfl
        · exact writeBody_host _ _ _ _ h

theorem execRegisterWrite_host (x0 : Agent) (x1 : Nat) (x2 : Word) (s : State) (h : s.pcie.cfg.busMaster = false) (t : State) (ht : execRegisterWrite x0 x1 x2 s = .next t) : t.hostMem = s.hostMem := by
  unfold execRegisterWrite at ht
  cases ht
  (repeat' (first | assumption | split | simp [foldl_keep, foldl_cfg, guarded_hostMem, h])) <;> simp_all [foldl_keep, foldl_cfg, guarded_hostMem]

@[simp] theorem tapRun_host (s : State) (x1 : TapOp) (h : s.pcie.cfg.busMaster = false) : (tapRun s x1).hostMem = s.hostMem := by
  unfold tapRun
  (repeat' (first | assumption | split | simp [foldl_keep, foldl_cfg, guarded_hostMem, h])) <;> simp_all [foldl_keep, foldl_cfg, guarded_hostMem]

theorem execTapAccess_host (x0 : TapOp) (s : State) (h : s.pcie.cfg.busMaster = false) (t : State) (ht : execTapAccess x0 s = .next t) : t.hostMem = s.hostMem := by
  unfold execTapAccess at ht
  cases ht
  (repeat' (first | assumption | split | simp [foldl_keep, foldl_cfg, guarded_hostMem, h])) <;> simp_all [foldl_keep, foldl_cfg, guarded_hostMem]

end Sys2Proof.Machine
end

