-- ==== Sys2Proof/Laws/Ops.lean ====
section
/-! SUPPORT. What the shared operations of Machine/Ops.lean can do, said once: running a command, an accepted and a refused write,
audit records, pulses and causes, indirect pointers, device memory. -/

namespace Sys2Proof.Machine

/-- Awake, a command's effect is its outcome. -/
theorem live_awake {s t : State} (h : Awake s) : live s t = .next t := by
  unfold live; rw [if_neg]; rw [h]; decide

/-- With its clock running, the effect of what a gated clock drives is its outcome (R436). -/
theorem wall_lit {s t : State} (h : Lit s) : wall s t = .next t := by
  unfold wall; rw [live_awake h.1, if_pos h.2]

/-- What a gated clock drives does nothing in STANDBY (R436). -/
theorem wall_gated {s t : State} (h : serdesOn s = false) : wall s t = .next s := by
  unfold wall live; rw [h]; simp

/-- A level that falls is noted for its source alone (R356). -/
theorem noteFall_frame (s : State) (i : Nat) : noteFall s i = { s with icu := (noteFall s i).icu } := by
  unfold noteFall; split <;> rfl

/-- A request for L0 is noted in the PCIe state alone (R364). -/
theorem askL0_frame (s : State) : askL0 s = { s with pcie := (askL0 s).pcie } := by
  unfold askL0; split <;> rfl

/-- A PM_PME message is noted in the PCIe state alone (R365). -/
theorem notePme_frame (s : State) : notePme s = { s with pcie := (notePme s).pcie } := by
  unfold notePme; split <;> rfl

/-- A held reset leaves the state alone. -/
theorem live_held {s t : State} (h : s.rst.held = true) : live s t = .next s := by
  unfold live; rw [if_pos h]

/-- The page of a header register. -/
theorem pageOf_header (pg off : Nat) (h : off < 0x1000) : pageOf (0x1000 * pg + off) = pg := by unfold pageOf; omega

/-- An accepted write has its effect, and the session counts as active. -/
theorem guarded_accepted {s t : State} {a addr v k} (h : Accepts s a addr k) :
    guarded s a addr v k t = touchSession s a (pageOf addr) t := by
  unfold guarded; rw [h.1, h.2]; rfl

/-- A refused write is reported and has no effect of its own. -/
theorem guarded_refused {s t : State} {a addr v k c} (h : Refuses s a addr k c) :
    guarded s a addr v k t = refuseWrite s a addr v c := by
  unfold guarded; rw [h.1, h.2]; rfl

/-- A write to a page in soft reset is dropped. -/
theorem guarded_busy {s t : State} {a addr v k} (h : rstBusy s (pageOf addr) = true) : guarded s a addr v k t = s := by
  unfold guarded; rw [h]; rfl

/-- The session's activity is the only thing that an accepted write adds. -/
theorem touchSession_frame (s : State) (a : Agent) (pg : Nat) (t : State) :
    touchSession s a pg t = { t with sec := (touchSession s a pg t).sec } := by
  unfold touchSession; split
  · split <;> rfl
  · rfl

/-- A cause reaches the interrupt controller alone. -/
theorem raiseE_frame (s : State) (pg b : Nat) : raiseE s pg b = { s with icu := (raiseE s pg b).icu } := by
  unfold raiseE; (repeat' split) <;> rfl

/-- An audit record changes no register but LOST. -/
theorem rd_audit (s : State) (k a r args) (b : Nat) (hb : b ≠ Reg.AUD.LOST) : rd (audit s k a r args) b = rd s b := by
  have e : ∀ x : State, rd (audit.lose x) b = rd x b := fun x => by
    unfold audit.lose; rw [rd_raiseE, rd_bump, if_neg hb]
  unfold audit; dsimp only
  split
  · split
    · rfl
    · split
      · rfl
      · rw [e]; rfl
  · rw [e]; rfl

/-- An accessing agent's pointer advances by its stride. -/
theorem indAdvance_same (s : State) (a : Agent) (pg : Nat) :
    indAddr (indAdvance s a pg) a pg = (indAddr s a pg + indStride s a pg) % 2 ^ 32 := by
  unfold indAdvance setPtr indAddr; simp [w32]

/-- No other pointer moves. -/
theorem indAdvance_other (s : State) (a b : Agent) (pg q : Nat) (hpg : pg < 0x1000) (hq : q < 0x1000) (h : b ≠ a ∨ q ≠ pg) :
    indAddr (indAdvance s a pg) b q = indAddr s b q := by
  unfold indAdvance setPtr
  simp only [indAddr]
  rw [Store.get_set_other]
  have : agentCode a < 3 := by cases a <;> decide
  have : agentCode b < 3 := by cases b <;> decide
  rcases h with h | h
  · have : agentCode b ≠ agentCode a := by cases a <;> cases b <;> simp_all [agentCode]
    simp; omega
  · simp; omega

/-- A write of bytes inside device memory stores each at its place, and no other byte changes. -/
theorem memWrite_bytes (s : State) (addr : Nat) (data : List Byte) (h : inMem addr data.length = true) :
    (∀ i, i < data.length → memByte (memWrite s addr data) (addr + i) = byteAt data i) ∧
      ∀ b, b < addr ∨ addr + data.length ≤ b → memByte (memWrite s addr data) b = memByte s b := by
  unfold inMem at h
  simp at h
  have e : data.take (memBytes - addr) = data := List.take_of_length_le (by omega)
  refine ⟨fun i hi => ?_, fun b hb => ?_⟩ <;> unfold memByte memWrite <;> simp only [e, Store.get_setList]
  · rw [dif_pos (by omega)]; simp [byteAt, hi]
  · rw [dif_neg (by omega)]

/-- A write of bytes touches device memory and its words in error alone. -/
theorem memWrite_frame (s : State) (addr : Nat) (data : List Byte) :
    memWrite s addr data = { s with mem := (memWrite s addr data).mem, poison := (memWrite s addr data).poison } := rfl

end Sys2Proof.Machine
end

