-- ==== Sys2Proof/Laws/Pointers.lean ====
section
/-! SUPPORT. The indirect windows leave every agent's pointers alone (R383): only an access to a pointer or to IND_DATA moves one. -/

set_option linter.all false

namespace Sys2Proof.Machine

@[simp] theorem ite_ptrs (c : Prop) [Decidable c] (a b : State) : (if c then a else b).ptrs = if c then a.ptrs else b.ptrs :=
  apply_ite (fun s : State => s.ptrs) _ _ _

@[simp] theorem freshBit_ptrs (s : State) : (freshBit s).2.ptrs = s.ptrs := by
  unfold freshBit
  (repeat' (first | split | simp [foldl_keep])) <;> simp_all [foldl_keep]

@[simp] theorem freshWord_ptrs (s : State) : (freshWord s).2.ptrs = s.ptrs := by
  unfold freshWord
  (repeat' (first | split | simp [foldl_keep])) <;> simp_all [foldl_keep]

@[simp] theorem audit_ptrs (s : State) (x1 : Nat) (x2 : Nat) (x3 : Nat) (x4 : List Byte) : (audit s x1 x2 x3 x4).ptrs = s.ptrs := by
  unfold audit
  simp only []
  split <;> (try split) <;> (try split) <;> simp [audit.lose]

@[simp] theorem audit_lose_ptrs (s : State) : (audit.lose s).ptrs = s.ptrs := by
  unfold audit.lose
  (repeat' (first | split | simp [foldl_keep])) <;> simp_all [foldl_keep]

@[simp] theorem refuseWrite_ptrs (s : State) (x1 : Agent) (x2 : Nat) (x3 : Word) (x4 : Nat) : (refuseWrite s x1 x2 x3 x4).ptrs = s.ptrs := by
  unfold refuseWrite
  (repeat' (first | split | simp [foldl_keep])) <;> simp_all [foldl_keep]

@[simp] theorem noteUpset_ptrs (s : State) (x1 : Upset) : (noteUpset s x1).ptrs = s.ptrs := by
  unfold noteUpset
  (repeat' (first | split | simp [foldl_keep])) <;> simp_all [foldl_keep]

@[simp] theorem writeLayerWindow_ptrs (s : State) (x1 : Nat) (x2 : Word) : (writeLayerWindow s x1 x2).ptrs = s.ptrs := by
  unfold writeLayerWindow
  (repeat' (first | split | simp [foldl_keep])) <;> simp_all [foldl_keep]

@[simp] theorem settleFill_ptrs (s : State) : (settleFill s).ptrs = s.ptrs := by
  unfold settleFill
  (repeat' (first | split | simp [foldl_keep])) <;> simp_all [foldl_keep]

@[simp] theorem gsRead_ptrs (s : State) (x1 : Nat) (x2 : Ecc) : (gsRead s x1 x2).2.ptrs = s.ptrs := by
  unfold gsRead
  (repeat' (first | split | simp)) <;> simp_all

@[simp] theorem setFill_ptrs (s : State) (x1 : Nat) (x2 : Nat) : (setFill s x1 x2).ptrs = s.ptrs := by
  unfold setFill
  (repeat' (first | split | simp [foldl_keep])) <;> simp_all [foldl_keep]

@[simp] theorem dropHeld_ptrs (s : State) (x1 : List (Nat × Nat × Nat × List Seg)) : (dropHeld s x1).ptrs = s.ptrs := by
  unfold dropHeld
  (repeat' (first | split | simp [foldl_keep])) <;> simp_all [foldl_keep]

@[simp] theorem freeBuf_ptrs (s : State) (x1 : Nat) (x2 : Nat) : (freeBuf s x1 x2).ptrs = s.ptrs := by
  unfold freeBuf
  (repeat' (first | split | simp [foldl_keep])) <;> simp_all [foldl_keep]

@[simp] theorem policeStream_ptrs (s : State) (x1 : Nat) (x2 : Bool) (x3 : Nat) : (policeStream s x1 x2 x3).2.ptrs = s.ptrs := by
  unfold policeStream
  (repeat' (first | split | simp [foldl_keep])) <;> simp_all [foldl_keep]

@[simp] theorem putCfg_ptrs (s : State) (x1 : Nat) (x2 : Nat) (x3 : Word) : (putCfg s x1 x2 x3).ptrs = s.ptrs := by
  unfold putCfg
  (repeat' (first | split | simp [foldl_keep])) <;> simp_all [foldl_keep]

@[simp] theorem abandonFrames_ptrs (s : State) (x1 : Nat) : (abandonFrames s x1).ptrs = s.ptrs := by
  unfold abandonFrames
  simp [foldl_keep]
  exact foldl_keep (fun s : State => s.ptrs) _ (fun s o => by split <;> simp) _ _

@[simp] theorem startStream_ptrs (s : State) (x1 : Nat) : (startStream s x1).ptrs = s.ptrs := by
  unfold startStream
  (repeat' (first | split | simp [foldl_keep])) <;> simp_all [foldl_keep]

@[simp] theorem writeStream0_ptrs (s : State) (x1 : Nat) (x2 : Word) : (writeStream0 s x1 x2).ptrs = s.ptrs := by
  unfold writeStream0
  (repeat' (first | split | simp [foldl_keep])) <;> simp_all [foldl_keep]

@[simp] theorem settleStream_ptrs (s : State) (x1 : Nat) : (settleStream s x1).ptrs = s.ptrs := by
  unfold settleStream
  (repeat' (first | split | simp [foldl_keep])) <;> simp_all [foldl_keep]

@[simp] theorem writeStreamWord_ptrs (s : State) (x1 : Nat) (x2 : Nat) (x3 : Word) : (writeStreamWord s x1 x2 x3).ptrs = s.ptrs := by
  unfold writeStreamWord
  (repeat' (first | split | simp [foldl_keep])) <;> simp_all [foldl_keep]

@[simp] theorem withdraw_ptrs (s : State) (x1 : Nat) (x2 : Nat) (x3 : Nat) : (withdraw s x1 x2 x3).ptrs = s.ptrs := by
  unfold withdraw
  (repeat' (first | split | simp [foldl_keep])) <;> simp_all [foldl_keep]

@[simp] theorem writeSheet_ptrs (s : State) (x1 : Nat) (x2 : Word) : (writeSheet s x1 x2).ptrs = s.ptrs := by
  unfold writeSheet
  (repeat' (first | split | simp [foldl_keep])) <;> simp_all [foldl_keep]

@[simp] theorem readSheet_ptrs (s : State) (x1 : Nat) (x2 : Ecc) : (readSheet s x1 x2).2.ptrs = s.ptrs := by
  unfold readSheet
  (repeat' (first | split | simp [foldl_keep])) <;> simp_all [foldl_keep]

@[simp] theorem writeSrcCfg_ptrs (s : State) (x1 : Agent) (x2 : Nat) (x3 : Word) : (writeSrcCfg s x1 x2 x3).ptrs = s.ptrs := by
  unfold writeSrcCfg
  (repeat' (first | split | simp [foldl_keep])) <;> simp_all [foldl_keep]

@[simp] theorem writeSecWindow_ptrs (s : State) (x1 : Agent) (x2 : Nat) (x3 : Word) : (writeSecWindow s x1 x2 x3).ptrs = s.ptrs := by
  unfold writeSecWindow
  (repeat' (first | split | simp [foldl_keep])) <;> simp_all [foldl_keep]

@[simp] theorem windowRead_ptrs (s : State) (x1 : Agent) (x2 : PageKind) (x3 : Nat) (x4 : Nat) (x5 : Ecc) : (windowRead s x1 x2 x3 x4 x5).2.ptrs = s.ptrs := by
  unfold windowRead
  (repeat' (first | split | simp [foldl_keep])) <;> simp_all [foldl_keep]

@[simp] theorem windowMeets_ptrs (s : State) (x1 : Agent) (x2 : PageKind) (x3 : Nat) (x4 : Nat) (x5 : Ecc) : (windowMeets s x1 x2 x3 x4 x5).2.ptrs = s.ptrs := by
  unfold windowMeets
  (repeat' (first | split | simp [foldl_keep])) <;> simp_all [foldl_keep]

@[simp] theorem writePitch_ptrs (s : State) (x1 : Nat) (x2 : Nat) (x3 : Word) : (writePitch s x1 x2 x3).ptrs = s.ptrs := by
  unfold writePitch
  (repeat' (first | split | simp [foldl_keep])) <;> simp_all [foldl_keep]

@[simp] theorem windowWrite_ptrs (s : State) (x1 : Agent) (x2 : PageKind) (x3 : Nat) (x4 : Nat) (x5 : Word) : (windowWrite s x1 x2 x3 x4 x5).ptrs = s.ptrs := by
  unfold windowWrite
  (repeat' (first | split | simp [foldl_keep])) <;> simp_all [foldl_keep]

end Sys2Proof.Machine
end

