-- ==== Sys2Proof/WellFormed.lean ====
section
/-! DEFINITION. Well-formed commands: every operand lies in the range that the spec gives what it names. -/

namespace Sys2Proof

/-- A word of BAR0's 32 MiB (R372). -/
def barWord (addr : Nat) : Bool := addr % 4 == 0 && decide (addr < 0x2000000)

/-- A page index of BAR0 (R372). -/
def pageNo (pg : Nat) : Bool := decide (pg < 0x2000)

/-- The offset of a register in its page (R379). -/
def regOffset (off : Nat) : Bool := off % 4 == 0 && decide (off < 0x1000)

/-- Tile ports TP0 to TP255. -/
def tilePort (p : Nat) : Bool := decide (p < 256)

/-- Control sessions of a port (R263). -/
def sessionNo (se : Nat) : Bool := decide (se < 64)

/-- Ingest streams (R35). -/
def streamNo (st : Nat) : Bool := decide (st < 64)

/-- Buffers of a stream (R47). -/
def bufferNo (b : Nat) : Bool := decide (b < 8)

/-- Ingest ports IG0 to IG15. -/
def ingestNo (i : Nat) : Bool := decide (i < 16)

/-- SDI inputs. -/
def sdiNo (i : Nat) : Bool := decide (i < 8)

/-- Service ports. -/
def svNo (i : Nat) : Bool := decide (i < 2)

/-- The port that a packet came in by. -/
def viaPortNo : Via → Bool
  | .ig i => ingestNo i
  | .sv i => svNo i

/-- A UDP port. -/
def udpPort (n : Nat) : Bool := decide (n < 65536)

/-- DMA channels. -/
def dmaNo (ch : Nat) : Bool := decide (ch < 16)

/-- MSI-X vectors. -/
def vectorNo (v : Nat) : Bool := decide (v < 64)

/-- Interrupt sources (R353). -/
def sourceNo (i : Nat) : Bool := decide (i < 1024)

/-- Claim registers: MC0 to MC3 and the TC (R359). -/
def targetNo (k : Nat) : Bool := decide (k < 5)

/-- Phases of a frame (R22). -/
def phaseNo (n : Nat) : Bool := decide (n < 8)

/-- Bands of a canvas (R185). -/
def bandNo (b : Nat) : Bool := decide (b < 1024)

/-- Band groups of the canvas: four bands each, 0 to 255. -/
def groupNo (g : Nat) : Bool := decide (g < 256)

/-- Pseudo-channels of the fabric (R106). -/
def pseudoNo (pc : Nat) : Bool := decide (pc < 128)

/-- Management cores. -/
def coreNo (k : Nat) : Bool := decide (k < 4)

/-- Twin links. -/
def twinLink (l : Nat) : Bool := decide (l < 2)

/-- Octets of tile ports (R428). -/
def octetNo (o : Nat) : Bool := decide (o < 32)

/-- HBM stacks. -/
def stackNo (m : Nat) : Bool := decide (m < 4)

/-- A record that one Ethernet frame of a twin link carries. -/
def recordLen (r : List Byte) : Bool := decide (r.length ≤ 1500)

/-- A BAR2 access lies in its 128 GiB (R372). -/
def bar2Range (addr len : Nat) : Bool := decide (addr + len ≤ 0x2000000000)

/-- A nonce of 32 bytes (R408, R414). -/
def nonceLen (n : List Byte) : Bool := n.length == 32

/-- A port that firmware transmits on (R406): kind 0 IG, 1 SV. -/
def txPort (port kind : Nat) : Bool := if kind = 0 then ingestNo port else kind == 1 && svNo port

/-- One voltage and one current for each of the nine rails (R440). -/
def railCount (mv ma : List Nat) : Bool := mv.length == 9 && ma.length == 9

/-- One temperature for each stack (R392). -/
def stackCount (l : List Nat) : Bool := l.length == 4

/-- Words met in error belong to the structures of R321 or to the groundsheet store. -/
def upsetsKnown (us : List Upset) : Bool := us.all fun u => decide (1 ≤ u.struct) && decide (u.struct ≤ 8)

/-- The well-formed commands. -/
def Instr.wellFormed : Instr → Bool
  | .registerWrite _ addr _ => barWord addr
  | .rcRead _ addr => barWord addr
  | .w1cWrite _ addr _ => barWord addr
  | .partialAccess _ addr _ => barWord addr
  | .indDataRead _ page _ => pageNo page
  | .indDataWrite _ page _ => pageNo page
  | .pageLockWrite _ page _ => pageNo page
  | .parityMismatch page off => pageNo page && regOffset off
  | .pageDisable _ page _ => pageNo page
  | .pageEnable _ page _ => pageNo page
  | .pageSoftReset _ page _ => pageNo page
  | .softResetDone page => pageNo page
  | .bar2Read addr len => bar2Range addr len
  | .bar2Write addr data => bar2Range addr data.length
  | .pcieLinkChange _ => true
  | .igLinkChange i _ _ _ => ingestNo i
  | .igFrameRx i _ => ingestNo i
  | .bufferAssign st _ => streamNo st
  | .frameCloseTimeout st => streamNo st
  | .fencePublish st buf => streamNo st && bufferNo buf
  | .streamEnable _ st _ => streamNo st
  | .streamDisable _ st _ => streamNo st
  | .ingestEnable _ _ => true
  | .ingestDisable _ _ => true
  | .sdiLockChange i _ _ _ _ => sdiNo i
  | .sdiFrameRx i _ => sdiNo i
  | .commit _ _ => true
  | .commitCheckDone upsets => upsetsKnown upsets
  | .commitCancel _ _ => true
  | .layerLatch _ n upsets => phaseNo n && upsetsKnown upsets
  | .placementPacket via _ dstPort _ _ => viaPortNo via && udpPort dstPort
  | .awningGroupLatch _ n g => phaseNo n && groupNo g
  | .spanBuildStart _ n => phaseNo n
  | .spanBuildDone _ n _ => phaseNo n
  | .spanSwap _ n => phaseNo n
  | .fetchRelease _ n b => phaseNo n && bandNo b
  | .fetchDataReturn _ => true
  | .fabricSlotGrant pc _ _ _ => pseudoNo pc
  | .arbitrationWindowEnd pc => pseudoNo pc
  | .recheckGo _ _ => true
  | .recheckDone => true
  | .contextGranuleReturn _ => true
  | .calEnable _ _ => true
  | .flipGo _ _ => true
  | .scrubCheck _ _ => true
  | .bandEnter _ n b => phaseNo n && bandNo b
  | .compositionStepDone upsets => upsetsKnown upsets
  | .bandDeadline _ n b => phaseNo n && bandNo b
  | .gsFillGo _ _ => true
  | .gsFillDone => true
  | .seqRestart p _ n upsets => tilePort p && phaseNo n && upsetsKnown upsets
  | .nop p => tilePort p
  | .set p _ => tilePort p
  | .add p _ => tilePort p
  | .loop p _ => tilePort p
  | .endloop p => tilePort p
  | .waitBand p _ => tilePort p
  | .waitBandRelease p => tilePort p
  | .waitTime p _ => tilePort p
  | .waitTimeRelease p => tilePort p
  | .waitEvent p _ _ => tilePort p
  | .waitEventRelease p => tilePort p
  | .waitEventTimeout p => tilePort p
  | .send p _ => tilePort p
  | .pixelFrameStart p upsets => tilePort p && upsetsKnown upsets
  | .close p => tilePort p
  | .closeRelease p => tilePort p
  | .signal p => tilePort p
  | .seqEnd p => tilePort p
  | .loadCheckGo _ p _ => tilePort p
  | .loadCheckDone p => tilePort p
  | .swapGo _ p _ => tilePort p
  | .swapCancel _ p _ => tilePort p
  | .seqEnable _ p _ => tilePort p
  | .seqDisable _ p _ => tilePort p
  | .tileLinkChange p _ _ => tilePort p
  | .tileFrameRx p _ => tilePort p
  | .farOkLoss p => tilePort p
  | .timeFrameTick => true
  | .lanternQueue _ n => phaseNo n
  | .egressSelect p => tilePort p
  | .txFrameDone p => tilePort p
  | .gateWindowOpen p => tilePort p
  | .sessionDoorbell _ p se _ => tilePort p && sessionNo se
  | .sessionDescReadDone p se _ _ => tilePort p && sessionNo se
  | .sessionAckTimeout p se => tilePort p && sessionNo se
  | .sessionComplete p se => tilePort p && sessionNo se
  | .mqDoorbell _ p _ => tilePort p
  | .mqDescReadDone p _ _ => tilePort p
  | .queueSample p => tilePort p
  | .sampleClear _ p _ => tilePort p
  | .timeCounterTick => true
  | .incOfsWrite _ _ => true
  | .captureGo _ _ => true
  | .captureArm _ _ => true
  | .captureEvent => true
  | .ppsEnd => true
  | .stepOffset _ _ => true
  | .stepAbsolute _ _ => true
  | .svLinkChange i _ _ => svNo i
  | .svFrameRx i _ => svNo i
  | .ptpMessage via _ _ => viaPortNo via
  | .syncTimeout => true
  | .holdoverEnd _ _ => true
  | .lockedWrite _ _ => true
  | .phaseEnable _ _ => true
  | .phaseDisable _ _ => true
  | .phaseStart _ n => phaseNo n
  | .offsetApplyGo _ _ => true
  | .offsetApplyEffect => true
  | .twinEnable _ _ => true
  | .twinDisable _ _ => true
  | .twinLinkChange l _ => twinLink l
  | .healthRecord l r => twinLink l && recordLen r
  | .timeRecord l r => twinLink l && recordLen r
  | .commitRecord l r => twinLink l && recordLen r
  | .cancelRecord l r => twinLink l && recordLen r
  | .digestRecord l r => twinLink l && recordLen r
  | .flipRecord l r => twinLink l && recordLen r
  | .placeRecord l r => twinLink l && recordLen r
  | .fenceRecord l r => twinLink l && recordLen r
  | .digestSend => true
  | .digestCompare => true
  | .mirroredCancelApply => true
  | .placeApply => true
  | .fencePairReady => true
  | .healthSend _ n => phaseNo n
  | .twinTimeSend => true
  | .peerLoss => true
  | .searchTimeout => true
  | .join => true
  | .phaseYield _ n => phaseNo n
  | .bltCopy _ _ _ => true
  | .bltFill _ _ _ => true
  | .bltCopyBlend _ _ _ => true
  | .bltCopyConvert _ _ _ => true
  | .bltAbort _ _ _ _ => true
  | .bltDone => true
  | .bltMemError _ _ _ _ => true
  | .dmaGo _ ch _ => dmaNo ch
  | .dmaTrigger ch => dmaNo ch
  | .dmaDescFetchDone ch _ _ => dmaNo ch
  | .dmaDescCheck ch => dmaNo ch
  | .dmaDescComplete ch _ => dmaNo ch
  | .dmaResponseError ch _ _ _ _ => dmaNo ch
  | .dmaTimeout ch _ _ _ _ => dmaNo ch
  | .dmaDrainDone ch => dmaNo ch
  | .dmaAbort _ ch _ _ _ _ => dmaNo ch
  | .dmaErrClear _ ch _ => dmaNo ch
  | .irqInputRise src => sourceNo src
  | .irqOffer src => sourceNo src
  | .moderationExpiry vec => vectorNo vec
  | .offerWithdraw src => sourceNo src
  | .claim _ k => targetNo k
  | .hostClaim _ vec => vectorNo vec
  | .cpl _ k _ => targetNo k
  | .hostCpl _ _ => true
  | .swSourceSet _ _ => true
  | .swSourceClear _ _ => true
  | .d0Entry => true
  | .swPulse _ _ => true
  | .tcBoot => true
  | .auditRecordWrite _ => true
  | .imageUpdate _ _ => true
  | .imageUpdateDone _ => true
  | .attest _ _ => true
  | .attestDone => true
  | .fwMemoryAccess core _ _ _ _ => decide (core < 5)
  | .wdtKick _ _ => true
  | .watchdogExpiry core => coreNo core
  | .coreFault core => coreNo core
  | .coreRestart core => coreNo core
  | .txqDoorbell _ _ => true
  | .sessionChallenge _ _ => true
  | .challengeReady nonce => nonceLen nonce
  | .challengeExpiry => true
  | .sessionOpen _ _ => true
  | .sessionVerifyDone => true
  | .sessionClose _ _ => true
  | .sessionIdleTimeout => true
  | .sessionMaxTimeout => true
  | .reqSubmit _ _ nr => nonceLen nr
  | .reqApprove _ _ => true
  | .approvalVerifyDone => true
  | .reqWithdraw _ _ => true
  | .reqTimeout => true
  | .rights _ => true
  | .enrol _ => true
  | .fwkey => true
  | .debug => true
  | .jump => true
  | .debugRelock _ _ => true
  | .powerOnReset => true
  | .resetPin _ => true
  | .devRst _ _ => true
  | .resetRelease => true
  | .sramInitDone => true
  | .hbmTrained => true
  | .refSysLoss _ => true
  | .octetPllUnlock o => octetNo o
  | .igPllUnlock i => ingestNo i
  | .refSdiLoss => true
  | .refAonLoss => true
  | .pcieDomainReset _ => true
  | .supplyDip => true
  | .thermalTrip => true
  | .hbmRetrain m => stackNo m
  | .standbyEnter _ _ => true
  | .standbyLeave _ _ => true
  | .standbyTransitionDone => true
  | .railSample mv ma => railCount mv ma
  | .malformedRecord l r => twinLink l && recordLen r
  | .configurationWrite _ _ => true
  | .tapAccess _ => true
  | .transmitDone port kind => txPort port kind
  | .hbmRetrainingDone m => stackNo m
  | .octetPllRelock o => octetNo o
  | .igPllRelock i => ingestNo i
  | .refSdiReturn => true
  | .refAonReturn => true
  | .pcieDomainRelease => true
  | .completionTimeout => true
  | .sessionLockoutEnd => true
  | .powerSample _ _ => true
  | .temperatureSample _ hbms => stackCount hbms
  | .frequencyMeasurement _ => true

end Sys2Proof
end

