-- ==== Sys2Proof/Tests/Slice0.lean ====
section
/-! SUPPORT. Witnesses: for every statement with hypotheses, states and operands that meet each clause's hypotheses together, at
the ends of their ranges where they have any; ill-formed commands refused; words decoded; the spec's worked examples. -/

open Sys2Proof Sys2Proof.Machine

namespace Sys2Proof.Tests

/-- Several register words written. -/
def wrs (l : List (Nat × Word)) (s : State) : State := l.foldl (fun s e => wr s e.1 e.2) s

/-- The same state at a time: the counter in ns, real time since reset to match. -/
def later (ns : Nat) (s : State) : State := { s with time.count := ns * 2 ^ 32, time.uptime := ns / 2 }

/-- The state after reset. -/
abbrev R0 : State := State.reset

/-- TIM disabled, so its safe action is in force. -/
def timOff : State := wr R0 (Reg.HDR.PAGE_CTRL Page.TIM) 0

/-- A frame that is neither PTP nor UDP. -/
def plainFrame : NetFrame := ⟨64, false, 0x0800, none, none, none, [], []⟩

/-- A UDP packet to 10.0.0.1, port 5000. -/
def udpA : Udp := ⟨1, 0x0A000001, 5000⟩

/-- An RTP packet of that flow. -/
def rtpA : Rtp := ⟨96, 90000, 7, false, []⟩

/-- The frame that carries it. -/
def rtpFrame : NetFrame := ⟨64, false, 0x0800, some udpA, some rtpA, none, [], []⟩

/-- Ingest port 0 enabled and up. -/
def igOn : State := { wrs [(Reg.IG.PORT_CTRL 0, 1)] R0 with ing.igLink := [(0, (true, true, 4))] }

/-- A frame in formation with a timestamp. -/
def openAt (ts : Word) : OpenFrame := ⟨ts, false, none, none, 0, [], some 0, false, false, [], 1, 0⟩

/-- Stream 0 enabled on port 0 for that flow, receiving the packet's frame. -/
def igStream (seen : List Nat) : State :=
  { wrs [(Reg.IGS.IGS_CTRL, 1)] igOn with
    ing.cfg := [(0, 1), (3, 0x0A000001), (4, 5000)]
    ing.streams := [(0, { Stream.reset with frames := [openAt 90000], seen := seen })] }

/-- A phase slot (0, 0) that starts at 0: two bands of 1 ns, 16 canvas columns, lead and fetch-ahead of one band. -/
def ctxA : PhaseCtx := ⟨0, 0, 0, 1000000, 1000, 16, 2, 1, 0, 1, 0, 0, 0, false, [], [], [], false, false, false, false, false, 0, 0, 0,
  [], 0, 0, [], 0, 0, false⟩

/-- Ring slot of band `b` of that slot, empty. -/
def bandA (b : Nat) : BandSlot := ⟨0, 0, b, 16, true, false, none, 0, 0, [], [], false, false⟩

/-- A state with one phase context. -/
def inSlot (c : PhaseCtx) (s : State) : State := { s with dls.ctxs := [c] }

/-- A state with one phase context and one ring slot. -/
def inBand (c : PhaseCtx) (r : BandSlot) (s : State) : State := { s with dls.ctxs := [c], dls.ring := [r] }

/-- A fetch request at an address, for the units listed. -/
def reqA (kind : FetchKind) (addr : Nat) (units : List Nat) (discard : Bool) : FetchReq :=
  ⟨0, 0, 0, 0, kind, addr, units, [], [], [], 0, 0, discard⟩

/-- A pseudo-channel's window at a slot. -/
def windowAt (pc slot : Nat) (s : State) : State := { s with fab.wins := [(pc, ⟨slot, 0, 0, 0, 0xA46⟩)] }

/-- The span builder enabled, the slot's build done for `d`. -/
def spbOn (d : Option (Nat × Nat)) (s : State) : State := { wr s Reg.SPB.SPB_CTRL 1 with spb.done := d }

/-- A slot whose bands are 10 µs long. -/
def ctxSlow : PhaseCtx := { ctxA with ts := 10000000 }

/-- Its band 1, entered at CORE clock 0. -/
def bandIn : BandSlot := { bandA 1 with entered := some 0 }

/-- DMA enabled, channel 15 enabled and in a phase, with a descriptor. -/
def dmaAt (p : DmaPhase) (d : Option DmaDesc) : State :=
  { wrs [(Reg.DMA.DMA_CTRL, 1), (Reg.DC.CH_CTRL 15, 1)] R0 with dma := [(15, ⟨p, d, none, 0, false, false, [], 0, [], []⟩)] }

/-- Channel 15 in a state. -/
def dmaState (n : Word) (s : State) : State := wr s (Reg.DC.STATUS 15) n

/-- A descriptor of one line of one byte. -/
def descA (last : Bool) : DmaDesc := ⟨64, 4096, 1, 0, 1, 1, 0, 1, 0, last, false, false⟩

/-- A descriptor that writes the first byte of host memory. -/
def descFar : DmaDesc := { descA true with dst := hostBase }

/-- A descriptor with a reserved field set. -/
def descBad : DmaDesc := { descA true with resv := true }

/-- The context copies in different stacks. -/
def calTwo : State := wr R0 Reg.CAL.COPY1_BASE_HI 4

/-- The words of a pitch table from word 0 of the store. -/
def tableOf (ops : List PitchOp) : Store Word :=
  Store.setList zeroW [] 0 (ops.flatMap fun op => [(encodePitch op).setWidth 32, ((encodePitch op) >>> 32).setWidth 32])

/-- A run of phase slot (0, 0) at word 0. -/
def runA (wt : SeqWait) : SeqRun := ⟨0, 0, 0, 0, 0, 0, [], [], wt, 0, 0, false⟩

/-- Tile port `p` with a table and a run that holds at a wait. -/
def playing (p : Nat) (ops : List PitchOp) (r : SeqRun) (s : State) : State :=
  setPort s p { TilePort.reset with store := tableOf ops, run := some r }

/-- A tile port with a load check running, over a table of CLOSE and END. -/
def checking (ps : List (List Nat)) : State :=
  setPort R0 0 { TilePort.reset with store := tableOf [.close, .seqEnd], checking := some (0, ps) }

/-- A tile port whose table at entry 0 has passed its check. -/
def checkedPort : State :=
  setPort (wr R0 (Reg.TP.CHECK_STATUS 0) 2) 0 { TilePort.reset with checked := some (0, 2) }

/-- An offset change that waits for a frame. -/
def offsetsFor (k : Nat) : OfsPend := ⟨k, 0, List.replicate 8 0⟩

/-- Slot (0, 0) is the next to start. -/
def nextSlot (s : State) : State := { s with grid.next := some (0, 0) }

/-- The same with the phases running. -/
def nextRun (s : State) : State := nextSlot (wr s Reg.TIM.TIM_STATUS 2)

/-- TWN enabled, its status a word. -/
def twin (status : Word) (s : State) : State := wrs [(Reg.TWN.TWN_CTRL, 1), (Reg.TWN.TWN_STATUS, status)] s

/-- An open maker session of slot 0 since the release of reset. -/
def inSession (s : State) : State := { s with sec.sess := some ⟨3, 0, 0, 0⟩ }

/-- A challenge for slot 0 placed at the release of reset. -/
def challenged : State := { R0 with sec.chal := some ⟨0, [], 0⟩ }

/-- A surface of 16 by 16 pixels at 0. -/
def surfA : BltSurf := ⟨0, 256, 16, 16, 0, 0, 0⟩

/-- A fill of it. -/
def fillA : BltOp := ⟨1, false, surfA, surfA, 16, 16, [1, 2, 3, 4], false, 0, []⟩

/-- A copy of it to the surface after it. -/
def copyA : BltOp := { fillA with op := 0, dst := { surfA with base := 8192 } }

theorem copyA_apart : ∀ r < copyA.h, ∀ q < copyA.h,
    copyA.src.rowAt r + rowBytes copyA.dst.fmt copyA.w ≤ copyA.dst.rowAt q ∨
      copyA.dst.rowAt q + rowBytes copyA.dst.fmt copyA.w ≤ copyA.src.rowAt r := by decide

/-- The registers of that fill. -/
def fillRegs : State :=
  wrs [(Reg.BLT.BLT_CTRL, 1), (Reg.BLT.DST_STRIDE, 256), (Reg.BLT.DST_DIM, 0x100010), (Reg.BLT.SIZE, 0x100010)] R0

/-- A commit request of a group mask, not yet checked. -/
def commitOf (mask : Word) : CommitReq := ⟨mask, none, false, 0, false, 0⟩

/-- Service port 1 enabled and up, firmware's part and PTP as the word says. -/
def svOn (ctrl : Word) : State := wrs [(Reg.SV.PORT_CTRL 1, ctrl), (Reg.SV.PORT_STATUS 1, 1)] R0

/-- A Sync of domain 127. -/
def syncA : Ptp := ⟨0, 2, 0, 127, 0, 0, 0⟩

/-- A Sync watch started at the release of reset. -/
def watching : State := { R0 with time.watch := some 0 }

/-- Tile port 255 enabled, in a state of its engine. -/
def tileOn (x : TilePort) : State := setPort (wrs [(Reg.TP.PORT_CTRL 255, 1), (Reg.TLG.TLG_CTRL, 1)] R0) 255 x

/-- A control request waiting. -/
def creqA (tries : Nat) (sent : Option Nat) (acked : Option (Nat × List Byte)) : CReq :=
  ⟨0, 0, 0, [], 0, tries, sent, false, acked, false⟩

/-- Session 63 with that request, backlogged. -/
def sessA : CSession := { CSession.reset with req := some (creqA 0 none none), ready := some 0 }

/-- A class T frame, a class M frame, a frame on the wire until a clock. -/
def tframeA : TFrame := ⟨false, [], 0, 0⟩
def mframeA : MFrame := ⟨false, [], 0, false⟩
def onWire (stop : Nat) : TxFrame := ⟨.p, [], stop, 0, none⟩

/-- Session 63 of port 255 with a request. -/
def withReq (r : CReq) : State := setPort R0 255 { TilePort.reset with sess := [(63, { CSession.reset with req := some r })] }

/-- The same on a port that is enabled. -/
def withReqOn (r : CReq) : State := tileOn { TilePort.reset with sess := [(63, { CSession.reset with req := some r })] }

/-- Session 63 of port 255 enabled, one request in its ring, opened or not. -/
def sessOn (opened : Bool) : State :=
  setPort (wrs [(Reg.TP.SESS_CFG 255 63, 0x100), (Reg.TP.SESS_IDX 255 63, 1)] R0) 255
    { TilePort.reset with sess := [(63, { CSession.reset with opened := opened })] }

/-- The M queue of port 255 enabled with one descriptor, memory as given. -/
def mqOn (m : Store Byte) : State := { wrs [(Reg.TP.MQ_CFG 255, 1), (Reg.TP.MQ_IDX 255, 1)] R0 with mem := m }

/-- A placement packet of awning 7 with flags. -/
def placeBytes (flags : Byte) : List Byte :=
  [0x50, 0x4C, 1, 7, 0, flags] ++ List.replicate 22 0 ++ [0, 0, 0, 1, 0, 0, 0, 1] ++ List.replicate 12 0

/-- Service port 1 takes placement packets of UDP port 6000. -/
def placing : State := wr (svOn 5) Reg.AWN.AWN_CTRL (6000 * 65536)

/-- The placement as recorded. -/
def placeA (flags : Byte) : Place := ⟨List.take 48 (placeBytes flags)⟩

/-- Source 3 active, held by core target 4. -/
def activeA : State := { R0 with icu.src := [(3, ⟨false, true, true, 4, none, none⟩)] }

/-- The slot with layer 127 latched, sourced from awning 0. -/
def ctxAwn : PhaseCtx := { ctxA with layers := [(127, ⟨1, 0, [2]⟩)] }

/-- Stream 63 described: 16 by 16 pixels, ring of two at 0; the TC's window stands at its word 0. -/
def streamReady : State :=
  { R0 with
    ing.cfg := [(1009, 0x100010), (1010, 60), (1018, 1), (1019, 256)]
    ptrs := [(16384 + Page.IGS, 4032)] }

/-- The trusted core has booted. -/
def bootedA : State := { R0 with sec.booted := true }

/-- A mirrored commit of group 0 for an instant, this device's digest as given. -/
def mirA (e : Nat) (own peer : Option Word) : MirPend := ⟨false, 0, e, .commit 1 0, own, peer⟩

/-- TWN enabled, paired, with that operation pending. -/
def agreeing (o : MirPend) : State := { twin 3 R0 with twn.ops := [o] }

/-- A record of type `ty`: origin, length, sequence number 0. -/
def recordA (ty origin : Byte) (len : Nat) : List Byte :=
  [0x10 + ty, origin, 0, BitVec.ofNat 8 len] ++ List.replicate (len - 4) 0

/-- TWN enabled as device A, its link 0 up, records of device B seen as listed. -/
def twinUp (seen : List Nat) : State := { twin 3 R0 with twn.link0 := true, twn.winB := seen }

/-- Source 768 pending, its entry a word; core 0 on. -/
def pendingA (cfg : Word) : State :=
  { wr R0 Reg.ICU.TGT_EN 0x11 with icu.cfg := [(768, cfg)], icu.src := [(768, ⟨false, true, false, 7, none, none⟩)] }

/-- Tile port 255 up, the tile clusters on as the word says, ETHERTYPE 0. -/
def tileUp (ctrl : Word) : State :=
  setPort (wrs [(Reg.TP.PORT_CTRL 255, 1), (Reg.TLG.TLG_CTRL, ctrl), (Reg.TLG.ETHERTYPE, 0)] R0) 255
    { TilePort.reset with linkUp := true }

/-- A frame from the wall: the three bytes after its EtherType. -/
def wallFrame (a b c : Byte) : TileFrame := ⟨List.replicate 14 0 ++ [a, b, c], false⟩

/-- An image key programmed and revoked. -/
def keyed : State := { R0 with otp := ⟨[(3, ⟨[], true, true⟩)], [], [], 63, 16384⟩ }

/-- The scrubber on, its copies in different stacks, memory as given. -/
def scrubbing (m : Store Byte) : State := { wr calTwo Reg.CAL.CAL_CTRL 3 with mem := m }

/-- The CRC-32 of a context of 28 zero bytes in cell 0, at an address. -/
def crcBytes (a : Nat) : Store Byte := [(a + 28, 0xAD), (a + 29, 0x55), (a + 30, 0x0A), (a + 31, 0x19)]

/-- A request body: its operation and two bytes after it. -/
def bodyA (op b1 b2 : Byte) : List Byte := [op, b1, b2] ++ List.replicate 61 0

/-- A pending request with approvals. -/
def requestA (body : List Byte) (ok : List (Nat × Nat)) : Request := ⟨1, body, [], ok, none, 0⟩

/-- A maker's session, two makers in the key table, that request pending. -/
def asking (r : Request) : State :=
  { inSession R0 with sec.keys := [(0, ⟨3, 0, [], []⟩), (1, ⟨3, 0, [], []⟩)], sec.req := some r }

/-- All cores running, firmware's window 7 of 4096 bytes at 0 with permissions. -/
def coresOn (perm : Word) : State :=
  wrs [(Reg.MGT.CORE_STATUS, 15), (Reg.MGT.WIN_SIZE 7, 1), (Reg.MGT.WIN_PERM 7, perm), (Reg.MGT.WDT_MS, 1)] R0

theorem no_run (r : SeqRun) (op : PitchOp) : ¬ Issues R0 255 op r := by
  rintro ⟨h, -⟩
  change none = some r at h
  cases h

/-- A frame in formation that asks for a buffer, and one whose marker has come. -/
def askingFrame : OpenFrame := { openAt 90000 with buf := none, asked := true }
def markedFrame : OpenFrame := { openAt 90000 with marker := some 5 }

/-- A frame of buffer 7 that waits for its fence, and stream 63 with it. -/
def fenceA (d : Option (Nat × Nat)) : FencePend := ⟨7, 90000, false, 1, 0, 0, d⟩
def fencing (d : Option (Nat × Nat)) (s : State) : State := setStream s 63 { Stream.reset with fences := [fenceA d] }

/-! ### Witnesses, one theorem per statement, one conjunct per clause -/

theorem witness_StepRunsFrontCommand :
    (∃ (s : State) (c : Instr) (rest : List Instr), s.pending = c :: rest) ∧
    (∃ (s : State), s.pending = []) :=
  ⟨⟨{ R0 with pending := [.thermalTrip] }, .thermalTrip, [], by decide⟩,
   ⟨R0, by decide⟩⟩

theorem witness_ResetState :
    (∃ (pg : ℕ), (pageInfo pg).isSome = true) :=
  ⟨Page.TP 255, by decide⟩

theorem witness_MemoryStaysCanonical :
    (∃ (s t : State), Memory.wf s.mem = true ∧ Memory.wf s.hostMem = true ∧ step s = Host.Outcome.next t) :=
  ⟨R0, R0, by decide, by decide, (rfl)⟩

theorem witness_EveryCommandCompletes :
    (∃ (c : Instr) (s : State), actsInReset c = false ∧ s.rst.held = true) ∧
    (∃ (c : Instr) (s : State), stopsInStandby c = true ∧ serdesOn s = false) :=
  ⟨⟨.claim .tc 0, { R0 with rst.held := true }, by decide⟩,
   ⟨.bandEnter 0 0 0, { R0 with rst.pwr := .standby }, by decide⟩⟩

theorem witness_MemoryFrames :
    (∃ (c : Instr) (s t : State), writesMemory c = false ∧ exec c s = Host.Outcome.next t) ∧
    (∃ (c : Instr) (s t : State), (∀ (x : PcieCfg) (b : Bool), c ≠ Instr.configurationWrite x b) ∧ s.pcie.cfg.busMaster = false ∧
      exec c s = Host.Outcome.next t) :=
  ⟨⟨(.claim .tc 0), R0, (after R0 (exec (.claim .tc 0) R0)), by decide, (rfl)⟩,
   ⟨(.bar2Write 0 [1]), R0, (after R0 (exec (.bar2Write 0 [1]) R0)), (by intro x b h; cases h), by decide, (rfl)⟩⟩

theorem witness_FusesNeverClear :
    (∃ (s t : State), s.otp.epoch ≤ 16384 ∧ step s = Host.Outcome.next t ∧ s.otp.svnMin ≤ 63) ∧
    (∃ (s t : State) (i : ℕ), s.otp.epoch ≤ 16384 ∧ step s = Host.Outcome.next t ∧ (fwKey s i).programmed = true) ∧
    (∃ (s t : State) (i : ℕ), s.otp.epoch ≤ 16384 ∧ step s = Host.Outcome.next t ∧ (fwKey s i).revoked = true) :=
  ⟨⟨R0, R0, by decide, (rfl), by decide⟩,
   ⟨keyed, keyed, 3, by decide, (rfl), by decide⟩,
   ⟨keyed, keyed, 3, by decide, (rfl), by decide⟩⟩

theorem witness_PitchRoundTrip :
    (∃ (w : BitVec 64) (op : PitchOp), decodePitch w = some op) :=
  ⟨0, .nop, by decide⟩

theorem witness_RegisterWriteStores :
    (∃ (s : State) (a : Agent) (addr : ℕ) (v : Word) (k : PageKind) (i : ℕ) (r : RegRow), Awake s ∧ msixAt addr = none ∧
      addr % 4 = 0 ∧ 128 ≤ addr % 4096 ∧ (pageInfo (pageOf addr)).isSome = true ∧ regRow addr = some (k, i, r) ∧
      r.acc = Acc.rw ∧ writeOwn s a k i (addr % 4096) v = none ∧
      k ∉ [PageKind.tp, PageKind.awn, PageKind.sv, PageKind.tlg, PageKind.tim, PageKind.twn, PageKind.mgt, PageKind.icu, PageKind.dc] ∧
      Accepts s a addr LockKind.cfg) ∧
    (∃ (s : State) (a : Agent) (addr : ℕ) (v : Word) (k : PageKind) (i : ℕ) (r : RegRow), Awake s ∧ msixAt addr = none ∧
      addr % 4 = 0 ∧ 128 ≤ addr % 4096 ∧ (pageInfo (pageOf addr)).isSome = true ∧ regRow addr = some (k, i, r) ∧
      r.acc = Acc.rw ∧ writeOwn s a k i (addr % 4096) v = none ∧ Accepts s a addr LockKind.cfg ∧ (¬(k = PageKind.tim ∧
      addr % 4096 = 184 ∧ a ≠ Agent.tc ∧ 10000 < BitVec.toNat v))) ∧
    (∃ (s : State) (a : Agent) (addr : ℕ), Awake s ∧ msixAt addr = none ∧ addr % 4 = 0 ∧ 128 ≤ addr % 4096 ∧
      (pageInfo (pageOf addr)).isSome = true ∧ regRow addr = none ∧ Accepts s a addr LockKind.open) :=
  ⟨⟨R0, .tc, Reg.GBL.HIF_CTRL, 3, .gbl, 0, (rowAt .gbl (Reg.GBL.HIF_CTRL % 4096)).get (by decide), by decide⟩,
   ⟨R0, .tc, Reg.TIM.JUMP_MAX, 9, .tim, 0, (rowAt .tim (Reg.TIM.JUMP_MAX % 4096)).get (by decide), by decide⟩,
   ⟨R0, .tc, 0xFFC, by decide⟩⟩

theorem witness_RefusedWriteRecorded :
    (∃ (s : State) (a : Agent) (addr : ℕ) (v : Word) (k : PageKind) (i : ℕ) (r : RegRow) (c : ℕ), Awake s ∧ msixAt addr = none ∧
      addr % 4 = 0 ∧ 128 ≤ addr % 4096 ∧ (pageInfo (pageOf addr)).isSome = true ∧ regRow addr = some (k, i, r) ∧
      r.acc = Acc.rw ∧ writeOwn s a k i (addr % 4096) v = none ∧ Refuses s a addr LockKind.cfg c ∧ s.aud.queue.length < 256 ∧
      s.aud.lost = 0) ∧
    (∃ (s : State) (a : Agent) (addr : ℕ) (v : Word) (k : PageKind) (i : ℕ) (r : RegRow), Awake s ∧ msixAt addr = none ∧
      addr % 4 = 0 ∧ 128 ≤ addr % 4096 ∧ (pageInfo (pageOf addr)).isSome = true ∧ regRow addr = some (k, i, r) ∧
      r.acc = Acc.rw ∧ writeOwn s a k i (addr % 4096) v = none ∧ rstBusy s (pageOf addr) = true) :=
  ⟨⟨{ R0 with aud.queue := List.replicate 255 ⟨0, 0, 0, [], 0, 0⟩ }, .host, Reg.TIM.JUMP_MAX, 5, .tim, 0, (rowAt .tim (Reg.TIM.JUMP_MAX % 4096)).get (by decide), 2, by decide +kernel⟩,
   ⟨{ R0 with par.busy := [(Page.TIM, true)] }, .host, Reg.TIM.JUMP_MAX, 5, .tim, 0, (rowAt .tim (Reg.TIM.JUMP_MAX % 4096)).get (by decide), by decide⟩⟩

theorem witness_ReadsClearAndW1c :
    (∃ (s : State) (addr : ℕ) (k : PageKind) (i : ℕ) (r : RegRow), Awake s ∧ msixAt addr = none ∧ addr % 4 = 0 ∧
      128 ≤ addr % 4096 ∧ addr ≠ 33550336 ∧ addr ≠ 33550340 ∧ regRow addr = some (k, i, r) ∧ k ≠ PageKind.icu ∧
      r.acc = Acc.rc) ∧
    (∃ (s : State) (addr : ℕ) (k : PageKind) (i : ℕ) (r : RegRow), Awake s ∧ msixAt addr = none ∧ addr % 4 = 0 ∧
      128 ≤ addr % 4096 ∧ addr ≠ 33550336 ∧ addr ≠ 33550340 ∧ regRow addr = some (k, i, r) ∧ k ≠ PageKind.icu ∧
      r.acc = Acc.rw) ∧
    (∃ (s : State) (a : Agent) (addr : ℕ) (k : PageKind) (i : ℕ) (r : RegRow), Awake s ∧ regRow addr = some (k, i, r) ∧
      r.acc = Acc.w1c ∧ k ≠ PageKind.dc ∧ 128 ≤ addr % 4096 ∧ Accepts s a addr LockKind.open) :=
  ⟨⟨R0, 0x94, .gbl, 0, (rowAt .gbl (0x94 % 4096)).get (by decide), by decide⟩,
   ⟨R0, Reg.TIM.JUMP_MAX, .tim, 0, (rowAt .tim (Reg.TIM.JUMP_MAX % 4096)).get (by decide), by decide⟩,
   ⟨R0, .tc, 0x1084, .cru, 0, (rowAt .cru (0x1084 % 4096)).get (by decide), by decide⟩⟩

theorem witness_PageErrors :
    (∃ (s : State) (addr : ℕ) (write : Bool), Awake s ∧ (pageInfo (pageOf addr)).isSome = true ∧ write = true) ∧
    (∃ (s : State) (addr : ℕ) (write : Bool), Awake s ∧ (pageInfo (pageOf addr)).isSome = true ∧ write = false) ∧
    (∃ (s : State) (pg off : ℕ), Awake s ∧ off < 4096 ∧ parityCovers pg off = true ∧
      Store.get noB s.par.bad (4096 * pg + off) = false ∧ noSafeAction pg = false) ∧
    (∃ (s : State) (pg off : ℕ), Awake s ∧ (parityCovers pg off = false ∨ Store.get noB s.par.bad (4096 * pg + off) = true)) ∧
    (∃ (s : State) (pg off : ℕ), Awake s ∧ off < 4096 ∧ parityCovers pg off = true ∧
      Store.get noB s.par.bad (4096 * pg + off) = false ∧ pg ≠ Page.SEC ∧ pg ≠ Page.AUD ∧
      (safe s pg = true ∨ noSafeAction pg = true) ∧ bit (rd s (Reg.HDR.PAGE_PAR_ADDR pg)) 31 = true) ∧
    (∃ (s : State) (pg off : ℕ), Awake s ∧ off < 4096 ∧ parityCovers pg off = true ∧
      Store.get noB s.par.bad (4096 * pg + off) = false ∧ pg ≠ Page.SEC ∧ pg ≠ Page.AUD ∧
      (safe s pg = true ∨ noSafeAction pg = true) ∧ bit (rd s (Reg.HDR.PAGE_PAR_ADDR pg)) 31 = false) :=
  ⟨⟨R0, 0, true, by decide⟩,
   ⟨R0, 0, false, by decide⟩,
   ⟨R0, Page.TIM, 128, by decide⟩,
   ⟨R0, Page.TIM, 0, by decide⟩,
   ⟨wr timOff (Reg.HDR.PAGE_PAR_ADDR Page.TIM) 0x80000000, Page.TIM, 128, by decide⟩,
   ⟨timOff, Page.TIM, 128, by decide⟩⟩

theorem witness_IndirectWindowWalks :
    (∃ (s : State) (pg : ℕ) (k : PageKind) (f i : ℕ), Awake s ∧ pg < 4096 ∧ pageInfo pg = some (k, f, i)) ∧
    (∃ (s : State) (a : Agent) (pg : ℕ) (k : PageKind) (f i : ℕ), Awake s ∧ pg < 4096 ∧ pageInfo pg = some (k, f, i) ∧
      rstBusy s pg = false ∧ writeRefusal s a pg LockKind.ind = none) ∧
    (∃ (s : State) (pg : ℕ) (k : PageKind) (f i : ℕ), Awake s ∧ pg < 4096 ∧ pageInfo pg = some (k, f, i) ∧ rstBusy s pg = true) :=
  ⟨⟨R0, Page.TP 255, .tp, Page.TP 0, 255, by decide⟩,
   ⟨R0, .tc, Page.TP 255, .tp, Page.TP 0, 255, by decide⟩,
   ⟨{ R0 with par.busy := [(Page.TP 255, true)] }, Page.TP 255, .tp, Page.TP 0, 255, by decide⟩⟩

theorem witness_PageControlAndLock :
    (∃ (s : State) (a : Agent) (pg : ℕ), Awake s ∧ (pageInfo pg).isSome = true ∧ rstBusy s pg = false ∧
      rightsRefusal s a pg = none ∧ Store.get noB s.par.bad (Reg.HDR.PAGE_LOCK pg) = false ∧
      Store.get noB s.par.once pg = false) ∧
    (∃ (s : State) (a : Agent) (pg : ℕ), Awake s ∧ (pageInfo pg).isSome = true ∧ rstBusy s pg = false ∧
      rightsRefusal s a pg = none ∧ Store.get noB s.par.bad (Reg.HDR.PAGE_LOCK pg) = false ∧
      Store.get noB s.par.once pg = true) ∧
    (∃ (s : State) (a : Agent) (pg : ℕ) (v : Word), Awake s ∧ (pageInfo pg).isSome = true ∧
      Accepts s a (Reg.HDR.PAGE_CTRL pg) LockKind.hdr ∧ bit v 0 = true ∧ bit v 1 = false) ∧
    (∃ (s : State) (a : Agent) (pg : ℕ) (v : Word), Awake s ∧ (pageInfo pg).isSome = true ∧
      Accepts s a (Reg.HDR.PAGE_CTRL pg) LockKind.hdr ∧ bit v 0 = false ∧ bit v 1 = false ∧ noSafeAction pg = false) ∧
    (∃ (s : State) (a : Agent) (pg : ℕ) (v : Word), Awake s ∧ (pageInfo pg).isSome = true ∧
      Accepts s a (Reg.HDR.PAGE_CTRL pg) LockKind.hdr ∧ bit v 1 = true ∧ hasSoftReset pg = true) :=
  ⟨⟨R0, .tc, Page.TIM, by decide⟩,
   ⟨{ R0 with par.once := [(Page.TIM, true)] }, .tc, Page.TIM, by decide⟩,
   ⟨R0, .tc, Page.TIM, 1, by decide⟩,
   ⟨R0, .tc, Page.TIM, 0, by decide⟩,
   ⟨R0, .tc, Page.TP 255, 2, by decide⟩⟩

theorem witness_HostAccesses :
    (∃ (s : State) (addr : ℕ) (data : List Byte), Awake s ∧ bar2Off s addr data.length true = false) ∧
    (∃ (s : State) (addr : ℕ) (data : List Byte), Awake s ∧ bar2Off s addr data.length true = true) ∧
    (∃ (s : State) (addr len : ℕ), Awake s ∧ bar2Off s addr len false = false) ∧
    (∃ (s : State) (addr len : ℕ), Awake s ∧ bar2Off s addr len false = true) ∧
    (∃ (s : State), Awake s ∧ s.rst.pcieUp = true) ∧
    (∃ (s : State) (l : PcieLink), Awake s ∧ s.rst.pcieUp = true ∧ (s.pcie.link.aspm = 0 ∨ l.aspm ≠ 0)) ∧
    (∃ (s : State) (addr : ℕ) (data : List Byte), Awake s ∧ 2 ≤ tapLevel s ∧ inMem addr data.length = true) ∧
    (∃ (s : State) (addr len : ℕ), Awake s ∧ 2 ≤ tapLevel s ∧ inMem addr len = true) ∧
    (∃ (s : State), Awake s ∧ 1 ≤ tapLevel s) ∧
    (∃ (s : State), Awake s ∧ 2 ≤ tapLevel s) ∧
    (∃ (s : State) (k : ℕ), Awake s ∧ k < 4 ∧ 2 ≤ tapLevel s ∧ running s k = true) ∧
    (∃ (s : State) (k : ℕ), Awake s ∧ k < 4 ∧ 2 ≤ tapLevel s ∧ s.mgt.dbgHalt.contains k = true) ∧
    (∃ (s : State) (op : TapOp), Awake s ∧ tapLevel s < tapNeeds op) :=
  ⟨⟨{ R0 with rst.hbmDone := true }, memBytes - 1, [1], by decide⟩,
   ⟨R0, 0, [1], by decide⟩,
   ⟨{ R0 with rst.hbmDone := true }, memBytes - 1, 1, by decide⟩,
   ⟨R0, 0, 1, by decide⟩,
   ⟨{ R0 with rst.pcieUp := true }, by decide⟩,
   ⟨{ R0 with rst.pcieUp := true }, R0.pcie.link, by decide⟩,
   ⟨wr R0 Reg.SEC.SEC_STATUS 0x14, memBytes - 1, [1], by decide⟩,
   ⟨wr R0 Reg.SEC.SEC_STATUS 0x14, memBytes - 1, 1, by decide⟩,
   ⟨wr R0 Reg.SEC.SEC_STATUS 0xC, by decide⟩,
   ⟨wr R0 Reg.SEC.SEC_STATUS 0x14, by decide⟩,
   ⟨wrs [(Reg.SEC.SEC_STATUS, 0x14), (Reg.MGT.CORE_STATUS, 15)] R0, 3, by decide⟩,
   ⟨{ wr R0 Reg.SEC.SEC_STATUS 0x14 with mgt.dbgHalt := [3] }, 3, by decide⟩,
   ⟨R0, .readReg 0, by decide⟩⟩

theorem witness_IngestFrameClassified :
    (∃ (s : State) (i : ℕ), Awake s ∧ i < 16 ∧ igUp s i = false) ∧
    (∃ (s : State) (i : ℕ) (f : NetFrame), Awake s ∧ i < 16 ∧ igUp s i = true ∧ f.fcsError = true) ∧
    (∃ (s : State) (i : ℕ) (f : NetFrame), Awake s ∧ i < 16 ∧ igUp s i = true ∧ f.fcsError = false ∧ safe s (Page.IG i) = false ∧
      isPtp f = false ∧ isPlacement s f = false ∧ (∀ (u : Udp), f.udp = some u → matchStream s i u = none) ∧
      rdB s (Reg.IG.PORT_CTRL i) 3 = false) ∧
    (∃ (s : State) (i : ℕ) (f : NetFrame) (u : Udp) (r : Rtp) (st : ℕ) (a : Bool), Awake s ∧ i < 16 ∧ igUp s i = true ∧
      f.fcsError = false ∧ safe s (Page.IG i) = false ∧ isPtp f = false ∧ isPlacement s f = false ∧ f.udp = some u ∧
      f.rtp = some r ∧ matchStream s i u = some (st, a) ∧ rdB s Reg.IGS.IGS_CTRL 0 = true ∧ f.len ≤ 9216 ∧
      fillOf s i + f.len ≤ 1048576 ∧ (bit (igsCfg s st 2) 15 = true → r.pt = fld (igsCfg s st 2) 14 8) ∧
      fld (igsCfg s st 13) 16 0 = 0 ∧
      (∀ (q : ℕ), (stream s st).top = some q → 0 ≤ toSigned 32 (seqUp q (BitVec.toNat r.seq))) ∧
      ((stream s st).frames.any fun g ↦ g.ts == r.ts) = true ∧ (stream s st).seen.contains (BitVec.toNat r.seq) = false) ∧
    (∃ (s : State) (i : ℕ) (f : NetFrame) (u : Udp) (r : Rtp) (st : ℕ) (a : Bool) (g : OpenFrame), Awake s ∧ i < 16 ∧
      igUp s i = true ∧ f.fcsError = false ∧ safe s (Page.IG i) = false ∧ isPtp f = false ∧ isPlacement s f = false ∧
      f.udp = some u ∧ f.rtp = some r ∧ matchStream s i u = some (st, a) ∧ rdB s Reg.IGS.IGS_CTRL 0 = true ∧ f.len ≤ 9216 ∧
      fillOf s i + f.len ≤ 1048576 ∧ (bit (igsCfg s st 2) 15 = true → r.pt = fld (igsCfg s st 2) 14 8) ∧
      fld (igsCfg s st 13) 16 0 = 0 ∧
      (∀ (q : ℕ), (stream s st).top = some q → 0 ≤ toSigned 32 (seqUp q (BitVec.toNat r.seq))) ∧
      ((stream s st).frames.any fun g ↦ g.ts == r.ts) = true ∧ (stream s st).seen.contains (BitVec.toNat r.seq) = true ∧
      a = true ∧ ((stream s st).copies.any fun c ↦ c.1 == BitVec.toNat r.seq && c.2.2 == igClk s) = true ∧
      List.find? (fun g ↦ g.ts == r.ts) (stream s st).frames = some g) ∧
    (∃ (s : State) (i : ℕ) (f : NetFrame) (u : Udp) (r : Rtp) (st : ℕ) (a : Bool), Awake s ∧ i < 16 ∧ igUp s i = true ∧
      f.fcsError = false ∧ safe s (Page.IG i) = false ∧ isPtp f = false ∧ isPlacement s f = false ∧ f.udp = some u ∧
      f.rtp = some r ∧ matchStream s i u = some (st, a) ∧ rdB s Reg.IGS.IGS_CTRL 0 = true ∧ f.len ≤ 9216 ∧
      fillOf s i + f.len ≤ 1048576 ∧ (bit (igsCfg s st 2) 15 = true → r.pt = fld (igsCfg s st 2) 14 8) ∧
      fld (igsCfg s st 13) 16 0 = 0 ∧
      (∀ (q : ℕ), (stream s st).top = some q → 0 ≤ toSigned 32 (seqUp q (BitVec.toNat r.seq))) ∧
      ((stream s st).frames.any fun g ↦ g.ts == r.ts) = true ∧ (stream s st).seen.contains (BitVec.toNat r.seq) = true ∧
      (a = false ∨ ((stream s st).copies.any fun c ↦ c.1 == BitVec.toNat r.seq && c.2.2 == igClk s) = false)) :=
  ⟨⟨R0, 15, by decide⟩,
   ⟨igOn, 0, { plainFrame with fcsError := true }, by decide⟩,
   ⟨igOn, 0, plainFrame, by decide, by decide, by decide, by decide, by decide, by decide, by decide, (by intro q h; cases h), by decide⟩,
   ⟨(igStream []), 0, rtpFrame, udpA, rtpA, 0, true, by decide, by decide, by decide, by decide, by decide, by decide, by decide, by decide, by decide, by decide, by decide, by decide, by decide, by decide, by decide, (by intro q h; cases h), by decide, by decide⟩,
   ⟨(setStream (igStream [7]) 0 { stream (igStream [7]) 0 with copies := [(7, 1, 0)] }), 0, rtpFrame, udpA, rtpA, 0, true, (openAt 90000), by decide, by decide, by decide, by decide, by decide, by decide, by decide, by decide, by decide, by decide, by decide, by decide, by decide, by decide, by decide, (by intro q h; cases h), by decide, by decide, by decide, by decide, by decide⟩,
   ⟨(igStream [7]), 0, rtpFrame, udpA, rtpA, 0, true, by decide, by decide, by decide, by decide, by decide, by decide, by decide, by decide, by decide, by decide, by decide, by decide, by decide, by decide, by decide, (by intro q h; cases h), by decide, by decide, by decide⟩⟩

theorem witness_IngestLinks :
    (∃ (s : State) (i : ℕ), Awake s ∧ i < 16) ∧
    (∃ (s : State) (i : ℕ), Awake s ∧ i < 8 ∧ (sdiState s i).2.1 = false) ∧
    (∃ (s : State) (i : ℕ), Awake s ∧ i < 8 ∧ rdB s (Reg.SD.SDI_CTRL i) 0 = true ∧ (sdiState s i).2.1 = true ∧
      sdiStream s i = none) ∧
    (∃ (s : State) (i : ℕ), Awake s ∧ i < 8 ∧ (rdB s (Reg.SD.SDI_CTRL i) 0 = false ∨ (sdiState s i).2.1 = false)) :=
  ⟨⟨R0, 15, by decide⟩,
   ⟨R0, 7, by decide⟩,
   ⟨{ wr R0 (Reg.SD.SDI_CTRL 7) 1 with ing.sdi := [(7, (true, true, 0))] }, 7, by decide⟩,
   ⟨R0, 7, by decide⟩⟩

theorem witness_FramesReachFences :
    (∃ (s : State) (st : ℕ) (f : OpenFrame), Awake s ∧ st < 64 ∧ List.find? (fun f ↦ f.asked) (stream s st).frames = some f ∧
      latchDue s = true) ∧
    (∃ (s : State) (st : ℕ) (f : OpenFrame) (j : ℕ), Awake s ∧ st < 64 ∧
      List.find? (fun f ↦ f.asked) (stream s st).frames = some f ∧ latchDue s = false ∧ safe s Page.IGS = false ∧
      streamSrc s st ≠ 2 ∧ eligible s st = some j) ∧
    (∃ (s : State) (st : ℕ) (f : OpenFrame), Awake s ∧ st < 64 ∧ List.find? (fun f ↦ f.asked) (stream s st).frames = some f ∧
      latchDue s = false ∧ safe s Page.IGS = false ∧ streamSrc s st ≠ 2 ∧ eligible s st = none) ∧
    (∃ (s : State) (st : ℕ) (f : OpenFrame), Awake s ∧ (stream s st).frames = [f] ∧ f.marker.isSome = true ∧ f.complete = false ∧
      overUs s f.markedAt (fld (igsCfg s st 12) 13 0) = true ∧ streamSrc s st ≠ 2 ∧ f.discard = false ∧ f.dropped = false) ∧
    (∃ (s : State) (st b : ℕ) (f : FencePend), Awake s ∧ List.find? (fun f ↦ f.buf == b) (stream s st).fences = some f ∧
      (f.done = none ∨ writesWait s st b = true ∨ ∃ d, f.done = some d ∧ d.1 ≠ (stream s st).count + 1)) ∧
    (∃ (s : State) (st b : ℕ) (f : FencePend) (ns : ℕ), Awake s ∧ List.find? (fun f ↦ f.buf == b) (stream s st).fences = some f ∧
      f.done = some ((stream s st).count + 1, ns) ∧ writesWait s st b = false ∧ twnOn s = false ∧
      (rdB s Reg.IGS.IGS_CTRL 1 = false ∨ fenceAddr s st b < memBytes)) ∧
    (∃ (s : State) (st b : ℕ) (f : FencePend) (ns : ℕ), Awake s ∧ List.find? (fun f ↦ f.buf == b) (stream s st).fences = some f ∧
      f.done = some ((stream s st).count + 1, ns) ∧ writesWait s st b = false ∧ twnOn s = false ∧
      rdB s Reg.IGS.IGS_CTRL 1 = true ∧ hostBase ≤ fenceAddr s st b ∧ s.pcie.cfg.busMaster = true) :=
  ⟨⟨{ nextSlot (setStream R0 63 { Stream.reset with frames := [askingFrame] }) with grid.leads := [(0, 0, 0)] }, 63, askingFrame, by decide⟩,
   ⟨setStream R0 63 { Stream.reset with frames := [askingFrame] }, 63, askingFrame, 0, by decide⟩,
   ⟨{ setStream R0 63 { Stream.reset with frames := [askingFrame] } with ing.cfg := [(1008, 0)] }, 63, askingFrame, by decide⟩,
   ⟨later 2000002 (setStream R0 63 { Stream.reset with frames := [markedFrame] }), 63, markedFrame, by decide⟩,
   ⟨(fencing none R0), 63, 7, (fenceA none), by decide, by decide, (.inl rfl)⟩,
   ⟨fencing (some (1, 0)) R0, 63, 7, fenceA (some (1, 0)), 0, by decide⟩,
   ⟨fencing (some (1, 0)) { wrs [(Reg.IGS.IGS_CTRL, 3), (Reg.IGS.FENCE_BASE_HI, 0x80000000)] R0 with pcie.cfg.busMaster := true }, 63, 7, fenceA (some (1, 0)), 0, by decide⟩⟩

theorem witness_StreamsEnable :
    (∃ (s : State) (a : Agent) (st : ℕ) (w0 : Word), Awake s ∧ st < 64 ∧ bit w0 0 = true ∧ indWord s a Page.IGS = 16 * st ∧
      rstBusy s Page.IGS = false ∧ writeRefusal s a Page.IGS LockKind.ind = none ∧ streamOn s st = false ∧
      streamRefusal (putCfg s st 0 (w0 &&& streamMask0)) st = none) ∧
    (∃ (s : State) (a : Agent) (st : ℕ) (w0 : Word) (c : ℕ), Awake s ∧ st < 64 ∧ bit w0 0 = true ∧
      indWord s a Page.IGS = 16 * st ∧ rstBusy s Page.IGS = false ∧ writeRefusal s a Page.IGS LockKind.ind = none ∧
      streamOn s st = false ∧ c < 16 ∧ streamRefusal (putCfg s st 0 (w0 &&& streamMask0)) st = some c) ∧
    (∃ (s : State) (a : Agent) (st : ℕ) (w0 : Word), Awake s ∧ st < 64 ∧ bit w0 0 = false ∧ indWord s a Page.IGS = 16 * st ∧
      rstBusy s Page.IGS = false ∧ writeRefusal s a Page.IGS LockKind.ind = none ∧ streamOn s st = true) ∧
    (∃ (s : State) (a : Agent) (v : Word), Awake s ∧ Accepts s a Reg.IGS.IGS_CTRL LockKind.cfg ∧ bit v 0 = true) ∧
    (∃ (s : State) (a : Agent) (v : Word), Awake s ∧ Accepts s a Reg.IGS.IGS_CTRL LockKind.cfg ∧ bit v 0 = false ∧
      rdB s Reg.IGS.IGS_CTRL 0 = true) :=
  ⟨⟨streamReady, .tc, 63, 0x02000001, by decide⟩,
   ⟨R0, .tc, 0, 1, 3, by decide⟩,
   ⟨{ R0 with ing.cfg := [(0, 1)] }, .tc, 0, 0, by decide⟩,
   ⟨R0, .tc, 1, by decide⟩,
   ⟨wr R0 Reg.IGS.IGS_CTRL 1, .tc, 0, by decide⟩⟩

theorem witness_CommitQueues :
    (∃ (s : State) (a : Agent) (mask : Word), Awake s ∧ Accepts s a Reg.LYR.COMMIT LockKind.cmd ∧ mask = 0) ∧
    (∃ (s : State) (a : Agent) (mask : Word), Awake s ∧ Accepts s a Reg.LYR.COMMIT LockKind.cmd ∧ mask ≠ 0 ∧ twnOn s = false ∧
      mask &&& queuedGroups s ≠ 0) ∧
    (∃ (s : State) (a : Agent) (mask : Word), Awake s ∧ Accepts s a Reg.LYR.COMMIT LockKind.cmd ∧ mask ≠ 0 ∧ twnOn s = false ∧
      mask &&& queuedGroups s = 0 ∧ 8 ≤ s.lyr.queue.length) ∧
    (∃ (s : State) (a : Agent) (mask : Word), Awake s ∧ Accepts s a Reg.LYR.COMMIT LockKind.cmd ∧ mask ≠ 0 ∧ twnOn s = false ∧
      mask &&& queuedGroups s = 0 ∧ s.lyr.queue.length < 8 ∧ bit (rd s Reg.LYR.COMMIT_CTRL) 0 = true ∧
      nph s ≤ fld (rd s Reg.LYR.COMMIT_CTRL) 3 1) ∧
    (∃ (s : State) (a : Agent) (mask : Word), Awake s ∧ Accepts s a Reg.LYR.COMMIT LockKind.cmd ∧ mask ≠ 0 ∧ twnOn s = false ∧
      mask &&& queuedGroups s = 0 ∧ s.lyr.queue.length < 8 ∧
      (bit (rd s Reg.LYR.COMMIT_CTRL) 0 = true → fld (rd s Reg.LYR.COMMIT_CTRL) 3 1 < nph s)) ∧
    (∃ (s : State) (a : Agent) (mask : Word), Awake s ∧ Accepts s a Reg.LYR.COMMIT LockKind.cmd ∧ mask ≠ 0 ∧ twnOn s = true) :=
  ⟨⟨R0, .tc, 0, by decide⟩,
   ⟨{ R0 with lyr.queue := [commitOf 1] }, .tc, 1, by decide⟩,
   ⟨{ R0 with lyr.queue := List.replicate 8 (commitOf 1) }, .tc, 2, by decide⟩,
   ⟨wr R0 Reg.LYR.COMMIT_CTRL 3, .tc, 1, by decide⟩,
   ⟨{ wr R0 Reg.LYR.COMMIT_CTRL 1 with lyr.queue := List.replicate 7 (commitOf 1) }, .tc, 2, by decide⟩,
   ⟨twin 3 R0, .tc, 1, by decide⟩⟩

theorem witness_ChecksAndCancels :
    (∃ (s : State) (i : ℕ) (r : CommitReq), Lit s ∧ underCheck s = some (i, r) ∧ (checkRequest s i r []).1 = none) ∧
    (∃ (s : State) (i : ℕ) (r : CommitReq) (f : Refuse), Lit s ∧ underCheck s = some (i, r) ∧
      (checkRequest s i r []).1 = some f) ∧
    (∃ (s : State), Awake s ∧ underCheck s = none) ∧
    (∃ (s : State) (a : Agent), Awake s ∧ Accepts s a Reg.LYR.COMMIT_CANCEL LockKind.cmd ∧ twnOn s = false ∧ latchDue s = true) ∧
    (∃ (s : State) (a : Agent) (mask : Word), Awake s ∧ Accepts s a Reg.LYR.COMMIT_CANCEL LockKind.cmd ∧ twnOn s = false ∧
      latchDue s = false ∧ (∀ r ∈ s.lyr.queue, r.mask &&& mask = 0)) :=
  ⟨⟨{ wrs [(Reg.DLS.CANVAS, 0x10001), (Reg.DLS.PH_TS 0, 100000)] R0 with lyr.queue := [commitOf 2] }, 0, commitOf 2, by decide⟩,
   ⟨{ R0 with lyr.queue := [commitOf 1], lyr.staged := [(0, 1)] }, 0, commitOf 1, ⟨2, 0, some 0⟩, by decide⟩,
   ⟨R0, by decide⟩,
   ⟨{ nextSlot R0 with grid.leads := [(0, 0, 0)] }, .tc, by decide⟩,
   ⟨{ R0 with lyr.queue := [commitOf 1] }, .tc, 2, by decide⟩⟩

theorem witness_LayersLatch :
    (∃ (s : State) (k n : ℕ), Awake s ∧
      (slotKnown s k n = false ∨ (findCtx s k n).isSome = true ∨ reached s (latchAt s k n) = false)) ∧
    (∃ (s : State) (k n : ℕ), Lit s ∧ slotKnown s k n = true ∧ n < 8 ∧ findCtx s k n = none ∧ reached s (latchAt s k n) = true ∧
      safeCause s Page.LYR = false ∧ s.lyr.queue = [] ∧ s.twn.ops = [] ∧ rdB s Reg.LYR.LYR_CTRL 0 = false) :=
  ⟨⟨R0, 0, 0, by decide⟩,
   ⟨nextSlot R0, 0, 0, by decide⟩⟩

theorem witness_PlacementRecorded :
    (∃ (s : State) (via : Via) (port : ℕ), Lit s ∧ (placePort s via = none ∨ port = 0 ∨ port ≠ rdF s Reg.AWN.AWN_CTRL 31 16)) ∧
    (∃ (s : State) (via : Via) (port : ℕ) (pl : List Byte) (ovh : ℕ), Lit s ∧ placePort s via = some ovh ∧ port ≠ 0 ∧
      port = rdF s Reg.AWN.AWN_CTRL 31 16 ∧ placeFormed pl = false) ∧
    (∃ (s : State) (via : Via) (ip : Word) (port : ℕ) (pl : List Byte) (ovh : ℕ) (p : Place), Lit s ∧
      placePort s via = some ovh ∧ port ≠ 0 ∧ port = rdF s Reg.AWN.AWN_CTRL 31 16 ∧ p = { raw := List.take 48 pl } ∧
      placeFormed pl = true ∧ rd s (Reg.AWN.SRC_IP p.id) ≠ 0 ∧ rd s (Reg.AWN.SRC_IP p.id) ≠ ip) ∧
    (∃ (s : State) (via : Via) (ip : Word) (port : ℕ) (pl : List Byte) (ovh : ℕ) (p : Place), Lit s ∧
      placePort s via = some ovh ∧ port ≠ 0 ∧ port = rdF s Reg.AWN.AWN_CTRL 31 16 ∧ p = { raw := List.take 48 pl } ∧
      placeFormed pl = true ∧ (rd s (Reg.AWN.SRC_IP p.id) = 0 ∨ rd s (Reg.AWN.SRC_IP p.id) = ip) ∧
      rdF s (Reg.AWN.POL_CIR p.id) 19 0 = 0 ∧
      rdN s Reg.AWN.MAX_AGE * 1000 * 2 ^ 32 < ((s.time.count : ℤ) - p.time * 2 ^ 32).natAbs) ∧
    (∃ (s : State) (via : Via) (ip : Word) (port : ℕ) (pl : List Byte) (ovh : ℕ) (p : Place), Lit s ∧
      placePort s via = some ovh ∧ port ≠ 0 ∧ port = rdF s Reg.AWN.AWN_CTRL 31 16 ∧ p = { raw := List.take 48 pl } ∧
      placeFormed pl = true ∧ (rd s (Reg.AWN.SRC_IP p.id) = 0 ∨ rd s (Reg.AWN.SRC_IP p.id) = ip) ∧
      rdF s (Reg.AWN.POL_CIR p.id) 19 0 = 0 ∧
      ((s.time.count : ℤ) - p.time * 2 ^ 32).natAbs ≤ rdN s Reg.AWN.MAX_AGE * 1000 * 2 ^ 32 ∧ twnOn s = false ∧
      p.restart = true) ∧
    (∃ (s : State) (via : Via) (ip : Word) (port : ℕ) (pl : List Byte) (ovh : ℕ) (p : Place), Lit s ∧
      placePort s via = some ovh ∧ port ≠ 0 ∧ port = rdF s Reg.AWN.AWN_CTRL 31 16 ∧ p = { raw := List.take 48 pl } ∧
      placeFormed pl = true ∧ (rd s (Reg.AWN.SRC_IP p.id) = 0 ∨ rd s (Reg.AWN.SRC_IP p.id) = ip) ∧
      rdF s (Reg.AWN.POL_CIR p.id) 19 0 = 0 ∧
      ((s.time.count : ℤ) - p.time * 2 ^ 32).natAbs ≤ rdN s Reg.AWN.MAX_AGE * 1000 * 2 ^ 32 ∧ twnOn s = false ∧
      p.restart = false ∧ (∀ (q : Place), (awning s p.id).p2 = some q → q.time < p.time) ∧ (awning s p.id).p2 = none) ∧
    (∃ (s : State) (via : Via) (ip : Word) (port : ℕ) (pl : List Byte) (ovh : ℕ) (p q : Place), Lit s ∧
      placePort s via = some ovh ∧ port ≠ 0 ∧ port = rdF s Reg.AWN.AWN_CTRL 31 16 ∧ p = { raw := List.take 48 pl } ∧
      placeFormed pl = true ∧ (rd s (Reg.AWN.SRC_IP p.id) = 0 ∨ rd s (Reg.AWN.SRC_IP p.id) = ip) ∧
      rdF s (Reg.AWN.POL_CIR p.id) 19 0 = 0 ∧
      ((s.time.count : ℤ) - p.time * 2 ^ 32).natAbs ≤ rdN s Reg.AWN.MAX_AGE * 1000 * 2 ^ 32 ∧ twnOn s = false ∧
      p.restart = false ∧ (awning s p.id).p2 = some q ∧ p.time ≤ q.time) :=
  ⟨⟨R0, .sv 1, 6000, by decide⟩,
   ⟨placing, .sv 1, 6000, [], 0, by decide⟩,
   ⟨wr placing (Reg.AWN.SRC_IP 7) 1, .sv 1, 2, 6000, placeBytes 0, 0, placeA 0, by decide⟩,
   ⟨later 20000000000 (wr placing (Reg.AWN.SRC_IP 7) 1), .sv 1, 1, 6000, placeBytes 2, 0, placeA 2, by decide⟩,
   ⟨wr placing (Reg.AWN.SRC_IP 7) 1, .sv 1, 1, 6000, placeBytes 2, 0, placeA 2, by decide⟩,
   ⟨placing, (.sv 1), 1, 6000, (placeBytes 0), 0, (placeA 0), by decide, by decide, by decide, by decide, by decide, by decide, by decide, by decide, by decide, by decide, by decide, (by intro q h; cases h), by decide⟩,
   ⟨{ placing with awn := [(7, ⟨none, some (placeA 0), false, none⟩)] }, .sv 1, 1, 6000, placeBytes 0, 0, placeA 0, placeA 0, by decide⟩⟩

theorem witness_AwningsPlaced :
    (∃ (s : State) (k n g : ℕ) (c : PhaseCtx), Lit s ∧ findCtx s k n = some c ∧
      (c.groups ≠ g ∨ c.bands ≤ 4 * g ∨ reached s (c.begin_ ↑(4 * g)) = false)) ∧
    (∃ (s : State) (k n g : ℕ) (c : PhaseCtx), Lit s ∧ findCtx s k n = some c ∧ c.groups = g ∧ 4 * g < c.bands ∧
      reached s (c.begin_ ↑(4 * g)) = true ∧ s.twn.ops = [] ∧ List.filter (fun e ↦ dAwning e.2.desc) c.layers = []) ∧
    (∃ (s : State) (k n g : ℕ) (c : PhaseCtx) (e : ℕ × Latched) (i : ℕ), Lit s ∧ findCtx s k n = some c ∧ c.groups = g ∧
      4 * g < c.bands ∧ reached s (c.begin_ ↑(4 * g)) = true ∧ s.twn.ops = [] ∧
      List.filter (fun e ↦ dAwning e.2.desc) c.layers = [e] ∧ i = dAwnId e.2.desc ∧
      ((awning s i).p2 = none ∨ rdB s Reg.AWN.AWN_CTRL 0 = false)) :=
  ⟨⟨inSlot { ctxA with groups := 1 } R0, 0, 0, 0, { ctxA with groups := 1 }, by decide⟩,
   ⟨inSlot ctxA R0, 0, 0, 0, ctxA, by decide⟩,
   ⟨inSlot ctxAwn R0, 0, 0, 0, ctxAwn, (127, ⟨1, 0, [2]⟩), 0, by decide⟩⟩

theorem witness_SpanTablesSwap :
    (∃ (s : State) (k n : ℕ) (c : PhaseCtx), Lit s ∧ findCtx s k n = some c ∧
      (c.xDone = true ∨ reached s (latchAt s k n + 1638400) = false)) ∧
    (∃ (s : State) (k n : ℕ) (c : PhaseCtx), Lit s ∧ findCtx s k n = some c ∧ c.xDone = false ∧ s.spb.build ≠ some (k, n) ∧
      s.spb.done ≠ some (k, n) ∧ reached s (latchAt s k n + 1638400) = true ∧ safeCause s Page.SPB = false ∧
      rdB s Reg.SPB.SPB_CTRL 0 = true) ∧
    (∃ (s : State) (k n : ℕ) (c : PhaseCtx) (clocks : ℕ), Lit s ∧ findCtx s k n = some c ∧
      (s.spb.build ≠ some (k, n) ∨ buildClocks c.bands (listedLayers s c).length < clocks ∨ reached s (latchAt s k n + 1638400 + 800 * ↑clocks) = false)) ∧
    (∃ (s : State) (k n : ℕ) (c : PhaseCtx) (clocks : ℕ), Lit s ∧ findCtx s k n = some c ∧ s.spb.build = some (k, n) ∧
      clocks ≤ buildClocks c.bands (listedLayers s c).length ∧ reached s (latchAt s k n + 1638400 + 800 * ↑clocks) = true) ∧
    (∃ (s : State) (k n : ℕ) (c : PhaseCtx), Lit s ∧ findCtx s k n = some c ∧ reached s c.boundary = false) ∧
    (∃ (s : State) (k n : ℕ) (c : PhaseCtx), Lit s ∧ findCtx s k n = some c ∧ c.xDone = false ∧ reached s c.boundary = true ∧
      flipsAt s c.boundary = [] ∧ safe s Page.SPB = false ∧ safeCause s Page.CAL = false ∧ rdB s Reg.SPB.SPB_CTRL 0 = true ∧
      s.spb.done = some (k, n)) ∧
    (∃ (s : State) (k n : ℕ) (c : PhaseCtx), Lit s ∧ findCtx s k n = some c ∧ c.xDone = false ∧ reached s c.boundary = true ∧
      flipsAt s c.boundary = [] ∧ safe s Page.SPB = false ∧ safeCause s Page.CAL = false ∧ rdB s Reg.SPB.SPB_CTRL 0 = true ∧
      s.spb.done ≠ some (k, n)) :=
  ⟨⟨inSlot { ctxA with xDone := true } R0, 0, 0, { ctxA with xDone := true }, by decide⟩,
   ⟨later 1000000 (inSlot ctxA (spbOn none R0)), 0, 0, ctxA, by decide⟩,
   ⟨later 1000000 (inSlot ctxA { R0 with spb.build := some (0, 0) }), 0, 0, ctxA, 2177, by decide⟩,
   ⟨later 1000000 (inSlot ctxA { R0 with spb.build := some (0, 0) }), 0, 0, ctxA, 2176, by decide⟩,
   ⟨inSlot { ctxA with start := 1000000 } R0, 0, 0, { ctxA with start := 1000000 }, by decide⟩,
   ⟨inSlot ctxA (spbOn (some (0, 0)) R0), 0, 0, ctxA, by decide⟩,
   ⟨inSlot ctxA (spbOn none R0), 0, 0, ctxA, by decide⟩⟩

theorem witness_FetchMovesOn :
    (∃ (s : State) (k n b : ℕ) (c : PhaseCtx), Lit s ∧ findCtx s k n = some c ∧
      (c.xDone = false ∨ c.released ≠ b ∨ c.bands ≤ b ∨ reached s (c.releaseAt b) = false)) ∧
    (∃ (s : State) (k n b : ℕ) (c : PhaseCtx), Lit s ∧ findCtx s k n = some c ∧ c.xDone = true ∧ c.released = b ∧ b < c.bands ∧
      reached s (c.releaseAt b) = true) ∧
    (∃ (s : State) (id : ℕ) (r : FetchReq), Lit s ∧ List.find? (fun r ↦ r.id == id) s.fab.reqs = some r ∧
      r.granted.length ≠ r.units.length) ∧
    (∃ (s : State) (id : ℕ) (r : FetchReq), Lit s ∧ List.find? (fun r ↦ r.id == id) s.fab.reqs = some r ∧
      r.granted.length = r.units.length ∧ (∀ (copy : ℕ), r.kind ≠ FetchKind.context copy) ∧ r.discard = false) ∧
    (∃ (s : State) (id : ℕ) (r : FetchReq), Lit s ∧ List.find? (fun r ↦ r.id == id) s.fab.reqs = some r ∧
      r.granted.length = r.units.length ∧ (∀ (copy : ℕ), r.kind ≠ FetchKind.context copy) ∧ r.discard = true) :=
  ⟨⟨inSlot ctxA R0, 0, 0, 0, ctxA, by decide⟩,
   ⟨inSlot { ctxA with xDone := true, released := 1 } R0, 0, 0, 1, { ctxA with xDone := true, released := 1 }, by decide⟩,
   ⟨{ R0 with fab.reqs := [reqA (.layer 0) 0 [0] false] }, 0, reqA (.layer 0) 0 [0] false, by decide⟩,
   ⟨({ R0 with fab.reqs := [reqA (.layer 0) 0 [] false] }), 0, (reqA (.layer 0) 0 [] false), by decide, by decide, by decide, (by intro c h; cases h), by decide⟩,
   ⟨({ R0 with fab.reqs := [reqA (.layer 0) 0 [] true] }), 0, (reqA (.layer 0) 0 [] true), by decide, by decide, by decide, (by intro c h; cases h), by decide⟩⟩

theorem witness_FabricSlots :
    (∃ (s : State) (pc : ℕ) (r : FetchReq), Lit s ∧ pc < 128 ∧ (pcWin s pc).slot < 256 ∧
      rdB s (Reg.MEM.MEM_STATUS (pc / 32)) 1 = false ∧ nextDisplay s pc = some r ∧
      (List.find? (fun u ↦ !r.granted.contains u) r.units).isSome = true ∧ (pcWin s pc).disp < (quotas s (pcWin s pc)).1) ∧
    (∃ (s : State) (pc : ℕ) (w : IngWrite), Lit s ∧ pc < 128 ∧ (pcWin s pc).slot < 256 ∧
      rdB s (Reg.MEM.MEM_STATUS (pc / 32)) 1 = false ∧ nextDisplay s pc = none ∧ nextIngest s pc = some w ∧
      (pcWin s pc).ing < (quotas s (pcWin s pc)).2 ∧ (List.map (fun x ↦ x.1) w.cells).Nodup ∧
      (∀ x ∈ w.cells, x.1 < memBytes)) ∧
    (∃ (s : State) (pc : ℕ) (b : BeReq), Lit s ∧ pc < 128 ∧ (pcWin s pc).slot < 256 ∧
      rdB s (Reg.MEM.MEM_STATUS (pc / 32)) 1 = false ∧ nextDisplay s pc = none ∧ nextIngest s pc = none ∧
      pseudoChannel b.addr ≠ pc) ∧
    (∃ (s : State) (pc : ℕ) (b : BeReq), Lit s ∧ pc < 128 ∧ (pcWin s pc).slot < 256 ∧
      rdB s (Reg.MEM.MEM_STATUS (pc / 32)) 1 = false ∧ nextDisplay s pc = none ∧ nextIngest s pc = none ∧
      pseudoChannel b.addr = pc) ∧
    (∃ (s : State) (pc : ℕ), Lit s ∧ pc < 128 ∧ (pcWin s pc).slot = 256) ∧
    (∃ (s : State) (pc : ℕ), Lit s ∧ pc < 128 ∧ (pcWin s pc).slot ≠ 256) :=
  ⟨⟨windowAt 127 255 { R0 with fab.reqs := [reqA (.layer 0) 32512 [0] false] }, 127, reqA (.layer 0) 32512 [0] false, by decide⟩,
   ⟨windowAt 127 255 { R0 with ing.writes := [⟨0, 0, 0, 32512, [(memBytes - 1, 1)], 0, 64, 0⟩] }, 127, ⟨0, 0, 0, 32512, [(memBytes - 1, 1)], 0, 64, 0⟩, by decide⟩,
   ⟨windowAt 127 255 R0, 127, ⟨.host, 0, false, 0⟩, by decide⟩,
   ⟨windowAt 127 255 R0, 127, ⟨.host, 0, false, 32512⟩, by decide⟩,
   ⟨windowAt 127 256 R0, 127, by decide⟩,
   ⟨windowAt 127 255 R0, 127, by decide⟩⟩

theorem witness_RecheckVerdict :
    (∃ (s : State) (a : Agent) (v : Word), Awake s ∧ Accepts s a Reg.SPB.RECHECK LockKind.cmd ∧ bit v 0 = true ∧
      s.spb.recheck = none) ∧
    (∃ (s : State) (a : Agent) (v : Word), Awake s ∧ Accepts s a Reg.SPB.RECHECK LockKind.cmd ∧ bit v 0 = true ∧
      s.spb.recheck.isSome = true) ∧
    (∃ (s : State), Lit s ∧ s.spb.recheck = none) ∧
    (∃ (s : State) (b : ℕ), Lit s ∧ s.spb.recheck = some b ∧ (s.lyr.queue.any fun r ↦ !r.ready && decide (r.id < b)) = true) ∧
    (∃ (s : State) (b : ℕ), Lit s ∧ s.spb.recheck = some b ∧ (s.lyr.queue.any fun r ↦ !r.ready && decide (r.id < b)) = false) :=
  ⟨⟨R0, .tc, 1, by decide⟩,
   ⟨{ R0 with spb.recheck := some 0 }, .tc, 1, by decide⟩,
   ⟨R0, by decide⟩,
   ⟨{ R0 with spb.recheck := some 1, lyr.queue := [commitOf 1] }, 1, by decide⟩,
   ⟨{ R0 with spb.recheck := some 0, lyr.queue := [commitOf 1] }, 0, by decide⟩⟩

theorem witness_CalibrationControl :
    (∃ (s : State) (a : Agent) (v : Word), Awake s ∧ Accepts s a Reg.CAL.CAL_CTRL LockKind.cfg ∧ bit v 0 = true ∧
      calRefusal s = 0) ∧
    (∃ (s : State) (a : Agent) (v : Word), Awake s ∧ Accepts s a Reg.CAL.CAL_CTRL LockKind.cfg ∧ bit v 0 = true ∧
      calRefusal s ≠ 0) ∧
    (∃ (s : State) (a : Agent) (v : Word), Awake s ∧ Accepts s a Reg.CAL.FLIP LockKind.cmd ∧ bit v 0 = true ∧
      flipPending s = false ∧ twnOn s = false) ∧
    (∃ (s : State) (a : Agent) (v : Word), Awake s ∧ Accepts s a Reg.CAL.FLIP LockKind.cmd ∧ bit v 0 = true ∧
      flipPending s = true) ∧
    (∃ (s : State) (id copy : ℕ) (r : FetchReq) (c : PhaseCtx), Lit s ∧ List.find? (fun r ↦ r.id == id) s.fab.reqs = some r ∧
      r.kind = FetchKind.context copy ∧ r.granted.length = r.units.length ∧ r.discard = false ∧ findCtx s r.k r.n = some c ∧
      r.poison = []) :=
  ⟨⟨calTwo, .tc, 1, by decide⟩,
   ⟨R0, .tc, 1, by decide⟩,
   ⟨R0, .tc, 1, by decide⟩,
   ⟨{ R0 with cal.flip := some 1 }, .tc, 1, by decide⟩,
   ⟨inSlot ctxA { R0 with fab.reqs := [reqA (.context 1) 0 [] false] }, 0, 1, reqA (.context 1) 0 [] false, ctxA, by decide⟩⟩

theorem witness_ScrubberRepairs :
    (∃ (s : State), Lit s ∧ (rdB s Reg.CAL.CAL_CTRL 0 = false ∨ rdB s Reg.CAL.CAL_CTRL 1 = false ∨ safe s Page.CAL = true)) ∧
    (∃ (s : State) (cell bank a0 a1 : ℕ), Lit s ∧ rdB s Reg.CAL.CAL_CTRL 0 = true ∧ rdB s Reg.CAL.CAL_CTRL 1 = true ∧
      safe s Page.CAL = false ∧ s.cal.scrub = cell ∧ cell % 1024 < rdF s Reg.DLS.CANVAS 10 0 ∧
      cell / 1024 < rdF s Reg.DLS.CANVAS 26 16 ∧ bank = ctxBank (rd64 s Reg.CAL.SEL_ACTIVE_LO Reg.CAL.SEL_ACTIVE_HI) cell ∧
      a0 = ctxAddr (rd64 s Reg.CAL.COPY0_BASE_LO Reg.CAL.COPY0_BASE_HI) cell bank ∧
      a1 = ctxAddr (rd64 s Reg.CAL.COPY1_BASE_LO Reg.CAL.COPY1_BASE_HI) cell bank ∧ a0 + 32 ≤ memBytes ∧ a1 + 32 ≤ memBytes ∧
      (a0 + 32 ≤ a1 ∨ a1 + 32 ≤ a0) ∧ Store.get noB s.poison (a0 / 32) = false ∧ Store.get noB s.poison (a1 / 32) = false ∧
      ctxPasses (memRead s a0 32) cell = true ∧ ctxPasses (memRead s a1 32) cell = true ∧
      memRead s a0 32 = memRead s a1 32) ∧
    (∃ (s : State) (cell bank a0 a1 : ℕ), Lit s ∧ rdB s Reg.CAL.CAL_CTRL 0 = true ∧ rdB s Reg.CAL.CAL_CTRL 1 = true ∧
      safe s Page.CAL = false ∧ s.cal.scrub = cell ∧ cell % 1024 < rdF s Reg.DLS.CANVAS 10 0 ∧
      cell / 1024 < rdF s Reg.DLS.CANVAS 26 16 ∧ bank = ctxBank (rd64 s Reg.CAL.SEL_ACTIVE_LO Reg.CAL.SEL_ACTIVE_HI) cell ∧
      a0 = ctxAddr (rd64 s Reg.CAL.COPY0_BASE_LO Reg.CAL.COPY0_BASE_HI) cell bank ∧
      a1 = ctxAddr (rd64 s Reg.CAL.COPY1_BASE_LO Reg.CAL.COPY1_BASE_HI) cell bank ∧ a0 + 32 ≤ memBytes ∧ a1 + 32 ≤ memBytes ∧
      (a0 + 32 ≤ a1 ∨ a1 + 32 ≤ a0) ∧ Store.get noB s.poison (a0 / 32) = false ∧ Store.get noB s.poison (a1 / 32) = false ∧
      ctxPasses (memRead s a0 32) cell = true ∧ ctxPasses (memRead s a1 32) cell = false) ∧
    (∃ (s : State) (cell bank a0 a1 : ℕ), Lit s ∧ rdB s Reg.CAL.CAL_CTRL 0 = true ∧ rdB s Reg.CAL.CAL_CTRL 1 = true ∧
      safe s Page.CAL = false ∧ s.cal.scrub = cell ∧ cell % 1024 < rdF s Reg.DLS.CANVAS 10 0 ∧
      cell / 1024 < rdF s Reg.DLS.CANVAS 26 16 ∧ bank = ctxBank (rd64 s Reg.CAL.SEL_ACTIVE_LO Reg.CAL.SEL_ACTIVE_HI) cell ∧
      a0 = ctxAddr (rd64 s Reg.CAL.COPY0_BASE_LO Reg.CAL.COPY0_BASE_HI) cell bank ∧
      a1 = ctxAddr (rd64 s Reg.CAL.COPY1_BASE_LO Reg.CAL.COPY1_BASE_HI) cell bank ∧ a0 + 32 ≤ memBytes ∧ a1 + 32 ≤ memBytes ∧
      (a0 + 32 ≤ a1 ∨ a1 + 32 ≤ a0) ∧ Store.get noB s.poison (a0 / 32) = false ∧ Store.get noB s.poison (a1 / 32) = false ∧
      ctxPasses (memRead s a0 32) cell = false ∧ ctxPasses (memRead s a1 32) cell = false) :=
  ⟨⟨R0, by decide⟩,
   ⟨scrubbing (crcBytes 0 ++ crcBytes 17179869184), 0, 0, 0, 17179869184, by decide +kernel⟩,
   ⟨scrubbing (crcBytes 0), 0, 0, 0, 17179869184, by decide +kernel⟩,
   ⟨scrubbing [], 0, 0, 0, 17179869184, by decide +kernel⟩⟩

theorem witness_BandTakesSlot :
    (∃ (s : State) (k n b : ℕ) (c : PhaseCtx), Lit s ∧ findCtx s k n = some c ∧
      (c.bands ≤ b ∨ reached s (c.begin_ ↑b) = false)) ∧
    (∃ (s : State) (k n b : ℕ) (c : PhaseCtx), Lit s ∧ findCtx s k n = some c ∧ b < c.bands ∧ reached s (c.begin_ ↑b) = true ∧
      ringSlot s k n b = none ∧ reached s (c.deadline b) = false ∧ s.dls.ring = [] ∧ s.dls.busy ≤ coreClk s ∧
      rdB s Reg.DLS.DLS_CTRL 0 = true) :=
  ⟨⟨inSlot ctxA R0, 0, 0, 2, ctxA, by decide⟩,
   ⟨inSlot ctxSlow (wr R0 Reg.DLS.DLS_CTRL 1), 0, 0, 1, ctxSlow, by decide⟩⟩

theorem witness_CompositionStepCompletes :
    (∃ (s : State), Lit s ∧ List.find? (fun r ↦ r.entered.isSome) (inFlight s) = none) ∧
    (∃ (s : State) (r : BandSlot) (c : PhaseCtx) (t0 : ℕ), Lit s ∧ List.find? (fun r ↦ r.entered.isSome) (inFlight s) = some r ∧
      findCtx s r.k r.n = some c ∧ (bandStarts s c r)[r.steps]? = some t0 ∧ r.stall = 0 ∧
      (coreClk s < t0 + 2304 ∨ reached s (c.deadline r.b + 800) = true)) ∧
    (∃ (s : State) (r : BandSlot) (c : PhaseCtx) (t0 : ℕ), Lit s ∧ List.find? (fun r ↦ r.entered.isSome) (inFlight s) = some r ∧
      findCtx s r.k r.n = some c ∧ (bandStarts s c r)[r.steps]? = some t0 ∧ r.stall = 0 ∧ t0 + 2304 ≤ coreClk s ∧
      reached s (c.deadline r.b + 800) = false) :=
  ⟨⟨R0, by decide⟩,
   ⟨inBand ctxSlow bandIn R0, bandIn, ctxSlow, 0, by decide⟩,
   ⟨later 2000 (inBand ctxSlow bandIn R0), bandIn, ctxSlow, 0, by decide⟩⟩

theorem witness_BandJudged :
    (∃ (s : State) (k n b : ℕ) (c : PhaseCtx) (r : BandSlot), Lit s ∧ findCtx s k n = some c ∧ ringSlot s k n b = some r ∧
      (c.bands ≤ b ∨ reached s (c.deadline b) = false ∨ r.judged = true)) ∧
    (∃ (s : State) (k n b : ℕ) (c : PhaseCtx) (r : BandSlot), Lit s ∧ findCtx s k n = some c ∧ ringSlot s k n b = some r ∧
      b < c.bands ∧ reached s (c.deadline b) = true ∧ r.judged = false ∧ r.final = true ∧ r.gsAll = false ∧
      r.enabled = true) ∧
    (∃ (s : State) (k n b : ℕ) (c : PhaseCtx) (r : BandSlot), Lit s ∧ findCtx s k n = some c ∧ ringSlot s k n b = some r ∧
      b < c.bands ∧ reached s (c.deadline b) = true ∧ r.judged = false ∧ r.final = false ∧ r.gsAll = false ∧
      r.enabled = true) :=
  ⟨⟨inBand ctxA (bandA 2) R0, 0, 0, 2, ctxA, bandA 2, by decide⟩,
   ⟨later 1 (inBand ctxA { bandA 1 with final := true } R0), 0, 0, 1, ctxA, { bandA 1 with final := true }, by decide⟩,
   ⟨later 1 (inBand ctxA (bandA 1) R0), 0, 0, 1, ctxA, bandA 1, by decide⟩⟩

theorem witness_GroundsheetFill :
    (∃ (s : State) (a : Agent) (v : Word), Awake s ∧ Accepts s a Reg.DLS.GS_FILL LockKind.cmd ∧ bit v 0 = true ∧
      rdB s Reg.DLS.GS_FILL_STATUS 0 = false) ∧
    (∃ (s : State) (a : Agent) (v : Word), Awake s ∧ Accepts s a Reg.DLS.GS_FILL LockKind.cmd ∧ bit v 0 = true ∧
      rdB s Reg.DLS.GS_FILL_STATUS 0 = true) ∧
    (∃ (s : State) (v : Word) (next stop at_ : ℕ), Lit s ∧ s.dls.fill = some (v, next, stop, at_) ∧
      (fillReach s next stop at_ = stop ∨ stop ≤ next)) ∧
    (∃ (s : State) (v : Word) (next stop at_ : ℕ), Lit s ∧ s.dls.fill = some (v, next, stop, at_) ∧
      fillReach s next stop at_ ≠ stop ∧ next < stop) :=
  ⟨⟨R0, .tc, 1, by decide⟩,
   ⟨wr R0 Reg.DLS.GS_FILL_STATUS 1, .tc, 1, by decide⟩,
   ⟨{ R0 with dls.fill := some (5, 0, 0, 0) }, 5, 0, 0, 0, by decide⟩,
   ⟨{ R0 with dls.fill := some (5, 0, 1, 0) }, 5, 0, 1, 0, by decide⟩⟩

theorem witness_PitchInstructions :
    (∃ (s : State) (p : ℕ) (q : SeqRun), (∀ u ∈ (port s p).errs, u.word ≠ q.pc)) ∧
    (∃ (s : State) (p : ℕ) (q : SeqRun) (u : Upset), u ∈ (port s p).errs ∧ u.word = q.pc ∧ u.struct = 7 ∧ u.uncorr = true ∧
      q.wait = SeqWait.none ∧ q.ended = false) ∧
    (∃ (s : State) (p : ℕ) (r : SeqRun), Lit s ∧ Issues s p PitchOp.nop r) ∧
    (∃ (s : State) (p : ℕ) (r : SeqRun) (f : SetF), Lit s ∧ Issues s p (PitchOp.set f) r) ∧
    (∃ (s : State) (p : ℕ) (r : SeqRun) (f : AddF), Lit s ∧ Issues s p (PitchOp.add f) r) ∧
    (∃ (s : State) (p : ℕ) (r : SeqRun) (n : BitVec 12), Lit s ∧ Issues s p (PitchOp.loop n) r) ∧
    (∃ (s : State) (p : ℕ) (r : SeqRun) (n : ℕ) (cs : List ℕ) (a : ℕ) (as : List ℕ), Lit s ∧ Issues s p PitchOp.endloop r ∧
      r.lc = (n + 1) :: cs ∧ r.ret = a :: as) ∧
    (∃ (s : State) (p : ℕ) (r : SeqRun) (cs : List ℕ) (a : ℕ) (as : List ℕ), Lit s ∧ Issues s p PitchOp.endloop r ∧
      r.lc = 0 :: cs ∧ r.ret = a :: as) ∧
    (∃ (s : State) (p : ℕ) (r : SeqRun), Lit s ∧ Issues s p PitchOp.seqEnd r) ∧
    (∃ (s : State) (p : ℕ) (r : SeqRun), Lit s ∧ Issues s p PitchOp.signal r ∧ (∀ u ∈ (port s p).errs, u.word ≠ r.pc + 1)) ∧
    (∃ (s : State) (p : ℕ), (∀ (r : SeqRun), ¬Issues s p PitchOp.nop r)) ∧
    (∃ (s : State) (p : ℕ) (f : SetF), (∀ (r : SeqRun), ¬Issues s p (PitchOp.set f) r)) ∧
    (∃ (s : State) (p : ℕ) (f : AddF), (∀ (r : SeqRun), ¬Issues s p (PitchOp.add f) r)) ∧
    (∃ (s : State) (p : ℕ) (f : BitVec 12), (∀ (r : SeqRun), ¬Issues s p (PitchOp.loop f) r)) ∧
    (∃ (s : State) (p : ℕ), (∀ (r : SeqRun), ¬Issues s p PitchOp.endloop r)) ∧
    (∃ (s : State) (p : ℕ) (f : WaitBandF), (∀ (r : SeqRun), ¬Issues s p (PitchOp.waitBand f) r)) ∧
    (∃ (s : State) (p : ℕ) (f : BitVec 32), (∀ (r : SeqRun), ¬Issues s p (PitchOp.waitTime f) r)) ∧
    (∃ (s : State) (p : ℕ) (l : BitVec 9) (x : BitVec 32), (∀ (r : SeqRun), ¬Issues s p (PitchOp.waitEvent l x) r)) ∧
    (∃ (s : State) (p : ℕ) (f : SendF), (∀ (r : SeqRun), ¬Issues s p (PitchOp.send f) r)) ∧
    (∃ (s : State) (p : ℕ), (∀ (r : SeqRun), ¬Issues s p PitchOp.close r)) ∧
    (∃ (s : State) (p : ℕ), (∀ (r : SeqRun), ¬Issues s p PitchOp.signal r)) ∧
    (∃ (s : State) (p : ℕ), (∀ (r : SeqRun), ¬Issues s p PitchOp.seqEnd r)) :=
  ⟨⟨R0, 255, runA .none, by decide⟩,
   ⟨setPort R0 255 { TilePort.reset with errs := [⟨7, 0, 0, true⟩] }, 255, runA .none, ⟨7, 0, 0, true⟩, by decide⟩,
   ⟨playing 255 [.nop] (runA .none) R0, 255, runA .none, by decide⟩,
   ⟨playing 255 [.set ⟨true, true, true, 2047, 63, 255⟩] (runA .none) R0, 255, runA .none, ⟨true, true, true, 2047, 63, 255⟩, by decide⟩,
   ⟨playing 255 [.add ⟨2047, 63, 255⟩] (runA .none) R0, 255, runA .none, ⟨2047, 63, 255⟩, by decide⟩,
   ⟨playing 255 [.loop 4095] (runA .none) R0, 255, runA .none, 4095, by decide⟩,
   ⟨playing 255 [.endloop] { runA .none with lc := [1], ret := [0] } R0, 255, { runA .none with lc := [1], ret := [0] }, 0, [], 0, [], by decide⟩,
   ⟨playing 255 [.endloop] { runA .none with lc := [0], ret := [0] } R0, 255, { runA .none with lc := [0], ret := [0] }, [], 0, [], by decide⟩,
   ⟨playing 255 [.seqEnd] (runA .none) R0, 255, runA .none, by decide⟩,
   ⟨playing 255 [.signal] (runA .none) R0, 255, runA .none, by decide⟩,
   ⟨R0, 255, (fun r => no_run r _)⟩,
   ⟨R0, 255, (⟨true, true, true, 2047, 63, 255⟩), (fun r => no_run r _)⟩,
   ⟨R0, 255, (⟨2047, 63, 255⟩), (fun r => no_run r _)⟩,
   ⟨R0, 255, 4095, (fun r => no_run r _)⟩,
   ⟨R0, 255, (fun r => no_run r _)⟩,
   ⟨R0, 255, (⟨true, 2047, 5⟩), (fun r => no_run r _)⟩,
   ⟨R0, 255, 7, (fun r => no_run r _)⟩,
   ⟨R0, 255, 255, 7, (fun r => no_run r _)⟩,
   ⟨R0, 255, (⟨true, true, true, true, 1023, 63, 255, 15, 1023⟩), (fun r => no_run r _)⟩,
   ⟨R0, 255, (fun r => no_run r _)⟩,
   ⟨R0, 255, (fun r => no_run r _)⟩,
   ⟨R0, 255, (fun r => no_run r _)⟩⟩

theorem witness_PitchWaits :
    (∃ (s : State) (p : ℕ) (r : SeqRun) (f : WaitBandF), Lit s ∧ (∀ u ∈ (port s p).errs, u.word ≠ r.pc + 1) ∧
      Issues s p (PitchOp.waitBand f) r) ∧
    (∃ (s : State) (p : ℕ) (r : SeqRun) (x : BitVec 32), Lit s ∧ (∀ u ∈ (port s p).errs, u.word ≠ r.pc + 1) ∧
      Issues s p (PitchOp.waitTime x) r) ∧
    (∃ (s : State) (p : ℕ) (r : SeqRun) (l : BitVec 9) (x : BitVec 32), Lit s ∧ (∀ u ∈ (port s p).errs, u.word ≠ r.pc + 1) ∧
      Issues s p (PitchOp.waitEvent l x) r) ∧
    (∃ (s : State) (p : ℕ) (r : SeqRun), Lit s ∧ (∀ u ∈ (port s p).errs, u.word ≠ r.pc + 1) ∧ Issues s p PitchOp.close r) ∧
    (∃ (s : State) (p : ℕ) (r : SeqRun) (b o : ℕ), Lit s ∧ (∀ u ∈ (port s p).errs, u.word ≠ r.pc + 1) ∧ runOf s p = some r ∧
      r.wait = SeqWait.band b o ∧ (bandReady s (runCtx s r) b = true ∧
      reached s ((runCtx s r).egress b + 1000 * ↑o) = true)) ∧
    (∃ (s : State) (p : ℕ) (r : SeqRun) (b o : ℕ), Lit s ∧ (∀ u ∈ (port s p).errs, u.word ≠ r.pc + 1) ∧ runOf s p = some r ∧
      r.wait = SeqWait.band b o ∧
      (bandReady s (runCtx s r) b = false ∨ reached s ((runCtx s r).egress b + 1000 * ↑o) = false)) ∧
    (∃ (s : State) (p : ℕ) (r : SeqRun) (x : ℕ), Lit s ∧ (∀ u ∈ (port s p).errs, u.word ≠ r.pc + 1) ∧ runOf s p = some r ∧
      r.wait = SeqWait.time x ∧ reached s ((slotStart s r.k r.n + ↑x) * 1000) = true) ∧
    (∃ (s : State) (p : ℕ) (r : SeqRun) (x : ℕ), Lit s ∧ (∀ u ∈ (port s p).errs, u.word ≠ r.pc + 1) ∧ runOf s p = some r ∧
      r.wait = SeqWait.time x ∧ reached s ((slotStart s r.k r.n + ↑x) * 1000) = false) ∧
    (∃ (s : State) (p : ℕ) (r : SeqRun) (l x since : ℕ), Lit s ∧ (∀ u ∈ (port s p).errs, u.word ≠ r.pc + 1) ∧
      runOf s p = some r ∧ r.wait = SeqWait.event l x since true) ∧
    (∃ (s : State) (p : ℕ) (r : SeqRun) (l x since : ℕ), Lit s ∧ (∀ u ∈ (port s p).errs, u.word ≠ r.pc + 1) ∧
      runOf s p = some r ∧ r.wait = SeqWait.event l x since false ∧ since * 2 + x < s.time.uptime * 2) ∧
    (∃ (s : State) (p : ℕ) (r : SeqRun) (l x since : ℕ), Lit s ∧ (∀ u ∈ (port s p).errs, u.word ≠ r.pc + 1) ∧
      runOf s p = some r ∧ r.wait = SeqWait.event l x since false ∧ s.time.uptime * 2 ≤ since * 2 + x) ∧
    (∃ (s : State) (p : ℕ) (r : SeqRun), Lit s ∧ (∀ u ∈ (port s p).errs, u.word ≠ r.pc + 1) ∧ runOf s p = some r ∧
      r.wait = SeqWait.close ∧ reached s (runCtx s r).close = false) ∧
    (∃ (s : State) (p : ℕ) (r : SeqRun), Lit s ∧ (∀ u ∈ (port s p).errs, u.word ≠ r.pc + 1) ∧ runOf s p = some r ∧
      r.wait = SeqWait.close ∧ reached s (runCtx s r).close = true ∧
      (marksDiscarded s r.k r.n = true ∨ portOn s p = false)) ∧
    (∃ (s : State) (p : ℕ) (r : SeqRun), Lit s ∧ (∀ u ∈ (port s p).errs, u.word ≠ r.pc + 1) ∧ runOf s p = some r ∧
      r.wait = SeqWait.close ∧ reached s (runCtx s r).close = true ∧ marksDiscarded s r.k r.n = false ∧ portOn s p = true) :=
  ⟨⟨playing 255 [.waitBand ⟨true, 2047, 5⟩] (runA .none) R0, 255, runA .none, ⟨true, 2047, 5⟩, by decide⟩,
   ⟨playing 255 [.waitTime 7] (runA .none) R0, 255, runA .none, 7, by decide⟩,
   ⟨playing 255 [.waitEvent 255 7] (runA .none) R0, 255, runA .none, 255, 7, by decide⟩,
   ⟨playing 255 [.close] (runA .none) R0, 255, runA .none, by decide⟩,
   ⟨playing 255 [] (runA (.band 0 0)) (inBand ctxA { bandA 0 with final := true } R0), 255, runA (.band 0 0), 0, 0, by decide⟩,
   ⟨playing 255 [] (runA (.band 0 0)) (inBand ctxA (bandA 0) R0), 255, runA (.band 0 0), 0, 0, by decide⟩,
   ⟨playing 255 [] (runA (.time 0)) R0, 255, runA (.time 0), 0, by decide⟩,
   ⟨playing 255 [] (runA (.time 1)) R0, 255, runA (.time 1), 1, by decide⟩,
   ⟨playing 255 [] (runA (.event 3 9 0 true)) R0, 255, runA (.event 3 9 0 true), 3, 9, 0, by decide⟩,
   ⟨playing 255 [] (runA (.event 3 1 0 false)) (later 2 R0), 255, runA (.event 3 1 0 false), 3, 1, 0, by decide⟩,
   ⟨playing 255 [] (runA (.event 3 2 0 false)) (later 2 R0), 255, runA (.event 3 2 0 false), 3, 2, 0, by decide⟩,
   ⟨playing 255 [] (runA .close) (inSlot ctxA R0), 255, runA .close, by decide⟩,
   ⟨later 2 (playing 255 [] (runA .close) (inSlot ctxA (twin 1 R0))), 255, runA .close, by decide⟩,
   ⟨later 2 (playing 255 [] (runA .close) (inSlot ctxA (wrs [(Reg.TP.PORT_CTRL 255, 1), (Reg.TLG.TLG_CTRL, 1)] R0))), 255, runA .close, by decide⟩⟩

theorem witness_PitchSendsFrames :
    (∃ (s : State) (p : ℕ) (r : SeqRun) (f : SendF), Lit s ∧ Issues s p (PitchOp.send f) r) ∧
    (∃ (s : State) (p : ℕ) (r : SeqRun) (f : PixSend), Lit s ∧ p < 256 ∧ runOf s p = some r ∧ (port s p).send = some f ∧
      (∀ u ∈ (port s p).errs, u.word ≠ r.pc + 1) ∧
      (tileClk s < max f.start (port s p).txFree ∨ (port s p).tx.isSome = true ∨ ∃ h l, (port s p).tq = h :: l ∧
      h.clk < max f.start (port s p).txFree)) ∧
    (∃ (s : State) (p : ℕ) (r : SeqRun) (f : PixSend), Lit s ∧ p < 256 ∧ runOf s p = some r ∧ (port s p).send = some f ∧
      (∀ u ∈ (port s p).errs, u.word ≠ r.pc + 1) ∧ max f.start (port s p).txFree ≤ tileClk s ∧ (port s p).tx = none ∧
      (∀ (h : TFrame) (l : List TFrame), (port s p).tq = h :: l → max f.start (port s p).txFree ≤ h.clk) ∧
      inGuy s p r = true) ∧
    (∃ (s : State) (p : ℕ) (r : SeqRun) (f : PixSend), Lit s ∧ p < 256 ∧ runOf s p = some r ∧ (port s p).send = some f ∧
      (∀ u ∈ (port s p).errs, u.word ≠ r.pc + 1) ∧ max f.start (port s p).txFree ≤ tileClk s ∧ (port s p).tx = none ∧
      (∀ (h : TFrame) (l : List TFrame), (port s p).tq = h :: l → max f.start (port s p).txFree ≤ h.clk) ∧
      inGuy s p r = false ∧ portOn s p = false) ∧
    (∃ (s : State) (p : ℕ) (r : SeqRun) (f : PixSend), Lit s ∧ p < 256 ∧ runOf s p = some r ∧ (port s p).send = some f ∧
      (∀ u ∈ (port s p).errs, u.word ≠ r.pc + 1) ∧ max f.start (port s p).txFree ≤ tileClk s ∧ (port s p).tx = none ∧
      (∀ (h : TFrame) (l : List TFrame), (port s p).tq = h :: l → max f.start (port s p).txFree ≤ h.clk) ∧
      inGuy s p r = false ∧ portOn s p = true) :=
  ⟨⟨playing 255 [.send ⟨true, true, true, true, 1023, 63, 255, 15, 1023⟩] (runA .none) R0, 255, runA .none, ⟨true, true, true, true, 1023, 63, 255, 15, 1023⟩, by decide⟩,
   ⟨(inSlot ctxSlow (setPort R0 255 { TilePort.reset with run := some (runA .frame), send := some ⟨0, false, 0, 0, 1, 0, 0, 1, 0, false⟩ })), 255, (runA .frame), (⟨0, false, 0, 0, 1, 0, 0, 1, 0, false⟩), by decide, by decide, by decide, by decide, by decide, (.inl (by decide))⟩,
   ⟨(inSlot ctxA (setPort R0 255 { TilePort.reset with run := some (runA .frame), send := some ⟨0, false, 0, 0, 1, 0, 0, 0, 0, false⟩ })), 255, (runA .frame), (⟨0, false, 0, 0, 1, 0, 0, 0, 0, false⟩), by decide, by decide, by decide, by decide, by decide, by decide, by decide, (by intro h l e; change ([] : List TFrame) = h :: l at e; cases e), by decide⟩,
   ⟨(inSlot ctxSlow (setPort (wr R0 (Reg.TP.GUY 255) 0) 255 { TilePort.reset with run := some (runA .frame), send := some ⟨0, false, 0, 0, 1, 0, 0, 0, 0, false⟩ })), 255, (runA .frame), (⟨0, false, 0, 0, 1, 0, 0, 0, 0, false⟩), by decide, by decide, by decide, by decide, by decide, by decide, by decide, (by intro h l e; change ([] : List TFrame) = h :: l at e; cases e), by decide, by decide⟩,
   ⟨(inSlot ctxSlow (setPort (wrs [(Reg.TP.GUY 255, 0), (Reg.TP.PORT_CTRL 255, 1), (Reg.TLG.TLG_CTRL, 1)] R0) 255 { TilePort.reset with run := some (runA .frame), send := some ⟨0, false, 0, 0, 1, 0, 0, 0, 0, false⟩ })), 255, (runA .frame), (⟨0, false, 0, 0, 1, 0, 0, 0, 0, false⟩), by decide, by decide, by decide, by decide, by decide, by decide, by decide, (by intro h l e; change ([] : List TFrame) = h :: l at e; cases e), by decide, by decide⟩⟩

theorem witness_SequencerRestarts :
    (∃ (s : State) (p k n : ℕ), Lit s ∧ p < 256 ∧ s.grid.next = some (k, n) ∧ rdB s Reg.TIM.TIM_STATUS 1 = true ∧
      (port s p).swap = none ∧ safeCause s (Page.TP p) = false ∧ reached s (slotStart s k n * 1000 - 1000000) = true ∧
      (port s p).last ≠ some (k, n) ∧ (rdB s (Reg.TP.SEQ_CTRL p) 0 = false ∨ activeTable s p = none)) ∧
    (∃ (s : State) (p k n : ℕ), Lit s ∧ p < 256 ∧ s.grid.next = some (k, n) ∧ rdB s Reg.TIM.TIM_STATUS 1 = true ∧
      (port s p).swap = none ∧ safeCause s (Page.TP p) = false ∧ reached s (slotStart s k n * 1000 - 1000000) = true ∧
      (port s p).last ≠ some (k, n) ∧ (runOf s p).isSome = true) ∧
    (∃ (s : State) (p k n : ℕ), Lit s ∧ p < 256 ∧ s.grid.next = some (k, n) ∧ rdB s Reg.TIM.TIM_STATUS 1 = true ∧
      (port s p).swap = none ∧ safeCause s (Page.TP p) = false ∧ reached s (slotStart s k n * 1000 - 1000000) = true ∧
      (port s p).last ≠ some (k, n) ∧ runOf s p = none) ∧
    (∃ (s : State) (p k n : ℕ), Awake s ∧
      (s.grid.next ≠ some (k, n) ∨ rdB s Reg.TIM.TIM_STATUS 1 = false ∨ reached s (slotStart s k n * 1000 - 1000000) = false ∨ (port s p).last = some (k, n))) ∧
    (∃ (s : State) (a : Agent) (p : ℕ) (v : Word), Awake s ∧ Accepts s a (Reg.TP.SEQ_CTRL p) LockKind.cfg ∧ bit v 0 = true) ∧
    (∃ (s : State) (a : Agent) (p : ℕ) (v : Word), Awake s ∧ Accepts s a (Reg.TP.SEQ_CTRL p) LockKind.cfg ∧ bit v 0 = false ∧
      safe s (Page.TP p) = false) :=
  ⟨⟨nextRun R0, 255, 0, 0, by decide⟩,
   ⟨nextRun (playing 255 [] (runA .close) R0), 255, 0, 0, by decide⟩,
   ⟨nextRun R0, 255, 0, 0, by decide⟩,
   ⟨R0, 255, 0, 0, by decide⟩,
   ⟨R0, .tc, 255, 1, by decide⟩,
   ⟨R0, .tc, 255, 0, by decide⟩⟩

theorem witness_LoadChecksAndSwaps :
    (∃ (s : State) (a : Agent) (p : ℕ) (v : Word), Awake s ∧ Accepts s a (Reg.TP.CHECK p) LockKind.cmd ∧ bit v 0 = true ∧
      (port s p).checking = none) ∧
    (∃ (s : State) (p e hi : ℕ) (ps : List (List ℕ)), Lit s ∧ (port s p).checking = some (e, ps) ∧
      checkVerdict s p e ps = (none, hi)) ∧
    (∃ (s : State) (p e hi : ℕ) (ps : List (List ℕ)) (f : CheckFail), Lit s ∧ (port s p).checking = some (e, ps) ∧ f.cause < 16 ∧
      checkVerdict s p e ps = (some f, hi)) ∧
    (∃ (s : State) (a : Agent) (p : ℕ) (v : Word) (e len k n : ℕ), Awake s ∧ Accepts s a (Reg.TP.SWAP p) LockKind.cmd ∧
      bit v 0 = true ∧ bit v 5 = false ∧ swapAllowed s p = some (e, len) ∧ (bit v 1 = true → fld v 4 2 < nph s) ∧ p < 256 ∧
      (port s p).last = some (k, n) ∧ (port s p).lastAt = tileClk s ∧ (bit v 1 = true → fld v 4 2 = n)) ∧
    (∃ (s : State) (a : Agent) (p : ℕ) (v : Word) (e len : ℕ), Awake s ∧ Accepts s a (Reg.TP.SWAP p) LockKind.cmd ∧
      bit v 0 = true ∧ bit v 5 = false ∧ swapAllowed s p = some (e, len) ∧ (bit v 1 = true → fld v 4 2 < nph s) ∧
      ((port s p).last = none ∨ (port s p).lastAt ≠ tileClk s)) ∧
    (∃ (s : State) (a : Agent) (p : ℕ) (v : Word), Awake s ∧ Accepts s a (Reg.TP.SWAP p) LockKind.cmd ∧ bit v 0 = true ∧
      bit v 5 = false ∧ (swapAllowed s p = none ∨ bit v 1 = true ∧ nph s ≤ fld v 4 2)) ∧
    (∃ (s : State) (a : Agent) (p : ℕ) (v : Word), Awake s ∧ Accepts s a (Reg.TP.SWAP p) LockKind.cmd ∧ bit v 0 = false ∧
      bit v 5 = true ∧ (port s p).swap.isSome = true) :=
  ⟨⟨R0, .tc, 255, 1, by decide⟩,
   ⟨checking [[1000000, 2, 1, 16000000, 24, 0, 0]], 0, 0, 1, [[1000000, 2, 1, 16000000, 24, 0, 0]], by decide⟩,
   ⟨checking [], 0, 0, 0, [], ⟨13, 0, 0, 0⟩, by decide⟩,
   ⟨setPort checkedPort 0 { port checkedPort 0 with last := some (0, 0) }, .tc, 0, 3, 0, 2, 0, 0, by decide⟩,
   ⟨checkedPort, .tc, 0, 3, 0, 2, by decide⟩,
   ⟨R0, .tc, 0, 1, by decide⟩,
   ⟨setPort R0 0 { TilePort.reset with swap := some (0, 2, none) }, .tc, 0, 0x20, by decide⟩⟩

theorem witness_ReturnPathAndLanterns :
    (∃ (s : State) (p : ℕ), Awake s ∧ p < 256) ∧
    (∃ (s : State) (p : ℕ), Awake s ∧ p < 256 ∧ portLink s p = false) ∧
    (∃ (s : State) (p : ℕ) (f : TileFrame), Awake s ∧ p < 256 ∧ portLink s p = true ∧ f.fcsError = true) ∧
    (∃ (s : State) (p : ℕ) (f : TileFrame), Awake s ∧ p < 256 ∧ portLink s p = true ∧ f.fcsError = false ∧
      rdB s Reg.TLG.TLG_CTRL 0 = false) ∧
    (∃ (s : State) (p : ℕ) (f : TileFrame), Awake s ∧ p < 256 ∧ portLink s p = true ∧ f.fcsError = false ∧
      rdB s Reg.TLG.TLG_CTRL 0 = true ∧ beAt f.bytes 12 2 ≠ rdF s Reg.TLG.ETHERTYPE 15 0) ∧
    (∃ (s : State) (p : ℕ) (f : TileFrame), Awake s ∧ p < 256 ∧ portLink s p = true ∧ f.fcsError = false ∧
      rdB s Reg.TLG.TLG_CTRL 0 = true ∧ beAt f.bytes 12 2 = rdF s Reg.TLG.ETHERTYPE 15 0 ∧
      BitVec.toNat (byteAt f.bytes 14) / 16 ≠ 1) ∧
    (∃ (s : State) (p : ℕ) (f : TileFrame), Awake s ∧ p < 256 ∧ portLink s p = true ∧ f.fcsError = false ∧
      rdB s Reg.TLG.TLG_CTRL 0 = true ∧ beAt f.bytes 12 2 = rdF s Reg.TLG.ETHERTYPE 15 0 ∧
      BitVec.toNat (byteAt f.bytes 14) / 16 = 1 ∧ BitVec.toNat (byteAt f.bytes 16) ≠ portChain s p) ∧
    (∃ (s : State) (p : ℕ) (f : TileFrame), Awake s ∧ p < 256 ∧ portLink s p = true ∧ f.fcsError = false ∧
      rdB s Reg.TLG.TLG_CTRL 0 = true ∧ beAt f.bytes 12 2 = rdF s Reg.TLG.ETHERTYPE 15 0 ∧
      BitVec.toNat (byteAt f.bytes 14) / 16 = 1 ∧ BitVec.toNat (byteAt f.bytes 16) = portChain s p ∧
      BitVec.toNat (byteAt f.bytes 14) % 16 = 4 ∧ BitVec.toNat (byteAt f.bytes 15) % 2 ≠ portEnd s p) ∧
    (∃ (s : State) (p : ℕ) (f : TileFrame), Awake s ∧ p < 256 ∧ portLink s p = true ∧ f.fcsError = false ∧
      rdB s Reg.TLG.TLG_CTRL 0 = true ∧ beAt f.bytes 12 2 = rdF s Reg.TLG.ETHERTYPE 15 0 ∧
      BitVec.toNat (byteAt f.bytes 14) / 16 = 1 ∧ BitVec.toNat (byteAt f.bytes 16) = portChain s p ∧
      BitVec.toNat (byteAt f.bytes 14) % 16 = 4 ∧ BitVec.toNat (byteAt f.bytes 15) % 2 = portEnd s p) ∧
    (∃ (s : State) (p : ℕ), Lit s ∧ p < 256 ∧ farOk s p = true) ∧
    (∃ (s : State) (p : ℕ), Lit s ∧ p < 256 ∧ farOk s p = false) ∧
    (∃ (s : State) (k n : ℕ), Lit s ∧
      (s.grid.lant = some (k, n) ∨ s.grid.cur ≠ some (k, n) ∨ reached s (ctxOf s k n).close = false)) ∧
    (∃ (s : State) (k n : ℕ), Lit s ∧ s.grid.cur = some (k, n) ∧ s.grid.lant ≠ some (k, n) ∧
      reached s (ctxOf s k n).close = true ∧ rdB s Reg.TLG.TLG_CTRL 0 = true ∧ rdB s Reg.TLG.TLG_CTRL 1 = true) ∧
    (∃ (s : State), Lit s ∧ rdB s Reg.TLG.TLG_CTRL 2 = true ∧ 0 < rdF s Reg.TLG.TIME_PER 15 0 ∧
      nowNs s < nextMultiple s.time.tlg (rdF s Reg.TLG.TIME_PER 15 0)) ∧
    (∃ (s : State), Lit s ∧ rdB s Reg.TLG.TLG_CTRL 2 = true ∧ 0 < rdF s Reg.TLG.TIME_PER 15 0 ∧
      nextMultiple s.time.tlg (rdF s Reg.TLG.TIME_PER 15 0) ≤ nowNs s) :=
  ⟨⟨R0, 255, by decide⟩,
   ⟨R0, 255, by decide⟩,
   ⟨tileUp 1, 255, ⟨[], true⟩, by decide⟩,
   ⟨tileUp 0, 255, ⟨[], false⟩, by decide⟩,
   ⟨wr (tileUp 1) Reg.TLG.ETHERTYPE 5, 255, ⟨[], false⟩, by decide⟩,
   ⟨tileUp 1, 255, ⟨[], false⟩, by decide⟩,
   ⟨tileUp 1, 255, wallFrame 0x10 0 1, by decide⟩,
   ⟨tileUp 1, 255, wallFrame 0x14 1 0, by decide⟩,
   ⟨tileUp 1, 255, wallFrame 0x14 0 0, by decide⟩,
   ⟨setPort R0 255 { TilePort.reset with farAt := some 0 }, 255, by decide⟩,
   ⟨R0, 255, by decide⟩,
   ⟨R0, 0, 0, by decide⟩,
   ⟨later 2 (inSlot ctxA { wr R0 Reg.TLG.TLG_CTRL 3 with grid.cur := some (0, 0) }), 0, 0, by decide⟩,
   ⟨wrs [(Reg.TLG.TLG_CTRL, 4), (Reg.TLG.TIME_PER, 1000)] R0, by decide⟩,
   ⟨later 1000000000 (wrs [(Reg.TLG.TLG_CTRL, 4), (Reg.TLG.TIME_PER, 1000)] R0), by decide⟩⟩

theorem witness_EgressOrder :
    (∃ (s : State) (p : ℕ), Lit s ∧ p < 256 ∧ (portOn s p = false ∨ (port s p).tx.isSome = true)) ∧
    (∃ (s : State) (p : ℕ), Lit s ∧ p < 256 ∧ portOn s p = true ∧ (port s p).tx = none ∧ pixelFirst s p = true) ∧
    (∃ (s : State) (p : ℕ) (f : TFrame) (rest : List TFrame), Lit s ∧ p < 256 ∧ portOn s p = true ∧ (port s p).tx = none ∧
      pixelFirst s p = false ∧ (port s p).tq = f :: rest) ∧
    (∃ (s : State) (p se : ℕ) (x : CSession) (r : CReq) (rest : List (ℕ × CSession × CReq)), Lit s ∧ p < 256 ∧
      portOn s p = true ∧ (port s p).tx = none ∧ (port s p).tq = [] ∧ pixelFirst s p = false ∧ se < 64 ∧
      shaperOpen s p = true ∧ backlogged (port s p) = (se, x, r) :: rest ∧
      gateFit s p (ethBytes r.frame.length) (gateWindow s p 0) = GateSays.fits) ∧
    (∃ (s : State) (p : ℕ) (f : MFrame), Lit s ∧ p < 256 ∧ portOn s p = true ∧ (port s p).tx = none ∧ (port s p).tq = [] ∧
      pixelFirst s p = false ∧ backlogged (port s p) = [] ∧ creditOpen s p = true ∧ (port s p).lantern = some f ∧
      gateFit s p (ethBytes f.bytes.length) (gateWindow s p 1) = GateSays.fits) ∧
    (∃ (s : State) (p : ℕ) (x : TxFrame), Lit s ∧ (port s p).tx = some x ∧ tileClk s < x.stop) ∧
    (∃ (s : State) (p : ℕ) (x : TxFrame), Lit s ∧ (port s p).tx = some x ∧ x.stop ≤ tileClk s ∧ x.mq = none) :=
  ⟨⟨R0, 255, by decide⟩,
   ⟨tileOn { TilePort.reset with send := some ⟨0, false, 0, 0, 1, 0, 0, 0, 0, false⟩ }, 255, by decide⟩,
   ⟨tileOn { TilePort.reset with tq := [tframeA] }, 255, tframeA, [], by decide⟩,
   ⟨tileOn { TilePort.reset with sess := [(63, sessA)] }, 255, 63, sessA, creqA 0 none none, [], by decide⟩,
   ⟨tileOn { TilePort.reset with lantern := some mframeA }, 255, mframeA, by decide⟩,
   ⟨tileOn { TilePort.reset with tx := some (onWire 1) }, 255, onWire 1, by decide⟩,
   ⟨tileOn { TilePort.reset with tx := some (onWire 0) }, 255, onWire 0, by decide⟩⟩

theorem witness_SessionsAndQueues :
    (∃ (s : State) (a : Agent) (p se : ℕ) (v : Word), Awake s ∧ p < 256 ∧ se < 64 ∧
      Accepts s a (Reg.TP.SESS_IDX p se) LockKind.cfg ∧ rdB s (Reg.TP.SESS_CFG p se) 8 = true ∧ (session s p se).req = none ∧
      (session s p se).opened = false ∧ fld v 15 0 ≠ rdF s (Reg.TP.SESS_IDX p se) 31 16) ∧
    (∃ (s : State) (a : Agent) (p se : ℕ), Awake s ∧ p < 256 ∧ se < 64 ∧ Accepts s a (Reg.TP.SESS_IDX p se) LockKind.cfg ∧
      (rdB s (Reg.TP.SESS_CFG p se) 8 = false ∨ (session s p se).opened = true)) ∧
    (∃ (s : State) (p se : ℕ) (err : Bool), Lit s ∧ p < 256 ∧ se < 64 ∧ sessReady s p se = true ∧
      (session s p se).opened = true ∧ err = true ∧ hostBase ≤ sessDesc s p se (rdF s (Reg.TP.SESS_IDX p se) 31 16)) ∧
    (∃ (s : State) (p se : ℕ) (err : Bool), Lit s ∧ p < 256 ∧ se < 64 ∧ sessReady s p se = true ∧
      (session s p se).opened = true ∧ err = false) ∧
    (∃ (s : State) (p se : ℕ), Lit s ∧ p < 256 ∧ se < 64 ∧ (sessReady s p se = false ∨ (session s p se).opened = false)) ∧
    (∃ (s : State) (p se : ℕ) (r : CReq) (at_ : ℕ), Lit s ∧ (session s p se).req = some r ∧ r.sent = some at_ ∧ r.acked = none ∧
      r.fail = false ∧ (session s p se).ready = none ∧ overUs s at_ (rdF s Reg.TLG.SESSION 15 0) = false) ∧
    (∃ (s : State) (p se : ℕ) (r : CReq) (at_ : ℕ), Lit s ∧ (session s p se).req = some r ∧ r.sent = some at_ ∧ r.acked = none ∧
      r.fail = false ∧ (session s p se).ready = none ∧ overUs s at_ (rdF s Reg.TLG.SESSION 15 0) = true ∧
      r.tries ≤ rdF s Reg.TLG.SESSION 19 16 ∧ portOn s p = true) ∧
    (∃ (s : State) (p se : ℕ) (r : CReq) (at_ : ℕ), Lit s ∧ (session s p se).req = some r ∧ r.sent = some at_ ∧ r.acked = none ∧
      r.fail = false ∧ (session s p se).ready = none ∧ overUs s at_ (rdF s Reg.TLG.SESSION 15 0) = true ∧
      r.tries ≤ rdF s Reg.TLG.SESSION 19 16 ∧ portOn s p = false) ∧
    (∃ (s : State) (p se : ℕ) (r : CReq) (at_ : ℕ), Lit s ∧ (session s p se).req = some r ∧ r.sent = some at_ ∧ r.acked = none ∧
      r.fail = false ∧ (session s p se).ready = none ∧ overUs s at_ (rdF s Reg.TLG.SESSION 15 0) = true ∧
      rdF s Reg.TLG.SESSION 19 16 < r.tries ∧ p < 256 ∧ se < 64) ∧
    (∃ (s : State) (p se : ℕ) (r : CReq), Lit s ∧ (session s p se).req = some r ∧ r.nop = false ∧
      (r.acked.isSome = true ∨ r.fail = true)) ∧
    (∃ (s : State) (p se : ℕ) (r : CReq), Lit s ∧ (session s p se).req = some r ∧ r.nop = false ∧ r.acked = none ∧
      r.fail = false) ∧
    (∃ (s : State) (a : Agent) (p : ℕ), Awake s ∧ Accepts s a (Reg.TP.MQ_IDX p) LockKind.cfg) ∧
    (∃ (s : State) (p : ℕ), Lit s ∧ p < 256 ∧
      (rdB s (Reg.TP.MQ_CFG p) 0 = false ∨ (port s p).mq.isSome = true ∨ (port s p).mqBusy = true ∨ rdF s (Reg.TP.MQ_IDX p) 15 0 = rdF s (Reg.TP.MQ_IDX p) 31 16)) ∧
    (∃ (s : State) (p : ℕ) (err : Bool), Lit s ∧ p < 256 ∧ rdB s (Reg.TP.MQ_CFG p) 0 = true ∧ (port s p).mq = none ∧
      (port s p).mqBusy = false ∧ rdF s (Reg.TP.MQ_IDX p) 15 0 ≠ rdF s (Reg.TP.MQ_IDX p) 31 16 ∧ err = true ∧
      hostBase ≤ mqDesc s p (rdF s (Reg.TP.MQ_IDX p) 31 16)) ∧
    (∃ (s : State) (p : ℕ) (err : Bool) (hd : List Byte) (len type : ℕ), Lit s ∧ p < 256 ∧ rdB s (Reg.TP.MQ_CFG p) 0 = true ∧
      (port s p).mq = none ∧ (port s p).mqBusy = false ∧ rdF s (Reg.TP.MQ_IDX p) 15 0 ≠ rdF s (Reg.TP.MQ_IDX p) 31 16 ∧
      len = nfld (leAt (devRead s (mqDesc s p (rdF s (Reg.TP.MQ_IDX p) 31 16)) 16 hd) 8 4) 13 0 ∧
      type = BitVec.toNat (byteAt (devRead s (leAt (devRead s (mqDesc s p (rdF s (Reg.TP.MQ_IDX p) 31 16)) 16 hd) 0 8) len (if mqDesc s p (rdF s (Reg.TP.MQ_IDX p) 31 16) < memBytes then hd else List.drop 16 hd)) 0) % 16 ∧
      s.poison = [] ∧ err = false ∧ (len < 16 ∨ 9198 < len ∨ type ≠ 7)) ∧
    (∃ (s : State) (p : ℕ) (err : Bool) (hd : List Byte) (len type : ℕ), Lit s ∧ p < 256 ∧ rdB s (Reg.TP.MQ_CFG p) 0 = true ∧
      (port s p).mq = none ∧ (port s p).mqBusy = false ∧ rdF s (Reg.TP.MQ_IDX p) 15 0 ≠ rdF s (Reg.TP.MQ_IDX p) 31 16 ∧
      len = nfld (leAt (devRead s (mqDesc s p (rdF s (Reg.TP.MQ_IDX p) 31 16)) 16 hd) 8 4) 13 0 ∧
      type = BitVec.toNat (byteAt (devRead s (leAt (devRead s (mqDesc s p (rdF s (Reg.TP.MQ_IDX p) 31 16)) 16 hd) 0 8) len (if mqDesc s p (rdF s (Reg.TP.MQ_IDX p) 31 16) < memBytes then hd else List.drop 16 hd)) 0) % 16 ∧
      s.poison = [] ∧ err = false ∧ 16 ≤ len ∧ len ≤ 9198 ∧ type = 7 ∧ portOn s p = false) ∧
    (∃ (s : State) (p : ℕ) (err : Bool) (hd : List Byte) (len type : ℕ), Lit s ∧ p < 256 ∧ rdB s (Reg.TP.MQ_CFG p) 0 = true ∧
      (port s p).mq = none ∧ (port s p).mqBusy = false ∧ rdF s (Reg.TP.MQ_IDX p) 15 0 ≠ rdF s (Reg.TP.MQ_IDX p) 31 16 ∧
      len = nfld (leAt (devRead s (mqDesc s p (rdF s (Reg.TP.MQ_IDX p) 31 16)) 16 hd) 8 4) 13 0 ∧
      type = BitVec.toNat (byteAt (devRead s (leAt (devRead s (mqDesc s p (rdF s (Reg.TP.MQ_IDX p) 31 16)) 16 hd) 0 8) len (if mqDesc s p (rdF s (Reg.TP.MQ_IDX p) 31 16) < memBytes then hd else List.drop 16 hd)) 0) % 16 ∧
      s.poison = [] ∧ err = false ∧ 16 ≤ len ∧ len ≤ 9198 ∧ type = 7 ∧ portOn s p = true) ∧
    (∃ (s : State) (p : ℕ), Lit s ∧ p < 256 ∧ (port s p).sampled < multipleOf s (rdF s (Reg.TP.SAMPLE_CTRL p) 9 0)) ∧
    (∃ (s : State) (p : ℕ), Lit s ∧ p < 256 ∧ multipleOf s (rdF s (Reg.TP.SAMPLE_CTRL p) 9 0) ≤ (port s p).sampled) ∧
    (∃ (s : State) (a : Agent) (p : ℕ) (v : Word), Awake s ∧ p < 256 ∧ Accepts s a (Reg.TP.SAMPLE_CLEAR p) LockKind.cmd ∧
      bit v 0 = true ∧ sampledNow s p = false) ∧
    (∃ (s : State) (a : Agent) (p : ℕ) (v : Word), Awake s ∧ p < 256 ∧ Accepts s a (Reg.TP.SAMPLE_CLEAR p) LockKind.cmd ∧
      bit v 0 = true ∧ sampledNow s p = true) ∧
    (∃ (s : State) (a : Agent) (p : ℕ) (v : Word), Awake s ∧ p < 256 ∧ Accepts s a (Reg.TP.SAMPLE_CLEAR p) LockKind.cmd ∧
      bit v 0 = false) :=
  ⟨⟨wr R0 (Reg.TP.SESS_CFG 255 63) 0x100, .tc, 255, 63, 1, by decide⟩,
   ⟨R0, .tc, 255, 63, by decide⟩,
   ⟨wrs [(Reg.TP.SESS_RING_LO 255 63, 0), (Reg.TP.SESS_RING_HI 255 63, 0x80000000)] (sessOn true), 255, 63, true, by decide⟩,
   ⟨sessOn true, 255, 63, false, by decide⟩,
   ⟨sessOn false, 255, 63, by decide⟩,
   ⟨withReq (creqA 0 (some 0) none), 255, 63, creqA 0 (some 0) none, 0, by decide⟩,
   ⟨later 1000000000 (withReqOn (creqA 3 (some 0) none)), 255, 63, creqA 3 (some 0) none, 0, by decide⟩,
   ⟨later 1000000000 (withReq (creqA 3 (some 0) none)), 255, 63, creqA 3 (some 0) none, 0, by decide⟩,
   ⟨later 1000000000 (withReq (creqA 4 (some 0) none)), 255, 63, creqA 4 (some 0) none, 0, by decide⟩,
   ⟨withReq (creqA 1 none (some (0, []))), 255, 63, creqA 1 none (some (0, [])), by decide⟩,
   ⟨withReq (creqA 1 none none), 255, 63, creqA 1 none none, by decide⟩,
   ⟨R0, .tc, 255, by decide⟩,
   ⟨R0, 255, by decide⟩,
   ⟨wrs [(Reg.TP.MQ_RING_LO 255, 0), (Reg.TP.MQ_RING_HI 255, 0x80000000)] (mqOn []), 255, true, by decide⟩,
   ⟨mqOn [(8, 15)], 255, false, [], 15, 0, by decide⟩,
   ⟨mqOn [(1, 1), (8, 16), (256, 7)], 255, false, [], 16, 7, by decide⟩,
   ⟨wrs [(Reg.TP.PORT_CTRL 255, 1), (Reg.TLG.TLG_CTRL, 1)] (mqOn [(1, 1), (8, 16), (256, 7)]), 255, false, [], 16, 7, by decide⟩,
   ⟨later 1000000000 R0, 255, by decide⟩,
   ⟨R0, 255, by decide⟩,
   ⟨R0, .tc, 255, 1, by decide⟩,
   ⟨later 100000 (setPort R0 255 { TilePort.reset with sampled := 100000 }), .tc, 255, 1, by decide⟩,
   ⟨R0, .tc, 255, 0, by decide⟩⟩

theorem witness_CounterCapturesAndSteps :
    (∃ (s : State) (a : Agent), Awake s ∧ Accepts s a Reg.TIM.INC_OFS LockKind.cmd ∧ incFrozen s = false) ∧
    (∃ (s : State) (a : Agent), Awake s ∧ Accepts s a Reg.TIM.INC_OFS LockKind.cmd ∧ incFrozen s = true) ∧
    (∃ (s : State) (a : Agent) (v : Word), Awake s ∧ Accepts s a Reg.TIM.CAP LockKind.cmd ∧ bit v 0 = true) ∧
    (∃ (s : State) (a : Agent) (v : Word), Awake s ∧ Accepts s a Reg.TIM.CAP_CTRL LockKind.cfg ∧ bit v 9 = true) ∧
    (∃ (s : State), Awake s ∧ s.time.capSeen = true ∧ rdB s Reg.TIM.CAP_CTRL 9 = true) ∧
    (∃ (s : State), Awake s ∧ s.time.capSeen = false) ∧
    (∃ (s : State), Awake s ∧ s.time.pps = true ∧ elapsedUs s s.time.ppsAt (rdF s Reg.TIM.PPS_CTRL 15 0) = true) ∧
    (∃ (s : State), Awake s ∧ elapsedUs s s.time.ppsAt (rdF s Reg.TIM.PPS_CTRL 15 0) = false) ∧
    (∃ (s : State) (a : Agent) (v : Word) (c : ℤ), Awake s ∧ Accepts s a Reg.TIM.STEP LockKind.cmd ∧ bit v 0 = true ∧
      (bit v 1 = false → c = (s.time.count : ℤ) + (toSigned 48 (stepSec s) * 1000000000 + toSigned 32 (rdN s Reg.TIM.STEP_NS)) * 2 ^ 32) ∧
      (bit v 1 = true → c = (((stepSec s * 1000000000 + rdN s Reg.TIM.STEP_NS) * 2 ^ 32 : ℕ) : ℤ)) ∧
      (rdB s Reg.TIM.TIM_STATUS 0 = false ∨ (c - (s.time.count : ℤ)).natAbs ≤ rdN s Reg.TIM.JUMP_MAX * 1000 * 2 ^ 32)) ∧
    (∃ (s : State) (a : Agent) (v : Word) (c : ℤ), Awake s ∧ Accepts s a Reg.TIM.STEP LockKind.cmd ∧ bit v 0 = true ∧
      (bit v 1 = false → c = (s.time.count : ℤ) + (toSigned 48 (stepSec s) * 1000000000 + toSigned 32 (rdN s Reg.TIM.STEP_NS)) * 2 ^ 32) ∧
      (bit v 1 = true → c = (((stepSec s * 1000000000 + rdN s Reg.TIM.STEP_NS) * 2 ^ 32 : ℕ) : ℤ)) ∧
      rdB s Reg.TIM.TIM_STATUS 0 = true ∧ rdN s Reg.TIM.JUMP_MAX * 1000 * 2 ^ 32 < (c - (s.time.count : ℤ)).natAbs) :=
  ⟨⟨R0, .tc, by decide⟩,
   ⟨timOff, .tc, by decide⟩,
   ⟨R0, .tc, 1, by decide⟩,
   ⟨R0, .tc, 0x200, by decide⟩,
   ⟨{ wrs [(Reg.TIM.CAP_CTRL, 0x200)] R0 with time.capSeen := true }, by decide⟩,
   ⟨R0, by decide⟩,
   ⟨later 1000000000 { wrs [(Reg.TIM.PPS_CTRL, 1)] R0 with time.pps := true }, by decide⟩,
   ⟨wrs [(Reg.TIM.PPS_CTRL, 1)] R0, by decide⟩,
   ⟨wrs [(Reg.TIM.TIM_STATUS, 1), (Reg.TIM.JUMP_MAX, 1), (Reg.TIM.STEP_NS, 1000)] R0, .tc, 1, 1000 * 2 ^ 32, by decide⟩,
   ⟨wrs [(Reg.TIM.TIM_STATUS, 1), (Reg.TIM.JUMP_MAX, 1), (Reg.TIM.STEP_NS, 1001)] R0, .tc, 1, 1001 * 2 ^ 32, by decide⟩⟩

theorem witness_ServicePortsAndHoldover :
    (∃ (s : State) (i : ℕ), Awake s ∧ i < 2) ∧
    (∃ (s : State) (i : ℕ), Awake s ∧ i < 2 ∧ svLink s i = false) ∧
    (∃ (s : State) (i : ℕ) (f : NetFrame), Awake s ∧ i < 2 ∧ svLink s i = true ∧ f.fcsError = true) ∧
    (∃ (s : State) (i : ℕ) (f : NetFrame), Awake s ∧ i < 2 ∧ svLink s i = true ∧ f.fcsError = false ∧
      safe s (Page.SV i) = false ∧ rdB s (Reg.SV.PORT_CTRL i) 1 = true ∧ isPtp f = true) ∧
    (∃ (s : State) (i : ℕ) (f : NetFrame), Awake s ∧ i < 2 ∧ svLink s i = true ∧ f.fcsError = false ∧
      safe s (Page.SV i) = false ∧ isPtp f = false ∧ isPlacement s f = false ∧ rdB s (Reg.SV.PORT_CTRL i) 3 = false) ∧
    (∃ (s : State) (via : Via), Awake s ∧ ptpPort s via = false) ∧
    (∃ (s : State) (via : Via) (m : Ptp), Awake s ∧ ptpPort s via = true ∧ ptpPasses s m = false) ∧
    (∃ (s : State) (via : Via) (m : Ptp), Awake s ∧ ptpPort s via = true ∧ ptpPasses s m = true ∧ syncAccepted s via m = true) ∧
    (∃ (s : State) (via : Via) (m : Ptp), Awake s ∧ ptpPort s via = true ∧ ptpPasses s m = true ∧ syncAccepted s via m = false) ∧
    (∃ (s : State), Awake s ∧ s.time.watch = none) ∧
    (∃ (s : State) (w : ℕ), Awake s ∧ s.time.watch = some w ∧ overUs s w (rdN s Reg.TIM.SYNC_TMO) = false) ∧
    (∃ (s : State) (w : ℕ), Awake s ∧ s.time.watch = some w ∧ overUs s w (rdN s Reg.TIM.SYNC_TMO) = true) ∧
    (∃ (s : State) (a : Agent) (v : Word), Awake s ∧ Accepts s a Reg.TIM.SYNC_STATE LockKind.open ∧
      locked s Page.TIM LockKind.cfg = true ∧ bit v 1 = true ∧ safe s Page.TIM = false) ∧
    (∃ (s : State) (a : Agent) (v : Word), Awake s ∧ Accepts s a Reg.TIM.SYNC_STATE LockKind.cfg ∧ bit v 1 = true ∧
      safe s Page.TIM = false ∧ rdB s Reg.TIM.SYNC_STATE 1 = true) ∧
    (∃ (s : State) (a : Agent) (v : Word), Awake s ∧ Accepts s a Reg.TIM.SYNC_STATE LockKind.cfg ∧ bit v 1 = true ∧
      safeCause s Page.TIM = true) ∧
    (∃ (s : State) (a : Agent) (v : Word), Awake s ∧ Accepts s a Reg.TIM.SYNC_STATE LockKind.cfg ∧ bit v 1 = false) :=
  ⟨⟨R0, 1, by decide⟩,
   ⟨R0, 1, by decide⟩,
   ⟨svOn 1, 1, { plainFrame with fcsError := true }, by decide⟩,
   ⟨svOn 3, 1, { plainFrame with etherType := 0x88F7 }, by decide⟩,
   ⟨svOn 1, 1, plainFrame, by decide⟩,
   ⟨R0, .sv 1, by decide⟩,
   ⟨svOn 3, .sv 1, { syncA with version := 1 }, by decide⟩,
   ⟨wrs [(Reg.TIM.TIM_CTRL, 4), (Reg.TIM.SRC, 0x7F11)] (svOn 3), .sv 1, syncA, by decide⟩,
   ⟨svOn 3, .sv 1, { syncA with messageType := 1 }, by decide⟩,
   ⟨R0, by decide⟩,
   ⟨later 500000000 watching, 0, by decide⟩,
   ⟨later 500000002 watching, 0, by decide⟩,
   ⟨wr R0 (Reg.HDR.PAGE_LOCK Page.TIM) 1, .tc, 2, by decide⟩,
   ⟨wr R0 Reg.TIM.SYNC_STATE 2, .tc, 2, by decide⟩,
   ⟨timOff, .tc, 2, by decide⟩,
   ⟨R0, .tc, 0, by decide⟩⟩

theorem witness_PhasesRun :
    (∃ (s : State) (a : Agent) (v : Word), Awake s ∧ Accepts s a Reg.TIM.TIM_CTRL LockKind.cfg ∧ bit v 0 = true ∧
      rdB s Reg.TIM.TIM_CTRL 0 = true) ∧
    (∃ (s : State) (a : Agent) (v : Word), Awake s ∧ Accepts s a Reg.TIM.TIM_CTRL LockKind.cfg ∧ bit v 0 = false) ∧
    (∃ (s : State) (k n : ℕ), Awake s ∧ (s.grid.next ≠ some (k, n) ∨ reached s (slotStart s k n * 1000) = false)) ∧
    (∃ (s : State) (k n : ℕ), Awake s ∧ s.grid.next = some (k, n) ∧ reached s (slotStart s k n * 1000) = true) ∧
    (∃ (s : State) (a : Agent) (v : Word), Awake s ∧ Accepts s a Reg.TIM.OFS_APPLY LockKind.cmd ∧ bit v 0 = true) ∧
    (∃ (s : State) (o : OfsPend), Awake s ∧ s.grid.pend = some o ∧ o.ofs.length = 8 ∧
      reached s (slotStart s o.frame 0 * 1000) = false) ∧
    (∃ (s : State) (o : OfsPend), Awake s ∧ s.grid.pend = some o ∧ o.ofs.length = 8 ∧
      reached s (slotStart s o.frame 0 * 1000) = true) :=
  ⟨⟨wr R0 Reg.TIM.TIM_CTRL 1, .tc, 1, by decide⟩,
   ⟨R0, .tc, 0, by decide⟩,
   ⟨R0, 0, 0, by decide⟩,
   ⟨nextSlot R0, 0, 0, by decide⟩,
   ⟨R0, .tc, 1, by decide⟩,
   ⟨{ R0 with grid.pend := some (offsetsFor 1) }, offsetsFor 1, by decide⟩,
   ⟨{ R0 with grid.pend := some (offsetsFor 0) }, offsetsFor 0, by decide⟩⟩

theorem witness_TwinRecords :
    (∃ (s : State) (l : ℕ) (r : List Byte) (c : Instr) (ty : ℕ), Awake s ∧
      (c, ty) ∈ [(Instr.healthRecord l r, 1), (Instr.timeRecord l r, 2), (Instr.commitRecord l r, 3), (Instr.cancelRecord l r, 4), (Instr.digestRecord l r, 5), (Instr.flipRecord l r, 6), (Instr.placeRecord l r, 7), (Instr.fenceRecord l r, 8)] ∧
      recType r = ty ∧ linkHears s l = false) ∧
    (∃ (s : State) (l : ℕ) (r : List Byte) (c : Instr) (ty rx : ℕ), Awake s ∧
      (c, ty) ∈ [(Instr.healthRecord l r, 1), (Instr.timeRecord l r, 2), (Instr.commitRecord l r, 3), (Instr.cancelRecord l r, 4), (Instr.digestRecord l r, 5), (Instr.flipRecord l r, 6), (Instr.placeRecord l r, 7), (Instr.fenceRecord l r, 8)] ∧
      recType r = ty ∧ linkHears s l = true ∧ (rx = if l = 0 then Reg.TWN.REC_RX0 else Reg.TWN.REC_RX1) ∧
      recFormed r = false) ∧
    (∃ (s : State) (l : ℕ) (r : List Byte) (c : Instr) (ty rx : ℕ), Awake s ∧
      (c, ty) ∈ [(Instr.healthRecord l r, 1), (Instr.timeRecord l r, 2), (Instr.commitRecord l r, 3), (Instr.cancelRecord l r, 4), (Instr.digestRecord l r, 5), (Instr.flipRecord l r, 6), (Instr.placeRecord l r, 7), (Instr.fenceRecord l r, 8)] ∧
      recType r = ty ∧ linkHears s l = true ∧ (rx = if l = 0 then Reg.TWN.REC_RX0 else Reg.TWN.REC_RX1) ∧
      recFormed r = true ∧ recOrigin r = twnRole s) ∧
    (∃ (s : State) (l : ℕ) (r : List Byte) (c : Instr) (ty rx : ℕ), Awake s ∧
      (c, ty) ∈ [(Instr.healthRecord l r, 1), (Instr.timeRecord l r, 2), (Instr.commitRecord l r, 3), (Instr.cancelRecord l r, 4), (Instr.digestRecord l r, 5), (Instr.flipRecord l r, 6), (Instr.placeRecord l r, 7), (Instr.fenceRecord l r, 8)] ∧
      recType r = ty ∧ linkHears s l = true ∧ (rx = if l = 0 then Reg.TWN.REC_RX0 else Reg.TWN.REC_RX1) ∧
      recFormed r = true ∧ recOrigin r ≠ twnRole s ∧ (seqWindow s (recOrigin r)).contains (recSeq r) = true) ∧
    (∃ (s : State) (l : ℕ) (r : List Byte) (c : Instr) (ty rx : ℕ), Awake s ∧
      (c, ty) ∈ [(Instr.healthRecord l r, 1), (Instr.timeRecord l r, 2), (Instr.commitRecord l r, 3), (Instr.cancelRecord l r, 4), (Instr.digestRecord l r, 5), (Instr.flipRecord l r, 6), (Instr.placeRecord l r, 7), (Instr.fenceRecord l r, 8)] ∧
      recType r = ty ∧ linkHears s l = true ∧ (rx = if l = 0 then Reg.TWN.REC_RX0 else Reg.TWN.REC_RX1) ∧
      recFormed r = true ∧ recOrigin r ≠ twnRole s ∧ (seqWindow s (recOrigin r)).contains (recSeq r) = false ∧
      (∀ (d : ℕ), recDeadline s r = some d → past s d = false) ∧ ty = 1) ∧
    (∃ (s : State) (l : ℕ) (r : List Byte) (c : Instr) (ty rx : ℕ), Awake s ∧
      (c, ty) ∈ [(Instr.healthRecord l r, 1), (Instr.timeRecord l r, 2), (Instr.commitRecord l r, 3), (Instr.cancelRecord l r, 4), (Instr.digestRecord l r, 5), (Instr.flipRecord l r, 6), (Instr.placeRecord l r, 7), (Instr.fenceRecord l r, 8)] ∧
      recType r = ty ∧ linkHears s l = true ∧ (rx = if l = 0 then Reg.TWN.REC_RX0 else Reg.TWN.REC_RX1) ∧
      recFormed r = true ∧ recOrigin r ≠ twnRole s ∧ (seqWindow s (recOrigin r)).contains (recSeq r) = false ∧
      (∀ (d : ℕ), recDeadline s r = some d → past s d = false) ∧ ty = 2) ∧
    (∃ (s : State) (l : ℕ) (r : List Byte) (c : Instr) (ty rx : ℕ), Awake s ∧
      (c, ty) ∈ [(Instr.healthRecord l r, 1), (Instr.timeRecord l r, 2), (Instr.commitRecord l r, 3), (Instr.cancelRecord l r, 4), (Instr.digestRecord l r, 5), (Instr.flipRecord l r, 6), (Instr.placeRecord l r, 7), (Instr.fenceRecord l r, 8)] ∧
      recType r = ty ∧ linkHears s l = true ∧ (rx = if l = 0 then Reg.TWN.REC_RX0 else Reg.TWN.REC_RX1) ∧
      recFormed r = true ∧ recOrigin r ≠ twnRole s ∧ (seqWindow s (recOrigin r)).contains (recSeq r) = false ∧
      (∀ (d : ℕ), recDeadline s r = some d → past s d = false) ∧ ty = 8 ∧ s.twn.ownF = []) :=
  ⟨⟨R0, 1, recordA 1 1 52, .healthRecord 1 (recordA 1 1 52), 1, by decide⟩,
   ⟨twinUp [], 0, [0x11], .healthRecord 0 [0x11], 1, Reg.TWN.REC_RX0, by decide⟩,
   ⟨twinUp [], 0, recordA 1 0 52, .healthRecord 0 (recordA 1 0 52), 1, Reg.TWN.REC_RX0, by decide⟩,
   ⟨twinUp [0], 0, recordA 1 1 52, .healthRecord 0 (recordA 1 1 52), 1, Reg.TWN.REC_RX0, by decide⟩,
   ⟨(twinUp []), 0, (recordA 1 1 52), (.healthRecord 0 (recordA 1 1 52)), 1, Reg.TWN.REC_RX0, by decide, by decide, by decide, by decide, by decide, by decide, by decide, by decide, (by intro d h; change none = some d at h; cases h), by decide⟩,
   ⟨(twinUp []), 0, (recordA 2 1 52), (.timeRecord 0 (recordA 2 1 52)), 2, Reg.TWN.REC_RX0, by decide, by decide, by decide, by decide, by decide, by decide, by decide, by decide, (by intro d h; change none = some d at h; cases h), by decide⟩,
   ⟨(twinUp []), 0, (recordA 8 1 40), (.fenceRecord 0 (recordA 8 1 40)), 8, Reg.TWN.REC_RX0, by decide, by decide, by decide, by decide, by decide, by decide, by decide, by decide, (by intro d h; rw [show recDeadline (twinUp []) (recordA 8 1 40) = some 0 by decide +kernel] at h; cases h; decide +kernel), by decide, by decide⟩⟩

theorem witness_TwinAgreement :
    (∃ (s : State) (o : MirPend) (rest : List MirPend) (m x : Word), Lit s ∧ s.twn.ops = o :: rest ∧ o.op = MirOp.commit m x ∧
      o.own = none ∧ came s o.e = true ∧ twnOn s = true ∧ twnClash s = false) ∧
    (∃ (s : State) (o : MirPend) (rest : List MirPend) (m x : Word), Lit s ∧ s.twn.ops = o :: rest ∧ o.op = MirOp.commit m x ∧
      o.own.isSome = true ∧ came s (o.e + mirrorDelay s) = true ∧ agreeRefusal s o = 0) ∧
    (∃ (s : State) (o : MirPend) (rest : List MirPend) (m x : Word), Lit s ∧ s.twn.ops = o :: rest ∧ o.op = MirOp.commit m x ∧
      o.own.isSome = true ∧ came s (o.e + mirrorDelay s) = true ∧ agreeRefusal s o ≠ 0) ∧
    (∃ (s : State), Lit s ∧ (∀ o ∈ s.twn.ops, came s o.e = false)) ∧
    (∃ (s : State), Lit s ∧ (∀ o ∈ s.twn.ops, came s (o.e + mirrorDelay s) = false)) ∧
    (∃ (s : State), Lit s ∧ List.filter (placeDue ↑(nowPs s)) s.twn.ops = []) ∧
    (∃ (s : State) (e : ℕ × ℕ × ℕ × ℕ) (rest : List (ℕ × ℕ × ℕ × ℕ)), Lit s ∧ s.twn.ready = e :: rest ∧ came s e.2.2.2 = true ∧
      ((stream s e.1).buf e.2.1).mode = BufMode.fenced ∧ ((stream s e.1).buf e.2.1).seq = e.2.2.1) ∧
    (∃ (s : State), Lit s ∧ (∀ e ∈ s.twn.ready, came s e.2.2.2 = false)) ∧
    (∃ (s : State) (k n : ℕ) (c : PhaseCtx), Lit s ∧ findCtx s k n = some c ∧
      (twnOn s = false ∨ (s.twn.ownH.any fun h ↦ h.pseq == pseq k n) = true ∨ reached s (healthAt s c) = false)) ∧
    (∃ (s : State) (k n : ℕ) (c : PhaseCtx), Lit s ∧ findCtx s k n = some c ∧ twnOn s = true ∧
      (s.twn.ownH.any fun h ↦ h.pseq == pseq k n) = false ∧ reached s (healthAt s c) = true) ∧
    (∃ (s : State) (m : ℕ), Lit s ∧ m = nextMultiple s.time.twn (rdF s Reg.TWN.TIME_PER 13 0) ∧
      (twnOn s = false ∨ nowNs s < m)) ∧
    (∃ (s : State) (m : ℕ), Lit s ∧ m = nextMultiple s.time.twn (rdF s Reg.TWN.TIME_PER 13 0) ∧ twnOn s = true ∧ m ≤ nowNs s ∧
      s.twn.echo = none) :=
  ⟨⟨agreeing (mirA 0 none none), mirA 0 none none, [], 1, 0, by decide⟩,
   ⟨later 1000000 (agreeing (mirA 0 (some 5) (some 5))), mirA 0 (some 5) (some 5), [], 1, 0, by decide⟩,
   ⟨later 1000000 (agreeing (mirA 0 (some 5) (some 6))), mirA 0 (some 5) (some 6), [], 1, 0, by decide⟩,
   ⟨agreeing (mirA 1 none none), by decide⟩,
   ⟨agreeing (mirA 0 (some 5) none), by decide⟩,
   ⟨agreeing (mirA 0 none none), by decide⟩,
   ⟨{ setStream R0 63 { Stream.reset with bufs := [(1, ⟨.fenced, 9, false, 0, none⟩)] } with twn.ready := [(63, 1, 9, 0)] }, (63, 1, 9, 0), [], by decide⟩,
   ⟨{ R0 with twn.ready := [(63, 1, 9, 1)] }, by decide⟩,
   ⟨inSlot ctxA R0, 0, 0, ctxA, by decide⟩,
   ⟨later 2 (inSlot ctxA (twin 3 R0)), 0, 0, ctxA, by decide⟩,
   ⟨wr R0 Reg.TWN.TIME_PER 1000, 1000000, by decide⟩,
   ⟨later 1000000000 (wr (twin 3 R0) Reg.TWN.TIME_PER 1000), 1000000, by decide⟩⟩

theorem witness_TwinStates :
    (∃ (s : State) (a : Agent) (v : Word), Awake s ∧ Accepts s a Reg.TWN.TWN_CTRL LockKind.cfg ∧ bit v 0 = true ∧
      twnOn s = false) ∧
    (∃ (s : State) (a : Agent) (v : Word), Awake s ∧ Accepts s a Reg.TWN.TWN_CTRL LockKind.cfg ∧ bit v 0 = true ∧
      twnOn s = true) ∧
    (∃ (s : State) (a : Agent) (v : Word), Awake s ∧ Accepts s a Reg.TWN.TWN_CTRL LockKind.cfg ∧ bit v 0 = false ∧
      twnOn s = true) ∧
    (∃ (s : State), Awake s ∧ ((s.twn.link0 = true ∨ s.twn.link1 = true) ∧
      elapsedUs s s.twn.lastRec (peerTmo s) = false ∨ twnOn s = false ∨ rdB s Reg.TWN.TWN_STATUS 5 = false)) ∧
    (∃ (s : State), Awake s ∧ twnOn s = true ∧ rdB s Reg.TWN.TWN_STATUS 5 = true ∧ (s.twn.link0 = false ∧
      s.twn.link1 = false ∨ elapsedUs s s.twn.lastRec (peerTmo s) = true)) ∧
    (∃ (s : State), Awake s ∧ twnState s = 1 ∧ elapsedUs s s.twn.searchAt (peerTmo s) = true ∧ s.twn.heardAny = false ∧
      s.twn.heardRun = false) ∧
    (∃ (s : State), Awake s ∧ (twnState s ≠ 1 ∨ elapsedUs s s.twn.searchAt (peerTmo s) = false)) ∧
    (∃ (s : State) (j : ℕ), Awake s ∧ serdesOn s = true ∧ s.twn.joinAt = some j ∧ came s j = false) ∧
    (∃ (s : State) (j : ℕ), Awake s ∧ serdesOn s = true ∧ s.twn.joinAt = some j ∧ came s j = true ∧
      (twnState s = 2 ∨ twnState s = 4)) ∧
    (∃ (s : State) (k n : ℕ) (c : PhaseCtx), Lit s ∧ findCtx s k n = some c ∧
      (twnState s ≠ 3 ∨ reached s c.close = false ∨ s.twn.yielded.contains (k, n) = true ∨ impCauses s k n = 0)) ∧
    (∃ (s : State) (k n : ℕ) (c : PhaseCtx), Lit s ∧ findCtx s k n = some c ∧ twnOn s = true ∧ twnState s = 3 ∧
      reached s c.close = true ∧ s.twn.yielded.contains (k, n) = false ∧ impCauses s k n ≠ 0 ∧
      List.find? (fun e ↦ e.1 == pseq k n) s.twn.peerImp = some (pseq k n, true)) :=
  ⟨⟨R0, .tc, 1, by decide⟩,
   ⟨twin 1 R0, .tc, 1, by decide⟩,
   ⟨twin 1 R0, .tc, 0, by decide⟩,
   ⟨R0, by decide⟩,
   ⟨twin 0x22 R0, by decide⟩,
   ⟨later 1000000000 (twin 1 R0), by decide⟩,
   ⟨R0, by decide⟩,
   ⟨{ R0 with twn.joinAt := some 1 }, 1, by decide⟩,
   ⟨{ twin 2 R0 with twn.joinAt := some 0 }, 0, by decide⟩,
   ⟨inSlot ctxA R0, 0, 0, ctxA, by decide⟩,
   ⟨later 2 (inSlot { ctxA with stale := true } { twin 3 R0 with twn.peerImp := [(0, true)] }), 0, 0, { ctxA with stale := true }, by decide⟩⟩

theorem witness_BlitterOperations :
    (∃ (s : State) (a : Agent) (v : Word) (rows op : ℕ) (c : Instr), Awake s ∧
      (c, op) ∈ [(Instr.bltCopy a v rows, 0), (Instr.bltFill a v rows, 1), (Instr.bltCopyBlend a v rows, 2), (Instr.bltCopyConvert a v rows, 3)] ∧
      rdF s Reg.BLT.BLT_CTRL 1 0 ≠ op) ∧
    (∃ (s : State) (a : Agent) (v : Word) (rows op : ℕ) (c : Instr) (o : BltOp), Awake s ∧
      (c, op) ∈ [(Instr.bltCopy a v rows, 0), (Instr.bltFill a v rows, 1), (Instr.bltCopyBlend a v rows, 2), (Instr.bltCopyConvert a v rows, 3)] ∧
      rdF s Reg.BLT.BLT_CTRL 1 0 = op ∧ Accepts s a Reg.BLT.GO LockKind.cmd ∧ bit v 0 = true ∧ bit v 1 = false ∧
      safe s Page.BLT = false ∧ s.blt = some o) ∧
    (∃ (s : State) (a : Agent) (v : Word) (rows op : ℕ) (c : Instr), Awake s ∧
      (c, op) ∈ [(Instr.bltCopy a v rows, 0), (Instr.bltFill a v rows, 1), (Instr.bltCopyBlend a v rows, 2), (Instr.bltCopyConvert a v rows, 3)] ∧
      rdF s Reg.BLT.BLT_CTRL 1 0 = op ∧ Accepts s a Reg.BLT.GO LockKind.cmd ∧ bit v 0 = true ∧ bit v 1 = false ∧
      safe s Page.BLT = false ∧ s.blt = none ∧ (captureBlt s).refusal ≠ 0) ∧
    (∃ (s : State) (a : Agent) (v : Word) (rows op : ℕ) (c : Instr), Awake s ∧
      (c, op) ∈ [(Instr.bltCopy a v rows, 0), (Instr.bltFill a v rows, 1), (Instr.bltCopyBlend a v rows, 2), (Instr.bltCopyConvert a v rows, 3)] ∧
      rdF s Reg.BLT.BLT_CTRL 1 0 = op ∧ Accepts s a Reg.BLT.GO LockKind.cmd ∧ bit v 0 = true ∧ bit v 1 = false ∧
      safe s Page.BLT = false ∧ s.blt = none ∧ (captureBlt s).refusal = 0) ∧
    (∃ (s : State), Lit s ∧ s.blt = none) ∧
    (∃ (s : State) (o : BltOp), Lit s ∧ s.blt = some o ∧ s.poison = [] ∧ o.op = 1 ∧ o.up = false ∧ o.rows = 0 ∧
      (∀ (r i : ℕ), r < o.h → i < rowBytes o.dst.fmt o.w → crossed s o (o.dst.rowAt r + i) = false) ∧
      rowBytes o.dst.fmt o.w = o.w / unitPx o.dst.fmt * o.fill.length ∧ rowBytes o.dst.fmt o.w ≤ o.dst.stride ∧
      (∀ r < o.h, o.dst.rowAt r + rowBytes o.dst.fmt o.w ≤ memBytes)) ∧
    (∃ (s : State) (o : BltOp), Lit s ∧ s.blt = some o ∧ s.poison = [] ∧ o.op = 0 ∧ o.src.fmt = o.dst.fmt ∧ o.rows = 0 ∧
      rowBytes o.dst.fmt o.w ≤ o.dst.stride ∧
      (∀ (r i : ℕ), r < o.h → i < rowBytes o.dst.fmt o.w → crossed s o (o.dst.rowAt r + i) = false) ∧
      (∀ r < o.h, o.dst.rowAt r + rowBytes o.dst.fmt o.w ≤ memBytes) ∧
      (∀ (r q : ℕ), r < o.h → q < o.h → o.src.rowAt r + rowBytes o.dst.fmt o.w ≤ o.dst.rowAt q ∨ o.dst.rowAt q + rowBytes o.dst.fmt o.w ≤ o.src.rowAt r)) ∧
    (∃ (s : State) (o : BltOp), Lit s ∧ s.blt = some o) ∧
    (∃ (s : State) (a : Agent) (v : Word), Awake s ∧ Accepts s a Reg.BLT.GO LockKind.cmd ∧ bit v 0 = false ∧ bit v 1 = true ∧
      s.blt = none) ∧
    (∃ (s : State) (a : Agent) (v : Word) (o : BltOp), Awake s ∧ Accepts s a Reg.BLT.GO LockKind.cmd ∧ bit v 0 = false ∧
      bit v 1 = true ∧ s.blt = some o) :=
  ⟨⟨R0, .tc, 1, 0, 1, .bltFill .tc 1 0, by decide⟩,
   ⟨{ R0 with blt := some fillA }, .tc, 1, 0, 0, .bltCopy .tc 1 0, fillA, by decide⟩,
   ⟨R0, .tc, 1, 0, 0, .bltCopy .tc 1 0, by decide⟩,
   ⟨fillRegs, .tc, 1, 0, 1, .bltFill .tc 1 0, by decide⟩,
   ⟨R0, by decide⟩,
   ⟨({ R0 with blt := some fillA }), fillA, by decide, by decide, by decide, by decide, by decide, by decide, (fun _ _ _ _ => rfl), by decide, by decide, by decide⟩,
   ⟨({ R0 with blt := some copyA }), copyA, by decide, by decide, by decide, by decide, by decide, by decide, by decide, (fun _ _ _ _ => rfl), by decide, (fun r q h1 h2 => copyA_apart r h1 q h2)⟩,
   ⟨{ R0 with blt := some fillA }, fillA, by decide⟩,
   ⟨R0, .tc, 2, by decide⟩,
   ⟨{ R0 with blt := some fillA }, .tc, 2, fillA, by decide⟩⟩

theorem witness_DmaChannels :
    (∃ (s : State) (ch : ℕ) (c : Instr), Awake s ∧ ch < 16 ∧ (c = Instr.dmaTrigger ch ∧ (dmaCh s ch).trig = true ∧
      serdesOn s = true ∨ ∃ a v, c = Instr.dmaGo a ch v ∧ Accepts s a (Reg.DC.CH_CMD ch) LockKind.cmd ∧ bit v 0 = true ∧
      bit v 1 = false) ∧ canStart s ch = true) ∧
    (∃ (s : State) (ch : ℕ) (a : Agent) (v : Word), Awake s ∧ ch < 16 ∧ Accepts s a (Reg.DC.CH_CMD ch) LockKind.cmd ∧
      bit v 0 = true ∧ bit v 1 = false ∧ canStart s ch = false) ∧
    (∃ (s : State) (ch : ℕ), Awake s ∧ ch < 16 ∧ (dmaCh s ch).trig = true ∧ serdesOn s = true ∧ canStart s ch = false) ∧
    (∃ (s : State) (ch : ℕ), Awake s ∧ ch < 16 ∧ (dmaCh s ch).trig = false) ∧
    (∃ (s : State) (ch : ℕ), Lit s ∧ ch < 16 ∧ (dmaCh s ch).phase = DmaPhase.fetch ∧ curDesc s ch < memBytes ∧
      memPoisoned s (curDesc s ch) 64 = false) ∧
    (∃ (s : State) (ch : ℕ), Lit s ∧ ch < 16 ∧ (dmaCh s ch).phase = DmaPhase.fetch ∧ tmoPast s ch (dmaCh s ch).since = false) ∧
    (∃ (s : State) (ch : ℕ), Lit s ∧ ch < 16 ∧ (dmaCh s ch).phase = DmaPhase.fetch ∧ tmoPast s ch (dmaCh s ch).since = true) ∧
    (∃ (s : State) (ch : ℕ) (d : DmaDesc), Lit s ∧ ch < 16 ∧ (dmaCh s ch).phase = DmaPhase.check ∧ (dmaCh s ch).desc = some d ∧
      d.formed = true ∧ badLine s ch d = none) ∧
    (∃ (s : State) (ch : ℕ) (d : DmaDesc), Lit s ∧ ch < 16 ∧ (dmaCh s ch).phase = DmaPhase.check ∧ (dmaCh s ch).desc = some d ∧
      (d.formed = false ∨ (badLine s ch d).isSome = true)) ∧
    (∃ (s : State) (ch : ℕ) (d : DmaDesc) (lines : List (ℕ × ℕ)), Lit s ∧ ch < 16 ∧ (dmaCh s ch).phase = DmaPhase.move ∧
      (dmaCh s ch).desc = some d ∧ d.formed = true ∧
      lines = List.map (fun i ↦ (streamAddr d.dst d.dLen d.dStep (i * d.dLen), d.dLen)) (List.range d.dLines) ∧
      sourcePoisoned s ch d = true) ∧
    (∃ (s : State) (ch : ℕ) (d : DmaDesc) (lines : List (ℕ × ℕ)) (x : ℤ × ℕ), Lit s ∧ ch < 16 ∧
      (dmaCh s ch).phase = DmaPhase.move ∧ (dmaCh s ch).desc = some d ∧ d.formed = true ∧
      lines = List.map (fun i ↦ (streamAddr d.dst d.dLen d.dStep (i * d.dLen), d.dLen)) (List.range d.dLines) ∧
      sourcePoisoned s ch d = false ∧ DmaDesc.blocked s d = some x) ∧
    (∃ (s : State) (ch : ℕ) (d : DmaDesc) (lines : List (ℕ × ℕ)), Lit s ∧ ch < 16 ∧ (dmaCh s ch).phase = DmaPhase.move ∧
      (dmaCh s ch).desc = some d ∧ d.formed = true ∧
      lines = List.map (fun i ↦ (streamAddr d.dst d.dLen d.dStep (i * d.dLen), d.dLen)) (List.range d.dLines) ∧
      sourcePoisoned s ch d = false ∧ DmaDesc.blocked s d = none ∧ d.last = false ∧
      rdF s (Reg.DC.HOP_COUNT ch) 15 0 = rdF s (Reg.DC.HOP_MAX ch) 15 0) ∧
    (∃ (s : State) (ch : ℕ) (d : DmaDesc) (lines : List (ℕ × ℕ)), Lit s ∧ ch < 16 ∧ (dmaCh s ch).phase = DmaPhase.move ∧
      (dmaCh s ch).desc = some d ∧ d.formed = true ∧
      lines = List.map (fun i ↦ (streamAddr d.dst d.dLen d.dStep (i * d.dLen), d.dLen)) (List.range d.dLines) ∧
      sourcePoisoned s ch d = false ∧ DmaDesc.blocked s d = none ∧ d.last = false ∧
      rdF s (Reg.DC.HOP_COUNT ch) 15 0 ≠ rdF s (Reg.DC.HOP_MAX ch) 15 0 ∧ (dmaCh s ch).ahead = none) ∧
    (∃ (s : State) (ch : ℕ) (d : DmaDesc) (lines : List (ℕ × ℕ)), Lit s ∧ ch < 16 ∧ (dmaCh s ch).phase = DmaPhase.move ∧
      (dmaCh s ch).desc = some d ∧ d.formed = true ∧
      lines = List.map (fun i ↦ (streamAddr d.dst d.dLen d.dStep (i * d.dLen), d.dLen)) (List.range d.dLines) ∧
      sourcePoisoned s ch d = false ∧ DmaDesc.blocked s d = none ∧ d.last = true) ∧
    (∃ (s : State) (ch : ℕ) (d : DmaDesc) (lines : List (ℕ × ℕ)), Lit s ∧ ch < 16 ∧ (dmaCh s ch).phase = DmaPhase.move ∧
      (dmaCh s ch).desc = some d ∧ d.formed = true ∧
      lines = List.map (fun i ↦ (streamAddr d.dst d.dLen d.dStep (i * d.dLen), d.dLen)) (List.range d.dLines) ∧
      sourcePoisoned s ch d = false ∧ DmaDesc.blocked s d = none ∧ d.sLines = 1 ∧ d.dLines = 1 ∧ d.src + d.sLen ≤ memBytes ∧
      d.dst + d.dLen ≤ memBytes ∧ (dmaCh s ch).moved = 0 ∧
      (∀ (b : ℕ), d.dst ≤ b → b < d.dst + d.dLen → inOtherStream s ch d b = false)) ∧
    (∃ (s : State) (ch : ℕ) (d : DmaDesc) (lines : List (ℕ × ℕ)) (addr : ℕ), Lit s ∧ ch < 16 ∧
      (dmaCh s ch).phase = DmaPhase.move ∧ (dmaCh s ch).desc = some d ∧ d.formed = true ∧
      lines = List.map (fun i ↦ (streamAddr d.dst d.dLen d.dStep (i * d.dLen), d.dLen)) (List.range d.dLines) ∧
      (dmaCh s ch).late.contains addr = true) ∧
    (∃ (s : State) (ch : ℕ) (d : DmaDesc) (lines : List (ℕ × ℕ)) (addr : ℕ), Lit s ∧ ch < 16 ∧
      (dmaCh s ch).phase = DmaPhase.move ∧ (dmaCh s ch).desc = some d ∧ d.formed = true ∧
      lines = List.map (fun i ↦ (streamAddr d.dst d.dLen d.dStep (i * d.dLen), d.dLen)) (List.range d.dLines) ∧
      (dmaCh s ch).late.contains addr = false) ∧
    (∃ (s : State) (ch : ℕ) (d : DmaDesc) (lines : List (ℕ × ℕ)) (issued : ℕ), Lit s ∧ ch < 16 ∧
      (dmaCh s ch).phase = DmaPhase.move ∧ (dmaCh s ch).desc = some d ∧ d.formed = true ∧
      lines = List.map (fun i ↦ (streamAddr d.dst d.dLen d.dStep (i * d.dLen), d.dLen)) (List.range d.dLines) ∧
      (issued < (dmaCh s ch).since ∨ tmoPast s ch issued = false)) ∧
    (∃ (s : State) (ch : ℕ) (d : DmaDesc) (lines : List (ℕ × ℕ)) (issued : ℕ), Lit s ∧ ch < 16 ∧
      (dmaCh s ch).phase = DmaPhase.move ∧ (dmaCh s ch).desc = some d ∧ d.formed = true ∧
      lines = List.map (fun i ↦ (streamAddr d.dst d.dLen d.dStep (i * d.dLen), d.dLen)) (List.range d.dLines) ∧
      (dmaCh s ch).since ≤ issued ∧ tmoPast s ch issued = true) ∧
    (∃ (s : State) (ch : ℕ) (d : DmaDesc) (lines : List (ℕ × ℕ)) (a : Agent) (v : Word), Lit s ∧ ch < 16 ∧
      (dmaCh s ch).phase = DmaPhase.move ∧ (dmaCh s ch).desc = some d ∧ d.formed = true ∧
      lines = List.map (fun i ↦ (streamAddr d.dst d.dLen d.dStep (i * d.dLen), d.dLen)) (List.range d.dLines) ∧
      Accepts s a (Reg.DC.CH_CMD ch) LockKind.cmd ∧ bit v 0 = false ∧ bit v 1 = true ∧ chState s ch = 1) ∧
    (∃ (s : State) (ch : ℕ), Lit s ∧ ch < 16 ∧ (dmaCh s ch).phase ≠ DmaPhase.drain) ∧
    (∃ (s : State) (ch : ℕ), Lit s ∧ ch < 16 ∧ (dmaCh s ch).phase = DmaPhase.drain) ∧
    (∃ (s : State) (a : Agent) (ch : ℕ) (v : Word), Awake s ∧ ch < 16 ∧ Accepts s a (Reg.DC.ERR ch) LockKind.open ∧
      rd s (Reg.DC.ERR ch) &&& ~~~v = 0 ∧ (chState s ch = 2 ∨ chState s ch = 3)) ∧
    (∃ (s : State) (a : Agent) (ch : ℕ) (v : Word), Awake s ∧ ch < 16 ∧ Accepts s a (Reg.DC.ERR ch) LockKind.open ∧
      rd s (Reg.DC.ERR ch) &&& ~~~v ≠ 0) :=
  ⟨⟨({ dmaAt .idle none with dma := [(15, { DmaCh.reset with trig := true })] }), 15, (.dmaTrigger 15), by decide, by decide, (.inl ⟨rfl, by decide⟩), by decide⟩,
   ⟨R0, 15, .tc, 1, by decide⟩,
   ⟨{ R0 with dma := [(15, { DmaCh.reset with trig := true })] }, 15, by decide⟩,
   ⟨R0, 15, by decide⟩,
   ⟨dmaAt .fetch none, 15, by decide⟩,
   ⟨dmaAt .fetch none, 15, by decide⟩,
   ⟨later 1000000000 (dmaAt .fetch none), 15, by decide⟩,
   ⟨{ R0 with dma := [(0, { DmaCh.reset with phase := .check, desc := some (descA true) })] }, 0, descA true, by decide⟩,
   ⟨dmaAt .check (some descBad), 15, descBad, by decide⟩,
   ⟨{ dmaAt .move (some (descA true)) with poison := [(2, true)] }, 15, descA true, [(4096, 1)], by decide⟩,
   ⟨dmaAt .move (some descFar), 15, descFar, [(hostBase, 1)], (hostBase, 0), by decide⟩,
   ⟨wr (dmaAt .move (some (descA false))) (Reg.DC.HOP_MAX 15) 0, 15, descA false, [(4096, 1)], by decide⟩,
   ⟨dmaAt .move (some (descA false)), 15, descA false, [(4096, 1)], by decide⟩,
   ⟨dmaAt .move (some (descA true)), 15, descA true, [(4096, 1)], by decide⟩,
   ⟨(dmaAt .move (some (descA true))), 15, (descA true), ([(4096, 1)]), by decide, by decide, by decide, by decide, by decide, by decide, by decide, by decide, by decide, by decide, by decide, by decide, by decide, (by intro b h1 h2; change 4096 ≤ b at h1; change b < 4096 + 1 at h2; obtain rfl : b = 4096 := (by omega); decide)⟩,
   ⟨{ dmaAt .move (some (descA true)) with dma := [(15, { DmaCh.reset with phase := .move, desc := some (descA true), late := [64] })] }, 15, descA true, [(4096, 1)], 64, by decide⟩,
   ⟨dmaAt .move (some (descA true)), 15, descA true, [(4096, 1)], 64, by decide⟩,
   ⟨dmaAt .move (some (descA true)), 15, descA true, [(4096, 1)], 0, by decide⟩,
   ⟨later 1000000000 (dmaAt .move (some (descA true))), 15, descA true, [(4096, 1)], 0, by decide⟩,
   ⟨dmaState 1 (dmaAt .move (some (descA true))), 15, descA true, [(4096, 1)], .tc, 2, by decide⟩,
   ⟨R0, 15, by decide⟩,
   ⟨dmaAt .drain none, 15, by decide⟩,
   ⟨wr (dmaState 3 R0) (Reg.DC.ERR 15) 1, .tc, 15, 1, by decide⟩,
   ⟨wr (dmaState 3 R0) (Reg.DC.ERR 15) 3, .tc, 15, 1, by decide⟩⟩

theorem witness_InterruptFlow :
    (∃ (s : State) (i : ℕ), Awake s ∧ sourceReal i = true ∧ (inputOf s i = true ∧
      ((srcSt s i).active = false ∨ (srcSt s i).level = false) ∨ Store.get noB s.icu.risen i = true)) ∧
    (∃ (s : State) (i : ℕ), Awake s ∧ sourceReal i = false) ∧
    (∃ (s : State) (i : ℕ), Awake s ∧ sourceReal i = true ∧ Store.get noB s.icu.risen i = false ∧
      (inputOf s i = false ∨ (srcSt s i).active = true ∧ (srcSt s i).level = true)) ∧
    (∃ (s : State) (i : ℕ), Awake s ∧
      ((srcSt s i).pending = false ∨ (srcSt s i).active = true ∨ (srcSt s i).offer.isSome = true ∨ bit (srcCfg s i) 8 = false ∨ icuOn s = false)) ∧
    (∃ (s : State) (i k : ℕ) (tie : Bool), Awake s ∧ sourceReal i = true ∧ (srcSt s i).pending = true ∧
      (srcSt s i).active = false ∧ (srcSt s i).offer = none ∧ bit (srcCfg s i) 8 = true ∧ icuOn s = true ∧
      fld (srcCfg s i) 10 9 = 1 ∧ chooseCore s i = some (k, tie) ∧ outranks s i k = true) ∧
    (∃ (s : State) (i : ℕ), Awake s ∧ sourceReal i = true ∧ (srcSt s i).pending = true ∧ (srcSt s i).active = false ∧
      (srcSt s i).offer = none ∧ bit (srcCfg s i) 8 = true ∧ icuOn s = true ∧ fld (srcCfg s i) 10 9 = 2 ∧
      targetOn s 4 = true ∧ outranks s i 4 = true) ∧
    (∃ (s : State) (i : ℕ), Awake s ∧ sourceReal i = true ∧ (srcSt s i).pending = true ∧ (srcSt s i).active = false ∧
      (srcSt s i).offer = none ∧ bit (srcCfg s i) 8 = true ∧ icuOn s = true ∧ fld (srcCfg s i) 10 9 = 3 ∧
      s.pcie.link.dstate = 3 ∧ s.pcie.cfg.pmeEn = true) ∧
    (∃ (s : State) (i : ℕ), Awake s ∧ sourceReal i = true ∧ (srcSt s i).pending = true ∧ (srcSt s i).active = false ∧
      (srcSt s i).offer = none ∧ bit (srcCfg s i) 8 = true ∧ icuOn s = true ∧ fld (srcCfg s i) 10 9 = 3 ∧
      vectorMasked s (vectorOf i) = false ∧ Store.get zeroN s.icu.timers (vectorOf i) = 0 ∧ s.pcie.link.dstate ≠ 3 ∧
      s.pcie.link.aspm ≠ 0) ∧
    (∃ (s : State) (i : ℕ), Awake s ∧ sourceReal i = true ∧ (srcSt s i).pending = true ∧ (srcSt s i).active = false ∧
      (srcSt s i).offer = none ∧ bit (srcCfg s i) 8 = true ∧ icuOn s = true ∧ fld (srcCfg s i) 10 9 = 3 ∧
      vectorMasked s (vectorOf i) = true) ∧
    (∃ (s : State) (i : ℕ), Awake s ∧ sourceReal i = true ∧ (srcSt s i).pending = true ∧ (srcSt s i).active = false ∧
      (srcSt s i).offer = none ∧ bit (srcCfg s i) 8 = true ∧ icuOn s = true ∧ fld (srcCfg s i) 10 9 = 3 ∧
      vectorMasked s (vectorOf i) = false ∧ (Store.get zeroN s.icu.timers (vectorOf i) ≠ 0 ∨ mayLeave s = false) ∧
      justSent s (vectorOf i) = false) ∧
    (∃ (s : State) (i : ℕ), Awake s ∧ sourceReal i = true ∧ (srcSt s i).pending = true ∧ (srcSt s i).active = false ∧
      (srcSt s i).offer = none ∧ bit (srcCfg s i) 8 = true ∧ icuOn s = true ∧ fld (srcCfg s i) 10 9 = 3 ∧
      vectorMasked s (vectorOf i) = false ∧ justSent s (vectorOf i) = true) ∧
    (∃ (s : State) (a : Agent) (c : Instr) (k : ℕ) (mine : ℕ → Bool), Awake s ∧ ((k < 5 ∧ c = Instr.claim a k ∧
      ∀ (i : ℕ), mine i = true) ∨ k = 5 ∧ ∃ v < 64, c = Instr.hostClaim a v ∧ ∀ (i : ℕ), mine i = (vectorOf i == v)) ∧
      mostUrgent s (List.filter (fun i ↦ offeredTo s k i && mine i) (listedSources s)) = none) ∧
    (∃ (s : State) (i e : ℕ), Awake s ∧ (srcSt s i).withdraw = some e ∧ e ≤ mgmtClk s) ∧
    (∃ (s : State) (i e : ℕ), Awake s ∧ (srcSt s i).withdraw = some e ∧ mgmtClk s < e) ∧
    (∃ (s : State) (i : ℕ), Awake s ∧ i < 64 ∧ Store.get zeroN s.icu.timers i ≠ 0 ∧ mgmtClk s < Store.get zeroN s.icu.timers i) ∧
    (∃ (s : State) (i : ℕ), Awake s ∧ i < 64 ∧ Store.get zeroN s.icu.timers i ≠ 0 ∧ Store.get zeroN s.icu.timers i ≤ mgmtClk s ∧
      Store.get noB s.icu.held i = false) ∧
    (∃ (s : State) (i : ℕ), Awake s ∧ i < 64 ∧ Store.get zeroN s.icu.timers i ≠ 0 ∧ Store.get zeroN s.icu.timers i ≤ mgmtClk s ∧
      (mayLeave s = true ∨ vectorMasked s i = true)) ∧
    (∃ (s : State) (i : ℕ), Awake s ∧ i < 64 ∧ Store.get zeroN s.icu.timers i ≠ 0 ∧ Store.get zeroN s.icu.timers i ≤ mgmtClk s ∧
      Store.get noB s.icu.held i = true ∧ mayLeave s = false ∧ vectorMasked s i = false) ∧
    (∃ (s : State), Awake s ∧ s.pcie.link.dstate ≠ 3) ∧
    (∃ (s : State), Awake s ∧ s.pcie.link.dstate = 3 ∧ icuOn s = true) ∧
    (∃ (s : State), Awake s ∧ s.pcie.link.dstate = 3 ∧ icuOn s = false) ∧
    (∃ (s : State) (a : Agent) (v : Word), Awake s ∧ Accepts s a Reg.EVF.SW_PULSE LockKind.cmd ∧ (176 ≤ fld v 8 0 ∧
      fld v 8 0 < 192)) ∧
    (∃ (s : State) (a : Agent) (v : Word), Awake s ∧ Accepts s a Reg.EVF.SW_PULSE LockKind.cmd ∧ (¬(176 ≤ fld v 8 0 ∧
      fld v 8 0 < 192))) :=
  ⟨⟨{ R0 with icu.sw := [(1023, true)] }, 1023, by decide⟩,
   ⟨R0, 1024, by decide⟩,
   ⟨R0, 1023, by decide⟩,
   ⟨R0, 0, by decide⟩,
   ⟨pendingA 0xB80, 768, 0, false, by decide⟩,
   ⟨pendingA 0x580, 768, by decide⟩,
   ⟨{ pendingA 0x780 with pcie.link.dstate := 3, pcie.cfg.pmeEn := true }, 768, by decide⟩,
   ⟨{ pendingA 0x780 with pcie.link.aspm := 1, pcie.cfg.msixEn := true, icu.msix := [(163, 0)] }, 768, by decide⟩,
   ⟨pendingA 0x780, 768, by decide⟩,
   ⟨{ pendingA 0x780 with icu.timers := [(40, 1)], pcie.cfg.msixEn := true, icu.msix := [(163, 0)] }, 768, by decide⟩,
   ⟨{ wr (pendingA 0x780) (Reg.ICU.HOST_MOD 40) 1 with icu.timers := [(40, 1000)], pcie.cfg.msixEn := true, icu.msix := [(163, 0)] }, 768, by decide⟩,
   ⟨R0, .tc, (.claim .tc 4), 4, (fun _ => true), by decide, (.inl ⟨by decide, rfl, fun _ => rfl⟩), by decide⟩,
   ⟨{ R0 with icu.src := [(1023, ⟨false, true, false, 7, none, some 0⟩)] }, 1023, 0, by decide⟩,
   ⟨{ R0 with icu.src := [(1023, ⟨false, true, false, 7, none, some 1⟩)] }, 1023, 1, by decide⟩,
   ⟨{ R0 with icu.timers := [(63, 1)] }, 63, by decide⟩,
   ⟨later 2 { R0 with icu.timers := [(63, 1)] }, 63, by decide⟩,
   ⟨later 2 (wr { R0 with icu.timers := [(63, 1)] } Reg.ICU.ICU_CTRL 1), 63, by decide⟩,
   ⟨later 2 (wr { R0 with icu.timers := [(63, 1)], icu.held := [(63, true)], icu.msix := [(255, 0)], pcie.cfg.msixEn := true, pcie.link.aspm := 1 } Reg.ICU.ICU_CTRL 1), 63, by decide⟩,
   ⟨R0, by decide⟩,
   ⟨{ wr R0 Reg.ICU.ICU_CTRL 1 with pcie.link.dstate := 3 }, by decide⟩,
   ⟨{ wr R0 Reg.ICU.ICU_CTRL 0 with pcie.link.dstate := 3 }, by decide⟩,
   ⟨R0, .tc, 191, by decide⟩,
   ⟨R0, .tc, 192, by decide⟩⟩

theorem witness_CompletionsGoToTheHolder :
    (∃ (s : State) (a : Agent) (c : Instr) (k : ℕ) (v : Word), Awake s ∧ (k < 5 ∧ c = Instr.cpl a k v ∧
      Accepts s a (Reg.ICU.CPL k) LockKind.cmd ∨ k = 5 ∧ c = Instr.hostCpl a v ∧ Accepts s a Reg.ICU.HOST_CPL LockKind.cmd) ∧
      (srcSt s (fld v 9 0)).active = true ∧ (srcSt s (fld v 9 0)).holder = k ∧
      (∀ (j : ℕ), j ≠ fld v 9 0 → (srcSt s j).active = true → (srcSt s j).holder ≠ k)) ∧
    (∃ (s : State) (a : Agent) (c : Instr) (k : ℕ) (v : Word), Awake s ∧ (k < 5 ∧ c = Instr.cpl a k v ∧
      Accepts s a (Reg.ICU.CPL k) LockKind.cmd ∨ k = 5 ∧ c = Instr.hostCpl a v ∧ Accepts s a Reg.ICU.HOST_CPL LockKind.cmd) ∧
      ((srcSt s (fld v 9 0)).active = false ∨ (srcSt s (fld v 9 0)).holder ≠ k)) :=
  ⟨⟨activeA, .tc, (.cpl .tc 4 3), 4, 3, by decide, by decide, by decide, by decide, (by intro j hj h; have e : ¬ (3 = j) := fun e => hj (e.symm.trans (by decide)); have g : (if 3 = j then (⟨false, true, true, 4, none, none⟩ : SrcState) else .reset).active = true := h; rw [if_neg e] at g; cases g)⟩,
   ⟨activeA, .tc, .hostCpl .tc 3, 5, 3, by decide⟩⟩

theorem witness_SoftwareSourceFlags :
    (∃ (s : State) (a : Agent) (v : Word), Awake s ∧ Accepts s a Reg.ICU.SW_SET LockKind.cmd ∧ 768 ≤ fld v 9 0) ∧
    (∃ (s : State) (a : Agent) (v : Word), Awake s ∧ Accepts s a Reg.ICU.SW_SET LockKind.cmd ∧ fld v 9 0 < 768) ∧
    (∃ (s : State) (a : Agent) (v : Word), Awake s ∧ Accepts s a Reg.ICU.HOST_CPL LockKind.cmd ∧ 768 ≤ fld v 9 0 ∧
      Store.get noB s.icu.sw (fld v 9 0) = true ∧ (srcSt s (fld v 9 0)).active = true ∧ (srcSt s (fld v 9 0)).holder = 5) :=
  ⟨⟨R0, .tc, 768, by decide⟩,
   ⟨R0, .tc, 767, by decide⟩,
   ⟨{ R0 with icu.sw := [(768, true)], icu.src := [(768, ⟨false, true, true, 5, none, none⟩)] }, .tc, 768, by decide⟩⟩

theorem witness_PreBlendIdentity :
    (∃ (set ch i : ℕ), set < 32 ∧ ch < 3 ∧ i ≤ 1024) ∧
    (∃ (s : State) (d : List Word) (ch : ℕ) (v : ℤ), dPreLutEn d = true ∧
      (∀ i ≤ 1024, preEntry s (dPreLut d) ch i = ↑(i * 1024)) ∧ 0 ≤ v ∧ v ≤ 65536) :=
  ⟨⟨31, 2, 1024, by decide⟩,
   ⟨R0, [0, 0x200000], 2, 65536, by decide +kernel⟩⟩

theorem witness_SessionsOpenAndClose :
    (∃ (s : State) (a : Agent) (v : Word), Awake s ∧ Accepts s a Reg.SEC.SESS_CTRL LockKind.cmd ∧ bit v 0 = true ∧
      bit v 1 = false ∧ bit v 2 = false ∧ s.sec.opening = none) ∧
    (∃ (s : State) (a : Agent) (v : Word), Awake s ∧ Accepts s a Reg.SEC.SESS_CTRL LockKind.cmd ∧ bit v 0 = false ∧
      bit v 1 = true ∧ bit v 2 = false ∧ s.sec.opening = none ∧ s.sec.lockedAt = none) ∧
    (∃ (s : State) (a : Agent) (v : Word), Awake s ∧ Accepts s a Reg.SEC.SESS_CTRL LockKind.cmd ∧ bit v 0 = false ∧
      bit v 1 = true ∧ bit v 2 = false ∧ s.sec.opening = none ∧ s.sec.lockedAt.isSome = true) ∧
    (∃ (s : State) (a : Agent) (v : Word), Awake s ∧ Accepts s a Reg.SEC.SESS_CTRL LockKind.cmd ∧ bit v 0 = false ∧
      bit v 1 = false ∧ bit v 2 = true) ∧
    (∃ (s : State) (slot : ℕ), Awake s ∧ s.sec.chalReq = some slot) ∧
    (∃ (s : State) (c : Challenge), Awake s ∧ s.sec.chal = some c ∧ s.sec.opening = none ∧ elapsedUs s c.at_ 60000000 = true) ∧
    (∃ (s : State) (c : Challenge), Awake s ∧ s.sec.chal = some c ∧ s.sec.opening = none ∧ elapsedUs s c.at_ 60000000 = false) ∧
    (∃ (s : State) (slot : ℕ), Awake s ∧ s.sec.opening = some slot ∧ sessVerdict s slot ≠ 0 ∧ s.sec.fails = 7) ∧
    (∃ (s : State) (u : ℕ), Awake s ∧ s.sec.lockedAt = some u ∧ elapsedUs s u 60000000 = true) ∧
    (∃ (s : State) (u : ℕ), Awake s ∧ s.sec.lockedAt = some u ∧ elapsedUs s u 60000000 = false) ∧
    (∃ (s : State) (x : Session), Awake s ∧ s.sec.sess = some x ∧
      elapsedUs s x.active (1000000 * rdF s Reg.SEC.SESS_IDLE 16 0) = true) ∧
    (∃ (s : State) (x : Session), Awake s ∧ s.sec.sess = some x ∧
      elapsedUs s x.active (1000000 * rdF s Reg.SEC.SESS_IDLE 16 0) = false) ∧
    (∃ (s : State) (x : Session), Awake s ∧ s.sec.sess = some x ∧
      elapsedUs s x.opened (60000000 * rdF s Reg.SEC.SESS_MAX 10 0) = true) ∧
    (∃ (s : State) (x : Session), Awake s ∧ s.sec.sess = some x ∧
      elapsedUs s x.opened (60000000 * rdF s Reg.SEC.SESS_MAX 10 0) = false) :=
  ⟨⟨R0, .tc, 1, by decide⟩,
   ⟨R0, .tc, 2, by decide⟩,
   ⟨{ R0 with sec.lockedAt := some 0 }, .tc, 2, by decide⟩,
   ⟨R0, .tc, 4, by decide⟩,
   ⟨{ R0 with sec.chalReq := some 31 }, 31, by decide⟩,
   ⟨later 60000000000 challenged, ⟨0, [], 0⟩, by decide⟩,
   ⟨challenged, ⟨0, [], 0⟩, by decide⟩,
   ⟨{ R0 with sec.opening := some 0, sec.fails := 7 }, 0, by decide⟩,
   ⟨later 60000000000 { R0 with sec.lockedAt := some 0 }, 0, by decide⟩,
   ⟨{ R0 with sec.lockedAt := some 0 }, 0, by decide⟩,
   ⟨later 1000000000 (inSession (wr R0 Reg.SEC.SESS_IDLE 1)), ⟨3, 0, 0, 0⟩, by decide⟩,
   ⟨inSession (wr R0 Reg.SEC.SESS_IDLE 1), ⟨3, 0, 0, 0⟩, by decide⟩,
   ⟨later 60000000000 (inSession (wr R0 Reg.SEC.SESS_MAX 1)), ⟨3, 0, 0, 0⟩, by decide⟩,
   ⟨inSession (wr R0 Reg.SEC.SESS_MAX 1), ⟨3, 0, 0, 0⟩, by decide⟩⟩

theorem witness_RequestsTakeTwo :
    (∃ (s : State) (a : Agent) (v : Word), Awake s ∧ Accepts s a Reg.SEC.REQ_CTRL LockKind.cmd ∧ bit v 0 = true ∧
      bit v 1 = false ∧ bit v 2 = false ∧ s.sec.sess.isSome = true ∧ s.sec.req = none ∧ reqInvalid s (reqBody s) = false) ∧
    (∃ (s : State) (a : Agent) (v : Word) (c : ℕ), Awake s ∧ Accepts s a Reg.SEC.REQ_CTRL LockKind.cmd ∧ bit v 0 = true ∧
      bit v 1 = false ∧ bit v 2 = false ∧ (s.sec.sess = none ∧ c = 5 ∨ s.sec.sess.isSome = true ∧ s.sec.req.isSome = true ∧
      c = 8 ∨ s.sec.sess.isSome = true ∧ s.sec.req = none ∧ reqInvalid s (reqBody s) = true ∧ c = 6)) ∧
    (∃ (s : State) (a : Agent) (v : Word) (r : Request), Awake s ∧ Accepts s a Reg.SEC.REQ_CTRL LockKind.cmd ∧ bit v 0 = false ∧
      bit v 1 = true ∧ bit v 2 = false ∧ s.sec.req = some r ∧ r.busy = none ∧
      (r.approvals.any fun e ↦ e.1 == fld v 7 4) = false) ∧
    (∃ (s : State) (a : Agent) (v : Word) (r : Request), Awake s ∧ Accepts s a Reg.SEC.REQ_CTRL LockKind.cmd ∧ bit v 0 = false ∧
      bit v 1 = false ∧ bit v 2 = true ∧ s.sec.sess.isSome = true ∧ s.sec.req = some r) ∧
    (∃ (s : State) (r : Request) (slot : ℕ), Awake s ∧ s.sec.req = some r ∧ r.busy = some slot) ∧
    (∃ (s : State) (r : Request), Awake s ∧ s.sec.req = some r ∧ r.busy = none) ∧
    (∃ (s : State) (r : Request), Awake s ∧ s.sec.req = some r ∧ overUs s r.since (1000000 * rdF s Reg.SEC.REQ_TMO 16 0) = true ∧
      enoughApprovals s r = false) ∧
    (∃ (s : State) (r : Request), Awake s ∧ s.sec.req = some r ∧
      overUs s r.since (1000000 * rdF s Reg.SEC.REQ_TMO 16 0) = false) ∧
    (∃ (s : State) (r : Request), Awake s ∧ s.sec.req = some r ∧ enoughApprovals s r = false) ∧
    (∃ (s : State) (r : Request) (ok : Bool), Awake s ∧ s.sec.req = some r ∧ enoughApprovals s r = true ∧ beAt r.body 0 1 = 1 ∧
      ok = false) ∧
    (∃ (s : State) (r : Request) (ok : Bool), Awake s ∧ s.sec.req = some r ∧ enoughApprovals s r = true ∧ beAt r.body 0 1 = 1 ∧
      ok = true) ∧
    (∃ (s : State) (r : Request), Awake s ∧ s.sec.req = some r ∧ enoughApprovals s r = true ∧ beAt r.body 0 1 = 2 ∧
      beAt r.body 2 1 ≠ 0) ∧
    (∃ (s : State) (r : Request), Awake s ∧ s.sec.req = some r ∧ enoughApprovals s r = true ∧ beAt r.body 0 1 = 2 ∧
      beAt r.body 2 1 = 0 ∧ sessSlot s = beAt r.body 1 1) ∧
    (∃ (s : State) (r : Request), Awake s ∧ s.sec.req = some r ∧ enoughApprovals s r = true ∧ beAt r.body 0 1 = 3 ∧
      beAt r.body 2 1 = 0) ∧
    (∃ (s : State) (r : Request), Awake s ∧ s.sec.req = some r ∧ enoughApprovals s r = true ∧ beAt r.body 0 1 = 3 ∧
      beAt r.body 2 1 ≠ 0) ∧
    (∃ (s : State) (r : Request), Awake s ∧ s.sec.req = some r ∧ enoughApprovals s r = true ∧ beAt r.body 0 1 = 4) ∧
    (∃ (s : State) (r : Request), Awake s ∧ s.sec.req = some r ∧ enoughApprovals s r = true ∧ beAt r.body 0 1 = 5) ∧
    (∃ (s : State) (a : Agent) (v : Word), Awake s ∧ Accepts s a Reg.SEC.DEBUG_RELOCK LockKind.cmd ∧ bit v 0 = true ∧
      s.sec.sess.isSome = true) :=
  ⟨⟨{ inSession R0 with sec.win := [(2112, 0x104)] }, .tc, 1, by decide⟩,
   ⟨R0, .tc, 1, 5, by decide⟩,
   ⟨asking (requestA (bodyA 4 1 0) []), .tc, 0x22, requestA (bodyA 4 1 0) [], by decide⟩,
   ⟨asking (requestA (bodyA 4 1 0) []), .tc, 4, requestA (bodyA 4 1 0) [], by decide⟩,
   ⟨asking { requestA (bodyA 4 1 0) [] with busy := some 1 }, { requestA (bodyA 4 1 0) [] with busy := some 1 }, 1, by decide⟩,
   ⟨asking (requestA (bodyA 4 1 0) []), requestA (bodyA 4 1 0) [], by decide⟩,
   ⟨later 1000000002 (wr (asking (requestA (bodyA 4 1 0) [])) Reg.SEC.REQ_TMO 1), requestA (bodyA 4 1 0) [], by decide⟩,
   ⟨wr (asking (requestA (bodyA 4 1 0) [])) Reg.SEC.REQ_TMO 1, requestA (bodyA 4 1 0) [], by decide⟩,
   ⟨asking (requestA (bodyA 4 1 0) []), requestA (bodyA 4 1 0) [], by decide⟩,
   ⟨asking (requestA (bodyA 1 0 0) [(0, 3), (1, 3)]), requestA (bodyA 1 0 0) [(0, 3), (1, 3)], false, by decide⟩,
   ⟨asking (requestA (bodyA 1 0 0) [(0, 3), (1, 3)]), requestA (bodyA 1 0 0) [(0, 3), (1, 3)], true, by decide⟩,
   ⟨asking (requestA (bodyA 2 5 1) [(0, 3), (1, 3)]), requestA (bodyA 2 5 1) [(0, 3), (1, 3)], by decide⟩,
   ⟨asking (requestA (bodyA 2 0 0) [(0, 3), (1, 3)]), requestA (bodyA 2 0 0) [(0, 3), (1, 3)], by decide⟩,
   ⟨asking (requestA (bodyA 3 0 0) [(0, 3), (1, 3)]), requestA (bodyA 3 0 0) [(0, 3), (1, 3)], by decide⟩,
   ⟨asking (requestA (bodyA 3 0 1) [(0, 3), (1, 3)]), requestA (bodyA 3 0 1) [(0, 3), (1, 3)], by decide⟩,
   ⟨asking (requestA (bodyA 4 1 0) [(0, 3), (1, 3)]), requestA (bodyA 4 1 0) [(0, 3), (1, 3)], by decide⟩,
   ⟨asking (requestA (bodyA 5 0 0) [(0, 3), (1, 3)]), requestA (bodyA 5 0 0) [(0, 3), (1, 3)], by decide⟩,
   ⟨inSession R0, .tc, 1, by decide⟩⟩

theorem witness_BootLogUpdateAttest :
    (∃ (s : State), Awake s ∧ s.sec.booted = true) ∧
    (∃ (s : State), Awake s ∧ s.sec.booted = false ∧ imageOk s s.nor.slotA = false ∧ imageOk s s.nor.slotB = false) ∧
    (∃ (s : State), Awake s ∧ s.aud.queue = []) ∧
    (∃ (s : State) (r : AudRec) (rest : List AudRec), Awake s ∧ s.aud.queue = r :: rest ∧ s.sec.booted = true ∧
      safe s Page.AUD = false) ∧
    (∃ (s : State) (a : Agent) (v : Word), Awake s ∧ Accepts s a Reg.SEC.UPD_CTRL LockKind.cmd ∧ bit v 0 = true ∧
      2 ≤ sessRole s ∧ s.sec.update = none) ∧
    (∃ (s : State) (a : Agent) (v : Word), Awake s ∧ Accepts s a Reg.SEC.UPD_CTRL LockKind.cmd ∧ bit v 0 = true ∧
      sessRole s < 2) ∧
    (∃ (s : State) (a : Agent) (v : Word), Awake s ∧ Accepts s a Reg.SEC.ATTEST LockKind.cmd ∧ bit v 0 = true ∧
      s.sec.attNonce = none) ∧
    (∃ (s : State) (addr len : ℕ), Awake s ∧ s.sec.update = some (addr, len) ∧
      (12582912 < len ∨ inMem addr len = false ∨ imageOk s (memRead s addr len) = false)) ∧
    (∃ (s : State) (n : List Byte), Awake s ∧ s.sec.attNonce = some n) :=
  ⟨⟨bootedA, by decide⟩,
   ⟨R0, by decide⟩,
   ⟨R0, by decide⟩,
   ⟨{ bootedA with aud.queue := [⟨1, 0, 0, [], 0, 0⟩] }, ⟨1, 0, 0, [], 0, 0⟩, [], by decide⟩,
   ⟨inSession R0, .tc, 1, by decide⟩,
   ⟨R0, .tc, 1, by decide⟩,
   ⟨R0, .tc, 1, by decide⟩,
   ⟨{ R0 with sec.update := some (0, 12582913) }, 0, 12582913, by decide⟩,
   ⟨{ R0 with sec.attNonce := some [] }, [], by decide⟩⟩

theorem witness_ManagementCores :
    (∃ (s : State) (core addr len : ℕ), Awake s ∧ core < 4 ∧ mayAccess s core = true ∧ inMem addr len = true ∧
      inWindow s addr len false = true) ∧
    (∃ (s : State) (core addr len : ℕ), Awake s ∧ core < 4 ∧ mayAccess s core = true ∧ inMem addr len = true ∧
      inWindow s addr len true = true) ∧
    (∃ (s : State) (core addr len : ℕ) (write : Bool), Awake s ∧ core < 4 ∧ mayAccess s core = true ∧
      inWindow s addr len write = false ∧ write = false) ∧
    (∃ (s : State) (addr len : ℕ), Awake s ∧ s.sec.booted = true ∧ inMem addr len = true) ∧
    (∃ (s : State) (a : Agent), Awake s ∧ Accepts s a Reg.MGT.WDT_KICK LockKind.cmd) ∧
    (∃ (s : State) (a : Agent), Awake s ∧ Accepts s a Reg.MGT.TXQ_IDX LockKind.cfg ∧ rdB s Reg.MGT.TXQ_CFG 0 = false) ∧
    (∃ (s : State) (k : ℕ), Awake s ∧ k < 4 ∧ watched s k = true ∧
      elapsedUs s (Store.get zeroN s.mgt.kicked k) (1000 * rdF s Reg.MGT.WDT_MS 15 0) = true) ∧
    (∃ (s : State) (k : ℕ), Awake s ∧ k < 4 ∧ watched s k = true ∧
      elapsedUs s (Store.get zeroN s.mgt.kicked k) (1000 * rdF s Reg.MGT.WDT_MS 15 0) = false) ∧
    (∃ (s : State) (k : ℕ), Awake s ∧ k < 4 ∧ running s k = true) ∧
    (∃ (s : State) (k : ℕ), Awake s ∧ k < 4 ∧ running s k = false) ∧
    (∃ (s : State) (k c : ℕ), Awake s ∧ k < 4 ∧ List.find? (fun e ↦ e.1 == k) s.mgt.waiting = some (k, c) ∧ s.mgt.restarts = [] ∧
      codeIntact s = false) ∧
    (∃ (s : State) (k c : ℕ), Awake s ∧ k < 4 ∧ List.find? (fun e ↦ e.1 == k) s.mgt.waiting = some (k, c) ∧ s.mgt.restarts = [] ∧
      codeIntact s = true) ∧
    (∃ (s : State) (k c : ℕ) (l : List (ℕ × ℕ)), Awake s ∧ k < 4 ∧ List.find? (fun e ↦ e.1 == k) s.mgt.waiting = some (k, c) ∧
      s.mgt.restarts = l ∧ 4 ≤ l.length ∧ (∀ e ∈ l, e.1 = k ∧ elapsedUs s e.2 60000000 = false)) ∧
    (∃ (s : State) (p kind : ℕ), Awake s ∧ List.find? (fun e ↦ e.1 == p && e.2.1 == kind) s.mgt.txBusy = none) ∧
    (∃ (s : State) (p kind : ℕ) (e : ℕ × ℕ × ℕ), Awake s ∧ List.find? (fun e ↦ e.1 == p && e.2.1 == kind) s.mgt.txBusy = some e ∧
      p < 16) :=
  ⟨⟨coresOn 1, 3, 4095, 1, by decide⟩,
   ⟨coresOn 2, 3, 4095, 1, by decide⟩,
   ⟨coresOn 1, 3, 4095, 2, false, by decide⟩,
   ⟨{ R0 with sec.booted := true }, memBytes - 1, 1, by decide⟩,
   ⟨R0, .tc, by decide⟩,
   ⟨R0, .tc, by decide⟩,
   ⟨later 1000000 (coresOn 0), 3, by decide⟩,
   ⟨coresOn 0, 3, by decide⟩,
   ⟨coresOn 0, 3, by decide⟩,
   ⟨R0, 3, by decide⟩,
   ⟨{ R0 with mgt.waiting := [(3, 1)], sec.meas := [[], [], [], [1]] }, 3, 1, by decide⟩,
   ⟨{ R0 with mgt.waiting := [(3, 1)] }, 3, 1, by decide⟩,
   ⟨{ R0 with mgt.waiting := [(3, 1)], mgt.restarts := [(3, 0), (3, 0), (3, 0), (3, 0)] }, 3, 1, [(3, 0), (3, 0), (3, 0), (3, 0)], by decide⟩,
   ⟨R0, 15, 0, by decide⟩,
   ⟨{ R0 with mgt.txBusy := [(15, 0, 9)] }, 15, 0, (15, 0, 9), by decide⟩⟩

theorem witness_DeviceResets :
    (∃ (s : State) (c : Instr) (b : ℕ), (c = Instr.refSysLoss SysLoss.pll ∧ b = 3 ∨ c = Instr.refSysLoss SysLoss.ref ∧
      b = 4 ∨ c = Instr.supplyDip ∧ b = 6 ∨ (∃ h, s.rst.hot = some h ∧ (s.rst.held = true ∨ elapsedUs s h 1000 = true) ∧
      c = Instr.thermalTrip ∧ b = 5) ∨ (∃ ns, c = Instr.resetPin ns ∧ 1000 ≤ ns ∧
      (s.rst.tripped = false ∨ s.rst.cool = true) ∧ b = 1) ∨ Awake s ∧ Accepts s Agent.host Reg.CRU.DEV_RST LockKind.cmd ∧
      safe s Page.CRU = false ∧ c = Instr.devRst Agent.host 42435 ∧ b = 2) ∧ c = Instr.thermalTrip) ∧
    (∃ (s : State) (c : Instr) (b : ℕ), (c = Instr.refSysLoss SysLoss.pll ∧ b = 3 ∨ c = Instr.refSysLoss SysLoss.ref ∧
      b = 4 ∨ c = Instr.supplyDip ∧ b = 6 ∨ (∃ h, s.rst.hot = some h ∧ (s.rst.held = true ∨ elapsedUs s h 1000 = true) ∧
      c = Instr.thermalTrip ∧ b = 5) ∨ (∃ ns, c = Instr.resetPin ns ∧ 1000 ≤ ns ∧
      (s.rst.tripped = false ∨ s.rst.cool = true) ∧ b = 1) ∨ Awake s ∧ Accepts s Agent.host Reg.CRU.DEV_RST LockKind.cmd ∧
      safe s Page.CRU = false ∧ c = Instr.devRst Agent.host 42435 ∧ b = 2) ∧ c = Instr.refSysLoss SysLoss.ref) ∧
    (∃ (s : State), (∀ (h : ℕ), s.rst.hot = some h → s.rst.held = false ∧ elapsedUs s h 1000 = false)) ∧
    (∃ (s : State) (ns : ℕ), (ns < 100 ∨ s.rst.tripped = true ∧ s.rst.cool = false)) ∧
    (∃ (s : State) (a : Agent) (v : Word), Awake s ∧ Accepts s a Reg.CRU.DEV_RST LockKind.cmd ∧ v ≠ 42435 ∧ a ≠ Agent.fw) ∧
    (∃ (s : State) (a : Agent), Awake s ∧ Accepts s a Reg.CRU.DEV_RST LockKind.cmd ∧ a = Agent.fw) ∧
    (∃ (s : State), (s.rst.held = false ∨ s.rst.tripped = true)) ∧
    (∃ (s : State), s.rst.held = true ∧ s.rst.tripped = false) :=
  ⟨⟨({ R0 with rst.hot := some 0, rst.held := true }), .thermalTrip, 5, (.inr (.inr (.inr (.inl ⟨0, rfl, .inl rfl, rfl, rfl⟩)))), by decide⟩,
   ⟨R0, (.refSysLoss .ref), 4, (.inr (.inl ⟨rfl, rfl⟩)), by decide⟩,
   ⟨R0, (by intro h e; cases e)⟩,
   ⟨R0, 99, by decide⟩,
   ⟨R0, .tc, 0, by decide⟩,
   ⟨R0, .fw, by decide⟩,
   ⟨R0, by decide⟩,
   ⟨{ R0 with rst.held := true }, by decide⟩⟩

theorem witness_ClocksLinksAndStandby :
    (∃ (s : State) (o : ℕ), Awake s ∧ o < 32 ∧ bit s.rst.octets o = false) ∧
    (∃ (s : State) (o : ℕ), Awake s ∧ o < 32 ∧ bit s.rst.octets o = true) ∧
    (∃ (s : State) (i : ℕ), Awake s ∧ i < 16 ∧ bit s.rst.igs i = false) ∧
    (∃ (s : State) (i : ℕ), Awake s ∧ i < 16 ∧ bit s.rst.igs i = true) ∧
    (∃ (s : State) (k : ℕ), Awake s ∧ k < 4) ∧
    (∃ (s : State), Awake s ∧ s.rst.pwr = PwrMode.entering ∧ s.rst.pwrNext = none) ∧
    (∃ (s : State), Awake s ∧ s.rst.pwr = PwrMode.leaving ∧ s.rst.pwrNext = none) ∧
    (∃ (s : State), Awake s ∧ s.rst.pwr = PwrMode.active) ∧
    (∃ (s : State) (a : Agent) (v : Word), Awake s ∧ Accepts s a Reg.CRU.PWR_CTRL LockKind.cfg ∧ safe s Page.CRU = false ∧
      bit v 0 = true ∧ s.rst.pwr = PwrMode.active) ∧
    (∃ (s : State) (a : Agent) (v : Word), Awake s ∧ Accepts s a Reg.CRU.PWR_CTRL LockKind.cfg ∧ safe s Page.CRU = false ∧
      bit v 0 = false ∧ s.rst.pwr = PwrMode.standby) :=
  ⟨⟨{ R0 with rst.octets := 0 }, 31, by decide⟩,
   ⟨R0, 31, by decide⟩,
   ⟨{ R0 with rst.igs := 0 }, 15, by decide⟩,
   ⟨R0, 15, by decide⟩,
   ⟨R0, 3, by decide⟩,
   ⟨{ R0 with rst.pwr := .entering }, by decide⟩,
   ⟨{ R0 with rst.pwr := .leaving }, by decide⟩,
   ⟨R0, by decide⟩,
   ⟨R0, .tc, 1, by decide⟩,
   ⟨{ R0 with rst.pwr := .standby }, .tc, 0, by decide⟩⟩

theorem witness_SensorsAndTimeouts :
    (∃ (dies : List (BitVec 16)), dies.length = 16) :=
  ⟨List.replicate 16 0, by decide⟩

/-! ### Witnesses that rest on the open verdict of the signature check (Config.slhVerify, log entry 7). The first premise says
that a signature verifies; it is consistent, since nothing constrains the verdict. -/

/-- A verified challenge of slot 0. -/
def openingA : State :=
  { challenged with sec.opening := some 0, sec.keys := [(0, ⟨1, 0, [], []⟩)] }

theorem witness_SessionVerified (h : ∀ k c m g, Config.slhVerify k c m g = true) :
    ∃ (s : State) (slot : ℕ), Awake s ∧ s.sec.opening = some slot ∧ sessVerdict s slot = 0 :=
  ⟨openingA, 0, by decide, by decide, by unfold sessVerdict; simp only [h]; decide⟩

/-- An image header: YZ8I, format 1, version 0, key slot 0, one empty component. -/
def imageA : List Byte :=
  [0x59, 0x5A, 0x38, 0x49, 1, 0, 0, 0] ++ List.replicate 12 0 ++ [1, 0, 0, 0] ++ List.replicate 40 0 ++
    List.replicate 16 0 ++ sha256 []

/-- OTP with that image's key. -/
def imageKeys : OtpSt := ⟨[(0, ⟨sha256 (List.replicate 32 0), true, false⟩)], [], [], 0, 0⟩

theorem imageA_ok (s : State) (h : ∀ k c m g, Config.slhVerify k c m g = true) (o : s.otp = imageKeys) :
    imageOk s imageA = true := by
  unfold imageOk fwKey
  simp only [h, o]
  decide +kernel

theorem witness_ImageBoots (h : ∀ k c m g, Config.slhVerify k c m g = true) :
    ∃ s : State, Awake s ∧ s.sec.booted = false ∧ s.nor.preferred < 2 ∧
      (imageOk s s.nor.slotA = true ∨ imageOk s s.nor.slotB = true) :=
  ⟨{ R0 with otp := imageKeys, nor.slotA := imageA, nor.preferred := 1 }, by decide, by decide, by decide,
    Or.inl (imageA_ok _ h rfl)⟩

/-- The state with that image in memory, to be written as an update. -/
def updating : State :=
  { R0 with otp := imageKeys, mem := Store.setList memDefault [] 0 imageA, sec.update := some (0, 112) }

theorem witness_ImageUpdates (h : ∀ k c m g, Config.slhVerify k c m g = true) :
    ∃ (s : State) (addr len : ℕ), Awake s ∧ s.sec.update = some (addr, len) ∧
      (len ≤ 12582912 ∧ inMem addr len = true ∧ memPoisoned s addr len = false ∧
        imageOk s (memRead s addr len) = true) ∧ updateSlot s ≤ 1 := by
  refine ⟨updating, 0, 112, by decide, by decide, ⟨by decide, by decide, by decide +kernel, ?_⟩, by decide⟩
  rw [show memRead updating 0 112 = imageA by decide +kernel]
  exact imageA_ok _ h rfl

/-! ### Well-formedness: each check refuses an ill-formed operand -/

theorem test_wellformed_pages :
    (Instr.rcRead .host 2).wellFormed = false ∧ (Instr.rcRead .host 0x2000000).wellFormed = false ∧
    (Instr.rcRead .host 0x1FFFFFC).wellFormed = true ∧ (Instr.softResetDone 0x2000).wellFormed = false ∧
    (Instr.parityMismatch 0 2).wellFormed = false ∧ (Instr.parityMismatch 0 0x1000).wellFormed = false ∧
    (Instr.bar2Read 0x1FFFFFFFFF 2).wellFormed = false ∧ (Instr.bar2Read 0x1FFFFFFFFF 1).wellFormed = true := by decide

theorem test_wellformed_numbers :
    (Instr.nop 256).wellFormed = false ∧ (Instr.sessionComplete 0 64).wellFormed = false ∧
    (Instr.frameCloseTimeout 64).wellFormed = false ∧ (Instr.fencePublish 0 8).wellFormed = false ∧
    (Instr.igPllUnlock 16).wellFormed = false ∧ (Instr.sdiLockChange 8 true true 0 true).wellFormed = false ∧
    (Instr.svLinkChange 2 true true).wellFormed = false ∧
    (Instr.placementPacket (.sv 2) 0 0 0 []).wellFormed = false ∧
    (Instr.placementPacket (.ig 0) 0 65536 0 []).wellFormed = false ∧ (Instr.dmaTrigger 16).wellFormed = false ∧
    (Instr.moderationExpiry 64).wellFormed = false ∧ (Instr.irqOffer 1024).wellFormed = false ∧
    (Instr.claim .fw 5).wellFormed = false ∧ (Instr.phaseStart 0 8).wellFormed = false ∧
    (Instr.fetchRelease 0 0 1024).wellFormed = false ∧ (Instr.awningGroupLatch 0 0 256).wellFormed = false ∧
    (Instr.arbitrationWindowEnd 128).wellFormed = false ∧ (Instr.coreFault 4).wellFormed = false ∧
    (Instr.twinLinkChange 2 true).wellFormed = false ∧ (Instr.octetPllUnlock 32).wellFormed = false ∧
    (Instr.hbmRetrain 4).wellFormed = false := by decide

theorem test_wellformed_lists :
    (Instr.malformedRecord 0 (List.replicate 1501 0)).wellFormed = false ∧
    (Instr.challengeReady []).wellFormed = false ∧ (Instr.transmitDone 2 1).wellFormed = false ∧
    (Instr.railSample [] []).wellFormed = false ∧ (Instr.temperatureSample [] []).wellFormed = false ∧
    (Instr.commitCheckDone [⟨0, 0, 0, true⟩]).wellFormed = false ∧
    (Instr.commitCheckDone [⟨8, 0, 0, true⟩]).wellFormed = true := by decide +kernel

/-! ### Decoding. No row of the command table gives bits, so no word spells a command; the pitch words of R210 and R211 are
written out bit by bit: opcode in [63:58], operand fields as R211 places them. -/

theorem test_no_word_spells_a_command : decodeTableWord 32 5 = none ∧ State.reset.withFetchWord 32 5 = State.reset := by decide

theorem test_pitch_words :
    decodePitch 0x0000000000000000 = some .nop ∧
    decodePitch 0x0700000000050007 = some (.set ⟨true, true, false, 7, 5, 0⟩) ∧
    decodePitch 0x0C000000000001FF = some (.loop 0x1FF) ∧
    decodePitch 0x1600000012340007 = some (.waitBand ⟨true, 7, 0x1234⟩) ∧
    decodePitch 0x18000000DEADBEEF = some (.waitTime 0xDEADBEEF) ∧
    decodePitch 0x1C00000000030101 = some (.waitEvent 0x101 3) := by decide

theorem test_pitch_words_rest :
    decodePitch 0x21C0002035020C05 = some (.send ⟨false, true, true, true, 5, 3, 2, 5, 0x203⟩) ∧
    decodePitch 0x2C00000000000000 = some .seqEnd ∧
    decodePitch 0x1C01000000030101 = none ∧ decodePitch 0x3000000000000000 = none ∧
    decodePitch 0x0000000000000001 = none := by decide

/-! ### Values of the spec's worked examples -/

/-- 06, a presenter feed: stage 2 of Y = 502, Cb = Cr = 512. -/
theorem test_range_presenter : rangeYcc 6 true [32159, 32801, 32801] = [32767, 0, 0] := by decide

/-- 06: SOURCE_OVER of 198,685 at sa = 786,432 over red 524,288. -/
theorem test_blend_presenter : blendChan 0 false 198685 0x100000 786432 786432 524288 0x100000 = 280086 := by decide

/-- 06: the post-blend identity passes 280,086. -/
theorem test_post_identity : postBlend R0 { ctxA with n := 2, phOut := 1 } 0 280086 = (280086, false) := by decide

/-- 06: the pixel's 30-bit word. -/
theorem test_quantise_and_pack :
    packPixel 10 (quantise 0 10 5000 1200 280086) (quantise 0 10 5000 1200 214550) (quantise 0 10 5000 1200 181782) =
      0x112348B2 := by decide

/-- 07, a seam cell: the matrix rows 15892 410 0, 246 15974 164, 0 328 15728, offsets −64 −48 −80. -/
theorem test_calibrate_seam :
    (calibrate (some ([0x14, 0x3E, 0x9A, 1, 0, 0, 0xF6, 0, 0x66, 0x3E, 0xA4, 0, 0, 0, 0x48, 1, 0x70, 0x3D,
      0xC0, 0xFF, 0xD0, 0xFF, 0xB0, 0xFF, 3, 0, 0, 0] ++ List.replicate 4 0)) [280086, 214550, 181782]).1 =
      [276980, 215158, 178719] := by decide

/-- A placement of the three-camera stage: its time within a second and X. -/
def placeX (ns x : Nat) : Place :=
  ⟨List.replicate 14 0 ++ beBytes 4 ns ++ [0, 0] ++ beBytes 4 x ++ beBytes 4 11200 ++ beBytes 4 81920 ++ beBytes 4 46080 ++
    List.replicate 12 0⟩

/-- 03, camera B's awning: group 10 extrapolates 6,750,000 ns to X = 96,310. -/
theorem test_awning_group_10 :
    extrapolate (some (placeX 0 96000)) (placeX 1000000 96040) 6750000 = ((96310, 11200, 81920, 46080), 3) := by decide

/-- 11, control traffic: wire times of 137 and 11 clocks. -/
theorem test_wire_times : wireTime 1070 = 137 ∧ wireTime 64 = 11 := by decide

/-- Tile port 5 on, its virtual time 1000, and the registers listed. -/
def portFive (l : List (Nat × Word)) : State :=
  wrs ([(Reg.TP.PORT_CTRL 5, 0x1401), (Reg.TLG.TLG_CTRL, 1), (Reg.TP.WFQ_V 5, 1000)] ++ l) R0

/-- 11: finish tags 2095 (weight 255) and 22,504 (weight 1) from V = 1000. -/
theorem test_finish_tags :
    (session (backlog (portFive [(Reg.TP.SESS_CFG 5 3, 255)]) 5 3 { CSession.reset with f := 900 }
      { creqA 0 none none with frame := List.replicate 1052 0 }) 5 3).f = 2095 ∧
    (session (backlog (portFive [(Reg.TP.SESS_CFG 5 7, 1)]) 5 7 { CSession.reset with f := 900 }
      { creqA 0 none none with frame := List.replicate 28 0 }) 5 7).f = 22504 := by decide +kernel

/-- 12, a master change: a step of −3,200,000 ns against JUMP_MAX = 1000 µs is refused and recorded. -/
theorem test_step_refused :
    let s := wrs [(Reg.TIM.TIM_STATUS, 1), (Reg.TIM.STEP_NS, BitVec.ofInt 32 (-3200000))] (later 10000000 R0)
    rd (after s (exec (.stepOffset .tc 1) s)) Reg.TIM.STEP_REFUSED = 1 := by decide

/-- 15, two cores: MC1 holds 35 at 0x50, so source 39 goes to the idle MC0. -/
theorem test_core_choice :
    chooseCore { wr R0 Reg.ICU.TGT_EN 0x13 with
      icu.cfg := [(35, 0x1350), (39, 0x1B20)], icu.src := [(35, ⟨false, false, true, 1, none, none⟩)] } 39 = some (0, false) := by
  decide

/-! ### One step -/

/-- R273: a tick adds the increment, 2 ns after reset. -/
theorem test_tick : (after R0 (exec .timeCounterTick R0)).time.count = 2 * 2 ^ 32 := by decide

/-- R384: the host's write of an installer register without a session is refused and counted. -/
theorem test_write_refused :
    rd (after R0 (exec (.registerWrite .host Reg.TIM.JUMP_MAX 4000) R0)) (Reg.HDR.PAGE_LOCK_VIOL Page.TIM) = 1 ∧
    rd (after R0 (exec (.registerWrite .host Reg.TIM.JUMP_MAX 4000) R0)) Reg.TIM.JUMP_MAX = 1000 := by decide

/-- R14: a read of a clear-on-read counter returns it and clears it. -/
theorem test_rc_read :
    rd (after (wr R0 0x94 7) (exec (.rcRead .host 0x94) (wr R0 0x94 7))) 0x94 = 0 := by decide

end Sys2Proof.Tests
end

section
/-! SUPPORT. What holds of every command: it answers a next state with the queue as it was (R8), and a held reset or a gated clock
stops it (R431, R436). -/

namespace Sys2Proof.Machine

/-- The queue's part of what an operation keeps. -/
theorem pending_of_keep {s : State} {o : Host.Outcome State Fault Refusal} {P : State → Prop}
    (h : ∃ t, o = .next t ∧ t.pending = s.pending ∧ P t) : ∃ t, o = .next t ∧ t.pending = s.pending := by
  obtain ⟨t, ht, hp, -⟩ := h
  exact ⟨t, ht, hp⟩

/-- Every command answers a next state and leaves the queue of waiting commands alone. -/
theorem exec_keeps_queue (c : Instr) (s : State) : ∃ t, exec c s = .next t ∧ t.pending = s.pending := by
  cases c with
  | registerWrite => exact pending_of_keep (execRegisterWrite_keep ..)
  | rcRead => exact pending_of_keep (execRcRead_keep ..)
  | w1cWrite => exact pending_of_keep (execW1cWrite_keep ..)
  | partialAccess => exact pending_of_keep (execPartialAccess_keep ..)
  | indDataRead => exact pending_of_keep (execIndDataRead_keep ..)
  | indDataWrite => exact pending_of_keep (execIndDataWrite_keep ..)
  | pageLockWrite => exact pending_of_keep (execPageLockWrite_keep ..)
  | parityMismatch => exact pending_of_keep (execParityMismatch_keep ..)
  | pageDisable => exact pending_of_keep (execPageDisable_keep ..)
  | pageEnable => exact pending_of_keep (execPageEnable_keep ..)
  | pageSoftReset => exact pending_of_keep (execPageSoftReset_keep ..)
  | softResetDone => exact pending_of_keep (execSoftResetDone_keep ..)
  | bar2Read => exact pending_of_keep (execBar2Read_keep ..)
  | bar2Write => exact pending_of_keep (execBar2Write_keep ..)
  | pcieLinkChange => exact pending_of_keep (execPcieLinkChange_keep ..)
  | igLinkChange => exact pending_of_keep (execIgLinkChange_keep ..)
  | igFrameRx => exact pending_of_keep (execIgFrameRx_keep ..)
  | bufferAssign => exact pending_of_keep (execBufferAssign_keep ..)
  | frameCloseTimeout => exact pending_of_keep (execFrameCloseTimeout_keep ..)
  | fencePublish => exact pending_of_keep (execFencePublish_keep ..)
  | streamEnable => exact pending_of_keep (execStreamEnable_keep ..)
  | streamDisable => exact pending_of_keep (execStreamDisable_keep ..)
  | ingestEnable => exact pending_of_keep (execIngestEnable_keep ..)
  | ingestDisable => exact pending_of_keep (execIngestDisable_keep ..)
  | sdiLockChange => exact pending_of_keep (execSdiLockChange_keep ..)
  | sdiFrameRx => exact pending_of_keep (execSdiFrameRx_keep ..)
  | commit => exact pending_of_keep (execCommit_keep ..)
  | commitCheckDone => exact pending_of_keep (execCommitCheckDone_keep ..)
  | commitCancel => exact pending_of_keep (execCommitCancel_keep ..)
  | layerLatch => exact pending_of_keep (execLayerLatch_keep ..)
  | placementPacket => exact pending_of_keep (execPlacementPacket_keep ..)
  | awningGroupLatch => exact pending_of_keep (execAwningGroupLatch_keep ..)
  | spanBuildStart => exact pending_of_keep (execSpanBuildStart_keep ..)
  | spanBuildDone => exact pending_of_keep (execSpanBuildDone_keep ..)
  | spanSwap => exact pending_of_keep (execSpanSwap_keep ..)
  | fetchRelease => exact pending_of_keep (execFetchRelease_keep ..)
  | fetchDataReturn => exact pending_of_keep (execFetchDataReturn_keep ..)
  | fabricSlotGrant => exact pending_of_keep (execFabricSlotGrant_keep ..)
  | arbitrationWindowEnd => exact pending_of_keep (execArbitrationWindowEnd_keep ..)
  | recheckGo => exact pending_of_keep (execRecheckGo_keep ..)
  | recheckDone => exact pending_of_keep (execRecheckDone_keep ..)
  | contextGranuleReturn => exact pending_of_keep (execContextGranuleReturn_keep ..)
  | calEnable => exact pending_of_keep (execCalEnable_keep ..)
  | flipGo => exact pending_of_keep (execFlipGo_keep ..)
  | scrubCheck => exact pending_of_keep (execScrubCheck_keep ..)
  | bandEnter => exact pending_of_keep (execBandEnter_keep ..)
  | compositionStepDone => exact pending_of_keep (execCompositionStepDone_keep ..)
  | bandDeadline => exact pending_of_keep (execBandDeadline_keep ..)
  | gsFillGo => exact pending_of_keep (execGsFillGo_keep ..)
  | gsFillDone => exact pending_of_keep (execGsFillDone_keep ..)
  | seqRestart => exact pending_of_keep (execSeqRestart_keep ..)
  | nop => exact pending_of_keep (execNop_keep ..)
  | set => exact pending_of_keep (execSet_keep ..)
  | add => exact pending_of_keep (execAdd_keep ..)
  | loop => exact pending_of_keep (execLoop_keep ..)
  | endloop => exact pending_of_keep (execEndloop_keep ..)
  | waitBand => exact pending_of_keep (execWaitBand_keep ..)
  | waitBandRelease => exact pending_of_keep (execWaitBandRelease_keep ..)
  | waitTime => exact pending_of_keep (execWaitTime_keep ..)
  | waitTimeRelease => exact pending_of_keep (execWaitTimeRelease_keep ..)
  | waitEvent => exact pending_of_keep (execWaitEvent_keep ..)
  | waitEventRelease => exact pending_of_keep (execWaitEventRelease_keep ..)
  | waitEventTimeout => exact pending_of_keep (execWaitEventTimeout_keep ..)
  | send => exact pending_of_keep (execSend_keep ..)
  | pixelFrameStart => exact pending_of_keep (execPixelFrameStart_keep ..)
  | close => exact pending_of_keep (execClose_keep ..)
  | closeRelease => exact pending_of_keep (execCloseRelease_keep ..)
  | signal => exact pending_of_keep (execSignal_keep ..)
  | seqEnd => exact pending_of_keep (execSeqEnd_keep ..)
  | loadCheckGo => exact pending_of_keep (execLoadCheckGo_keep ..)
  | loadCheckDone => exact pending_of_keep (execLoadCheckDone_keep ..)
  | swapGo => exact pending_of_keep (execSwapGo_keep ..)
  | swapCancel => exact pending_of_keep (execSwapCancel_keep ..)
  | seqEnable => exact pending_of_keep (execSeqEnable_keep ..)
  | seqDisable => exact pending_of_keep (execSeqDisable_keep ..)
  | tileLinkChange => exact pending_of_keep (execTileLinkChange_keep ..)
  | tileFrameRx => exact pending_of_keep (execTileFrameRx_keep ..)
  | farOkLoss => exact pending_of_keep (execFarOkLoss_keep ..)
  | timeFrameTick => exact pending_of_keep (execTimeFrameTick_keep ..)
  | lanternQueue => exact pending_of_keep (execLanternQueue_keep ..)
  | egressSelect => exact pending_of_keep (execEgressSelect_keep ..)
  | txFrameDone => exact pending_of_keep (execTxFrameDone_keep ..)
  | gateWindowOpen => exact pending_of_keep (execGateWindowOpen_keep ..)
  | sessionDoorbell => exact pending_of_keep (execSessionDoorbell_keep ..)
  | sessionDescReadDone => exact pending_of_keep (execSessionDescReadDone_keep ..)
  | sessionAckTimeout => exact pending_of_keep (execSessionAckTimeout_keep ..)
  | sessionComplete => exact pending_of_keep (execSessionComplete_keep ..)
  | mqDoorbell => exact pending_of_keep (execMqDoorbell_keep ..)
  | mqDescReadDone => exact pending_of_keep (execMqDescReadDone_keep ..)
  | queueSample => exact pending_of_keep (execQueueSample_keep ..)
  | sampleClear => exact pending_of_keep (execSampleClear_keep ..)
  | timeCounterTick => exact pending_of_keep (execTimeCounterTick_keep ..)
  | incOfsWrite => exact pending_of_keep (execIncOfsWrite_keep ..)
  | captureGo => exact pending_of_keep (execCaptureGo_keep ..)
  | captureArm => exact pending_of_keep (execCaptureArm_keep ..)
  | captureEvent => exact pending_of_keep (execCaptureEvent_keep ..)
  | ppsEnd => exact pending_of_keep (execPpsEnd_keep ..)
  | stepOffset => exact pending_of_keep (execStepOffset_keep ..)
  | stepAbsolute => exact pending_of_keep (execStepAbsolute_keep ..)
  | svLinkChange => exact pending_of_keep (execSvLinkChange_keep ..)
  | svFrameRx => exact pending_of_keep (execSvFrameRx_keep ..)
  | ptpMessage => exact pending_of_keep (execPtpMessage_keep ..)
  | syncTimeout => exact pending_of_keep (execSyncTimeout_keep ..)
  | holdoverEnd => exact pending_of_keep (execHoldoverEnd_keep ..)
  | lockedWrite => exact pending_of_keep (execLockedWrite_keep ..)
  | phaseEnable => exact pending_of_keep (execPhaseEnable_keep ..)
  | phaseDisable => exact pending_of_keep (execPhaseDisable_keep ..)
  | phaseStart => exact pending_of_keep (execPhaseStart_keep ..)
  | offsetApplyGo => exact pending_of_keep (execOffsetApplyGo_keep ..)
  | offsetApplyEffect => exact pending_of_keep (execOffsetApplyEffect_keep ..)
  | twinEnable => exact pending_of_keep (execTwinEnable_keep ..)
  | twinDisable => exact pending_of_keep (execTwinDisable_keep ..)
  | twinLinkChange => exact pending_of_keep (execTwinLinkChange_keep ..)
  | healthRecord => exact pending_of_keep (execHealthRecord_keep ..)
  | timeRecord => exact pending_of_keep (execTimeRecord_keep ..)
  | commitRecord => exact pending_of_keep (execCommitRecord_keep ..)
  | cancelRecord => exact pending_of_keep (execCancelRecord_keep ..)
  | digestRecord => exact pending_of_keep (execDigestRecord_keep ..)
  | flipRecord => exact pending_of_keep (execFlipRecord_keep ..)
  | placeRecord => exact pending_of_keep (execPlaceRecord_keep ..)
  | fenceRecord => exact pending_of_keep (execFenceRecord_keep ..)
  | digestSend => exact pending_of_keep (execDigestSend_keep ..)
  | digestCompare => exact pending_of_keep (execDigestCompare_keep ..)
  | mirroredCancelApply => exact pending_of_keep (execMirroredCancelApply_keep ..)
  | placeApply => exact pending_of_keep (execPlaceApply_keep ..)
  | fencePairReady => exact pending_of_keep (execFencePairReady_keep ..)
  | healthSend => exact pending_of_keep (execHealthSend_keep ..)
  | twinTimeSend => exact pending_of_keep (execTwinTimeSend_keep ..)
  | peerLoss => exact pending_of_keep (execPeerLoss_keep ..)
  | searchTimeout => exact pending_of_keep (execSearchTimeout_keep ..)
  | join => exact pending_of_keep (execJoin_keep ..)
  | phaseYield => exact pending_of_keep (execPhaseYield_keep ..)
  | bltCopy => exact pending_of_keep (execBltCopy_keep ..)
  | bltFill => exact pending_of_keep (execBltFill_keep ..)
  | bltCopyBlend => exact pending_of_keep (execBltCopyBlend_keep ..)
  | bltCopyConvert => exact pending_of_keep (execBltCopyConvert_keep ..)
  | bltAbort => exact pending_of_keep (execBltAbort_keep ..)
  | bltDone => exact pending_of_keep (execBltDone_keep ..)
  | bltMemError => exact pending_of_keep (execBltMemError_keep ..)
  | dmaGo => exact pending_of_keep (execDmaGo_keep ..)
  | dmaTrigger => exact pending_of_keep (execDmaTrigger_keep ..)
  | dmaDescFetchDone => exact pending_of_keep (execDmaDescFetchDone_keep ..)
  | dmaDescCheck => exact pending_of_keep (execDmaDescCheck_keep ..)
  | dmaDescComplete => exact pending_of_keep (execDmaDescComplete_keep ..)
  | dmaResponseError => exact pending_of_keep (execDmaResponseError_keep ..)
  | dmaTimeout => exact pending_of_keep (execDmaTimeout_keep ..)
  | dmaDrainDone => exact pending_of_keep (execDmaDrainDone_keep ..)
  | dmaAbort => exact pending_of_keep (execDmaAbort_keep ..)
  | dmaErrClear => exact pending_of_keep (execDmaErrClear_keep ..)
  | irqInputRise => exact pending_of_keep (execIrqInputRise_keep ..)
  | irqOffer => exact pending_of_keep (execIrqOffer_keep ..)
  | moderationExpiry => exact pending_of_keep (execModerationExpiry_keep ..)
  | offerWithdraw => exact pending_of_keep (execOfferWithdraw_keep ..)
  | claim => exact pending_of_keep (execClaim_keep ..)
  | hostClaim => exact pending_of_keep (execHostClaim_keep ..)
  | cpl => exact pending_of_keep (execCpl_keep ..)
  | hostCpl => exact pending_of_keep (execHostCpl_keep ..)
  | swSourceSet => exact pending_of_keep (execSwSourceSet_keep ..)
  | swSourceClear => exact pending_of_keep (execSwSourceClear_keep ..)
  | d0Entry => exact pending_of_keep (execD0Entry_keep ..)
  | swPulse => exact pending_of_keep (execSwPulse_keep ..)
  | tcBoot => exact pending_of_keep (execTcBoot_keep ..)
  | auditRecordWrite => exact pending_of_keep (execAuditRecordWrite_keep ..)
  | imageUpdate => exact pending_of_keep (execImageUpdate_keep ..)
  | imageUpdateDone => exact pending_of_keep (execImageUpdateDone_keep ..)
  | attest => exact pending_of_keep (execAttest_keep ..)
  | attestDone => exact pending_of_keep (execAttestDone_keep ..)
  | fwMemoryAccess => exact pending_of_keep (execFwMemoryAccess_keep ..)
  | wdtKick => exact pending_of_keep (execWdtKick_keep ..)
  | watchdogExpiry => exact pending_of_keep (execWatchdogExpiry_keep ..)
  | coreFault => exact pending_of_keep (execCoreFault_keep ..)
  | coreRestart => exact pending_of_keep (execCoreRestart_keep ..)
  | txqDoorbell => exact pending_of_keep (execTxqDoorbell_keep ..)
  | sessionChallenge => exact pending_of_keep (execSessionChallenge_keep ..)
  | challengeReady => exact pending_of_keep (execChallengeReady_keep ..)
  | challengeExpiry => exact pending_of_keep (execChallengeExpiry_keep ..)
  | sessionOpen => exact pending_of_keep (execSessionOpen_keep ..)
  | sessionVerifyDone => exact pending_of_keep (execSessionVerifyDone_keep ..)
  | sessionClose => exact pending_of_keep (execSessionClose_keep ..)
  | sessionIdleTimeout => exact pending_of_keep (execSessionIdleTimeout_keep ..)
  | sessionMaxTimeout => exact pending_of_keep (execSessionMaxTimeout_keep ..)
  | reqSubmit => exact pending_of_keep (execReqSubmit_keep ..)
  | reqApprove => exact pending_of_keep (execReqApprove_keep ..)
  | approvalVerifyDone => exact pending_of_keep (execApprovalVerifyDone_keep ..)
  | reqWithdraw => exact pending_of_keep (execReqWithdraw_keep ..)
  | reqTimeout => exact pending_of_keep (execReqTimeout_keep ..)
  | rights => exact pending_of_keep (execRights_keep ..)
  | enrol => exact pending_of_keep (execEnrol_keep ..)
  | fwkey => exact pending_of_keep (execFwkey_keep ..)
  | debug => exact pending_of_keep (execDebug_keep ..)
  | jump => exact pending_of_keep (execJump_keep ..)
  | debugRelock => exact pending_of_keep (execDebugRelock_keep ..)
  | powerOnReset => exact pending_of_keep (execPowerOnReset_keep ..)
  | resetPin => exact pending_of_keep (execResetPin_keep ..)
  | devRst => exact pending_of_keep (execDevRst_keep ..)
  | resetRelease => exact pending_of_keep (execResetRelease_keep ..)
  | sramInitDone => exact pending_of_keep (execSramInitDone_keep ..)
  | hbmTrained => exact pending_of_keep (execHbmTrained_keep ..)
  | refSysLoss => exact pending_of_keep (execRefSysLoss_keep ..)
  | octetPllUnlock => exact pending_of_keep (execOctetPllUnlock_keep ..)
  | igPllUnlock => exact pending_of_keep (execIgPllUnlock_keep ..)
  | refSdiLoss => exact pending_of_keep (execRefSdiLoss_keep ..)
  | refAonLoss => exact pending_of_keep (execRefAonLoss_keep ..)
  | pcieDomainReset => exact pending_of_keep (execPcieDomainReset_keep ..)
  | supplyDip => exact pending_of_keep (execSupplyDip_keep ..)
  | thermalTrip => exact pending_of_keep (execThermalTrip_keep ..)
  | hbmRetrain => exact pending_of_keep (execHbmRetrain_keep ..)
  | standbyEnter => exact pending_of_keep (execStandbyEnter_keep ..)
  | standbyLeave => exact pending_of_keep (execStandbyLeave_keep ..)
  | standbyTransitionDone => exact pending_of_keep (execStandbyTransitionDone_keep ..)
  | railSample => exact pending_of_keep (execRailSample_keep ..)
  | malformedRecord => exact pending_of_keep (execMalformedRecord_keep ..)
  | configurationWrite => exact pending_of_keep (execConfigurationWrite_keep ..)
  | tapAccess => exact pending_of_keep (execTapAccess_keep ..)
  | transmitDone => exact pending_of_keep (execTransmitDone_keep ..)
  | hbmRetrainingDone => exact pending_of_keep (execHbmRetrainingDone_keep ..)
  | octetPllRelock => exact pending_of_keep (execOctetPllRelock_keep ..)
  | igPllRelock => exact pending_of_keep (execIgPllRelock_keep ..)
  | refSdiReturn => exact pending_of_keep (execRefSdiReturn_keep ..)
  | refAonReturn => exact pending_of_keep (execRefAonReturn_keep ..)
  | pcieDomainRelease => exact pending_of_keep (execPcieDomainRelease_keep ..)
  | completionTimeout => exact pending_of_keep (execCompletionTimeout_keep ..)
  | sessionLockoutEnd => exact pending_of_keep (execSessionLockoutEnd_keep ..)
  | powerSample => exact pending_of_keep (execPowerSample_keep ..)
  | temperatureSample => exact pending_of_keep (execTemperatureSample_keep ..)
  | frequencyMeasurement => exact pending_of_keep (execFrequencyMeasurement_keep ..)

/-- While a device reset is held, a command that does not act in reset changes nothing (R431). -/
theorem exec_held {c : Instr} {s : State} (hc : actsInReset c = false) (h : s.rst.held = true) : exec c s = .next s := by
  cases c with
  | powerOnReset | resetPin | resetRelease | refSysLoss | supplyDip | thermalTrip | refAonLoss | refAonReturn |
  refSdiLoss | refSdiReturn | pcieDomainReset | pcieDomainRelease | railSample | powerSample | temperatureSample |
  frequencyMeasurement => cases hc
  | _ => exact live_held h

/-- In STANDBY and on the way into it, a command that a gated clock drives changes nothing (R436). -/
theorem exec_gated {c : Instr} {s : State} (hc : stopsInStandby c = true) (h : serdesOn s = false) : exec c s = .next s := by
  cases c with
  | commitCheckDone | layerLatch | placementPacket | awningGroupLatch | spanBuildStart | spanBuildDone | spanSwap |
  fetchRelease | fetchDataReturn | fabricSlotGrant | arbitrationWindowEnd | recheckDone | contextGranuleReturn |
  scrubCheck | bandEnter | compositionStepDone | bandDeadline | gsFillDone | seqRestart | nop | set | add | loop |
  endloop | waitBand | waitBandRelease | waitTime | waitTimeRelease | waitEvent | waitEventRelease | waitEventTimeout |
  send | pixelFrameStart | close | closeRelease | signal | seqEnd | loadCheckDone | farOkLoss | lanternQueue |
  txFrameDone | sessionDescReadDone | sessionAckTimeout | sessionComplete | mqDescReadDone | digestSend | digestCompare
  | mirroredCancelApply | placeApply | fencePairReady | healthSend | twinTimeSend | join | phaseYield | bltDone |
  bltMemError | dmaTrigger | dmaDescFetchDone | dmaDescCheck | dmaDescComplete | dmaResponseError | dmaTimeout |
  dmaDrainDone => exact wall_gated h
  | _ => cases hc

end Sys2Proof.Machine
end

section
/-! SUPPORT. The register file at reset, and what a plain access by address does to a register at 0x080 or above (R14, R377, R380). -/

namespace Sys2Proof.Machine

/-! ### Reset words -/

/-- At reset the register file lists nothing. -/
theorem rd_reset (addr : Nat) : rd State.reset addr = resetWord addr := rfl

/-- The registers with a reset value per die, grade or rail stand at 0x080 or above. -/
theorem resetSpecial_header {addr : Nat} (h : addr % 0x1000 < 0x80) : resetSpecial addr = none := by
  have ne {b : Nat} (hb : 0x80 ≤ b % 0x1000) : addr ≠ b := by rintro rfl; omega
  unfold resetSpecial
  rw [if_neg (ne (by decide)), if_neg (ne (by decide)), if_neg (ne (by decide)), if_neg (by omega)]

/-- On a listed page the common header resets as R377 says. -/
theorem resetWord_header {pg off : Nat} (hpg : (pageInfo pg).isSome = true) (h : off < 0x40) :
    resetWord (0x1000 * pg + off) = resetHeader off := by
  obtain ⟨d, hd⟩ := Option.isSome_iff_exists.mp hpg
  have hoff : (0x1000 * pg + off) % 0x1000 = off := by omega
  have hspecial : resetSpecial (0x1000 * pg + off) = none := resetSpecial_header (by omega)
  simp only [resetWord, hspecial, pageOf_header pg off (by omega), hd, hoff, if_pos h]

/-! ### A page that hears of a write -/

/-- A fall of a page's input is seen by the interrupt controller alone (R356). -/
theorem notePage_frame (s : State) (addr : Nat) : notePage s addr = { s with icu := (notePage s addr).icu } := by
  unfold notePage
  split
  · exact noteFall_frame s _
  · rfl

@[simp] theorem rd_notePage (s : State) (addr b : Nat) : rd (notePage s addr) b = rd s b := by
  rw [notePage_frame]; rfl

/-! ### Writes by address -/

/-- Where a row stands, its page is listed. -/
theorem pageInfo_isSome_of_regRow {addr : Nat} {x : PageKind × Nat × RegRow} (h : regRow addr = some x) :
    (pageInfo (pageOf addr)).isSome = true := by
  unfold regRow at h
  cases hp : pageInfo (pageOf addr) with
  | none => simp [hp] at h
  | some d => rfl

/-- A write at 0x080 or above of a listed page reaches the page's own registers. -/
theorem writeReg_body {s : State} {a : Agent} {addr : Nat} {v : Word} (hmsix : msixAt addr = none) (h4 : addr % 4 = 0)
    (hoff : 0x80 ≤ addr % 0x1000) (hpg : (pageInfo (pageOf addr)).isSome = true) :
    writeReg s a addr v = writeBody s a addr v := by
  have hlisted : ((pageInfo (pageOf addr)).isNone || addr % 4 != 0) = false := by
    simp [h4, hpg]
  simp only [writeReg, hmsix, hlisted, Bool.false_eq_true, if_false]
  rw [if_neg (by omega), if_neg (by omega)]

/-- A write where no register stands has no effect of its own (R376). -/
theorem writeBody_unlisted {s : State} {a : Agent} {addr : Nat} {v : Word} (hrow : regRow addr = none) :
    writeBody s a addr v = guarded s a addr v .open s := by
  simp only [writeBody, hrow]

/-- A write that raises JUMP_MAX above 10000 by an agent that may not (R278). -/
abbrev RaisesJumpMax (a : Agent) (k : PageKind) (addr : Nat) (v : Word) : Prop :=
  k = .tim ∧ addr % 0x1000 = 0xB8 ∧ a ≠ .tc ∧ 10000 < v.toNat

/-- A write of an RW register that is no command of its own goes through lock CFG to acceptReg. -/
theorem writeBody_rw {s : State} {a : Agent} {addr : Nat} {v : Word} {k : PageKind} {i : Nat} {r : RegRow}
    (hrow : regRow addr = some (k, i, r)) (hacc : r.acc = .rw) (hown : writeOwn s a k i (addr % 0x1000) v = none)
    (hjump : ¬ RaisesJumpMax a k addr v) :
    writeBody s a addr v = guarded s a addr v .cfg (acceptReg s k i r addr v) := by
  simp only [writeBody, hrow, hown, hacc]
  rw [if_neg]
  intro hc
  simp only [Bool.and_eq_true, beq_iff_eq, bne_iff_ne, decide_eq_true_eq] at hc
  obtain ⟨⟨⟨⟨⟨hk, hoff⟩, ha⟩, hv⟩, -⟩, -⟩ := hc
  exact hjump ⟨hk, hoff, ha, hv⟩

/-- Kinds of page on which a write of some RW register does more than store. -/
def writeActs (k : PageKind) : Prop := k ∈ [.tp, .awn, .sv, .tlg, .tim, .twn, .mgt, .icu, .dc]

/-- On the other pages a write of a plain RW register stores through the mask, and the page's input may fall. -/
theorem acceptReg_stores {s : State} {k : PageKind} {i : Nat} {r : RegRow} {addr : Nat} {v : Word} (hk : ¬ writeActs k) :
    acceptReg s k i r addr v = notePage (wr s addr (written s k r addr v)) addr := by
  cases k with
  | tp | awn | sv | tlg | tim | twn | mgt | icu | dc => exact absurd (by simp [writeActs]) hk
  | _ => rfl

/-- A W1C register's write is stopped by no lock, and clears the bits written as 1 (R15, R385). -/
theorem writeW1c_clears {s : State} {a : Agent} {addr : Nat} {v : Word} {k : PageKind} {i : Nat} {r : RegRow}
    (hoff : 0x80 ≤ addr % 0x1000) (hrow : regRow addr = some (k, i, r)) (hacc : r.acc = .w1c) (hk : k ≠ .dc) :
    writeW1c s a addr v = guarded s a addr v .open (clearBits s addr (v &&& w32 r.mask)) := by
  have hhdr : ¬ (addr % 0x1000 = 0x14 ∧ (pageInfo (pageOf addr)).isSome = true) := by omega
  have hdc : (k == PageKind.dc) = false := by simpa using hk
  simp only [writeW1c, if_neg hhdr, hrow, if_pos hacc, hdc, Bool.false_eq_true, if_false]

/-- Clearing bits changes the register file, its parity and the interrupt controller alone. -/
theorem clearBits_frame (s : State) (addr : Nat) (v : Word) :
    clearBits s addr v = { s with regs := (clearBits s addr v).regs, par := (clearBits s addr v).par
                                  icu := (clearBits s addr v).icu } := by
  unfold clearBits
  rw [notePage_frame]
  rfl

/-- The bits written as 1 are clear, and no other register changes. -/
theorem rd_clearBits (s : State) (addr : Nat) (v : Word) (b : Nat) :
    rd (clearBits s addr v) b = if b = addr then rd s addr &&& ~~~v else rd s b := by
  rw [clearBits, rd_notePage, rd_wr]

/-! ### Reads by address -/

/-- A read at 0x080 or above of a listed page, outside the MSI-X structures, reaches the page's own registers. -/
theorem readReg_body {s : State} {a : Agent} {addr : Nat} (hmsix : msixAt addr = none) (h4 : addr % 4 = 0)
    (hoff : 0x80 ≤ addr % 0x1000) (hpba : ¬ (addr = 0x1FFF000 ∨ addr = 0x1FFF004))
    (hpg : (pageInfo (pageOf addr)).isSome = true) : readReg s a addr = readBody s a addr := by
  have hown : ((pageInfo (pageOf addr)).isNone || addr % 4 != 0 || decide (addr % 0x1000 < 0x80)) = false := by
    simp [h4, hoff, hpg]
  simp only [readReg, hmsix, if_neg hpba, hown, Bool.false_eq_true, if_false]

/-- A read of an RC register outside the interrupt controller answers what it shows and clears it. -/
theorem readBody_rc {s : State} {a : Agent} {addr : Nat} {k : PageKind} {i : Nat} {r : RegRow}
    (hrow : regRow addr = some (k, i, r)) (hk : k ≠ .icu) (hacc : r.acc = .rc) :
    readBody s a addr = clearRc (answer s a (regView s a addr)) addr := by
  have hicu : (k == PageKind.icu) = false := by simpa using hk
  simp only [readBody, hrow, if_pos hacc, hicu, Bool.false_and, Bool.false_eq_true, if_false]

/-- A read of any other register answers what it shows. -/
theorem readBody_answers {s : State} {a : Agent} {addr : Nat} {k : PageKind} {i : Nat} {r : RegRow}
    (hrow : regRow addr = some (k, i, r)) (hacc : r.acc ≠ .rc) : readBody s a addr = answer s a (regView s a addr) := by
  simp only [readBody, hrow, if_neg hacc]

/-- The agent that reads finds the word answered. -/
@[simp] theorem answer_word (s : State) (a : Agent) (w : Word) :
    Store.get zeroW (answer s a w).out.word (agentCode a) = w := Store.get_set_same ..

/-- Clearing an RC register changes the register file and its parity alone. -/
theorem clearRc_frame (s : State) (addr : Nat) :
    clearRc s addr = { s with regs := (clearRc s addr).regs, par := (clearRc s addr).par } := by
  unfold clearRc
  dsimp only
  split <;> rfl

/-- An RC register that has been read is 0, that of FW_FAULT too, whose record is freed beside it (R403). -/
theorem rd_clearRc_same (s : State) (addr : Nat) : rd (clearRc s addr) addr = 0 := by
  unfold clearRc
  dsimp only
  split
  · rename_i h
    subst h
    rw [rd_wrB, if_neg (by decide), rd_wr_same]
  · exact rd_wr_same ..

/-- No register changes but the one read and FW_FAULT's record. -/
theorem rd_clearRc_other (s : State) {addr b : Nat} (hb : b ≠ addr) (hi : b ≠ Reg.MGT.FW_FAULT_INFO) :
    rd (clearRc s addr) b = rd s b := by
  unfold clearRc
  dsimp only
  split
  · rw [rd_wrB, if_neg hi, rd_wr_other _ _ _ _ hb]
  · exact rd_wr_other _ _ _ _ hb

end Sys2Proof.Machine
end

section
/-! The statements of 00_scope: reset, that every command completes, and the register accesses that every page shares. -/

open Sys2Proof Sys2Proof.Machine

/-- Settles O2: the stores of State.reset list nothing, so each reads as its default; the header's words by R377. -/
theorem resetState : Obligations.ResetState := by
  have hpages (pg : Nat) (hpg : (pageInfo pg).isSome = true) :
      rdB State.reset (Reg.HDR.PAGE_CTRL pg) 0 = true ∧ rd State.reset (Reg.HDR.PAGE_LOCK pg) = 0 ∧
        rstBusy State.reset pg = false := by
    refine ⟨?_, ?_, rfl⟩
    · rw [rdB, rd_reset, resetWord_header hpg (by omega)]; decide
    · rw [rd_reset, resetWord_header hpg (by omega)]; decide
  exact ⟨⟨rfl, rfl, rd_reset, hpages, by decide, by decide, fun _ => rfl, fun _ => rfl, fun _ => rfl, rfl, rfl, fun _ => rfl⟩,
    rfl, rfl⟩

/-- Settles O4: each command's keep lemma for the queue; whatever does not act in a reset is run by live, and what a gated clock
drives by wall. -/
theorem everyCommandCompletes : Obligations.EveryCommandCompletes :=
  ⟨exec_keeps_queue, fun _ _ => exec_held, fun _ _ => exec_gated⟩

/-- Settles O8: the write reaches the page's registers, rights and locks let it pass, and acceptReg is what it does; off the pages
with a further effect acceptReg is the store alone. -/
theorem registerWriteStores : Obligations.RegisterWriteStores := by
  intro s a addr v hawake hmsix h4 hoff hpg
  have hexec : exec (.registerWrite a addr v) s = .next (writeBody s a addr v) := by
    rw [← writeReg_body hmsix h4 hoff hpg]
    exact live_awake hawake
  have haccept (k : PageKind) (i : Nat) (r : RegRow) (hrow : regRow addr = some (k, i, r)) (hacc : r.acc = .rw)
      (hown : writeOwn s a k i (addr % 0x1000) v = none) (hok : Accepts s a addr .cfg)
      (hjump : ¬ RaisesJumpMax a k addr v) :
      exec (.registerWrite a addr v) s = .next (touchSession s a (pageOf addr) (acceptReg s k i r addr v)) := by
    rw [hexec, writeBody_rw hrow hacc hown hjump, guarded_accepted hok]
  refine ⟨fun k i r hrow hacc hown hk hok => ?_, haccept, fun hrow hok => ?_⟩
  · have hjump : ¬ RaisesJumpMax a k addr v := by
      rintro ⟨rfl, -⟩
      simp at hk
    rw [haccept k i r hrow hacc hown hok hjump, acceptReg_stores hk]
  · rw [hexec, writeBody_unlisted hrow, guarded_accepted hok]

/-- Settles O10: a read of an RC register is its answer and clearRc, a read of an RW register its answer; a W1C write that rights
accept is clearBits. -/
theorem readsClearAndW1c : Obligations.ReadsClearAndW1c := by
  refine ⟨fun s a addr k i r hawake hmsix h4 hoff hp0 hp1 hrow hk => ?_,
    fun s a addr v k i r hawake hrow hacc hk hoff hok => ?_⟩
  · have hexec : exec (.rcRead a addr) s = .next (readBody s a addr) := by
      rw [← readReg_body hmsix h4 hoff (not_or.mpr ⟨hp0, hp1⟩) (pageInfo_isSome_of_regRow hrow)]
      exact live_awake hawake
    refine ⟨fun hacc => ?_, fun hacc => ?_⟩
    · have hframe := clearRc_frame (answer s a (regView s a addr)) addr
      refine ⟨_, by rw [hexec, readBody_rc hrow hk hacc], ?_, ?_, rd_clearRc_same .., fun b hb => ?_⟩
      · rw [hframe]; rfl
      · rw [hframe]; exact answer_word ..
      · simp only [List.mem_cons, List.not_mem_nil, or_false, not_or] at hb
        rw [rd_clearRc_other _ hb.1 hb.2, rd_answer]
    · exact ⟨_, by rw [hexec, readBody_answers hrow (by simp [hacc])], rfl, answer_word ..⟩
  · have hexec : exec (.w1cWrite a addr v) s = .next (writeW1c s a addr v) := live_awake hawake
    refine ⟨_, by rw [hexec, writeW1c_clears hoff hrow hacc hk, guarded_accepted hok], clearBits_frame .., ?_, fun b hb => ?_⟩
    · rw [rd_clearBits, if_pos rfl]
    · rw [rd_clearBits, if_neg (by simpa using hb)]

end

section
/-! SUPPORT. Ingest (R33 to R59): what a frame's way to its fence leaves alone, and what each of ingest's commands comes down to. -/

namespace Sys2Proof.Machine

/-! ### Counters -/

/-- A 64-bit counter's pair reads the count as it was and what was added, modulo 2^64. -/
theorem rd64_bump64_same (s : State) {lo hi : Nat} (n : Nat) (h : lo ≠ hi) :
    rd64 (bump64 s lo hi n) lo hi = (rd64 s lo hi + n) % 2 ^ 64 := by
  simp only [rd64, rdN, bump64, rd_wr_same, rd_wr_other _ _ _ _ h, w32, BitVec.toNat_ofNat]
  omega

/-- No register outside a counter's pair changes. -/
theorem rd_bump64_other (s : State) {lo hi b : Nat} (n : Nat) (hlo : b ≠ lo) (hhi : b ≠ hi) :
    rd (bump64 s lo hi n) b = rd s b := by
  rw [bump64, rd_wr_other _ _ _ _ hhi, rd_wr_other _ _ _ _ hlo]

/-- Two counters whose pairs lie apart count independently. -/
theorem rd64_bump64_other (s : State) {lo hi l h : Nat} (n : Nat) (hll : l ≠ lo) (hlh : l ≠ hi) (hhl : h ≠ lo) (hhh : h ≠ hi) :
    rd64 (bump64 s lo hi n) l h = rd64 s l h := by
  simp only [rd64, rdN, rd_bump64_other s n hll hlh, rd_bump64_other s n hhl hhh]

/-- A saturating counter reads one event more, and no other register changes. -/
theorem rd_bump_same (s : State) (a : Nat) : rd (bump s a) a = plusOne (rd s a) := by
  rw [rd_bump, if_pos rfl]; rfl

theorem rd_bump_other (s : State) {a b : Nat} (h : b ≠ a) : rd (bump s a) b = rd s b := by
  rw [rd_bump, if_neg h]

/-- A peak's register is the only one that changes. -/
theorem rd_peak_other (s : State) {a b : Nat} (v : Nat) (h : b ≠ a) : rd (peak s a v) b = rd s b := by
  unfold peak
  split
  · exact rd_wr_other _ _ _ _ h
  · rfl

/-- A counter beside a pair leaves the pair's count. -/
theorem rd64_bump_other (s : State) {a l h : Nat} (hl : l ≠ a) (hh : h ≠ a) : rd64 (bump s a) l h = rd64 s l h := by
  simp only [rd64, rdN, rd_bump_other s hl, rd_bump_other s hh]

/-- Of the state only the register file changes, and with it its parity. -/
def RegsOnly (s t : State) : Prop := t = { s with regs := t.regs, par := t.par }

theorem RegsOnly.trans {s t u : State} (h : RegsOnly s t) (k : RegsOnly t u) : RegsOnly s u :=
  Eq.trans k (by rw [h])

theorem regsOnly_wr (s : State) (a : Nat) (v : Word) : RegsOnly s (wr s a v) := (rfl)

theorem regsOnly_bump (s : State) (a : Nat) : RegsOnly s (bump s a) := regsOnly_wr ..

theorem regsOnly_bump64 (s : State) (lo hi n : Nat) : RegsOnly s (bump64 s lo hi n) :=
  (regsOnly_wr s lo _).trans (regsOnly_wr _ hi _)

/-! ### What a frame's way to its fence leaves alone -/

/-- Formation, closing and fencing of a frame of stream `st` (R40, R45) change no register, no word of the stream table and no other
engine, and of the stream's own engine neither the numbers received nor the buffers. -/
structure FrameStep (st : Nat) (s t : State) : Prop where
  regs : t.regs = s.regs
  cfg : t.ing.cfg = s.ing.cfg
  others : OtherStreams st s t
  seen : (stream t st).seen = (stream s st).seen
  bufs : (stream t st).bufs = (stream s st).bufs

theorem FrameStep.refl (st : Nat) (s : State) : FrameStep st s s := ⟨rfl, rfl, fun _ _ => rfl, rfl, rfl⟩

theorem FrameStep.trans {st : Nat} {s t u : State} (h : FrameStep st s t) (k : FrameStep st t u) : FrameStep st s u :=
  ⟨k.regs.trans h.regs, k.cfg.trans h.cfg, fun j hj => (k.others j hj).trans (h.others j hj), k.seen.trans h.seen,
    k.bufs.trans h.bufs⟩

theorem FrameStep.rd {st : Nat} {s t : State} (h : FrameStep st s t) (a : Nat) : rd t a = rd s a := by
  simp only [Machine.rd, h.regs]

/-- An engine whose numbers and buffers stay may take the stream's place. -/
theorem frameStep_setStream (s : State) (st : Nat) (x : Stream) (hs : x.seen = (stream s st).seen)
    (hb : x.bufs = (stream s st).bufs) : FrameStep st s (setStream s st x) :=
  ⟨rfl, rfl, fun _ hj => stream_setStream_other _ _ _ _ hj, by rw [stream_setStream_same, hs], by rw [stream_setStream_same, hb]⟩

/-- What changes ingest outside the engines and the stream table is such a step of any stream. -/
theorem frameStep_of_streams {s t : State} (st : Nat) (hr : t.regs = s.regs) (hc : t.ing.cfg = s.ing.cfg)
    (hs : t.ing.streams = s.ing.streams) : FrameStep st s t := by
  have h (j : Nat) : stream t j = stream s j := by simp only [stream, hs]
  exact ⟨hr, hc, fun j _ => h j, by rw [h], by rw [h]⟩

theorem frameStep_statBump (s : State) (st i w : Nat) : FrameStep st s (statBump s i w) := frameStep_of_streams st rfl rfl rfl

theorem frameStep_setFill (s : State) (st i v : Nat) : FrameStep st s (setFill s i v) := frameStep_of_streams st rfl rfl rfl

theorem frameStep_foldl {α : Type} {st : Nat} {f : State → α → State} (h : ∀ s a, FrameStep st s (f s a)) (l : List α) (s : State) :
    FrameStep st s (l.foldl f s) := by
  induction l generalizing s with
  | nil => exact .refl st s
  | cons a l ih => exact (h s a).trans (ih _)

theorem frameStep_queueWrites (s : State) (st i buf prt len : Nat) (segs : List Seg) :
    FrameStep st s (queueWrites s i buf prt len segs) := by
  unfold queueWrites
  dsimp only
  split <;> exact frameStep_of_streams st rfl rfl rfl

theorem frameStep_dropHeld (s : State) (st : Nat) (held : List (Nat × Nat × Nat × List Seg)) : FrameStep st s (dropHeld s held) :=
  frameStep_foldl (fun s _ => frameStep_setFill s st _ _) held s

theorem frameStep_removeFrame (s : State) (st : Nat) (f : OpenFrame) : FrameStep st s (removeFrame s st f) :=
  frameStep_setStream s st _ rfl rfl

theorem frameStep_noteWritten (s : State) (st buf : Nat) : FrameStep st s (noteWritten s st buf) := by
  unfold noteWritten
  dsimp only
  split
  · exact .refl st s
  next f _ =>
    split
    · exact .refl st s
    · split
      · exact (frameStep_setStream s st _ (by rfl) (by rfl)).trans (frameStep_of_streams st rfl rfl rfl)
      · exact frameStep_setStream s st _ rfl rfl

theorem frameStep_pendFence (s : State) (st : Nat) (f : OpenFrame) (buf : Nat) (inc : Bool) (missing : Nat) :
    FrameStep st s (pendFence s st f buf inc missing) :=
  (frameStep_setStream s st _ (by rfl) (by rfl)).trans (frameStep_noteWritten _ st buf)

theorem frameStep_finishFrame (s : State) (st : Nat) (f : OpenFrame) : FrameStep st s (finishFrame s st f) := by
  unfold finishFrame
  dsimp only
  split
  · exact (frameStep_removeFrame s st f).trans (frameStep_pendFence _ st f _ _ _)
  · exact frameStep_removeFrame s st f

theorem frameStep_settleFrames (n : Nat) (s : State) (st : Nat) : FrameStep st s (settleFrames n s st) := by
  induction n generalizing s with
  | zero => exact .refl st s
  | succ n ih =>
    unfold settleFrames
    split
    · exact (frameStep_finishFrame s st _).trans (ih _)
    · exact .refl st s

theorem frameStep_noteMarker (s : State) (st : Nat) (ts : Word) (q : Nat) : FrameStep st s (noteMarker s st ts q) := by
  unfold noteMarker
  dsimp only
  split
  · split
    · exact frameStep_setStream s st _ rfl rfl
    · exact .refl st s
  · split
    · exact frameStep_setStream s st _ rfl rfl
    · split
      · exact frameStep_setStream s st _ rfl rfl
      · exact .refl st s
  · exact .refl st s

theorem FrameStep.when {st : Nat} {s t : State} (c : Prop) [Decidable c] (h : FrameStep st s t) :
    FrameStep st s (if c then t else s) := by
  split
  · exact h
  · exact .refl st s

@[simp] theorem stream_setFill (s : State) (i v j : Nat) : stream (setFill s i v) j = stream s j := rfl

theorem stream_withWrites (s : State) (l : List IngWrite) (j : Nat) :
    stream { s with ing := { s.ing with writes := l } } j = stream s j := rfl

@[simp] theorem stream_queueWrites (s : State) (st buf prt len : Nat) (segs : List Seg) (j : Nat) :
    stream (queueWrites s st buf prt len segs) j = stream s j := by
  unfold queueWrites
  dsimp only
  split <;> rfl

/-! ### Packets of an open frame -/

/-- What a packet whose number is new brings about: the number is received, no other engine changes, and of the registers the
peak of the port's buffer alone. -/
structure Recorded (st prt q : Nat) (s t : State) : Prop where
  seen : (stream t st).seen.contains q = true
  others : OtherStreams st s t
  regs : RegsExcept [Reg.IG.BUF_PEAK prt] s t

theorem Recorded.step {st prt q : Nat} {s t u : State} (h : Recorded st prt q s t) (k : FrameStep st t u) : Recorded st prt q s u :=
  ⟨by rw [k.seen]; exact h.seen, fun j hj => (k.others j hj).trans (h.others j hj), fun a ha => (k.rd a).trans (h.regs a ha)⟩

/-- The window's move keeps the number it moves for. -/
theorem slide_seen (x : Stream) (q : Nat) : (x.slide q).seen.contains q = true := by
  simp [Stream.slide]

theorem recorded_setStream (s : State) (st prt q : Nat) (x : Stream) (h : x.seen = ((stream s st).slide q).seen) :
    Recorded st prt q s (setStream s st x) :=
  ⟨by rw [stream_setStream_same, h]; exact slide_seen _ q, fun _ hj => stream_setStream_other _ _ _ _ hj,
    fun a _ => rd_setStream s st x a⟩

/-- Bytes that join the port's buffer may raise its peak (R37). -/
theorem Recorded.buffered {st prt q : Nat} {s t : State} (h : Recorded st prt q s t) (c : Prop) [Decidable c] (v w : Nat) :
    Recorded st prt q s (if c then peak (setFill t prt v) (Reg.IG.BUF_PEAK prt) w else t) := by
  split
  · have k := h.step (frameStep_setFill t st prt v)
    exact ⟨by rw [stream_peak]; exact k.seen, fun j hj => by rw [stream_peak]; exact k.others j hj,
      fun a ha => by rw [rd_peak_other _ w (by simpa using ha)]; exact k.regs a ha⟩
  · exact h

/-- A packet whose number is new leaves it among the received ones (R40). -/
theorem takePacket_records (s : State) (st prt len : Nat) (a : Bool) (r : Rtp) :
    Recorded st prt r.seq.toNat s (takePacket s st prt len a r) := by
  unfold takePacket
  dsimp only
  split
  · exact recorded_setStream s st prt _ _ rfl
  next f _ =>
    refine .step (.step ?_ (.when _ (frameStep_noteMarker _ st _ _))) (frameStep_settleFrames 2 _ st)
    split
    · refine .step (.buffered ?_ _ _ _) (.when _ (frameStep_queueWrites _ st st _ _ _ _))
      exact recorded_setStream s st prt _ _ (by rfl)
    · refine .buffered ?_ _ _ _
      exact recorded_setStream s st prt _ _ (by rfl)

/-- The engine after path A's copy has taken the place of path B's: the copy is forgotten, and the frame counts one packet more of A
and one fewer of B (R41). -/
theorem stream_preferA {s : State} {st : Nat} {r : Rtp} {f : OpenFrame} (prt len tag : Nat)
    (hf : ((stream s st).frames.find? fun g => g.ts == r.ts) = some f) (j : Nat) :
    stream (preferA s st prt len r tag) j =
      if j = st then { stream s st with
        copies := (stream s st).copies.filter fun c => c.1 != r.seq.toNat
        frames := replaceFirst (· == f) (fun _ => { f with
          nA := f.nA + 1, nB := f.nB - 1
          held := f.held.map fun h => if h.1 == r.seq.toNat then (r.seq.toNat, prt, len, r.segs) else h }) (stream s st).frames }
      else stream s j := by
  unfold preferA
  simp only [stream_setStream_same, hf]
  -- Whichever write is withdrawn and wherever the bytes of the copy go, the engine put last is the one that stays.
  (repeat' split) <;>
    simp only [stream_queueWrites, stream_setFill, stream_setStream, stream_peak, stream_withWrites, if_true, if_false, *]

/-- The number is not below the newest received one, so R40's window does not make its packet late. -/
abbrev NotOlder (x : Stream) (q : Nat) : Prop := ∀ t, x.top = some t → 0 ≤ toSigned 32 (seqUp t q)

section
variable {s : State} {st prt len : Nat} {a : Bool} {r : Rtp} (hold : NotOlder (stream s st) r.seq.toNat)
  (hopen : ((stream s st).frames.any fun g => g.ts == r.ts) = true)
include hold hopen

/-- A packet of an open frame, its number not below the newest, is judged by its number alone: a new one is taken, and a known one
counts only as path A's copy of what path B brought in this clock (R40, R41). -/
theorem framePacket_open : framePacket s st prt len a r =
    if (stream s st).seen.contains r.seq.toNat then
      ((stream s st).copies.find? fun c => a && c.1 == r.seq.toNat && c.2.2 == igClk s).elim s
        fun c => preferA s st prt len r c.2.1
    else takePacket s st prt len a r := by
  unfold framePacket
  dsimp only
  rw [if_neg, if_pos hopen]
  · congr 1
    split <;> next h => rw [h]; rfl
  · intro h
    split at h
    next t ht =>
      have := hold t ht
      rw [Bool.and_eq_true, decide_eq_true_eq] at h
      omega
    · exact absurd h (by decide)

/-- A packet with a new number is taken (R40). -/
theorem framePacket_new (hseen : (stream s st).seen.contains r.seq.toNat = false) :
    framePacket s st prt len a r = takePacket s st prt len a r := by
  rw [framePacket_open hold hopen, hseen, if_neg (by decide)]

/-- Path A's copy of a packet that path B has brought in this very clock takes its place (R41). -/
theorem framePacket_copy (hseen : (stream s st).seen.contains r.seq.toNat = true)
    (hcopy : ((stream s st).copies.any fun c => c.1 == r.seq.toNat && c.2.2 == igClk s) = true) (ha : a = true) :
    ∃ tag, framePacket s st prt len a r = preferA s st prt len r tag := by
  subst ha
  simp only [framePacket_open hold hopen, hseen, if_true, Bool.true_and]
  obtain ⟨c, hc⟩ := List.find?_isSome.mpr (List.any_eq_true.mp hcopy) |> Option.isSome_iff_exists.mp
  exact ⟨c.2.1, by rw [hc]; rfl⟩

/-- Any other packet whose number is known changes nothing (R40). -/
theorem framePacket_duplicate (hseen : (stream s st).seen.contains r.seq.toNat = true)
    (hcopy : a = false ∨ ((stream s st).copies.any fun c => c.1 == r.seq.toNat && c.2.2 == igClk s) = false) :
    framePacket s st prt len a r = s := by
  have hnone : ((stream s st).copies.find? fun c => a && c.1 == r.seq.toNat && c.2.2 == igClk s) = none := by
    rw [List.find?_eq_none]
    intro c hc
    rcases hcopy with rfl | hcopy
    · simp
    · have := List.any_eq_false.mp hcopy c hc
      simp_all
  rw [framePacket_open hold hopen, hseen, if_pos rfl, hnone]
  rfl

end

/-- What makes R36 to R38 and R44 pass a packet of stream `st` at port `i` on to frame formation: ingest is on, the packet no longer
than a stream accepts, the port's buffer has room, the payload type fits, and the stream has no policer. -/
structure PacketPasses (s : State) (st i : Nat) (f : NetFrame) (r : Rtp) : Prop where
  rtp : f.rtp = some r
  on : rdB s Reg.IGS.IGS_CTRL 0 = true
  len : f.len ≤ 9216
  room : fillOf s i + f.len ≤ 0x100000
  type : bit (igsCfg s st 2) 15 = true → r.pt = fld (igsCfg s st 2) 14 8
  cir : fld (igsCfg s st 13) 16 0 = 0

theorem streamPacket_passes {s : State} {st i : Nat} {f : NetFrame} {r : Rtp} (a : Bool) (h : PacketPasses s st i f r) :
    streamPacket s st i a f = framePacket s st i f.len a r := by
  obtain ⟨hrtp, hon, hlen, hroom, htype, hcir⟩ := h
  have hpolice (n : Nat) : policeStream s st a n = (.green, s) := by simp only [policeStream, if_pos hcir]
  have hpt : ¬ (bit (igsCfg s st 2) 15 && r.pt != fld (igsCfg s st 2) 14 8) = true := by simpa using htype
  unfold streamPacket
  rw [hon, decide_eq_false (by unfold maxFrameBytes; omega), if_neg (by decide), if_neg (by omega)]
  simp only [hrtp, if_neg hpt, hpolice]
  rfl

/-! ### A frame received on a port -/

/-- The state once a port has counted a frame of `n` bytes (R36). -/
def igCounted (s : State) (i n : Nat) : State :=
  bump64 (bump64 s (Reg.IG.RX_FRAMES_LO i) (Reg.IG.RX_FRAMES_HI i) 1) (Reg.IG.RX_BYTES_LO i) (Reg.IG.RX_BYTES_HI i) n

/-- The registers in which a port counts every frame. -/
abbrev igCounters (i : Nat) : List Nat :=
  [Reg.IG.RX_FRAMES_LO i, Reg.IG.RX_FRAMES_HI i, Reg.IG.RX_BYTES_LO i, Reg.IG.RX_BYTES_HI i]

theorem regsOnly_igCounted (s : State) (i n : Nat) : RegsOnly s (igCounted s i n) :=
  (regsOnly_bump64 s _ _ _).trans (regsOnly_bump64 _ _ _ _)

theorem igCounted_ing (s : State) (i n : Nat) : (igCounted s i n).ing = s.ing := by
  rw [igCounted, bump64_ing, bump64_ing]

theorem stream_igCounted (s : State) (i n j : Nat) : stream (igCounted s i n) j = stream s j := by
  simp only [stream, igCounted_ing]

theorem igClk_igCounted (s : State) (i n : Nat) : igClk (igCounted s i n) = igClk s := by
  simp only [igClk, igCounted, bump64_time]

theorem rd_igCounted (s : State) (i n : Nat) : RegsExcept (igCounters i) s (igCounted s i n) := by
  intro b hb
  simp only [List.mem_cons, List.not_mem_nil, or_false, not_or] at hb
  obtain ⟨h1, h2, h3, h4⟩ := hb
  rw [igCounted, rd_bump64_other _ _ h3 h4, rd_bump64_other _ _ h1 h2]

/-- One more event counted beside a frame: no register but its counter and the port's own changes. -/
theorem regsExcept_bump_igCounted (s : State) (i n x : Nat) : RegsExcept (x :: igCounters i) s (bump (igCounted s i n) x) := by
  intro b hb
  obtain ⟨hx, hcnt⟩ := not_or.mp (List.mem_cons.not.mp hb)
  rw [rd_bump_other _ hx, rd_igCounted s i n b hcnt]

theorem rd_bump_igCounted (s : State) {i x : Nat} (n : Nat) (hx : x ∉ igCounters i) :
    rd (bump (igCounted s i n) x) x = plusOne (rd s x) := by
  rw [rd_bump_same, rd_igCounted s i n x hx]

theorem rd64_igCounted_frames (s : State) (i n : Nat) : rd64 (igCounted s i n) (Reg.IG.RX_FRAMES_LO i) (Reg.IG.RX_FRAMES_HI i) =
    (rd64 s (Reg.IG.RX_FRAMES_LO i) (Reg.IG.RX_FRAMES_HI i) + 1) % 2 ^ 64 := by
  rw [igCounted, rd64_bump64_other, rd64_bump64_same] <;> simp

theorem rd64_igCounted_bytes (s : State) (i n : Nat) : rd64 (igCounted s i n) (Reg.IG.RX_BYTES_LO i) (Reg.IG.RX_BYTES_HI i) =
    (rd64 s (Reg.IG.RX_BYTES_LO i) (Reg.IG.RX_BYTES_HI i) + n) % 2 ^ 64 := by
  rw [igCounted, rd64_bump64_same, rd64_bump64_other] <;> simp

/-- The stream table's control lies on a page of its own. -/
theorem rd_igCounted_ctrl (s : State) {i : Nat} (n : Nat) (hi : i < 16) :
    rd (igCounted s i n) Reg.IGS.IGS_CTRL = rd s Reg.IGS.IGS_CTRL := by
  apply rd_igCounted
  simp only [List.mem_cons, List.not_mem_nil, or_false, Reg.IGS.IGS_CTRL, Reg.IG.RX_FRAMES_LO, Reg.IG.RX_FRAMES_HI, Reg.IG.RX_BYTES_LO,
    Reg.IG.RX_BYTES_HI]
  omega

/-- A port's own counts make no difference to what lets a packet pass. -/
theorem PacketPasses.igCounted {s : State} {st i : Nat} {f : NetFrame} {r : Rtp} (h : PacketPasses s st i f r) (hi : i < 16)
    (n : Nat) : PacketPasses (igCounted s i n) st i f r := by
  obtain ⟨hrtp, hon, hlen, hroom, htype, hcir⟩ := h
  refine ⟨hrtp, ?_, hlen, ?_, ?_, ?_⟩
  · rwa [rdB, rd_igCounted_ctrl s n hi]
  · rwa [fillOf, igCounted_ing]
  · simpa only [igsCfg, igCounted_ing] using htype
  · simpa only [igsCfg, igCounted_ing] using hcir

/-- A port that is down or off receives nothing. -/
theorem igFrameRx_down {s : State} {i : Nat} (f : NetFrame) (hawake : Awake s) (hup : igUp s i = false) :
    exec (.igFrameRx i f) s = .next s := by
  change execIgFrameRx i f s = _
  unfold execIgFrameRx
  dsimp only
  rw [hup, Bool.and_false, if_neg (by decide)]
  exact live_awake hawake

section
variable {s : State} {i : Nat} {f : NetFrame} (hawake : Awake s) (hi : i < 16) (hup : igUp s i = true)
include hawake hi hup

/-- A frame with an FCS error counts as one, whatever it holds (R36). -/
theorem igFrameRx_fcsError (hfcs : f.fcsError = true) :
    exec (.igFrameRx i f) s = .next (bump (igCounted s i f.len) (Reg.IG.FCS_ERR i)) := by
  change execIgFrameRx i f s = _
  unfold execIgFrameRx
  simp only [hup, hi, hfcs]
  exact live_awake hawake

variable (hfcs : f.fcsError = false) (hsafe : safe s (Page.IG i) = false) (hptp : isPtp f = false)
  (hplace : isPlacement s f = false)
include hfcs hsafe hptp hplace

/-- A frame that no rule of R36 takes counts as unmatched where it is not forwarded. -/
theorem igFrameRx_unmatched (hmatch : ∀ u, f.udp = some u → matchStream s i u = none)
    (hfwd : rdB s (Reg.IG.PORT_CTRL i) 3 = false) :
    exec (.igFrameRx i f) s = .next (bump (igCounted s i f.len) (Reg.IG.UNMATCHED i)) := by
  have hbit : bit (rd s (Reg.IG.PORT_CTRL i)) 3 = false := hfwd
  change execIgFrameRx i f s = _
  unfold execIgFrameRx
  simp only [hup, hi, hfcs, hsafe, hptp, hplace, hbit, Bool.and_false, Bool.false_eq_true, if_false]
  cases hu : f.udp with
  | none => exact live_awake hawake
  | some u =>
    simp only [hmatch u hu]
    exact live_awake hawake

/-- A frame of a stream is that stream's packet (R36 rule 4). -/
theorem igFrameRx_stream {u : Udp} {st : Nat} {a : Bool} (hudp : f.udp = some u) (hmatch : matchStream s i u = some (st, a)) :
    exec (.igFrameRx i f) s = .next (streamPacket (igCounted s i f.len) st i a f) := by
  change execIgFrameRx i f s = _
  unfold execIgFrameRx
  simp only [hup, hi, hfcs, hsafe, hptp, hplace, hudp, hmatch, Bool.and_false, Bool.false_eq_true, if_false]
  exact live_awake hawake

/-- A packet that R36 to R38 and R44 let pass goes on to frame formation. -/
theorem igFrameRx_formation {u : Udp} {r : Rtp} {st : Nat} {a : Bool} (hudp : f.udp = some u)
    (hmatch : matchStream s i u = some (st, a)) (hpass : PacketPasses s st i f r) :
    exec (.igFrameRx i f) s = .next (framePacket (igCounted s i f.len) st i f.len a r) := by
  rw [igFrameRx_stream hawake hi hup hfcs hsafe hptp hplace hudp hmatch, streamPacket_passes a (hpass.igCounted hi _)]

end

/-- An entry of a list is the first one equal to itself. -/
theorem find?_beq_self {α : Type} [BEq α] [LawfulBEq α] {l : List α} {y : α} (h : y ∈ l) : l.find? (· == y) = some y := by
  have hsome : (l.find? (· == y)).isSome = true := List.find?_isSome.mpr ⟨y, h, beq_self_eq_true y⟩
  obtain ⟨z, hz⟩ := Option.isSome_iff_exists.mp hsome
  have hzy : z = y := by simpa using List.find?_some hz
  rw [hz, hzy]

/-- A replacement for an entry of a list stands in the list. -/
theorem mem_replaceFirst {α : Type} {p : α → Bool} {l : List α} {y : α} (f : α → α) (hy : l.find? p = some y) :
    f y ∈ replaceFirst p f l := by
  induction l with
  | nil => simp at hy
  | cons x xs ih =>
    rw [List.find?_cons] at hy
    unfold replaceFirst
    split at hy
    next hp => obtain rfl := Option.some.inj hy; simp [hp]
    next hp => simp [hp, ih hy]

/-! ### Links and SDI inputs -/

/-- The default of a port's link and of an SDI input's state: down. -/
abbrev linkDown : Nat → Bool × Bool × Nat := fun _ => (false, false, 0)

/-- The link of a port is taken while its PLL is locked and links are driven, and held down otherwise (R36, R429, R435). -/
theorem igLinkChange_takes {s : State} {i : Nat} (up align : Bool) (lanes : Nat) (hawake : Awake s) (hi : i < 16) :
    exec (.igLinkChange i up align lanes) s = .next (setIgLink s i
      (if bit s.rst.igs i = true ∧ serdesOn s = true then (up, align, lanes % 16) else (false, false, 0))) := by
  change execIgLinkChange i up align lanes s = _
  unfold execIgLinkChange
  simp only [if_pos hi, Bool.and_eq_true]
  exact live_awake hawake

/-- The state once an SDI input shows `l`. -/
def withSdi (s : State) (i : Nat) (l : Bool × Bool × Nat) : State :=
  { s with ing := { s.ing with sdi := Store.set linkDown s.ing.sdi i l } }

/-- An input with no lock to lose takes carrier and lock (R52). -/
theorem sdiLockChange_takes {s : State} {i : Nat} (carrier lock rate : Bool) (lines : Nat) (hawake : Awake s) (hi : i < 8)
    (hlock : (sdiState s i).2.1 = false) : exec (.sdiLockChange i carrier lock lines rate) s =
      .next (withSdi s i (carrier && serdesOn s, lock && rate && s.rst.refSdi && serdesOn s, lines)) := by
  change execSdiLockChange i carrier lock lines s rate = _
  unfold execSdiLockChange setSdi
  simp only [if_pos hi, hlock, Bool.false_and, Bool.false_eq_true, if_false]
  exact live_awake hawake

/-- A release point sets no register. -/
@[simp] theorem rd_releaseSafe (s : State) (pg b : Nat) : rd (releaseSafe s pg) b = rd s b := by
  unfold releaseSafe
  split
  · rfl
  · exact rd_setSafe ..

theorem releaseSafe_ing (s : State) (pg : Nat) : (releaseSafe s pg).ing = s.ing := by
  unfold releaseSafe
  split <;> rfl

/-- A page's safe action rests on its header and on what is noted of it. -/
theorem safe_of_header {s t : State} {pg : Nat} (herr : rd t (Reg.HDR.PAGE_ERR pg) = rd s (Reg.HDR.PAGE_ERR pg))
    (hctrl : rd t (Reg.HDR.PAGE_CTRL pg) = rd s (Reg.HDR.PAGE_CTRL pg)) (hsafe : t.par.safe = s.par.safe) : safe t pg = safe s pg := by
  simp only [safe, safeCause, rdB, herr, hctrl, hsafe]

/-- What a safe action noted reads as. -/
theorem safeNote_setSafe (s : State) (key k : Nat) (v : Bool) :
    Store.get noB (setSafe s key v).par.safe k = if k = key then v else Store.get noB s.par.safe k := by
  simp only [setSafe, Store.get_set]

/-- A page out of its safe action stays out of it at a release point. -/
theorem safe_releaseSafe {s : State} {pg : Nat} (h : safe s pg = false) : safe (releaseSafe s pg) pg = false := by
  have hcause (v : Bool) : safeCause (setSafe s pg v) pg = safeCause s pg := by simp only [safeCause, rdB, rd_setSafe]
  have hkey (n : Nat) : safeKey pg n ≠ pg := by unfold safeKey; omega
  unfold releaseSafe
  split
  · exact h
  · simp only [safe, hcause, safeNote_setSafe, if_neg (hkey _), if_true] at h ⊢
    cases hown : Store.get noB s.par.safe pg <;> simp_all

/-- The state once a locked input that is on has counted a frame (R53). -/
def sdiCounted (s : State) (i : Nat) (f : SdiFrame) : State :=
  releaseSafe (bump (wr (bumpN s (Reg.SD.CRC_ERR i) f.crcLines) (Reg.SD.ST352 i) f.st352) (Reg.SD.FRAMES i)) (Page.SD i)

theorem sdiCounted_ing (s : State) (i : Nat) (f : SdiFrame) : (sdiCounted s i f).ing = s.ing := by
  rw [sdiCounted, releaseSafe_ing, bump_ing, wr_ing, bumpN_ing]

theorem stream_sdiCounted (s : State) (i : Nat) (f : SdiFrame) (j : Nat) : stream (sdiCounted s i f) j = stream s j := by
  simp only [stream, sdiCounted_ing]

theorem rd_sdiCounted (s : State) (i : Nat) (f : SdiFrame) (b : Nat) : rd (sdiCounted s i f) b =
    if b = Reg.SD.FRAMES i then plusOne (rd s b) else if b = Reg.SD.ST352 i then f.st352
    else if b = Reg.SD.CRC_ERR i then w32 (min 0xFFFFFFFF (rdN s b + f.crcLines)) else rd s b := by
  rw [sdiCounted, rd_releaseSafe]
  split
  next h =>
    subst h
    rw [rd_bump_same, rd_wr_other _ _ _ _ (by simp), rd_bumpN, if_neg (by simp)]
  next h =>
    rw [rd_bump_other _ h, rd_wr]
    congr 1
    rw [rd_bumpN]
    split
    next h => rw [h]
    · rfl

/-- No register but the three that count and show a frame changes. -/
theorem rd_sdiCounted_other (s : State) {i b : Nat} (f : SdiFrame)
    (hb : b ∉ [Reg.SD.FRAMES i, Reg.SD.ST352 i, Reg.SD.CRC_ERR i]) : rd (sdiCounted s i f) b = rd s b := by
  simp only [List.mem_cons, List.not_mem_nil, or_false, not_or] at hb
  obtain ⟨h1, h2, h3⟩ := hb
  rw [rd_sdiCounted, if_neg h1, if_neg h2, if_neg h3]

theorem safe_sdiCounted {s : State} {i : Nat} (f : SdiFrame) (h : safe s (Page.SD i) = false) :
    safe (sdiCounted s i f) (Page.SD i) = false := by
  refine safe_releaseSafe (Eq.trans (safe_of_header (s := s) ?_ ?_ rfl) h) <;>
    rw [rd_bump_other, rd_wr_other, rd_bumpN, if_neg] <;>
    simp only [Reg.HDR.PAGE_ERR, Reg.HDR.PAGE_CTRL, Reg.SD.FRAMES, Reg.SD.ST352, Reg.SD.CRC_ERR, Page.SD] <;> omega

/-- A picture of R52's table in the format of the stream's entry. -/
def sdiFits (s : State) (st : Nat) (f : SdiFrame) : Bool :=
  sdiAccepted f && fld (igsCfg s st 0) 19 16 == f.sampling && fld (igsCfg s st 0) 22 20 == f.depth &&
    fld (igsCfg s st 1) 14 0 == f.width && fld (igsCfg s st 1) 30 16 == f.height

/-- A picture from input `i` that waits for its buffer (R53). -/
def sdiWaiting (i : Nat) (f : SdiFrame) : OpenFrame :=
  { ts := 0, discard := false, first := some 0, marker := if f.complete then some 0 else none, markedAt := 0, recv := [0]
    buf := none, asked := true, dropped := false, held := [(0, 16 + i, 0, f.rows)], nA := 1, nB := 0 }

/-- What a frame on a locked input that is on can do beyond its counts: nothing where it feeds no stream, ingest is off or the input's
safe action is in force; else it waits for its buffer, or sets MISMATCH (R52, R53). -/
theorem sdiFrameRx_cases {s : State} {i : Nat} (f : SdiFrame) (hawake : Awake s) (hi : i < 8)
    (hon : rdB s (Reg.SD.SDI_CTRL i) 0 = true) (hlock : (sdiState s i).2.1 = true) :
    ∃ t, exec (.sdiFrameRx i f) s = .next t ∧
      (t = sdiCounted s i f ∧
          (sdiStream s i = none ∨ rdB s Reg.IGS.IGS_CTRL 0 = false ∨ safe (sdiCounted s i f) (Page.SD i) = true) ∨
        ∃ st, sdiStream s i = some st ∧
          (sdiFits s st f = true ∧ t = setStream (sdiCounted s i f) st
              { stream s st with frames := (stream s st).frames ++ [sdiWaiting i f] } ∨
            sdiFits s st f = false ∧ t = wrB (sdiCounted s i f) (Reg.SD.SDI_STATUS i) 2 true)) := by
  have hctrl : rdB (sdiCounted s i f) Reg.IGS.IGS_CTRL 0 = rdB s Reg.IGS.IGS_CTRL 0 := by
    rw [rdB, rd_sdiCounted_other s f, rdB]
    simp only [List.mem_cons, List.not_mem_nil, or_false, Reg.IGS.IGS_CTRL, Reg.SD.FRAMES, Reg.SD.ST352, Reg.SD.CRC_ERR]
    omega
  have hstream : sdiStream (sdiCounted s i f) i = sdiStream s i := by
    simp only [sdiStream, streamOn, streamSrc, igsCfg, sdiCounted_ing]
  have hfits (st : Nat) : sdiFits (sdiCounted s i f) st f = sdiFits s st f := by
    simp only [sdiFits, igsCfg, sdiCounted_ing]
  change ∃ t, execSdiFrameRx i f s = _ ∧ _
  unfold execSdiFrameRx
  dsimp only
  rw [hon, hlock, decide_eq_true hi, ← sdiCounted, hstream]
  refine ⟨_, live_awake hawake, ?_⟩
  rw [Bool.and_self, Bool.and_self, if_pos rfl]
  split
  next hnone => exact .inl ⟨rfl, .inl hnone⟩
  next st hst =>
    split
    next hidle =>
      rw [hctrl] at hidle
      exact .inl ⟨rfl, .inr (by simpa using hidle)⟩
    · rw [← sdiFits, hfits]
      refine .inr ⟨st, hst, ?_⟩
      split
      next hfit => exact .inl ⟨hfit, by rw [stream_sdiCounted]; rfl⟩
      next hfit => exact .inr ⟨by simpa using hfit, rfl⟩

/-- A frame on an input that is off or not locked changes nothing. -/
theorem sdiFrameRx_off {s : State} {i : Nat} (f : SdiFrame) (hawake : Awake s)
    (hoff : rdB s (Reg.SD.SDI_CTRL i) 0 = false ∨ (sdiState s i).2.1 = false) : exec (.sdiFrameRx i f) s = .next s := by
  change execSdiFrameRx i f s = _
  unfold execSdiFrameRx
  dsimp only
  rw [if_neg]
  · exact live_awake hawake
  · rcases hoff with h | h <;> simp [h]

/-! ### A frame's buffer -/

theorem FrameStep.streamSrc {st : Nat} {s t : State} (h : FrameStep st s t) (j : Nat) : streamSrc t j = streamSrc s j := by
  simp only [Machine.streamSrc, igsCfg, h.cfg]

theorem streamSrc_setStream (s : State) (st : Nat) (x : Stream) (j : Nat) : streamSrc (setStream s st x) j = streamSrc s j := (rfl)

theorem stream_withRecord (s : State) (l : List IngWrite) (n j : Nat) :
    stream { s with ing := { s.ing with writes := l, packets := n } } j = stream s j := rfl

@[simp] theorem stream_statBump (s : State) (st w j : Nat) : stream (statBump s st w) j = stream s j := (rfl)

@[simp] theorem stream_dropHeld (s : State) (held : List (Nat × Nat × Nat × List Seg)) (j : Nat) :
    stream (dropHeld s held) j = stream s j :=
  foldl_keep (fun s => stream s j) _ (fun _ _ => stream_setFill ..) held s

/-- While a latch of the same clock is due the choice waits for it (R48). -/
theorem bufferAssign_waits {s : State} (st clocks : Nat) (hawake : Awake s) (hdue : latchDue s = true) :
    exec (.bufferAssign st clocks) s = .next s := by
  change execBufferAssign st clocks s = _
  unfold execBufferAssign
  split
  · rw [hdue, Bool.not_true, Bool.and_false, if_neg (by decide)]
    exact live_awake hawake
  · exact live_awake hawake

/-- The first waiting frame gets the eligible buffer, or none (R48). -/
theorem bufferAssign_assigns {s : State} {st : Nat} {f : OpenFrame} (clocks : Nat) (hawake : Awake s) (hst : st < 64)
    (hf : ((stream s st).frames.find? fun f => f.asked) = some f) (hdue : latchDue s = false) (hsafe : safe s Page.IGS = false) :
    exec (.bufferAssign st clocks) s =
      .next (assignTo (peak s Reg.IGS.ALLOC_LAT_MAX (min clocks 64)) st f (eligible s st)) := by
  change execBufferAssign st clocks s = _
  unfold execBufferAssign
  rw [hf, hdue, hsafe, decide_eq_true hst]
  exact live_awake hawake

theorem buf_setBuf_same (x : Stream) (j : Nat) (b : Buf) : (x.setBuf j b).buf j = b := by
  simp only [Stream.buf, Stream.setBuf, Store.get_set_same]

/-- A frame that gets a buffer opens it for writing: what follows, the writes of its held packets among it, is a step of formation. -/
theorem assignTo_step {s : State} {st : Nat} (f : OpenFrame) (j : Nat) (hsrc : streamSrc s st ≠ 2) :
    ∃ u, ((stream u st).buf j).mode = .opened ∧ OtherStreams st s u ∧ FrameStep st u (assignTo s st f (some j)) := by
  have hqueue (u : State) := frameStep_foldl (st := st)
    (fun s h => frameStep_queueWrites s st st j h.2.1 h.2.2.1 h.2.2.2) f.held u
  unfold assignTo
  dsimp only
  rw [if_neg]
  · refine ⟨_, ?_, fun i hi => ?_, (hqueue _).trans (frameStep_settleFrames 2 _ st)⟩
    · rw [stream_setStream_same, buf_setBuf_same]
    · rw [stream_setStream_other _ _ _ _ hi, stream_setStream_other _ _ _ _ hi]
  · rw [(hqueue _).streamSrc, streamSrc_setStream, streamSrc_setStream, decide_eq_false hsrc, Bool.false_and]
    decide

theorem assignTo_opens {s : State} {st : Nat} (f : OpenFrame) (j : Nat) (hsrc : streamSrc s st ≠ 2) :
    ((stream (assignTo s st f (some j)) st).buf j).mode = .opened ∧ OtherStreams st s (assignTo s st f (some j)) := by
  obtain ⟨u, hopened, hothers, hstep⟩ := assignTo_step f j hsrc
  exact ⟨by rw [Stream.buf, hstep.bufs]; exact hopened, fun i hi => (hstep.others i hi).trans (hothers i hi)⟩

/-- A frame that gets none is dropped whole, and the drop counts. -/
theorem assignTo_drops (s : State) (st : Nat) (f : OpenFrame) :
    rd (assignTo s st f none) Reg.IGS.FRAMES_DROPPED = plusOne (rd s Reg.IGS.FRAMES_DROPPED) ∧
      OtherStreams st s (assignTo s st f none) := by
  unfold assignTo
  dsimp only
  constructor
  · rw [(frameStep_settleFrames 2 _ st).rd, rd_raiseE, rd_bump_same, (frameStep_statBump _ st _ _).rd, (frameStep_dropHeld _ st _).rd,
      rd_setStream]
  · intro j hj
    rw [(frameStep_settleFrames 2 _ st).others j hj, stream_raiseE, stream_bump, stream_statBump, stream_dropHeld,
      stream_setStream_other _ _ _ _ hj]

/-! ### A frame that closes -/

theorem noteWritten_frames (s : State) (st buf : Nat) : (stream (noteWritten s st buf) st).frames = (stream s st).frames := by
  unfold noteWritten
  dsimp only
  split
  · rfl
  · split
    · rfl
    · split
      · rw [stream_withRecord, stream_setStream_same]
      · rw [stream_setStream_same]

theorem pendFence_frames (s : State) (st : Nat) (f : OpenFrame) (buf : Nat) (inc : Bool) (missing : Nat) :
    (stream (pendFence s st f buf inc missing) st).frames = (stream s st).frames := by
  rw [pendFence, noteWritten_frames, stream_setStream_same]

/-- With no frame in formation there is none to finish. -/
theorem settleFrames_nil (n : Nat) {s : State} {st : Nat} (h : (stream s st).frames = []) : settleFrames n s st = s := by
  cases n with
  | zero => rfl
  | succ n => simp only [settleFrames, h, List.find?_nil]

/-- A change of stream `st` that leaves its frames in formation, the registers and the other engines alone. -/
structure KeepsFrames (st : Nat) (s t : State) : Prop where
  frames : (stream t st).frames = (stream s st).frames
  regs : t.regs = s.regs
  others : OtherStreams st s t

/-- The buffer of a frame that closes goes to its fence or returns to the free ones (R45). -/
theorem keepsFrames_pendFence (s : State) (st : Nat) (f : OpenFrame) (buf : Nat) (inc : Bool) (missing : Nat) :
    KeepsFrames st s (pendFence s st f buf inc missing) :=
  have h := frameStep_pendFence s st f buf inc missing
  ⟨pendFence_frames s st f buf inc missing, h.regs, h.others⟩

theorem keepsFrames_freeBuf (s : State) (st buf : Nat) : KeepsFrames st s (freeBuf s st buf) :=
  ⟨by rw [freeBuf, stream_setStream_same]; rfl, rfl, fun _ hj => stream_setStream_other _ _ _ _ hj⟩

/-- A frame that closes without completing leaves formation and counts as incomplete (R40, R45). -/
theorem closeFrame_counts (s : State) (st : Nat) {f : OpenFrame} (hdiscard : f.discard = false) (hdropped : f.dropped = false) :
    (stream (closeFrame s st f) st).frames = (stream s st).frames.erase f ∧
      rd (closeFrame s st f) Reg.IGS.FRAMES_INCOMPLETE = plusOne (rd s Reg.IGS.FRAMES_INCOMPLETE) ∧
      RegsExcept [Reg.IGS.FRAMES_INCOMPLETE] s (closeFrame s st f) ∧ OtherStreams st s (closeFrame s st f) := by
  have hleft : FrameStep st s (statBump (dropHeld (removeFrame s st f) f.held) st 6) :=
    ((frameStep_removeFrame s st f).trans (frameStep_dropHeld _ st _)).trans (frameStep_statBump _ st _ _)
  generalize hu : raiseE (bump (statBump (dropHeld (removeFrame s st f) f.held) st 6) Reg.IGS.FRAMES_INCOMPLETE) Page.IGS 2 = u
  have hframes : (stream u st).frames = (stream s st).frames.erase f := by
    rw [← hu, stream_raiseE, stream_bump, stream_statBump, stream_dropHeld, removeFrame, stream_setStream_same]
  have hrest : KeepsFrames st u (closeFrame s st f) := by
    unfold closeFrame
    dsimp only
    rw [hdiscard, hdropped, Bool.or_self, if_neg (by decide), hu]
    split
    · split
      · exact keepsFrames_pendFence ..
      · exact keepsFrames_freeBuf ..
    · exact ⟨rfl, rfl, fun _ _ => rfl⟩
  have hrd (a : Nat) : rd (closeFrame s st f) a = rd u a := by simp only [rd, hrest.regs]
  refine ⟨hrest.frames.trans hframes, ?_, fun a ha => ?_, fun j hj => (hrest.others j hj).trans ?_⟩
  · rw [hrd, ← hu, rd_raiseE, rd_bump_same, hleft.rd]
  · rw [hrd, ← hu, rd_raiseE, rd_bump_other _ (by simpa using ha), hleft.rd]
  · rw [← hu, stream_raiseE, stream_bump, hleft.others j hj]

/-- The frame whose window has run out before this clock closes (R40). -/
theorem frameCloseTimeout_closes {s : State} {st : Nat} {f : OpenFrame} (hawake : Awake s) (hframes : (stream s st).frames = [f])
    (hmarker : f.marker.isSome = true) (hcomplete : f.complete = false)
    (hover : overUs s f.markedAt (fld (igsCfg s st 12) 13 0) = true) (hsrc : streamSrc s st ≠ 2) :
    exec (.frameCloseTimeout st) s = .next (settleFrames 2 (closeFrame s st f) st) := by
  change execFrameCloseTimeout st s = _
  unfold execFrameCloseTimeout
  have hdue : (f.marker.isSome && !f.complete && overUs s f.markedAt (fld (igsCfg s st 12) 13 0) && streamSrc s st != 2) = true := by
    simp [hmarker, hcomplete, hover, hsrc]
  simp only [hframes, List.find?_cons, hdue]
  exact live_awake hawake

/-! ### A fence that is published -/

theorem notify_regs (s : State) (l : Nat) : (notify s l).regs = s.regs :=
  foldl_keep (fun s => s.regs) _ (fun s _ => by split <;> rfl) _ s

theorem notify_ing (s : State) (l : Nat) : (notify s l).ing = s.ing :=
  foldl_keep (fun s => s.ing) _ (fun s _ => by split <;> rfl) _ s

/-- What a producer's pulse can do: nothing where the fabric does not carry it, a note of the merger, or its consumers see it
(R366 to R369). -/
theorem pulse_cases (s : State) (l : Nat) : pulse s l = s ∨
    pulse s l = raiseE (wr (bump s Reg.EVF.MERGED) Reg.EVF.LAST_MERGED (w32 (2 ^ 31 + l))) Page.EVF 0 ∨
    ∃ e, pulse s l = notify { s with evf := e } l := by
  unfold pulse
  dsimp only
  split
  · exact .inl rfl
  · split
    · exact .inl rfl
    · split
      · split
        · exact .inr (.inl rfl)
        · exact .inr (.inr ⟨_, rfl⟩)
      · exact .inr (.inr ⟨_, rfl⟩)

/-- A pulse leaves ingest alone. -/
theorem pulse_ing (s : State) (l : Nat) : (pulse s l).ing = s.ing := by
  rcases pulse_cases s l with h | h | ⟨e, h⟩ <;> rw [h]
  · rw [raiseE_ing, wr_ing, bump_ing]
  · rw [notify_ing]

/-- A pulse changes no register but the two in which the fabric notes merged pulses (R369). -/
theorem rd_pulse (s : State) (l : Nat) : RegsExcept [Reg.EVF.MERGED, Reg.EVF.LAST_MERGED] s (pulse s l) := by
  intro a ha
  simp only [List.mem_cons, List.not_mem_nil, or_false, not_or] at ha
  obtain ⟨hmerged, hlast⟩ := ha
  rcases pulse_cases s l with h | h | ⟨e, h⟩ <;> rw [h]
  · rw [rd_raiseE, rd_wr_other _ _ _ _ hlast, rd_bump_other _ hmerged]
  · rw [rd, notify_regs]
    rfl

/-- A fence whose frame is not wholly written, or whose turn has not come, stays (R45). -/
theorem fencePublish_waits {s : State} {st b : Nat} {f : FencePend} (hawake : Awake s)
    (hf : ((stream s st).fences.find? fun f => f.buf == b) = some f)
    (hwait : f.done = none ∨ writesWait s st b = true ∨ ∃ d, f.done = some d ∧ d.1 ≠ (stream s st).count + 1) :
    exec (.fencePublish st b) s = .next s := by
  change execFencePublish st b s = _
  unfold execFencePublish
  simp only [hf]
  split
  · exact live_awake hawake
  next d hd =>
    rw [if_pos]
    · exact live_awake hawake
    · rcases hwait with h | h | ⟨d', hd', hseq⟩
      · rw [hd] at h
        cases h
      · rw [h, Bool.true_or]
      · obtain rfl : d = d' := Option.some.inj (hd.symm.trans hd')
        simp [hseq]

/-- The state once a fence's record is in host memory and its buffer is the newest fenced one. -/
def fenceDone (s : State) (st b : Nat) (f : FencePend) (seq ns : Nat) : State :=
  let y : Stream := { stream s st with fences := (stream s st).fences.erase f, count := seq, newest := some b }
  bump (setStream (hostFenceRecord s st f seq ns) st (y.setBuf b ⟨.fenced, seq, f.inc, coreClk s + 8, none⟩)) Reg.IGS.FRAMES_FENCED

/-- With records off, or kept in device memory, a fence's publication writes none (R51). -/
theorem hostFenceRecord_none {s : State} {st : Nat} {f : FencePend} (seq ns : Nat)
    (h : rdB s Reg.IGS.IGS_CTRL 1 = false ∨ fenceAddr s st f.buf < memBytes) : hostFenceRecord s st f seq ns = s := by
  unfold hostFenceRecord
  dsimp only
  rw [if_neg]
  rw [Bool.and_eq_true, decide_eq_true_eq]
  rintro ⟨hon, haddr⟩
  rcases h with h | h
  · rw [h] at hon
    cases hon
  · omega

/-- A record kept outside device memory is a write through the device address map (R51, R374). -/
theorem hostFenceRecord_writes {s : State} {st : Nat} {f : FencePend} (seq ns : Nat) (hon : rdB s Reg.IGS.IGS_CTRL 1 = true)
    (haddr : memBytes ≤ fenceAddr s st f.buf) :
    hostFenceRecord s st f seq ns = devWrite s (fenceAddr s st f.buf) (fenceRecord f seq ns) := by
  unfold hostFenceRecord
  dsimp only
  rw [hon, decide_eq_true haddr, Bool.and_self, if_pos rfl]

/-- A write past device memory touches host memory alone. -/
theorem devWrite_past (s : State) {a : Nat} (bs : List Byte) (h : memBytes ≤ a) :
    devWrite s a bs = { s with hostMem := (devWrite s a bs).hostMem } := by
  unfold devWrite
  rw [if_neg (by omega)]
  split <;> rfl

/-- Of the state a fence's record changes host memory alone: one in device memory has been an ingest write. -/
theorem hostFenceRecord_frame (s : State) (st : Nat) (f : FencePend) (seq ns : Nat) :
    hostFenceRecord s st f seq ns = { s with hostMem := (hostFenceRecord s st f seq ns).hostMem } := by
  by_cases h : rdB s Reg.IGS.IGS_CTRL 1 = false ∨ fenceAddr s st f.buf < memBytes
  · rw [hostFenceRecord_none seq ns h]
  · obtain ⟨hon, haddr⟩ := not_or.mp h
    rw [hostFenceRecord_writes seq ns (by simpa using hon) (by omega)]
    exact devWrite_past s _ (by omega)

/-- A fence record is 32 bytes long (R51). -/
theorem fenceRecord_length (f : FencePend) (seq ns : Nat) : (fenceRecord f seq ns).length = 32 := rfl

/-- With TWN off a fence is not mirrored. -/
theorem mirrorFence_off {s : State} (h : twnOn s = false) (st : Nat) (sdi : Bool) (ts : Word) (inc : Bool) (buf seq done : Nat) :
    mirrorFence s st sdi ts inc buf seq done = s := by
  unfold mirrorFence
  rw [h, Bool.not_false, if_pos rfl]

/-- With TWN off a fence whose turn has come is published and its stream's line pulses (R45). -/
theorem fencePublish_publishes {s : State} {st b seq ns : Nat} {f : FencePend} (hawake : Awake s)
    (hf : ((stream s st).fences.find? fun f => f.buf == b) = some f) (hdone : f.done = some (seq, ns))
    (hseq : seq = (stream s st).count + 1) (hwait : writesWait s st b = false) (htwn : twnOn s = false) :
    exec (.fencePublish st b) s = .next (pulse (fenceDone s st b f seq ns) (64 + st)) := by
  have hoff : twnOn (fenceDone s st b f seq ns) = false := by
    rw [← htwn, twnOn, rdB, fenceDone, rd_bump_other _ (by decide), rd_setStream, hostFenceRecord_frame]
    rfl
  change execFencePublish st b s = _
  unfold execFencePublish
  dsimp only
  rw [hf]
  dsimp only
  rw [hdone]
  dsimp only
  rw [if_neg (by simp [hwait, hseq]), live_awake hawake]
  exact congrArg (fun t => Host.Outcome.next (pulse t (64 + st))) (mirrorFence_off hoff ..)

/-- What a published fence leaves: its buffer the newest fenced one with the stream's next FRAME_SEQ, and one fence more counted. -/
theorem stream_published (s : State) (st b : Nat) (f : FencePend) (seq ns j : Nat) :
    stream (pulse (fenceDone s st b f seq ns) (64 + st)) j =
      if j = st then
        { stream s st with fences := (stream s st).fences.erase f, count := seq, newest := some b }.setBuf b
          ⟨.fenced, seq, f.inc, coreClk s + 8, none⟩
      else stream s j := by
  rw [stream, pulse_ing, ← stream, fenceDone, stream_bump, stream_setStream, hostFenceRecord_frame]
  rfl

theorem rd_published (s : State) (st b : Nat) (f : FencePend) (seq ns : Nat) :
    rd (pulse (fenceDone s st b f seq ns) (64 + st)) Reg.IGS.FRAMES_FENCED = plusOne (rd s Reg.IGS.FRAMES_FENCED) := by
  rw [rd_pulse _ _ _ (by decide), fenceDone, rd_bump_same, rd_setStream, hostFenceRecord_frame]
  rfl

/-- The bytes of memory after a fence's publication are those after its record. -/
theorem mem_published (s : State) (st b : Nat) (f : FencePend) (seq ns : Nat) :
    (pulse (fenceDone s st b f seq ns) (64 + st)).mem = s.mem ∧
      (pulse (fenceDone s st b f seq ns) (64 + st)).hostMem = (hostFenceRecord s st f seq ns).hostMem := by
  obtain ⟨-, hmem, hhost, -⟩ := pulse_keep (fenceDone s st b f seq ns) (64 + st)
  rw [hmem, hhost, fenceDone, bump_mem, bump_hostMem, setStream_mem, setStream_hostMem]
  exact ⟨by rw [hostFenceRecord_frame], rfl⟩

/-- Host memory lies past device memory in the device address map (R374). -/
theorem memBytes_le_hostBase : memBytes ≤ hostBase := by decide

/-- A write to host memory, with bus mastering on, stores each byte at its place, and no other byte of host memory changes. -/
theorem hostByte_devWrite {s : State} {a : Nat} (bs : List Byte) (ha : hostBase ≤ a) (hbus : s.pcie.cfg.busMaster = true) :
    (∀ i, i < bs.length → hostByte (devWrite s a bs) (a - hostBase + i) = byteAt bs i) ∧
      ∀ b, b < a - hostBase ∨ a - hostBase + bs.length ≤ b → hostByte (devWrite s a bs) b = hostByte s b := by
  have hwrite : (devWrite s a bs).hostMem = Store.setList memDefault s.hostMem (a - hostBase) bs := by
    unfold devWrite
    rw [if_neg (by have := memBytes_le_hostBase; omega), if_pos ⟨ha, hbus⟩]
  unfold hostByte
  rw [hwrite]
  generalize a - hostBase = k
  refine ⟨fun i hi => ?_, fun b hb => ?_⟩
  · rw [Store.get_setList, dif_pos (by omega)]
    simp [byteAt, hi]
  · rw [Store.get_setList, dif_neg (by omega)]

/-! ### Streams that start and stop -/

theorem igsCfg_putCfg_same (s : State) (st w : Nat) (v : Word) : igsCfg (putCfg s st w v) st w = v := by
  simp only [igsCfg, putCfg, Store.get_set_same]

theorem stream_putCfg (s : State) (st w : Nat) (v : Word) (j : Nat) : stream (putCfg s st w v) j = stream s j := (rfl)

theorem putCfg_regs (s : State) (st w : Nat) (v : Word) : (putCfg s st w v).regs = s.regs := (rfl)

/-- What neither an engine's replacement nor a port's fill changes stays as the frames of a stream are abandoned. -/
theorem abandonFrames_leaves {β : Type} (π : State → β) {st : Nat} (hset : ∀ s x, π (setStream s st x) = π s)
    (hfill : ∀ s i v, π (setFill s i v) = π s) (s : State) : π (abandonFrames s st) = π s := by
  have hdrop (s : State) (f : OpenFrame) : π (dropHeld s f.held) = π s := foldl_keep π _ (fun s _ => hfill s _ _) f.held s
  have hfree (s : State) (f : OpenFrame) : π (match f.buf with | some b => freeBuf s st b | none => s) = π s := by
    split
    · exact hset ..
    · rfl
  unfold abandonFrames
  dsimp only
  rw [hset, foldl_keep π _ hdrop]
  exact foldl_keep π _ hfree ..

theorem abandonFrames_regs (s : State) (st : Nat) : (abandonFrames s st).regs = s.regs :=
  abandonFrames_leaves (fun s => s.regs) (fun _ _ => rfl) (fun _ _ _ => rfl) s

theorem abandonFrames_cfg (s : State) (st : Nat) : (abandonFrames s st).ing.cfg = s.ing.cfg :=
  abandonFrames_leaves (fun s => s.ing.cfg) (fun _ _ => rfl) (fun _ _ _ => rfl) s

theorem abandonFrames_others (s : State) (st : Nat) : OtherStreams st s (abandonFrames s st) :=
  fun j hj => abandonFrames_leaves (fun s => stream s j) (fun _ _ => stream_setStream_other _ _ _ _ hj) (fun _ _ _ => rfl) s

theorem abandonFrames_frames (s : State) (st : Nat) : (stream (abandonFrames s st) st).frames = [] := by
  unfold abandonFrames
  dsimp only
  rw [stream_setStream_same]

/-- Frames of several streams abandoned in turn: none of them is left one. -/
theorem foldl_abandonFrames {l : List Nat} {j : Nat} (s : State) (h : j ∈ l ∨ (stream s j).frames = []) :
    (stream (l.foldl abandonFrames s) j).frames = [] := by
  induction l generalizing s with
  | nil => simpa using h
  | cons i l ih =>
    refine ih _ ?_
    by_cases hij : j = i
    · subst hij
      exact .inr (abandonFrames_frames s j)
    · rw [abandonFrames_others s i j hij]
      simpa [hij] using h

/-- A stream starts with a new engine: no frame in formation, no fence on its way, the next frame a first one (R40, R50). -/
theorem startStream_engine (s : State) (st : Nat) :
    ∃ y : Stream, startStream s st = setStream s st y ∧ y.frames = [] ∧ y.fences = [] ∧ y.fresh = true :=
  ⟨_, rfl, rfl, rfl, rfl⟩

section
variable {s : State} {st : Nat} {v : Word}

/-- EN rising with no cause of R57 stores word 0 and starts the stream (R43). -/
theorem writeStream0_starts (hen : bit v 0 = true) (hoff : streamOn s st = false)
    (hok : streamRefusal (putCfg s st 0 (v &&& streamMask0)) st = none) :
    writeStream0 s st v = startStream (putCfg s st 0 (v &&& streamMask0)) st := by
  unfold writeStream0
  dsimp only
  rw [hen, hoff, hok, Bool.not_false, Bool.and_self, if_pos rfl]

/-- EN rising with a cause of R57 stores word 0 without EN and shows the cause (R57). -/
theorem writeStream0_refused {c : Nat} (hen : bit v 0 = true) (hoff : streamOn s st = false)
    (hcause : streamRefusal (putCfg s st 0 (v &&& streamMask0)) st = some c) :
    (writeStream0 s st v).ing = { (putCfg s st 0 (setBit (v &&& streamMask0) 0 false)).ing with
      stat := Store.set zeroW s.ing.stat (8 * st) (setFld (Store.get zeroW s.ing.stat (8 * st)) 7 4 c) } := by
  unfold writeStream0
  dsimp only
  rw [hen, hoff, hcause, Bool.not_false, Bool.and_self, if_pos rfl, raiseE_ing]
  rfl

/-- EN falling stores word 0 and abandons the stream's frames (R50). -/
theorem writeStream0_stops (hen : bit v 0 = false) (hon : streamOn s st = true) :
    writeStream0 s st v = abandonFrames (putCfg s st 0 (v &&& streamMask0)) st := by
  unfold writeStream0
  dsimp only
  rw [hen, hon, Bool.false_and, if_neg (by decide), Bool.not_false, Bool.and_self, if_pos rfl]

end

/-- An accepted write through the stream table's window has its effect on ingest and the registers. -/
theorem indGuarded_accepted {s : State} {a : Agent} {pg : Nat} {v : Word} {t : State}
    (hbusy : rstBusy s pg = false) (href : writeRefusal s a pg .ind = none) :
    (indGuarded s a pg v t).ing = t.ing ∧ (indGuarded s a pg v t).regs = t.regs := by
  have hpage : pageOf (Reg.HDR.IND_DATA pg) = pg := pageOf_header pg 0x34 (by decide)
  rw [indGuarded, hbusy, if_neg (by decide), guarded_accepted (by rw [Accepts, hpage]; exact ⟨hbusy, href⟩)]
  exact ⟨by rw [indAdvance_ing, touchSession_ing], by rw [indAdvance_regs, touchSession_regs]⟩

section
variable {s : State} {a : Agent} {st : Nat} {w0 : Word} (hawake : Awake s) (hst : st < 64)
  (hword : indWord s a Page.IGS = 16 * st) (hbusy : rstBusy s Page.IGS = false) (href : writeRefusal s a Page.IGS .ind = none)
include hawake hst hword hbusy href

/-- STREAM_ENABLE and STREAM_DISABLE, accepted, are writes of word 0. -/
theorem streamEnable_writes (hen : bit w0 0 = true) : ∃ t, exec (.streamEnable a st w0) s = .next t ∧
    t.ing = (writeStream0 s st w0).ing ∧ t.regs = (writeStream0 s st w0).regs := by
  refine ⟨_, ?_, indGuarded_accepted (v := w0) hbusy href⟩
  change execStreamEnable a st w0 s = _
  rw [execStreamEnable, live_awake hawake, if_pos (by simp [hst, hen, hword])]

theorem streamDisable_writes (hen : bit w0 0 = false) : ∃ t, exec (.streamDisable a st w0) s = .next t ∧
    t.ing = (writeStream0 s st w0).ing ∧ t.regs = (writeStream0 s st w0).regs := by
  refine ⟨_, ?_, indGuarded_accepted (v := w0) hbusy href⟩
  change execStreamDisable a st w0 s = _
  rw [execStreamDisable, live_awake hawake, if_pos (by simp [hst, hen, hword])]

end

/-- INGEST_ENABLE and INGEST_DISABLE, accepted, are writes of IGS_CTRL. -/
theorem ingestEnable_writes {s : State} {a : Agent} {v : Word} (hawake : Awake s) (hacc : Accepts s a Reg.IGS.IGS_CTRL .cfg) :
    exec (.ingestEnable a v) s = .next (touchSession s a Page.IGS (writeIgsCtrl s v)) := by
  change execIngestEnable a v s = _
  rw [execIngestEnable, live_awake hawake, guarded_accepted hacc]
  rfl

theorem ingestDisable_writes {s : State} {a : Agent} {v : Word} (hawake : Awake s) (hacc : Accepts s a Reg.IGS.IGS_CTRL .cfg) :
    exec (.ingestDisable a v) s = .next (touchSession s a Page.IGS (writeIgsCtrl s v)) :=
  ingestEnable_writes hawake hacc

/-- Whatever a write of IGS_CTRL does to the streams, of the registers it changes IGS_CTRL alone (R50). -/
theorem writeIgsCtrl_regs (s : State) (v : Word) : (writeIgsCtrl s v).regs = (wr s Reg.IGS.IGS_CTRL (v &&& 3)).regs := by
  unfold writeIgsCtrl
  dsimp only
  split
  · exact foldl_keep (fun s => s.regs) _ abandonFrames_regs ..
  · split
    · exact foldl_keep (fun s => s.regs) _ (fun s _ => by split <;> rfl) ..
    · rfl

theorem rd_writeIgsCtrl (s : State) (v : Word) (b : Nat) :
    rd (writeIgsCtrl s v) b = if b = Reg.IGS.IGS_CTRL then v &&& 3 else rd s b := by
  rw [rd, writeIgsCtrl_regs, ← rd, rd_wr]

/-- EN falling leaves no stream a frame in formation (R50). -/
theorem writeIgsCtrl_frames {s : State} {v : Word} {st : Nat} (hwas : rdB s Reg.IGS.IGS_CTRL 0 = true) (hen : bit v 0 = false)
    (hst : st < 64) : (stream (writeIgsCtrl s v) st).frames = [] := by
  unfold writeIgsCtrl
  dsimp only
  rw [hwas, hen, Bool.not_false, Bool.and_self, if_pos rfl]
  exact foldl_abandonFrames _ (.inl (List.mem_range.mpr hst))

end Sys2Proof.Machine
end

section
/-! The statements of 02_surfaces_and_ingest: frames received, links, fences, and streams that start and stop. -/

open Sys2Proof Sys2Proof.Machine

/-- Settles O15: the outcomes of a received frame rule by rule; a packet that passes goes by its sequence number. -/
theorem ingestFrameClassified : Obligations.IngestFrameClassified := by
  intro s i f hawake hi
  refine ⟨fun hup => igFrameRx_down f hawake hup, fun hup => ⟨fun hfcs => ?_, ?_, ?_⟩⟩
  · have hne {b : Nat} (hb : b ∈ igCounters i) : b ≠ Reg.IG.FCS_ERR i := by
      rintro rfl
      simp at hb
    refine ⟨_, igFrameRx_fcsError hawake hi hup hfcs, (regsOnly_igCounted s i _).trans (regsOnly_bump _ _),
      rd_bump_igCounted s _ (by simp), ?_, ?_, regsExcept_bump_igCounted s i _ _⟩
    · rw [rd64_bump_other _ (hne (by simp)) (hne (by simp)), rd64_igCounted_frames]
    · rw [rd64_bump_other _ (hne (by simp)) (hne (by simp)), rd64_igCounted_bytes]
  · intro hfcs hsafe hptp hplace hmatch hfwd
    exact ⟨_, igFrameRx_unmatched hawake hi hup hfcs hsafe hptp hplace hmatch hfwd,
      (regsOnly_igCounted s i _).trans (regsOnly_bump _ _), rd_bump_igCounted s _ (by simp), regsExcept_bump_igCounted s i _ _⟩
  · intro u r st a hfcs hsafe hptp hplace hudp hrtp hmatch hon hlen hroom htype hcir hold hopen
    have hexec := igFrameRx_formation hawake hi hup hfcs hsafe hptp hplace hudp hmatch ⟨hrtp, hon, hlen, hroom, htype, hcir⟩
    have hstream (j : Nat) := stream_igCounted s i f.len j
    rw [← hstream st] at hold hopen ⊢
    rw [← igClk_igCounted s i f.len]
    refine ⟨fun hseen => ?_, fun g hseen ha hcopy hfind => ?_, fun hseen hcopy => ?_⟩
    · obtain ⟨hnew, hothers, hregs⟩ := takePacket_records (igCounted s i f.len) st i f.len a r
      rw [framePacket_new hold hopen hseen] at hexec
      refine ⟨_, hexec, hnew, fun j hj => (hothers j hj).trans (hstream j), fun b hb => ?_⟩
      obtain ⟨hpeak, hcnt⟩ := not_or.mp (List.mem_cons.not.mp hb)
      rw [hregs b (by simpa using hpeak), rd_igCounted s i f.len b hcnt]
    · obtain ⟨tag, htag⟩ := framePacket_copy (prt := i) (len := f.len) hold hopen hseen hcopy ha
      rw [htag] at hexec
      have hengine (j : Nat) := stream_preferA i f.len tag hfind j
      refine ⟨_, hexec, fun j hj => by rw [hengine, if_neg hj, hstream], ?_, ?_⟩
      · rw [hengine, if_pos rfl]
        simp
      · rw [hengine, if_pos rfl]
        exact ⟨_, mem_replaceFirst _ (find?_beq_self (List.mem_of_find?_eq_some hfind)), rfl, rfl, rfl, rfl⟩
    · rw [framePacket_duplicate hold hopen hseen hcopy] at hexec
      exact ⟨_, hexec, regsOnly_igCounted s i _, rd_igCounted s i _⟩

/-- Settles O16: what the links take is their commands' outcome; a frame's outcome goes by sdiFrameRx_cases. -/
theorem ingestLinks : Obligations.IngestLinks := by
  refine ⟨fun s i up align lanes hawake hi => ?_, fun s i carrier lock rate lines hawake hi hlock => ?_,
    fun s i f hawake hi => ⟨fun hon hlock => ?_, fun hoff => ?_⟩⟩
  · exact ⟨_, igLinkChange_takes up align lanes hawake hi, rfl, Store.get_set_same .., fun j hj => Store.get_set_other _ _ _ _ _ hj⟩
  · exact ⟨_, sdiLockChange_takes carrier lock rate lines hawake hi hlock, rfl, Store.get_set_same ..,
      fun j hj => Store.get_set_other _ _ _ _ _ hj⟩
  · obtain ⟨t, hexec, hcase⟩ := sdiFrameRx_cases f hawake hi hon hlock
    have hregs (b : Nat) (hb : b ≠ Reg.SD.SDI_STATUS i) : rd t b = rd (sdiCounted s i f) b := by
      rcases hcase with ⟨rfl, -⟩ | ⟨st, -, ⟨-, rfl⟩ | ⟨-, rfl⟩⟩
      · rfl
      · exact rd_setStream ..
      · rw [rd_wrB, if_neg hb]
    refine ⟨t, hexec, ?_, ?_, ?_, fun b hb => ?_, fun hnone => ?_, fun st ok hst hing hsafe hok => ?_⟩
    · rw [hregs _ (by simp), rd_sdiCounted, if_pos rfl]
    · rw [hregs _ (by simp), rd_sdiCounted, if_neg (by simp), if_pos rfl]
    · rw [hregs _ (by simp), rd_sdiCounted, if_neg (by simp), if_neg (by simp), if_pos rfl]
    · simp only [List.mem_cons, List.not_mem_nil, or_false, not_or] at hb
      obtain ⟨hframes, hst352, hcrc, hstatus⟩ := hb
      rw [hregs b hstatus, rd_sdiCounted, if_neg hframes, if_neg hst352, if_neg hcrc]
    · rcases hcase with ⟨rfl, -⟩ | ⟨st, hst, -⟩
      · exact sdiCounted_ing s i f
      · rw [hnone] at hst
        cases hst
    · change ok = sdiFits s st f at hok
      rcases hcase with ⟨-, hidle⟩ | ⟨st', hst', hcase⟩
      · simp [hst, hing, safe_sdiCounted f hsafe] at hidle
      · obtain rfl : st = st' := Option.some.inj (hst.symm.trans hst')
        rcases hcase with ⟨hfit, rfl⟩ | ⟨hfit, rfl⟩
        · refine ⟨fun _ => ⟨fun j hj => ?_, sdiWaiting i f, ?_, rfl, rfl⟩, fun h => ?_⟩
          · rw [stream_setStream_other _ _ _ _ hj, stream_sdiCounted]
          · rw [stream_setStream_same]
          · rw [h, hfit] at hok
            cases hok
        · refine ⟨fun h => ?_, fun _ => ⟨?_, ?_⟩⟩
          · rw [h, hfit] at hok
            cases hok
          · rw [wrB_ing, sdiCounted_ing]
          · rw [rdB, rd_wrB, if_pos rfl, bit_setBit_same _ _ _ (by decide)]
  · exact sdiFrameRx_off f hawake hoff

/-- Settles O17: assignment by assignTo_opens and assignTo_drops, closing by closeFrame_counts, publication by what fenceDone leaves. -/
theorem framesReachFences : Obligations.FramesReachFences := by
  refine ⟨fun s st clocks f hawake hst hf => ⟨fun hdue => bufferAssign_waits st clocks hawake hdue, fun hdue hsafe hsrc => ?_⟩,
    fun s st f hawake hframes hmarker hcomplete hover hsrc hdiscard hdropped => ?_,
    fun s st b f hawake hf => ⟨fencePublish_waits hawake hf, fun ns hdone hwait htwn => ?_⟩⟩
  · have hexec := bufferAssign_assigns clocks hawake hst hf hdue hsafe
    refine ⟨fun j hj => ?_, fun hnone => ?_⟩
    · rw [hj] at hexec
      obtain ⟨hopened, hothers⟩ := assignTo_opens (s := peak s Reg.IGS.ALLOC_LAT_MAX (min clocks 64)) f j (by
        rwa [streamSrc, igsCfg, peak_ing])
      exact ⟨_, hexec, hopened, fun i hi => (hothers i hi).trans (stream_peak ..)⟩
    · rw [hnone] at hexec
      obtain ⟨hcount, hothers⟩ := assignTo_drops (peak s Reg.IGS.ALLOC_LAT_MAX (min clocks 64)) st f
      rw [rd_peak_other _ _ (by decide)] at hcount
      exact ⟨_, hexec, hcount, fun i hi => (hothers i hi).trans (stream_peak ..)⟩
  · obtain ⟨hleft, hcount, hregs, hothers⟩ := closeFrame_counts s st hdiscard hdropped
    have hnil : (stream (closeFrame s st f) st).frames = [] := by
      rw [hleft, hframes]
      simp
    refine ⟨_, frameCloseTimeout_closes hawake hframes hmarker hcomplete hover hsrc, ?_⟩
    rw [settleFrames_nil 2 hnil]
    exact ⟨hnil, hcount, hregs, hothers⟩
  · obtain rfl : f.buf = b := by simpa using List.find?_some hf
    have hengine (j : Nat) := stream_published s st f.buf f ((stream s st).count + 1) ns j
    obtain ⟨hmem, hhost⟩ := mem_published s st f.buf f ((stream s st).count + 1) ns
    refine ⟨_, fencePublish_publishes hawake hf hdone rfl hwait htwn, ?_, ?_, ?_, ?_, rd_published .., fun j hj => ?_,
      fun hrec => ?_, fun hon haddr hbus => ?_⟩
    · rw [hengine, if_pos rfl]
      rfl
    · rw [hengine, if_pos rfl]
      rfl
    · rw [hengine, if_pos rfl]
      rfl
    · rw [hengine, if_pos rfl, buf_setBuf_same]
    · rw [hengine, if_neg hj]
    · rw [hostFenceRecord_none _ _ hrec] at hhost
      exact ⟨fun a => by rw [memByte, hmem, memByte], fun a => by rw [hostByte, hhost, hostByte]⟩
    · rw [hostFenceRecord_writes _ _ hon (memBytes_le_hostBase.trans haddr)] at hhost
      obtain ⟨hin, hout⟩ := hostByte_devWrite (fenceRecord f ((stream s st).count + 1) ns) haddr hbus
      rw [fenceRecord_length] at hin hout
      refine ⟨⟨fun a _ => by rw [memByte, hmem, memByte], fun a ha => ?_⟩, fun i hi => ?_⟩
      · have hapart := ha _ (List.mem_singleton.mpr rfl)
        rw [hostByte, hhost, ← hostByte]
        exact hout a (by dsimp only at hapart; omega)
      · rw [hostByte, hhost, ← hostByte]
        exact hin i hi

/-- Settles O18: the accepted write of word 0, or of IGS_CTRL, case by case. -/
theorem streamsEnable : Obligations.StreamsEnable := by
  refine ⟨fun s a st w0 hawake hst hen hword hbusy href hoff => ⟨fun hok => ?_, fun c hc hcause => ?_⟩,
    fun s a st w0 hawake hst hen hword hbusy href hon => ?_, fun s a v hawake hacc hen => ?_, fun s a v hawake hacc hen hwas => ?_⟩
  · obtain ⟨t, hexec, hing, hregs⟩ := streamEnable_writes hawake hst hword hbusy href hen
    obtain ⟨y, hstart, hframes, hfences, hfresh⟩ := startStream_engine (putCfg s st 0 (w0 &&& streamMask0)) st
    rw [writeStream0_starts hen hoff hok, hstart] at hing hregs
    have hstream (j : Nat) : stream t j = if j = st then y else stream s j := by
      rw [stream, hing, ← stream, stream_setStream, stream_putCfg]
    refine ⟨t, hexec, ?_, ?_, ?_, ?_, fun j hj => ?_, hregs⟩
    · rw [igsCfg, hing]
      exact igsCfg_putCfg_same s st 0 _
    · rw [hstream, if_pos rfl, hframes]
    · rw [hstream, if_pos rfl, hfences]
    · rw [hstream, if_pos rfl, hfresh]
    · rw [hstream, if_neg hj]
  · obtain ⟨t, hexec, hing, -⟩ := streamEnable_writes hawake hst hword hbusy href hen
    rw [writeStream0_refused hen hoff hcause] at hing
    refine ⟨t, hexec, ?_, ?_, ?_⟩
    · rw [streamOn, igsCfg, hing]
      dsimp only
      rw [← igsCfg, igsCfg_putCfg_same, bit_setBit_same _ _ _ (by decide)]
    · rw [hing]
      dsimp only
      rw [Store.get_set_same, fld_setFld_same _ _ _ _ (by decide) (by decide)]
      exact Nat.mod_eq_of_lt hc
    · rw [stream, hing]
      rfl
  · obtain ⟨t, hexec, hing, hregs⟩ := streamDisable_writes hawake hst hword hbusy href hen
    rw [writeStream0_stops hen hon] at hing hregs
    refine ⟨t, hexec, ?_, ?_, fun j hj => ?_, ?_⟩
    · rw [igsCfg, hing, abandonFrames_cfg, ← igsCfg, igsCfg_putCfg_same]
    · rw [stream, hing, ← stream, abandonFrames_frames]
    · rw [stream, hing, ← stream, abandonFrames_others _ _ j hj, stream_putCfg]
    · rw [hregs, abandonFrames_regs, putCfg_regs]
  · refine ⟨_, ingestEnable_writes hawake hacc, ?_, fun b hb => ?_⟩
    · rw [rd_touchSession, rd_writeIgsCtrl, if_pos rfl]
    · rw [rd_touchSession, rd_writeIgsCtrl, if_neg (by simpa using hb)]
  · refine ⟨_, ingestDisable_writes hawake hacc, ?_, fun b hb => ?_, fun st hst => ?_⟩
    · rw [rd_touchSession, rd_writeIgsCtrl, if_pos rfl]
    · rw [rd_touchSession, rd_writeIgsCtrl, if_neg (by simpa using hb)]
    · rw [stream, touchSession_ing, ← stream, writeIgsCtrl_frames hwas hen hst]

end

section
/-! SUPPORT. Layers and awnings (R60 to R89): what a commit, its check and a cancel leave of the queue, what a latch leaves of the
layers' states, and what a placement packet and a band group's latch leave of an awning. -/

namespace Sys2Proof.Machine

/-! ### Commits (R67 to R71) -/

/-- The lowest group of a mask is one of the 32. -/
theorem lowGroup_lt (mask : Word) : lowGroup mask < 32 := by
  unfold lowGroup
  cases h : (List.range 32).find? fun g => bit mask g with
  | none => decide
  | some g => exact List.mem_range.mp (List.mem_of_find?_eq_some h)

/-- A refusal leaves the layer block, and sets its groups in COMMIT_REFUSED (R69). -/
theorem refuseCommit_lyr (s : State) (mask : Word) (f : Refuse) : (refuseCommit s mask f).lyr = s.lyr := (rfl)

theorem rd_refuseCommit_refused (s : State) (mask : Word) (f : Refuse) :
    rd (refuseCommit s mask f) Reg.LYR.COMMIT_REFUSED = rd s Reg.LYR.COMMIT_REFUSED ||| mask := by
  rw [refuseCommit, rd_wr_other _ _ _ _ (by decide), rd_orReg, if_pos rfl]

theorem rd_refuseCommit_other (s : State) (mask : Word) (f : Refuse) :
    RegsExcept [Reg.LYR.COMMIT_REFUSED, Reg.LYR.REFUSE_INFO] s (refuseCommit s mask f) := by
  intro b hb
  simp only [List.mem_cons, List.not_mem_nil, or_false, not_or] at hb
  obtain ⟨hrefused, hinfo⟩ := hb
  rw [refuseCommit, rd_wr_other _ _ _ _ hinfo, rd_orReg, if_neg hrefused]

/-- REFUSE_INFO of a refusal that concerns no one layer shows its cause from bit 16 on (R69). -/
theorem rd_refuseCommit_cause (s : State) (mask : Word) {c g : Nat} (hc : c < 65536) (hg : g < 65536) :
    (rd (refuseCommit s mask ⟨c, g, none⟩) Reg.LYR.REFUSE_INFO).toNat / 65536 = c := by
  simp only [refuseCommit, rd_wr_same, w32, BitVec.toNat_ofNat, Option.getD_none, Option.isSome_none, Bool.toNat_false]
  omega

/-- An accepted write of COMMIT, by its mask and by whether the device takes part in a pair (R67, R310). -/
theorem commit_accepted {s : State} {a : Agent} (mask : Word) (hawake : Awake s) (hacc : Accepts s a Reg.LYR.COMMIT .cmd) :
    exec (.commit a mask) s = .next (touchSession s a Page.LYR
      (if mask = 0 then s
       else if twnOn s then captureOp s 3 (.commit mask (rd s Reg.LYR.COMMIT_CTRL))
         (beBytes 4 mask.toNat ++ beBytes 1 (fld (rd s Reg.LYR.COMMIT_CTRL) 3 0) ++ [0, 0, 0])
       else enterCommit s mask (rd s Reg.LYR.COMMIT_CTRL) false 0)) := by
  change execCommit a mask s = _
  rw [execCommit, live_awake hawake, guarded_accepted hacc]
  rfl

/-- The phase that COMMIT_CTRL names as a commit's target. -/
def commitTarget (ctrl : Word) : Option Nat := if bit ctrl 0 then some (fld ctrl 3 1) else none

section
variable {s : State} {mask ctrl : Word} (hmask : mask ≠ 0)
include hmask

theorem enterCommit_queued (peer : Bool) (effect : Nat) (hboth : mask &&& queuedGroups s ≠ 0) :
    enterCommit s mask ctrl peer effect = refuseCommit s mask ⟨9, lowGroup (mask &&& queuedGroups s), none⟩ := by
  unfold enterCommit
  dsimp only
  rw [if_neg hmask, if_pos hboth]

variable (hboth : mask &&& queuedGroups s = 0)
include hboth

theorem enterCommit_full (peer : Bool) (effect : Nat) (hfull : 8 ≤ s.lyr.queue.length) :
    enterCommit s mask ctrl peer effect = refuseCommit s mask ⟨10, lowGroup mask, none⟩ := by
  unfold enterCommit
  dsimp only
  rw [if_neg hmask, if_neg (not_not.mpr hboth), if_pos hfull]

variable (hroom : s.lyr.queue.length < 8)
include hroom

theorem enterCommit_noPhase (peer : Bool) (effect : Nat) (hnow : bit ctrl 0 = true) (hphase : nph s ≤ fld ctrl 3 1) :
    enterCommit s mask ctrl peer effect = refuseCommit s mask ⟨11, lowGroup mask, none⟩ := by
  unfold enterCommit
  dsimp only
  rw [if_neg hmask, if_neg (not_not.mpr hboth), if_neg (by omega), hnow, if_pos rfl]
  dsimp only
  rw [if_pos (decide_eq_true hphase)]

theorem enterCommit_joins (peer : Bool) (effect : Nat) (hphase : bit ctrl 0 = true → fld ctrl 3 1 < nph s) :
    enterCommit s mask ctrl peer effect =
      setQueue s (s.lyr.queue ++ [⟨mask, commitTarget ctrl, false, newReqId s, peer, effect⟩]) := by
  unfold enterCommit commitTarget
  dsimp only
  rw [if_neg hmask, if_neg (not_not.mpr hboth), if_neg (by omega)]
  cases hnow : bit ctrl 0 with
  | false => rfl
  | true =>
    rw [if_pos rfl]
    dsimp only
    rw [if_neg (by simpa using hphase hnow)]

end

/-- What is inserted stands in the list. -/
theorem mem_insertBy {α : Type} (lt : α → α → Bool) (x : α) (l : List α) : x ∈ insertBy lt x l := by
  induction l with
  | nil => exact List.mem_singleton_self x
  | cons y ys ih =>
    unfold insertBy
    split
    · exact List.mem_cons_self
    · exact List.mem_cons_of_mem _ ih

/-- Capturing an operation changes the pair's state alone, and the operation waits there for its effective instant (R309, R310). -/
theorem captureOp_waits (s : State) (type : Nat) (op : MirOp) (payload : List Byte) :
    captureOp s type op payload = { s with twn := (captureOp s type op payload).twn } ∧
      ∃ o ∈ (captureOp s type op payload).twn.ops, o.op = op ∧ o.e = nowNs s + mirrorDelay s := by
  have hmirror (e : Nat) : mirrorRecord s type e payload = { s with twn := (mirrorRecord s type e payload).twn } := by
    unfold mirrorRecord sendRecord
    split
    · rfl
    · split <;> rfl
  refine ⟨?_, _, mem_insertBy .., rfl, rfl⟩
  unfold captureOp addOp
  dsimp only
  rw [hmirror]

/-! ### Checks of a request (R68, R69) -/

/-- A check writes registers of the span builder and the scalers alone, whose pages follow the layer page. -/
def CheckStep (s t : State) : Prop := RegsOnly s t ∧ ∀ b, b < 0x1000 * Page.SPB → rd t b = rd s b

theorem CheckStep.refl (s : State) : CheckStep s s := ⟨rfl, fun _ _ => rfl⟩

theorem CheckStep.trans {s t u : State} (h : CheckStep s t) (k : CheckStep t u) : CheckStep s u :=
  ⟨h.1.trans k.1, fun b hb => (k.2 b hb).trans (h.2 b hb)⟩

theorem checkStep_wr (s : State) {a : Nat} (v : Word) (h : 0x1000 * Page.SPB ≤ a) : CheckStep s (wr s a v) :=
  ⟨regsOnly_wr s a v, fun _ hb => rd_wr_other _ _ _ _ (by omega)⟩

theorem checkStep_admitInfo (s : State) (n b c : Nat) : CheckStep s (admitInfo s n b c) := checkStep_wr s _ (by decide)

theorem checkStep_admitAll (peaks : Bool) (bank : Store Word) (s : State) (ns : List Nat) :
    CheckStep s (admitAll peaks bank s ns).2 := by
  induction ns generalizing s with
  | nil => exact .refl s
  | cons n ns ih =>
    unfold admitAll
    split
    · exact checkStep_admitInfo ..
    · refine .trans ?_ (ih _)
      split
      · exact checkStep_wr s _ (by simp only [Page.SPB, Reg.SPB.ADMIT_PEAK]; omega)
      · exact .refl s

theorem checkStep_admitBank (peaks : Bool) (s : State) (bank : Store Word) : CheckStep s (admitBank peaks s bank).2 := by
  unfold admitBank
  split
  · exact checkStep_admitInfo ..
  · exact checkStep_admitAll ..

theorem checkStep_setCheck (s : State) (i : Nat) (mask : Word) : CheckStep s (setCheck s i mask).2 := by
  unfold setCheck
  dsimp only
  split
  · exact .refl s
  · split
    · exact .refl s
    · split
      · split <;> exact checkStep_wr s _ (by decide)
      · split
        · exact (checkStep_admitBank true s _).trans (checkStep_wr _ _ (by decide))
        · exact checkStep_admitBank true s _

theorem checkStep_checkRequest (s : State) (i : Nat) (r : CommitReq) (lost : List Nat) :
    CheckStep s (checkRequest s i r lost).2 := by
  unfold checkRequest
  dsimp only
  split
  · exact .refl s
  · split
    · exact .refl s
    · exact checkStep_setCheck ..

/-- What a check leaves of the layer block: its state, and the record of refusals. -/
theorem checkRequest_lyr (s : State) (i : Nat) (r : CommitReq) (lost : List Nat) :
    (checkRequest s i r lost).2.lyr = s.lyr ∧
      rd (checkRequest s i r lost).2 Reg.LYR.COMMIT_REFUSED = rd s Reg.LYR.COMMIT_REFUSED := by
  obtain ⟨honly, hrd⟩ := checkStep_checkRequest s i r lost
  exact ⟨by rw [honly], hrd _ (by decide)⟩

theorem setQueue_queue (s : State) (q : List CommitReq) : (setQueue s q).lyr.queue = q := (rfl)

theorem rd_setQueue (s : State) (q : List CommitReq) (b : Nat) : rd (setQueue s q) b = rd s b := (rfl)

/-- With no request under check its end means nothing (log entry 1). -/
theorem commitCheckDone_idle {s : State} (us : List Upset) (hawake : Awake s) (hnone : underCheck s = none) :
    exec (.commitCheckDone us) s = .next s := by
  change execCommitCheckDone us s = _
  rw [execCommitCheckDone, hnone]
  unfold wall
  rw [live_awake hawake, ite_self]

section
variable {s : State} {i : Nat} {r : CommitReq} (hlit : Lit s) (hcheck : underCheck s = some (i, r))
include hlit hcheck

/-- A check that finds no fault makes its request ready in its place (R68). -/
theorem commitCheckDone_passes (hpass : (checkRequest s i r []).1 = none) : exec (.commitCheckDone []) s =
    .next (setQueue (checkRequest s i r []).2 (replaceFirst (· == r) (fun x => { x with ready := true }) s.lyr.queue)) := by
  rw [← (checkRequest_lyr s i r []).1]
  change execCommitCheckDone [] s = _
  rw [execCommitCheckDone, hcheck, wall_lit hlit]
  change Host.Outcome.next (match checkRequest s i r [] with | (none, t) => _ | (some f, t) => _) = _
  rw [show checkRequest s i r [] = (none, (checkRequest s i r []).2) from Prod.ext hpass rfl]

/-- A check that finds one takes its request out of the queue and refuses it (R69). -/
theorem commitCheckDone_fails {f : Refuse} (hfail : (checkRequest s i r []).1 = some f) : exec (.commitCheckDone []) s =
    .next (refuseCommit (setQueue (checkRequest s i r []).2 (s.lyr.queue.erase r)) r.mask f) := by
  rw [← (checkRequest_lyr s i r []).1]
  change execCommitCheckDone [] s = _
  rw [execCommitCheckDone, hcheck, wall_lit hlit]
  change Host.Outcome.next (match checkRequest s i r [] with | (none, t) => _ | (some f, t) => _) = _
  rw [show checkRequest s i r [] = (some f, (checkRequest s i r []).2) from Prod.ext hfail rfl]

end

/-! ### Cancels (R71) -/

/-- Requests before the first that goes stay as they are. -/
theorem removeReqs_append {gone : CommitReq → Bool} {before : List CommitReq} (rest : List CommitReq)
    (h : ∀ q ∈ before, gone q = false) : removeReqs gone false (before ++ rest) = before ++ removeReqs gone false rest := by
  induction before with
  | nil => rfl
  | cons q qs ih =>
    obtain ⟨hq, hqs⟩ := List.forall_mem_cons.mp h
    simp only [List.cons_append, removeReqs, hq, ih hqs, Bool.false_eq_true, if_false]

/-- Where none goes the queue stays. -/
theorem removeReqs_none {gone : CommitReq → Bool} {l : List CommitReq} (h : ∀ q ∈ l, gone q = false) :
    removeReqs gone false l = l := by
  simpa [removeReqs] using removeReqs_append [] h

/-- After one has gone those that stay return to checking. -/
theorem removeReqs_after (gone : CommitReq → Bool) (l : List CommitReq) :
    removeReqs gone true l = (l.filter fun q => !gone q).map fun q => { q with ready := false } := by
  induction l with
  | nil => rfl
  | cons q qs ih => cases hq : gone q <;> simp [removeReqs, hq, ih]

/-- A cancel that meets no queued request leaves the queue. -/
theorem cancelGroups_none {s : State} {mask : Word} (h : ∀ r ∈ s.lyr.queue, r.mask &&& mask = 0) : cancelGroups s mask = s := by
  rw [cancelGroups, removeReqs_none (by simpa using h)]
  rfl

/-- A cancel takes out the first request that shares a group and all later ones that do, and sends the others behind it back to
their check. -/
theorem cancelGroups_first {s : State} {mask : Word} {before rest : List CommitReq} {r : CommitReq}
    (hqueue : s.lyr.queue = before ++ r :: rest) (hbefore : ∀ q ∈ before, q.mask &&& mask = 0) (hr : r.mask &&& mask ≠ 0) :
    (cancelGroups s mask).lyr.queue =
      before ++ (rest.filter fun q => q.mask &&& mask == 0).map fun q => { q with ready := false } := by
  rw [cancelGroups, setQueue_queue, hqueue, removeReqs_append _ (by simpa using hbefore), removeReqs, if_pos (by simpa using hr),
    removeReqs_after]
  simp only [bne, Bool.not_not]

/-- A cancel changes the layer block alone. -/
theorem cancelNow_frame (s : State) (mask : Word) : cancelNow s mask = { s with lyr := (cancelNow s mask).lyr } := by
  unfold cancelNow
  split <;> rfl

theorem commitCancel_accepted {s : State} {a : Agent} (mask : Word) (hawake : Awake s)
    (hacc : Accepts s a Reg.LYR.COMMIT_CANCEL .cmd) (htwn : twnOn s = false) :
    exec (.commitCancel a mask) s = .next (touchSession s a Page.LYR (cancelNow s mask)) := by
  change execCommitCancel a mask s = _
  rw [execCommitCancel, live_awake hawake, guarded_accepted hacc, htwn]
  rfl

/-! ### The latch of a phase (R72, R73, R185) -/

theorem notify_lyr (s : State) (l : Nat) : (notify s l).lyr = s.lyr :=
  foldl_keep (fun s => s.lyr) _ (fun s _ => by split <;> rfl) _ s

theorem notify_dls (s : State) (l : Nat) : (notify s l).dls = s.dls :=
  foldl_keep (fun s => s.dls) _ (fun s _ => by split <;> rfl) _ s

/-- A pulse leaves the layer block and the slots' contexts alone. -/
theorem pulse_lyr (s : State) (l : Nat) : (pulse s l).lyr = s.lyr := by
  rcases pulse_cases s l with h | h | ⟨e, h⟩ <;> rw [h]
  · rw [raiseE_lyr, wr_lyr, bump_lyr]
  · rw [notify_lyr]

theorem pulse_dls (s : State) (l : Nat) : (pulse s l).dls = s.dls := by
  rcases pulse_cases s l with h | h | ⟨e, h⟩ <;> rw [h]
  · rw [raiseE_dls, wr_dls, bump_dls]
  · rw [notify_dls]

/-- The safe actions that a phase gives up at its latch are given up (R388). -/
def releaseLatches (n : Nat) (s : State) : State :=
  ([Page.LYR, Page.CLR] ++ (List.range 32).map Page.SC).foldl (releaseLatch n) s

/-- Giving up a safe action changes what is noted of safe actions alone. -/
theorem releaseLatches_frame (n : Nat) (s : State) : releaseLatches n s = { s with par := (releaseLatches n s).par } := by
  unfold releaseLatches
  generalize [Page.LYR, Page.CLR] ++ (List.range 32).map Page.SC = pages
  induction pages generalizing s with
  | nil => rfl
  | cons pg pages ih =>
    rw [List.foldl_cons, ih]
    unfold releaseLatch
    split <;> rfl

/-- The state whose layers the latch of slot (k, n) resolves (R71, R67, R313). -/
def latchReady (s : State) (k n : Nat) : State :=
  dropTargets (settleReady (settleCancels (releaseLatches n s) (latchAt s k n)) (latchAt s k n))

theorem settleCancels_nil {s : State} (t : Int) (h : s.twn.ops = []) : settleCancels s t = s := by
  unfold settleCancels
  rw [h]
  simp only [List.filter_nil, List.foldl_nil]
  rw [← h]

theorem dropTargets_nil {s : State} (h : s.lyr.queue = []) : dropTargets s = s := by
  unfold dropTargets
  rw [h]
  simp only [List.filter_nil, List.foldl_nil, removeReqs, setQueue]
  rw [← h]

/-- Buffers that become pair-ready change ingest and the pair's state alone (R313). -/
theorem settleReady_keeps {β : Type} (π : State → β) (htwn : ∀ s x, π { s with twn := x } = π s)
    (hstream : ∀ s i x, π (setStream s i x) = π s) (s : State) (t : Int) : π (settleReady s t) = π s := by
  unfold settleReady
  dsimp only
  rw [foldl_keep π makePaired, htwn]
  intro s e
  unfold makePaired
  dsimp only
  split
  · exact hstream ..
  · rfl

/-- With no request queued and no mirrored operation, what comes before the latch touches neither the layer block nor a register. -/
theorem latchReady_quiet {s : State} {k n : Nat} (hqueue : s.lyr.queue = []) (hops : s.twn.ops = []) :
    (latchReady s k n).lyr = s.lyr ∧ (latchReady s k n).regs = s.regs := by
  have hlyr (u : State) (t : Int) : (settleReady u t).lyr = u.lyr :=
    settleReady_keeps (fun s => s.lyr) (fun _ _ => rfl) (fun _ _ _ => rfl) u t
  have hregs (u : State) (t : Int) : (settleReady u t).regs = u.regs :=
    settleReady_keeps (fun s => s.regs) (fun _ _ => rfl) (fun _ _ _ => rfl) u t
  have hframe := releaseLatches_frame n s
  rw [latchReady, settleCancels_nil _ (by rw [hframe]; exact hops), dropTargets_nil]
  · rw [hlyr, hregs, hframe]
    exact ⟨rfl, rfl⟩
  · rw [hlyr, hframe]
    exact hqueue

/-- What a latch with the block's safe action off makes of the layers of phase `n`, no word in error: absent with the block off,
else what R73 resolves. -/
def latchOut (u : State) (k n : Nat) (tl : Int) : LatchOut :=
  if !rdB u Reg.LYR.LYR_CTRL 0 then ⟨List.replicate 128 .absent, 0, 0⟩
  else resolve u (if pairLatch u k n then some tl else none) n []

/-- The slot's context taken over, a cancel of the latch's clock settled, and the phase's line pulsed. -/
def latchTaken (w : State) (n : Nat) (c : PhaseCtx) : State :=
  pulse (settleLate (notePrev (pushCtx (noteSample w c) c) n c)) (16 + n)

/-- The state `w` and the context `c` with which the latch of slot (k, n) ends, having stored `o` over `u`: the layer block is the one
that storing leaves, the context is the slot's with the visible layers, and PH_LAYERS counts them and those not ready. -/
structure LatchEnds (u : State) (k n : Nat) (o : LatchOut) (w : State) (c : PhaseCtx) : Prop where
  lyr : w.lyr = (storeLatch u k n o).lyr
  frame : c.k = k
  phase : c.n = n
  layers : c.layers = visibleLayers w n
  shown : rd w (Reg.LYR.PH_LAYERS n) = w32 (c.layers.length + 256 * o.notReady)

theorem visibleLayers_of_lyr {s t : State} (h : t.lyr = s.lyr) (n : Nat) : visibleLayers t n = visibleLayers s n := by
  simp only [visibleLayers, latched, h]

/-- Whatever a safe action has the latch keep, the context is the slot's, with its visible layers (R185, R388). -/
theorem latchCtx_slot (s : State) (k n : Nat) :
    (latchCtx s k n).k = k ∧ (latchCtx s k n).n = n ∧ (latchCtx s k n).layers = visibleLayers s n := by
  unfold latchCtx
  dsimp only
  split <;> split <;> exact ⟨rfl, rfl, rfl⟩

/-- With the block's safe action off, no request queued, no mirrored operation and no word in error, the latch stores latchOut of
the state made ready for it, and ends. -/
theorem latchSlot_quiet {s : State} {k n : Nat} (hn : n < 8) (hsafe : safeCause s Page.LYR = false) (hqueue : s.lyr.queue = [])
    (hops : s.twn.ops = []) :
    ∃ w c, latchSlot s k n [] = latchTaken w n c ∧
      LatchEnds (latchReady s k n) k n (latchOut (latchReady s k n) k n (latchAt s k n)) w c := by
  obtain ⟨hlyr, hregs⟩ := latchReady_quiet (k := k) (n := n) hqueue hops
  delta latchSlot
  -- The stages of latchSlot by name: `u` is made ready, `r` has applied requests, `o` is resolved, `c'` is the context taken over.
  extract_lets s₁ s₂ tl u held on pair lost r u₁ u₂ o stored counted caused c shown free a lostCounted raised c' taken pulsed
  have htl : tl = latchAt s k n := by
    change latchAt (releaseLatches n s) k n = _
    rw [releaseLatches_frame]
    rfl
  clear_value tl
  subst htl
  have hu : u = latchReady s k n := rfl
  have hheld : held = false := by
    rw [← hsafe]
    simp only [held, hu, safeCause, rdB, rd, hregs]
  have hr : r = (u, 0) := by
    have happly : applyHead n (latchAt s k n) u.lyr.queue u 0 = (u, 0) := by
      rw [hu, hlyr, hqueue, applyHead, setQueue, ← hqueue, ← hlyr]
    simp only [r, happly, ite_self]
  clear_value held r
  subst hheld hr
  have hsame : u₂ = u := if_pos rfl
  clear_value u₂
  subst hsame
  have ho : o = latchOut u k n (latchAt s k n) := by
    clear_value u
    simp only [o, Bool.false_eq_true, if_false]
    rfl
  clear_value o u
  -- What follows the storing of `o` counts and raises causes.
  have hcaused : caused.lyr = stored.lyr := by
    simp only [caused]
    split <;> simp only [raiseE_lyr, counted, bumpN_lyr]
  have hkept : raised.lyr = caused.lyr := by
    simp only [raised]
    split <;> simp only [raiseE_lyr, lostCounted, bumpN_lyr, shown, wr_lyr]
  have hshown : rd raised (Reg.LYR.PH_LAYERS n) = w32 (c.layers.length + 256 * o.notReady) := by
    have hother : rd lostCounted (Reg.LYR.PH_LAYERS n) = rd shown (Reg.LYR.PH_LAYERS n) := by
      simp only [lostCounted]
      rw [rd_bumpN, if_neg (by simp only [Reg.LYR.PH_LAYERS, Reg.SC.ASSIGN_LOST]; omega)]
    have hword : rd raised (Reg.LYR.PH_LAYERS n) = rd lostCounted (Reg.LYR.PH_LAYERS n) := by
      simp only [raised]
      split
      · rfl
      · exact rd_raiseE ..
    rw [hword, hother, rd_wr_same]
  obtain ⟨hframe, hphase, hlayers⟩ := latchCtx_slot caused k n
  subst hu ho
  exact ⟨raised, c', if_pos rfl, hkept.trans hcaused, hframe, hphase, hlayers.trans (visibleLayers_of_lyr hkept n).symm, hshown⟩

/-- A run of writes by place in a list is the list written as a whole. -/
theorem foldl_zipIdx_set {α : Type} [DecidableEq α] (d : Nat → α) (vs : List α) (m : Store α) (k j : Nat) :
    (vs.zipIdx j).foldl (fun m e => Store.set d m (k + e.2) e.1) m = Store.setList d m (k + j) vs := by
  induction vs generalizing m j with
  | nil => rfl
  | cons v vs ih => rw [List.zipIdx_cons, List.foldl_cons, ih, Store.setList, Nat.add_assoc]

/-- What a latch stores is its phase's state, layer by layer; the other phases' states stay. -/
theorem latched_storeLatch {u : State} {k n m l : Nat} {o : LatchOut} (hl : l < 128) (ho : o.states.length = 128) :
    latched (storeLatch u k n o) m l = if m = n then o.states.getD l Latched.absent else latched u m l := by
  unfold latched storeLatch
  dsimp only
  rw [foldl_zipIdx_set, Store.get_setList, Nat.add_zero]
  split
  next h =>
    obtain rfl : m = n := by omega
    rw [if_pos rfl, List.getD_eq_getElem _ _ (by omega)]
    congr 1
    omega
  next h => rw [if_neg (by omega)]

/-- A latch decides each of the 128 layers. -/
theorem latchOut_length (u : State) (k n : Nat) (tl : Int) : (latchOut u k n tl).states.length = 128 := by
  unfold latchOut
  split
  · exact List.length_replicate
  · exact (List.length_map ..).trans List.length_range

/-- A cancel of the latch's clock touches the queue and its own note alone. -/
theorem settleLate_frame (s : State) : settleLate s =
    { s with lyr := { s.lyr with queue := (settleLate s).lyr.queue, late := (settleLate s).lyr.late } } := by
  unfold settleLate
  split <;> rfl

theorem settleLate_latched (s : State) : (settleLate s).lyr.latched = s.lyr.latched := by rw [settleLate_frame]
theorem settleLate_dls (s : State) : (settleLate s).dls = s.dls := by rw [settleLate_frame]
theorem rd_settleLate (s : State) (b : Nat) : rd (settleLate s) b = rd s b := by rw [settleLate_frame]; rfl

theorem noteSample_lyr (s : State) (c : PhaseCtx) : (noteSample s c).lyr = s.lyr := by
  simp only [noteSample, wrF_lyr, wrB_lyr]

/-- The slot's samples show in DLS_STATUS alone (R186, R187, R201). -/
theorem rd_noteSample (s : State) (c : PhaseCtx) : RegsExcept [Reg.DLS.DLS_STATUS] s (noteSample s c) := by
  intro b hb
  have hne : b ≠ Reg.DLS.DLS_STATUS := by simpa using hb
  simp only [noteSample, rd_wrF, rd_wrB, if_neg hne]

theorem pushCtx_lyr (s : State) (c : PhaseCtx) : (pushCtx s c).lyr = s.lyr := (rfl)
theorem rd_pushCtx (s : State) (c : PhaseCtx) (b : Nat) : rd (pushCtx s c) b = rd s b := (rfl)

theorem findCtx_pushCtx (s : State) (c : PhaseCtx) : findCtx (pushCtx s c) c.k c.n = some c := by
  simp only [findCtx, pushCtx, List.find?_cons, beq_self_eq_true, Bool.and_self]

theorem notePrev_lyr (s : State) (key : Nat) (c : PhaseCtx) : (notePrev s key c).lyr = s.lyr := (rfl)
theorem rd_notePrev (s : State) (key : Nat) (c : PhaseCtx) (b : Nat) : rd (notePrev s key c) b = rd s b := (rfl)
theorem findCtx_notePrev (s : State) (key : Nat) (c : PhaseCtx) (k n : Nat) : findCtx (notePrev s key c) k n = findCtx s k n := (rfl)

/-- Taking over the slot's context leaves the layers' states. -/
theorem latchTaken_latched (w : State) (n : Nat) (c : PhaseCtx) : (latchTaken w n c).lyr.latched = w.lyr.latched := by
  rw [latchTaken, pulse_lyr, settleLate_latched, notePrev_lyr, pushCtx_lyr, noteSample_lyr]

theorem findCtx_latchTaken (w : State) {k n : Nat} {c : PhaseCtx} (hk : c.k = k) (hn : c.n = n) :
    findCtx (latchTaken w n c) k n = some c := by
  subst hk hn
  rw [findCtx, latchTaken, pulse_dls, settleLate_dls, ← findCtx, findCtx_notePrev, findCtx_pushCtx]

/-- PH_LAYERS stays as shown. -/
theorem rd_latchTaken_phLayers (w : State) (c : PhaseCtx) {n : Nat} (hn : n < 8) :
    rd (latchTaken w n c) (Reg.LYR.PH_LAYERS n) = rd w (Reg.LYR.PH_LAYERS n) := by
  rw [latchTaken, rd_pulse, rd_settleLate, rd_notePrev, rd_pushCtx, rd_noteSample]
  · simp only [List.mem_singleton, Reg.LYR.PH_LAYERS, Reg.DLS.DLS_STATUS]
    omega
  · simp only [List.mem_cons, List.not_mem_nil, or_false, Reg.LYR.PH_LAYERS, Reg.EVF.MERGED, Reg.EVF.LAST_MERGED]
    omega

/-- Before its instant, for a slot that is not known, or once taken, a latch means nothing (log entry 1). -/
theorem layerLatch_idle {s : State} {k n : Nat} (us : List Upset) (hawake : Awake s)
    (h : slotKnown s k n = false ∨ (findCtx s k n).isSome = true ∨ reached s (latchAt s k n) = false) :
    exec (.layerLatch k n us) s = .next s := by
  have hnot : (slotKnown s k n && decide (n < 8) && (findCtx s k n).isNone && reached s (latchAt s k n)) = false := by
    rcases h with h | h | h
    · rw [h]; rfl
    · rw [Option.isSome_iff_ne_none, ne_eq, ← Option.isNone_iff_eq_none, Bool.not_eq_true] at h
      rw [h, Bool.and_false, Bool.false_and]
    · rw [h, Bool.and_false]
  change execLayerLatch k n us s = _
  rw [execLayerLatch, hnot]
  unfold wall
  rw [live_awake hawake]
  exact congrArg _ (ite_self ..)

theorem layerLatch_taken {s : State} {k n : Nat} (us : List Upset) (hlit : Lit s) (hknown : slotKnown s k n = true) (hn : n < 8)
    (hnew : findCtx s k n = none) (hdue : reached s (latchAt s k n) = true) :
    exec (.layerLatch k n us) s = .next (latchSlot s k n us) := by
  change execLayerLatch k n us s = _
  rw [execLayerLatch, hknown, hnew, hdue, decide_eq_true hn, wall_lit hlit]
  rfl

/-! ### Placement packets (R77 to R79) -/

/-- A big-endian field of `n` bytes is below 256^n. -/
theorem ofLe_lt (bs : List Byte) : ofLe bs < 256 ^ bs.length := by
  induction bs with
  | nil => decide
  | cons b bs ih =>
    have hb := b.isLt
    rw [ofLe, List.length_cons, pow_succ]
    omega

theorem beAt_lt (bs : List Byte) (o n : Nat) : beAt bs o n < 256 ^ n := by
  refine lt_of_lt_of_le (ofLe_lt _) (Nat.pow_le_pow_right (by decide) ?_)
  simp [bytesAt]

/-- SEQ of a packet fits its field of A_STATUS. -/
theorem Place.seq_lt (p : Place) : p.seq < 2 ^ 16 := beAt_lt p.raw 6 2

/-- What is held of an awning once a packet is recorded (R79). -/
def heldAfter (s : State) (x : Awning) (p : Place) : Awning :=
  if p.restart then { x with p1 := none, p2 := some p }
  else match x.p2 with
    | none => { x with p2 := some p }
    | some q =>
      if rdN s Reg.AWN.PAIR_MIN * 1000 ≤ p.time - q.time then { x with p1 := some q, p2 := some p } else { x with p2 := some p }

theorem heldAfter_newest (s : State) (x : Awning) (p : Place) : (heldAfter s x p).p2 = some p := by
  unfold heldAfter
  (repeat' split) <;> rfl

/-- A restart forgets what was held (R79). -/
theorem heldAfter_restart (s : State) (x : Awning) {p : Place} (h : p.restart = true) : (heldAfter s x p).p1 = none := by
  rw [heldAfter, if_pos h]

/-- The packet held before becomes the earlier one of the pair where PAIR_MIN lies between them (R79). -/
theorem heldAfter_pair (s : State) {x : Awning} {p q : Place} (h : p.restart = false) (hq : x.p2 = some q) :
    (heldAfter s x p).p1 = if rdN s Reg.AWN.PAIR_MIN * 1000 ≤ p.time - q.time then some q else x.p1 := by
  rw [heldAfter, h, if_neg (by decide), hq]
  dsimp only
  split <;> rfl

theorem heldAfter_first (s : State) {x : Awning} {p : Place} (h : p.restart = false) (hnone : x.p2 = none) :
    (heldAfter s x p).p1 = x.p1 := by
  rw [heldAfter, h, if_neg (by decide), hnone]

/-- The status of an awning that has recorded a packet: VALID, PAIR, not STALE, its SEQ (R79). -/
def showRecorded (s : State) (i : Nat) (pair : Bool) (seq : Nat) : State :=
  wrF (wrB (wrB (wrB s (Reg.AWN.A_STATUS i) 0 true) (Reg.AWN.A_STATUS i) 1 pair) (Reg.AWN.A_STATUS i) 2 false)
    (Reg.AWN.A_STATUS i) 31 16 seq

theorem showRecorded_awn (s : State) (i : Nat) (pair : Bool) (seq : Nat) : (showRecorded s i pair seq).awn = s.awn := by
  simp only [showRecorded, wrF_awn, wrB_awn]

theorem rd_showRecorded_other (s : State) (i : Nat) (pair : Bool) (seq : Nat) :
    RegsExcept [Reg.AWN.A_STATUS i] s (showRecorded s i pair seq) := by
  intro b hb
  have hne : b ≠ Reg.AWN.A_STATUS i := by simpa using hb
  simp only [showRecorded, rd_wrF, rd_wrB, if_neg hne]

theorem showRecorded_status (s : State) (i : Nat) (pair : Bool) {seq : Nat} (hseq : seq < 2 ^ 16) :
    rdF (showRecorded s i pair seq) (Reg.AWN.A_STATUS i) 31 16 = seq ∧
      rdB (showRecorded s i pair seq) (Reg.AWN.A_STATUS i) 2 = false := by
  rw [rdF, rdB, showRecorded, rd_wrF, if_pos rfl]
  refine ⟨?_, ?_⟩
  · rw [fld_setFld_same _ _ _ _ (by decide) (by decide)]
    exact Nat.mod_eq_of_lt hseq
  · rw [bit_setFld_other _ _ _ _ _ (by decide) (by decide) (by decide), rd_wrB, if_pos rfl, bit_setBit_same _ _ _ (by decide)]

/-- A packet is later than the newest one held, if any. -/
def laterThan (x : Awning) (p : Place) : Bool :=
  match x.p2 with
  | some q => decide (q.time < p.time)
  | none => true

theorem laterThan_iff {x : Awning} {p : Place} : laterThan x p = true ↔ ∀ q, x.p2 = some q → q.time < p.time := by
  unfold laterThan
  cases x.p2 with
  | none => simp
  | some q => simp

/-- Test 4 of R78: a packet that does not restart its awning and is not later counts as out of order; any other is recorded (R79). -/
theorem recordPlace_eq (s : State) (p : Place) : recordPlace s p =
    if !p.restart && !laterThan (awning s p.id) p then bump s (Reg.AWN.DROP_ORDER p.id)
    else showRecorded (bump (setAwning s p.id (heldAfter s (awning s p.id) p)) (Reg.AWN.RX_OK p.id)) p.id
      (heldAfter s (awning s p.id) p).p1.isSome p.seq := (rfl)

theorem recordPlace_drops {s : State} {p q : Place} (hrestart : p.restart = false) (hq : (awning s p.id).p2 = some q)
    (hlate : p.time ≤ q.time) : recordPlace s p = bump s (Reg.AWN.DROP_ORDER p.id) := by
  have hnot : laterThan (awning s p.id) p = false := by
    rw [← Bool.not_eq_true, laterThan_iff]
    intro h
    have := h q hq
    omega
  rw [recordPlace_eq, hrestart, hnot, if_pos (by decide)]

theorem recordPlace_records {s : State} {p : Place} (h : p.restart = true ∨ laterThan (awning s p.id) p = true) :
    recordPlace s p = showRecorded (bump (setAwning s p.id (heldAfter s (awning s p.id) p)) (Reg.AWN.RX_OK p.id)) p.id
      (heldAfter s (awning s p.id) p).p1.isSome p.seq := by
  rw [recordPlace_eq, if_neg]
  rcases h with h | h <;> simp [h]

/-- What a recorded packet leaves: the awning as R79 has it, one packet more counted, its SEQ shown and the awning not stale. -/
structure PlaceRecorded (s : State) (p : Place) (t : State) : Prop where
  held : awning t p.id = heldAfter s (awning s p.id) p
  counted : rd t (Reg.AWN.RX_OK p.id) = plusOne (rd s (Reg.AWN.RX_OK p.id))
  seq : rdF t (Reg.AWN.A_STATUS p.id) 31 16 = p.seq
  fresh : rdB t (Reg.AWN.A_STATUS p.id) 2 = false
  regs : RegsExcept [Reg.AWN.RX_OK p.id, Reg.AWN.A_STATUS p.id] s t
  others : ∀ j, j ≠ p.id → awning t j = awning s j

theorem placeRecorded {s : State} {p : Place} (h : p.restart = true ∨ laterThan (awning s p.id) p = true) :
    PlaceRecorded s p (recordPlace s p) := by
  rw [recordPlace_records h]
  generalize hy : heldAfter s (awning s p.id) p = y
  generalize hu : bump (setAwning s p.id y) (Reg.AWN.RX_OK p.id) = u
  obtain ⟨hseq, hfresh⟩ := showRecorded_status u p.id y.p1.isSome p.seq_lt
  have hawning (j : Nat) : awning (showRecorded u p.id y.p1.isSome p.seq) j = if j = p.id then y else awning s j := by
    rw [awning, showRecorded_awn, ← awning, ← hu, awning_bump, awning_setAwning]
  refine ⟨?_, ?_, hseq, hfresh, fun b hb => ?_, fun j hj => ?_⟩
  · rw [hawning, if_pos rfl, hy]
  · rw [rd_showRecorded_other _ _ _ _ _ (by simp), ← hu, rd_bump_same, rd_setAwning]
  · simp only [List.mem_cons, List.not_mem_nil, or_false, not_or] at hb
    obtain ⟨hcount, hstatus⟩ := hb
    rw [rd_showRecorded_other _ _ _ _ _ (by simpa using hstatus), ← hu, rd_bump_other _ hcount, rd_setAwning]
  · rw [hawning, if_neg hj]

/-- A packet that no port passes on, or of another UDP port, changes nothing. -/
theorem placementPacket_ignored {s : State} {via : Via} {port : Nat} (ip : Word) (len : Nat) (pl : List Byte) (hlit : Lit s)
    (h : placePort s via = none ∨ port = 0 ∨ port ≠ rdF s Reg.AWN.AWN_CTRL 31 16) :
    exec (.placementPacket via ip port len pl) s = .next s := by
  change execPlacementPacket via ip port len pl s = _
  rw [execPlacementPacket, wall_lit hlit]
  cases hport : placePort s via with
  | none => rfl
  | some ovh => exact congrArg _ (if_pos (h.resolve_left (by rw [hport]; exact Option.some_ne_none _)))

section
variable {s : State} {via : Via} {port ovh : Nat} {pl : List Byte} (ip : Word) (len : Nat) (hlit : Lit s)
  (hvia : placePort s via = some ovh) (hzero : port ≠ 0) (hport : port = rdF s Reg.AWN.AWN_CTRL 31 16)
include hlit hvia hzero hport

theorem placementPacket_malformed (hformed : placeFormed pl = false) :
    exec (.placementPacket via ip port len pl) s = .next (bump s Reg.AWN.FORMAT_DROP) := by
  change execPlacementPacket via ip port len pl s = _
  rw [execPlacementPacket, wall_lit hlit, hvia, hformed]
  exact congrArg _ ((if_neg (not_or.mpr ⟨hzero, not_not.mpr hport⟩)).trans (if_neg (by decide)))

theorem placementPacket_judged (hformed : placeFormed pl = true) :
    exec (.placementPacket via ip port len pl) s = .next (judgePlace s ip (len + ovh) ⟨pl.take 48⟩) := by
  change execPlacementPacket via ip port len pl s = _
  rw [execPlacementPacket, wall_lit hlit, hvia, hformed]
  exact congrArg _ ((if_neg (not_or.mpr ⟨hzero, not_not.mpr hport⟩)).trans (if_pos rfl))

end

section
variable {s : State} {ip : Word} {p : Place} (len : Nat)

theorem judgePlace_source (hany : rd s (Reg.AWN.SRC_IP p.id) ≠ 0) (hsrc : rd s (Reg.AWN.SRC_IP p.id) ≠ ip) :
    judgePlace s ip len p = bump s (Reg.AWN.DROP_SRC p.id) := by
  unfold judgePlace
  dsimp only
  rw [if_pos ⟨hany, hsrc⟩]

variable (hsrc : rd s (Reg.AWN.SRC_IP p.id) = 0 ∨ rd s (Reg.AWN.SRC_IP p.id) = ip) (hcir : rdF s (Reg.AWN.POL_CIR p.id) 19 0 = 0)
include hsrc hcir

/-- From the right source, with no policer, the age alone decides what comes of a packet (R78). -/
theorem judgePlace_unpoliced : judgePlace s ip len p =
    if rdN s Reg.AWN.MAX_AGE * 1000 * 2 ^ 32 < ((s.time.count : Int) - p.time * 2 ^ 32).natAbs then bump s (Reg.AWN.DROP_AGE p.id)
    else if twnOn s then captureOp s 7 (.place ip p.raw) (beBytes 4 ip.toNat ++ p.raw)
    else recordPlace s p := by
  have hpolice : policeAwning s p.id len = (.green, s) := by simp only [policeAwning, if_pos hcir]
  unfold judgePlace
  dsimp only
  rw [if_neg (by tauto), hpolice]
  dsimp only
  rw [if_neg (by decide)]

end

/-! ### The latch of a band group (R80 to R84) -/

/-- A field that shares no bit with a written one reads as before. -/
theorem fld_setFld_other (w : Word) {hi lo hi' lo' : Nat} (v : Nat) (h : lo ≤ hi) (h32 : hi < 32) (hapart : hi' < lo ∨ hi < lo') :
    fld (setFld w hi lo v) hi' lo' = fld w hi' lo' := by
  refine Nat.eq_of_testBit_eq fun i => ?_
  simp only [fld, Nat.testBit_mod_two_pow, Nat.testBit_div_two_pow]
  by_cases hi_lt : i < hi' + 1 - lo'
  · rw [← bit, bit_setFld_other w hi lo v (i + lo') h h32 (by omega), bit]
  · rw [decide_eq_false hi_lt, Bool.false_and, Bool.false_and]

/-- A replacement found by the same test stands where the entry stood. -/
theorem find?_replaceFirst {α : Type} {p : α → Bool} {l : List α} {y : α} (hy : p y = true) (h : (l.find? p).isSome = true) :
    (replaceFirst p (fun _ => y) l).find? p = some y := by
  induction l with
  | nil => simp at h
  | cons x xs ih =>
    unfold replaceFirst
    split
    next hx => exact List.find?_cons_of_pos hy
    next hx =>
      rw [List.find?_cons_of_neg (by simpa using hx)] at h ⊢
      exact ih h

/-- A slot's context names its slot. -/
theorem findCtx_slot {s : State} {k n : Nat} {c : PhaseCtx} (h : findCtx s k n = some c) : c.k = k ∧ c.n = n := by
  simpa using List.find?_some h

/-- A slot whose latch is taken has the context last set. -/
theorem findCtx_setCtx {s : State} {k n : Nat} {c : PhaseCtx} (hk : c.k = k) (hn : c.n = n) (h : (findCtx s k n).isSome = true) :
    findCtx (setCtx s c) k n = some c := by
  subst hk hn
  exact find?_replaceFirst (by rw [beq_self_eq_true, beq_self_eq_true, Bool.and_self]) h

theorem settlePlaces_nil {s : State} (t : Int) (h : s.twn.ops = []) : settlePlaces s t = s := by
  unfold settlePlaces
  rw [h]
  simp only [List.filter_nil, List.foldl_nil]
  rw [← h]

/-- A slot's context once band group `g` is latched. -/
def groupTaken (c : PhaseCtx) (g : Nat) : PhaseCtx := { c with groups := g + 1 }

theorem groupTaken_k (c : PhaseCtx) (g : Nat) : (groupTaken c g).k = c.k := (rfl)
theorem groupTaken_n (c : PhaseCtx) (g : Nat) : (groupTaken c g).n = c.n := (rfl)

/-- The state in which a band group's latch places its awnings: mirrored placements recorded, AWN's release point passed, the next
group named. -/
def groupReady (s : State) (c : PhaseCtx) (g : Nat) : State :=
  setCtx (releaseSafe (settlePlaces s (c.begin_ (4 * g : Nat))) Page.AWN) (groupTaken c g)

/-- With no mirrored operation that state has the awnings, registers and time as they were. -/
theorem groupReady_quiet {s : State} (c : PhaseCtx) (g : Nat) (hops : s.twn.ops = []) :
    (groupReady s c g).regs = s.regs ∧ (groupReady s c g).awn = s.awn ∧ (groupReady s c g).time = s.time ∧
      (groupReady s c g).dls = (setCtx s (groupTaken c g)).dls := by
  rw [groupReady, settlePlaces_nil _ hops]
  unfold releaseSafe
  split <;> exact ⟨rfl, rfl, rfl, rfl⟩

theorem awningGroupLatch_idle {s : State} {k n g : Nat} {c : PhaseCtx} (hlit : Lit s) (hctx : findCtx s k n = some c)
    (h : c.groups ≠ g ∨ c.bands ≤ 4 * g ∨ reached s (c.begin_ (4 * g : Nat)) = false) :
    exec (.awningGroupLatch k n g) s = .next s := by
  have hnot : (c.groups == g && decide (4 * g < c.bands) && reached s (c.begin_ (4 * g : Nat))) = false := by
    rcases h with h | h | h
    · rw [beq_false_of_ne h]; rfl
    · rw [decide_eq_false (by omega), Bool.and_false, Bool.false_and]
    · rw [h, Bool.and_false]
  change execAwningGroupLatch k n g s = _
  rw [execAwningGroupLatch, wall_lit hlit, hctx]
  dsimp only
  rw [hnot, if_neg (by decide)]

theorem awningGroupLatch_taken {s : State} {k n g : Nat} {c : PhaseCtx} (hlit : Lit s) (hctx : findCtx s k n = some c)
    (hgroup : c.groups = g) (hband : 4 * g < c.bands) (hdue : reached s (c.begin_ (4 * g : Nat)) = true) :
    exec (.awningGroupLatch k n g) s = .next ((c.layers.filter fun e => dAwning e.2.desc).foldl
      (latchAwning (groupTaken c g) g) (groupReady s c g)) := by
  change execAwningGroupLatch k n g s = _
  rw [execAwningGroupLatch, wall_lit hlit, hctx]
  dsimp only
  rw [hdue, decide_eq_true hband, beq_iff_eq.mpr hgroup, if_pos (by decide), groupReady, groupTaken]

/-- Requests that enter the fabric change it alone. -/
theorem issueFetch_keeps {β : Type} (π : State → β) (hfab : ∀ s x, π { s with fab := x } = π s) (c : PhaseCtx) (b : Nat)
    (kind : FetchKind) (s : State) (units : List Nat) : π (issueFetch c b kind s units) = π s :=
  foldl_keep π _ (fun s _ => hfab s _) _ s

/-- The slot's context once awning layer `e` has its placement for band group `g`. -/
def placedCtx (s : State) (c : PhaseCtx) (g : Nat) (e : Nat × Latched) : PhaseCtx :=
  { ctxOf s c.k c.n with
    place := Store.set (fun _ => (0, 0, 0, 0)) (ctxOf s c.k c.n).place (256 * e.1 + g) (curOf s (dAwnId e.2.desc)) }

/-- The placement noted leaves the context its slot and its next group. -/
theorem placedCtx_slot {s : State} {c : PhaseCtx} (g : Nat) (e : Nat × Latched) (h : ctxOf s c.k c.n = c) :
    (placedCtx s c g e).k = c.k ∧ (placedCtx s c g e).n = c.n ∧ (placedCtx s c g e).groups = c.groups := by
  rw [placedCtx, h]
  exact ⟨rfl, rfl, rfl⟩

/-- An awning's latch is its placement, noted in the slot's context, and requests in the fabric (R80, R104). -/
theorem latchAwning_keeps {β : Type} (π : State → β) (hfab : ∀ s x, π { s with fab := x } = π s) (c : PhaseCtx) (g : Nat)
    (s : State) (e : Nat × Latched) : π (latchAwning c g s e) =
      π (setCtx (placeAwning s c g (dAwnId e.2.desc) (dPlace e.2.desc))
        (placedCtx (placeAwning s c g (dAwnId e.2.desc) (dPlace e.2.desc)) c g e)) := by
  unfold latchAwning
  dsimp only
  split
  · rfl
  · refine foldl_keep π _ (fun s j => ?_) _ _
    split
    · exact foldl_keep π _ (fun s u => issueFetch_keeps π hfab ..) _ _
    · rfl

/-! ### The placement of an awning (R82) -/

theorem curOf_of_rd {s t : State} {i : Nat}
    (h : ∀ b ∈ [Reg.AWN.CUR_X i, Reg.AWN.CUR_Y i, Reg.AWN.CUR_W i, Reg.AWN.CUR_H i], rd t b = rd s b) :
    curOf t i = curOf s i := by
  simp only [List.forall_mem_cons] at h
  obtain ⟨hx, hy, hw, hh, -⟩ := h
  simp only [curOf, rdN, hx, hy, hw, hh]

theorem rd_setCur (s : State) (i : Nat) (p : Int × Int × Nat × Nat) (b : Nat) : rd (setCur s i p) b =
    if b = Reg.AWN.CUR_H i then w32 p.2.2.2 else if b = Reg.AWN.CUR_W i then w32 p.2.2.1
    else if b = Reg.AWN.CUR_Y i then w32i p.2.1 else if b = Reg.AWN.CUR_X i then w32i p.1 else rd s b := by
  simp only [setCur, rd_setAwning, rd_wr]

/-- A placement taken by CUR leaves the awning's status. -/
theorem rd_setCur_status (s : State) (i : Nat) (p : Int × Int × Nat × Nat) :
    rd (setCur s i p) (Reg.AWN.A_STATUS i) = rd s (Reg.AWN.A_STATUS i) := by
  rw [rd_setCur, if_neg (by simp), if_neg (by simp), if_neg (by simp), if_neg (by simp)]

/-- What CUR takes does not depend on what it held. -/
theorem curOf_setCur (s t : State) (i : Nat) (p : Int × Int × Nat × Nat) : curOf (setCur t i p) i = curOf (setCur s i p) i := by
  refine curOf_of_rd fun b hb => ?_
  simp only [List.mem_cons, List.not_mem_nil, or_false] at hb
  rw [rd_setCur, rd_setCur]
  rcases hb with rfl | rfl | rfl | rfl <;> simp

/-- An awning shows a placement with its MODE, and is not stale. -/
structure AwningShows (t : State) (i : Nat) (p : Int × Int × Nat × Nat) (mode : Nat) : Prop where
  x : rd t (Reg.AWN.CUR_X i) = w32i p.1
  y : rd t (Reg.AWN.CUR_Y i) = w32i p.2.1
  w : rd t (Reg.AWN.CUR_W i) = w32 p.2.2.1
  h : rd t (Reg.AWN.CUR_H i) = w32 p.2.2.2
  mode : rdF t (Reg.AWN.A_STATUS i) 4 3 = mode
  fresh : rdB t (Reg.AWN.A_STATUS i) 2 = false

theorem AwningShows.of_regs {s t : State} {i mode : Nat} {p : Int × Int × Nat × Nat} (hregs : t.regs = s.regs)
    (h : AwningShows s i p mode) : AwningShows t i p mode := by
  have hrd (b : Nat) : rd t b = rd s b := by rw [rd, hregs, ← rd]
  obtain ⟨hx, hy, hw, hh, hmode, hfresh⟩ := h
  exact ⟨by rw [hrd, hx], by rw [hrd, hy], by rw [hrd, hw], by rw [hrd, hh], by rw [rdF, hrd, ← rdF, hmode],
    by rw [rdB, hrd, ← rdB, hfresh]⟩

/-- An awning shows what CUR has taken where nothing but its status, with that MODE and not stale, is written after it. -/
theorem awningShows_setCur {s t : State} {i mode : Nat} {p : Int × Int × Nat × Nat}
    (hrd : RegsExcept [Reg.AWN.A_STATUS i] (setCur s i p) t) (hmode : rdF t (Reg.AWN.A_STATUS i) 4 3 = mode)
    (hfresh : rdB t (Reg.AWN.A_STATUS i) 2 = false) : AwningShows t i p mode := by
  refine ⟨?_, ?_, ?_, ?_, hmode, hfresh⟩ <;> rw [hrd _ (by simp), rd_setCur] <;> simp

section
variable {s : State} {c : PhaseCtx} {g i : Nat} (own : Int × Int × Nat × Nat)

/-- With no packet held, or with the block off, the awning shows the descriptor's placement, MODE 0 (R82). -/
theorem placeAwning_own (h : (awning s i).p2 = none ∨ rdB s Reg.AWN.AWN_CTRL 0 = false) :
    AwningShows (placeAwning s c g i own) i own 0 := by
  have hnone : (if rdB s Reg.AWN.AWN_CTRL 0 then (awning s i).p2 else none) = none := by
    rcases h with h | h
    · rw [h, ite_self]
    · rw [h, if_neg (by decide)]
  unfold placeAwning
  dsimp only
  rw [hnone]
  dsimp only
  refine awningShows_setCur (s := s) (fun b hb => ?_) ?_ ?_
  · have hne : b ≠ Reg.AWN.A_STATUS i := by simpa using hb
    rw [rd_wrB, if_neg hne, rd_wrF, if_neg hne]
  · rw [rdF, rd_wrB, if_pos rfl, setBit, fld_setFld_other _ _ (by decide) (by decide) (by decide), rd_wrF, if_pos rfl,
      fld_setFld_same _ _ _ _ (by decide) (by decide), Nat.zero_mod]
  · rw [rdB, rd_wrB, if_pos rfl, bit_setBit_same _ _ _ (by decide)]

variable {p : Place} (hheld : (awning s i).p2 = some p) (hon : rdB s Reg.AWN.AWN_CTRL 0 = true)
include hheld hon

/-- Where the newest packet is too old the awning is stale, keeps its MODE, and keeps CUR or, unset, takes the descriptor's placement
(R82). -/
theorem placeAwning_old (hold : (rdN s Reg.AWN.MAX_AGE : Int) * 1000000 * 2 ^ 32 < latchNow s c g - p.time * 1000 * 2 ^ 32) :
    rdB (placeAwning s c g i own) (Reg.AWN.A_STATUS i) 2 = true ∧
      rdF (placeAwning s c g i own) (Reg.AWN.A_STATUS i) 4 3 = rdF s (Reg.AWN.A_STATUS i) 4 3 ∧
      curOf (placeAwning s c g i own) i = if (awning s i).curSet then curOf s i else curOf (setCur s i own) i := by
  unfold placeAwning
  dsimp only
  rw [if_pos hon, hheld]
  dsimp only
  rw [if_pos hold]
  generalize hs' : (if (awning s i).curSet = true then s else setCur s i own) = s'
  have hstatus : rd s' (Reg.AWN.A_STATUS i) = rd s (Reg.AWN.A_STATUS i) := by
    rw [← hs']
    split
    · rfl
    · exact rd_setCur_status ..
  have hcur : (if (awning s i).curSet = true then curOf s i else curOf (setCur s i own) i) = curOf s' i := by
    rw [← hs', apply_ite (curOf · i)]
  rw [hcur]
  split
  next hstale => exact ⟨by rw [rdB, hstatus, ← rdB, hstale], by rw [rdF, hstatus, ← rdF], rfl⟩
  · have hpulse (b : Nat) (hb : b ∈ [Reg.AWN.A_STATUS i, Reg.AWN.CUR_X i, Reg.AWN.CUR_Y i, Reg.AWN.CUR_W i, Reg.AWN.CUR_H i]) :
        rd (pulse (wrB s' (Reg.AWN.A_STATUS i) 2 true) (32 + i)) b = rd (wrB s' (Reg.AWN.A_STATUS i) 2 true) b := by
      refine rd_pulse _ _ b ?_
      simp only [List.mem_cons, List.not_mem_nil, or_false, Reg.AWN.A_STATUS, Reg.AWN.CUR_X, Reg.AWN.CUR_Y, Reg.AWN.CUR_W,
        Reg.AWN.CUR_H, Reg.EVF.MERGED, Reg.EVF.LAST_MERGED] at hb ⊢
      omega
    refine ⟨?_, ?_, curOf_of_rd fun b hb => ?_⟩
    · rw [rdB, hpulse _ (by simp), rd_wrB, if_pos rfl, bit_setBit_same _ _ _ (by decide)]
    · rw [rdF, hpulse _ (by simp), rd_wrB, if_pos rfl, setBit, fld_setFld_other _ _ (by decide) (by decide) (by decide), hstatus,
        ← rdF]
    · rw [hpulse b (List.mem_cons_of_mem _ hb), rd_wrB, if_neg]
      rintro rfl
      simp at hb

/-- Else it shows, within the clamps, the placement that the held packets give at the scan time (R82). -/
theorem placeAwning_fresh {x y w h : Int} {mode : Nat} {dt : Int}
    (hyoung : ¬ (rdN s Reg.AWN.MAX_AGE : Int) * 1000000 * 2 ^ 32 < latchNow s c g - p.time * 1000 * 2 ^ 32)
    (hdt : dt = clampI (-(rdN s Reg.AWN.EXTRAP_MAX * 1000 : Nat)) (rdN s Reg.AWN.EXTRAP_MAX * 1000 : Nat) (scanTime s c i g - p.time))
    (hplace : extrapolate (awning s i).p1 p dt = ((x, y, w, h), mode)) (hmode : mode < 4) :
    AwningShows (placeAwning s c g i own) i (clampPlace (x, y, w, h) own.2.2.1 own.2.2.2) mode := by
  rw [Nat.cast_mul, Nat.cast_ofNat] at hdt
  unfold placeAwning
  dsimp only
  rw [if_pos hon, hheld]
  dsimp only
  rw [if_neg hyoung, ← hdt, hplace]
  refine awningShows_setCur (s := s) (fun b hb => ?_) ?_ ?_
  · have hne : b ≠ Reg.AWN.A_STATUS i := by simpa using hb
    rw [rd_wrF, if_neg hne, rd_wrB, if_neg hne]
  · rw [rdF, rd_wrF, if_pos rfl, fld_setFld_same _ _ _ _ (by decide) (by decide)]
    exact Nat.mod_eq_of_lt hmode
  · rw [rdB, rd_wrF, if_pos rfl, bit_setFld_other _ _ _ _ _ (by decide) (by decide) (by decide), rd_wrB, if_pos rfl,
      bit_setBit_same _ _ _ (by decide)]

end

/-- An awning's placement leaves the slots' contexts. -/
theorem placeAwning_dls (s : State) (c : PhaseCtx) (g i : Nat) (own : Int × Int × Nat × Nat) :
    (placeAwning s c g i own).dls = s.dls := by
  have hcur (p : Int × Int × Nat × Nat) : (setCur s i p).dls = s.dls := (rfl)
  unfold placeAwning
  dsimp only
  split
  · rw [wrB_dls, wrF_dls, hcur]
  · split
    · have hset : (if (awning s i).curSet = true then s else setCur s i own).dls = s.dls := by
        split
        · rfl
        · exact hcur own
      split
      · exact hset
      · rw [pulse_dls, wrB_dls, hset]
    · rw [wrF_dls, wrB_dls, hcur]

/-- The latch of a band group with one awning: the state it leaves has the registers of that awning's placement, and the slot's next
group is named. -/
theorem latchAwning_one {s : State} {k n g : Nat} {c : PhaseCtx} (e : Nat × Latched) (hctx : findCtx s k n = some c)
    (hops : s.twn.ops = []) :
    (latchAwning (groupTaken c g) g (groupReady s c g) e).regs =
        (placeAwning (groupReady s c g) (groupTaken c g) g (dAwnId e.2.desc) (dPlace e.2.desc)).regs ∧
      (findCtx (latchAwning (groupTaken c g) g (groupReady s c g) e) k n).map (·.groups) = some (g + 1) := by
  obtain ⟨hk, hn⟩ := findCtx_slot hctx
  obtain ⟨-, -, -, hdls⟩ := groupReady_quiet c g hops
  generalize hu : placeAwning (groupReady s c g) (groupTaken c g) g (dAwnId e.2.desc) (dPlace e.2.desc) = u
  have hplaced : findCtx u k n = some (groupTaken c g) := by
    rw [findCtx, ← hu, placeAwning_dls, hdls, ← findCtx,
      findCtx_setCtx (c := groupTaken c g) hk hn (Option.isSome_of_eq_some hctx)]
  have hslot : ctxOf u (groupTaken c g).k (groupTaken c g).n = groupTaken c g := by
    rw [ctxOf, groupTaken_k, groupTaken_n, hk, hn, hplaced, Option.getD_some]
  obtain ⟨hpk, hpn, hpgroups⟩ := placedCtx_slot (s := u) g e hslot
  refine ⟨?_, ?_⟩
  · rw [latchAwning_keeps (fun s => s.regs) (fun _ _ => rfl), hu]
    rfl
  · rw [latchAwning_keeps (fun s => (findCtx s k n).map (·.groups)) (fun _ _ => rfl), hu,
      findCtx_setCtx (hpk.trans hk) (hpn.trans hn) (Option.isSome_of_eq_some hplaced), Option.map_some, hpgroups]
    rfl

end Sys2Proof.Machine
end

section
/-! The statements of 03_layers_commit_and_awnings: commits, their checks and cancels, the latch of a phase, placement packets,
and the latch of a band group. -/

open Sys2Proof Sys2Proof.Machine

/-- Settles O19: an accepted write of COMMIT is enterCommit, or a captured operation in a pair; enterCommit's branches are the causes
in the order of log entry 124. -/
theorem commitQueues : Obligations.CommitQueues := by
  intro s a mask hawake hacc
  have hexec := commit_accepted mask hawake hacc
  refine ⟨fun hempty => ?_, fun hmask htwn => ?_, fun hmask htwn => ?_⟩
  · rw [hexec, if_pos hempty]
  · rw [if_neg hmask, if_neg (by simp [htwn])] at hexec
    have hrefused {c g : Nat} (hc : c < 65536) (hg : g < 65536)
        (h : enterCommit s mask (rd s Reg.LYR.COMMIT_CTRL) false 0 = refuseCommit s mask ⟨c, g, none⟩) :
        ∃ t, exec (.commit a mask) s = .next t ∧ t.lyr = s.lyr ∧
          rd t Reg.LYR.COMMIT_REFUSED = rd s Reg.LYR.COMMIT_REFUSED ||| mask ∧ (rd t Reg.LYR.REFUSE_INFO).toNat / 65536 = c ∧
          RegsExcept [Reg.LYR.COMMIT_REFUSED, Reg.LYR.REFUSE_INFO] s t := by
      refine ⟨_, by rw [hexec, h], ?_, ?_, ?_, fun b hb => ?_⟩
      · rw [touchSession_lyr, refuseCommit_lyr]
      · rw [rd_touchSession, rd_refuseCommit_refused]
      · rw [rd_touchSession, rd_refuseCommit_cause s mask hc hg]
      · rw [rd_touchSession, rd_refuseCommit_other s mask _ b hb]
    have hgroup (m : Word) : lowGroup m < 65536 := by have := lowGroup_lt m; omega
    refine ⟨fun hboth => ?_, fun hboth hfull => ?_, fun hboth hroom hnow hphase => ?_, fun hboth hroom hphase => ?_⟩
    · exact hrefused (by decide) (hgroup _) (enterCommit_queued hmask _ _ hboth)
    · exact hrefused (by decide) (hgroup _) (enterCommit_full hmask hboth _ _ hfull)
    · exact hrefused (by decide) (hgroup _) (enterCommit_noPhase hmask hboth hroom _ _ hnow hphase)
    · exact ⟨_, rfl, rfl, rfl, by rw [hexec, enterCommit_joins hmask hboth hroom _ _ hphase]⟩
  · rw [if_neg hmask, if_pos htwn] at hexec
    obtain ⟨hframe, o, hmem, hop, hinstant⟩ := captureOp_waits s 3 (.commit mask (rd s Reg.LYR.COMMIT_CTRL))
      (beBytes 4 mask.toNat ++ beBytes 1 (fld (rd s Reg.LYR.COMMIT_CTRL) 3 0) ++ [0, 0, 0])
    refine ⟨_, hexec, ?_, o, ?_, hop, hinstant⟩
    · rw [touchSession_lyr, hframe]
    · rwa [touchSession_twn]

/-- Settles O20: a check changes registers past the layer page alone, so its verdict alone decides the queue; a cancel
is removeReqs. -/
theorem checksAndCancels : Obligations.ChecksAndCancels := by
  refine ⟨fun s i r hlit hcheck => ?_, fun s hawake hnone us => commitCheckDone_idle us hawake hnone,
    fun s a mask hawake hacc htwn => ?_⟩
  · obtain ⟨-, hrefused⟩ := checkRequest_lyr s i r []
    refine ⟨fun hpass => ?_, fun f hfail => ?_⟩
    · exact ⟨_, commitCheckDone_passes hlit hcheck hpass, setQueue_queue .., hrefused⟩
    · refine ⟨_, commitCheckDone_fails hlit hcheck hfail, ?_, ?_⟩
      · rw [refuseCommit_lyr, setQueue_queue]
      · rw [rd_refuseCommit_refused, rd_setQueue, hrefused]
  · have hnow (hdue : latchDue s = false) : cancelNow s mask = cancelGroups s mask := by rw [cancelNow, hdue]; rfl
    refine ⟨_, commitCancel_accepted mask hawake hacc htwn, cancelNow_frame s mask, fun hdue => ?_, fun hdue hnone => ?_,
      fun before r rest hdue hqueue hbefore hr => ?_⟩
    · rw [cancelNow, hdue]
      rfl
    · rw [hnow hdue, cancelGroups_none hnone]
    · rw [hnow hdue, ← cancelGroups_first hqueue hbefore hr]
      rfl

/-- Settles O21: the latch ends with latchOut stored over the state made ready for it, and nothing after that touches the layers'
states. -/
theorem layersLatch : Obligations.LayersLatch := by
  refine ⟨fun s k n us hawake h => layerLatch_idle us hawake h, fun s k n hlit hknown hn hnew hdue hsafe hqueue hops => ?_⟩
  obtain ⟨hlyr, hregs⟩ := latchReady_quiet (k := k) (n := n) hqueue hops
  obtain ⟨w, c, hslot, hends⟩ := latchSlot_quiet (k := k) hn hsafe hqueue hops
  have hexec := layerLatch_taken [] hlit hknown hn hnew hdue
  rw [hslot] at hexec
  generalize ht : latchTaken w n c = t at hexec
  have hctx : findCtx t k n = some c := by rw [← ht, findCtx_latchTaken w hends.frame hends.phase]
  have hstates (m l : Nat) (hl : l < 128) : latched t m l =
      if m = n then (latchOut (latchReady s k n) k n (latchAt s k n)).states.getD l Latched.absent else latched s m l := by
    rw [latched, ← ht, latchTaken_latched, hends.lyr, ← latched, latched_storeLatch hl (latchOut_length ..)]
    simp only [latched, hlyr]
  have hvisible : visibleLayers t n = c.layers := by
    rw [hends.layers]
    simp only [visibleLayers, latched, ← ht, latchTaken_latched]
  have hshown : rd t (Reg.LYR.PH_LAYERS n) =
      w32 ((visibleLayers t n).length + 256 * (latchOut (latchReady s k n) k n (latchAt s k n)).notReady) := by
    rw [← ht, rd_latchTaken_phLayers w c hn, hends.shown, ht, hvisible]
  have hctrl : rdB (latchReady s k n) Reg.LYR.LYR_CTRL 0 = rdB s Reg.LYR.LYR_CTRL 0 := by simp only [rdB, rd, hregs]
  refine ⟨t, hexec, by rw [hctx, hvisible]; rfl, fun m l hm hl => by rw [hstates m l hl, if_neg hm], fun hoff => ?_,
    fun u o hon hu ho => ?_⟩
  · have hout : latchOut (latchReady s k n) k n (latchAt s k n) = ⟨List.replicate 128 .absent, 0, 0⟩ := by
      rw [latchOut, hctrl, hoff]
      rfl
    have habsent (l : Nat) (hl : l < 128) : latched t n l = Latched.absent := by
      rw [hstates n l hl, if_pos rfl, hout, List.getD_replicate _ hl]
    refine ⟨habsent, ?_⟩
    have hnone : visibleLayers t n = [] := by
      rw [visibleLayers, List.filter_eq_nil_iff]
      intro e he
      obtain ⟨l, hl, rfl⟩ := List.mem_map.mp he
      rw [habsent l (List.mem_range.mp hl)]
      exact (by decide : ¬ Latched.absent.visible = true)
    rw [hshown, hnone, hout]
    rfl
  · have hout : latchOut (latchReady s k n) k n (latchAt s k n) = o := by
      rw [latchOut, hctrl, hon, ho, hu]
      rfl
    exact ⟨fun l hl => by rw [hstates n l hl, if_pos rfl, hout], by rw [hshown, hout]⟩

/-- Settles O22: the tests of R78 in their order; a packet that passes them is recorded as R79 has it. -/
theorem placementRecorded : Obligations.PlacementRecorded := by
  intro s via ip port len pl hlit
  refine ⟨fun h => placementPacket_ignored ip len pl hlit h,
    fun ovh hvia hzero hport => ⟨fun hformed => ?_, fun p hp hformed => ?_⟩⟩
  · exact ⟨_, placementPacket_malformed ip len hlit hvia hzero hport hformed, regsOnly_bump .., rd_bump_same ..,
      fun b hb => rd_bump_other _ (by simpa using hb)⟩
  have hexec := placementPacket_judged ip len hlit hvia hzero hport hformed
  rw [← hp] at hexec
  -- A packet that one counter alone remembers.
  have hcounted (a : Nat) (h : judgePlace s ip (len + ovh) p = bump s a) : ∃ t,
      exec (.placementPacket via ip port len pl) s = .next t ∧ t = { s with regs := t.regs, par := t.par } ∧
      rd t a = plusOne (rd s a) ∧ RegsExcept [a] s t :=
    ⟨_, by rw [hexec, h], regsOnly_bump .., rd_bump_same .., fun b hb => rd_bump_other _ (by simpa using hb)⟩
  refine ⟨fun hany hsrc => hcounted _ (judgePlace_source _ hany hsrc), fun hsrc hcir => ?_⟩
  have hjudge := judgePlace_unpoliced (len + ovh) hsrc hcir
  refine ⟨fun hold => hcounted _ (by rw [hjudge, if_pos hold]), fun hyoung htwn => ?_⟩
  rw [if_neg (not_lt.mpr hyoung), htwn, if_neg (by decide)] at hjudge
  rw [hjudge] at hexec hcounted
  refine ⟨fun hrestart => ?_, fun hrestart hlater => ?_, fun q hrestart hq hlate => ?_⟩
  · obtain ⟨hheld, hcount, hseq, -, hregs, hothers⟩ := placeRecorded (s := s) (.inl hrestart)
    exact ⟨_, hexec, by rw [hheld, heldAfter_newest], by rw [hheld, heldAfter_restart s _ hrestart], hcount, hseq, hregs, hothers⟩
  · obtain ⟨hheld, hcount, hseq, hfresh, hregs, hothers⟩ := placeRecorded (s := s) (.inr (laterThan_iff.mpr hlater))
    exact ⟨_, hexec, by rw [hheld, heldAfter_newest], fun q hq => by rw [hheld, heldAfter_pair s hrestart hq],
      fun hnone => by rw [hheld, heldAfter_first s hrestart hnone], hcount, hseq, hfresh, hregs, hothers⟩
  · exact hcounted _ (recordPlace_drops hrestart hq hlate)

/-- Settles O23: a taken group latch is placeAwning of its awning, and of the registers and the next group nothing else changes. -/
theorem awningsPlaced : Obligations.AwningsPlaced := by
  intro s k n g c hlit hctx
  refine ⟨fun h => awningGroupLatch_idle hlit hctx h, fun hgroup hband hdue hops hnone => ?_,
    fun e i hgroup hband hdue hops hone hi => ?_⟩
  · obtain ⟨hregs, -, -, hdls⟩ := groupReady_quiet c g hops
    obtain ⟨hk, hn⟩ := findCtx_slot hctx
    refine ⟨_, by rw [awningGroupLatch_taken hlit hctx hgroup hband hdue, hnone, List.foldl_nil], ?_, hregs⟩
    rw [findCtx, hdls, ← findCtx, findCtx_setCtx (c := groupTaken c g) hk hn (Option.isSome_of_eq_some hctx)]
    rfl
  obtain ⟨hregs, hnext⟩ := latchAwning_one (g := g) e hctx hops
  have hexec := awningGroupLatch_taken hlit hctx hgroup hband hdue
  rw [hone, List.foldl_cons, List.foldl_nil] at hexec
  rw [← hi] at hregs
  obtain ⟨huregs, huawn, hutime, -⟩ := groupReady_quiet c g hops
  generalize groupReady s c g = u at *
  generalize latchAwning (groupTaken c g) g u e = t at *
  have hrd (b : Nat) : rd u b = rd s b := by rw [rd, huregs, ← rd]
  have hctrl : rdB u Reg.AWN.AWN_CTRL 0 = rdB s Reg.AWN.AWN_CTRL 0 := by rw [rdB, hrd, ← rdB]
  have hawning : awning u i = awning s i := by rw [awning, huawn, ← awning]
  have hnow : latchNow u (groupTaken c g) g = latchNow s c g := by
    have htwn : twnOn u = twnOn s := by rw [twnOn, rdB, hrd, ← rdB, ← twnOn]
    have hbegin (b : Int) : (groupTaken c g).begin_ b = c.begin_ b := rfl
    rw [latchNow, latchNow, htwn, hutime, hbegin]
  have hscan : scanTime u (groupTaken c g) i g = scanTime s c i g := by
    simp only [scanTime, rdN, hrd, groupTaken]
  refine ⟨t, hexec, hnext, fun hown => ?_, fun p old hheld hon hold => ?_⟩
  · obtain ⟨hx, hy, hw, hh, hmode, hfresh⟩ := (placeAwning_own (c := groupTaken c g) (g := g) (dPlace e.2.desc)
      (by rwa [← hawning, ← hctrl] at hown)).of_regs hregs
    exact ⟨hx, hy, hw, hh, hmode, hfresh⟩
  rw [← hawning] at hheld
  rw [← hctrl] at hon
  rw [← hnow, rdN, ← hrd, ← rdN] at hold
  refine ⟨fun hwas => ?_, fun dt x y w h mode hyoung hdt hplace => ?_⟩
  · obtain ⟨hstale, hmode, hcur⟩ := placeAwning_old (dPlace e.2.desc) hheld hon (of_decide_eq_true (hold.symm.trans hwas))
    have hrdt (b : Nat) : rd t b = rd (placeAwning u (groupTaken c g) g i (dPlace e.2.desc)) b := by rw [rd, hregs, ← rd]
    refine ⟨by rw [rdB, hrdt, ← rdB, hstale], by rw [rdF, hrdt, ← rdF, hmode, rdF, hrd, ← rdF], ?_⟩
    rw [curOf_of_rd fun b _ => hrdt b, hcur, hawning, curOf_of_rd fun b _ => hrd b, curOf_setCur s u]
  · have hextra : extrapolate (awning u i).p1 p dt = ((x, y, w, h), mode) ∧ mode < 4 := by
      rw [hawning]
      rcases hplace with ⟨hp1, hvel, rfl, rfl, rfl, rfl, rfl⟩ | ⟨hp1, hvel, rfl, rfl, rfl, rfl, rfl⟩ |
        ⟨q, hp1, rfl, rfl, rfl, rfl, rfl⟩ <;> rw [hp1]
      · exact ⟨by simp only [extrapolate, hvel, Bool.false_eq_true, if_false], by decide⟩
      · exact ⟨by simp only [extrapolate, hvel, if_true], by decide⟩
      · exact ⟨rfl, by decide⟩
    rw [← hscan, rdN, ← hrd, ← rdN] at hdt
    obtain ⟨hx, hy, hw, hh, hmode, hfresh⟩ := (placeAwning_fresh (dPlace e.2.desc) hheld hon
      (of_decide_eq_false (hold.symm.trans hyoung)) hdt hextra.1 hextra.2).of_regs hregs
    exact ⟨hx, hy, hw, hh, hmode, hfresh⟩

end

section
/-! SUPPORT. Spans, fetch and the fabric (R96 to R114): what a build, a boundary, a release of fetch, a transfer slot and a recheck
come down to, and what each leaves alone. -/

namespace Sys2Proof.Machine

/-! ### Safe actions that end at a release point (R388) -/

/-- A release point changes nothing but what is noted of safe actions. -/
theorem releaseSafe_frame (s : State) (pg : Nat) : releaseSafe s pg = { s with par := (releaseSafe s pg).par } := by
  unfold releaseSafe
  split <;> rfl

/-- A cause puts a page's safe action in force, where it has one. -/
theorem safe_of_cause {s : State} {pg : Nat} (hacts : noSafeAction pg = false) (h : safeCause s pg = true) : safe s pg = true := by
  rw [safe, hacts, h]
  rfl

/-- A page that no latch releases is out of its safe action at a release point without a cause. -/
theorem safe_released {s : State} {pg : Nat} (hlatch : latchReleased pg = false) (h : safeCause s pg = false) :
    safe (releaseSafe s pg) pg = false := by
  have hcause : safeCause (setSafe s pg false) pg = false := by simpa only [safeCause, rdB, rd_setSafe] using h
  rw [releaseSafe, if_neg (by rw [h]; decide), safe, hcause, safeNote_setSafe, if_pos rfl, hlatch]
  simp

/-- A release point of another page leaves the safe action of a page that no latch releases. -/
theorem safe_releaseSafe_other {s : State} {pg q : Nat} (hlatch : latchReleased q = false) (h : q ≠ pg) :
    safe (releaseSafe s pg) q = safe s q := by
  have hcause (v : Bool) : safeCause (setSafe s pg v) q = safeCause s q := by simp only [safeCause, rdB, rd_setSafe]
  unfold releaseSafe
  split
  · rfl
  · simp only [safe, hcause, safeNote_setSafe, if_neg h, hlatch, Bool.false_and]

/-! ### Span banks -/

theorem setStaged_frame (s : State) (x : SpanBank) : setStaged s x = { s with spb := (setStaged s x).spb } := by
  unfold setStaged
  split <;> rfl

/-- The staged bank is replaced; the active bank stays. -/
theorem setStaged_banks (s : State) (x : SpanBank) :
    stagedBank (setStaged s x) = x ∧ activeBank (setStaged s x) = activeBank s := by
  unfold setStaged
  split
  next h => simp [stagedBank, activeBank, h]
  next h => simp [stagedBank, activeBank, h]

/-- A build dropped changes the staged bank and which build runs. -/
theorem dropBuild_frame (s : State) : dropBuild s = { s with spb := (dropBuild s).spb } := by
  rw [dropBuild, setStaged_frame]

theorem dropBuild_active (s : State) : activeBank (dropBuild s) = activeBank s := (setStaged_banks s _).2

/-- The listed layers rest on the slot's latch and on AWN's safe action alone. -/
theorem listedLayers_of {s t : State} (h : safe t Page.AWN = safe s Page.AWN) (c : PhaseCtx) :
    listedLayers t c = listedLayers s c := by
  rw [listedLayers, composedLayers, h]
  rfl

/-! ### Builds (R97) -/

/-- The state with slot (k, n)'s build started: the staged bank has its header, a build before it is dropped. -/
def buildStarted (s : State) (k n : Nat) (c : PhaseCtx) : State :=
  let t := setStaged (dropBuild s) { stagedBank (dropBuild s) with
    phase := n, valid := false, list := (listedLayers (dropBuild s) c).map (·.1), bands := c.bands }
  { t with spb := { t.spb with build := some (k, n) } }

theorem buildStarted_frame (s : State) (k n : Nat) (c : PhaseCtx) :
    buildStarted s k n c = { s with spb := (buildStarted s k n c).spb } := by
  rw [buildStarted, setStaged_frame, dropBuild_frame]

/-- A build that starts has its slot, its header in the staged bank, and the active bank as it was. -/
theorem buildStarted_banks (s : State) (k n : Nat) (c : PhaseCtx) :
    (buildStarted s k n c).spb.build = some (k, n) ∧ activeBank (buildStarted s k n c) = activeBank s ∧
      stagedBank (buildStarted s k n c) = { stagedBank (dropBuild s) with
        phase := n, valid := false, list := (listedLayers s c).map (·.1), bands := c.bands } := by
  obtain ⟨hstaged, hactive⟩ := setStaged_banks (dropBuild s) { stagedBank (dropBuild s) with
    phase := n, valid := false, list := (listedLayers (dropBuild s) c).map (·.1), bands := c.bands }
  have hlist : listedLayers (dropBuild s) c = listedLayers s c := listedLayers_of (by rw [dropBuild_frame]; rfl) c
  refine ⟨rfl, hactive.trans (dropBuild_active s), ?_⟩
  rw [← hlist]
  exact hstaged

/-- The state with slot (k, n)'s table in the staged bank. -/
def tableBuilt (s : State) (k n clocks : Nat) (c : PhaseCtx) : State :=
  let t := setStaged s { (buildTable s c c.bands (stagedBank s)).1 with seq := s.spb.builds + 1, clk := clocks, valid := true }
  { t with spb := { t.spb with build := none, builds := s.spb.builds + 1, done := some (k, n) } }

/-- The build's clocks and truncated cells as the registers show them (R97, R95). -/
def buildShown (s : State) (clocks cut : Nat) : State :=
  let t := peak (wr s Reg.SPB.BUILD_TIME_LAST (w32 clocks)) Reg.SPB.BUILD_TIME_MAX clocks
  if 0 < cut then raiseE (bumpN t Reg.SPB.DEPTH_TRUNC cut) Page.SPB 1 else t

theorem buildShown_spb (s : State) (clocks cut : Nat) : (buildShown s clocks cut).spb = s.spb := by
  unfold buildShown
  dsimp only
  split
  · rw [raiseE_spb, bumpN_spb, peak_spb, wr_spb]
  · rw [peak_spb, wr_spb]

theorem rd_buildShown (s : State) (clocks cut b : Nat) (hmax : b ≠ Reg.SPB.BUILD_TIME_MAX) (hcut : b ≠ Reg.SPB.DEPTH_TRUNC) :
    rd (buildShown s clocks cut) b = if b = Reg.SPB.BUILD_TIME_LAST then w32 clocks else rd s b := by
  unfold buildShown
  dsimp only
  split
  · rw [rd_raiseE, rd_bumpN, if_neg hcut, rd_peak_other _ _ hmax, rd_wr]
  · rw [rd_peak_other _ _ hmax, rd_wr]

section
variable {s : State} {k n : Nat} {c : PhaseCtx} (hlit : Lit s) (hctx : findCtx s k n = some c)
include hlit hctx

/-- No build starts past the slot's boundary or before its layers are handed over (log entry 1). -/
theorem spanBuildStart_idle (h : c.xDone = true ∨ reached s (latchAt s k n + 1638400) = false) :
    exec (.spanBuildStart k n) s = .next s := by
  change execSpanBuildStart k n s = _
  rw [execSpanBuildStart, wall_lit hlit, hctx]
  dsimp only
  rw [if_pos]
  rcases h with h | h <;> simp [h]

theorem spanBuildStart_starts (hbefore : c.xDone = false) (hbuild : s.spb.build ≠ some (k, n)) (hdone : s.spb.done ≠ some (k, n))
    (hdue : reached s (latchAt s k n + 1638400) = true) (hcause : safeCause s Page.SPB = false)
    (hon : rdB s Reg.SPB.SPB_CTRL 0 = true) :
    exec (.spanBuildStart k n) s = .next (buildStarted (releaseSafe s Page.SPB) k n c) := by
  have hsafe := safe_released (s := s) (pg := Page.SPB) (by decide) hcause
  have hon' : rdB (releaseSafe s Page.SPB) Reg.SPB.SPB_CTRL 0 = true := by rw [rdB, rd_releaseSafe, ← rdB, hon]
  change execSpanBuildStart k n s = _
  rw [execSpanBuildStart, wall_lit hlit, hctx]
  dsimp only
  rw [if_neg (by simp [hbefore, hbuild, hdone, hdue]), hsafe, hon', if_neg (by decide)]
  rfl

/-- A build ends only once its clocks, at most R97's bound, have passed. -/
theorem spanBuildDone_idle {clocks : Nat} (h : s.spb.build ≠ some (k, n) ∨ buildClocks c.bands (listedLayers s c).length < clocks ∨
    reached s (latchAt s k n + 1638400 + 800 * clocks) = false) : exec (.spanBuildDone k n clocks) s = .next s := by
  change execSpanBuildDone k n clocks s = _
  rw [execSpanBuildDone, wall_lit hlit, hctx]
  dsimp only
  rw [if_neg]
  rcases h with h | h | h <;> simp [h]

theorem spanBuildDone_builds {clocks : Nat} (hbuild : s.spb.build = some (k, n))
    (hbound : clocks ≤ buildClocks c.bands (listedLayers s c).length)
    (hdue : reached s (latchAt s k n + 1638400 + 800 * clocks) = true) : exec (.spanBuildDone k n clocks) s =
      .next (buildShown (tableBuilt s k n clocks c) clocks (buildTable s c c.bands (stagedBank s)).2) := by
  change execSpanBuildDone k n clocks s = _
  rw [execSpanBuildDone, wall_lit hlit, hctx]
  dsimp only
  rw [if_pos (by simp [hbuild, hbound, hdue])]
  rfl

end

/-! ### The span boundary (R98) -/

theorem notify_spb (s : State) (l : Nat) : (notify s l).spb = s.spb :=
  foldl_keep (fun s => s.spb) _ (fun s _ => by split <;> rfl) _ s

/-- A pulse leaves the span builder alone. -/
theorem pulse_spb (s : State) (l : Nat) : (pulse s l).spb = s.spb := by
  rcases pulse_cases s l with h | h | ⟨e, h⟩ <;> rw [h]
  · rw [raiseE_spb, wr_spb, bump_spb]
  · rw [notify_spb]

/-- The state in which a slot's boundary swaps the banks: staging swept, CAL's release point passed, flips taken. -/
def boundaryReady (s : State) (c : PhaseCtx) : State :=
  boundaryFlip (releaseSafe (sweepStage s c.k c.n) Page.CAL) c.n c.boundary

/-- The banks swap. -/
def bankSwapped (s : State) : State :=
  pulse { s with spb := { s.spb with active := !s.spb.active, kept := false, done := none } } 25

/-- The active table is kept, and phase `n` is stale. -/
def tableKept (s : State) (n : Nat) : State :=
  pulse (raiseE { wr (bump s Reg.SPB.STALE_PHASES) Reg.SPB.LAST_STALE (w32 (n + 8)) with
    spb := { s.spb with kept := true } } Page.SPB 0) 26

/-- The slot's context past its boundary. -/
def boundaryCtx (s : State) (c : PhaseCtx) (swap : Bool) : PhaseCtx :=
  { calSample s c with
    bank := s.spb.active, stale := !swap, xDone := true, parity := (calSample s c).parity || impairing s }

/-- Calibration's samples leave the context its slot. -/
theorem calSample_slot (s : State) (c : PhaseCtx) : (calSample s c).k = c.k ∧ (calSample s c).n = c.n := by
  unfold calSample
  dsimp only
  split
  · split <;> exact ⟨rfl, rfl⟩
  · exact ⟨rfl, rfl⟩

theorem tableKept_spb (s : State) (n : Nat) : (tableKept s n).spb = { s.spb with kept := true } := by
  rw [tableKept, pulse_spb, raiseE_spb]

theorem tableKept_dls (s : State) (n : Nat) : (tableKept s n).dls = s.dls := by
  rw [tableKept, pulse_dls, raiseE_dls]
  rfl

theorem rd_tableKept (s : State) (n : Nat) : rd (tableKept s n) Reg.SPB.STALE_PHASES = plusOne (rd s Reg.SPB.STALE_PHASES) ∧
    rd (tableKept s n) Reg.SPB.LAST_STALE = w32 (n + 8) := by
  have hcount (x : SpbSt) (v : Word) (b : Nat) : rd { wr (bump s Reg.SPB.STALE_PHASES) Reg.SPB.LAST_STALE v with spb := x } b =
    if b = Reg.SPB.LAST_STALE then v else rd (bump s Reg.SPB.STALE_PHASES) b := rd_wr ..
  rw [tableKept, rd_pulse _ _ _ (by decide), rd_pulse _ _ _ (by decide), rd_raiseE, rd_raiseE, hcount, hcount, if_neg (by decide),
    if_pos rfl, rd_bump_same]
  exact ⟨rfl, rfl⟩

theorem bankSwapped_spb (s : State) :
    (bankSwapped s).spb = { s.spb with active := !s.spb.active, kept := false, done := none } := pulse_spb ..

theorem bankSwapped_dls (s : State) : (bankSwapped s).dls = s.dls := pulse_dls ..

theorem rd_bankSwapped (s : State) : rd (bankSwapped s) Reg.SPB.STALE_PHASES = rd s Reg.SPB.STALE_PHASES :=
  rd_pulse _ _ _ (by decide)

section
variable {s : State} {k n : Nat} {c : PhaseCtx}

/-- With no flip pending and CAL out of its safe action the boundary's first part touches no bank, no context, no register but
FLIP_STATUS, and no safe action but CAL's. -/
theorem boundaryReady_quiet (hflips : flipsAt s c.boundary = []) (hcal : safeCause s Page.CAL = false) :
    (boundaryReady s c).spb = s.spb ∧ (boundaryReady s c).dls = s.dls ∧ RegsExcept [Reg.CAL.FLIP_STATUS] s (boundaryReady s c) ∧
      safe (boundaryReady s c) Page.SPB = safe s Page.SPB := by
  have hsafe : safe (releaseSafe (sweepStage s c.k c.n) Page.CAL) Page.CAL = false := safe_released (by decide) hcal
  have hnone : flipsAt (releaseSafe (sweepStage s c.k c.n) Page.CAL) c.boundary = [] := by
    rw [releaseSafe_frame]
    exact hflips
  have heq : boundaryReady s c = wrB (releaseSafe (sweepStage s c.k c.n) Page.CAL) Reg.CAL.FLIP_STATUS 1 true := by
    rw [boundaryReady, boundaryFlip, hsafe, if_neg (by decide), hnone]
    rfl
  have hregs (b : Nat) (hb : b ∉ [Reg.CAL.FLIP_STATUS]) : rd (boundaryReady s c) b = rd s b := by
    rw [heq, rd_wrB, if_neg (by simpa using hb), rd_releaseSafe]
    rfl
  refine ⟨?_, ?_, hregs, ?_⟩
  · rw [heq, wrB_spb, releaseSafe_frame]
    rfl
  · rw [heq, wrB_dls, releaseSafe_frame]
    rfl
  · calc safe (boundaryReady s c) Page.SPB
        = safe (releaseSafe (sweepStage s c.k c.n) Page.CAL) Page.SPB := by
          rw [heq]
          exact safe_of_header (rd_wr_other _ _ _ _ (by decide)) (rd_wr_other _ _ _ _ (by decide)) rfl
      _ = safe s Page.SPB := safe_releaseSafe_other (by decide) (by decide)

/-- Whether the slot's own table is ready at its boundary. -/
def boundarySwaps (s : State) (c : PhaseCtx) : Bool := s.spb.done == some (c.k, c.n) && !safe s Page.SPB && rdB s Reg.SPB.SPB_CTRL 0

/-- The boundary's second part: the banks swap, or the active table is kept. -/
def boundaryMoved (s : State) (c : PhaseCtx) : State :=
  if boundarySwaps (boundaryReady s c) c then bankSwapped (boundaryReady s c) else tableKept (boundaryReady s c) c.n

/-- The slot's context once its boundary is past. -/
def boundaryNoted (s : State) (c : PhaseCtx) : PhaseCtx := boundaryCtx (boundaryMoved s c) c (boundarySwaps (boundaryReady s c) c)

theorem boundaryNoted_slot (s : State) (c : PhaseCtx) : (boundaryNoted s c).k = c.k ∧ (boundaryNoted s c).n = c.n := by
  rw [boundaryNoted, boundaryCtx]
  exact calSample_slot ..

theorem boundary_eq (s : State) (c : PhaseCtx) : boundary s c =
    notePrev (setCtx (boundaryMoved s c) (boundaryNoted s c)) (8 + (boundaryNoted s c).n) (boundaryNoted s c) := (rfl)

theorem boundaryMoved_dls (s : State) (c : PhaseCtx) : (boundaryMoved s c).dls = (boundaryReady s c).dls := by
  unfold boundaryMoved
  split
  · exact bankSwapped_dls ..
  · exact tableKept_dls ..

variable (hlit : Lit s) (hctx : findCtx s k n = some c)
include hlit hctx

theorem spanSwap_idle (hearly : reached s c.boundary = false) : exec (.spanSwap k n) s = .next s := by
  change execSpanSwap k n s = _
  rw [execSpanSwap, wall_lit hlit, hctx]
  dsimp only
  rw [hearly, Bool.and_false, if_neg (by decide)]

theorem spanSwap_passes (hbefore : c.xDone = false) (hdue : reached s c.boundary = true) :
    exec (.spanSwap k n) s = .next (boundary s c) := by
  change execSpanSwap k n s = _
  rw [execSpanSwap, wall_lit hlit, hctx]
  dsimp only
  rw [hdue, hbefore, if_pos (by decide)]

end

/-! ### Fetch (R102, R103) -/

/-- From `s` to `t` requests of band `b` join the fabric behind those that wait, for these sources, addresses and units in this
order, none of them with a transfer granted; nothing but the fabric changes. -/
structure Requests (c : PhaseCtx) (b : Nat) (l : List (FetchKind × Nat × List Nat)) (s t : State) : Prop where
  frame : t = { s with fab := t.fab }
  joins : ∃ new, t.fab.reqs = s.fab.reqs ++ new ∧ (new.map fun r => (r.kind, r.addr, r.units)) = l ∧
    ∀ r ∈ new, r.k = c.k ∧ r.n = c.n ∧ r.b = b ∧ r.tag = c.begin_ b ∧ r.granted = []

theorem Requests.none (c : PhaseCtx) (b : Nat) (s : State) : Requests c b [] s s :=
  ⟨rfl, [], (List.append_nil _).symm, rfl, fun _ h => absurd h List.not_mem_nil⟩

theorem Requests.append {c : PhaseCtx} {b : Nat} {l m : List (FetchKind × Nat × List Nat)} {s t u : State}
    (h : Requests c b l s t) (k : Requests c b m t u) : Requests c b (l ++ m) s u := by
  obtain ⟨hframe, new, hreqs, hmap, hnew⟩ := h
  obtain ⟨kframe, more, kreqs, kmap, kmore⟩ := k
  refine ⟨kframe.trans (by rw [hframe]), new ++ more, by rw [kreqs, hreqs, List.append_assoc], by rw [List.map_append, hmap, kmap],
    fun r hr => ?_⟩
  rcases List.mem_append.mp hr with hr | hr
  · exact hnew r hr
  · exact kmore r hr

/-- Requests put in one source after the other join in that order. -/
theorem Requests.foldl {α : Type} {c : PhaseCtx} {b : Nat} {f : State → α → State} {g : α → List (FetchKind × Nat × List Nat)}
    (h : ∀ s a, Requests c b (g a) s (f s a)) (l : List α) (s : State) : Requests c b (l.flatMap g) s (l.foldl f s) := by
  induction l generalizing s with
  | nil => exact .none c b s
  | cons a l ih => exact (h s a).append (ih _)

/-- The request that a granule's units of a source make (R103). -/
def granuleRequest (s : State) (c : PhaseCtx) (b : Nat) (kind : FetchKind) (g : Nat × List Nat) : FetchReq :=
  ⟨s.fab.next, c.k, c.n, b, kind, 256 * g.1, g.2, [], [], [], c.begin_ b, fabClk s, false⟩

/-- Units of a source as requests, granule by granule (R103). -/
def unitRequests (kind : FetchKind) (units : List Nat) : List (FetchKind × Nat × List Nat) :=
  (granulesOf units).map fun g => (kind, 256 * g.1, g.2)

theorem requests_issueFetch (c : PhaseCtx) (b : Nat) (kind : FetchKind) (s : State) (units : List Nat) :
    Requests c b (unitRequests kind units) s (issueFetch c b kind s units) := by
  rw [unitRequests, List.map_eq_flatMap]
  refine Requests.foldl (fun s g => ⟨rfl, [granuleRequest s c b kind g], rfl, rfl, fun r hr => ?_⟩) _ s
  rw [List.mem_singleton.mp hr]
  exact ⟨rfl, rfl, rfl, rfl, rfl⟩

/-- The units that layer `e` needs in band `b` and not in the band before, by stripe (R102). -/
def unitsAnew (s : State) (c : PhaseCtx) (b : Nat) (e : Nat × Latched) : List (List Nat) :=
  layerUnits (latchedGeom s e.2 c.bypass) b (columnsOf (bandSets s c b) e.1)
    (columnsOf (if b = 0 then [] else bandSets s c (b - 1)) e.1)

/-- The layers whose sources a band's release fetches (R102). -/
def fetchedLayers (s : State) (c : PhaseCtx) : List (Nat × Latched) :=
  (composedLayers s c).filter fun e => !dAwning e.2.desc

/-- What the layers of band `b` request, layer by layer. -/
def layerRequests (s : State) (c : PhaseCtx) (b : Nat) : List (FetchKind × Nat × List Nat) :=
  (fetchedLayers s c).flatMap fun e => (unitsAnew s c b e).flatMap (unitRequests (.layer e.1))

/-- The state once they have joined the fabric. -/
def layersReleased (s : State) (c : PhaseCtx) (b : Nat) : State :=
  (fetchedLayers s c).foldl (fun t e => (unitsAnew s c b e).foldl (issueFetch c b (.layer e.1)) t) s

theorem requests_layersReleased (s : State) (c : PhaseCtx) (b : Nat) :
    Requests c b (layerRequests s c b) s (layersReleased s c b) :=
  Requests.foldl (fun t e => Requests.foldl (requests_issueFetch c b (.layer e.1)) (unitsAnew s c b e) t) _ s

/-- A band's release is its layers' requests, then those of its contexts. -/
theorem releaseBand_eq (s : State) (c : PhaseCtx) (b : Nat) : releaseBand s c b =
    if c.calEn then issueFetch c b (.context c.primary) (layersReleased s c b) (contextUnits c c.primary b)
    else layersReleased s c b := (rfl)

/-- What band `b` of a slot requests (R102, R166). -/
def bandRequests (s : State) (c : PhaseCtx) (b : Nat) : List (FetchKind × Nat × List Nat) :=
  layerRequests s c b ++ if c.calEn then unitRequests (.context c.primary) (contextUnits c c.primary b) else []

theorem requests_releaseBand (s : State) (c : PhaseCtx) (b : Nat) :
    Requests c b (bandRequests s c b) s (releaseBand s c b) := by
  have hlayers := requests_layersReleased s c b
  rw [releaseBand_eq, bandRequests]
  split
  · exact hlayers.append (requests_issueFetch ..)
  · rwa [List.append_nil]

/-- The slot's context once band `b`'s requests are released. -/
def bandReleased (c : PhaseCtx) (b : Nat) : PhaseCtx := { c with released := b + 1 }

/-- What a band requests does not depend on how many bands were released before. -/
theorem bandRequests_released (s : State) (c : PhaseCtx) (b : Nat) :
    bandRequests (setCtx s (bandReleased c b)) (bandReleased c b) b = bandRequests s c b := (rfl)

section
variable {s : State} {k n b : Nat} {c : PhaseCtx} (hlit : Lit s) (hctx : findCtx s k n = some c)
include hlit hctx

theorem fetchRelease_idle (h : c.xDone = false ∨ c.released ≠ b ∨ c.bands ≤ b ∨ reached s (c.releaseAt b) = false) :
    exec (.fetchRelease k n b) s = .next s := by
  change execFetchRelease k n b s = _
  rw [execFetchRelease, wall_lit hlit, hctx]
  dsimp only
  rw [if_neg]
  rcases h with h | h | h | h <;> simp [h]

theorem fetchRelease_releases (hpast : c.xDone = true) (horder : c.released = b) (hband : b < c.bands)
    (hdue : reached s (c.releaseAt b) = true) : exec (.fetchRelease k n b) s =
      .next (releaseBand (setCtx s (bandReleased c b)) (bandReleased c b) b) := by
  change execFetchRelease k n b s = _
  rw [execFetchRelease, wall_lit hlit, hctx]
  dsimp only
  rw [if_pos (by simp [hpast, horder, hband, hdue])]
  rfl

end

section
variable {s : State} {id : Nat} {r : FetchReq} (hlit : Lit s) (hreq : (s.fab.reqs.find? fun r => r.id == id) = some r)
include hlit hreq

theorem fetchDataReturn_waits (hopen : r.granted.length ≠ r.units.length) : exec (.fetchDataReturn id) s = .next s := by
  change execFetchDataReturn id s = _
  rw [execFetchDataReturn, wall_lit hlit, hreq]
  dsimp only
  rw [bne_iff_ne.mpr hopen, Bool.or_true, if_pos rfl]

/-- A request all of whose transfers are granted leaves the fabric; unless its band is late its data is staged (R103, R105). -/
theorem fetchDataReturn_leaves (hfull : r.granted.length = r.units.length) (hkind : ∀ copy, r.kind ≠ .context copy) :
    exec (.fetchDataReturn id) s = .next (if r.discard then { s with fab := { s.fab with reqs := s.fab.reqs.erase r } }
      else { s with fab := { s.fab with
        reqs := s.fab.reqs.erase r
        stage := s.fab.stage ++ [⟨r.k, r.n, r.b, r.kind, r.addr, r.units, r.data, r.poison, coreClk s⟩] } }) := by
  change execFetchDataReturn id s = _
  rw [execFetchDataReturn, wall_lit hlit, hreq]
  dsimp only
  split
  next copy hcontext => exact absurd hcontext (hkind copy)
  · rw [hfull, bne_self_eq_false, Bool.or_false, if_neg (by decide)]

end

/-! ### Transfer slots (R106 to R109) -/

/-- There are 128 pseudo-channels, 32 in each of four stacks (R106). -/
theorem pseudoChannel_lt (a : Nat) : pseudoChannel a < 128 := by
  have hfield (lo : Nat) : nfld a (lo + 6) lo < 2 ^ 7 := by
    rw [nfld, show lo + 6 + 1 - lo = 7 by omega]
    exact Nat.mod_lt _ (by decide)
  have hhigh : nfld a 36 36 * 64 < 2 ^ 7 := by
    have := Nat.mod_lt (a / 2 ^ 36) (show 0 < 2 by decide)
    simp only [nfld]
    omega
  have hpair := Nat.xor_lt_two_pow (hfield 8) (hfield 15)
  exact Nat.xor_lt_two_pow (Nat.xor_lt_two_pow (Nat.xor_lt_two_pow hpair (hfield 22)) (hfield 29)) hhigh

/-- A pseudo-channel's window reads as it was set. -/
@[simp] theorem pcWin_setWin_same (s : State) (pc : Nat) (w : PcWin) : pcWin (setWin s pc w) pc = w := Store.get_set_same ..

theorem pcWin_setWin_other (s : State) {pc q : Nat} (w : PcWin) (h : q ≠ pc) : pcWin (setWin s pc w) q = pcWin s q :=
  Store.get_set_other _ _ _ _ _ h

/-- From `s` to `t` nothing changes but since when best-effort requesters wait. -/
def WaitsOnly (s t : State) : Prop := ∃ x, t = { s with fab := { s.fab with beAt := x } }

theorem waitsOnly_foldl {α : Type} {f : State → α → State} (h : ∀ s a, WaitsOnly s (f s a)) (l : List α) (s : State) :
    WaitsOnly s (l.foldl f s) := by
  induction l generalizing s with
  | nil => exact ⟨s.fab.beAt, rfl⟩
  | cons a l ih =>
    obtain ⟨x, hx⟩ := h s a
    obtain ⟨y, hy⟩ := ih (f s a)
    exact ⟨y, by rw [List.foldl_cons, hy, hx]⟩

theorem waitsOnly_noteWaits (s : State) (pc : Nat) (be : List BeReq) : WaitsOnly s (noteWaits s pc be) :=
  waitsOnly_foldl (fun _ _ => ⟨_, rfl⟩) _ s

/-- What does not look at the waits is as before. -/
theorem noteWaits_keeps {β : Type} (π : State → β) (h : ∀ s x, π { s with fab := { s.fab with beAt := x } } = π s) (s : State)
    (pc : Nat) (be : List BeReq) : π (noteWaits s pc be) = π s := by
  obtain ⟨x, hx⟩ := waitsOnly_noteWaits s pc be
  rw [hx, h]

/-! ### Who takes a slot (R108) -/

theorem slotWinner_display (s : State) {w : PcWin} (ing : Bool) (be : List BeReq) (h : w.disp < (quotas s w).1) :
    slotWinner s w true ing be = some (0, true) := by
  rw [slotWinner, decide_eq_true h]
  rfl

theorem slotWinner_ingest (s : State) {w : PcWin} (be : List BeReq) (h : w.ing < (quotas s w).2) :
    slotWinner s w false true be = some (1, true) := by
  rw [slotWinner, decide_eq_true h]
  rfl

/-- With no display request and no ingest write the round robin of R108 looks for a best-effort requester. -/
theorem slotWinner_rest (s : State) (w : PcWin) (be : List BeReq) : slotWinner s w false false be =
    (((List.range 6).map fun i => (w.rr + i) % 6).find? fun i =>
      if i = 0 then false else if i = 1 then false else be.any fun r => beIndex r.who == i).map fun i => (i, false) := (rfl)

theorem slotWinner_idle (s : State) (w : PcWin) : slotWinner s w false false [] = none := by
  rw [slotWinner_rest, Option.map_eq_none_iff, List.find?_eq_none]
  intro i _
  simp

/-- The round robin comes to a requester that waits alone, wherever it stands. -/
theorem slotWinner_best (s : State) (w : PcWin) (b : BeReq) : slotWinner s w false false [b] = some (beIndex b.who, false) := by
  have hplace : 2 ≤ beIndex b.who ∧ beIndex b.who < 6 := by cases b.who <;> decide
  obtain ⟨hlow, hhigh⟩ := hplace
  rw [slotWinner_rest]
  generalize hwants : (fun i => if i = 0 then false else if i = 1 then false else [b].any fun r => beIndex r.who == i) = wants
  have hwho (i : Nat) : wants i = true ↔ i = beIndex b.who := by
    rw [← hwants]
    dsimp only [List.any_cons, List.any_nil]
    split
    · simp only [Bool.false_eq_true, false_iff]; omega
    · split
      · simp only [Bool.false_eq_true, false_iff]; omega
      · rw [Bool.or_false, beq_iff_eq, eq_comm]
  have hturn : beIndex b.who ∈ (List.range 6).map fun i => (w.rr + i) % 6 :=
    List.mem_map.mpr ⟨(beIndex b.who + 6 - w.rr % 6) % 6, List.mem_range.mpr (Nat.mod_lt _ (by decide)), by omega⟩
  obtain ⟨i, hi⟩ := Option.isSome_iff_exists.mp (List.find?_isSome.mpr ⟨_, hturn, (hwho _).mpr rfl⟩)
  rw [hi, Option.map_some, (hwho i).mp (List.find?_some hi)]

/-- The best-effort transfers that wait at a pseudo-channel. -/
def waitingAt (pc : Nat) (be : List BeReq) : List BeReq := be.filter fun r => pseudoChannel r.addr == pc

/-- The state `s`, with the waits noted, once a slot of window `w` has gone to its winner: the display request `d`, the ingest write
`i`, a best-effort requester, or none (R108). -/
def slotServed (s : State) (pc : Nat) (w : PcWin) (d : Option FetchReq) (i : Option IngWrite) (be : List BeReq) (e0 e1 : Ecc) :
    Option (Nat × Bool) → State
  | none => setWin s pc { w with slot := w.slot + 1 }
  | some (0, quota) =>
    bumpIf (!quota) (setWin (match d with | some r => grantDisplay s r e0 e1 | none => s) pc
      (if quota then { w with slot := w.slot + 1, disp := w.disp + 1 } else { w with slot := w.slot + 1, rr := 1 }))
      Reg.FAB.DISP_OVER
  | some (1, quota) =>
    setWin (match i with | some x => grantIngest s x | none => s) pc
      (if quota then { w with slot := w.slot + 1, ing := w.ing + 1 } else { w with slot := w.slot + 1, rr := 2 })
  | some (who, _) => setWin (grantBest s pc who be e0 e1) pc { w with slot := w.slot + 1, rr := (who + 1) % 6 }

/-- A slot inside its window on a stack that is not retraining goes to its winner. -/
theorem slotGrant_open {s : State} {pc : Nat} (be : List BeReq) (e0 e1 : Ecc) (hslot : (pcWin s pc).slot < 256)
    (hlink : rdB s (Reg.MEM.MEM_STATUS (pc / 32)) 1 = false) : slotGrant s pc be e0 e1 =
      slotServed (noteWaits s pc (waitingAt pc be)) pc (pcWin s pc) (nextDisplay s pc) (nextIngest s pc) (waitingAt pc be) e0 e1
        (slotWinner s (pcWin s pc) (nextDisplay s pc).isSome (nextIngest s pc).isSome (waitingAt pc be)) := by
  unfold slotGrant
  rw [if_neg (Nat.ne_of_lt hslot), ← waitingAt]
  dsimp only
  rw [noteWaits_keeps (rdB · (Reg.MEM.MEM_STATUS (pc / 32)) 1) (fun _ _ => rfl), hlink, if_neg (by decide),
    noteWaits_keeps (pcWin · pc) (fun _ _ => rfl), noteWaits_keeps (nextDisplay · pc) (fun _ _ => rfl),
    noteWaits_keeps (nextIngest · pc) (fun _ _ => rfl), noteWaits_keeps (slotWinner · _ _ _ _) (fun _ _ => rfl)]
  rfl

section
variable {s : State} {pc : Nat} (be : List BeReq) (e0 e1 : Ecc) (hlit : Lit s) (hpc : pc < 128) (hslot : (pcWin s pc).slot < 256)
  (hlink : rdB s (Reg.MEM.MEM_STATUS (pc / 32)) 1 = false)
include hlit hpc hslot hlink

theorem fabricSlotGrant_open : exec (.fabricSlotGrant pc be e0 e1) s = .next
    (slotServed (noteWaits s pc (waitingAt pc be)) pc (pcWin s pc) (nextDisplay s pc) (nextIngest s pc) (waitingAt pc be) e0 e1
      (slotWinner s (pcWin s pc) (nextDisplay s pc).isSome (nextIngest s pc).isSome (waitingAt pc be))) := by
  change execFabricSlotGrant pc be e0 e1 s = _
  rw [execFabricSlotGrant, wall_lit hlit, if_pos hpc, slotGrant_open be e0 e1 hslot hlink]

/-- A slot that a display request takes within the display share. -/
theorem fabricSlotGrant_display {r : FetchReq} (hnext : nextDisplay s pc = some r)
    (hshare : (pcWin s pc).disp < (quotas s (pcWin s pc)).1) : exec (.fabricSlotGrant pc be e0 e1) s = .next
      (setWin (grantDisplay (noteWaits s pc (waitingAt pc be)) r e0 e1) pc
        { pcWin s pc with slot := (pcWin s pc).slot + 1, disp := (pcWin s pc).disp + 1 }) := by
  rw [fabricSlotGrant_open be e0 e1 hlit hpc hslot hlink, hnext, Option.isSome_some, slotWinner_display _ _ _ hshare]
  rfl

variable (hdisplay : nextDisplay s pc = none)
include hdisplay

/-- A slot that an ingest write takes within the ingest share. -/
theorem fabricSlotGrant_ingest {w : IngWrite} (hnext : nextIngest s pc = some w)
    (hshare : (pcWin s pc).ing < (quotas s (pcWin s pc)).2) : exec (.fabricSlotGrant pc be e0 e1) s = .next
      (setWin (grantIngest (noteWaits s pc (waitingAt pc be)) w) pc
        { pcWin s pc with slot := (pcWin s pc).slot + 1, ing := (pcWin s pc).ing + 1 }) := by
  rw [fabricSlotGrant_open be e0 e1 hlit hpc hslot hlink, hdisplay, hnext, Option.isSome_some, Option.isSome_none,
    slotWinner_ingest _ _ hshare]
  rfl

variable (hingest : nextIngest s pc = none)
include hingest

/-- A slot that no one takes. -/
theorem fabricSlotGrant_idle (hbe : waitingAt pc be = []) : exec (.fabricSlotGrant pc be e0 e1) s = .next
    (setWin (noteWaits s pc []) pc { pcWin s pc with slot := (pcWin s pc).slot + 1 }) := by
  rw [fabricSlotGrant_open be e0 e1 hlit hpc hslot hlink, hdisplay, hingest, hbe, Option.isSome_none, Option.isSome_none,
    slotWinner_idle]
  rfl

/-- A slot that the only best-effort transfer waiting takes. -/
theorem fabricSlotGrant_best {b : BeReq} (hbe : waitingAt pc be = [b]) : exec (.fabricSlotGrant pc be e0 e1) s = .next
    (setWin (grantBest (noteWaits s pc [b]) pc (beIndex b.who) [b] e0 e1) pc
      { pcWin s pc with slot := (pcWin s pc).slot + 1, rr := (beIndex b.who + 1) % 6 }) := by
  rw [fabricSlotGrant_open be e0 e1 hlit hpc hslot hlink, hdisplay, hingest, hbe, Option.isSome_none, Option.isSome_none,
    slotWinner_best]
  cases b.who <;> rfl

end

/-- Where neither store of bytes changes, no byte does. -/
theorem sameMemory_of_stores {s t : State} (hmem : t.mem = s.mem) (hhost : t.hostMem = s.hostMem) : SameMemory s t :=
  ⟨fun a => by rw [memByte, hmem, memByte], fun a => by rw [hostByte, hhost, hostByte]⟩

/-! ### Display transfers -/

/-- A choice among a list's members is one of them. -/
theorem mem_of_foldl_choice {α : Type} {f : Option α → α → Option α} (hf : ∀ o x, f o x = o ∨ f o x = some x) (l : List α)
    (o : Option α) {y : α} (h : l.foldl f o = some y) : o = some y ∨ y ∈ l := by
  induction l generalizing o with
  | nil => exact .inl h
  | cons x l ih =>
    rcases ih _ h with h | h
    · rcases hf o x with hkeep | htake
      · exact .inl (hkeep ▸ h)
      · rw [htake] at h
        exact .inr (List.mem_cons.mpr (.inl (Option.some.inj h).symm))
    · exact .inr (List.mem_cons_of_mem _ h)

/-- The display request served next waits at the fabric. -/
theorem mem_of_nextDisplay {s : State} {pc : Nat} {r : FetchReq} (h : nextDisplay s pc = some r) : r ∈ s.fab.reqs := by
  unfold nextDisplay at h
  refine (mem_of_foldl_choice (fun best r => ?_) _ _ h).elim (fun h => by cases h) fun h => (List.mem_filter.mp h).1
  cases best with
  | none => exact .inr rfl
  | some q =>
    dsimp only
    split
    · exact .inr rfl
    · exact .inl rfl

theorem countTransfer_fab (s : State) (a : Nat) (write : Bool) : (countTransfer s a write).fab = s.fab := by
  unfold countTransfer
  dsimp only
  split <;> rw [bump64_fab]

/-- A read word's errors are counted and recorded outside the fabric. -/
theorem readWord32_fab (s : State) (a : Nat) (e : Ecc) : (readWord32 s a e).2.fab = s.fab := by
  unfold readWord32
  dsimp only
  (repeat' split) <;> simp

/-- A display request granted a transfer stays in its place with one more granted. -/
theorem grantDisplay_reqs (s : State) {r : FetchReq} (e0 e1 : Ecc)
    (h : (r.units.find? fun u => !r.granted.contains u).isSome = true) :
    ∃ q, (grantDisplay s r e0 e1).fab.reqs = replaceFirst (fun x => x.id == r.id) (fun _ => q) s.fab.reqs ∧ q.id = r.id ∧
      q.granted.length = r.granted.length + 1 := by
  obtain ⟨u, hu⟩ := Option.isSome_iff_exists.mp h
  unfold grantDisplay
  rw [hu]
  dsimp only
  rw [peak_fab, bump64_fab, bump64_fab]
  dsimp only
  rw [readWord32_fab, readWord32_fab, countTransfer_fab]
  exact ⟨_, rfl, rfl, List.length_append⟩

/-! ### Ingest transfers -/

/-- Single bytes put into a memory; what lies past its end is lost. -/
def putCells (m : Store Byte) (cells : List (Nat × Byte)) : Store Byte :=
  cells.foldl (fun m c => if c.1 < memBytes then Store.set memDefault m c.1 c.2 else m) m

theorem putCells_cons (m : Store Byte) (c : Nat × Byte) (cells : List (Nat × Byte)) : putCells m (c :: cells) =
    putCells (if c.1 < memBytes then Store.set memDefault m c.1 c.2 else m) cells := (rfl)

theorem get_putCells_other (m : Store Byte) {cells : List (Nat × Byte)} {a : Nat} (h : ∀ x ∈ cells, x.1 ≠ a) :
    Store.get memDefault (putCells m cells) a = Store.get memDefault m a := by
  induction cells generalizing m with
  | nil => rfl
  | cons c cells ih =>
    obtain ⟨hc, hcells⟩ := List.forall_mem_cons.mp h
    rw [putCells_cons, ih _ hcells]
    split
    · exact Store.get_set_other _ _ _ _ _ hc.symm
    · rfl

/-- Bytes at distinct addresses of memory are all there afterwards. -/
theorem get_putCells_mem (m : Store Byte) {cells : List (Nat × Byte)} (hapart : (cells.map (·.1)).Nodup)
    (hin : ∀ x ∈ cells, x.1 < memBytes) {x : Nat × Byte} (hx : x ∈ cells) :
    Store.get memDefault (putCells m cells) x.1 = x.2 := by
  induction cells generalizing m with
  | nil => exact absurd hx List.not_mem_nil
  | cons c cells ih =>
    obtain ⟨hc, hcells⟩ := List.forall_mem_cons.mp hin
    obtain ⟨hnot, hrest⟩ := List.nodup_cons.mp hapart
    rw [putCells_cons, if_pos hc]
    rcases List.mem_cons.mp hx with rfl | hx
    · have hlater (y : Nat × Byte) (hy : y ∈ cells) : y.1 ≠ x.1 :=
        fun hsame => hnot (List.mem_map.mpr ⟨y, hy, hsame⟩)
      rw [get_putCells_other _ hlater, Store.get_set_same]
    · exact ih _ hrest hcells hx

/-- A fence's record may join the ingest writes behind those that wait, for its own frame (R45). -/
theorem noteWritten_writes (s : State) (st buf : Nat) : (noteWritten s st buf).ing.writes = s.ing.writes ∨
    ∃ f, (noteWritten s st buf).ing.writes = s.ing.writes ++ [f] ∧ f.st = st ∧ f.buf = buf := by
  unfold noteWritten
  dsimp only
  split
  · exact .inl rfl
  · split
    · exact .inl rfl
    · split
      · exact .inr ⟨_, rfl, rfl, rfl⟩
      · exact .inl rfl

theorem frameWritten_writes (s : State) (w : IngWrite) : (frameWritten s w).ing.writes = s.ing.writes ∨
    ∃ f, (frameWritten s w).ing.writes = s.ing.writes ++ [f] ∧ f.st = w.st ∧ f.buf = w.buf := by
  unfold frameWritten
  dsimp only
  split
  · exact noteWritten_writes (wrB s _ 2 false) w.st w.buf
  · exact noteWritten_writes s w.st w.buf

theorem countTransfer_ing (s : State) (a : Nat) (write : Bool) : (countTransfer s a write).ing = s.ing := by
  unfold countTransfer
  dsimp only
  split <;> rw [bump64_ing]

/-- The state once an ingest write's bytes are in memory and its packet's place in the port's buffer is free (R37). -/
def ingestWritten (s : State) (w : IngWrite) : State :=
  let t := writeCells (countTransfer s w.addr true) w.addr w.cells
  let t := { t with ing := { t.ing with writes := t.ing.writes.erase w } }
  if decide (w.port < 16) && !(t.ing.writes.any fun v => v.pkt == w.pkt) then setFill t w.port (fillOf t w.port - w.frees) else t

theorem ingestWritten_leaves (s : State) (w : IngWrite) : (ingestWritten s w).ing.writes = s.ing.writes.erase w ∧
    (ingestWritten s w).mem = putCells s.mem w.cells := by
  rw [← countTransfer_ing s w.addr true, ← countTransfer_mem s w.addr true]
  unfold ingestWritten
  dsimp only
  split <;> exact ⟨rfl, rfl⟩

/-- A granted ingest write leaves the queue, which a fence's record may join, and its bytes are in memory. -/
theorem grantIngest_leaves (s : State) (w : IngWrite) : (grantIngest s w).mem = putCells s.mem w.cells ∧
    ((grantIngest s w).ing.writes = s.ing.writes.erase w ∨
      ∃ f, (grantIngest s w).ing.writes = s.ing.writes.erase w ++ [f] ∧ f.st = w.st ∧ f.buf = w.buf) := by
  obtain ⟨hwrites, hmem⟩ := ingestWritten_leaves s w
  have heq : grantIngest s w = peak (bump64 (frameWritten (ingestWritten s w) w) Reg.FAB.ING_GRANTS_LO Reg.FAB.ING_GRANTS_HI 1)
      Reg.FAB.ING_WAIT_MAX (fabClk s - w.at_) := rfl
  rw [heq, peak_mem, peak_ing, bump64_mem, bump64_ing, ← hwrites, ← hmem]
  exact ⟨(frameWritten_keep _ w).2.1, frameWritten_writes _ w⟩

/-! ### Best-effort transfers -/

/-- What a best-effort read meets is counted on its stack's page alone (R455). -/
theorem rd_meetBest (s : State) (a : Nat) (e : Ecc) {b : Nat} (hb : Reg.FAB.SHARES ≤ b) : rd (meetBest s a e) b = rd s b := by
  have hstack := pseudoChannel_lt a
  cases e with
  | ok => rfl
  | corrected => exact rd_bump_other _ (by simp only [Reg.FAB.SHARES, Reg.MEM.ECC_CORR] at hb ⊢; omega)
  | uncorrectable => rfl

/-- A best-effort transfer counted on its stack: the words it reads, and its bytes by their direction (R455). -/
def bestCounted (s : State) (pc : Nat) (req : Option BeReq) (e0 e1 : Ecc) : State :=
  let t := match req with
    | some r => if r.write then s else meetBest (meetBest s (r.addr / 64 * 64) e0) (r.addr / 64 * 64 + 32) e1
    | none => s
  if (match req with | some r => r.write | none => false) then
    bump64 t (Reg.MEM.WR_BYTES_LO (pc / 32)) (Reg.MEM.WR_BYTES_HI (pc / 32)) 64
  else bump64 t (Reg.MEM.RD_BYTES_LO (pc / 32)) (Reg.MEM.RD_BYTES_HI (pc / 32)) 64

theorem rd_bestCounted (s : State) {pc : Nat} (req : Option BeReq) (e0 e1 : Ecc) (hpc : pc < 128) {b : Nat}
    (hb : Reg.FAB.SHARES ≤ b) : rd (bestCounted s pc req e0 e1) b = rd s b := by
  have hread (t : State) : rd (bump64 t (Reg.MEM.RD_BYTES_LO (pc / 32)) (Reg.MEM.RD_BYTES_HI (pc / 32)) 64) b = rd t b := by
    simp only [Reg.FAB.SHARES, Reg.MEM.RD_BYTES_LO, Reg.MEM.RD_BYTES_HI] at hb ⊢
    exact rd_bump64_other _ _ (by omega) (by omega)
  have hwrite (t : State) : rd (bump64 t (Reg.MEM.WR_BYTES_LO (pc / 32)) (Reg.MEM.WR_BYTES_HI (pc / 32)) 64) b = rd t b := by
    simp only [Reg.FAB.SHARES, Reg.MEM.WR_BYTES_LO, Reg.MEM.WR_BYTES_HI] at hb ⊢
    exact rd_bump64_other _ _ (by omega) (by omega)
  unfold bestCounted
  cases req with
  | none => exact hread s
  | some r =>
    dsimp only
    split
    · exact hwrite s
    · rw [hread, rd_meetBest _ _ _ hb, rd_meetBest _ _ _ hb]

/-- Of the registers a best-effort grant changes those of its stack, BE_GRANTS and BE_WAIT_MAX. -/
theorem grantBest_regs (s : State) (pc who : Nat) (be : List BeReq) (e0 e1 : Ecc) : ∃ req wait, (grantBest s pc who be e0 e1).regs =
    (peak (bump64 (bestCounted s pc req e0 e1) Reg.FAB.BE_GRANTS_LO Reg.FAB.BE_GRANTS_HI 1) Reg.FAB.BE_WAIT_MAX wait).regs := by
  unfold grantBest
  dsimp only
  split <;> exact ⟨_, _, rfl⟩

theorem rd64_grantBest (s : State) {pc : Nat} (who : Nat) (be : List BeReq) (e0 e1 : Ecc) (hpc : pc < 128) :
    rd64 (grantBest s pc who be e0 e1) Reg.FAB.BE_GRANTS_LO Reg.FAB.BE_GRANTS_HI =
      (rd64 s Reg.FAB.BE_GRANTS_LO Reg.FAB.BE_GRANTS_HI + 1) % 2 ^ 64 := by
  obtain ⟨req, wait, hregs⟩ := grantBest_regs s pc who be e0 e1
  have hlo := rd_bestCounted s req e0 e1 hpc (b := Reg.FAB.BE_GRANTS_LO) (by decide)
  have hhi := rd_bestCounted s req e0 e1 hpc (b := Reg.FAB.BE_GRANTS_HI) (by decide)
  calc rd64 (grantBest s pc who be e0 e1) Reg.FAB.BE_GRANTS_LO Reg.FAB.BE_GRANTS_HI
      = rd64 (bump64 (bestCounted s pc req e0 e1) Reg.FAB.BE_GRANTS_LO Reg.FAB.BE_GRANTS_HI 1)
          Reg.FAB.BE_GRANTS_LO Reg.FAB.BE_GRANTS_HI := by
        rw [rd64, rdN, rdN, rd, rd, hregs, ← rd, ← rd, rd_peak_other _ _ (by decide), rd_peak_other _ _ (by decide)]
        rfl
    _ = (rd64 (bestCounted s pc req e0 e1) Reg.FAB.BE_GRANTS_LO Reg.FAB.BE_GRANTS_HI + 1) % 2 ^ 64 :=
        rd64_bump64_same _ _ (by decide)
    _ = (rd64 s Reg.FAB.BE_GRANTS_LO Reg.FAB.BE_GRANTS_HI + 1) % 2 ^ 64 := by rw [rd64, rdN, rdN, hlo, hhi]; rfl

/-! ### Windows (R108, R109) -/

/-- A window starts at its first slot with the shares as they stand, or with those of FAB's safe action (R388). -/
theorem pcWin_newWindow (s : State) (pc : Nat) : pcWin (newWindow s pc) pc =
    { pcWin s pc with slot := 0, disp := 0, ing := 0, shares := if safeCause s Page.FAB then 0xA46 else rd s Reg.FAB.SHARES } := by
  have hshares : sharesNow (releaseSafe s Page.FAB) = if safeCause s Page.FAB then 0xA46 else rd s Reg.FAB.SHARES := by
    cases hcause : safeCause s Page.FAB with
    | false => rw [sharesNow, safe_released (by decide) hcause, rd_releaseSafe]
    | true => rw [sharesNow, releaseSafe, if_pos hcause, safe_of_cause (by decide) hcause]
  have hwin : pcWin (releaseSafe s Page.FAB) pc = pcWin s pc := by rw [releaseSafe_frame]; rfl
  rw [newWindow, pcWin_setWin_same, hwin, hshares]

theorem newWindow_other (s : State) (pc : Nat) :
    (newWindow s pc).regs = s.regs ∧ ∀ q, q ≠ pc → pcWin (newWindow s pc) q = pcWin s q := by
  refine ⟨?_, fun q hq => ?_⟩
  · rw [newWindow, releaseSafe_frame]
    rfl
  · rw [newWindow, pcWin_setWin_other _ _ hq, releaseSafe_frame]
    rfl

theorem arbitrationWindowEnd_starts {s : State} {pc : Nat} (hlit : Lit s) (hpc : pc < 128) (hend : (pcWin s pc).slot = 256) :
    exec (.arbitrationWindowEnd pc) s = .next (newWindow s pc) := by
  change execArbitrationWindowEnd pc s = _
  rw [execArbitrationWindowEnd, wall_lit hlit, if_pos (by simp [hpc, hend])]

theorem arbitrationWindowEnd_idle {s : State} {pc : Nat} (hlit : Lit s) (hopen : (pcWin s pc).slot ≠ 256) :
    exec (.arbitrationWindowEnd pc) s = .next s := by
  change execArbitrationWindowEnd pc s = _
  rw [execArbitrationWindowEnd, wall_lit hlit, if_neg (by simp [hopen])]

/-! ### Rechecks (R112) -/

/-- A recheck asked for: it is behind the requests written so far, and STATUS shows it busy. -/
def recheckAsked (s : State) : State :=
  wrB { s with spb := { s.spb with recheck := some (newReqId s) } } Reg.SPB.RECHECK_STATUS 0 true

/-- An accepted write of RECHECK asks for one where none is pending. -/
theorem recheckGo_accepted {s : State} {a : Agent} (v : Word) (hawake : Awake s) (hacc : Accepts s a Reg.SPB.RECHECK .cmd) :
    exec (.recheckGo a v) s = .next (touchSession s a Page.SPB
      (if bit v 0 && s.spb.recheck.isNone then recheckAsked s else s)) := by
  change execRecheckGo a v s = _
  rw [execRecheckGo, live_awake hawake, guarded_accepted hacc]
  rfl

/-- With no recheck pending its end means nothing (log entry 1). -/
theorem recheckDone_idle {s : State} (hlit : Lit s) (hnone : s.spb.recheck = none) : exec .recheckDone s = .next s := by
  change execRecheckDone s = _
  rw [execRecheckDone, wall_lit hlit, hnone]

section
variable {s : State} {b : Nat} (hlit : Lit s) (hasked : s.spb.recheck = some b)
include hlit hasked

theorem recheckDone_waits (hwait : (s.lyr.queue.any fun r => !r.ready && decide (r.id < b)) = true) :
    exec .recheckDone s = .next s := by
  change execRecheckDone s = _
  rw [execRecheckDone, wall_lit hlit, hasked]
  dsimp only
  rw [if_pos hwait]

/-- The state in which a recheck has ended: STATUS holds its verdict. -/
def rechecked (s : State) : State :=
  wr { (admitBank false s s.lyr.active).2 with
    spb := { (admitBank false s s.lyr.active).2.spb with recheck := none } } Reg.SPB.RECHECK_STATUS
    (w32 (2 * (admitBank false s s.lyr.active).1.toNat))

/-- Once the requests before it have their verdicts a recheck ends; a bank not admitted is a cause as well. -/
theorem recheckDone_answers (hready : (s.lyr.queue.any fun r => !r.ready && decide (r.id < b)) = false) :
    exec .recheckDone s =
      .next (if (admitBank false s s.lyr.active).1 then rechecked s else raiseE (rechecked s) Page.SPB 2) := by
  change execRecheckDone s = _
  rw [execRecheckDone, wall_lit hlit, hasked]
  dsimp only
  rw [hready, if_neg (by decide)]
  rfl

end

/-- A recheck that has ended shows its verdict, whether or not a cause is raised with it. -/
theorem rechecked_shows {s t : State} (h : t = { rechecked s with icu := t.icu }) :
    t.spb.recheck = none ∧ rdB t Reg.SPB.RECHECK_STATUS 0 = false ∧
      rdB t Reg.SPB.RECHECK_STATUS 1 = (admitBank false s s.lyr.active).1 ∧ t.lyr.queue = s.lyr.queue := by
  have hstatus : rd t Reg.SPB.RECHECK_STATUS = w32 (2 * (admitBank false s s.lyr.active).1.toNat) := by
    rw [h]
    exact rd_wr_same ..
  refine ⟨by rw [h]; rfl, ?_, ?_, ?_⟩
  · rw [rdB, hstatus]
    cases (admitBank false s s.lyr.active).1 <;> decide
  · rw [rdB, hstatus]
    cases (admitBank false s s.lyr.active).1 <;> decide
  · rw [h, rechecked, wr_lyr, (checkStep_admitBank false s s.lyr.active).1]

end Sys2Proof.Machine
end

section
/-! The statements of 04_span_builder_and_fetch: span tables, the release and return of fetch, transfer slots, and rechecks. -/

open Sys2Proof Sys2Proof.Machine

/-- Settles O24: a start and an end of a build by the state they leave; the boundary swaps exactly where the slot's build is done. -/
theorem spanTablesSwap : Obligations.SpanTablesSwap := by
  intro s k n c hlit hctx
  refine ⟨fun h => spanBuildStart_idle hlit hctx h, fun hbefore hbuild hdone hdue hcause hon => ?_,
    fun clocks h => spanBuildDone_idle hlit hctx h, fun clocks hbuild hbound hdue => ?_, fun h => spanSwap_idle hlit hctx h,
    fun hbefore hdue hflips hsafe hcal hon => ?_⟩
  · obtain ⟨hslot, hactive, hstaged⟩ := buildStarted_banks (releaseSafe s Page.SPB) k n c
    have hframe := buildStarted_frame (releaseSafe s Page.SPB) k n c
    have hlist : listedLayers (buildStarted (releaseSafe s Page.SPB) k n c) c = listedLayers (releaseSafe s Page.SPB) c :=
      listedLayers_of (by rw [hframe]; rfl) c
    refine ⟨_, spanBuildStart_starts hlit hctx hbefore hbuild hdone hdue hcause hon, hslot, ?_, ?_, ?_, ?_, ?_, ?_⟩
    · rw [hstaged]
    · rw [hstaged]
    · rw [hstaged]
    · rw [hstaged, hlist]
    · rw [hactive, releaseSafe_frame]
      rfl
    · rw [hframe, releaseSafe_frame]
  · obtain ⟨hstaged, hactive⟩ := setStaged_banks s { (buildTable s c c.bands (stagedBank s)).1 with
      seq := s.spb.builds + 1, clk := clocks, valid := true }
    have hspb := buildShown_spb (tableBuilt s k n clocks c) clocks (buildTable s c c.bands (stagedBank s)).2
    have hregs (b : Nat) : rd (tableBuilt s k n clocks c) b = rd s b := by
      rw [tableBuilt, setStaged_frame]
      rfl
    refine ⟨_, spanBuildDone_builds hlit hctx hbuild hbound hdue, by rw [hspb]; rfl, by rw [hspb]; rfl, ?_, ?_, ?_, fun b hb => ?_⟩
    · rw [activeBank, hspb]
      exact hactive
    · rw [stagedBank, hspb]
      exact hstaged
    · rw [rd_buildShown _ _ _ _ (by decide) (by decide), if_pos rfl]
    · simp only [List.mem_cons, List.not_mem_nil, or_false, not_or] at hb
      obtain ⟨hlast, hmax, hcut⟩ := hb
      rw [rd_buildShown _ _ _ _ hmax hcut, if_neg hlast, hregs]
  · obtain ⟨hspb, hdls, hregs, hsafe'⟩ := boundaryReady_quiet hflips hcal
    obtain ⟨hk, hn⟩ := findCtx_slot hctx
    obtain ⟨hbk, hbn⟩ := boundaryNoted_slot s c
    have hswap : boundarySwaps (boundaryReady s c) c = (s.spb.done == some (k, n)) := by
      rw [boundarySwaps, hspb, hsafe', hsafe, rdB, hregs _ (by decide), ← rdB, hon, hk, hn, Bool.not_false, Bool.and_true, Bool.and_true]
    have hstale := hregs Reg.SPB.STALE_PHASES (by decide)
    have hafter : findCtx (boundary s c) k n = some (boundaryNoted s c) := by
      rw [boundary_eq, findCtx_notePrev, findCtx_setCtx (c := boundaryNoted s c) (hbk.trans hk) (hbn.trans hn)]
      rw [findCtx, boundaryMoved_dls, hdls, ← findCtx, hctx, Option.isSome_some]
    have hflag : (boundaryNoted s c).stale = !(s.spb.done == some (k, n)) := by rw [← hswap]; rfl
    have hbanks : (boundary s c).spb = (boundaryMoved s c).spb := by rw [boundary_eq]; rfl
    have hrd (b : Nat) : rd (boundary s c) b = rd (boundaryMoved s c) b := by rw [boundary_eq, rd_notePrev]; rfl
    refine ⟨_, spanSwap_passes hlit hctx hbefore hdue, by rw [hafter]; rfl, fun hdone => ?_, fun hdone => ?_⟩
    · have hmoved : boundaryMoved s c = bankSwapped (boundaryReady s c) := if_pos (by rw [hswap, hdone, beq_self_eq_true])
      rw [hafter, Option.map_some, hflag, hdone, beq_self_eq_true, hbanks, hrd, hmoved, bankSwapped_spb, hspb, rd_bankSwapped,
        hstale]
      exact ⟨rfl, rfl, rfl⟩
    · have hmoved : boundaryMoved s c = tableKept (boundaryReady s c) c.n := if_neg (by rw [hswap, beq_false_of_ne hdone]; decide)
      obtain ⟨hcount, hlast⟩ := rd_tableKept (boundaryReady s c) c.n
      rw [hafter, Option.map_some, hflag, beq_false_of_ne hdone, hbanks, hrd, hrd, hmoved, tableKept_spb, hspb, hcount, hstale,
        hlast]
      exact ⟨rfl, rfl, rfl, rfl⟩

/-- Settles O25: what is released is requests_releaseBand's list, taken where the band's number is noted; a return is its outcome. -/
theorem fetchMovesOn : Obligations.FetchMovesOn := by
  refine ⟨fun s k n b c hlit hctx => ⟨fun h => fetchRelease_idle hlit hctx h, fun hpast horder hband hdue => ?_⟩,
    fun s id r hlit hreq => ⟨fun hopen => fetchDataReturn_waits hlit hreq hopen, fun hfull hkind => ?_⟩⟩
  · obtain ⟨hframe, new, hreqs, hmap, hnew⟩ := requests_releaseBand (setCtx s (bandReleased c b)) (bandReleased c b) b
    obtain ⟨hk, hn⟩ := findCtx_slot hctx
    rw [bandRequests_released] at hmap
    have hreqs' : (releaseBand (setCtx s (bandReleased c b)) (bandReleased c b) b).fab.reqs = s.fab.reqs ++ new := hreqs
    refine ⟨_, fetchRelease_releases hlit hctx hpast horder hband hdue, ?_, by rw [hframe]; rfl, ?_, ?_, ?_⟩
    · have hnext : findCtx (setCtx s (bandReleased c b)) k n = some (bandReleased c b) :=
        findCtx_setCtx (c := bandReleased c b) hk hn (Option.isSome_of_eq_some hctx)
      rw [hframe]
      change (findCtx (setCtx s (bandReleased c b)) k n).map (·.released) = _
      rw [hnext]
      rfl
    · rw [hreqs', List.take_left]
    · rw [hreqs', List.drop_left, hmap]
      rfl
    · rw [hreqs', List.drop_left, ← hk, ← hn]
      exact hnew
  · have hexec := fetchDataReturn_leaves hlit hreq hfull hkind
    exact ⟨fun hkept => by rw [hexec, hkept, if_neg (by decide)], fun hlate => by rw [hexec, hlate, if_pos rfl]⟩

/-- Settles O26: who takes the slot decides its outcome, and what the grant leaves behind is its own lemma; a window that starts is
pcWin_newWindow. -/
theorem fabricSlots : Obligations.FabricSlots := by
  refine ⟨fun s pc e0 e1 hlit hpc hslot hlink => ⟨fun r be hnext hunit hshare => ?_,
    fun w be hdisplay hnext hshare hapart hin => ?_, fun b hdisplay hingest => ⟨fun hother => ?_, fun hhere => ?_⟩⟩,
    fun s pc hlit hpc => ⟨fun hend => ?_, fun hopen => arbitrationWindowEnd_idle hlit hopen⟩⟩
  · obtain ⟨q, hreqs, hid, hlen⟩ := grantDisplay_reqs (noteWaits s pc (waitingAt pc be)) e0 e1 hunit
    rw [noteWaits_keeps (·.fab.reqs) (fun _ _ => rfl)] at hreqs
    obtain ⟨y, hy⟩ := Option.isSome_iff_exists.mp (List.find?_isSome (p := fun y => y.id == r.id).mpr
      ⟨r, mem_of_nextDisplay hnext, beq_self_eq_true _⟩)
    obtain ⟨-, hmem, hhost, -⟩ := grantDisplay_keep (noteWaits s pc (waitingAt pc be)) r e0 e1
    obtain ⟨-, hmem', hhost', -⟩ := noteWaits_keep s pc (waitingAt pc be)
    refine ⟨_, fabricSlotGrant_display be e0 e1 hlit hpc hslot hlink hnext hshare, by rw [pcWin_setWin_same],
      by rw [pcWin_setWin_same], sameMemory_of_stores (hmem.trans hmem') (hhost.trans hhost'), q, ?_, hid, hlen⟩
    change q ∈ (grantDisplay (noteWaits s pc (waitingAt pc be)) r e0 e1).fab.reqs
    rw [hreqs]
    exact mem_replaceFirst _ hy
  · obtain ⟨hmem, hwrites⟩ := grantIngest_leaves (noteWaits s pc (waitingAt pc be)) w
    rw [noteWaits_keeps (·.mem) (fun _ _ => rfl)] at hmem
    rw [noteWaits_keeps (·.ing) (fun _ _ => rfl)] at hwrites
    have hbyte (x : PcWin) (a : Nat) : memByte (setWin (grantIngest (noteWaits s pc (waitingAt pc be)) w) pc x) a =
        Store.get memDefault (putCells s.mem w.cells) a := by
      rw [← hmem]
      rfl
    refine ⟨_, fabricSlotGrant_ingest be e0 e1 hlit hpc hslot hlink hdisplay hnext hshare, by rw [pcWin_setWin_same], hwrites,
      fun c hc => ?_, fun a ha => ?_⟩
    · rw [hbyte, get_putCells_mem _ hapart hin hc]
    · rw [hbyte, get_putCells_other _ ha]
      rfl
  · have hbe : waitingAt pc [b] = [] := by simp [waitingAt, hother]
    obtain ⟨x, hx⟩ := waitsOnly_noteWaits s pc []
    exact ⟨_, fabricSlotGrant_idle [b] e0 e1 hlit hpc hslot hlink hdisplay hingest hbe, by rw [hx]; rfl,
      by rw [pcWin_setWin_same]⟩
  · have hbe : waitingAt pc [b] = [b] := by simp [waitingAt, hhere]
    obtain ⟨-, hmem, hhost, -⟩ := grantBest_keep (noteWaits s pc [b]) pc (beIndex b.who) [b] e0 e1
    obtain ⟨-, hmem', hhost', -⟩ := noteWaits_keep s pc [b]
    have hcount := rd64_grantBest (noteWaits s pc [b]) (beIndex b.who) [b] e0 e1 hpc
    rw [noteWaits_keeps (rd64 · Reg.FAB.BE_GRANTS_LO Reg.FAB.BE_GRANTS_HI) (fun _ _ => rfl)] at hcount
    exact ⟨_, fabricSlotGrant_best [b] e0 e1 hlit hpc hslot hlink hdisplay hingest hbe, by rw [pcWin_setWin_same],
      sameMemory_of_stores (hmem.trans hmem') (hhost.trans hhost'), hcount⟩
  · obtain ⟨hregs, hothers⟩ := newWindow_other s pc
    refine ⟨_, arbitrationWindowEnd_starts hlit hpc hend, hregs, ?_, ?_, ?_, ?_, hothers⟩ <;> rw [pcWin_newWindow]

/-- Settles O27: an accepted write of RECHECK by recheckGo_accepted; the end of a recheck is admitBank's verdict, shown in STATUS. -/
theorem recheckVerdict : Obligations.RecheckVerdict := by
  refine ⟨fun s a v hawake hacc hgo => ⟨fun hnone => ?_, fun hsome => ?_⟩, fun s hlit hnone => recheckDone_idle hlit hnone,
    fun s b hlit hasked => ⟨fun hwait => recheckDone_waits hlit hasked hwait, fun hready => ?_⟩⟩
  · have hexec := recheckGo_accepted v hawake hacc
    rw [hgo, hnone, if_pos (by decide)] at hexec
    refine ⟨_, hexec, by rw [touchSession_spb]; rfl, ?_, fun b hb => ?_⟩
    · rw [rdB, rd_touchSession, recheckAsked, rd_wrB, if_pos rfl, bit_setBit_same _ _ _ (by decide)]
    · rw [rd_touchSession, recheckAsked, rd_wrB, if_neg (by simpa using hb)]
      rfl
  · rw [recheckGo_accepted v hawake hacc, if_neg (by simpa using fun _ => Option.isSome_iff_ne_none.mp hsome)]
  · refine ⟨_, recheckDone_answers hlit hasked hready, rechecked_shows ?_⟩
    split
    · rfl
    · exact raiseE_frame ..

end

section
/-! SUPPORT. Pre-blend tables (R146, R147): what a table holds after reset, and what a table that holds the identity makes of an
input that stage 4 does not clamp. -/

namespace Sys2Proof.Machine

/-! ### The tables after reset (R147) -/

/-- The low field of a word that was written with a value that fits it. -/
theorem fld_w32_of_lt {n hi : Nat} (h32 : hi < 32) (hn : n < 2 ^ (hi + 1)) : fld (w32 n) hi 0 = n := by
  have hword : n < 2 ^ 32 := lt_of_lt_of_le hn (Nat.pow_le_pow_right (by decide) h32)
  rw [fld, w32, BitVec.toNat_ofNat, Nat.mod_eq_of_lt hword, pow_zero, Nat.div_one, Nat.sub_zero, Nat.mod_eq_of_lt hn]

/-- The words of the 32 sets' tables lie in the pre-blend part of CLR's window, where entry i starts as i × 1024. -/
theorem lutDefault_preEntry {set ch i : Nat} (hset : set < 32) (hch : ch < 3) (hi : i ≤ 1024) :
    lutDefault (0x2000 * set + 0x800 * ch + i) = w32 (i * 1024) := by
  have htable : (0x2000 * set + 0x800 * ch + i) / 0x800 % 4 = ch := by omega
  have hentry : (0x2000 * set + 0x800 * ch + i) % 0x800 = i := by omega
  rw [lutDefault, if_pos (by omega), htable, hentry, if_pos ⟨hch, hi⟩]

/-- Where no table was written, each holds the identity. -/
theorem preEntry_of_unwritten {s : State} {set ch i : Nat} (hlut : s.lut.lut = []) (hset : set < 32) (hch : ch < 3)
    (hi : i ≤ 1024) : preEntry s set ch i = (i * 1024 : Nat) := by
  rw [preEntry, hlut, Store.get_nil, lutDefault_preEntry hset hch hi, fld_w32_of_lt (by decide) (by omega)]

/-! ### The table's map (R146) -/

/-- A clamp keeps a value within its bounds. -/
theorem clampI_of_mem {lo hi v : Int} (hlo : lo ≤ v) (hhi : v ≤ hi) : clampI lo hi v = v := by
  rw [clampI, if_neg (Int.not_lt.mpr hlo), if_neg (Int.not_lt.mpr hhi)]

/-- What a table of entries e makes of an input from 0 to 1.0: the entry at its segment's start, interpolated to the next. -/
def preMap (e : Nat → Int) (v : Int) : Int :=
  if (v / 64).toNat = 1024 then e 1024
  else e (v / 64).toNat + ((e ((v / 64).toNat + 1) - e (v / 64).toNat) * (v % 64) + 32) / 64

/-- With PRE_LUT_EN stage 4 maps an input from 0 to 1.0 by the descriptor's table, and no clamp changes it. -/
theorem stage4_table (s : State) {d : List Word} (ch : Nat) {v : Int} (hen : dPreLutEn d = true) (hlo : 0 ≤ v)
    (hhi : v ≤ 0x10000) : stage4 s d ch v = (preMap (preEntry s (dPreLut d) ch) v, false) := by
  simp only [stage4, hen, if_true, clampI_of_mem hlo hhi, bne_self_eq_false, preMap]

/-- Neighbours of the identity are 1024 apart, so a segment's 64 inputs are 16 apart: the rounding has nothing to round. -/
theorem preMap_identity {e : Nat → Int} (he : ∀ i, i ≤ 1024 → e i = (i * 1024 : Nat)) {v : Int} (hlo : 0 ≤ v)
    (hhi : v ≤ 0x10000) : preMap e v = v * 16 := by
  obtain ⟨i, hi⟩ : ∃ i : Nat, v / 64 = i := ⟨(v / 64).toNat, by omega⟩
  rw [preMap, hi, Int.toNat_natCast]
  split
  · rw [he 1024 le_rfl]
    omega
  · have hgap : e (i + 1) - e i = 1024 := by
      rw [he i (by omega), he (i + 1) (by omega)]
      omega
    rw [hgap, he i (by omega)]
    omega

end Sys2Proof.Machine
end

section
/-! The statement of 06_colour_and_blend: pre-blend tables at reset, and the identity. -/

open Sys2Proof Sys2Proof.Machine

/-- Settles O53: the tables after reset were never written; the identity's map is exact in each of its 1024 segments and at its end. -/
theorem preBlendIdentity : Obligations.PreBlendIdentity := by
  refine ⟨fun set ch i hset hch hi => preEntry_of_unwritten rfl hset hch hi, fun s d ch v hen htable hlo hhi => ?_⟩
  rw [stage4_table s ch hen hlo hhi, preMap_identity htable hlo hhi]

end

section
/-! SUPPORT. Cell calibration (R173 to R178): what an accepted write of CAL_CTRL or FLIP leaves, which contexts a granule settles, and
what the scrubber makes of a cell's two copies. -/

namespace Sys2Proof.Machine

/-! ### CAL_CTRL (R173, R182) -/

theorem calRefusal_lt (s : State) : calRefusal s < 2 ^ 3 := by
  unfold calRefusal
  dsimp only
  split
  · decide
  · split <;> decide

/-- EN is among the bits that CAL_CTRL stores. -/
theorem bit_calCtrl_en (v : Word) : bit (v &&& 0x1F) 0 = bit v 0 := by
  rw [bit_eq_getLsbD, bit_eq_getLsbD, BitVec.getLsbD_and]
  exact Bool.and_true _

theorem calEnable_accepted {s : State} {a : Agent} (v : Word) (hawake : Awake s) (hacc : Accepts s a Reg.CAL.CAL_CTRL .cfg) :
    exec (.calEnable a v) s = .next (touchSession s a Page.CAL (writeCalCtrl s v)) := by
  change execCalEnable a v s = _
  rw [execCalEnable, live_awake hawake, guarded_accepted hacc]
  rfl

/-- The word that a write of EN = 1 leaves in CAL_CTRL: with EN only where nothing refuses it. -/
def calCtrlWord (s : State) (v : Word) : Word := if calRefusal s = 0 then v &&& 0x1F else setBit (v &&& 0x1F) 0 false

/-- The state in which a write of EN = 1 has been checked. -/
def calChecked (s : State) (v : Word) : State := wr (wrF s Reg.CAL.CAL_STATUS 3 1 (calRefusal s)) Reg.CAL.CAL_CTRL (calCtrlWord s v)

theorem writeCalCtrl_enables (s : State) {v : Word} (hen : bit v 0 = true) : writeCalCtrl s v =
    if calRefusal s = 0 then calChecked s v else raiseE (calChecked s v) Page.CAL 0 := by
  unfold writeCalCtrl
  dsimp only
  rw [bit_calCtrl_en, hen, if_pos rfl]
  rfl

/-- A write of EN = 1 changes two registers: CAL_CTRL, and REFUSE with the cause or 0. -/
theorem rd_writeCalCtrl (s : State) {v : Word} (hen : bit v 0 = true) (b : Nat) : rd (writeCalCtrl s v) b =
    if b = Reg.CAL.CAL_CTRL then calCtrlWord s v
    else if b = Reg.CAL.CAL_STATUS then setFld (rd s Reg.CAL.CAL_STATUS) 3 1 (calRefusal s) else rd s b := by
  rw [writeCalCtrl_enables s hen, apply_ite (rd · b), rd_raiseE, ite_self, calChecked, rd_wr, rd_wrF]

/-- An accepted write of EN = 1: what CAL_CTRL holds, what REFUSE shows, and that no other register changes. -/
theorem calEnable_shows {s : State} {a : Agent} {v : Word} (hawake : Awake s) (hacc : Accepts s a Reg.CAL.CAL_CTRL .cfg)
    (hen : bit v 0 = true) : ∃ t, exec (.calEnable a v) s = .next t ∧ rd t Reg.CAL.CAL_CTRL = calCtrlWord s v ∧
      rdF t Reg.CAL.CAL_STATUS 3 1 = calRefusal s ∧ RegsExcept [Reg.CAL.CAL_CTRL, Reg.CAL.CAL_STATUS] s t := by
  refine ⟨_, calEnable_accepted v hawake hacc, ?_, ?_, fun b hb => ?_⟩
  · rw [rd_touchSession, rd_writeCalCtrl s hen, if_pos rfl]
  · rw [rdF, rd_touchSession, rd_writeCalCtrl s hen, if_neg (by decide), if_pos rfl,
      fld_setFld_same _ _ _ _ (by decide) (by decide), Nat.mod_eq_of_lt (calRefusal_lt s)]
  · simp only [List.mem_cons, List.not_mem_nil, or_false, not_or] at hb
    rw [rd_touchSession, rd_writeCalCtrl s hen, if_neg hb.1, if_neg hb.2]

/-! ### Flips (R178) -/

theorem flipGo_accepted {s : State} {a : Agent} {v : Word} (hawake : Awake s) (hacc : Accepts s a Reg.CAL.FLIP .cmd)
    (hgo : bit v 0 = true) : exec (.flipGo a v) s = .next (touchSession s a Page.CAL (goFlip s)) := by
  change execFlipGo a v s = _
  rw [execFlipGo, live_awake hawake, guarded_accepted hacc, if_pos hgo]
  rfl

theorem goFlip_captures {s : State} (hnone : flipPending s = false) (hoff : twnOn s = false) :
    goFlip s = { s with cal := { s.cal with flip := some (rd64 s Reg.CAL.SEL_NEXT_LO Reg.CAL.SEL_NEXT_HI) } } := by
  simp only [goFlip, hnone, hoff, Bool.false_eq_true, if_false]

theorem goFlip_ignored {s : State} (hpending : flipPending s = true) : goFlip s = bump s Reg.CAL.FLIP_IGNORED := by
  simp only [goFlip, hpending, if_true]

/-! ### Contexts of a granule (R174) -/

/-- From `s` to `t` contexts are settled, and none that was settled is dropped. -/
def CtxsGrow (s t : State) : Prop := ∃ l, t.cal.ctxs = s.cal.ctxs ++ l

theorem CtxsGrow.of_eq {s t : State} (h : t.cal = s.cal) : CtxsGrow s t := ⟨[], by rw [h, List.append_nil]⟩

theorem ctxsGrow_holdCtx (s : State) (k n cell : Nat) (x : Option (List Byte)) : CtxsGrow s (holdCtx s k n cell x) := ⟨_, rfl⟩

theorem CtxsGrow.trans {s t u : State} (h : CtxsGrow s t) (k : CtxsGrow t u) : CtxsGrow s u := by
  obtain ⟨l, hl⟩ := h
  obtain ⟨m, hm⟩ := k
  exact ⟨l ++ m, by rw [hm, hl, List.append_assoc]⟩

theorem heldCtx_isSome (s : State) (k n cell : Nat) : (heldCtx s k n cell).isSome = true ↔
    ∃ x ∈ s.cal.ctxs, (x.k == k && x.n == n && x.cell == cell) = true := by
  rw [heldCtx, Option.isSome_map, List.find?_isSome]

/-- A settled context stays settled. -/
theorem CtxsGrow.held {s t : State} (h : CtxsGrow s t) {k n cell : Nat} (hheld : (heldCtx s k n cell).isSome = true) :
    (heldCtx t k n cell).isSome = true := by
  obtain ⟨l, hl⟩ := h
  rw [heldCtx_isSome] at hheld ⊢
  obtain ⟨x, hx, hslot⟩ := hheld
  exact ⟨x, by rw [hl]; exact List.mem_append_left _ hx, hslot⟩

theorem heldCtx_holdCtx (s : State) (k n cell : Nat) (x : Option (List Byte)) :
    (heldCtx (holdCtx s k n cell x) k n cell).isSome = true := by
  rw [heldCtx_isSome]
  exact ⟨_, List.mem_append_right _ (List.mem_singleton_self _), by simp⟩

theorem noteCopyFail_cal (s : State) (cell copy : Nat) (crc : Bool) (bank : Nat) : (noteCopyFail s cell copy crc bank).cal = s.cal := by
  rw [noteCopyFail, raiseE_cal, wr_cal, bump_cal]

/-- Judging a context drops none that is settled, whatever its verdict. -/
theorem ctxsGrow_judgeCtx (c : PhaseCtx) (copy : Nat) (r : FetchReq) (s : State) (cell : Nat) :
    CtxsGrow s (judgeCtx c copy r s cell) := by
  unfold judgeCtx
  extract_lets bank x bad fails noted
  have hnoted : CtxsGrow s noted := .of_eq (by
    dsimp only [noted]
    split
    · exact noteCopyFail_cal ..
    · rfl)
  split
  · exact hnoted
  · split
    · exact hnoted.trans (ctxsGrow_holdCtx ..)
    · split
      · exact hnoted
      · exact (hnoted.trans (ctxsGrow_holdCtx noted c.k c.n cell none)).trans (.of_eq (by rw [raiseE_cal, bump_cal]))

/-- A context that passes is settled once it is judged. -/
theorem heldCtx_judgeCtx {c : PhaseCtx} {copy : Nat} {r : FetchReq} (s : State) {cell : Nat} (hclean : r.poison = [])
    (hpass : ctxPasses (Store.slice zeroB r.data (ctxAddr (c.copyBase copy) cell (ctxBank c.sel cell)) 32) cell = true) :
    (heldCtx (judgeCtx c copy r s cell) c.k c.n cell).isSome = true := by
  unfold judgeCtx
  dsimp only
  rw [hclean, hpass]
  simp only [List.isEmpty_nil, Bool.not_true, Bool.or_self, Bool.false_eq_true, if_false, Bool.not_false, if_true]
  split
  · assumption
  · exact heldCtx_holdCtx ..

theorem ctxsGrow_judgeCtxs (c : PhaseCtx) (copy : Nat) (r : FetchReq) (cells : List Nat) (s : State) :
    CtxsGrow s (cells.foldl (judgeCtx c copy r) s) := by
  induction cells generalizing s with
  | nil => exact .of_eq rfl
  | cons cell cells ih => exact (ctxsGrow_judgeCtx c copy r s cell).trans (ih _)

/-- Of the contexts judged one after the other each that passes ends settled. -/
theorem heldCtx_judgeCtxs {c : PhaseCtx} {copy : Nat} {r : FetchReq} {cells : List Nat} (s : State) {cell : Nat}
    (hcell : cell ∈ cells) (hclean : r.poison = [])
    (hpass : ctxPasses (Store.slice zeroB r.data (ctxAddr (c.copyBase copy) cell (ctxBank c.sel cell)) 32) cell = true) :
    (heldCtx (cells.foldl (judgeCtx c copy r) s) c.k c.n cell).isSome = true := by
  induction cells generalizing s with
  | nil => cases hcell
  | cons first cells ih =>
    rcases List.mem_cons.mp hcell with rfl | hrest
    · exact (ctxsGrow_judgeCtxs c copy r cells _).held (heldCtx_judgeCtx s hclean hpass)
    · exact ih _ hrest

/-- A slot's granule that is not late: its contexts are judged, and a re-read may be asked for beside. -/
theorem ctxsGrow_judgeGranule {s : State} {r : FetchReq} {copy : Nat} {c : PhaseCtx} (hctx : findCtx s r.k r.n = some c)
    (hkept : r.discard = false) : CtxsGrow ((requestCells c copy r).foldl (judgeCtx c copy r)
      { s with fab := { s.fab with reqs := s.fab.reqs.erase r } }) (judgeGranule s r copy) := by
  have hctx' : findCtx { s with fab := { s.fab with reqs := s.fab.reqs.erase r } } r.k r.n = some c := hctx
  unfold judgeGranule
  dsimp only
  rw [hctx', hkept]
  dsimp only
  split
  · contradiction
  · split <;> exact .of_eq rfl

theorem contextGranuleReturn_judges {s : State} {id copy : Nat} {r : FetchReq} (hlit : Lit s)
    (hreq : (s.fab.reqs.find? fun r => r.id == id) = some r) (hkind : r.kind = .context copy)
    (hfull : r.granted.length = r.units.length) : exec (.contextGranuleReturn id) s = .next (judgeGranule s r copy) := by
  change execContextGranuleReturn id s = _
  rw [execContextGranuleReturn, wall_lit hlit, hreq]
  dsimp only
  rw [hkind]
  dsimp only
  rw [if_pos hfull]

/-! ### The scrubber's transfers (R176) -/

/-- One best-effort transfer counted, on its stack and on the fabric. -/
def transferCounted (s : State) (a : Nat) (write : Bool) : State :=
  bump64 (countTransfer s a write) Reg.FAB.BE_GRANTS_LO Reg.FAB.BE_GRANTS_HI 1

/-- A transfer's counters lie below CAL's page. -/
theorem rd_transferCounted (s : State) (a : Nat) (write : Bool) {b : Nat} (hb : 0x1000 * Page.CAL ≤ b) :
    rd (transferCounted s a write) b = rd s b := by
  have hstack := pseudoChannel_lt a
  simp only [Page.CAL] at hb
  rw [transferCounted, rd_bump64_other _ _ (by simp only [Reg.FAB.BE_GRANTS_LO]; omega) (by simp only [Reg.FAB.BE_GRANTS_HI]; omega)]
  unfold countTransfer
  dsimp only
  split
  · exact rd_bump64_other _ _ (by simp only [Reg.MEM.WR_BYTES_LO]; omega) (by simp only [Reg.MEM.WR_BYTES_HI]; omega)
  · exact rd_bump64_other _ _ (by simp only [Reg.MEM.RD_BYTES_LO]; omega) (by simp only [Reg.MEM.RD_BYTES_HI]; omega)

theorem regsOnly_transferCounted (s : State) (a : Nat) (write : Bool) : RegsOnly s (transferCounted s a write) := by
  refine RegsOnly.trans ?_ (regsOnly_bump64 ..)
  unfold countTransfer
  dsimp only
  split <;> exact regsOnly_bump64 ..

/-- A word that holds no error and is met without one is read, and nothing is noted (R455). -/
theorem readWord32_clean {s : State} {a : Nat} (h : Store.get noB s.poison (a / 32) = false) : readWord32 s a .ok = (false, s) := by
  simp [readWord32, h]

/-- A context read without a memory error: its bytes, bad where its CRC fails. -/
theorem scrubRead_clean {s : State} {a : Nat} (cell : Nat) (h : Store.get noB s.poison (a / 32) = false) :
    scrubRead s a cell .ok = (transferCounted s a false, memRead s a 32, false, !ctxPasses (memRead s a 32) cell) := by
  have hregs := regsOnly_transferCounted s a false
  have hword : readWord32 (transferCounted s a false) a .ok = (false, transferCounted s a false) :=
    readWord32_clean (by rw [hregs]; exact h)
  have hbytes : memRead (transferCounted s a false) a 32 = memRead s a 32 := by rw [hregs]; rfl
  unfold scrubRead
  rw [← transferCounted, hword]
  dsimp only
  rw [hbytes, Bool.not_false, Bool.true_and]

/-! ### A cell's two copies (R176) -/

/-- Calibration and scrubbing are on, and the scrubber comes to `cell`, whose two copies lie at `a0` and `a1` without error. -/
structure ScrubTurn (s : State) (cell a0 a1 : Nat) : Prop where
  lit : Lit s
  on : rdB s Reg.CAL.CAL_CTRL 0 = true
  scrub : rdB s Reg.CAL.CAL_CTRL 1 = true
  acts : safe s Page.CAL = false
  turn : s.cal.scrub = cell
  column : cell % 1024 < rdF s Reg.DLS.CANVAS 10 0
  band : cell / 1024 < rdF s Reg.DLS.CANVAS 26 16
  copy0 : a0 = ctxAddr (rd64 s Reg.CAL.COPY0_BASE_LO Reg.CAL.COPY0_BASE_HI) cell
    (ctxBank (rd64 s Reg.CAL.SEL_ACTIVE_LO Reg.CAL.SEL_ACTIVE_HI) cell)
  copy1 : a1 = ctxAddr (rd64 s Reg.CAL.COPY1_BASE_LO Reg.CAL.COPY1_BASE_HI) cell
    (ctxBank (rd64 s Reg.CAL.SEL_ACTIVE_LO Reg.CAL.SEL_ACTIVE_HI) cell)
  clean0 : Store.get noB s.poison (a0 / 32) = false
  clean1 : Store.get noB s.poison (a1 / 32) = false

theorem scrubCheck_rests {s : State} (e0 e1 : Ecc) (hlit : Lit s)
    (h : rdB s Reg.CAL.CAL_CTRL 0 = false ∨ rdB s Reg.CAL.CAL_CTRL 1 = false ∨ safe s Page.CAL = true) :
    exec (.scrubCheck e0 e1) s = .next s := by
  change execScrubCheck e0 e1 s = _
  rw [execScrubCheck, wall_lit hlit, if_neg]
  rcases h with h | h | h <;> simp [h]

/-- Both copies are read. -/
def copiesRead (s : State) (a0 a1 : Nat) : State := transferCounted (transferCounted s a0 false) a1 false

theorem regsOnly_copiesRead (s : State) (a0 a1 : Nat) : RegsOnly s (copiesRead s a0 a1) :=
  (regsOnly_transferCounted ..).trans (regsOnly_transferCounted ..)

theorem rd_copiesRead (s : State) (a0 a1 : Nat) {b : Nat} (hb : 0x1000 * Page.CAL ≤ b) : rd (copiesRead s a0 a1) b = rd s b := by
  rw [copiesRead, rd_transferCounted _ _ _ hb, rd_transferCounted _ _ _ hb]

/-- The outcome of a turn is what the two CRC verdicts make of the copies, and the scrubber goes on. -/
theorem scrubCheck_settles {s : State} {cell a0 a1 : Nat} (h : ScrubTurn s cell a0 a1) : ∃ lost next,
    exec (.scrubCheck .ok .ok) s = .next (scrubNext (scrubSettle (copiesRead s a0 a1) a0 a1 (memRead s a0 32) (memRead s a1 32)
      (!ctxPasses (memRead s a0 32) cell) (!ctxPasses (memRead s a1 32) cell) lost) next) := by
  have hwidth : 16 * rdF s Reg.DLS.CANVAS 10 0 / 16 = rdF s Reg.DLS.CANVAS 10 0 := by omega
  have hregs := regsOnly_transferCounted s a0 false
  have hbytes : memRead (transferCounted s a0 false) a1 32 = memRead s a1 32 := by rw [hregs]; rfl
  have hread1 := scrubRead_clean (s := transferCounted s a0 false) cell (a := a1) (by rw [hregs]; exact h.clean1)
  refine ⟨failWord cell 1 (!ctxPasses (memRead s a1 32) cell) (ctxBank (rd64 s Reg.CAL.SEL_ACTIVE_LO Reg.CAL.SEL_ACTIVE_HI) cell) true,
    nextCell (16 * rdF s Reg.DLS.CANVAS 10 0) (rdF s Reg.DLS.CANVAS 26 16) cell, ?_⟩
  change execScrubCheck .ok .ok s = _
  rw [execScrubCheck, wall_lit h.lit, h.on, h.scrub, h.acts, if_pos (by decide), scrubCell, hwidth, h.turn,
    if_pos ⟨h.column, h.band⟩, ← h.copy0, ← h.copy1, scrubRead_clean cell h.clean0, hread1, hbytes]
  rfl

/-! ### What a turn leaves -/

theorem rd_scrubNext (s : State) (next : Option Nat) {b : Nat} (hb : b ≠ Reg.CAL.SCRUB_PASSES) : rd (scrubNext s next) b = rd s b := by
  cases next with
  | none => exact rd_bump_other _ hb
  | some i => rfl

theorem scrubSettle_agree (s : State) (a0 a1 : Nat) (x : List Byte) (lost : Word) : scrubSettle s a0 a1 x x false false lost = s := by
  simp [scrubSettle]

theorem memRead_length (s : State) (a n : Nat) : (memRead s a n).length = n := by simp [memRead, Store.slice]

/-- A repair writes its bytes where they belong, touches no other byte, and counts. -/
theorem scrubWrite_repairs (s : State) {a : Nat} {x : List Byte} (hlen : x.length = 32) (hin : a + 32 ≤ memBytes) :
    memRead (scrubWrite s a x) a 32 = x ∧ (∀ b, b < a ∨ a + 32 ≤ b → memByte (scrubWrite s a x) b = memByte s b) ∧
      rd (scrubWrite s a x) Reg.CAL.SCRUB_REPAIR = plusOne (rd s Reg.CAL.SCRUB_REPAIR) := by
  have hregs := regsOnly_transferCounted s a true
  obtain ⟨hinside, houtside⟩ := memWrite_bytes (transferCounted s a true) a x (by simpa [inMem, hlen] using hin)
  refine ⟨List.ext_getElem (by rw [memRead_length, hlen]) fun i hi hx => ?_, fun b hb => ?_, ?_⟩
  · have hbyte : (memRead (scrubWrite s a x) a 32)[i] = memByte (memWrite (transferCounted s a true) a x) (a + i) := by
      simp only [memRead, Store.slice, List.getElem_map, List.getElem_range]
      rfl
    rw [hbyte, hinside i hx]
    simp [byteAt, hx]
  · calc memByte (scrubWrite s a x) b = memByte (memWrite (transferCounted s a true) a x) b := rfl
      _ = memByte (transferCounted s a true) b := houtside b (by rwa [hlen])
      _ = memByte s b := by rw [hregs]; rfl
  · calc rd (scrubWrite s a x) Reg.CAL.SCRUB_REPAIR = plusOne (rd (transferCounted s a true) Reg.CAL.SCRUB_REPAIR) := rd_bump_same ..
      _ = plusOne (rd s Reg.CAL.SCRUB_REPAIR) := by rw [rd_transferCounted _ _ _ (by decide)]

/-- A loss counts, and no byte changes. -/
theorem scrubSettle_lost (s : State) (a0 a1 : Nat) (x0 x1 : List Byte) (lost : Word) :
    (scrubSettle s a0 a1 x0 x1 true true lost).mem = s.mem ∧ (scrubSettle s a0 a1 x0 x1 true true lost).hostMem = s.hostMem ∧
      rd (scrubSettle s a0 a1 x0 x1 true true lost) Reg.CAL.SCRUB_LOST = plusOne (rd s Reg.CAL.SCRUB_LOST) := by
  refine ⟨raiseE_mem .., scrubSettle_hostMem .., ?_⟩
  rw [scrubSettle, rd_raiseE, rd_wr_other _ _ _ _ (by decide), rd_bump_same]

end Sys2Proof.Machine
end

section
/-! The statements of 07_cell_calibration: enabling, flips and settled contexts, and the scrubber. -/

open Sys2Proof Sys2Proof.Machine

/-- Settles O28: an accepted write of CAL_CTRL by what it shows, of FLIP by the branch that goFlip takes; a granule's contexts are judged
in turn and none that is settled is dropped. -/
theorem calibrationControl : Obligations.CalibrationControl := by
  refine ⟨fun s a v hawake hacc hen => ⟨fun hnone => ?_, fun hcause => ?_⟩,
    fun s a v hawake hacc hgo => ⟨fun hnone hoff => ?_, fun hpending => ?_⟩,
    fun s id copy r c hlit hreq hkind hfull hkept hctx hclean => ?_⟩
  · obtain ⟨t, hexec, hctrl, hstatus, hregs⟩ := calEnable_shows hawake hacc hen
    exact ⟨t, hexec, by rw [hctrl, calCtrlWord, if_pos hnone], hstatus.trans hnone, hregs⟩
  · obtain ⟨t, hexec, hctrl, hstatus, hregs⟩ := calEnable_shows hawake hacc hen
    exact ⟨t, hexec, by rw [rdB, hctrl, calCtrlWord, if_neg hcause, bit_setBit_same _ _ _ (by decide)], hstatus, hregs⟩
  · refine ⟨_, flipGo_accepted hawake hacc hgo, ?_, ?_⟩
    · rw [touchSession_regs, goFlip_captures hnone hoff]
    · rw [touchSession_cal, goFlip_captures hnone hoff]
  · refine ⟨_, flipGo_accepted hawake hacc hgo, ?_, ?_, fun b hb => ?_⟩ <;> rw [goFlip_ignored hpending]
    · rw [touchSession_cal, bump_cal]
    · rw [rd_touchSession, rd_bump_same]
    · rw [rd_touchSession, rd_bump_other _ (by simpa using hb)]
  · obtain ⟨hk, hn⟩ := findCtx_slot hctx
    refine ⟨_, contextGranuleReturn_judges hlit hreq hkind hfull, fun cell hcell hpass => ?_⟩
    rw [← hk, ← hn]
    exact (ctxsGrow_judgeGranule hctx hkept).held (heldCtx_judgeCtxs _ hcell hclean hpass)

/-- Settles O29: a turn's outcome is scrubCheck_settles; the verdicts on the copies choose between nothing, a repair and a loss. -/
theorem scrubberRepairs : Obligations.ScrubberRepairs := by
  refine ⟨fun s e0 e1 hlit h => scrubCheck_rests e0 e1 hlit h, fun s cell bank a0 a1 hlit hon hscrub hacts hturn hcolumn hband hbank
    h0 h1 hin0 hin1 hapart hclean0 hclean1 => ?_⟩
  subst hbank
  obtain ⟨lost, next, hexec⟩ := scrubCheck_settles ⟨hlit, hon, hscrub, hacts, hturn, hcolumn, hband, h0, h1, hclean0, hclean1⟩
  have hmem : (copiesRead s a0 a1).mem = s.mem := by rw [regsOnly_copiesRead s a0 a1]
  have hhost : (copiesRead s a0 a1).hostMem = s.hostMem := by rw [regsOnly_copiesRead s a0 a1]
  refine ⟨fun hpass0 hpass1 hagree => ?_, fun hpass0 hfail1 => ?_, fun hfail0 hfail1 => ?_⟩
  · rw [hpass0, hpass1, ← hagree, Bool.not_true, scrubSettle_agree] at hexec
    refine ⟨_, hexec, sameMemory_of_stores ((scrubNext_mem ..).trans hmem) ((scrubNext_hostMem ..).trans hhost), ?_⟩
    rw [rd_scrubNext _ _ (by decide), rd_copiesRead _ _ _ (by decide)]
  · rw [hpass0, hfail1, Bool.not_true, Bool.not_false] at hexec
    obtain ⟨hwritten, hothers, hcount⟩ := scrubWrite_repairs (copiesRead s a0 a1) (memRead_length s a0 32) hin1
    refine ⟨_, hexec, ?_, fun b hb => ?_, ?_⟩
    · rw [memRead, scrubNext_mem]
      exact hwritten
    · rw [memByte, scrubNext_mem, memByte, ← hmem]
      exact hothers b hb
    · rw [rd_scrubNext _ _ (by decide), ← rd_copiesRead s a0 a1 (by decide)]
      exact hcount
  · rw [hfail0, hfail1, Bool.not_false] at hexec
    obtain ⟨hlostMem, hlostHost, hcount⟩ := scrubSettle_lost (copiesRead s a0 a1) a0 a1 (memRead s a0 32) (memRead s a1 32) lost
    refine ⟨_, hexec, sameMemory_of_stores ((scrubNext_mem ..).trans (hlostMem.trans hmem))
      ((scrubNext_hostMem ..).trans (hlostHost.trans hhost)), ?_⟩
    rw [rd_scrubNext _ _ (by decide), hcount, rd_copiesRead _ _ _ (by decide)]

end

section
/-! SUPPORT. Bands and the groundsheet store (R184 to R195): how a band takes its ring slot, what a composition step and a deadline make
of it, and what a fill writes. -/

namespace Sys2Proof.Machine

/-- A command that keeps the stores of bytes changes no byte. -/
theorem sameMemory_of_keep {s t : State} {P : Prop} (h : t.pending = s.pending ∧ t.mem = s.mem ∧ t.hostMem = s.hostMem ∧ P) :
    SameMemory s t := by
  obtain ⟨-, hmem, hhost, -⟩ := h
  exact sameMemory_of_stores hmem hhost

/-! ### Ring slots (R186) -/

/-- A band's slot names its band. -/
theorem ringSlot_key {s : State} {k n b : Nat} {r : BandSlot} (h : ringSlot s k n b = some r) : r.k = k ∧ r.n = n ∧ r.b = b := by
  simpa [and_assoc] using List.find?_some h

theorem ringSlot_of_ring {s t : State} (h : t.dls.ring = s.dls.ring) (k n b : Nat) : ringSlot t k n b = ringSlot s k n b := by
  rw [ringSlot, h, ringSlot]

theorem ringSlot_of_dls {s t : State} (h : t.dls = s.dls) (k n b : Nat) : ringSlot t k n b = ringSlot s k n b :=
  ringSlot_of_ring (congrArg DlsSt.ring h) k n b

theorem ringSlot_head {s : State} {r : BandSlot} {l : List BandSlot} (h : s.dls.ring = r :: l) : ringSlot s r.k r.n r.b = some r := by
  simp [ringSlot, h]

/-- A slot of the ring that is replaced has the contents last set. -/
theorem ringSlot_setSlot {s : State} {r : BandSlot} (h : (ringSlot s r.k r.n r.b).isSome = true) :
    ringSlot (setSlot s r) r.k r.n r.b = some r :=
  find?_replaceFirst (by simp) h

/-! ### Contents that are final (R190) -/

/-- A slot whose contents are final: the whole band is substituted under EN = 0 or GS_ALL. -/
def finalSlot (r : BandSlot) : BandSlot :=
  { r with final := true, subst := if r.gsAll || !r.enabled then allSubst r.wc else r.subst }

/-- Contents that were composed keep their flags. -/
theorem finalSlot_composed {r : BandSlot} (hall : r.gsAll = false) (hen : r.enabled = true) : (finalSlot r).subst = r.subst := by
  simp [finalSlot, hall, hen]

theorem finalise_dls (s : State) (c : PhaseCtx) (r : BandSlot) : (finalise s c r).dls = (setSlot s (finalSlot r)).dls := by
  simp only [finalise, apply_ite State.dls, pulse_dls, ite_self]
  rfl

/-- Contents that become final change no register but the two in which the fabric notes merged pulses (R369). -/
theorem rd_finalise (s : State) (c : PhaseCtx) (r : BandSlot) : RegsExcept [Reg.EVF.MERGED, Reg.EVF.LAST_MERGED] s (finalise s c r) := by
  intro a ha
  simp only [finalise, apply_ite (rd · a), rd_pulse _ _ a ha, ite_self]
  split <;> rfl

theorem ringSlot_finalise {s : State} (c : PhaseCtx) {r : BandSlot} (h : (ringSlot s r.k r.n r.b).isSome = true) :
    ringSlot (finalise s c r) r.k r.n r.b = some (finalSlot r) := by
  rw [ringSlot_of_dls (finalise_dls s c r)]
  exact ringSlot_setSlot (r := finalSlot r) h

/-! ### A band takes its slot (R184, R186) -/

theorem withdraw_frame (s : State) (k n b : Nat) : withdraw s k n b =
    { s with regs := (withdraw s k n b).regs, par := (withdraw s k n b).par, fab := (withdraw s k n b).fab,
             icu := (withdraw s k n b).icu } := by
  unfold withdraw
  dsimp only
  split
  · rw [raiseE_frame]
    rfl
  · rfl

/-- Withdrawn requests are counted in one register (R105). -/
theorem rd_withdraw (s : State) (k n b : Nat) : RegsExcept [Reg.SPB.FETCH_EXPIRED] s (withdraw s k n b) := by
  intro a ha
  simp only [withdraw, apply_ite (rd · a), rd_raiseE, ite_self]
  rw [rd_bumpN, if_neg (by simpa using ha)]
  rfl

/-- A new slot holds its band with EN as it stands, not entered, with no step done and contents not final. -/
theorem newSlot_slot (s : State) (c : PhaseCtx) (b : Nat) : (newSlot s c b).1 =
    { k := c.k, n := c.n, b := b, wc := c.wc, enabled := rdB s Reg.DLS.DLS_CTRL 0, gsAll := (newSlot s c b).1.gsAll,
      entered := none, steps := 0, stall := 0, cells := [], subst := [], final := false, judged := false } := by
  have henabled : (newSlot s c b).1.enabled = rdB s Reg.DLS.DLS_CTRL 0 := by
    simp only [newSlot, rdB, rd_releaseSafe]
  rw [← henabled]
  rfl

/-- The ring then begins with the new slot; the slices and the clock stand as they stood. -/
theorem newSlot_ring (s : State) (c : PhaseCtx) (b : Nat) :
    (newSlot s c b).2.dls.ring = (newSlot s c b).1 :: keptSlots s (ringSlots c.wc - 1) ∧
      (newSlot s c b).2.dls.busy = s.dls.busy ∧ coreClk (newSlot s c b).2 = coreClk s := by
  have hkept : keptSlots (releaseSafe s Page.DLS) (ringSlots c.wc - 1) = keptSlots s (ringSlots c.wc - 1) := by
    rw [releaseSafe_frame]
    rfl
  have hbusy : (releaseSafe s Page.DLS).dls.busy = s.dls.busy := by rw [releaseSafe_frame]
  have hclk : coreClk (releaseSafe s Page.DLS) = coreClk s := by rw [releaseSafe_frame]; rfl
  rw [← hkept, ← hbusy, ← hclk]
  unfold newSlot
  dsimp only
  split
  · exact ⟨rfl, rfl, rfl⟩
  · rw [withdraw_frame]
    exact ⟨rfl, rfl, rfl⟩

theorem keptSlots_nil {s : State} (q : Nat) (h : s.dls.ring = []) : keptSlots s q = [] := by
  simp [keptSlots, h]

theorem showScaler_dls (c : PhaseCtx) (b : Nat) (s : State) (i : Nat) : (showScaler c b s i).dls = s.dls := by
  unfold showScaler
  split <;> rfl

theorem showPool_dls (s : State) (c : PhaseCtx) (b : Nat) : (showPool s c b).dls = s.dls := by
  rw [showPool, wrF_dls]
  exact foldl_keep State.dls _ (showScaler_dls c b) _ s

/-- The slices are free for a slot that waits for them. -/
def enters (s : State) (r : BandSlot) : Bool := r.enabled && !r.final && r.entered.isNone && slicesFree s r.k r.n r.b

/-- Entering a slot changes the ring by its clock of entry alone. -/
theorem enterSlot_dls (s : State) (c : PhaseCtx) (r : BandSlot) : (enterSlot s c r).dls =
    if enters s r then (setSlot s { r with entered := some (coreClk s) }).dls else s.dls := by
  unfold enterSlot enters
  split
  · simp only [peak_dls, apply_ite State.dls, showPool_dls, ite_self]
  · rfl

theorem ringSlot_enterSlot {s : State} (c : PhaseCtx) {r : BandSlot} (h : ringSlot s r.k r.n r.b = some r) :
    ringSlot (enterSlot s c r) r.k r.n r.b = some (if enters s r then { r with entered := some (coreClk s) } else r) := by
  have hdls := enterSlot_dls s c r
  split at hdls
  next hfree =>
    rw [ringSlot_of_dls hdls, if_pos hfree]
    exact ringSlot_setSlot (r := { r with entered := some (coreClk s) }) (by rw [h]; rfl)
  next hheld => rw [ringSlot_of_dls hdls, if_neg hheld, h]

/-- With no other band in the ring and the slices idle they are free for the one that waits. -/
theorem enters_alone {s : State} {r : BandSlot} (hring : s.dls.ring = [r]) (hbusy : s.dls.busy ≤ coreClk s)
    (hen : r.enabled = true) (hopen : r.final = false) (hwait : r.entered = none) : enters s r = true := by
  simp [enters, slicesFree, inFlight, hring, hbusy, hen, hopen, hwait]

section
variable {s : State} {k n b : Nat} {c : PhaseCtx} (hlit : Lit s) (hctx : findCtx s k n = some c)
include hlit hctx

theorem bandEnter_idle (h : c.bands ≤ b ∨ reached s (c.begin_ (b : Nat)) = false) : exec (.bandEnter k n b) s = .next s := by
  change execBandEnter k n b s = _
  rw [execBandEnter, wall_lit hlit, hctx]
  dsimp only
  rw [if_pos]
  rcases h with h | h <;> simp [h]

theorem bandEnter_takes (hin : b < c.bands) (hdue : reached s (c.begin_ (b : Nat)) = true) (hnone : ringSlot s k n b = none)
    (hopen : reached s (c.deadline b) = false) :
    exec (.bandEnter k n b) s = .next (enterSlot (newSlot s c b).2 c (newSlot s c b).1) := by
  change execBandEnter k n b s = _
  rw [execBandEnter, wall_lit hlit, hctx]
  dsimp only
  rw [if_neg (by simp [hin, hdue]), hnone]
  dsimp only
  rw [hopen, if_neg (by decide)]

end

/-! ### A step completes (R188) -/

/-- Of a slot only composed cells and substitution flags change. -/
def CellsOnly (r q : BandSlot) : Prop := q = { r with cells := q.cells, subst := q.subst }

theorem CellsOnly.trans {r q p : BandSlot} (h : CellsOnly r q) (k : CellsOnly q p) : CellsOnly r p :=
  Eq.trans k (by rw [h])

theorem cellsOnly_composeInto (s : State) (c : PhaseCtx) (srcs : List PixSrc) (sets : List (List Nat))
    (x : BandSlot × Tally × Nat) (cx : Nat) : CellsOnly x.1 (composeInto s c srcs sets x cx).1 := by
  unfold composeInto
  dsimp only
  split
  · rfl
  · split <;> rfl

theorem cellsOnly_foldl_composeInto (s : State) (c : PhaseCtx) (srcs : List PixSrc) (sets : List (List Nat)) (l : List Nat)
    (x : BandSlot × Tally × Nat) : CellsOnly x.1 (l.foldl (composeInto s c srcs sets) x).1 := by
  induction l generalizing x with
  | nil => rfl
  | cons cx l ih => exact (cellsOnly_composeInto s c srcs sets x cx).trans (ih _)

/-- The cells of a slot's next step composed into it, with what composition counts. -/
def stepComposed (s : State) (c : PhaseCtx) (r : BandSlot) : BandSlot × Tally × Nat :=
  (stepCells c.wc r.steps).foldl (composeInto s c ((composedLayers s c).map (pixSrc s c r.b)) (bandSets s c r.b)) (r, .zero, 0)

/-- The slot with that step complete. -/
def stepSlot (s : State) (c : PhaseCtx) (r : BandSlot) : BandSlot := { (stepComposed s c r).1 with steps := r.steps + 1 }

/-- The state with that step complete and counted. -/
def stepCounted (s : State) (c : PhaseCtx) (r : BandSlot) : State :=
  bumpN (addTally (setSlot s (stepSlot s c r)) (stepComposed s c r).2.1) Reg.CAL.FORCE_GS_CELLS (stepComposed s c r).2.2

theorem finishStep_eq (s : State) (c : PhaseCtx) (r : BandSlot) : finishStep s c r =
    if r.steps + 1 == bandSteps c.wc then finalise (noteSlack (stepCounted s c r) c r.b) c (stepSlot s c r)
    else stepCounted s c r := (rfl)

/-- A complete step leaves the slot its band, and its contents not final if they were not. -/
theorem stepSlot_slot (s : State) (c : PhaseCtx) (r : BandSlot) : (stepSlot s c r).k = r.k ∧ (stepSlot s c r).n = r.n ∧
    (stepSlot s c r).b = r.b ∧ (stepSlot s c r).final = r.final := by
  have hcells : CellsOnly r (stepComposed s c r).1 := cellsOnly_foldl_composeInto ..
  rw [stepSlot, hcells]
  exact ⟨rfl, rfl, rfl, rfl⟩

theorem addTally_dls (s : State) (t : Tally) : (addTally s t).dls = s.dls := by
  refine (foldl_keep State.dls _ (fun s i => ?_) _ _).trans ?_
  · rw [bumpN_dls, bump64_dls]
  · simp only [bumpN_dls]

theorem stepCounted_dls (s : State) (c : PhaseCtx) (r : BandSlot) : (stepCounted s c r).dls = (setSlot s (stepSlot s c r)).dls := by
  rw [stepCounted, bumpN_dls, addTally_dls]

theorem noteSlack_dls (s : State) (c : PhaseCtx) (b : Nat) : (noteSlack s c b).dls = s.dls := by
  unfold noteSlack
  dsimp only
  split
  · rw [wr_dls]
  · rfl

/-- A step that completes is one more step of its band, whose contents are final with the last one. -/
theorem ringSlot_finishStep {s : State} (c : PhaseCtx) {r : BandSlot} (hin : (ringSlot s r.k r.n r.b).isSome = true)
    (hopen : r.final = false) : ∃ q, ringSlot (finishStep s c r) r.k r.n r.b = some q ∧ q.steps = r.steps + 1 ∧
      q.final = (r.steps + 1 == bandSteps c.wc) := by
  obtain ⟨hk, hn, hb, hfinal⟩ := stepSlot_slot s c r
  rw [← hk, ← hn, ← hb] at hin ⊢
  have hslot : ringSlot (stepCounted s c r) (stepSlot s c r).k (stepSlot s c r).n (stepSlot s c r).b = some (stepSlot s c r) := by
    rw [ringSlot_of_dls (stepCounted_dls s c r)]
    exact ringSlot_setSlot hin
  rw [finishStep_eq]
  split
  next hlast =>
    refine ⟨finalSlot (stepSlot s c r), ringSlot_finalise c ?_, rfl, hlast.symm⟩
    rw [ringSlot_of_dls (noteSlack_dls ..), hslot]
    rfl
  next hmore =>
    exact ⟨stepSlot s c r, hslot, rfl, by rw [hfinal, hopen, Bool.eq_false_of_not_eq_true hmore]⟩

/-- A band in composition holds a slot of the ring whose contents are not final. -/
theorem inFlight_slot {s : State} {p : BandSlot → Bool} {r : BandSlot} (h : (inFlight s).find? p = some r) :
    (ringSlot s r.k r.n r.b).isSome = true ∧ r.final = false := by
  have hmem := List.mem_of_find?_eq_some h
  simp only [inFlight, List.mem_reverse, List.mem_filter, Bool.and_eq_true, Bool.not_eq_true'] at hmem
  obtain ⟨hring, -, hopen⟩ := hmem
  exact ⟨List.find?_isSome.mpr ⟨r, hring, by simp⟩, hopen⟩

theorem compositionStepDone_none {s : State} (us : List Upset) (hlit : Lit s)
    (hnone : ((inFlight s).find? fun r => r.entered.isSome) = none) : exec (.compositionStepDone us) s = .next s := by
  change execCompositionStepDone us s = _
  rw [execCompositionStepDone, wall_lit hlit, hnone]

section
variable {s : State} {r : BandSlot} {c : PhaseCtx} {t0 : Nat} (hlit : Lit s)
  (hband : ((inFlight s).find? fun r => r.entered.isSome) = some r) (hctx : findCtx s r.k r.n = some c)
  (hstart : (bandStarts s c r)[r.steps]? = some t0)
include hlit hband hctx hstart

theorem compositionStepDone_waits (us : List Upset) (h : coreClk s < t0 + 2304 ∨ reached s (c.deadline r.b + 800) = true) :
    exec (.compositionStepDone us) s = .next s := by
  change execCompositionStepDone us s = _
  rw [execCompositionStepDone, wall_lit hlit, hband]
  dsimp only
  rw [hctx]
  dsimp only
  rw [hstart]
  dsimp only
  rw [if_pos (.inr h)]

theorem compositionStepDone_finishes (hstall : r.stall = 0) (hdue : t0 + 2304 ≤ coreClk s)
    (hopen : reached s (c.deadline r.b + 800) = false) : exec (.compositionStepDone []) s = .next (finishStep s c r) := by
  change execCompositionStepDone [] s = _
  rw [execCompositionStepDone, wall_lit hlit, hband]
  dsimp only
  rw [hctx]
  dsimp only
  rw [hstart]
  dsimp only
  rw [if_neg (by simp [hstall, hdue, hopen])]
  rfl

end

/-! ### The deadline (R189, R190, R203) -/

/-- One value written at every key of a list. -/
theorem get_foldl_set {α : Type} [DecidableEq α] (d : Nat → α) (v : α) (l : List Nat) (m : Store α) (i : Nat) :
    Store.get d (l.foldl (fun m k => Store.set d m k v) m) i = if i ∈ l then v else Store.get d m i := by
  induction l generalizing m with
  | nil => rfl
  | cons k l ih =>
    rw [List.foldl_cons, ih, Store.get_set]
    by_cases hi : i ∈ l <;> simp [hi]

/-- A late band counts in LATE_BANDS once. -/
theorem rd_noteLate_bands (s : State) (c : PhaseCtx) (r : BandSlot) (n first cause : Nat) :
    rd (noteLate s c r n first cause) Reg.DLS.LATE_BANDS = plusOne (rd s Reg.DLS.LATE_BANDS) := by
  rw [noteLate, rd_withdraw _ _ _ _ _ (by decide), rd_raiseE, rd_wr_other _ _ _ _ (by decide), rd_bumpN,
    if_neg (by simp only [Reg.DLS.LATE_BANDS, Reg.DLS.PH_LATE]; omega), rd_bumpN, if_neg (by decide), rd_bump_same]

theorem noteLate_dls (s : State) (c : PhaseCtx) (r : BandSlot) (n first cause : Nat) : (noteLate s c r n first cause).dls = s.dls := by
  rw [noteLate, withdraw_frame, raiseE_dls]
  rfl

/-- A late band's slot with its open columns flagged, judged. -/
def lateSlot (s : State) (c : PhaseCtx) (r : BandSlot) : BandSlot := { r with subst := (lateBand s c r).1.subst, judged := true }

/-- In a late band every column from the first incomplete step on is flagged, and those before it are flagged as they were. -/
theorem lateSlot_flags (s : State) (c : PhaseCtx) (r : BandSlot) (cx : Nat) : Store.get noB (lateSlot s c r).subst cx =
    (decide (64 * r.steps ≤ cx ∧ cx < c.wc / 16) || Store.get noB r.subst cx) := by
  rw [lateSlot, lateBand, get_foldl_set]
  cases hold : Store.get noB r.subst cx <;> simp [hold, and_comm]

/-- A late band leaves the ring, and counts. -/
theorem lateBand_counts (s : State) (c : PhaseCtx) (r : BandSlot) : (lateBand s c r).2.dls.ring = s.dls.ring ∧
    rd (lateBand s c r).2 Reg.DLS.LATE_BANDS = plusOne (rd s Reg.DLS.LATE_BANDS) := by
  have hforced (n : Nat) : rd (bumpN s Reg.CAL.FORCE_GS_CELLS n) Reg.DLS.LATE_BANDS = rd s Reg.DLS.LATE_BANDS := by
    rw [rd_bumpN, if_neg (by decide)]
  refine ⟨?_, (rd_noteLate_bands ..).trans (by rw [hforced])⟩
  rw [lateBand]
  dsimp only
  rw [noteLate_dls, bumpN_dls]

section
variable {s : State} {c : PhaseCtx} {r : BandSlot} (hall : r.gsAll = false) (hen : r.enabled = true)
include hall hen

theorem judgeBand_final (hfinal : r.final = true) : judgeBand s c r = setSlot s { r with judged := true } := by
  simp only [judgeBand, hall, hen, hfinal, bumpIf, Bool.not_true, Bool.or_self, Bool.false_eq_true, if_true, if_false]

theorem judgeBand_late (hopen : r.final = false) :
    judgeBand s c r = finalise (lateBand s c r).2 c (lateSlot s c r) := by
  simp only [judgeBand, hall, hen, hopen, bumpIf, Bool.not_true, Bool.or_self, Bool.false_eq_true, if_true, if_false]
  rfl

end

section
variable {s : State} {k n b : Nat} {c : PhaseCtx} {r : BandSlot} (hlit : Lit s) (hctx : findCtx s k n = some c)
  (hslot : ringSlot s k n b = some r)
include hlit hctx hslot

theorem bandDeadline_idle (h : c.bands ≤ b ∨ reached s (c.deadline b) = false ∨ r.judged = true) :
    exec (.bandDeadline k n b) s = .next s := by
  change execBandDeadline k n b s = _
  rw [execBandDeadline, wall_lit hlit, hctx]
  dsimp only
  rw [hslot]
  dsimp only
  rcases h with h | h | h <;> simp [h]

theorem bandDeadline_judges (hin : b < c.bands) (hdue : reached s (c.deadline b) = true) (hopen : r.judged = false) :
    exec (.bandDeadline k n b) s = .next (judgeBand s c r) := by
  change execBandDeadline k n b s = _
  rw [execBandDeadline, wall_lit hlit, hctx]
  dsimp only
  rw [if_neg (by simp [hin, hdue]), hslot]
  dsimp only
  rw [hopen, if_neg (by decide)]

end

/-! ### Groundsheet fills (R195) -/

theorem get_setList_replicate {α : Type} [DecidableEq α] (d : Nat → α) (m : Store α) (k n i : Nat) (v : α) :
    Store.get d (Store.setList d m k (List.replicate n v)) i = if k ≤ i ∧ i < k + n then v else Store.get d m i := by
  simp [Store.get_setList]

/-- The state in which a fill has started with what the registers give. -/
def fillStarted (s : State) : State :=
  { wr s Reg.DLS.GS_FILL_STATUS 1 with
    dls := { s.dls with fill := some (rd s Reg.DLS.GS_FILL_VALUE, rdF s Reg.DLS.GS_FILL_FIRST 19 0,
      min 0x100000 (rdF s Reg.DLS.GS_FILL_FIRST 19 0 + rdF s Reg.DLS.GS_FILL_COUNT 20 0), coreClk s) } }

/-- The state in which a fill has ended with its words written. -/
def fillEnded (s : State) (v : Word) (next stop : Nat) : State :=
  { wrB s Reg.DLS.GS_FILL_STATUS 0 false with
    dls := { s.dls with
      gs := Store.setList zeroW s.dls.gs next (List.replicate (stop - next) v)
      gsErr := Store.setList gsOk s.dls.gsErr next (List.replicate (stop - next) Ecc.ok)
      fill := none } }

theorem rd_fillStarted (s : State) (b : Nat) : rd (fillStarted s) b = if b = Reg.DLS.GS_FILL_STATUS then 1 else rd s b :=
  rd_wr s Reg.DLS.GS_FILL_STATUS 1 b

theorem rd_fillEnded (s : State) (v : Word) (next stop b : Nat) : rd (fillEnded s v next stop) b =
    if b = Reg.DLS.GS_FILL_STATUS then setBit (rd s Reg.DLS.GS_FILL_STATUS) 0 false else rd s b :=
  rd_wrB s Reg.DLS.GS_FILL_STATUS 0 false b

/-- Every word of the fill's range holds its value without error, and every other word is as before. -/
theorem fillEnded_words (s : State) (v : Word) (next stop i : Nat) :
    Store.get zeroW (fillEnded s v next stop).dls.gs i = (if next ≤ i ∧ i < stop then v else Store.get zeroW s.dls.gs i) ∧
      Store.get gsOk (fillEnded s v next stop).dls.gsErr i = if next ≤ i ∧ i < stop then .ok else Store.get gsOk s.dls.gsErr i := by
  have hrange : (next ≤ i ∧ i < next + (stop - next)) ↔ next ≤ i ∧ i < stop := by omega
  simp only [fillEnded, get_setList_replicate, hrange, and_self]

section
variable {s : State} {a : Agent} {v : Word} (hawake : Awake s) (hacc : Accepts s a Reg.DLS.GS_FILL .cmd) (hgo : bit v 0 = true)
include hawake hacc hgo

theorem gsFillGo_accepted : exec (.gsFillGo a v) s = .next (touchSession s a Page.DLS
    (if rdB s Reg.DLS.GS_FILL_STATUS 0 then wrB s Reg.DLS.GS_FILL_STATUS 1 true else fillStarted s)) := by
  change execGsFillGo a v s = _
  rw [execGsFillGo]
  dsimp only
  rw [live_awake hawake, guarded_accepted hacc, if_pos hgo]
  rfl

theorem gsFillGo_starts (hidle : rdB s Reg.DLS.GS_FILL_STATUS 0 = false) :
    exec (.gsFillGo a v) s = .next (touchSession s a Page.DLS (fillStarted s)) := by
  rw [gsFillGo_accepted hawake hacc hgo, hidle, if_neg (by decide)]

theorem gsFillGo_ignored (hbusy : rdB s Reg.DLS.GS_FILL_STATUS 0 = true) :
    exec (.gsFillGo a v) s = .next (touchSession s a Page.DLS (wrB s Reg.DLS.GS_FILL_STATUS 1 true)) := by
  rw [gsFillGo_accepted hawake hacc hgo, if_pos hbusy]

end

section
variable {s : State} {v : Word} {next stop at_ : Nat} (hlit : Lit s) (hfill : s.dls.fill = some (v, next, stop, at_))
include hlit hfill

theorem gsFillDone_ends (h : fillReach s next stop at_ = stop ∨ stop ≤ next) :
    exec .gsFillDone s = .next (fillEnded s v next stop) := by
  change execGsFillDone s = _
  rw [execGsFillDone, wall_lit hlit, hfill]
  dsimp only
  rw [if_pos h]
  rfl

theorem gsFillDone_waits (hshort : fillReach s next stop at_ ≠ stop) (hrange : next < stop) : exec .gsFillDone s = .next s := by
  change execGsFillDone s = _
  rw [execGsFillDone, wall_lit hlit, hfill]
  dsimp only
  rw [if_neg (by simp [hshort, hrange])]

end

end Sys2Proof.Machine
end

section
/-! The statements of 08_deadlines_and_groundsheet: bands entered, steps completed, deadlines, and groundsheet fills. -/

open Sys2Proof Sys2Proof.Machine

/-- Settles O30: the slot is newSlot's, at the head of the ring; the slices enter it in this clock where they are free for it, as
they are where no other band stands in the ring. -/
theorem bandTakesSlot : Obligations.BandTakesSlot := by
  refine fun s k n b c hlit hctx => ⟨bandEnter_idle hlit hctx, fun hin hdue hnone hopen => ?_⟩
  obtain ⟨rfl, rfl⟩ := findCtx_slot hctx
  have hexec := bandEnter_takes hlit hctx hin hdue hnone hopen
  obtain ⟨hring, hbusy, hclk⟩ := newSlot_ring s c b
  have hnew := newSlot_slot s c b
  have hmem : SameMemory s (enterSlot (newSlot s c b).2 c (newSlot s c b).1) := by
    obtain ⟨t, ht, hkeep⟩ := execBandEnter_keep c.k c.n b s
    cases hexec.symm.trans ht
    exact sameMemory_of_keep hkeep
  have hslot := ringSlot_enterSlot c (ringSlot_head hring)
  generalize (newSlot s c b).1 = r at *
  generalize (newSlot s c b).2 = w at *
  obtain ⟨hk, hn, hb, hwc, hen, hsteps, hfinal, hwait⟩ : r.k = c.k ∧ r.n = c.n ∧ r.b = b ∧ r.wc = c.wc ∧
      r.enabled = rdB s Reg.DLS.DLS_CTRL 0 ∧ r.steps = 0 ∧ r.final = false ∧ r.entered = none := by
    rw [hnew]
    exact ⟨rfl, rfl, rfl, rfl, rfl, rfl, rfl, rfl⟩
  rw [hk, hn, hb, hclk] at hslot
  by_cases hfree : enters w r = true
  · rw [if_pos hfree] at hslot
    exact ⟨_, _, hexec, hslot, hen, hsteps, hfinal, hwc, .inr rfl, fun _ _ _ => rfl, hmem⟩
  · rw [if_neg hfree] at hslot
    refine ⟨_, _, hexec, hslot, hen, hsteps, hfinal, hwc, .inl hwait, fun hempty hidle hon => absurd ?_ hfree, hmem⟩
    rw [keptSlots_nil _ hempty] at hring
    exact enters_alone hring (by rw [hbusy, hclk]; exact hidle) (hen.trans hon) hfinal hwait

/-- Settles O31: the step that completes is finishStep's, in a slot that stands in the ring with its contents not final. -/
theorem compositionStepCompletes : Obligations.CompositionStepCompletes := by
  refine ⟨fun s us hlit hnone => compositionStepDone_none us hlit hnone, fun s r c t0 hlit hband hctx hstart hstall =>
    ⟨fun h us => compositionStepDone_waits hlit hband hctx hstart us h, fun hdue hopen => ?_⟩⟩
  obtain ⟨hin, hnotFinal⟩ := inFlight_slot hband
  obtain ⟨q, hslot, hsteps, hfinal⟩ := ringSlot_finishStep c hin hnotFinal
  exact ⟨_, q, compositionStepDone_finishes hlit hband hctx hstart hstall hdue hopen, hslot, hsteps, hfinal,
    sameMemory_of_keep (finishStep_keep s c r)⟩

/-- Settles O32: a final band is judged as it is; a late one has lateBand's flags and count when finalise replaces its slot. -/
theorem bandJudged : Obligations.BandJudged := by
  refine fun s k n b c r hlit hctx hslot => ⟨bandDeadline_idle hlit hctx hslot, fun hin hdue hopen => ?_⟩
  have hexec := bandDeadline_judges hlit hctx hslot hin hdue hopen
  refine ⟨fun hfinal hall hen => by rw [hexec, judgeBand_final hall hen hfinal], fun hnotFinal hall hen => ?_⟩
  obtain ⟨rfl, rfl, rfl⟩ := ringSlot_key hslot
  obtain ⟨hring, hcount⟩ := lateBand_counts s c r
  have hmem : SameMemory s (judgeBand s c r) := sameMemory_of_keep (judgeBand_keep s c r)
  rw [judgeBand_late hall hen hnotFinal] at hexec hmem
  have hsubst : (finalSlot (lateSlot s c r)).subst = (lateSlot s c r).subst := finalSlot_composed hall hen
  refine ⟨_, _, hexec, ringSlot_finalise (r := lateSlot s c r) c ?_, rfl, rfl, rfl, fun cx hfirst hlast => ?_, fun cx hdone => ?_, ?_,
    hmem⟩
  · change (ringSlot _ r.k r.n r.b).isSome = true
    rw [ringSlot_of_ring hring, hslot]
    rfl
  · rw [hsubst, lateSlot_flags, decide_eq_true ⟨hfirst, hlast⟩, Bool.true_or]
  · rw [hsubst, lateSlot_flags, decide_eq_false (by omega), Bool.false_or]
  · rw [rd_finalise _ _ _ _ (by decide), hcount]

/-- Settles O33: an accepted write starts a fill or notes that it is ignored; a fill at its end is one run of writes to the store. -/
theorem groundsheetFill : Obligations.GroundsheetFill := by
  refine ⟨fun s a v hawake hacc hgo => ⟨fun hidle => ?_, fun hbusy => ?_⟩, fun s v next stop at_ hlit hfill =>
    ⟨fun hend => ⟨_, gsFillDone_ends hlit hfill hend, rfl, fun i hfrom hto => ?_, fun i hout => ?_, ?_, fun b hb => ?_,
      sameMemory_of_stores rfl rfl⟩, gsFillDone_waits hlit hfill⟩⟩
  · refine ⟨_, coreClk s, gsFillGo_starts hawake hacc hgo hidle, ?_, ?_, ?_, fun b hb => ?_,
      sameMemory_of_stores (touchSession_mem ..) (touchSession_hostMem ..)⟩
    · rw [touchSession_dls, fillStarted]
    · rw [rd_touchSession, rd_fillStarted, if_pos rfl]
    · rw [touchSession_dls, fillStarted]
    · rw [rd_touchSession, rd_fillStarted, if_neg (by simpa using hb)]
  · refine ⟨_, gsFillGo_ignored hawake hacc hgo hbusy, touchSession_dls .., ?_, fun b hb => ?_,
      sameMemory_of_stores (touchSession_mem ..) (touchSession_hostMem ..)⟩
    · rw [rdB, rd_touchSession, rd_wrB, if_pos rfl, bit_setBit_same _ _ _ (by decide)]
    · rw [rd_touchSession, rd_wrB, if_neg (by simpa using hb)]
  · obtain ⟨hword, herr⟩ := fillEnded_words s v next stop i
    rw [hword, herr, if_pos ⟨hfrom, hto⟩, if_pos ⟨hfrom, hto⟩]
    exact ⟨rfl, rfl⟩
  · obtain ⟨hword, herr⟩ := fillEnded_words s v next stop i
    rw [hword, herr, if_neg (by omega), if_neg (by omega)]
    exact ⟨rfl, rfl⟩
  · rw [rdB, rd_fillEnded, if_pos rfl, bit_setBit_same _ _ _ (by decide)]
  · rw [rd_fillEnded, if_neg (by simpa using hb)]

end

section
/-! SUPPORT. Pitch words (R210, R211): what the fields of an instruction's word read as. -/

namespace Sys2Proof.Machine

section
variable {v w lo len : Nat} (x : BitVec v) (y : BitVec w)

/-- A field at or above the low part of a joined word lies in its high part. -/
theorem extractLsb'_append_past (h : w ≤ lo) : (BitVec.append x y).extractLsb' lo len = x.extractLsb' (lo - w) len :=
  BitVec.extractLsb'_append_eq_of_le h

theorem extractLsb'_append_low : (BitVec.append x y).extractLsb' 0 w = y := BitVec.extractLsb'_append_eq_right

/-- A bit at or above the low part of a joined word lies in its high part. -/
theorem getLsbD_append_past (h : w ≤ lo) : (BitVec.append x y).getLsbD lo = x.getLsbD (lo - w) :=
  BitVec.getLsbD_append.trans (if_neg (Nat.not_lt.mpr h))

theorem getLsbD_append_bit1 (b : Bool) : (BitVec.append x (bit1 b)).getLsbD 0 = b := by
  refine BitVec.getLsbD_append.trans ?_
  cases b <;> rfl

end

/-- The fields read from an instruction's word are its own: each is reached past the parts below it. -/
theorem pitchFields_encodePitch (op : PitchOp) : pitchFields (encodePitch op) = some op := by
  cases op with
  | nop | endloop | close | signal | seqEnd => rfl
  | set f | add f | loop n | waitBand f | waitTime t | waitEvent l t | send f =>
    simp only [pitchFields, encodePitch, pbit, HAppend.hAppend, extractLsb'_append_past, extractLsb'_append_low,
      getLsbD_append_past, getLsbD_append_bit1, BitVec.extractLsb'_eq_self, BitVec.toNat_ofNat, Nat.reducePow, Nat.reduceMod,
      Nat.reduceLeDiff, Nat.reduceAdd, Nat.reduceSub, le_refl]

/-- A word holds an instruction exactly where its fields are the instruction's and it is the instruction's word. -/
theorem decodePitch_eq_some {w : BitVec 64} {op : PitchOp} :
    decodePitch w = some op ↔ pitchFields w = some op ∧ encodePitch op = w := by
  unfold decodePitch
  split
  next o ho =>
    rw [ho, Option.some.injEq]
    constructor
    · intro h
      split at h
      next hw => exact ⟨Option.some.inj h, Option.some.inj h ▸ hw⟩
      next => cases h
    · rintro ⟨rfl, hw⟩
      rw [if_pos hw]
  next hnone => simp [hnone]

end Sys2Proof.Machine
end

section
/-! SUPPORT. Runs of pitch tables (R206, R212, R222, R321): what replacing a port's run leaves alone, and when an
instruction acts. -/

namespace Sys2Proof.Machine

/-! ### Ports -/

theorem port_of_ports {s t : State} (h : t.ports = s.ports) (q : Nat) : port t q = port s q := by simp only [port, h]

@[simp] theorem port_touchSession (s : State) (a : Agent) (pg : Nat) (t : State) (q : Nat) :
    port (touchSession s a pg t) q = port t q := port_of_ports (touchSession_ports ..) q

theorem otherPorts_setPort (s : State) (p : Nat) (x : TilePort) : OtherPorts p s (setPort s p x) :=
  fun _ h => port_setPort_other _ _ _ _ h

theorem OtherPorts.of_ports {p : Nat} {s t : State} (h : t.ports = s.ports) : OtherPorts p s t := fun q _ => port_of_ports h q

theorem OtherPorts.trans {p : Nat} {s t u : State} (h : OtherPorts p s t) (k : OtherPorts p t u) : OtherPorts p s u :=
  fun q hq => (k q hq).trans (h q hq)

/-! ### Words met in error (R321) -/

theorem noteUpset_ports (s : State) (u : Upset) : (noteUpset s u).ports = s.ports := by
  unfold noteUpset
  dsimp only
  split
  · split <;> simp only [raiseE_ports, wr_ports, bump_ports]
  · rfl

theorem noteUpsets_ports (s : State) (us : List Upset) : (noteUpsets s us).ports = s.ports :=
  foldl_keep (fun s => s.ports) _ noteUpset_ports _ s

/-- The registers in which words met in error are noted. -/
abbrev upsetRegs : List Nat := [Reg.TWN.FLT_SRAM_CORR, Reg.TWN.FLT_SRAM_UNCORR, Reg.TWN.FLT_LAST]

theorem rd_noteUpset (s : State) (u : Upset) : RegsExcept upsetRegs s (noteUpset s u) := by
  intro a ha
  simp only [List.mem_cons, List.not_mem_nil, or_false, not_or] at ha
  obtain ⟨hcorr, huncorr, hlast⟩ := ha
  unfold noteUpset
  dsimp only
  split
  · rw [rd_raiseE]
    split
    · exact rd_bump_other _ huncorr
    · rw [rd_wr_other _ _ _ _ hlast, rd_bump_other _ huncorr]
  · exact rd_bump_other _ hcorr

theorem rd_noteUpsets (s : State) (us : List Upset) : RegsExcept upsetRegs s (noteUpsets s us) := fun a ha =>
  foldl_keep (fun s => rd s a) _ (fun s u => rd_noteUpset s u a ha) _ s

/-! ### The run of a port -/

theorem runOf_eq_some {s : State} {p : Nat} {r : SeqRun} : runOf s p = some r ↔ (port s p).run = some r ∧ r.ended = false := by
  unfold runOf
  split
  next q hq =>
    rw [hq, Option.some.injEq]
    split
    next hend =>
      refine ⟨fun h => (Option.some_ne_none r h.symm).elim, ?_⟩
      rintro ⟨rfl, h⟩
      rw [h] at hend
      cases hend
    next hend =>
      rw [Option.some.injEq]
      exact ⟨fun h => ⟨h, by rw [← h]; exact Bool.not_eq_true _ ▸ hend⟩, And.left⟩
  next hnone => simp [hnone]

/-- No word that the run comes to is in error, or it comes to none: the run alone is replaced. -/
theorem setRun_clean {s : State} {p : Nat} {q : SeqRun} (h : ∀ u ∈ (port s p).errs, u.word ≠ q.pc) :
    setRun s p q = setPort s p { port s p with run := some q } := by
  have hnone : ((port s p).errs.filter fun u => u.word == q.pc) = [] := List.filter_eq_nil_iff.mpr (by simpa using h)
  unfold setRun
  split
  · rw [hnone]
    rfl
  · rfl

theorem runOf_setRun {s : State} {p : Nat} {q : SeqRun} (h : ∀ u ∈ (port s p).errs, u.word ≠ q.pc) (hend : q.ended = false) :
    runOf (setRun s p q) p = some q :=
  runOf_eq_some.mpr ⟨by rw [setRun_clean h, port_setPort_same], hend⟩

/-- The words in error among those that the run comes to. -/
def wordsMet (s : State) (p : Nat) (q : SeqRun) : List Upset := (port s p).errs.filter fun u => u.word == q.pc

/-- The run is replaced and the words in error that it comes to are noted. -/
def runNoted (s : State) (p : Nat) (q : SeqRun) : State :=
  noteUpsets (setPort s p { port s p with run := some q }) (wordsMet s p q)

/-- What replacing a run can do: the run alone changes, or the words in error are noted, and an uncorrectable one stops it. -/
theorem setRun_cases (s : State) (p : Nat) (q : SeqRun) : setRun s p q = setPort s p { port s p with run := some q } ∨
    setRun s p q = runNoted s p q ∨ setRun s p q = stopRun (runNoted s p q) p := by
  unfold setRun
  split
  · dsimp only
    split
    · exact .inr (.inr rfl)
    · exact .inr (.inl rfl)
  · exact .inl rfl

theorem setRun_lost {s : State} {p : Nat} {q : SeqRun} {u : Upset} (hu : u ∈ (port s p).errs) (hword : u.word = q.pc)
    (hstruct : u.struct = 7) (huncorr : u.uncorr = true) (hwait : q.wait = .none) (hend : q.ended = false) :
    setRun s p q = stopRun (runNoted s p q) p := by
  have hmet : lostIn (wordsMet s p q) 7 = true := by
    unfold lostIn wordsMet
    exact List.any_eq_true.mpr ⟨u, List.mem_filter.mpr ⟨hu, by simp [hword]⟩, by simp [hstruct, huncorr]⟩
  unfold setRun
  rw [if_pos (by simp [hwait, hend])]
  exact if_pos hmet

theorem port_runNoted (s : State) (p : Nat) (q : SeqRun) (i : Nat) :
    port (runNoted s p q) i = if i = p then { port s p with run := some q } else port s i := by
  rw [runNoted, port_of_ports (noteUpsets_ports ..), port_setPort]

/-- A port whose sequencer alone moves on: of the port the run, the SEND in progress and the stop change at most, of the registers
those alone in which words met in error are noted, and no other port. -/
structure RunStep (p : Nat) (s t : State) : Prop where
  port : ∃ run send stopped, port t p = { port s p with run := run, send := send, stopped := stopped }
  others : OtherPorts p s t
  regs : RegsExcept upsetRegs s t

theorem RunStep.refl (p : Nat) (s : State) : RunStep p s s := ⟨⟨_, _, _, rfl⟩, fun _ _ => rfl, fun _ _ => rfl⟩

theorem runStep_setRun (s : State) (p : Nat) (q : SeqRun) : RunStep p s (setRun s p q) := by
  have hregs : RegsExcept upsetRegs s (runNoted s p q) := fun a ha => (rd_noteUpsets _ _ a ha).trans (rd_setPort ..)
  have hport (i : Nat) (hi : i ≠ p) : Machine.port (runNoted s p q) i = Machine.port s i := by rw [port_runNoted, if_neg hi]
  have hown : Machine.port (runNoted s p q) p = { Machine.port s p with run := some q } := by rw [port_runNoted, if_pos rfl]
  rcases setRun_cases s p q with h | h | h <;> rw [h]
  · exact ⟨⟨_, _, _, port_setPort_same ..⟩, otherPorts_setPort _ _ _, fun _ _ => rd_setPort ..⟩
  · exact ⟨⟨_, _, _, hown⟩, hport, hregs⟩
  · refine ⟨⟨none, none, true, ?_⟩, fun i hi => (port_setPort_other _ _ _ _ hi).trans (hport i hi),
      fun a ha => (rd_setPort ..).trans (hregs a ha)⟩
    rw [stopRun, port_setPort_same, hown]

/-! ### A pulse of an event line leaves a run that holds at no wait alone (R367) -/

/-- A store's value at a key reads as its image where the image is not what an unlisted key reads as. -/
theorem Store.get_mapV_of_ne {α : Type} [DecidableEq α] (d : Nat → α) (f : α → α) (m : Store α) {k : Nat}
    (hd : f (d k) = d k) (h : f (Store.get d m k) ≠ d k) : Store.get d (Store.mapV d f m) k = f (Store.get d m k) := by
  induction m with
  | nil => exact hd.symm
  | cons e m ih =>
    obtain ⟨j, v⟩ := e
    simp only [Store.get, Store.mapV] at h ⊢
    by_cases hj : j = k
    · subst hj
      rw [if_pos rfl] at h ⊢
      rw [if_neg h, Store.get, if_pos rfl]
    · rw [if_neg hj] at h ⊢
      split
      · exact ih h
      · rw [Store.get, if_neg hj, ih h]

theorem notify_ports (s : State) (l : Nat) :
    (notify s l).ports = Store.mapV (fun _ => TilePort.reset) (TilePort.seePulse l) s.ports :=
  congrArg (Store.mapV _ _) (foldl_keep (fun s => s.ports) _ (fun s _ => by split <;> rfl) _ s)

theorem seePulse_running {x : TilePort} {r : SeqRun} (l : Nat) (hrun : x.run = some r) (hwait : r.wait = .none) :
    x.seePulse l = x := by
  simp only [TilePort.seePulse, hrun, hwait]

theorem port_pulse_running {s : State} {p : Nat} {r : SeqRun} (l : Nat) (hrun : (port s p).run = some r) (hwait : r.wait = .none) :
    port (pulse s l) p = port s p := by
  rcases pulse_cases s l with h | h | ⟨e, h⟩ <;> rw [h]
  · rw [port_raiseE, port_wr, port_bump]
  · have hsame : (port s p).seePulse l = port s p := seePulse_running l hrun hwait
    have hne : port s p ≠ TilePort.reset := fun heq => by rw [heq] at hrun; cases hrun
    rw [port, notify_ports]
    exact (Store.get_mapV_of_ne _ _ s.ports (by rfl) (hsame.symm ▸ hne : (port s p).seePulse l ≠ _)).trans hsame

/-! ### When an instruction acts (R212) -/

theorem wall_self (s : State) : wall s s = .next s := by simp [wall, live]

theorem issue_next {s : State} {p : Nat} {op : PitchOp} {r : SeqRun} {f : SeqRun → State} (hlit : Lit s) (h : Issues s p op r) :
    wall s (issue s p op f) = .next (f r) := by
  obtain ⟨hrun, hwait, hword⟩ := h
  rw [wall_lit hlit, issue, hrun]
  exact congrArg _ (if_pos ⟨by rw [hwait]; rfl, hword⟩)

theorem issue_elsewhere {s : State} {p : Nat} {op : PitchOp} {f : SeqRun → State} (h : ∀ r, ¬ Issues s p op r) :
    wall s (issue s p op f) = .next s := by
  have hsame : issue s p op f = s := by
    unfold issue
    split
    next r hrun => exact if_neg fun hact => h r ⟨hrun, eq_of_beq hact.1, hact.2⟩
    next => rfl
  rw [hsame, wall_self]

/-- The innermost loop goes round again: its count decrements and the word after its LOOP is next. -/
theorem endloop_iterates {s : State} {p : Nat} {r : SeqRun} {n a : Nat} {cs as : List Nat} (hlit : Lit s)
    (h : Issues s p .endloop r) (hlc : r.lc = (n + 1) :: cs) (hret : r.ret = a :: as) : exec (.endloop p) s =
      .next (setRun s p { r with pc := a, nomT := r.nomT + toClockPs, lc := n :: cs }) := by
  refine (issue_next hlit h).trans ?_
  rw [hlc, hret]
  dsimp only
  rw [if_neg (Nat.succ_ne_zero n), ← hret]
  rfl

/-- The innermost loop is done: its level closes and the next word follows. -/
theorem endloop_closes {s : State} {p : Nat} {r : SeqRun} {a : Nat} {cs as : List Nat} (hlit : Lit s)
    (h : Issues s p .endloop r) (hlc : r.lc = 0 :: cs) (hret : r.ret = a :: as) : exec (.endloop p) s =
      .next (setRun s p { r with pc := r.pc + 1, nomT := r.nomT + toClockPs, lc := cs, ret := as }) := by
  refine (issue_next hlit h).trans ?_
  rw [hlc, hret]
  rfl

end Sys2Proof.Machine
end

section
/-! SUPPORT. Waits of a pitch table (R208, R212): what a release does while a port's run holds, and the phase mark it queues. -/

namespace Sys2Proof.Machine

/-! ### Phase marks (R234) -/

/-- The state once the mark of the run's phase has been queued, unless the pair discards it. -/
def markQueued (s : State) (p : Nat) (r : SeqRun) : State :=
  if marksDiscarded s r.k r.n then s else queueT (markFrame s p r).2 p false (markFrame s p r).1

/-- Class T of the port then: the mark is behind its frames unless the pair discards it or the port is off (R255, R302). -/
def markedQueue (s : State) (p : Nat) (r : SeqRun) : List TFrame :=
  if marksDiscarded s r.k r.n = true ∨ portOn s p = false then (port s p).tq
  else (port s p).tq ++ [⟨false, (markFrame s p r).1, s.time.uptime, tileClk s⟩]

/-- A mark takes a number of its type and a place in class T of its own port alone. -/
theorem markQueued_port (s : State) (p : Nat) (r : SeqRun) : OtherPorts p s (markQueued s p r) ∧
    ∃ fidx, port (markQueued s p r) p = { port s p with fidx := fidx, tq := markedQueue s p r } := by
  have hon : portOn (markFrame s p r).2 p = portOn s p := by simp only [portOn, rdB, markFrame, takeFidx, rd_setPort]
  have hother : OtherPorts p s (markFrame s p r).2 := otherPorts_setPort _ _ _
  have hown : ∃ fidx, port (markFrame s p r).2 p = { port s p with fidx := fidx } := ⟨_, port_setPort_same ..⟩
  obtain ⟨fidx, hown⟩ := hown
  unfold markQueued markedQueue
  cases hmark : marksDiscarded s r.k r.n with
  | true => exact ⟨fun _ _ => rfl, _, rfl⟩
  | false =>
    rw [if_neg (by decide), queueT, hon]
    cases portOn s p with
    | false => exact ⟨hother, fidx, hown⟩
    | true =>
      refine ⟨hother.trans (otherPorts_setPort _ _ _), fidx, (port_setPort_same ..).trans ?_⟩
      rw [hown]
      rfl

/-! ### Releases -/

section
variable {s : State} {p : Nat} {r : SeqRun} (hlit : Lit s) (hrun : runOf s p = some r)
include hlit hrun

theorem waitBandRelease_holding {b ofs : Nat} (hwait : r.wait = .band b ofs) : exec (.waitBandRelease p) s = .next
    (if bandReady s (runCtx s r) b && reached s ((runCtx s r).egress b + 1000 * ofs) then setRun s p r.release else s) := by
  change execWaitBandRelease p s = _
  rw [execWaitBandRelease, wall_lit hlit, hrun]
  dsimp only
  rw [hwait]

theorem waitTimeRelease_holding {t : Nat} (hwait : r.wait = .time t) : exec (.waitTimeRelease p) s = .next
    (if reached s ((slotStart s r.k r.n + t) * 1000) then setRun s p r.release else s) := by
  change execWaitTimeRelease p s = _
  rw [execWaitTimeRelease, wall_lit hlit, hrun]
  dsimp only
  rw [hwait]

theorem waitEventRelease_holding {l tmo since : Nat} {seen : Bool} (hwait : r.wait = .event l tmo since seen) :
    exec (.waitEventRelease p) s = .next (if seen then setRun s p r.release else s) := by
  change execWaitEventRelease p s = _
  rw [execWaitEventRelease, wall_lit hlit, hrun]
  dsimp only
  rw [hwait]
  cases seen <;> rfl

theorem waitEventTimeout_holding {l tmo since : Nat} (hwait : r.wait = .event l tmo since false) :
    exec (.waitEventTimeout p) s = .next
      (if since * 2 + tmo < s.time.uptime * 2 then bump (setRun s p r.release) (Reg.TP.EVT_TIMEOUT p) else s) := by
  change execWaitEventTimeout p s = _
  rw [execWaitEventTimeout, wall_lit hlit, hrun]
  dsimp only
  rw [hwait]

theorem closeRelease_holding (hwait : r.wait = .close) : exec (.closeRelease p) s = .next
    (if reached s (runCtx s r).close then setRun (markQueued s p r) p r.release else s) := by
  change execCloseRelease p s = _
  rw [execCloseRelease, wall_lit hlit, hrun]
  dsimp only
  rw [hwait]
  rfl

end

end Sys2Proof.Machine
end

section
/-! SUPPORT. Pixel frames (R209, R213, R214): what a SEND leaves in its port, when a frame starts, and what a frame that is
skipped or sent leaves alone. -/

namespace Sys2Proof.Machine

/-! ### Stores of ports -/

theorem Store.insert_insert {α : Type} (m : Store α) (k : Nat) (v w : α) :
    Store.insert k w (Store.insert k v m) = Store.insert k w m := by
  induction m with
  | nil => simp [Store.insert]
  | cons e m ih =>
    obtain ⟨j, x⟩ := e
    rcases lt_trichotomy k j with h | h | h
    · simp [Store.insert, h]
    · simp [Store.insert, h]
    · simp [Store.insert, Nat.lt_asymm h, h.ne, ih]

theorem Store.any_insert {α : Type} (m : Store α) (k : Nat) (v : α) : ((Store.insert k v m).any fun e => e.1 == k) = true := by
  induction m with
  | nil => simp [Store.insert]
  | cons e m ih =>
    obtain ⟨j, x⟩ := e
    simp only [Store.insert]
    split
    · simp
    · split <;> simp [ih]

theorem ne_reset_of_run {y : TilePort} {r : SeqRun} (h : y.run = some r) : y ≠ TilePort.reset := by
  rintro rfl
  cases h

/-- Of two replacements of a port that runs the second one stays. -/
theorem setPort_setPort (s : State) (p : Nat) {y z : TilePort} {r q : SeqRun} (hy : y.run = some r) (hz : z.run = some q) :
    setPort (setPort s p y) p z = setPort s p z := by
  simp only [setPort, Store.set, if_neg (ne_reset_of_run hy), if_neg (ne_reset_of_run hz), Store.insert_insert]

/-! ### The transmitter (R258) -/

/-- The registers in which a port counts what it puts on the wire. -/
abbrev txRegs (p : Nat) : List Nat := [Reg.TP.TX_BYTES_LO p, Reg.TP.TX_BYTES_HI p, Reg.TP.TX_LINK_DOWN p]

theorem startTx_port (s : State) (p : Nat) (cls : TxClass) (htl : List Byte) (se : Nat) (mq : Option Nat) :
    ∃ bytes stop, port (startTx s p cls htl se mq) p =
      { port s p with tx := some ⟨cls, bytes, stop, se, mq⟩, txFree := stop } := by
  unfold startTx
  dsimp only
  split
  · exact ⟨_, _, by rw [port_bump64, port_setPort_same]⟩
  · exact ⟨_, _, by rw [port_bump, port_setPort_same]⟩

theorem rd_startTx (s : State) (p : Nat) (cls : TxClass) (htl : List Byte) (se : Nat) (mq : Option Nat) :
    RegsExcept (txRegs p) s (startTx s p cls htl se mq) := by
  intro a ha
  simp only [List.mem_cons, List.not_mem_nil, or_false, not_or] at ha
  obtain ⟨hlo, hhi, hdown⟩ := ha
  unfold startTx
  dsimp only
  split
  · rw [rd_bump64_other _ _ hlo hhi, rd_setPort]
  · rw [rd_bump_other _ hdown, rd_setPort]

/-! ### Cells read for a frame (R196, R198) -/

/-- The registers in which reading a frame's cells is noted. -/
abbrev cellRegs (p : Nat) : List Nat :=
  [Reg.TP.CELL_MISS p, Reg.DLS.PORT_LAG, Reg.DLS.LAST_PORT_LAG, Reg.DLS.GS_ECC_UNCORR, Reg.DLS.GS_ECC_CORR]

theorem not_mem_cellRegs {p b : Nat} (h : Reg.TP.PFRAMES_LO p ≤ b) : b ∉ cellRegs p := by
  simp only [List.mem_cons, List.not_mem_nil, or_false, not_or, Reg.TP.PFRAMES_LO, Reg.TP.CELL_MISS, Reg.DLS.PORT_LAG,
    Reg.DLS.LAST_PORT_LAG, Reg.DLS.GS_ECC_UNCORR, Reg.DLS.GS_ECC_CORR] at h ⊢
  omega

/-- Reading cells changes no port, and of the registers those alone in which it is noted. -/
structure CellsRead (p : Nat) (s t : State) : Prop where
  ports : t.ports = s.ports
  regs : RegsExcept (cellRegs p) s t

theorem CellsRead.refl (p : Nat) (s : State) : CellsRead p s s := ⟨rfl, fun _ _ => rfl⟩

theorem CellsRead.trans {p : Nat} {s t u : State} (h : CellsRead p s t) (k : CellsRead p t u) : CellsRead p s u :=
  ⟨k.ports.trans h.ports, fun a ha => (k.regs a ha).trans (h.regs a ha)⟩

theorem cellsRead_raiseE (p : Nat) (s : State) (pg b : Nat) : CellsRead p s (raiseE s pg b) :=
  ⟨raiseE_ports .., fun _ _ => rd_raiseE ..⟩

theorem CellsRead.raised {p : Nat} {s t : State} (h : CellsRead p s t) (c : Prop) [Decidable c] (pg b : Nat) :
    CellsRead p s (if c then raiseE t pg b else t) := by
  split
  · exact h.trans (cellsRead_raiseE ..)
  · exact h

theorem cellsRead_wr {p a : Nat} (s : State) (v : Word) (ha : a ∈ cellRegs p) : CellsRead p s (wr s a v) :=
  ⟨wr_ports .., fun _ hb => rd_wr_other _ _ _ _ fun h => hb (h ▸ ha)⟩

theorem cellsRead_gsRead (p : Nat) (s : State) (cell : Nat) (e : Ecc) : CellsRead p s (gsRead s cell e).2 := by
  have hfill : CellsRead p s (settleFill s) := by
    unfold settleFill
    split
    · exact ⟨rfl, fun _ _ => rfl⟩
    · exact .refl p s
  have hmet : CellsRead p s { settleFill s with dls := { (settleFill s).dls with
      gsErr := Store.set gsOk (settleFill s).dls.gsErr cell (gsMeets (settleFill s) cell e) } } :=
    hfill.trans ⟨rfl, fun _ _ => rfl⟩
  unfold gsRead
  dsimp only
  split
  · exact hmet.trans ((cellsRead_wr _ _ (by simp)).trans (cellsRead_raiseE ..))
  · exact hmet.trans (cellsRead_wr _ _ (by simp))
  · exact hmet

theorem cellsRead_readCell (s : State) (c : PhaseCtx) (p b k j : Nat) (cx : Option Nat) (cap : Bool) (us : List Upset) :
    CellsRead p s (readCell s c p b k j cx cap us).2 := by
  unfold readCell
  cases cx with
  | none => exact cellsRead_wr _ _ (by simp)
  | some cx =>
    dsimp only
    generalize hlag : (if reached s (c.release b + 800) = true then
      raiseE (wr (bump s Reg.DLS.PORT_LAG) Reg.DLS.LAST_PORT_LAG (w32 (2 ^ 31 + p))) Page.DLS 3 else s) = u
    have hu : CellsRead p s u := by
      rw [← hlag]
      split
      · exact (cellsRead_wr _ _ (by simp)).trans ((cellsRead_wr _ _ (by simp)).trans (cellsRead_raiseE ..))
      · exact .refl p s
    have hg (q : Bool) (cell : Nat) (e : Ecc) : CellsRead p s (if q then gsRead u cell e else (gsWord u cell, u)).2 := by
      split
      · exact hu.trans (cellsRead_gsRead ..)
      · exact hu
    split <;> exact hg _ _ _

theorem cellsRead_readCells (c : PhaseCtx) (p b k : Nat) (cap : Bool) (us : List Upset) (cols : List (Option Nat))
    (s : State) (j : Nat) :
    CellsRead p s (readCells s c p b k cap us j cols).2 := by
  induction cols generalizing s j with
  | nil => exact .refl p s
  | cons cx cols ih => exact (cellsRead_readCell ..).trans (ih _ _)

/-! ### SEND (R213) -/

/-- What starting a frame does, step by step: its cells are read, it goes on the wire, the run goes on, and PFRAMES counts. -/
theorem sendFrame_steps (s : State) (p : Nat) (r : SeqRun) (f : PixSend) (us : List Upset) : ∃ u acc segs lastP htl lag,
    CellsRead p (noteUpsets s us) u ∧ sendFrame s p r f us =
      peak (bump64 (setRun (startTx (setPort u p { port u p with send := none, acc := acc, segs := segs, lastP := lastP })
        p .p htl 0 none) p r.release) (Reg.TP.PFRAMES_LO p) (Reg.TP.PFRAMES_HI p) 1) (Reg.TP.START_LAG_MAX p) lag := by
  unfold sendFrame
  dsimp only
  refine ⟨_, _, _, _, _, _, ?_, rfl⟩
  exact (cellsRead_readCells ..).raised ..

/-- A frame that starts: its port's SEND is over and the frame is on the wire, the run is at the next word, and PFRAMES counts. -/
theorem sendFrame_leaves {s : State} {p : Nat} {r : SeqRun} (f : PixSend) (hend : r.ended = false)
    (hclean : ∀ u ∈ (port s p).errs, u.word ≠ r.pc + 1) : ∃ t x, sendFrame s p r f [] = t ∧ (port t p).send = none ∧
      runOf t p = some r.release ∧ (port t p).tx = some x ∧ x.cls = .p ∧
      rd64 t (Reg.TP.PFRAMES_LO p) (Reg.TP.PFRAMES_HI p) =
        (rd64 s (Reg.TP.PFRAMES_LO p) (Reg.TP.PFRAMES_HI p) + 1) % 2 ^ 64 := by
  obtain ⟨u, acc, segs, lastP, htl, lag, hread, hframe⟩ := sendFrame_steps s p r f []
  have hport := port_of_ports hread.ports p
  change port u p = port s p at hport
  obtain ⟨bytes, stop, hwire⟩ :=
    startTx_port (setPort u p { port u p with send := none, acc := acc, segs := segs, lastP := lastP }) p .p htl 0 none
  have hregs := rd_startTx (setPort u p { port u p with send := none, acc := acc, segs := segs, lastP := lastP }) p .p htl 0 none
  generalize startTx (setPort u p _) p .p htl 0 none = w at hframe hwire hregs
  rw [port_setPort_same, hport] at hwire
  rw [setRun_clean (by rw [hwire]; exact hclean), hwire] at hframe
  have hsame (b : Nat) (hcells : b ∉ cellRegs p) (htx : b ∉ txRegs p) : rd w b = rd s b :=
    (hregs b htx).trans ((rd_setPort ..).trans (hread.regs b hcells))
  have hlo : rd w (Reg.TP.PFRAMES_LO p) = rd s (Reg.TP.PFRAMES_LO p) := hsame _ (not_mem_cellRegs (by simp)) (by simp)
  have hhi : rd w (Reg.TP.PFRAMES_HI p) = rd s (Reg.TP.PFRAMES_HI p) := hsame _ (not_mem_cellRegs (by simp)) (by simp)
  refine ⟨_, ⟨.p, bytes, stop, 0, none⟩, hframe, ?_, ?_, ?_, rfl, ?_⟩
  · rw [port_peak, port_bump64, port_setPort_same]
  · exact runOf_eq_some.mpr ⟨by rw [port_peak, port_bump64, port_setPort_same], hend⟩
  · rw [port_peak, port_bump64, port_setPort_same]
  · rw [rd64, rdN, rdN, rd_peak_other _ _ (by simp), rd_peak_other _ _ (by simp)]
    refine (rd64_bump64_same _ 1 (by simp)).trans ?_
    simp only [rd64, rdN, rd_setPort, hlo, hhi]

/-! ### A frame in the guy band (R209) -/

/-- A skipped frame: its port's SEND is over, the run is at the next word, and the frame and its cells count. -/
theorem skipFrame_leaves {s : State} {p : Nat} {r : SeqRun} (f : PixSend) (hend : r.ended = false)
    (hclean : ∀ u ∈ (port s p).errs, u.word ≠ r.pc + 1) : (port (skipFrame s p r f) p).send = none ∧
      runOf (skipFrame s p r f) p = some r.release ∧ (port (skipFrame s p r f) p).tx = (port s p).tx ∧
      (∀ b, rd (skipFrame s p r f) b = if b = Reg.TP.GUY_SKIP_CELLS p then w32 (min 0xFFFFFFFF (rdN s b + f.count))
        else if b = Reg.TP.GUY_SKIP p then plusOne (rd s b) else rd s b) ∧ OtherPorts p s (skipFrame s p r f) := by
  have hskip : ∃ acc, skipFrame s p r f = raiseE (bumpN (bump (setRun (setPort s p { port s p with
      send := none, skipped := true, acc := acc }) p r.release) (Reg.TP.GUY_SKIP p)) (Reg.TP.GUY_SKIP_CELLS p) f.count)
      (Page.TP p) 1 := ⟨_, rfl⟩
  obtain ⟨acc, hskip⟩ := hskip
  rw [setRun_clean (by rw [port_setPort_same]; exact hclean), port_setPort_same] at hskip
  rw [hskip]
  refine ⟨by simp, runOf_eq_some.mpr ⟨by simp, hend⟩, by simp, fun b => ?_, fun i hi =>
    by simp [port_setPort_other _ _ _ _ hi]⟩
  rw [rd_raiseE, rd_bumpN]
  split
  next h => subst h; rw [rdN, rd_bump_other _ (by simp), rd_setPort, rd_setPort]; rfl
  next =>
    split
    next h => subst h; rw [rd_bump_same, rd_setPort, rd_setPort]
    next h => rw [rd_bump_other _ h, rd_setPort, rd_setPort]

/-- A frame that its port drops as it starts: the SEND is over and the run is at the next word (R255). -/
theorem dropFrame_eq {s : State} {p : Nat} {r : SeqRun} (hrun : (port s p).run = some r)
    (hclean : ∀ u ∈ (port s p).errs, u.word ≠ r.pc + 1) : setRun (setPort s p { port s p with send := none }) p r.release =
      setPort s p { port s p with send := none, run := some r.release } := by
  rw [setRun_clean (by rw [port_setPort_same]; exact hclean), port_setPort_same]
  exact setPort_setPort s p (y := { port s p with send := none }) hrun rfl

/-! ### When a frame starts (R214, R256) -/

/-- The frame of the SEND in progress does not start yet: its clock has not come, the transmitter is busy, or a class T frame queued
before that clock goes first. -/
def frameWaits (s : State) (p : Nat) (f : PixSend) : Prop :=
  tileClk s < max f.start (port s p).txFree ∨ (port s p).tx.isSome = true ∨
    ∃ h l, (port s p).tq = h :: l ∧ h.clk < max f.start (port s p).txFree

theorem headFirst_iff {x : TilePort} {f : PixSend} : x.headFirst f = true ↔
    ∃ h l, x.tq = h :: l ∧ h.clk < max f.start x.txFree := by
  unfold TilePort.headFirst
  split
  next h l heq => simp [heq, TilePort.startAt]
  next heq => simp [heq]

theorem frameWaits_iff {s : State} {p : Nat} {f : PixSend} : (decide (tileClk s < (port s p).startAt f) || (port s p).tx.isSome ||
    (port s p).headFirst f) = true ↔ frameWaits s p f := by
  rw [Bool.or_eq_true, Bool.or_eq_true, headFirst_iff, decide_eq_true_iff, or_assoc]
  rfl

section
variable {s : State} {p : Nat} {r : SeqRun} {f : PixSend} (hlit : Lit s) (hrun : runOf s p = some r)
  (hsend : (port s p).send = some f) (us : List Upset)
include hlit hrun hsend

theorem pixelFrameStart_waits (h : frameWaits s p f) : exec (.pixelFrameStart p us) s = .next s := by
  change execPixelFrameStart p us s = _
  rw [execPixelFrameStart]
  rw [wall_lit hlit, hsend, hrun]
  exact congrArg _ (if_pos (frameWaits_iff.mpr h))

theorem pixelFrameStart_starts (h : ¬ frameWaits s p f) : exec (.pixelFrameStart p us) s = .next
    (if inGuy s p r then skipFrame s p r f else if portOn s p then sendFrame s p r f us
      else setRun (setPort s p { port s p with send := none }) p r.release) := by
  change execPixelFrameStart p us s = _
  rw [execPixelFrameStart]
  rw [wall_lit hlit, hsend, hrun]
  exact congrArg _ (if_neg (frameWaits_iff.not.mpr h))

end

end Sys2Proof.Machine
end

section
/-! SUPPORT. Restarts of a port's sequencer (R206, R207, R222, R388): what a restart without a pending swap leaves, and writes of
SEQ_CTRL. -/

namespace Sys2Proof.Machine

/-- The page of a tile port is none that a latch releases from its safe action (R388). -/
theorem latchReleased_tp {p : Nat} (hp : p < 256) : latchReleased (Page.TP p) = false := by
  have hlast : p + 256 < 512 := by omega
  have hinfo : pageInfo (Page.TP p) = some (.tp, 0x100, p) := by
    simp [pageInfo, pageDirectory, Page.TP, Nat.add_comm 256 p, hlast]
  rw [latchReleased, hinfo]
  rfl

/-! ### The steps of a restart (R207) -/

/-- A table that still runs at its restart counts as an overrun. -/
def overrunCounted (s : State) (p : Nat) : State :=
  if (runOf s p).isSome then raiseE (bump s (Reg.TP.OVERRUN p)) (Page.TP p) 2 else s

theorem overrunCounted_ports (s : State) (p : Nat) : (overrunCounted s p).ports = s.ports := by
  unfold overrunCounted
  split
  · rw [raiseE_ports, bump_ports]
  · rfl

theorem rd_overrunCounted_other (s : State) (p : Nat) : RegsExcept [Reg.TP.OVERRUN p] s (overrunCounted s p) := by
  intro b hb
  unfold overrunCounted
  split
  · rw [rd_raiseE, rd_bump_other _ (by simpa using hb)]
  · rfl

/-- Out of its safe action a port samples SEQ_CTRL (R222, R388). -/
def ctrlSampled (s : State) (p : Nat) : State :=
  if safe s (Page.TP p) then s else setPort s p { port s p with seqCtl := some (rd s (Reg.TP.SEQ_CTRL p)) }

/-- The port's registers of the phase clear for slot (k, n), with the words that its reads meet in error. -/
def phaseCleared (s : State) (p k n : Nat) (us : List Upset) : State :=
  setPort s p { port s p with
    last := some (k, n), lastAt := tileClk s, errs := us.filter fun u => u.struct == 7
    run := none, sends := 0, send := none, acc := [], skipped := false, stopped := false, segs := [] }

theorem restart_eq (s : State) (p k n : Nat) (us : List Upset) : restart s p k n us =
    startTable (phaseCleared (ctrlSampled (releaseSafe (applySwap (overrunCounted s p) p n) (Page.TP p)) p) p k n us) p k n := rfl

theorem applySwap_none {s : State} {p : Nat} (n : Nat) (h : (port s p).swap = none) : applySwap s p n = s := by
  simp only [applySwap, h]

/-- What a restart leaves for its table to start from: the port clear, out of its safe action, with no word in error. -/
structure Cleared (p k n : Nat) (s t : State) : Prop where
  regs : t.regs = (overrunCounted s p).regs
  calm : safe t (Page.TP p) = false
  others : OtherPorts p s t
  last : (port t p).last = some (k, n)
  send : (port t p).send = none
  run : (port t p).run = none
  errs : (port t p).errs = []
  active : (port t p).active = (port s p).active

theorem restart_cleared {s : State} {p : Nat} (k n : Nat) (hp : p < 256) (hswap : (port s p).swap = none)
    (hcause : safeCause s (Page.TP p) = false) : ∃ u, restart s p k n [] = startTable u p k n ∧ Cleared p k n s u := by
  have hports : (releaseSafe (overrunCounted s p) (Page.TP p)).ports = s.ports := by
    rw [releaseSafe_frame]
    exact overrunCounted_ports s p
  have hregs : (releaseSafe (overrunCounted s p) (Page.TP p)).regs = (overrunCounted s p).regs := by rw [releaseSafe_frame]
  have hcalm : safe (releaseSafe (overrunCounted s p) (Page.TP p)) (Page.TP p) = false := by
    refine safe_released (latchReleased_tp hp) (Eq.trans ?_ hcause)
    have hheader (b : Nat) (hb : b ≠ Reg.TP.OVERRUN p) := rd_overrunCounted_other s p b (by simpa using hb)
    rw [safeCause, safeCause, rdB, rdB, rdB, rdB, hheader, hheader] <;>
      simp only [Page.TP, Reg.HDR.PAGE_ERR, Reg.HDR.PAGE_CTRL, Reg.TP.OVERRUN] <;> omega
  rw [restart_eq, applySwap_none n (by rw [port_of_ports (overrunCounted_ports s p), hswap])]
  generalize releaseSafe (overrunCounted s p) (Page.TP p) = w at *
  have hsampled : ctrlSampled w p = setPort w p { port w p with seqCtl := some (rd w (Reg.TP.SEQ_CTRL p)) } :=
    if_neg (by rw [hcalm]; decide)
  refine ⟨_, rfl, ?_⟩
  rw [hsampled, phaseCleared, port_setPort_same, port_of_ports hports]
  exact {
    regs := hregs
    calm := hcalm
    others := OtherPorts.trans (.of_ports hports) ((otherPorts_setPort _ _ _).trans (otherPorts_setPort _ _ _))
    last := by rw [port_setPort_same]
    send := by rw [port_setPort_same]
    run := by rw [port_setPort_same]
    errs := by rw [port_setPort_same]; rfl
    active := by rw [port_setPort_same] }

/-! ### The table's start (R206, R222) -/

theorem seqOn_calm {s : State} {p : Nat} (h : safe s (Page.TP p) = false) : seqOn s p = rdB s (Reg.TP.SEQ_CTRL p) 0 := by
  rw [seqOn, h]
  rfl

/-- The run that a cleared port starts: its active table's from the entry word on, where EN of SEQ_CTRL is set. -/
def startedRun (s : State) (p k n : Nat) : Option SeqRun :=
  if rdB s (Reg.TP.SEQ_CTRL p) 0 then (activeTable s p).map fun x => freshRun k n x.1 else none

/-- A table that starts changes the run of its cleared port alone. -/
theorem Cleared.starts {p k n : Nat} {s u : State} (h : Cleared p k n s u) :
    port (startTable u p k n) p = { port u p with run := startedRun s p k n } ∧ OtherPorts p s (startTable u p k n) ∧
      (startTable u p k n).regs = (overrunCounted s p).regs := by
  have hon : seqOn u p = rdB s (Reg.TP.SEQ_CTRL p) 0 := by
    rw [seqOn_calm h.calm, rdB, rd, h.regs, ← rd, rd_overrunCounted_other _ _ _ (by simp), ← rdB]
  have hrests : port u p = { port u p with run := none } := by rw [← h.run]
  rw [startTable, activeTable, h.active, startedRun, activeTable, hon]
  cases (port s p).active with
  | none => exact ⟨hrests.trans (by split <;> rfl), h.others, h.regs⟩
  | some x =>
    cases rdB s (Reg.TP.SEQ_CTRL p) 0 with
    | false => exact ⟨hrests, h.others, h.regs⟩
    | true =>
      dsimp only
      rw [if_pos rfl, setRun_clean (by simp [h.errs])]
      exact ⟨port_setPort_same .., h.others.trans (otherPorts_setPort _ _ _), h.regs⟩

/-! ### When a restart comes (R207, R293) -/

/-- The restart of port `p` for slot (k, n) is due: the port stands in the device, the slot is the next one of running phases, its
restart instant is reached, and the port has not been restarted for it. -/
def restartDue (s : State) (p k n : Nat) : Prop :=
  p < 256 ∧ s.grid.next = some (k, n) ∧ rdB s Reg.TIM.TIM_STATUS 1 = true ∧
    reached s (slotStart s k n * 1000 - 1000000) = true ∧ (port s p).last ≠ some (k, n)

theorem seqRestart_due {s : State} {p k n : Nat} (us : List Upset) (hlit : Lit s) (h : restartDue s p k n) :
    exec (.seqRestart p k n us) s = .next (restart s p k n us) := by
  change execSeqRestart p k n us s = _
  rw [execSeqRestart, wall_lit hlit, if_pos (by simpa [restartDue, and_assoc] using h)]

theorem seqRestart_idle {s : State} {p k n : Nat} (us : List Upset) (h : ¬ restartDue s p k n) :
    exec (.seqRestart p k n us) s = .next s := by
  change execSeqRestart p k n us s = _
  rw [execSeqRestart, if_neg (by simpa [restartDue, and_assoc] using h), wall_self]

/-! ### Writes of SEQ_CTRL (R222) -/

section
variable {s : State} {a : Agent} {p : Nat} {v : Word} (hawake : Awake s) (hacc : Accepts s a (Reg.TP.SEQ_CTRL p) .cfg)
include hawake hacc

theorem seqEnable_accepted : exec (.seqEnable a p v) s = .next (touchSession s a (pageOf (Reg.TP.SEQ_CTRL p))
    (wr s (Reg.TP.SEQ_CTRL p) (v &&& seqCtlMask))) := by
  change execSeqEnable a p v s = _
  rw [execSeqEnable, live_awake hawake, guarded_accepted hacc]
  rfl

theorem seqDisable_stops (hoff : bit v 0 = false) (hcalm : safe s (Page.TP p) = false) : exec (.seqDisable a p v) s =
    .next (touchSession s a (pageOf (Reg.TP.SEQ_CTRL p)) (stopRun (wr s (Reg.TP.SEQ_CTRL p) (v &&& seqCtlMask)) p)) := by
  change execSeqDisable a p v s = _
  rw [execSeqDisable, hoff, hcalm]
  rw [live_awake hawake, guarded_accepted hacc]
  rfl

end

end Sys2Proof.Machine
end

section
/-! SUPPORT. Load checks and swaps of pitch tables (R215, R219, R221): what GO and the end of a check leave, and what a write of
SWAP comes down to. -/

namespace Sys2Proof.Machine

/-! ### Bits of a status word -/

theorem bit_w32 (n : Nat) {b : Nat} (h : b < 32) : bit (w32 n) b = decide (n / 2 ^ b % 2 = 1) := by
  rw [bit, w32, BitVec.toNat_ofNat, Nat.testBit_mod_two_pow, decide_eq_true h, Bool.true_and, Nat.testBit_eq_decide_div_mod_eq]

/-- STALE of CHECK_STATUS, at its place in the word. -/
def staleBit (s : State) (p : Nat) : Nat := rdF s (Reg.TP.CHECK_STATUS p) 2 2 * 4

theorem staleBit_cases (s : State) (p : Nat) : staleBit s p = 0 ∨ staleBit s p = 4 := by
  unfold staleBit rdF fld
  omega

theorem checkWord_failed (stale : Nat) (f : CheckFail) (h : stale = 0 ∨ stale = 4) : bit (checkWord stale f) 1 = false := by
  rw [checkWord, bit_w32 _ (by decide), decide_eq_false_iff_not]
  omega

theorem checkWord_cause (stale : Nat) {f : CheckFail} (h : stale = 0 ∨ stale = 4) (hcause : f.cause < 16) :
    fld (checkWord stale f) 7 4 = f.cause := by
  rw [checkWord, fld, w32, BitVec.toNat_ofNat]
  omega

/-! ### Load checks (R215, R219) -/

/-- A change of the port and of one of its registers touches no other port and no other register. -/
theorem wr_setPort_leaves (s : State) (p a : Nat) (x : TilePort) (v : Word) :
    port (wr (setPort s p x) a v) p = x ∧ OtherPorts p s (wr (setPort s p x) a v) ∧ rd (wr (setPort s p x) a v) a = v ∧
      RegsExcept [a] s (wr (setPort s p x) a v) :=
  ⟨by rw [port_wr, port_setPort_same], fun i hi => by rw [port_wr, port_setPort_other _ _ _ _ hi], rd_wr_same ..,
    fun b hb => by rw [rd_wr_other _ _ _ _ (by simpa using hb), rd_setPort]⟩

theorem loadCheckGo_starts {s : State} {a : Agent} {p : Nat} {v : Word} (hawake : Awake s)
    (hacc : Accepts s a (Reg.TP.CHECK p) .cmd) (hgo : bit v 0 = true) (hidle : (port s p).checking = none) :
    ∃ ps, exec (.loadCheckGo a p v) s =
      .next (touchSession s a (pageOf (Reg.TP.CHECK p)) (wr (setPort s p { port s p with
        checking := some (rdF s (Reg.TP.NEXT_ENTRY p) 10 0, ps) }) (Reg.TP.CHECK_STATUS p) 1)) := by
  change ∃ ps, execLoadCheckGo a p v s = _
  rw [execLoadCheckGo, hidle, hgo]
  exact ⟨_, (live_awake hawake).trans (congrArg _ (guarded_accepted hacc))⟩

section
variable {s : State} {p e hi : Nat} {ps : List (List Nat)} (hlit : Lit s) (hcheck : (port s p).checking = some (e, ps))
include hlit hcheck

theorem loadCheckDone_passes (hpass : checkVerdict s p e ps = (none, hi)) : exec (.loadCheckDone p) s =
    .next (wr (setPort s p { port s p with checking := none, checked := some (e, hi + 1 - e) }) (Reg.TP.CHECK_STATUS p)
      (w32 (2 + staleBit s p))) := by
  change execLoadCheckDone p s = _
  rw [execLoadCheckDone, wall_lit hlit, hcheck]
  dsimp only
  rw [hpass]
  rfl

theorem loadCheckDone_fails {f : CheckFail} (hfail : checkVerdict s p e ps = (some f, hi)) : exec (.loadCheckDone p) s =
    .next (raiseE (wr (setPort s p { port s p with checking := none, checked := none }) (Reg.TP.CHECK_STATUS p)
      (checkWord (staleBit s p) f)) (Page.TP p) 0) := by
  change execLoadCheckDone p s = _
  rw [execLoadCheckDone, wall_lit hlit, hcheck]
  dsimp only
  rw [hfail]
  rfl

end

/-! ### Swaps (R221) -/

/-- The phase at whose restart a write of SWAP asks for its swap, if it names one. -/
def swapTarget (v : Word) : Option Nat := if bit v 1 then some (fld v 4 2) else none

/-- The state with the swap of a region pending. -/
def swapPended (s : State) (p e len : Nat) (v : Word) : State :=
  wr (setPort s p { port s p with swap := some (e, len, swapTarget v) }) (Reg.TP.SWAP_STATUS p)
    (w32 (1 + rdF s (Reg.TP.SWAP_STATUS p) 3 1 * 2))

theorem swapPhase_exists {s : State} {v : Word} (hphase : bit v 1 = true → fld v 4 2 < nph s) :
    (bit v 1 && decide (nph s ≤ fld v 4 2)) = false := by
  cases hnamed : bit v 1 with
  | false => rfl
  | true => simpa using hphase hnamed

theorem nph_swapPended (s : State) (p e len : Nat) (v : Word) : nph (swapPended s p e len v) = nph s := by
  rw [nph, rdF, swapPended, rd_wr_other _ _ _ _ (by simp only [Reg.TIM.PH_RATE, Reg.TP.SWAP_STATUS]; omega), rd_setPort]
  rfl

theorem applySwap_takes {s : State} {p n e len : Nat} {target : Option Nat} (hswap : (port s p).swap = some (e, len, target))
    (htarget : ∀ m, target = some m → m < nph s ∧ m = n) : applySwap s p n = takeTable s p n e len := by
  simp only [applySwap, hswap]
  cases target with
  | none => rfl
  | some m =>
    obtain ⟨hm, rfl⟩ := htarget m rfl
    exact (if_neg (Nat.not_le.mpr hm)).trans (if_pos rfl)

/-- A region that is the active table, with no swap pending, and ACTIVE showing it. -/
structure TableShown (p e len : Nat) (s t : State) : Prop where
  active : (port t p).active = some (e, len)
  swap : (port t p).swap = none
  shown : rd t (Reg.TP.ACTIVE p) = activeWord e len
  others : OtherPorts p s t

theorem takeTable_leaves (s : State) (p n e len : Nat) : TableShown p e len s (takeTable s p n e len) where
  active := by rw [takeTable, port_wr, port_wr, port_setPort_same]
  swap := by rw [takeTable, port_wr, port_wr, port_setPort_same]
  shown := by rw [takeTable, rd_wr_other _ _ _ _ (by simp), rd_wr_same]
  others := fun i hi => by rw [takeTable, port_wr, port_wr, port_setPort_other _ _ _ _ hi]

/-- A table that starts stays the active one, even where its first word is in error (R321). -/
theorem TableShown.started {p e len : Nat} {s t : State} (h : TableShown p e len s t) (k n : Nat) :
    TableShown p e len s (startTable t p k n) := by
  have hstep : RunStep p t (startTable t p k n) := by
    unfold startTable
    split
    · split
      · exact runStep_setRun ..
      · exact .refl p t
    · exact .refl p t
  obtain ⟨run, send, stopped, hport⟩ := hstep.port
  refine ⟨by rw [hport]; exact h.active, by rw [hport]; exact h.swap, (hstep.regs _ ?_).trans h.shown,
    h.others.trans hstep.others⟩
  simp only [List.mem_cons, List.not_mem_nil, or_false, not_or, Reg.TP.ACTIVE, Reg.TWN.FLT_SRAM_CORR, Reg.TWN.FLT_SRAM_UNCORR,
    Reg.TWN.FLT_LAST]
  omega

theorem writeSwap_cancels {s : State} {p : Nat} {v : Word} (hgo : bit v 0 = false) (hcancel : bit v 5 = true)
    (hpending : (port s p).swap.isSome = true) : writeSwap s p v =
      wrB (setPort s p { port s p with swap := none }) (Reg.TP.SWAP_STATUS p) 0 false := by
  rw [writeSwap, hgo, hcancel, hpending]
  rfl

section
variable {s : State} {a : Agent} {p : Nat} {v : Word} (hawake : Awake s) (hacc : Accepts s a (Reg.TP.SWAP p) .cmd)
include hawake hacc

theorem swapGo_accepted : exec (.swapGo a p v) s = .next (touchSession s a (pageOf (Reg.TP.SWAP p)) (writeSwap s p v)) :=
  (live_awake hawake).trans (congrArg _ (guarded_accepted hacc))

theorem swapCancel_accepted : exec (.swapCancel a p v) s = .next (touchSession s a (pageOf (Reg.TP.SWAP p)) (writeSwap s p v)) :=
  (live_awake hawake).trans (congrArg _ (guarded_accepted hacc))

end

section
variable {s : State} {p : Nat} {v : Word} (hgo : bit v 0 = true) (hkeep : bit v 5 = false)
include hgo hkeep

theorem writeSwap_refused (h : swapAllowed s p = none ∨ (bit v 1 = true ∧ nph s ≤ fld v 4 2)) :
    writeSwap s p v = bump s (Reg.TP.SWAP_REFUSED p) := by
  simp only [writeSwap, hgo, hkeep, Bool.false_and, Bool.not_true, Bool.false_eq_true, if_false]
  split
  next e len hallowed =>
    obtain ⟨hnamed, hphase⟩ := h.resolve_left (by simp [hallowed])
    rw [hnamed, decide_eq_true hphase]
    rfl
  next => rfl

section
variable {e len : Nat} (hallowed : swapAllowed s p = some (e, len)) (hphase : bit v 1 = true → fld v 4 2 < nph s)
include hallowed hphase

theorem writeSwap_waits (hlate : (port s p).last = none ∨ (port s p).lastAt ≠ tileClk s) :
    writeSwap s p v = swapPended s p e len v := by
  simp only [writeSwap, hgo, hkeep, Bool.false_and, Bool.not_true, Bool.false_eq_true, if_false, hallowed,
    swapPhase_exists hphase]
  split
  next k n hlast =>
    rw [if_pos (hlate.resolve_left (by simp [hlast]))]
    rfl
  next => rfl

/-- In the clock of a restart of its phase the swap makes its region the active table, which starts (R221). -/
theorem writeSwap_takes {k n : Nat} (hlast : (port s p).last = some (k, n)) (hat : (port s p).lastAt = tileClk s)
    (hnamed : bit v 1 = true → fld v 4 2 = n) :
    writeSwap s p v = startTable (takeTable (swapPended s p e len v) p n e len) p k n := by
  have htake : applySwap (swapPended s p e len v) p n = takeTable (swapPended s p e len v) p n e len := by
    refine applySwap_takes (target := swapTarget v) ?_ fun m hm => ?_
    · rw [swapPended, port_wr, port_setPort_same]
    · unfold swapTarget at hm
      split at hm
      next hbit =>
        cases hm
        rw [nph_swapPended]
        exact ⟨hphase hbit, hnamed hbit⟩
      next => cases hm
  simp only [writeSwap, hgo, hkeep, Bool.false_and, Bool.not_true, Bool.false_eq_true, if_false, hallowed,
    swapPhase_exists hphase]
  split
  next k' n' heq =>
    cases hlast.symm.trans heq
    rw [if_neg (not_not.mpr hat)]
    change (if (port (applySwap (swapPended s p e len v) p n) p).swap.isNone = true
      then startTable (applySwap (swapPended s p e len v) p n) p k n else _) = _
    rw [htake, if_pos (by rw [(takeTable_leaves ..).swap]; rfl)]
  next heq =>
    rw [heq] at hlast
    cases hlast

end
end

end Sys2Proof.Machine
end

section
/-! The statements of 09_pitch_sequencers: pitch words, instructions, waits, pixel frames, restarts, and load checks and swaps. -/

open Sys2Proof Sys2Proof.Machine

/-- Settles O7: the fields of an instruction's word are the instruction's, and what decodes was compared with its word. -/
theorem pitchRoundTrip : Obligations.PitchRoundTrip :=
  ⟨fun op => decodePitch_eq_some.mpr ⟨pitchFields_encodePitch op, rfl⟩, fun _ _ h => (decodePitch_eq_some.mp h).2⟩

/-- Settles O34: an instruction that issues is its own effect on the run, and no instruction acts elsewhere. -/
theorem pitchInstructions : Obligations.PitchInstructions := by
  refine ⟨fun s p q => ⟨setRun_clean, fun u hu hword hstruct huncorr hwait hend => ?_⟩, fun s p r hlit =>
    ⟨issue_next hlit, fun _ => issue_next hlit, fun _ => issue_next hlit, fun _ => issue_next hlit,
      fun _ _ _ _ h => endloop_iterates hlit h, fun _ _ _ h => endloop_closes hlit h,
      issue_next hlit, fun h => ⟨_, issue_next hlit h, rfl, fun hclean => ?_⟩⟩, fun s p =>
    ⟨issue_elsewhere, fun _ => issue_elsewhere, fun _ => issue_elsewhere, fun _ => issue_elsewhere, issue_elsewhere,
      fun _ => issue_elsewhere, fun _ => issue_elsewhere, fun _ _ => issue_elsewhere, fun _ => issue_elsewhere,
      issue_elsewhere, issue_elsewhere, issue_elsewhere⟩⟩
  · refine ⟨?_, (runStep_setRun s p q).others⟩
    rw [setRun_lost hu hword hstruct huncorr hwait hend, stopRun, port_setPort_same]
  · obtain ⟨hrun, hwait, -⟩ := h
    have hport : (port (setRun s p r.next) p).run = some r.next := by rw [setRun_clean hclean, port_setPort_same]
    rw [runOf_eq_some.mpr ⟨(congrArg TilePort.run (port_pulse_running _ hport hwait)).trans hport, (runOf_eq_some.mp hrun).2⟩]
    rfl

/-- Settles O35: each release is what its command does to a run that holds, and a mark queues before its run goes on. -/
theorem pitchWaits : Obligations.PitchWaits := by
  refine fun s p r hlit hclean => ⟨fun f h => ⟨_, issue_next hlit h⟩, fun x h => ⟨_, issue_next hlit h⟩,
    fun l x h => ⟨_, issue_next hlit h⟩, fun h => ⟨_, issue_next hlit h⟩, fun b o hrun hwait => ?_, fun x hrun hwait => ?_,
    fun l x since hrun => ⟨fun hwait => waitEventRelease_holding hlit hrun hwait, fun hwait =>
      ⟨waitEventRelease_holding hlit hrun hwait, fun hover => ?_, fun hopen => ?_⟩⟩, fun hrun hwait =>
      ⟨fun hearly => ?_, fun hdue => ?_⟩⟩
  · rw [waitBandRelease_holding hlit hrun hwait, ← Bool.and_eq_true, ← Bool.and_eq_false_iff]
    exact ⟨fun h => congrArg _ (if_pos h), fun h => by rw [h]; rfl⟩
  · rw [waitTimeRelease_holding hlit hrun hwait]
    exact ⟨fun h => congrArg _ (if_pos h), fun h => by rw [h]; rfl⟩
  · refine ⟨_, (waitEventTimeout_holding hlit hrun hwait).trans (congrArg _ (if_pos hover)), ?_, ?_, fun a ha => ?_, ?_⟩
    · exact runOf_eq_some.mpr (by rw [port_bump]; exact runOf_eq_some.mp (runOf_setRun hclean (runOf_eq_some.mp hrun).2))
    · rw [rd_bump_same, setRun_clean hclean, rd_setPort]
    · rw [rd_bump_other _ (by simpa using ha), setRun_clean hclean, rd_setPort]
    · exact (runStep_setRun s p _).others.trans (.of_ports (bump_ports ..))
  · exact (waitEventTimeout_holding hlit hrun hwait).trans (congrArg _ (if_neg (by omega)))
  · rw [closeRelease_holding hlit hrun hwait, hearly]
    rfl
  · obtain ⟨hothers, fidx, hport⟩ := markQueued_port s p r
    have hclean' : ∀ u ∈ (port (markQueued s p r) p).errs, u.word ≠ r.release.pc := by rw [hport]; exact hclean
    have htq : (port (setRun (markQueued s p r) p r.release) p).tq = markedQueue s p r := by
      rw [setRun_clean hclean', port_setPort_same, hport]
    refine ⟨_, (closeRelease_holding hlit hrun hwait).trans (congrArg _ (if_pos hdue)),
      runOf_setRun hclean' (runOf_eq_some.mp hrun).2, hothers.trans (runStep_setRun _ p _).others,
      fun hout => htq.trans (if_pos hout), fun hmark hon => htq.trans (if_neg ?_)⟩
    rw [hmark, hon]
    decide

/-- Settles O36: SEND's frame is the one its port then holds; a frame that does not wait is skipped, dropped or sent. -/
theorem pitchSendsFrames : Obligations.PitchSendsFrames := by
  refine ⟨fun s p r f hlit h => ?_, fun s p r f hlit _ hrun hsend hclean => ⟨fun hwait us =>
    pixelFrameStart_waits hlit hrun hsend us hwait, fun hclk htx hhead => ?_⟩⟩
  · refine ⟨_, _, _, issue_next hlit h, congrArg TilePort.send (port_setPort_same ..),
      runOf_eq_some.mpr ⟨congrArg TilePort.run (port_setPort_same ..), (runOf_eq_some.mp h.1).2⟩, rfl, rfl,
      congrArg TilePort.sends (port_setPort_same ..), ?_, rfl, rfl, rfl, rfl, rfl, rfl, rfl, le_max_left _ _,
      otherPorts_setPort _ _ _, rfl⟩
    rw [port_setPort_same]
    exact Store.any_insert _ _ _
  · have hstarts : ¬ frameWaits s p f := by
      rintro (h | h | ⟨h, l, hq, hlt⟩)
      · omega
      · rw [htx] at h
        cases h
      · exact absurd (hhead h l hq) (Nat.not_le.mpr hlt)
    have hexec (us : List Upset) := pixelFrameStart_starts hlit hrun hsend us hstarts
    have hend := (runOf_eq_some.mp hrun).2
    refine ⟨fun hguy us => ?_, fun hguy hoff us => ?_, fun hguy hon => ?_⟩
    · obtain ⟨hsend', hrun', htx', hregs, hothers⟩ := skipFrame_leaves f hend hclean
      refine ⟨_, (hexec us).trans (congrArg _ (if_pos hguy)), hsend', hrun', htx'.trans htx, ?_, ?_, fun a ha => ?_, hothers⟩
      · rw [hregs, if_neg (by simp), if_pos rfl]
      · rw [hregs, if_pos rfl]
      · simp only [List.mem_cons, List.not_mem_nil, or_false, not_or] at ha
        rw [hregs, if_neg ha.2, if_neg ha.1]
    · rw [hexec us, hguy, hoff, if_neg (by decide), if_neg (by decide), dropFrame_eq (runOf_eq_some.mp hrun).1 hclean]
      rfl
    · obtain ⟨t, x, ht, hleaves⟩ := sendFrame_leaves f hend hclean
      refine ⟨t, x, ?_, hleaves⟩
      rw [hexec, hguy, hon, if_neg (by decide), if_pos rfl, ht]

/-- Settles O37: a due restart leaves its port clear, and the active table starts from there where the sequencer is enabled. -/
theorem sequencerRestarts : Obligations.SequencerRestarts := by
  refine ⟨fun s p k n hlit hp hnext hphases hswap hcause hreached hlast => ?_, fun s p k n us _ hidle =>
    seqRestart_idle us fun ⟨_, hnext, hphases, hreached, hlast⟩ => ?_, fun s a p v hawake hacc _ =>
    seqEnable_accepted hawake hacc, fun s a p v hawake hacc hoff hcalm => ⟨_, seqDisable_stops hawake hacc hoff hcalm, ?_,
      ?_, ?_, ?_, fun b hb => ?_, fun i hi => ?_⟩⟩
  · obtain ⟨u, hrestart, hu⟩ := restart_cleared k n hp hswap hcause
    have hexec := (seqRestart_due [] hlit ⟨hp, hnext, hphases, hreached, hlast⟩).trans (congrArg _ hrestart)
    obtain ⟨hport, hothers, hregs⟩ := hu.starts
    refine ⟨_, hexec, ?_, ?_, hothers, fun e len hen hactive => ?_, fun hrests => ?_, fun hrun => ?_, fun hnone => ?_⟩
    · rw [hport, hu.last]
    · rw [hport, hu.send]
    · rw [hport, startedRun, hen, hactive]
      rfl
    · rw [hport, startedRun]
      rcases hrests with h | h <;> simp [h]
    · rw [rd, hregs, ← rd, overrunCounted, if_pos hrun, rd_raiseE, rd_bump_same]
    · rw [hregs, overrunCounted, hnone]
      rfl
  · rcases hidle with h | h | h | h
    · exact h hnext
    · rw [h] at hphases
      cases hphases
    · rw [h] at hreached
      cases hreached
    · exact hlast h
  · rw [port_touchSession, stopRun, port_setPort_same]
  · rw [port_touchSession, stopRun, port_setPort_same]
  · rw [port_touchSession, stopRun, port_setPort_same, port_wr]
  · rw [rd_touchSession, stopRun, rd_setPort, rd_wr_same]
    rfl
  · rw [rd_touchSession, stopRun, rd_setPort, rd_wr_other _ _ _ _ (by simpa using hb)]
  · rw [port_touchSession, stopRun, port_setPort_other _ _ _ _ hi, port_wr]

/-- Settles O38: a check changes its port and CHECK_STATUS; a write of SWAP leaves its swap pending, makes its region the active
table, is refused, or withdraws what was pending. -/
theorem loadChecksAndSwaps : Obligations.LoadChecksAndSwaps := by
  refine ⟨fun s a p v hawake hacc hgo hidle => ?_, fun s p e hi ps hlit hcheck => ⟨fun hpass => ?_, fun f hcause hfail => ?_⟩,
    fun s a p v hawake hacc hgo hkeep => ⟨fun e len hallowed hphase => ⟨fun k n _ hlast hat hnamed => ?_, fun hlate => ?_⟩,
      fun hrefused => ?_⟩, fun s a p v hawake hacc hgo hcancel hpending => ?_⟩
  · obtain ⟨ps, hexec⟩ := loadCheckGo_starts hawake hacc hgo hidle
    obtain ⟨hport, hothers, hshown, hregs⟩ := wr_setPort_leaves s p (Reg.TP.CHECK_STATUS p)
      { port s p with checking := some (rdF s (Reg.TP.NEXT_ENTRY p) 10 0, ps) } 1
    refine ⟨_, ps, hexec, ?_, (rd_touchSession ..).trans hshown, fun b hb => (rd_touchSession ..).trans (hregs b hb),
      fun i hi => (port_touchSession ..).trans (hothers i hi)⟩
    rw [port_touchSession, hport]
  · obtain ⟨hport, hothers, hshown, hregs⟩ := wr_setPort_leaves s p (Reg.TP.CHECK_STATUS p)
      { port s p with checking := none, checked := some (e, hi + 1 - e) } (w32 (2 + staleBit s p))
    have hstale := staleBit_cases s p
    refine ⟨_, loadCheckDone_passes hlit hcheck hpass, by rw [hport], by rw [hport], ?_, ?_, hregs, hothers⟩
    · rw [rdB, hshown, bit_w32 _ (by decide), decide_eq_true_iff]
      omega
    · rw [rdB, hshown, bit_w32 _ (by decide), decide_eq_false_iff_not]
      omega
  · obtain ⟨hport, hothers, hshown, hregs⟩ := wr_setPort_leaves s p (Reg.TP.CHECK_STATUS p)
      { port s p with checking := none, checked := none } (checkWord (staleBit s p) f)
    have hstale := staleBit_cases s p
    refine ⟨_, loadCheckDone_fails hlit hcheck hfail, by rw [port_raiseE, hport], by rw [port_raiseE, hport], ?_, ?_,
      fun b hb => (rd_raiseE ..).trans (hregs b hb), fun i hi => (port_raiseE ..).trans (hothers i hi)⟩
    · rw [rdB, rd_raiseE, hshown, checkWord_failed _ f hstale]
    · rw [rdF, rd_raiseE, hshown, checkWord_cause _ hstale hcause]
  · have htaken := (takeTable_leaves (swapPended s p e len v) p n e len).started k n
    rw [← writeSwap_takes hgo hkeep hallowed hphase hlast hat hnamed] at htaken
    refine ⟨_, swapGo_accepted hawake hacc, ?_, ?_, (rd_touchSession ..).trans htaken.shown, fun i hi => ?_⟩
    · rw [activeTable, port_touchSession, htaken.active]
    · rw [port_touchSession, htaken.swap]
    · rw [port_touchSession, htaken.others i hi, swapPended, port_wr, port_setPort_other _ _ _ _ hi]
  · obtain ⟨hport, hothers, hshown, hregs⟩ := wr_setPort_leaves s p (Reg.TP.SWAP_STATUS p)
      { port s p with swap := some (e, len, swapTarget v) } (w32 (1 + rdF s (Reg.TP.SWAP_STATUS p) 3 1 * 2))
    rw [← swapPended, ← writeSwap_waits hgo hkeep hallowed hphase hlate] at hport hothers hshown hregs
    refine ⟨_, swapGo_accepted hawake hacc, ?_, ?_, fun b hb => (rd_touchSession ..).trans (hregs b hb),
      fun i hi => (port_touchSession ..).trans (hothers i hi)⟩
    · rw [port_touchSession, hport]
      rfl
    · rw [rdB, rd_touchSession, hshown, bit_w32 _ (by decide), decide_eq_true_iff]
      omega
  · refine ⟨_, (swapGo_accepted hawake hacc).trans (by rw [writeSwap_refused hgo hkeep hrefused]), ?_, ?_, fun b hb => ?_,
      fun i _ => ?_⟩
    · rw [port_touchSession, port_bump]
    · rw [rd_touchSession, rd_bump_same]
    · rw [rd_touchSession, rd_bump_other _ (by simpa using hb)]
    · rw [port_touchSession, port_bump]
  · refine ⟨_, (swapCancel_accepted hawake hacc).trans (by rw [writeSwap_cancels hgo hcancel hpending]), ?_, ?_, fun b hb => ?_,
      fun i hi => ?_⟩
    · rw [port_touchSession, port_wrB, port_setPort_same]
    · rw [rdB, rd_touchSession, rd_wrB, if_pos rfl, bit_setBit_same _ _ _ (by decide)]
    · rw [rd_touchSession, rd_wrB, if_neg (by simpa using hb), rd_setPort]
    · rw [port_touchSession, port_wrB, port_setPort_other _ _ _ _ hi]

end

section
/-! SUPPORT. Tile links and the return path (R250, R251, R258): what a change of link leaves, and what becomes of a frame that
arrives. -/

namespace Sys2Proof.Machine

/-! ### Links (R258, R429, R435) -/

/-- A change of link touches its port and the interrupt controller. -/
theorem setTileLink_leaves (s : State) (p : Nat) (up lock : Bool) : OtherPorts p s (setTileLink s p up lock) ∧
    setTileLink s p up lock = { s with ports := (setTileLink s p up lock).ports, icu := (setTileLink s p up lock).icu } ∧
    port (setTileLink s p up lock) p = { port s p with linkUp := up, lock := lock } := by
  have hset : ∃ icu, setTileLink s p up lock = { setPort s p { port s p with linkUp := up, lock := lock } with icu := icu } := by
    unfold setTileLink
    dsimp only
    split
    · exact ⟨_, raiseE_frame ..⟩
    · exact ⟨_, rfl⟩
  obtain ⟨icu, hset⟩ := hset
  rw [hset]
  exact ⟨otherPorts_setPort _ _ _, rfl, port_setPort_same ..⟩

theorem tileLinkChange_takes {s : State} {p : Nat} (up lock : Bool) (hawake : Awake s) (hp : p < 256) :
    exec (.tileLinkChange p up lock) s = .next (setTileLink s p (up && (bit s.rst.octets (p / 8) && serdesOn s))
      (lock && (bit s.rst.octets (p / 8) && serdesOn s))) := by
  change execTileLinkChange p up lock s = _
  rw [execTileLinkChange, live_awake hawake, if_pos hp]

/-! ### The checks of the return path in their order (R250) -/

theorem byteAt_drop (bs : List Byte) (n i : Nat) : byteAt (bs.drop n) i = byteAt bs (n + i) := by
  simp only [byteAt, List.getD_eq_getElem?_getD, List.getElem?_drop]

theorem tileFrameRx_linkDown {s : State} {p : Nat} (f : TileFrame) (hawake : Awake s) (hlink : portLink s p = false) :
    exec (.tileFrameRx p f) s = .next s := by
  change execTileFrameRx p f s = _
  rw [execTileFrameRx, live_awake hawake, hlink, Bool.and_false, if_neg (by decide)]

section
variable {s : State} {p : Nat} {f : TileFrame} (hawake : Awake s) (hp : p < 256) (hlink : portLink s p = true)
include hawake hp hlink

theorem tileFrameRx_fcsError (hfcs : f.fcsError = true) :
    exec (.tileFrameRx p f) s = .next (bump (bump s (Reg.TP.RX_FRAMES p)) (Reg.TP.RX_FCS_ERR p)) := by
  change execTileFrameRx p f s = _
  simp [execTileFrameRx, live_awake hawake, hp, hlink, hfcs]

variable (hfcs : f.fcsError = false)
include hfcs

theorem tileFrameRx_htlOff (hoff : rdB s Reg.TLG.TLG_CTRL 0 = false) :
    exec (.tileFrameRx p f) s = .next (bump s (Reg.TP.RX_FRAMES p)) := by
  change execTileFrameRx p f s = _
  simp [execTileFrameRx, live_awake hawake, hp, hlink, hfcs, hoff]

variable (hon : rdB s Reg.TLG.TLG_CTRL 0 = true)
include hon

theorem tileFrameRx_notHtl (htype : beAt f.bytes 12 2 ≠ rdF s Reg.TLG.ETHERTYPE 15 0) :
    exec (.tileFrameRx p f) s = .next (bump (bump s (Reg.TP.RX_FRAMES p)) Reg.TLG.RX_NONHTL) := by
  change execTileFrameRx p f s = _
  simp [execTileFrameRx, live_awake hawake, hp, hlink, hfcs, hon, htype]

variable (htype : beAt f.bytes 12 2 = rdF s Reg.TLG.ETHERTYPE 15 0)
include htype

theorem tileFrameRx_badVersion (hver : (byteAt f.bytes 14).toNat / 16 ≠ 1) :
    exec (.tileFrameRx p f) s = .next (bump (bump s (Reg.TP.RX_FRAMES p)) Reg.TLG.RX_BADVER) := by
  change execTileFrameRx p f s = _
  simp [execTileFrameRx, byteAt_drop, live_awake hawake, hp, hlink, hfcs, hon, htype, hver]

variable (hver : (byteAt f.bytes 14).toNat / 16 = 1)
include hver

theorem tileFrameRx_foreign (hchain : (byteAt f.bytes 16).toNat ≠ portChain s p) :
    exec (.tileFrameRx p f) s = .next (bump (bump s (Reg.TP.RX_FRAMES p)) Reg.TLG.RX_FOREIGN) := by
  change execTileFrameRx p f s = _
  simp [execTileFrameRx, byteAt_drop, live_awake hawake, hp, hlink, hfcs, hon, htype, hver, hchain]

/-- A lantern of the port's chain is the far end's, or the port's own come back. -/
theorem tileFrameRx_lantern (hchain : (byteAt f.bytes 16).toNat = portChain s p)
    (hlantern : (byteAt f.bytes 14).toNat % 16 = 4) : exec (.tileFrameRx p f) s = .next
      (if (byteAt f.bytes 15).toNat % 2 = portEnd s p then bump (bump s (Reg.TP.RX_FRAMES p)) Reg.TLG.RX_LOOPED
        else farLantern (bump s (Reg.TP.RX_FRAMES p)) p) := by
  change execTileFrameRx p f s = _
  have hend : portEnd (bump s (Reg.TP.RX_FRAMES p)) p = portEnd s p := rfl
  simp only [execTileFrameRx, byteAt_drop, live_awake hawake, hp, hlink, hfcs, hon, htype, hver, hchain, htlArrives, hlantern,
    hend]
  by_cases h : (byteAt f.bytes 15).toNat % 2 = portEnd s p <;> simp [h]

end

/-! ### Far-end lanterns (R251) -/

/-- A pulse of an event line touches nothing of a port but a wait of its run. -/
theorem farAt_pulse {s : State} {p l c : Nat} (h : (port s p).farAt = some c) : (port (pulse s l) p).farAt = some c := by
  rcases pulse_cases s l with hq | hq | ⟨e, hq⟩ <;> rw [hq]
  · exact h
  · rw [port_raiseE, port_wr, port_bump, h]
  · have hsee : ((port s p).seePulse l).farAt = (port s p).farAt := by
      unfold TilePort.seePulse
      split
      · split <;> rfl
      · rfl
    have hfar : ((port s p).seePulse l).farAt = some c := hsee.trans h
    have hne : (port s p).seePulse l ≠ TilePort.reset := fun heq => by rw [heq] at hfar; cases hfar
    rw [port, notify_ports]
    exact (congrArg TilePort.farAt (Store.get_mapV_of_ne _ _ s.ports (by rfl) hne)).trans hfar

/-- Slot starts are read from the grid's registers (R291, R292, R294). -/
theorem slotStart_congr {s t : State} (hgrid : t.grid = s.grid) (hrate : rd t Reg.TIM.PH_RATE = rd s Reg.TIM.PH_RATE)
    (hfofs : rd t Reg.TIM.FRAME_OFS = rd s Reg.TIM.FRAME_OFS)
    (hofs : ∀ i, i < 8 → rd t (Reg.TIM.PH_OFS i) = rd s (Reg.TIM.PH_OFS i)) (k n : Nat) :
    slotStart t k n = slotStart s k n := by
  have hmap : ((List.range 8).map fun i => rd t (Reg.TIM.PH_OFS i)) = (List.range 8).map fun i => rd s (Reg.TIM.PH_OFS i) :=
    List.map_congr_left fun i hi => hofs i (List.mem_range.mp hi)
  simp only [slotStart, gridAt, curGrid, hgrid, hrate, hfofs, hmap]

/-- A counted frame leaves the phase instants seen. -/
theorem instantsSeen_bump_rxFrames (s : State) (p : Nat) : instantsSeen (bump s (Reg.TP.RX_FRAMES p)) = instantsSeen s := by
  have hregs {b : Nat} (h : b % 0x1000 ≠ 0x160) : rd (bump s (Reg.TP.RX_FRAMES p)) b = rd s b :=
    rd_bump_other _ (by simp only [Reg.TP.RX_FRAMES]; omega)
  have hstart := slotStart_congr (s := s) (bump_grid s (Reg.TP.RX_FRAMES p)) (hregs (by decide)) (hregs (by decide))
    fun i hi => hregs (by simp only [Reg.TIM.PH_OFS]; omega)
  simp only [instantsSeen, bump_grid, reached, bump_time, hstart]

theorem farLantern_leaves (s : State) {p : Nat} (hp : p < 256) : (port (farLantern s p) p).farAt = some (instantsSeen s) ∧
    rdB (farLantern s p) (Reg.TLG.FAR_OK (p / 32)) (p % 32) = true := by
  refine ⟨farAt_pulse (by rw [port_wrB, port_setPort_same]), ?_⟩
  have hunmerged : Reg.TLG.FAR_OK (p / 32) ∉ [Reg.EVF.MERGED, Reg.EVF.LAST_MERGED] := by
    simp only [Reg.TLG.FAR_OK, Reg.EVF.MERGED, Reg.EVF.LAST_MERGED, List.mem_cons, List.not_mem_nil, or_false]
    omega
  rw [farLantern, rdB, rd_pulse _ _ _ hunmerged, rd_wrB, if_pos rfl, bit_setBit_same _ _ _ (Nat.mod_lt _ (by decide))]

/-- FAR_OK shows whether it holds, and nothing else changes but the interrupt controller's note of a fall. -/
theorem settleFarOk_leaves (s : State) (p : Nat) : rdB (settleFarOk s p) (Reg.TLG.FAR_OK (p / 32)) (p % 32) = farOk s p ∧
    RegsExcept [Reg.TLG.FAR_OK (p / 32)] s (settleFarOk s p) ∧
    settleFarOk s p = { s with regs := (settleFarOk s p).regs, par := (settleFarOk s p).par, icu := (settleFarOk s p).icu } := by
  have hset : ∃ icu, settleFarOk s p = { wrB s (Reg.TLG.FAR_OK (p / 32)) (p % 32) (farOk s p) with icu := icu } := by
    unfold settleFarOk
    dsimp only
    split
    · exact ⟨_, raiseE_frame ..⟩
    · exact ⟨_, rfl⟩
  obtain ⟨icu, hset⟩ := hset
  have hrd (b : Nat) : rd (settleFarOk s p) b = rd (wrB s (Reg.TLG.FAR_OK (p / 32)) (p % 32) (farOk s p)) b := by
    rw [hset]
    rfl
  refine ⟨?_, fun a ha => ?_, by rw [hset]; rfl⟩
  · rw [rdB, hrd, rd_wrB, if_pos rfl, bit_setBit_same _ _ _ (Nat.mod_lt _ (by decide))]
  · rw [hrd, rd_wrB, if_neg (by simpa using ha)]

theorem farOkLoss_holds {s : State} {p : Nat} (hlit : Lit s) (hok : farOk s p = true) : exec (.farOkLoss p) s = .next s := by
  change execFarOkLoss p s = _
  rw [execFarOkLoss, wall_lit hlit, hok, Bool.not_true, Bool.and_false, if_neg (by decide)]

theorem farOkLoss_lost {s : State} {p : Nat} (hlit : Lit s) (hp : p < 256) (hok : farOk s p = false) :
    exec (.farOkLoss p) s = .next (if rdB s (Reg.TLG.FAR_OK (p / 32)) (p % 32) then settleFarOk s p else s) := by
  change execFarOkLoss p s = _
  rw [execFarOkLoss, wall_lit hlit, hok, decide_eq_true hp, Bool.true_and, Bool.not_false, Bool.and_true]

end Sys2Proof.Machine
end

section
/-! SUPPORT. Lanterns and time frames (R236, R238, R255, R279): what each port takes when all of them queue a frame. -/

namespace Sys2Proof.Machine

/-- A run of steps leaves an observation that none of them changes. -/
theorem foldl_unseen {α β : Type} {f : State → α → State} (π : State → β) {P : State → Prop} (hkeep : ∀ s a, P s → P (f s a))
    {l : List α} (hsame : ∀ s a, a ∈ l → P s → π (f s a) = π s) {s : State} (hs : P s) : π (l.foldl f s) = π s := by
  induction l generalizing s with
  | nil => rfl
  | cons a l ih =>
    exact (ih (fun s b hb => hsame s b (List.mem_cons_of_mem _ hb)) (hkeep s a hs)).trans (hsame s a List.mem_cons_self hs)

/-- Where one step alone of a run of steps reaches an observation, the run leaves of it what that step leaves. -/
theorem foldl_own {α β : Type} {f : State → α → State} (π : State → β) {P : State → Prop} {Q : β → β → Prop} {i : α}
    (hkeep : ∀ s a, P s → P (f s a)) (hself : ∀ s, P s → Q (π s) (π (f s i))) {l : List α}
    (hother : ∀ s a, a ∈ l → P s → a ≠ i → π (f s a) = π s) (hnodup : l.Nodup) (hi : i ∈ l) {s : State} (hs : P s) :
    Q (π s) (π (l.foldl f s)) := by
  induction l generalizing s with
  | nil => cases hi
  | cons a l ih =>
    obtain ⟨ha, hl⟩ := List.nodup_cons.mp hnodup
    have hrest (t : State) (b : α) (hb : b ∈ l) := hother t b (List.mem_cons_of_mem _ hb)
    by_cases h : a = i
    · subst h
      rw [List.foldl_cons, foldl_unseen π hkeep (fun t b hb ht => hrest t b hb ht (ne_of_mem_of_not_mem hb ha)) (hkeep s a hs)]
      exact hself s hs
    · have hstep := ih hrest hl ((List.mem_cons.mp hi).resolve_left (Ne.symm h)) (hkeep s a hs)
      rwa [hother s a List.mem_cons_self hs h] at hstep

/-! ### Lanterns (R238, R255) -/

theorem queueLantern_off {s : State} {p : Nat} (k n : Nat) (hoff : portOn s p = false) : queueLantern k n s p = s := by
  rw [queueLantern, hoff, if_neg (by decide)]

theorem port_bumpIf (c : Bool) (s : State) (a q : Nat) : port (bumpIf c s a) q = port s q := by
  unfold bumpIf
  split
  · exact port_bump ..
  · rfl

theorem rd_bumpIf_other (c : Bool) (s : State) {a b : Nat} (h : b ≠ a) : rd (bumpIf c s a) b = rd s b := by
  unfold bumpIf
  split
  · exact rd_bump_other _ h
  · rfl

theorem queueLantern_on {s : State} {p : Nat} (k n : Nat) (hon : portOn s p = true) :
    (port (queueLantern k n s p) p).lantern.isSome = true := by
  rw [queueLantern, if_pos hon]
  dsimp only
  rw [port_bumpIf, port_setPort_same]
  rfl

theorem queueLantern_others (k n : Nat) (s : State) (p : Nat) : OtherPorts p s (queueLantern k n s p) := by
  unfold queueLantern
  split
  · dsimp only
    intro q hq
    rw [port_bumpIf, port_setPort_other _ _ _ _ hq, lanternFrame, takeFidx, port_setPort_other _ _ _ _ hq]
  · exact fun _ _ => rfl

/-- A queued lantern turns no port on or off. -/
theorem portOn_queueLantern (k n : Nat) (s : State) (q p : Nat) : portOn (queueLantern k n s q) p = portOn s p := by
  have hregs {b : Nat} (h : b ≠ Reg.TP.LANT_REPLACED q) : rd (queueLantern k n s q) b = rd s b := by
    unfold queueLantern
    split
    · dsimp only
      rw [rd_bumpIf_other _ _ h, rd_setPort, lanternFrame, takeFidx, rd_setPort]
    · rfl
  rw [portOn, rdB, rdB, hregs (by simp only [Reg.TP.PORT_CTRL, Reg.TP.LANT_REPLACED]; omega),
    hregs (by simp only [Reg.TLG.TLG_CTRL, Reg.TP.LANT_REPLACED]; omega)]
  rfl

/-- A port that is on ends with a lantern waiting, and one that is off as it was. -/
theorem queueLanterns_leave (k n : Nat) (s : State) {p : Nat} (hp : p < 256) :
    (portOn s p = true → (port ((List.range 256).foldl (queueLantern k n) s) p).lantern.isSome = true) ∧
      (portOn s p = false → port ((List.range 256).foldl (queueLantern k n) s) p = port s p) := by
  have hkeep (on : Bool) (t : State) (q : Nat) (h : portOn t p = on) : portOn (queueLantern k n t q) p = on :=
    (portOn_queueLantern ..).trans h
  have hother (t : State) (q : Nat) (hq : q ≠ p) : port (queueLantern k n t q) p = port t p :=
    queueLantern_others k n t q p (Ne.symm hq)
  exact ⟨foldl_own (fun t => port t p) (Q := fun _ y => y.lantern.isSome = true) (hkeep true)
      (fun _ => queueLantern_on k n) (fun t q _ _ => hother t q) List.nodup_range (List.mem_range.mpr hp),
    foldl_own (fun t => port t p) (Q := fun x y => y = x) (hkeep false)
      (fun t ht => by rw [queueLantern_off k n ht]) (fun t q _ _ => hother t q) List.nodup_range (List.mem_range.mpr hp)⟩

/-- Each port queues its lantern once for a slot, from WC(n) on. -/
def lanternsDue (s : State) (k n : Nat) : Prop :=
  s.grid.cur = some (k, n) ∧ s.grid.lant ≠ some (k, n) ∧ reached s (ctxOf s k n).close = true

theorem lanternQueue_idle {s : State} {k n : Nat} (hlit : Lit s) (h : ¬ lanternsDue s k n) :
    exec (.lanternQueue k n) s = .next s := by
  change execLanternQueue k n s = _
  rw [execLanternQueue, wall_lit hlit]
  refine congrArg _ (if_neg fun hc => h ?_)
  simp only [Bool.and_eq_true, beq_iff_eq, bne_iff_ne] at hc
  exact ⟨hc.1.1.2, hc.1.2, hc.2⟩

theorem lanternQueue_due {s : State} {k n : Nat} (hlit : Lit s) (hhtl : rdB s Reg.TLG.TLG_CTRL 0 = true)
    (hlant : rdB s Reg.TLG.TLG_CTRL 1 = true) (h : lanternsDue s k n) : ∃ t, exec (.lanternQueue k n) s = .next t ∧
      ∀ p, port t p = port ((List.range 256).foldl (queueLantern k n) s) p := by
  obtain ⟨hcur, hnew, hclose⟩ := h
  change ∃ t, execLanternQueue k n s = _ ∧ _
  rw [execLanternQueue, wall_lit hlit, if_pos (by simp [hhtl, hlant, hcur, hnew, hclose])]
  generalize (List.range 256).foldl (queueLantern k n) s = t
  exact ⟨_, rfl, fun _ => rfl⟩

/-! ### Time frames (R236, R279) -/

theorem queueTime_off {s : State} {p : Nat} (hoff : portOn s p = false) : queueTime s p = s := by
  rw [queueTime, hoff, if_neg (by decide)]

theorem queueT_on {s : State} {p : Nat} (time : Bool) (htl : List Byte) (hon : portOn s p = true) :
    ∃ f, (port (queueT s p time htl) p).tq = (port s p).tq ++ [f] ∧ f.time = time := by
  rw [queueT, if_pos hon, port_setPort_same]
  exact ⟨_, rfl, rfl⟩

theorem queueTime_on {s : State} {p : Nat} (hon : portOn s p = true) :
    ∃ f, (port (queueTime s p) p).tq = (port s p).tq ++ [f] ∧ f.time = true := by
  rw [queueTime, if_pos hon]
  obtain ⟨f, htq, htime⟩ := queueT_on (s := setPort (takeFidx s p 3).2 p { port (takeFidx s p 3).2 p with stepSeen := s.time.steps })
    true _ (by simpa only [portOn, rdB, takeFidx, rd_setPort] using hon)
  refine ⟨f, htq.trans ?_, htime⟩
  rw [port_setPort_same, takeFidx, port_setPort_same]

/-- Of the state only the tile ports change. -/
def PortsOnly (s t : State) : Prop := t = { s with ports := t.ports }

theorem PortsOnly.trans {s t u : State} (h : PortsOnly s t) (k : PortsOnly t u) : PortsOnly s u :=
  Eq.trans k (by rw [h])

theorem portsOnly_setPort (s : State) (p : Nat) (x : TilePort) : PortsOnly s (setPort s p x) := rfl

theorem portsOnly_queueT (s : State) (p : Nat) (time : Bool) (htl : List Byte) : PortsOnly s (queueT s p time htl) := by
  unfold queueT
  dsimp only
  split
  · exact portsOnly_setPort ..
  · rfl

theorem portsOnly_queueTime (s : State) (p : Nat) : PortsOnly s (queueTime s p) := by
  unfold queueTime
  split
  · exact ((portsOnly_setPort ..).trans (portsOnly_setPort ..)).trans (portsOnly_queueT ..)
  · rfl

theorem queueTime_others (s : State) (p : Nat) : OtherPorts p s (queueTime s p) := by
  intro q hq
  unfold queueTime
  split
  · dsimp only
    unfold queueT
    dsimp only
    split <;> simp only [takeFidx, port_setPort_other _ _ _ _ hq]
  · rfl

theorem portOn_queueTime (s : State) (q p : Nat) : portOn (queueTime s q) p = portOn s p := by
  rw [portsOnly_queueTime s q]
  rfl

/-- With time frames on, each port that is on takes one behind its class T frames, and one that is off is as it was. -/
theorem queueTimeAll_leaves {s : State} (hclock : serdesOn s = true) (hen : rdB s Reg.TLG.TLG_CTRL 2 = true) :
    (queueTimeAll s).regs = s.regs ∧ (queueTimeAll s).time = s.time ∧ ∀ p, p < 256 →
      (portOn s p = true → ∃ f, (port (queueTimeAll s) p).tq = (port s p).tq ++ [f] ∧ f.time = true) ∧
      (portOn s p = false → port (queueTimeAll s) p = port s p) := by
  rw [queueTimeAll, hen, hclock, Bool.and_self, if_pos rfl]
  refine ⟨foldl_keep (fun s => s.regs) _ (fun s p => by rw [portsOnly_queueTime s p]) _ s,
    foldl_keep (fun s => s.time) _ (fun s p => by rw [portsOnly_queueTime s p]) _ s, fun p hp => ?_⟩
  have hkeep (on : Bool) (t : State) (q : Nat) (h : portOn t p = on) : portOn (queueTime t q) p = on :=
    (portOn_queueTime ..).trans h
  have hother (t : State) (q : Nat) (hq : q ≠ p) : port (queueTime t q) p = port t p :=
    queueTime_others t q p (Ne.symm hq)
  exact ⟨foldl_own (fun t => port t p) (Q := fun x y => ∃ f, y.tq = x.tq ++ [f] ∧ f.time = true) (hkeep true)
      (fun _ => queueTime_on) (fun t q _ _ => hother t q) List.nodup_range (List.mem_range.mpr hp),
    foldl_own (fun t => port t p) (Q := fun x y => y = x) (hkeep false)
      (fun t ht => by rw [queueTime_off ht]) (fun t q _ _ => hother t q) List.nodup_range (List.mem_range.mpr hp)⟩

theorem lt_nextMultiple (t : Nat) {us : Nat} (h : 0 < us) : t < nextMultiple t us := by
  unfold nextMultiple
  rw [Nat.mul_comm]
  exact Nat.lt_mul_div_succ t (by omega)

section
variable {s : State} (hlit : Lit s) (hen : rdB s Reg.TLG.TLG_CTRL 2 = true)
include hlit hen

theorem timeFrameTick_early (hearly : nowNs s < nextMultiple s.time.tlg (rdF s Reg.TLG.TIME_PER 15 0)) :
    exec .timeFrameTick s = .next s := by
  change execTimeFrameTick s = _
  simp only [execTimeFrameTick, live_awake hlit.1, hen, hlit.2, Bool.and_self, if_true]
  rw [decide_eq_false (Nat.not_le.mpr hearly)]
  simp

theorem timeFrameTick_due (hper : 0 < rdF s Reg.TLG.TIME_PER 15 0)
    (hdue : nextMultiple s.time.tlg (rdF s Reg.TLG.TIME_PER 15 0) ≤ nowNs s) : exec .timeFrameTick s = .next
      (queueTimeAll { s with time := { s.time with tlg := nextMultiple s.time.tlg (rdF s Reg.TLG.TIME_PER 15 0) } }) := by
  change execTimeFrameTick s = _
  simp [execTimeFrameTick, live_awake hlit.1, hen, hlit.2, hdue, lt_nextMultiple _ hper]

end

end Sys2Proof.Machine
end

section
/-! SUPPORT. Control sessions (R245, R263): the request in hand, the opening NOP, retries and the last of them. -/

namespace Sys2Proof.Machine

/-! ### What a step of one tile port leaves alone -/

/-- Of the tile ports only `p` changes, of the registers only those of `l`, and no byte of memory. -/
structure TileStep (p : Nat) (l : List Nat) (s t : State) : Prop where
  others : OtherPorts p s t
  regs : RegsExcept l s t
  memory : t.mem = s.mem ∧ t.hostMem = s.hostMem

theorem TileStep.refl (p : Nat) (l : List Nat) (s : State) : TileStep p l s s := ⟨fun _ _ => rfl, fun _ _ => rfl, rfl, rfl⟩

theorem TileStep.trans {p : Nat} {l : List Nat} {s t u : State} (h : TileStep p l s t) (k : TileStep p l t u) :
    TileStep p l s u :=
  ⟨h.others.trans k.others, fun a ha => (k.regs a ha).trans (h.regs a ha), k.memory.1.trans h.memory.1,
    k.memory.2.trans h.memory.2⟩

theorem TileStep.setPort {p : Nat} {l : List Nat} {s t : State} (h : TileStep p l s t) (x : TilePort) :
    TileStep p l s (setPort t p x) :=
  h.trans ⟨otherPorts_setPort _ _ _, fun _ _ => rd_setPort .., rfl, rfl⟩

theorem TileStep.wr {p a : Nat} {l : List Nat} {s t : State} (h : TileStep p l s t) (v : Word) (ha : a ∈ l) :
    TileStep p l s (wr t a v) :=
  h.trans ⟨.of_ports rfl, fun _ hb => rd_wr_other _ _ _ _ (by rintro rfl; exact hb ha), rfl, rfl⟩

theorem TileStep.raiseE {p : Nat} {l : List Nat} {s t : State} (h : TileStep p l s t) (pg b : Nat) :
    TileStep p l s (raiseE t pg b) :=
  h.trans ⟨.of_ports (raiseE_ports ..), fun _ _ => rd_raiseE .., raiseE_mem .., raiseE_hostMem ..⟩

theorem TileStep.touchSession {p : Nat} {l : List Nat} {s t : State} (h : TileStep p l s t) (r : State) (a : Agent) (pg : Nat) :
    TileStep p l s (touchSession r a pg t) :=
  h.trans ⟨.of_ports (touchSession_ports ..), fun _ _ => rd_touchSession .., touchSession_mem .., touchSession_hostMem ..⟩

theorem TileStep.sameMemory {p : Nat} {l : List Nat} {s t : State} (h : TileStep p l s t) : SameMemory s t :=
  sameMemory_of_stores h.memory.1 h.memory.2

theorem TileStep.mono {p : Nat} {l m : List Nat} {s t : State} (h : TileStep p l s t) (hsub : l ⊆ m) : TileStep p m s t :=
  ⟨h.others, fun a ha => h.regs a fun hl => ha (hsub hl), h.memory⟩

/-! ### Sessions of a port -/

theorem session_of_port {s t : State} {p : Nat} (h : port t p = port s p) (se : Nat) : session t p se = session s p se := by
  rw [session, h, session]

theorem session_of_ports {s t : State} (h : t.ports = s.ports) (p se : Nat) : session t p se = session s p se :=
  session_of_port (port_of_ports h p) se

@[simp] theorem session_setSession_same (s : State) (p se : Nat) (x : CSession) : session (setSession s p se x) p se = x := by
  rw [session, setSession, port_setPort_same]
  exact Store.get_set_same ..

@[simp] theorem session_wr (s : State) (a : Nat) (v : Word) (p se : Nat) : session (wr s a v) p se = session s p se :=
  session_of_ports rfl p se

@[simp] theorem rd_setSession (s : State) (p se : Nat) (x : CSession) (a : Nat) : rd (setSession s p se x) a = rd s a := rfl

theorem tileStep_setSession (s : State) (p se : Nat) (l : List Nat) (x : CSession) : TileStep p l s (setSession s p se x) :=
  (TileStep.refl p l s).setPort _

theorem tileStep_takeFidx (s : State) (p type : Nat) (l : List Nat) : TileStep p l s (takeFidx s p type).2 :=
  (TileStep.refl p l s).setPort _

theorem portOn_takeFidx (s : State) (p type q : Nat) : portOn (takeFidx s p type).2 q = portOn s q := by
  simp only [portOn, rdB, takeFidx, rd_setPort]

/-- OUTSTANDING and what stands above it share no bit with STOPPED and the bits below. -/
theorem bit_setOutstanding (s : State) (p se : Nat) (b : Bool) {i : Nat} (h : i < 15) :
    bit (rd (setOutstanding s p se b) (Reg.TP.SESS_CFG p se)) i = bit (rd s (Reg.TP.SESS_CFG p se)) i := by
  rw [setOutstanding, rd_wr_same, bit_setBit_other _ _ _ _ (by decide) (by omega)]

/-! ### The request in hand (R245, R255, R264) -/

/-- A request as it is once its frame has been queued: a port that is off discards the frame, which counts as sent. -/
def asQueued (s : State) (p : Nat) (r : CReq) : CReq :=
  if portOn s p then r else { r with tries := r.tries + 1, sent := some s.time.uptime }

theorem asQueued_on {s : State} {p : Nat} (r : CReq) (hon : portOn s p = true) : asQueued s p r = r := if_pos hon

theorem asQueued_off {s : State} {p : Nat} (r : CReq) (hoff : portOn s p = false) :
    asQueued s p r = { r with tries := r.tries + 1, sent := some s.time.uptime } := if_neg (by rw [hoff]; decide)

/-- Queueing changes of a request only how often and when it was sent. -/
theorem asQueued_keeps (s : State) (p : Nat) (r : CReq) : (asQueued s p r).op = r.op ∧ (asQueued s p r).cseq = r.cseq ∧
    (asQueued s p r).nop = r.nop ∧ (asQueued s p r).fail = r.fail ∧ (asQueued s p r).tries = r.tries + (!portOn s p).toNat := by
  cases hon : portOn s p with
  | true => simp [asQueued_on r hon]
  | false => simp [asQueued_off r hon]

/-- Session `se` has the request `r` in hand: it waits for the transmitter, or, its frame discarded, for its ACK. -/
structure InHand (p se : Nat) (x : CSession) (r : CReq) (s t : State) : Prop where
  req : (session t p se).req = some (asQueued s p r)
  cseq : (session t p se).cseq = x.cseq
  ready : (session t p se).ready = if portOn s p then some s.time.uptime else none
  stopped : stopped t p se = stopped s p se
  step : TileStep p [Reg.TP.SESS_CFG p se] s t
  quiet : portOn s p = true → t.regs = s.regs

theorem backlog_inHand (s : State) (p se : Nat) (x : CSession) (r : CReq) : InHand p se x r s (backlog s p se x r) := by
  unfold backlog
  dsimp only
  cases hon : portOn s p with
  | true =>
    rw [if_pos rfl]
    refine ⟨?_, ?_, ?_, rfl, tileStep_setSession .., fun _ => rfl⟩
    · rw [session_setSession_same, asQueued_on r hon]
    · rw [session_setSession_same]
    · rw [session_setSession_same, hon, if_pos rfl]
  | false =>
    rw [if_neg (by decide)]
    have hsession (y : CSession) (b : Bool) (v : Nat) : session (wrF (setOutstanding (setSession s p se y) p se b)
        (Reg.TP.SESS_CFG p se) 31 16 v) p se = y := by
      rw [wrF, session_wr, setOutstanding, session_wr, session_setSession_same]
    refine ⟨?_, ?_, ?_, ?_, ?_, fun h => absurd h (by rw [hon]; decide)⟩
    · rw [hsession, asQueued_off r hon]
    · rw [hsession]
    · rw [hsession, hon, if_neg (by decide)]
    · rw [stopped, rdB, rd_wrF, if_pos rfl, bit_setFld_other _ _ _ _ _ (by decide) (by decide) (by decide),
        bit_setOutstanding _ _ _ _ (by decide)]
      rfl
    · exact ((tileStep_setSession ..).wr _ (List.mem_singleton_self _)).wr _ (List.mem_singleton_self _)

/-! ### The opening NOP (R245, R263) -/

/-- A control frame takes its port's next number of the type. -/
theorem controlFrame_snd (s : State) (p se op cseq addr dlen : Nat) (data : List Byte) :
    (controlFrame s p se op cseq addr dlen data).2 = (takeFidx s p 5).2 := rfl

/-- The NOP by which a session opens. -/
def openingNop (s : State) (p se : Nat) : CReq :=
  ⟨3, 0, 0, (controlFrame s p se 3 0 0 0 []).1, 0, 0, none, true, none, false⟩

theorem openSession_opens {s : State} {p se : Nat} (hready : sessReady s p se = true) (hnew : (session s p se).opened = false) :
    openSession s p se = backlog (takeFidx s p 5).2 p se { session (takeFidx s p 5).2 p se with cseq := 0 }
      (openingNop s p se) := by
  rw [openSession, hready, hnew, openingNop]
  dsimp only
  rw [controlFrame_snd]
  exact if_pos rfl

theorem openSession_rests {s : State} {p se : Nat} (h : sessReady s p se = false ∨ (session s p se).opened = true) :
    openSession s p se = s := by
  rw [openSession]
  refine if_neg ?_
  rcases h with h | h <;> simp [h]

theorem openSession_leaves (s : State) (p se : Nat) : stopped (openSession s p se) p se = stopped s p se ∧
    TileStep p [Reg.TP.SESS_CFG p se] s (openSession s p se) := by
  by_cases h : sessReady s p se = true ∧ (session s p se).opened = false
  · have hnop := backlog_inHand (takeFidx s p 5).2 p se { session (takeFidx s p 5).2 p se with cseq := 0 } (openingNop s p se)
    rw [openSession_opens h.1 h.2]
    exact ⟨hnop.stopped, (tileStep_takeFidx ..).trans hnop.step⟩
  · rw [openSession_rests (by rwa [not_and_or, Bool.not_eq_true, Bool.not_eq_false] at h)]
    exact ⟨rfl, .refl ..⟩

/-! ### The doorbell (R263) -/

/-- The state once a doorbell has stored PROD and restarted the session. -/
def rung (s : State) (p se : Nat) (v : Word) : State :=
  wr (wr s (Reg.TP.SESS_IDX p se) (setFld (rd s (Reg.TP.SESS_IDX p se)) 15 0 v.toNat)) (Reg.TP.SESS_CFG p se)
    (setBit (rd s (Reg.TP.SESS_CFG p se)) 14 false)

theorem sessIdx_ne_sessCfg (p se : Nat) : Reg.TP.SESS_IDX p se ≠ Reg.TP.SESS_CFG p se := by
  simp only [Reg.TP.SESS_IDX, Reg.TP.SESS_CFG]
  omega

theorem sessionDoorbell_accepted {s : State} {a : Agent} {p se : Nat} (v : Word) (hawake : Awake s)
    (hacc : Accepts s a (Reg.TP.SESS_IDX p se) .cfg) : exec (.sessionDoorbell a p se v) s =
      .next (touchSession s a (pageOf (Reg.TP.SESS_IDX p se)) (openSession (rung s p se v) p se)) := by
  change execSessionDoorbell a p se v s = _
  rw [execSessionDoorbell, live_awake hawake, guarded_accepted hacc, rung, wrCfg,
    rd_wr_other _ _ _ _ (sessIdx_ne_sessCfg p se).symm]

theorem rd_rung_idx (s : State) (p se : Nat) (v : Word) :
    rd (rung s p se v) (Reg.TP.SESS_IDX p se) = setFld (rd s (Reg.TP.SESS_IDX p se)) 15 0 v.toNat := by
  rw [rung, rd_wr_other _ _ _ _ (sessIdx_ne_sessCfg p se), rd_wr_same]

theorem rd_rung_cfg (s : State) (p se : Nat) (v : Word) :
    rd (rung s p se v) (Reg.TP.SESS_CFG p se) = setBit (rd s (Reg.TP.SESS_CFG p se)) 14 false := rd_wr_same ..

theorem stopped_rung (s : State) (p se : Nat) (v : Word) : stopped (rung s p se v) p se = false := by
  rw [stopped, rdB, rd_rung_cfg, bit_setBit_same _ _ _ (by decide)]

theorem prod_rung (s : State) (p se : Nat) (v : Word) : rdF (rung s p se v) (Reg.TP.SESS_IDX p se) 15 0 = fld v 15 0 := by
  rw [rdF, rd_rung_idx, fld_setFld_same _ _ _ _ (by decide) (by decide), fld, pow_zero, Nat.div_one]

theorem cons_rung (s : State) (p se : Nat) (v : Word) :
    rdF (rung s p se v) (Reg.TP.SESS_IDX p se) 31 16 = rdF s (Reg.TP.SESS_IDX p se) 31 16 := by
  rw [rdF, rd_rung_idx, fld_setFld_other _ _ (by decide) (by decide) (by decide), rdF]

theorem session_rung (s : State) (p se : Nat) (v : Word) : session (rung s p se v) p se = session s p se :=
  session_of_ports (by rw [rung, wr_ports, wr_ports]) p se

theorem tileStep_rung (s : State) (p se : Nat) (v : Word) :
    TileStep p [Reg.TP.SESS_IDX p se, Reg.TP.SESS_CFG p se] s (rung s p se v) :=
  ((TileStep.refl ..).wr _ (by simp)).wr _ (by simp)

theorem sessReady_rung (s : State) (p se : Nat) (v : Word) : sessReady (rung s p se v) p se =
    (rdB s (Reg.TP.SESS_CFG p se) 8 && (session s p se).req.isNone && fld v 15 0 != rdF s (Reg.TP.SESS_IDX p se) 31 16) := by
  have hen : rdB (rung s p se v) (Reg.TP.SESS_CFG p se) 8 = rdB s (Reg.TP.SESS_CFG p se) 8 := by
    rw [rdB, rd_rung_cfg, bit_setBit_other _ _ _ _ (by decide) (by decide), rdB]
  rw [sessReady, hen, stopped_rung, prod_rung, cons_rung, session_rung, Bool.not_false, Bool.and_true]

/-- No register of a session says whether the port is on. -/
theorem portOn_rung (s : State) (p : Nat) {se : Nat} (v : Word) (hse : se < 64) : portOn (rung s p se v) p = portOn s p := by
  have hregs {b : Nat} (h : b % 0x1000 < 0x400) : rd (rung s p se v) b = rd s b :=
    (tileStep_rung s p se v).regs b
      (by simp only [Reg.TP.SESS_IDX, Reg.TP.SESS_CFG, List.mem_cons, List.not_mem_nil, or_false]; omega)
  rw [portOn, rdB, rdB, hregs (by simp only [Reg.TP.PORT_CTRL]; omega), hregs (by decide), portOn, rdB, rdB]

/-- A session that is on and not yet opened, with nothing in hand and a descriptor pending, takes its opening NOP in hand. -/
theorem doorbell_opens {s : State} {p se : Nat} {v : Word} (hse : se < 64) (hen : rdB s (Reg.TP.SESS_CFG p se) 8 = true)
    (hidle : (session s p se).req = none) (hnew : (session s p se).opened = false)
    (hpending : fld v 15 0 ≠ rdF s (Reg.TP.SESS_IDX p se) 31 16) :
    ∃ r, (session (openSession (rung s p se v) p se) p se).req = some r ∧ r.nop = true ∧ r.op = 3 ∧ r.cseq = 0 ∧
      r.tries = (!portOn s p).toNat := by
  have hready : sessReady (rung s p se v) p se = true := by
    rw [sessReady_rung, hen, hidle]
    simpa using hpending
  rw [openSession_opens hready (by rw [session_rung, hnew]), (backlog_inHand ..).req]
  obtain ⟨hop, hcseq, hnop, -, htries⟩ := asQueued_keeps (takeFidx (rung s p se v) p 5).2 p (openingNop (rung s p se v) p se)
  rw [portOn_takeFidx, portOn_rung s p v hse] at htries
  generalize asQueued (takeFidx (rung s p se v) p 5).2 p (openingNop (rung s p se v) p se) = r at *
  exact ⟨r, rfl, hnop, hop, hcseq, htries.trans (Nat.zero_add _)⟩

/-- A rung session keeps CONS, has the doorbell's PROD, and runs; it takes nothing in hand where it is off or already open. -/
theorem doorbell_leaves (s : State) (p se : Nat) (v : Word) :
    rdF (openSession (rung s p se v) p se) (Reg.TP.SESS_IDX p se) 15 0 = fld v 15 0 ∧
      rdF (openSession (rung s p se v) p se) (Reg.TP.SESS_IDX p se) 31 16 = rdF s (Reg.TP.SESS_IDX p se) 31 16 ∧
      stopped (openSession (rung s p se v) p se) p se = false ∧
      TileStep p [Reg.TP.SESS_IDX p se, Reg.TP.SESS_CFG p se] s (openSession (rung s p se v) p se) ∧
      ((rdB s (Reg.TP.SESS_CFG p se) 8 = false ∨ (session s p se).opened = true) →
        (openSession (rung s p se v) p se).ports = s.ports) := by
  obtain ⟨hstopped, hopen⟩ := openSession_leaves (rung s p se v) p se
  have hidx : rd (openSession (rung s p se v) p se) (Reg.TP.SESS_IDX p se) = rd (rung s p se v) (Reg.TP.SESS_IDX p se) :=
    hopen.regs _ (by simp)
  refine ⟨?_, ?_, hstopped.trans (stopped_rung ..), (tileStep_rung s p se v).trans (hopen.mono (by simp)), fun hrest => ?_⟩
  · rw [rdF, hidx, ← rdF, prod_rung]
  · rw [rdF, hidx, ← rdF, cons_rung]
  · rw [openSession_rests, rung, wr_ports, wr_ports]
    rw [sessReady_rung, session_rung]
    exact hrest.imp_left fun hoff => by rw [hoff, Bool.false_and, Bool.false_and]

/-! ### Descriptors read (R263, R264, R391) -/

theorem noteRead_ports (s : State) (a n : Nat) : (noteRead s a n).ports = s.ports := by
  refine foldl_keep (fun s => s.ports) _ (fun s i => ?_) _ s
  unfold readWord32
  dsimp only
  split <;> split <;> split <;> simp only [raiseE_ports, wr_ports, bump_ports]

/-- What a read through the device address map meets is noted outside the ports and memory. -/
theorem noteDevRead_leaves (s : State) (a n : Nat) : (noteDevRead s a n).ports = s.ports ∧
    (noteDevRead s a n).mem = s.mem ∧ (noteDevRead s a n).hostMem = s.hostMem := by
  obtain ⟨-, hmem, hhost, -⟩ := noteDevRead_keep s a n
  refine ⟨?_, hmem, hhost⟩
  unfold noteDevRead
  split
  · exact noteRead_ports ..
  · rfl

theorem noteDevRead_twice (s : State) (a n b m : Nat) : (noteDevRead (noteDevRead s a n) b m).ports = s.ports ∧
    (noteDevRead (noteDevRead s a n) b m).mem = s.mem ∧ (noteDevRead (noteDevRead s a n) b m).hostMem = s.hostMem := by
  obtain ⟨hports, hmem, hhost⟩ := noteDevRead_leaves s a n
  obtain ⟨kports, kmem, khost⟩ := noteDevRead_leaves (noteDevRead s a n) b m
  exact ⟨kports.trans hports, kmem.trans hmem, khost.trans hhost⟩

/-- A descriptor's request is in hand: completed unsent with STATUS 4 where its OP is none of the three (R245). -/
def requestTaken (s : State) (p se : Nat) (known : Bool) (req : CReq) : State :=
  if known then backlog (takeFidx s p 5).2 p se { session (takeFidx s p 5).2 p se with cseq := req.cseq } req
  else setSession s p se { session s p se with cseq := req.cseq, req := some { req with frame := [], acked := some (4, []) } }

/-- The request that a descriptor asks for, with the next CSEQ (R245, R263). -/
def descRequest (s : State) (p se : Nat) (hd : List Byte) : CReq :=
  let d := sessDesc s p se (rdF s (Reg.TP.SESS_IDX p se) 31 16)
  let desc := devRead s d 32 hd
  let op := leAt desc 0 1
  let dlen := leAt desc 8 2
  let cseq := ((session s p se).cseq + 1) % 65536
  let data := if op = 2 then devRead s (leAt desc 0x10 8) dlen (if d < memBytes then hd else hd.drop 32) else []
  ⟨op, dlen, leAt desc 0x10 8, (controlFrame s p se op cseq (leAt desc 4 4) dlen data).1, cseq, 0, none, false, none, false⟩

theorem requestTaken_leaves (s : State) (p se : Nat) (known : Bool) (req : CReq) :
    (∃ r, (session (requestTaken s p se known req) p se).req = some r ∧ r.cseq = req.cseq ∧ r.nop = req.nop ∧ r.fail = req.fail) ∧
      (session (requestTaken s p se known req) p se).cseq = req.cseq ∧
      TileStep p [Reg.TP.SESS_CFG p se] s (requestTaken s p se known req) := by
  unfold requestTaken
  cases known with
  | true =>
    rw [if_pos rfl]
    have hand := backlog_inHand (takeFidx s p 5).2 p se { session (takeFidx s p 5).2 p se with cseq := req.cseq } req
    obtain ⟨-, hcseq, hnop, hfail, -⟩ := asQueued_keeps (takeFidx s p 5).2 p req
    exact ⟨⟨_, hand.req, hcseq, hnop, hfail⟩, hand.cseq, (tileStep_takeFidx ..).trans hand.step⟩
  | false =>
    rw [if_neg (by decide), session_setSession_same]
    exact ⟨⟨_, rfl, rfl, rfl, rfl⟩, rfl, tileStep_setSession ..⟩

theorem sessionDescReadDone_idle {s : State} {p se : Nat} (err : Bool) (hd : List Byte) (hlit : Lit s)
    (h : sessReady s p se = false ∨ (session s p se).opened = false) : exec (.sessionDescReadDone p se hd err) s = .next s := by
  change execSessionDescReadDone p se hd s err = _
  rw [execSessionDescReadDone, wall_lit hlit]
  refine congrArg _ (if_neg ?_)
  rcases h with h | h <;> simp [h]

section
variable {s : State} {p se : Nat} (hlit : Lit s) (hp : p < 256) (hse : se < 64) (hready : sessReady s p se = true)
  (hopened : (session s p se).opened = true)
include hlit hp hse hready hopened

theorem sessionDescReadDone_hostErr (hd : List Byte) (hhost : hostBase ≤ sessDesc s p se (rdF s (Reg.TP.SESS_IDX p se) 31 16)) :
    exec (.sessionDescReadDone p se hd true) s = .next (raiseE (bump s Reg.GBL.HOST_CPL_ERR) Page.GBL 2) := by
  change execSessionDescReadDone p se hd s true = _
  rw [execSessionDescReadDone, wall_lit hlit, if_pos (by simp [hp, hse, hready, hopened]), hostRead, List.any_cons,
    decide_eq_true hhost, Bool.true_or, if_pos (show (true && true) = true from rfl), noteHostErr, if_pos (le_refl _)]

/-- A descriptor read without error leaves its request in hand, and what its reads met noted. -/
theorem sessionDescReadDone_takes (hd : List Byte) : ∃ known t d n a m,
    t = requestTaken s p se known (descRequest s p se hd) ∧
      exec (.sessionDescReadDone p se hd false) s = .next (noteDevRead (noteDevRead t d n) a m) := by
  change ∃ known t d n a m, _ ∧ execSessionDescReadDone p se hd s false = _
  rw [execSessionDescReadDone, wall_lit hlit, if_pos (by simp [hp, hse, hready, hopened]), Bool.false_and,
    if_neg Bool.false_ne_true]
  split
  · refine ⟨false, _, _, _, _, _, ?_, rfl⟩
    rw [requestTaken, if_neg Bool.false_ne_true, descRequest]
  · refine ⟨true, _, _, _, _, _, ?_, rfl⟩
    rw [requestTaken, if_pos rfl, descRequest, controlFrame_snd]

end

/-! ### ACK_TMO (R245) -/

section
variable {s : State} {p se at_ : Nat} {r : CReq} (hlit : Lit s) (hreq : (session s p se).req = some r)
  (hsent : r.sent = some at_) (hacked : r.acked = none) (hfail : r.fail = false) (hready : (session s p se).ready = none)
include hlit hreq hsent hacked hfail hready

theorem sessionAckTimeout_early (hearly : overUs s at_ (rdF s Reg.TLG.SESSION 15 0) = false) :
    exec (.sessionAckTimeout p se) s = .next s := by
  change execSessionAckTimeout p se s = _
  rw [execSessionAckTimeout, wall_lit hlit, hreq]
  dsimp only
  rw [hsent, hacked, hfail, hready]
  exact congrArg _ (if_pos (by rw [← rdF, hearly]; rfl))

theorem sessionAckTimeout_over (hover : overUs s at_ (rdF s Reg.TLG.SESSION 15 0) = true) :
    exec (.sessionAckTimeout p se) s = .next (if r.tries ≤ rdF s Reg.TLG.SESSION 19 16
      then backlog s p se (session s p se) r else stopSession s p se (session s p se) r) := by
  change execSessionAckTimeout p se s = _
  rw [execSessionAckTimeout, wall_lit hlit, hreq]
  dsimp only
  rw [hsent, hacked, hfail, hready]
  exact congrArg _ (if_neg (by rw [← rdF, hover]; decide))

end

/-- A session that stops says so on its port and in TLG. -/
theorem stopSession_leaves (s : State) {p se : Nat} (x : CSession) (r : CReq) (hp : p < 256) (hse : se < 64) :
    stopped (stopSession s p se x r) p se = true ∧
      rd (stopSession s p se x r) Reg.TLG.SESS_FAIL = plusOne (rd s Reg.TLG.SESS_FAIL) := by
  have hcfg : Reg.TP.SESS_CFG p se < Reg.TLG.SESS_FAIL := by
    simp only [Reg.TP.SESS_CFG, Reg.TLG.SESS_FAIL]
    omega
  have hlast : Reg.TP.SESS_CFG p se ≠ Reg.TLG.LAST_SESS_FAIL := by
    simp only [Reg.TP.SESS_CFG, Reg.TLG.LAST_SESS_FAIL]
    omega
  unfold stopSession
  dsimp only
  constructor
  · rw [stopped, rdB, rd_raiseE, rd_raiseE, rd_wr_other _ _ _ _ hlast, rd_bump_other _ hcfg.ne,
      bit_setOutstanding _ _ _ _ (by decide), rd_wr_same, bit_setBit_same _ _ _ (by decide)]
  · rw [rd_raiseE, rd_raiseE, rd_wr_other _ _ _ _ (by decide), rd_bump_same, setOutstanding, rd_wr_other _ _ _ _ hcfg.ne',
      rd_wr_other _ _ _ _ hcfg.ne', rd_setSession]

theorem tileStep_stopSession (s : State) (p se : Nat) (x : CSession) (r : CReq) :
    TileStep p [Reg.TP.SESS_CFG p se, Reg.TLG.SESS_FAIL, Reg.TLG.LAST_SESS_FAIL] s (stopSession s p se x r) :=
  ((((((tileStep_setSession ..).wr _ (by simp)).wr _ (by simp)).wr _ (by simp)).wr _ (by simp)).raiseE _ _).raiseE _ _

end Sys2Proof.Machine
end

section
/-! SUPPORT. Completions in memory (R263, R267, R374): what a write through the device address map stores, and the words of a
session's descriptor that has been answered. -/

namespace Sys2Proof.Machine

/-! ### Writes through the device address map (R374) -/

theorem devWrite_frame (s : State) (a : Nat) (bs : List Byte) : devWrite s a bs =
    { s with mem := (devWrite s a bs).mem, poison := (devWrite s a bs).poison, hostMem := (devWrite s a bs).hostMem } := by
  unfold devWrite
  split
  · rfl
  · split <;> rfl

theorem MemoryExcept.mono {l m : List (Nat × Nat)} {s t : State} (h : MemoryExcept l s t)
    (hsub : ∀ x ∈ l, ∃ y ∈ m, y.1 ≤ x.1 ∧ x.1 + x.2 ≤ y.1 + y.2) : MemoryExcept m s t := by
  refine ⟨fun a ha => h.1 a fun x hx => ?_, fun a ha => h.2 a fun x hx => ?_⟩
  all_goals
    obtain ⟨y, hy, hlow, hhigh⟩ := hsub x hx
    have := ha y hy
    omega

theorem MemoryExcept.trans {l m : List (Nat × Nat)} {s t u : State} (h : MemoryExcept l s t) (k : MemoryExcept m t u) :
    MemoryExcept (l ++ m) s u :=
  ⟨fun a ha => (k.1 a fun x hx => ha x (List.mem_append_right _ hx)).trans (h.1 a fun x hx => ha x (List.mem_append_left _ hx)),
    fun a ha => (k.2 a fun x hx => ha x (List.mem_append_right _ hx)).trans (h.2 a fun x hx => ha x (List.mem_append_left _ hx))⟩

theorem MemoryExcept.of_same {l : List (Nat × Nat)} {s t : State} (h : SameMemory s t) : MemoryExcept l s t :=
  ⟨fun a _ => h.1 a, fun a _ => h.2 a⟩

/-- A write changes no byte outside its range. -/
theorem devWrite_except (s : State) (a : Nat) (bs : List Byte) : MemoryExcept [(a, bs.length)] s (devWrite s a bs) := by
  have hlisted {b : Nat} (h : ∀ r ∈ [(a, bs.length)], b < r.1 ∨ r.1 + r.2 ≤ b) : b < a ∨ a + bs.length ≤ b :=
    h _ (List.mem_singleton_self _)
  have hbase := memBytes_le_hostBase
  refine ⟨fun b hb => ?_, fun b hb => ?_⟩
  · have hout := hlisted hb
    unfold devWrite
    split
    · have hlen := List.length_take_le (memBytes - a) bs
      rw [memByte, memWrite, Store.get_setList, dif_neg (by rw [List.length_take]; omega), memByte]
    · split <;> rfl
  · have hout := hlisted hb
    by_cases ha : hostBase ≤ a ∧ s.pcie.cfg.busMaster = true
    · exact (hostByte_devWrite bs ha.1 ha.2).2 b (by omega)
    · rw [devWrite, if_neg ha]
      split <;> rfl

/-- Of two strings written one behind the other to device memory the second one reads back. -/
theorem memRead_devWrite_append (s : State) (a : Nat) (xs ys : List Byte) (ha : a < memBytes)
    (h : a + (xs ++ ys).length ≤ memBytes) : memRead (devWrite s a (xs ++ ys)) (a + xs.length) ys.length = ys := by
  rw [devWrite, if_pos ha]
  have hbytes := (memWrite_bytes s a (xs ++ ys) (decide_eq_true h)).1
  rw [List.length_append] at hbytes
  refine List.ext_getElem (memRead_length ..) fun i hi hi' => ?_
  have hat := hbytes (xs.length + i) (by omega)
  rw [memByte] at hat
  simp only [memRead, Store.slice, List.getElem_map, List.getElem_range, Nat.add_assoc, hat, byteAt,
    List.getD_eq_getElem?_getD, List.getElem?_append_right (Nat.le_add_right _ _), Nat.add_sub_cancel_left,
    List.getElem?_eq_getElem hi', Option.getD_some]

/-! ### A session's request completes (R263) -/

theorem length_leBytes (n v : Nat) : (leBytes n v).length = n := by
  induction n generalizing v with
  | zero => rfl
  | succ n ih => rw [leBytes, List.length_cons, ih]

section
variable {s : State} {p se : Nat} {r : CReq} (hlit : Lit s) (hreq : (session s p se).req = some r) (hnop : r.nop = false)
include hlit hreq hnop

theorem sessionComplete_waits (hacked : r.acked = none) (hfail : r.fail = false) : exec (.sessionComplete p se) s = .next s := by
  change execSessionComplete p se s = _
  rw [execSessionComplete, wall_lit hlit, hreq]
  dsimp only
  rw [hnop, hacked, hfail]
  rfl

theorem sessionComplete_ends (hend : r.acked.isSome = true ∨ r.fail = true) : ∃ status body,
    exec (.sessionComplete p se) s = .next (completeReq s p se (session s p se) r status body) := by
  change ∃ status body, execSessionComplete p se s = _
  rw [execSessionComplete, wall_lit hlit, hreq]
  dsimp only
  rw [hnop, if_neg (by decide)]
  cases hacked : r.acked with
  | some a => exact ⟨a.1, a.2, rfl⟩
  | none =>
    have hfail : r.fail = true := hend.resolve_left (by rw [hacked]; decide)
    exact ⟨0, [], congrArg _ (if_pos hfail)⟩

end

/-- What the completion of a request stores: a READ's data at its address, and the descriptor's last two words, its CSEQ the
second. -/
structure Answered (s t : State) (r : CReq) (d : Nat) : Prop where
  frame : t = { s with mem := t.mem, poison := t.poison, hostMem := t.hostMem }
  cseq : d + 0x20 ≤ memBytes → memRead t (d + 0x1C) 4 = leBytes 4 r.cseq
  others : MemoryExcept ((if r.op = 1 ∧ r.fail = false then [(r.data, r.dlen)] else []) ++ [(d + 0x18, 8)]) s t

theorem answered_devWrite (s : State) (r : CReq) (d w : Nat) (body : List Byte) :
    Answered s (devWrite (if r.op == 1 && !r.fail then devWrite s r.data (body.take r.dlen) else s) (d + 0x18)
      (leBytes 4 w ++ leBytes 4 r.cseq)) r d := by
  have hlen : (leBytes 4 w ++ leBytes 4 r.cseq).length = 8 := by rw [List.length_append, length_leBytes, length_leBytes]
  have hread (t : State) (h : d + 0x20 ≤ memBytes) :
      memRead (devWrite t (d + 0x18) (leBytes 4 w ++ leBytes 4 r.cseq)) (d + 0x1C) 4 = leBytes 4 r.cseq := by
    have k := memRead_devWrite_append t (d + 0x18) (leBytes 4 w) (leBytes 4 r.cseq) (by omega) (by rw [hlen]; omega)
    rwa [length_leBytes, length_leBytes] at k
  have hwords (t : State) := devWrite_except t (d + 0x18) (leBytes 4 w ++ leBytes 4 r.cseq)
  rw [hlen] at hwords
  refine ⟨?_, hread _, ?_⟩
  · split
    · rw [devWrite_frame (devWrite s _ _), devWrite_frame s]
    · exact devWrite_frame ..
  · split
    next hdata =>
      rw [if_pos (by simpa using hdata)]
      refine ((devWrite_except s r.data (body.take r.dlen)).mono fun x hx => ?_).trans (hwords _)
      obtain rfl := List.mem_singleton.mp hx
      exact ⟨_, List.mem_singleton_self _, le_refl _, Nat.add_le_add_left (List.length_take_le ..) _⟩
    next hnone =>
      rw [if_neg (by simpa using hnone)]
      exact hwords s

theorem rdF_wrF_upper (s : State) (a n : Nat) : rdF (wrF s a 31 16 n) a 31 16 = n % 65536 := by
  rw [rdF, rd_wrF, if_pos rfl, fld_setFld_same _ _ _ _ (by decide) (by decide)]
  rfl

/-- A completed request frees its session, advances CONS and stores its answer. -/
theorem completeReq_leaves (s : State) (p se : Nat) (x : CSession) (r : CReq) (status : Nat) (body : List Byte) :
    (session (completeReq s p se x r status body) p se).req = none ∧
      rdF (completeReq s p se x r status body) (Reg.TP.SESS_IDX p se) 31 16 =
        (rdF s (Reg.TP.SESS_IDX p se) 31 16 + 1) % 65536 ∧
      RegsExcept [Reg.TP.SESS_IDX p se] s (completeReq s p se x r status body) ∧
      OtherPorts p s (completeReq s p se x r status body) ∧
      ∀ d, d = sessDesc s p se (rdF s (Reg.TP.SESS_IDX p se) 31 16) →
        (d + 0x20 ≤ memBytes → memRead (completeReq s p se x r status body) (d + 0x1C) 4 = leBytes 4 r.cseq) ∧
        MemoryExcept ((if r.op = 1 ∧ r.fail = false then [(r.data, r.dlen)] else []) ++ [(d + 0x18, 8)]) s
          (completeReq s p se x r status body) := by
  obtain ⟨t, hanswered, heq⟩ : ∃ t, Answered s t r (sessDesc s p se (rdF s (Reg.TP.SESS_IDX p se) 31 16)) ∧
      completeReq s p se x r status body = raiseE (setSession (wrF t (Reg.TP.SESS_IDX p se) 31 16
        (rdF s (Reg.TP.SESS_IDX p se) 31 16 + 1)) p se x.idle) (Page.TP p) 5 := ⟨_, answered_devWrite .., rfl⟩
  obtain ⟨hframe, hcseq, hmem⟩ := hanswered
  have hports : t.ports = s.ports := by rw [hframe]
  have hregs (b : Nat) : rd t b = rd s b := by rw [rd, hframe, rd]
  have hstep : TileStep p [Reg.TP.SESS_IDX p se] t (completeReq s p se x r status body) := by
    rw [heq]
    exact ((TileStep.wr (.refl ..) _ (List.mem_singleton_self _)).trans (tileStep_setSession ..)).raiseE _ _
  refine ⟨?_, ?_, fun b hb => (hstep.regs b hb).trans (hregs b), (OtherPorts.of_ports hports).trans hstep.others, ?_⟩
  · rw [heq, session_of_ports (raiseE_ports ..), session_setSession_same]
    rfl
  · rw [heq, rdF, rd_raiseE, rd_setSession, ← rdF, rdF_wrF_upper]
  · rintro d rfl
    refine ⟨fun h => ?_, (hmem.trans (m := []) (.of_same hstep.sameMemory)).mono fun x hx => ?_⟩
    · rw [memRead, hstep.memory.1, ← memRead, hcseq h]
    · rw [List.append_nil] at hx
      exact ⟨x, hx, le_refl _, le_refl _⟩

end Sys2Proof.Machine
end

section
/-! SUPPORT. The discovery queue (R267): the descriptor that is read, and the frame that it drops, discards or takes. -/

namespace Sys2Proof.Machine

theorem mqDoorbell_accepted {s : State} {a : Agent} {p : Nat} (v : Word) (hawake : Awake s)
    (hacc : Accepts s a (Reg.TP.MQ_IDX p) .cfg) : exec (.mqDoorbell a p v) s = .next (touchSession s a (pageOf (Reg.TP.MQ_IDX p))
      (wr s (Reg.TP.MQ_IDX p) (setFld (rd s (Reg.TP.MQ_IDX p)) 15 0 v.toNat))) := by
  change execMqDoorbell a p v s = _
  rw [execMqDoorbell, live_awake hawake, guarded_accepted hacc, wrCfg]

/-! ### What a descriptor brings -/

/-- Index of the queue's next descriptor. -/
def mqCons (s : State) (p : Nat) : Nat := rdF s (Reg.TP.MQ_IDX p) 31 16

/-- The next descriptor, as it is read. -/
def mqRead (s : State) (p : Nat) (hd : List Byte) : List Byte := devRead s (mqDesc s p (mqCons s p)) 16 hd

/-- LEN of the next descriptor. -/
def mqLen (s : State) (p : Nat) (hd : List Byte) : Nat := nfld (leAt (mqRead s p hd) 8 4) 13 0

/-- TYPE of the frame that the next descriptor names. -/
def mqType (s : State) (p : Nat) (hd : List Byte) : Nat :=
  (byteAt (devRead s (leAt (mqRead s p hd) 0 8) (mqLen s p hd)
    (if mqDesc s p (mqCons s p) < memBytes then hd else hd.drop 16)) 0).toNat % 16

/-- Length and TYPE are those of a discovery frame. -/
def mqFits (s : State) (p : Nat) (hd : List Byte) : Bool :=
  decide (16 ≤ mqLen s p hd) && decide (mqLen s p hd ≤ 9198) && mqType s p hd == 7

theorem mqFits_iff {s : State} {p : Nat} {hd : List Byte} :
    mqFits s p hd = true ↔ 16 ≤ mqLen s p hd ∧ mqLen s p hd ≤ 9198 ∧ mqType s p hd = 7 := by
  simp only [mqFits, Bool.and_eq_true, decide_eq_true_eq, beq_iff_eq, and_assoc]

theorem mqFits_eq_false {s : State} {p : Nat} {hd : List Byte} (h : mqLen s p hd < 16 ∨ 9198 < mqLen s p hd ∨ mqType s p hd ≠ 7) :
    mqFits s p hd = false := by
  rw [Bool.eq_false_iff, ne_eq, mqFits_iff]
  omega

/-- The state in which the next descriptor's frame is dropped (R267). -/
def mqDropped (s : State) (p : Nat) : State :=
  raiseE (bump (mqComplete s p (mqCons s p) 2) (Reg.TP.MQ_DROPPED p)) (Page.TP p) 7

/-- The state once the next descriptor has been read: its frame taken in hand as `f`, discarded by a port that is off, or
dropped. -/
def mqTaken (s : State) (p : Nat) (f : MFrame) (fits : Bool) : State :=
  if fits then
    if portOn s p then setPort (takeFidx s p 7).2 p { port (takeFidx s p 7).2 p with mq := some (mqCons s p, f) }
    else wrF s (Reg.TP.MQ_IDX p) 31 16 (mqCons s p + 1)
  else mqDropped s p

/-- The queue is on, has no frame in hand, and a descriptor is pending. -/
structure MqPending (s : State) (p : Nat) : Prop where
  on : rdB s (Reg.TP.MQ_CFG p) 0 = true
  empty : (port s p).mq = none
  free : (port s p).mqBusy = false
  pending : rdF s (Reg.TP.MQ_IDX p) 15 0 ≠ rdF s (Reg.TP.MQ_IDX p) 31 16

theorem mqPending_iff {s : State} {p : Nat} : (rdB s (Reg.TP.MQ_CFG p) 0 && (port s p).mq.isNone && !(port s p).mqBusy &&
    rdF s (Reg.TP.MQ_IDX p) 15 0 != rdF s (Reg.TP.MQ_IDX p) 31 16) = true ↔ MqPending s p := by
  simp only [Bool.and_eq_true, Option.isNone_iff_eq_none, Bool.not_eq_true', bne_iff_ne]
  exact ⟨fun ⟨⟨⟨hon, hempty⟩, hfree⟩, hne⟩ => ⟨hon, hempty, hfree, hne⟩,
    fun h => ⟨⟨⟨h.on, h.empty⟩, h.free⟩, h.pending⟩⟩

theorem mqDescReadDone_idle {s : State} {p : Nat} (err : Bool) (hd : List Byte) (hlit : Lit s) (h : ¬ MqPending s p) :
    exec (.mqDescReadDone p hd err) s = .next s := by
  change execMqDescReadDone p hd s err = _
  rw [execMqDescReadDone, wall_lit hlit]
  refine congrArg _ (if_neg fun hc => h (mqPending_iff.mp ?_))
  simp only [Bool.and_eq_true] at hc ⊢
  obtain ⟨⟨⟨⟨-, hon⟩, hempty⟩, hfree⟩, hne⟩ := hc
  exact ⟨⟨⟨hon, hempty⟩, hfree⟩, hne⟩

/-! ### Reads that meet no word in error (R455) -/

theorem noteDevRead_clean {s : State} (h : s.poison = []) (a n : Nat) : noteDevRead s a n = s := by
  have hword (b : Nat) : (readWord32 s b .ok).2 = s := by rw [readWord32_clean (by rw [h]; rfl)]
  have hfold (l : List Nat) : l.foldl (fun s i => (readWord32 s (a / 32 * 32 + 32 * i) .ok).2) s = s := by
    induction l with
    | nil => rfl
    | cons i l ih => rw [List.foldl_cons, hword, ih]
  unfold noteDevRead
  split
  · exact hfold _
  · rfl

theorem devWrite_clean {s : State} (h : s.poison = []) (a : Nat) (bs : List Byte) : (devWrite s a bs).poison = [] := by
  unfold devWrite
  split
  · rw [memWrite, h, healed]
    generalize List.range _ = l
    induction l with
    | nil => rfl
    | cons i l ih => exact ih
  · split <;> exact h

/-! ### The frame of a descriptor -/

theorem mqTaken_clean {s : State} (p : Nat) (f : MFrame) (fits : Bool) (h : s.poison = []) : (mqTaken s p f fits).poison = [] := by
  unfold mqTaken
  split
  · split
    · rw [setPort_poison, takeFidx, setPort_poison, h]
    · rw [wrF_poison, h]
  · rw [mqDropped, raiseE_poison, bump_poison, mqComplete, wrF_poison]
    exact devWrite_clean h _ _

theorem mqDropped_leaves (s : State) (p : Nat) : rd (mqDropped s p) (Reg.TP.MQ_DROPPED p) = plusOne (rd s (Reg.TP.MQ_DROPPED p)) ∧
    rdF (mqDropped s p) (Reg.TP.MQ_IDX p) 31 16 = (mqCons s p + 1) % 65536 ∧ (mqDropped s p).ports = s.ports ∧
    RegsExcept [Reg.TP.MQ_DROPPED p, Reg.TP.MQ_IDX p] s (mqDropped s p) ∧
    MemoryExcept [(mqDesc s p (mqCons s p) + 0x0C, 4)] s (mqDropped s p) := by
  have hne : Reg.TP.MQ_DROPPED p ≠ Reg.TP.MQ_IDX p := by
    simp only [Reg.TP.MQ_DROPPED, Reg.TP.MQ_IDX]
    omega
  have hrd (b : Nat) : rd (devWrite s (mqDesc s p (mqCons s p) + 0x0C) (leBytes 4 2)) b = rd s b := by
    rw [devWrite_frame]
    rfl
  have hwrite := devWrite_except s (mqDesc s p (mqCons s p) + 0x0C) (leBytes 4 2)
  rw [length_leBytes] at hwrite
  unfold mqDropped mqComplete
  refine ⟨?_, ?_, ?_, fun b hb => ?_, ?_⟩
  · rw [rd_raiseE, rd_bump_same, rd_wrF, if_neg hne, hrd]
  · rw [rdF, rd_raiseE, rd_bump_other _ hne.symm, ← rdF, rdF_wrF_upper]
  · rw [raiseE_ports, bump_ports, wrF_ports, devWrite_frame]
  · simp only [List.mem_cons, List.not_mem_nil, or_false, not_or] at hb
    rw [rd_raiseE, rd_bump_other _ hb.1, rd_wrF, if_neg hb.2, hrd]
  · refine hwrite.trans (m := []) (.of_same (sameMemory_of_stores ?_ ?_))
    · rw [raiseE_mem, bump_mem, wrF_mem]
    · rw [raiseE_hostMem, bump_hostMem, wrF_hostMem]

/-- A frame in hand is its port's alone. -/
theorem mqTaken_hand {s : State} {p : Nat} (f : MFrame) (hon : portOn s p = true) :
    (port (mqTaken s p f true) p).mq = some (mqCons s p, f) ∧ (mqTaken s p f true).regs = s.regs ∧
      TileStep p [] s (mqTaken s p f true) := by
  rw [mqTaken, if_pos rfl, if_pos hon, port_setPort_same]
  exact ⟨rfl, rfl, (tileStep_takeFidx ..).setPort _⟩

theorem mqTaken_off {s : State} {p : Nat} (f : MFrame) (hoff : portOn s p = false) :
    mqTaken s p f true = wrF s (Reg.TP.MQ_IDX p) 31 16 (mqCons s p + 1) := by
  rw [mqTaken, if_pos rfl, hoff, if_neg Bool.false_ne_true]

section
variable {s : State} {p : Nat} (hlit : Lit s) (hp : p < 256) (hpending : MqPending s p)
include hlit hp hpending

theorem mqDescReadDone_hostErr (hd : List Byte) (hhost : hostBase ≤ mqDesc s p (mqCons s p)) :
    exec (.mqDescReadDone p hd true) s = .next (raiseE (bump s Reg.GBL.HOST_CPL_ERR) Page.GBL 2) := by
  change execMqDescReadDone p hd s true = _
  have hpend := mqPending_iff.mpr hpending
  rw [execMqDescReadDone, wall_lit hlit, if_pos (by rw [decide_eq_true hp, Bool.true_and]; exact hpend), hostRead, List.any_cons,
    ← rdF, ← mqCons, decide_eq_true hhost, Bool.true_or, if_pos (by rfl), noteHostErr, if_pos (le_refl _)]

/-- With no word of memory in error, a descriptor's frame is dropped, discarded by a port that is off, or taken in hand. -/
theorem mqDescReadDone_reads (hd : List Byte) (hclean : s.poison = []) : ∃ f,
    exec (.mqDescReadDone p hd false) s = .next (mqTaken s p f (mqFits s p hd)) := by
  have hread : ∃ f d n a m, execMqDescReadDone p hd s false =
      .next (noteDevRead (noteDevRead (mqTaken s p f (mqFits s p hd)) d n) a m) := by
    have hpend := mqPending_iff.mpr hpending
    rw [execMqDescReadDone, wall_lit hlit, if_pos (by rw [decide_eq_true hp, Bool.true_and]; exact hpend), Bool.false_and,
      if_neg Bool.false_ne_true]
    exact ⟨_, _, _, _, _, rfl⟩
  obtain ⟨f, d, n, a, m, hexec⟩ := hread
  have htaken := mqTaken_clean p f (mqFits s p hd) hclean
  exact ⟨f, hexec.trans (by rw [noteDevRead_clean htaken, noteDevRead_clean htaken])⟩

end

end Sys2Proof.Machine
end

section
/-! SUPPORT. Queue sampling (R269, R279): what a sample leaves of the registers of its class, and what a clear leaves of them. -/

namespace Sys2Proof.Machine

/-! ### Minima and maxima -/

theorem toNat_w32 {n : Nat} (h : n < 2 ^ 32) : (w32 n).toNat = n := by
  rw [w32, BitVec.toNat_ofNat, Nat.mod_eq_of_lt h]

theorem rdN_trough_same (s : State) (a v : Nat) : rdN (trough s a v) a = min (rdN s a) v := by
  have hlt : rdN s a < 2 ^ 32 := (rd s a).isLt
  unfold trough
  split
  · rw [rdN, rd_wr_same, toNat_w32 (by omega)]
    omega
  · omega

theorem rd_trough_other (s : State) {a b : Nat} (v : Nat) (h : b ≠ a) : rd (trough s a v) b = rd s b := by
  unfold trough
  split
  · exact rd_wr_other _ _ _ _ h
  · rfl

theorem rdN_peak_same (s : State) (a : Nat) {v : Nat} (hv : v < 2 ^ 32) : rdN (peak s a v) a = max (rdN s a) v := by
  unfold peak
  split
  · rw [rdN, rd_wr_same, toNat_w32 hv]
    omega
  · omega

/-! ### The registers of a class -/

/-- The minima and maxima of class `c` of a port. -/
abbrev classRegs (p c : Nat) : List Nat :=
  [Reg.TP.DEPTH_MIN p c, Reg.TP.DEPTH_MAX p c, Reg.TP.DELAY_MIN p c, Reg.TP.DELAY_MAX p c]

/-- The registers that sampling a port writes. -/
abbrev sampleRegs (p : Nat) : List Nat := (List.range 16).map (Reg.TP.HIST p) ++ (List.range 3).flatMap (classRegs p)

theorem mem_sampleRegs {p a : Nat} : a ∈ sampleRegs p ↔
    (∃ i, i < 16 ∧ a = Reg.TP.HIST p i) ∨ ∃ c, c < 3 ∧ a ∈ classRegs p c := by
  simp only [sampleRegs, List.mem_append, List.mem_map, List.mem_flatMap, List.mem_range, eq_comm (a := a)]

/-- Minima and maxima of two classes lie apart, below the counts and above the port's configuration. -/
theorem classRegs_bounds {p c a : Nat} (h : a ∈ classRegs p c) : 0x100210 + 0x1000 * p + 0x10 * c ≤ a ∧
    a < 0x100220 + 0x1000 * p + 0x10 * c := by
  simp only [List.mem_cons, List.not_mem_nil, or_false, Reg.TP.DEPTH_MIN, Reg.TP.DEPTH_MAX, Reg.TP.DELAY_MIN, Reg.TP.DELAY_MAX] at h
  omega

/-- The state with a depth and a delay of class `c` among its minima and maxima. -/
def classNoted (s : State) (p c : Nat) (v : Nat × Nat) : State :=
  peak (trough (peak (trough s (Reg.TP.DEPTH_MIN p c) v.1) (Reg.TP.DEPTH_MAX p c) v.1) (Reg.TP.DELAY_MIN p c) v.2)
    (Reg.TP.DELAY_MAX p c) v.2

/-- What a sample leaves of the minima and maxima of its class. -/
structure ClassSampled (p c : Nat) (v : Nat × Nat) (s t : State) : Prop where
  depthMin : rdN t (Reg.TP.DEPTH_MIN p c) = min (rdN s (Reg.TP.DEPTH_MIN p c)) v.1
  depthMax : v.1 < 2 ^ 32 → rdN t (Reg.TP.DEPTH_MAX p c) = max (rdN s (Reg.TP.DEPTH_MAX p c)) v.1
  delayMin : rdN t (Reg.TP.DELAY_MIN p c) = min (rdN s (Reg.TP.DELAY_MIN p c)) v.2
  delayMax : v.2 < 2 ^ 32 → rdN t (Reg.TP.DELAY_MAX p c) = max (rdN s (Reg.TP.DELAY_MAX p c)) v.2

/-- The four registers of a class in the order of their addresses. -/
theorem classRegs_rise (p c : Nat) : Reg.TP.DEPTH_MIN p c < Reg.TP.DEPTH_MAX p c ∧ Reg.TP.DEPTH_MAX p c < Reg.TP.DELAY_MIN p c ∧
    Reg.TP.DELAY_MIN p c < Reg.TP.DELAY_MAX p c := by
  simp only [Reg.TP.DEPTH_MIN, Reg.TP.DEPTH_MAX, Reg.TP.DELAY_MIN, Reg.TP.DELAY_MAX]
  omega

theorem rd_classNoted_other (s : State) {p c : Nat} (v : Nat × Nat) : RegsExcept (classRegs p c) s (classNoted s p c v) := by
  intro a ha
  simp only [List.mem_cons, List.not_mem_nil, or_false, not_or] at ha
  obtain ⟨hdmin, hdmax, hlmin, hlmax⟩ := ha
  rw [classNoted, rd_peak_other _ _ hlmax, rd_trough_other _ _ hlmin, rd_peak_other _ _ hdmax, rd_trough_other _ _ hdmin]

theorem classNoted_sampled (s : State) (p c : Nat) (v : Nat × Nat) : ClassSampled p c v s (classNoted s p c v) := by
  obtain ⟨hmin, hmax, hdelay⟩ := classRegs_rise p c
  refine ⟨?_, fun hv => ?_, ?_, fun hv => ?_⟩ <;> unfold classNoted
  · rw [rdN, rd_peak_other _ _ (by omega), rd_trough_other _ _ (by omega), rd_peak_other _ _ (by omega), ← rdN, rdN_trough_same]
  · rw [rdN, rd_peak_other _ _ (by omega), rd_trough_other _ _ (by omega), ← rdN, rdN_peak_same _ _ hv, rdN, rdN,
      rd_trough_other _ _ (by omega)]
  · rw [rdN, rd_peak_other _ _ (by omega), ← rdN, rdN_trough_same, rdN, rdN, rd_peak_other _ _ (by omega),
      rd_trough_other _ _ (by omega)]
  · rw [rdN_peak_same _ _ hv, rdN, rdN, rd_trough_other _ _ (by omega), rd_peak_other _ _ (by omega),
      rd_trough_other _ _ (by omega)]

/-! ### A class is sampled -/

/-- The class whose samples the histogram takes. -/
def histClass (s : State) (p : Nat) : Nat := min 2 (rdF s (Reg.TP.SAMPLE_CTRL p) 11 10)

/-- The count of the histogram that a sample of class `c` falls in. -/
def histBin (s : State) (p c : Nat) : Nat :=
  min 15 ((if rdB s (Reg.TP.SAMPLE_CTRL p) 12 then (sampleOf s p c).2 else (sampleOf s p c).1) /
    2 ^ rdF s (Reg.TP.SAMPLE_CTRL p) 17 13)

theorem sampleClass_eq (p n : Nat) (s : State) (c : Nat) : sampleClass p n s c =
    if histClass s p = c then bumpN (classNoted s p c (sampleOf s p c)) (Reg.TP.HIST p (histBin s p c)) n
    else classNoted s p c (sampleOf s p c) := rfl

/-- Two states in which a sample of port `p` reads the same. -/
structure SampledAlike (p : Nat) (s t : State) : Prop where
  tq : (port t p).tq = (port s p).tq
  sess : (port t p).sess = (port s p).sess
  lantern : (port t p).lantern = (port s p).lantern
  mq : (port t p).mq = (port s p).mq
  time : t.time = s.time
  config : ∀ a, a < 0x100210 + 0x1000 * p → rd t a = rd s a

theorem SampledAlike.of_ports {p : Nat} {s t : State} (hports : t.ports = s.ports) (htime : t.time = s.time)
    (hconfig : ∀ a, a < 0x100210 + 0x1000 * p → rd t a = rd s a) : SampledAlike p s t := by
  have hport := port_of_ports hports p
  exact ⟨by rw [hport], by rw [hport], by rw [hport], by rw [hport], htime, hconfig⟩

theorem SampledAlike.refl (p : Nat) (s : State) : SampledAlike p s s := .of_ports rfl rfl fun _ _ => rfl

theorem SampledAlike.trans {p : Nat} {s t u : State} (h : SampledAlike p s t) (k : SampledAlike p t u) : SampledAlike p s u :=
  ⟨k.tq.trans h.tq, k.sess.trans h.sess, k.lantern.trans h.lantern, k.mq.trans h.mq, k.time.trans h.time,
    fun a ha => (k.config a ha).trans (h.config a ha)⟩

theorem SampledAlike.waiting {p : Nat} {s t : State} (h : SampledAlike p s t) (c : Nat) : waiting t p c = waiting s p c := by
  have hctrl : rd t (Reg.TP.PORT_CTRL p) = rd s (Reg.TP.PORT_CTRL p) := h.config _ (by simp only [Reg.TP.PORT_CTRL]; omega)
  have hrate (n : Nat) : rateLen t p n = rateLen s p n := by rw [rateLen, rateLen, rdF, rdF, rdB, rdB, hctrl]
  unfold Machine.waiting
  dsimp only
  rw [h.tq, h.sess, h.lantern, h.mq, funext hrate]

theorem SampledAlike.sampleOf {p : Nat} {s t : State} (h : SampledAlike p s t) (c : Nat) : sampleOf t p c = sampleOf s p c := by
  rw [Machine.sampleOf, Machine.sampleOf, h.waiting, h.time]

theorem SampledAlike.hist {p : Nat} {s t : State} (h : SampledAlike p s t) (c : Nat) :
    histClass t p = histClass s p ∧ histBin t p c = histBin s p c := by
  have hctrl : rd t (Reg.TP.SAMPLE_CTRL p) = rd s (Reg.TP.SAMPLE_CTRL p) := h.config _ (by simp only [Reg.TP.SAMPLE_CTRL]; omega)
  constructor
  · rw [histClass, histClass, rdF, rdF, hctrl]
  · rw [histBin, histBin, rdB, rdB, rdF, rdF, hctrl, h.sampleOf]

theorem sampleClass_ports (p n : Nat) (s : State) (c : Nat) :
    (sampleClass p n s c).ports = s.ports ∧ (sampleClass p n s c).time = s.time := by
  have htrough (t : State) (a v : Nat) : (trough t a v).ports = t.ports ∧ (trough t a v).time = t.time := by
    unfold trough
    split <;> exact ⟨rfl, rfl⟩
  rw [sampleClass_eq, classNoted]
  split <;> simp only [bumpN_ports, bumpN_time, peak_ports, peak_time, htrough, and_self]

/-- A sample reaches its class's minima and maxima, and, where the histogram follows the class, one count. -/
theorem rd_sampleClass_other (p n : Nat) (s : State) {c a : Nat} (hclass : a ∉ classRegs p c)
    (hhist : histClass s p = c → a ≠ Reg.TP.HIST p (histBin s p c)) : rd (sampleClass p n s c) a = rd s a := by
  rw [sampleClass_eq]
  split
  next hc => rw [rd_bumpN, if_neg (hhist hc), rd_classNoted_other _ _ _ hclass]
  next => exact rd_classNoted_other _ _ _ hclass

theorem rd_sampleClass_noted (p n : Nat) (s : State) {c a : Nat} (ha : a < 0x100240 + 0x1000 * p) :
    rd (sampleClass p n s c) a = rd (classNoted s p c (sampleOf s p c)) a := by
  rw [sampleClass_eq]
  split
  · rw [rd_bumpN, if_neg (by simp only [Reg.TP.HIST]; omega)]
  · rfl

theorem sampleClass_alike (p n : Nat) (s : State) (c : Nat) : SampledAlike p s (sampleClass p n s c) := by
  obtain ⟨hports, htime⟩ := sampleClass_ports p n s c
  refine .of_ports hports htime fun a ha => ?_
  rw [rd_sampleClass_noted _ _ _ (by omega), rd_classNoted_other _ _ _ fun hmem => ?_]
  have := classRegs_bounds hmem
  omega

theorem SampledAlike.step {p : Nat} {s t : State} (h : SampledAlike p s t) (n c : Nat) : SampledAlike p s (sampleClass p n t c) :=
  h.trans (sampleClass_alike ..)

/-! ### The classes in order -/

/-- The three classes of a port are sampled `n` times. -/
def samplePort (p n : Nat) (s : State) : State := [0, 1, 2].foldl (sampleClass p n) s

theorem samplePort_ports (p n : Nat) (s : State) : (samplePort p n s).ports = s.ports :=
  foldl_keep (fun s => s.ports) _ (fun s c => (sampleClass_ports p n s c).1) _ s

theorem mem_classes {c : Nat} : c ∈ [0, 1, 2] ↔ c < 3 := by
  simp only [List.mem_cons, List.not_mem_nil, or_false]
  omega

theorem rd_samplePort_other (p n : Nat) (s : State) : RegsExcept (sampleRegs p) s (samplePort p n s) := by
  intro a ha
  rw [mem_sampleRegs, not_or] at ha
  refine foldl_unseen (fun s => rd s a) (P := fun _ => True) (fun _ _ _ => trivial) (fun t c hc _ => ?_) trivial
  exact rd_sampleClass_other p n t (fun hmem => ha.2 ⟨c, mem_classes.mp hc, hmem⟩)
    fun _ heq => ha.1 ⟨_, Nat.lt_succ_of_le (min_le_left _ _), heq⟩

/-- Of a class's minima and maxima its own sample alone decides. -/
theorem samplePort_class {p c a : Nat} (n : Nat) (s : State) (hc : c < 3) (ha : a ∈ classRegs p c) {Q : Nat → Nat → Prop}
    (hself : ∀ t, Q (rdN t a) (rdN (classNoted t p c (sampleOf s p c)) a)) : Q (rdN s a) (rdN (samplePort p n s) a) := by
  have hbounds := classRegs_bounds ha
  refine foldl_own (fun s => rdN s a) (P := SampledAlike p s) (i := c) (fun t b h => h.step n b) (fun t h => ?_)
    (fun t b _ _ hne => ?_) (by decide) (mem_classes.mpr hc) (.refl p s)
  · have hq := hself t
    rwa [← h.sampleOf, rdN, rdN, ← rd_sampleClass_noted p n t (by omega)] at hq
  · rw [rdN, rdN, rd_sampleClass_noted p n t (by omega), rd_classNoted_other _ _ _ fun hmem => ?_]
    have := classRegs_bounds hmem
    omega

theorem samplePort_sampled (p n : Nat) (s : State) {c : Nat} (hc : c < 3) :
    ClassSampled p c (sampleOf s p c) s (samplePort p n s) where
  depthMin := samplePort_class n s hc (by simp) (Q := fun x y => y = min x (sampleOf s p c).1)
    fun t => (classNoted_sampled t p c _).depthMin
  depthMax hv := samplePort_class n s hc (by simp) (Q := fun x y => y = max x (sampleOf s p c).1)
    fun t => (classNoted_sampled t p c _).depthMax hv
  delayMin := samplePort_class n s hc (by simp) (Q := fun x y => y = min x (sampleOf s p c).2)
    fun t => (classNoted_sampled t p c _).delayMin
  delayMax hv := samplePort_class n s hc (by simp) (Q := fun x y => y = max x (sampleOf s p c).2)
    fun t => (classNoted_sampled t p c _).delayMax hv

/-- The histogram takes its class's samples in one count. -/
theorem samplePort_hist {p b : Nat} (n : Nat) (s : State) (hb : b = Reg.TP.HIST p (histBin s p (histClass s p))) :
    rdN (samplePort p n s) b = min 0xFFFFFFFF (rdN s b + n) := by
  have hclass {c : Nat} (hc : c ∈ [0, 1, 2]) : b ∉ classRegs p c := fun hmem => by
    have hbounds := classRegs_bounds hmem
    have hlt := mem_classes.mp hc
    simp only [hb, Reg.TP.HIST] at hbounds
    omega
  have hown : histClass s p ∈ [0, 1, 2] := mem_classes.mpr (Nat.lt_succ_of_le (min_le_left _ _))
  refine foldl_own (fun s => rdN s b) (P := SampledAlike p s) (Q := fun x y => y = min 0xFFFFFFFF (x + n)) (i := histClass s p)
    (fun t c h => h.step n c) (fun t h => ?_) (fun t c hc h hne => ?_) (by decide) hown (.refl p s)
  · rw [sampleClass_eq, if_pos (h.hist 0).1, (h.hist _).2, ← hb, rdN, rd_bumpN, if_pos rfl, toNat_w32 (by omega), rdN,
      rd_classNoted_other _ _ _ (hclass hown), ← rdN]
  · rw [rdN, rd_sampleClass_other p n t (hclass hc) fun heq => absurd ((h.hist 0).1.symm.trans heq) hne.symm, ← rdN]

theorem sampleOf_delay_le (s : State) (p c : Nat) : (sampleOf s p c).2 ≤ 0xFFFFFFFF := min_le_left _ _

/-! ### QUEUE_SAMPLE (R269, R279) -/

/-- The multiple of INT that the counter passed last. -/
def sampleDue (s : State) (p : Nat) : Nat := multipleOf s (rdF s (Reg.TP.SAMPLE_CTRL p) 9 0)

/-- The multiples of INT passed since the port's last sample. -/
def multiplesPassed (s : State) (p : Nat) : Nat :=
  (sampleDue s p - nextMultiple (port s p).sampled (rdF s (Reg.TP.SAMPLE_CTRL p) 9 0)) /
    (rdF s (Reg.TP.SAMPLE_CTRL p) 9 0 * 1000) + 1

/-- The state in which a port has noted the multiple it samples for. -/
def sampleNoted (s : State) (p : Nat) : State := setPort s p { port s p with sampled := sampleDue s p }

theorem rd_sampleNoted (s : State) (p a : Nat) : rd (sampleNoted s p) a = rd s a := rd_setPort ..

theorem sampleNoted_alike (s : State) (p : Nat) : SampledAlike p s (sampleNoted s p) := by
  refine ⟨?_, ?_, ?_, ?_, rfl, fun _ _ => rd_sampleNoted ..⟩ <;> rw [sampleNoted, port_setPort_same]

theorem queueSample_idle {s : State} {p : Nat} (hawake : Awake s) (h : sampleDue s p ≤ (port s p).sampled) :
    exec (.queueSample p) s = .next s := by
  change execQueueSample p s = _
  rw [execQueueSample, live_awake hawake]
  refine congrArg _ (if_neg ?_)
  rw [← sampleDue, decide_eq_false (Nat.not_lt.mpr h), Bool.and_false]
  exact Bool.false_ne_true

theorem queueSample_due {s : State} {p : Nat} (hlit : Lit s) (hp : p < 256) (h : (port s p).sampled < sampleDue s p) :
    exec (.queueSample p) s = .next (samplePort p (multiplesPassed s p) (sampleNoted s p)) := by
  change execQueueSample p s = _
  rw [execQueueSample, live_awake hlit.1, ← sampleDue, decide_eq_true hp, decide_eq_true h, Bool.true_and, if_pos rfl]
  exact congrArg _ (if_pos hlit.2)

/-- What the samples of the multiples passed leave. -/
structure PortSampled (p : Nat) (s t : State) : Prop where
  sampled : (port t p).sampled = sampleDue s p
  others : OtherPorts p s t
  regs : RegsExcept (sampleRegs p) s t
  hist : rdN t (Reg.TP.HIST p (histBin s p (histClass s p))) =
    min 0xFFFFFFFF (rdN s (Reg.TP.HIST p (histBin s p (histClass s p))) + multiplesPassed s p)
  classes : ∀ c, c < 3 → ClassSampled p c (sampleOf s p c) s t

theorem samplePort_due (s : State) (p : Nat) : PortSampled p s (samplePort p (multiplesPassed s p) (sampleNoted s p)) := by
  have hports := samplePort_ports p (multiplesPassed s p) (sampleNoted s p)
  have halike := sampleNoted_alike s p
  have hrd (a : Nat) : rdN (sampleNoted s p) a = rdN s a := congrArg BitVec.toNat (rd_sampleNoted s p a)
  refine ⟨?_, (otherPorts_setPort s p _).trans (.of_ports hports), fun a ha => ?_, ?_, fun c hc => ?_⟩
  · rw [port_of_ports hports, sampleNoted, port_setPort_same]
  · rw [rd_samplePort_other _ _ _ a ha, rd_sampleNoted]
  · rw [samplePort_hist _ (sampleNoted s p) (by rw [(halike.hist 0).1, (halike.hist _).2]), hrd]
  · have hsample := samplePort_sampled p (multiplesPassed s p) (sampleNoted s p) hc
    rw [halike.sampleOf] at hsample
    exact ⟨by rw [hsample.depthMin, hrd], fun hv => by rw [hsample.depthMax hv, hrd], by rw [hsample.delayMin, hrd],
      fun hv => by rw [hsample.delayMax hv, hrd]⟩

/-! ### SAMPLE_CLEAR (R269) -/

/-- The minima and maxima of a class at their start values. -/
def classCleared (p : Nat) (s : State) (c : Nat) : State :=
  wr (wr (wr (wr s (Reg.TP.DEPTH_MIN p c) 0xFFFFFFFF) (Reg.TP.DEPTH_MAX p c) 0) (Reg.TP.DELAY_MIN p c) 0xFFFFFFFF)
    (Reg.TP.DELAY_MAX p c) 0

/-- A count of the histogram at 0. -/
def countCleared (p : Nat) (s : State) (i : Nat) : State := wr s (Reg.TP.HIST p i) 0

/-- The minima and maxima of the three classes at their start values. -/
def classesCleared (s : State) (p : Nat) : State := [0, 1, 2].foldl (classCleared p) s

/-- The port's minima, maxima and counts at their start values. -/
def sampleCleared (s : State) (p : Nat) : State := (List.range 16).foldl (countCleared p) (classesCleared s p)

theorem sampleClear_go {s : State} {a : Agent} {p : Nat} {v : Word} (hawake : Awake s)
    (hacc : Accepts s a (Reg.TP.SAMPLE_CLEAR p) .cmd) (hgo : bit v 0 = true) : exec (.sampleClear a p v) s =
      .next (touchSession s a (pageOf (Reg.TP.SAMPLE_CLEAR p))
        (if sampledNow s p then samplePort p 1 (sampleCleared s p) else sampleCleared s p)) := by
  change execSampleClear a p v s = _
  rw [execSampleClear, live_awake hawake, guarded_accepted hacc, hgo]
  rfl

theorem sampleClear_idle {s : State} {a : Agent} {p : Nat} {v : Word} (hawake : Awake s)
    (hacc : Accepts s a (Reg.TP.SAMPLE_CLEAR p) .cmd) (hgo : bit v 0 = false) : exec (.sampleClear a p v) s =
      .next (touchSession s a (pageOf (Reg.TP.SAMPLE_CLEAR p)) s) := by
  change execSampleClear a p v s = _
  rw [execSampleClear, live_awake hawake, guarded_accepted hacc, hgo]
  rfl

theorem sampleCleared_stores (s : State) (p : Nat) : (sampleCleared s p).ports = s.ports ∧ (sampleCleared s p).time = s.time := by
  have hports : (classesCleared s p).ports = s.ports := foldl_keep (fun s => s.ports) (classCleared p) (fun _ _ => rfl) _ s
  have htime : (classesCleared s p).time = s.time := foldl_keep (fun s => s.time) (classCleared p) (fun _ _ => rfl) _ s
  exact ⟨(foldl_keep (fun s => s.ports) (countCleared p) (fun _ _ => rfl) _ _).trans hports,
    (foldl_keep (fun s => s.time) (countCleared p) (fun _ _ => rfl) _ _).trans htime⟩

theorem rd_classCleared_other (p : Nat) (s : State) (c : Nat) : RegsExcept (classRegs p c) s (classCleared p s c) := by
  intro a ha
  simp only [List.mem_cons, List.not_mem_nil, or_false, not_or] at ha
  obtain ⟨hdmin, hdmax, hlmin, hlmax⟩ := ha
  rw [classCleared, rd_wr_other _ _ _ _ hlmax, rd_wr_other _ _ _ _ hlmin, rd_wr_other _ _ _ _ hdmax, rd_wr_other _ _ _ _ hdmin]

theorem rd_classCleared (p : Nat) (s : State) (c : Nat) :
    rd (classCleared p s c) (Reg.TP.DEPTH_MIN p c) = 0xFFFFFFFF ∧ rd (classCleared p s c) (Reg.TP.DEPTH_MAX p c) = 0 ∧
      rd (classCleared p s c) (Reg.TP.DELAY_MIN p c) = 0xFFFFFFFF ∧ rd (classCleared p s c) (Reg.TP.DELAY_MAX p c) = 0 := by
  obtain ⟨hmin, hmax, hdelay⟩ := classRegs_rise p c
  unfold classCleared
  refine ⟨?_, ?_, ?_, rd_wr_same ..⟩
  · rw [rd_wr_other _ _ _ _ (by omega), rd_wr_other _ _ _ _ (by omega), rd_wr_other _ _ _ _ (by omega), rd_wr_same]
  · rw [rd_wr_other _ _ _ _ (by omega), rd_wr_other _ _ _ _ (by omega), rd_wr_same]
  · rw [rd_wr_other _ _ _ _ (by omega), rd_wr_same]

theorem rd_countsCleared_other {s : State} {p a : Nat} (h : ∀ i, i < 16 → a ≠ Reg.TP.HIST p i) :
    rd (sampleCleared s p) a = rd (classesCleared s p) a := by
  unfold sampleCleared
  exact foldl_unseen (fun s => rd s a) (P := fun _ => True) (fun _ _ _ => trivial)
    (fun _ i hi _ => rd_wr_other _ _ _ _ (h i (List.mem_range.mp hi))) trivial

theorem rd_sampleCleared_other (s : State) (p : Nat) : RegsExcept (sampleRegs p) s (sampleCleared s p) := by
  intro a ha
  rw [mem_sampleRegs, not_or] at ha
  rw [rd_countsCleared_other fun i hi heq => ha.1 ⟨i, hi, heq⟩, classesCleared]
  exact foldl_unseen (fun s => rd s a) (P := fun _ => True) (fun _ _ _ => trivial)
    (fun t c hc _ => rd_classCleared_other p t c a fun hmem => ha.2 ⟨c, mem_classes.mp hc, hmem⟩) trivial

theorem rd_sampleCleared_hist (s : State) (p : Nat) {i : Nat} (hi : i < 16) : rd (sampleCleared s p) (Reg.TP.HIST p i) = 0 := by
  unfold sampleCleared
  refine foldl_own (fun s => rd s (Reg.TP.HIST p i)) (P := fun _ => True) (Q := fun _ y => y = 0) (i := i) (fun _ _ _ => trivial)
    (fun t _ => rd_wr_same t _ _) (fun t j _ _ hne => rd_wr_other t _ _ _ ?_) List.nodup_range (List.mem_range.mpr hi) trivial
  simp only [Reg.TP.HIST]
  omega

theorem rd_sampleCleared_class (s : State) (p : Nat) {c a : Nat} (hc : c < 3) (ha : a ∈ classRegs p c) {w : Word}
    (hself : ∀ t, rd (classCleared p t c) a = w) : rd (sampleCleared s p) a = w := by
  have hbounds := classRegs_bounds ha
  rw [rd_countsCleared_other fun i _ heq => by simp only [Reg.TP.HIST] at heq; omega, classesCleared]
  refine foldl_own (fun s => rd s a) (P := fun _ => True) (Q := fun _ y => y = w) (fun _ _ _ => trivial)
    (fun t _ => hself t) (fun t b _ _ hne => rd_classCleared_other p t b a fun hmem => ?_) (by decide) (mem_classes.mpr hc) trivial
  have := classRegs_bounds hmem
  omega

/-- What a clear leaves of the minima and maxima of a class. -/
theorem sampleCleared_class (s : State) (p : Nat) {c : Nat} (hc : c < 3) :
    rd (sampleCleared s p) (Reg.TP.DEPTH_MIN p c) = 0xFFFFFFFF ∧ rd (sampleCleared s p) (Reg.TP.DEPTH_MAX p c) = 0 ∧
      rd (sampleCleared s p) (Reg.TP.DELAY_MIN p c) = 0xFFFFFFFF ∧ rd (sampleCleared s p) (Reg.TP.DELAY_MAX p c) = 0 :=
  ⟨rd_sampleCleared_class s p hc (by simp) fun t => (rd_classCleared p t c).1,
    rd_sampleCleared_class s p hc (by simp) fun t => (rd_classCleared p t c).2.1,
    rd_sampleCleared_class s p hc (by simp) fun t => (rd_classCleared p t c).2.2.1,
    rd_sampleCleared_class s p hc (by simp) fun t => (rd_classCleared p t c).2.2.2⟩

theorem sampleCleared_alike (s : State) (p : Nat) : SampledAlike p s (sampleCleared s p) := by
  obtain ⟨hports, htime⟩ := sampleCleared_stores s p
  refine .of_ports hports htime fun a ha => rd_sampleCleared_other s p a fun hmem => ?_
  rcases mem_sampleRegs.mp hmem with ⟨i, -, heq⟩ | ⟨c, -, hclass⟩
  · simp only [Reg.TP.HIST] at heq
    omega
  · have := classRegs_bounds hclass
    omega

/-- A sample taken right after a clear finds nothing before it. -/
theorem sampleCleared_sampled (s : State) (p : Nat) {c : Nat} (hc : c < 3) :
    rdN (samplePort p 1 (sampleCleared s p)) (Reg.TP.DEPTH_MIN p c) = min 0xFFFFFFFF (sampleOf s p c).1 ∧
      rdN (samplePort p 1 (sampleCleared s p)) (Reg.TP.DELAY_MIN p c) = (sampleOf s p c).2 ∧
      rdN (samplePort p 1 (sampleCleared s p)) (Reg.TP.DELAY_MAX p c) = (sampleOf s p c).2 := by
  obtain ⟨hdepth, -, hmin, hmax⟩ := sampleCleared_class s p hc
  have hsample := samplePort_sampled p 1 (sampleCleared s p) hc
  have hdelay := sampleOf_delay_le s p c
  rw [(sampleCleared_alike s p).sampleOf c] at hsample
  refine ⟨?_, ?_, ?_⟩
  · rw [hsample.depthMin, rdN, hdepth]
    rfl
  · rw [hsample.delayMin, rdN, hmin]
    exact min_eq_right hdelay
  · rw [hsample.delayMax (by omega), rdN, hmax]
    exact max_eq_right (Nat.zero_le _)

end Sys2Proof.Machine
end

section
/-! The statements of 10_tile_link_protocol: links and the return path, and sessions and queues. -/

open Sys2Proof Sys2Proof.Machine

/-- Settles O39: each check of the return path ends a frame's way, and FAR_OK, lanterns and time frames reach the ports they name. -/
theorem returnPathAndLanterns : Obligations.ReturnPathAndLanterns := by
  refine ⟨fun s p up lock hawake hp => ?_, fun s p f hawake hp => ⟨tileFrameRx_linkDown f hawake, fun hlink =>
      ⟨tileFrameRx_fcsError hawake hp hlink, tileFrameRx_htlOff hawake hp hlink, fun hfcs hon =>
        ⟨tileFrameRx_notHtl hawake hp hlink hfcs hon, fun htype => ⟨tileFrameRx_badVersion hawake hp hlink hfcs hon htype,
          fun hver => ⟨tileFrameRx_foreign hawake hp hlink hfcs hon htype hver, fun hchain hlantern => ?_⟩⟩⟩⟩⟩,
    fun s p hlit hp => ⟨farOkLoss_holds hlit, fun hok => ?_⟩,
    fun s k n hlit => ⟨fun hidle => lanternQueue_idle hlit fun ⟨hcur, hnew, hclose⟩ => ?_, fun hcur hnew hclose hhtl hlant => ?_⟩,
    fun s hlit hen hper => ⟨timeFrameTick_early hlit hen, fun hdue => ?_⟩⟩
  · exact ⟨_, tileLinkChange_takes up lock hawake hp, setTileLink_leaves ..⟩
  · have hexec := tileFrameRx_lantern hawake hp hlink hfcs hon htype hver hchain hlantern
    refine ⟨fun hfar => ⟨_, hexec.trans (congrArg _ (if_neg hfar)), ?_⟩, fun hown => hexec.trans (congrArg _ (if_pos hown))⟩
    rw [← instantsSeen_bump_rxFrames s p]
    exact farLantern_leaves _ hp
  · refine ⟨_, farOkLoss_lost hlit hp hok, ?_⟩
    split
    next =>
      rw [← hok]
      exact settleFarOk_leaves s p
    next hclear => exact ⟨Bool.eq_false_iff.mpr hclear, fun _ _ => rfl, rfl⟩
  · rcases hidle with h | h | h
    · exact hnew h
    · exact h hcur
    · rw [h] at hclose
      cases hclose
  · obtain ⟨t, hexec, hport⟩ := lanternQueue_due hlit hhtl hlant ⟨hcur, hnew, hclose⟩
    refine ⟨t, hexec, fun p hp => ?_⟩
    rw [hport]
    exact queueLanterns_leave k n s hp
  · obtain ⟨hregs, htime, hports⟩ := queueTimeAll_leaves
      (s := { s with time := { s.time with tlg := nextMultiple s.time.tlg (rdF s Reg.TLG.TIME_PER 15 0) } }) hlit.2 hen
    exact ⟨_, timeFrameTick_due hlit hen hper hdue, hregs, congrArg _ htime, hports⟩

/-- Settles O41: a session opens, asks, retries and ends by the rules of its request in hand, the discovery queue by those of its
descriptors, and a sample by those of its class. -/
theorem sessionsAndQueues : Obligations.SessionsAndQueues := by
  refine ⟨⟨fun s a p se v hawake hp hse hacc => ?_, fun s p se err hd hlit hp hse => ⟨?_, ?_, sessionDescReadDone_idle err hd hlit⟩,
      fun s p se r at_ hlit hreq hsent hacked hfail hready => ⟨sessionAckTimeout_early hlit hreq hsent hacked hfail hready, ?_⟩,
      fun s p se r hlit hreq hnop => ⟨?_, sessionComplete_waits hlit hreq hnop⟩⟩,
    fun s a p v hawake hacc => mqDoorbell_accepted v hawake hacc,
    fun s p err hd hlit hp => ⟨fun hidle => mqDescReadDone_idle err hd hlit ?_, fun hon hempty hfree hpending => ⟨?_, ?_⟩⟩,
    fun s p hlit hp => ⟨fun hdue => ⟨_, queueSample_due hlit hp hdue, ?_⟩, queueSample_idle hlit.1⟩,
    fun s a p v hawake hp hacc => ⟨fun hgo => ⟨_, sampleClear_go hawake hacc hgo, ?_⟩, sampleClear_idle hawake hacc⟩⟩
  · obtain ⟨hprod, hcons, hstopped, hstep, hrests⟩ := doorbell_leaves s p se v
    have hopens := doorbell_opens (s := s) (p := p) (v := v) hse
    generalize heq : openSession (rung s p se v) p se = t at *
    have htouched := hstep.touchSession s a (pageOf (Reg.TP.SESS_IDX p se))
    refine ⟨_, heq ▸ sessionDoorbell_accepted v hawake hacc, ?_, ?_, ?_, htouched.regs, htouched.others, htouched.sameMemory, ?_, ?_⟩
    · rwa [rdF, rd_touchSession]
    · rwa [rdF, rd_touchSession]
    · rwa [stopped, rdB, rd_touchSession]
    · rwa [session_of_ports (touchSession_ports ..)]
    · rwa [touchSession_ports]
  · rintro hready hopened rfl hhost
    exact sessionDescReadDone_hostErr hlit hp hse hready hopened hd hhost
  · rintro hready hopened rfl
    obtain ⟨known, t, d, n, a, m, rfl, hexec⟩ := sessionDescReadDone_takes hlit hp hse hready hopened hd
    obtain ⟨⟨r, hreq, hrcseq, hnop, hfail⟩, hcseq, hstep⟩ := requestTaken_leaves s p se known (descRequest s p se hd)
    generalize requestTaken s p se known (descRequest s p se hd) = t at *
    obtain ⟨hports, hmem, hhost⟩ := noteDevRead_twice t d n a m
    refine ⟨_, r, hexec, ?_, hrcseq, ?_, hnop, hfail, hstep.others.trans (.of_ports hports),
      sameMemory_of_stores (hmem.trans hstep.memory.1) (hhost.trans hstep.memory.2)⟩
    · rw [session_of_ports hports, hreq]
    · rw [session_of_ports hports, hcseq, hrcseq]
  · intro hover
    have hexec := sessionAckTimeout_over hlit hreq hsent hacked hfail hready hover
    rcases Nat.lt_or_ge (rdF s Reg.TLG.SESSION 19 16) r.tries with hlast | hleft
    · refine ⟨_, hexec.trans (congrArg _ (if_neg (Nat.not_le.mpr hlast))), (tileStep_stopSession ..).others,
        fun h => absurd h (Nat.not_le.mpr hlast), fun h => absurd h (Nat.not_le.mpr hlast), fun _ hp hse => ?_⟩
      obtain ⟨hstopped, hcount⟩ := stopSession_leaves s (session s p se) r hp hse
      exact ⟨hstopped, hcount, (tileStep_stopSession ..).regs⟩
    · have hand := backlog_inHand s p se (session s p se) r
      refine ⟨_, hexec.trans (congrArg _ (if_pos hleft)), hand.step.others, fun _ hon => ⟨?_, ?_, hand.quiet hon⟩,
        fun _ hoff => ⟨?_, ?_⟩, fun h => absurd hleft (Nat.not_le.mpr h)⟩
      · rw [hand.req, asQueued_on r hon]
      · rw [hand.ready, hon, if_pos rfl]
      · rw [hand.ready, hoff, if_neg Bool.false_ne_true]
      · rw [hand.req, asQueued_off r hoff]
  · intro hend
    obtain ⟨status, body, hexec⟩ := sessionComplete_ends hlit hreq hnop hend
    exact ⟨_, hexec, completeReq_leaves s p se (session s p se) r status body⟩
  · rintro ⟨hon, hempty, hfree, hpending⟩
    rcases hidle with h | h | h | h
    · exact absurd hon (by rw [h]; decide)
    · exact absurd h (by rw [hempty]; decide)
    · exact absurd h (by rw [hfree]; decide)
    · exact hpending h
  · rintro rfl hhost
    exact mqDescReadDone_hostErr hlit hp ⟨hon, hempty, hfree, hpending⟩ hd hhost
  · rintro _ _ rfl rfl hclean rfl
    obtain ⟨f, hexec⟩ := mqDescReadDone_reads hlit hp ⟨hon, hempty, hfree, hpending⟩ hd hclean
    refine ⟨fun hbad => ?_, fun hlow hhigh htype hoff => ?_, fun hlow hhigh htype hport => ?_⟩
    · rw [mqFits_eq_false hbad, mqTaken, if_neg Bool.false_ne_true] at hexec
      obtain ⟨hcount, hcons, hports, hregs, hmem⟩ := mqDropped_leaves s p
      exact ⟨_, hexec, by rw [port_of_ports hports, hempty], hcount, hcons, .of_ports hports, hregs, hmem⟩
    · rw [mqFits_iff.mpr ⟨hlow, hhigh, htype⟩, mqTaken_off f hoff] at hexec
      exact hexec
    · rw [mqFits_iff.mpr ⟨hlow, hhigh, htype⟩] at hexec
      obtain ⟨hmq, hregs, hstep⟩ := mqTaken_hand f hport
      exact ⟨_, f, hexec, hmq, hregs, hstep.others, hstep.sameMemory⟩
  · have hsample := samplePort_due s p
    refine ⟨hsample.sampled, hsample.others, hsample.regs, ?_,
      fun c hc => ⟨(hsample.classes c hc).depthMin, (hsample.classes c hc).depthMax⟩⟩
    rintro _ _ rfl rfl
    exact hsample.hist
  · cases hnow : sampledNow s p with
    | false =>
      rw [if_neg Bool.false_ne_true]
      simp only [rd_touchSession]
      exact ⟨(touchSession_ports ..).trans (sampleCleared_stores s p).1,
        fun a ha => (rd_touchSession ..).trans (rd_sampleCleared_other s p a ha),
        fun _ => ⟨fun i hi => rd_sampleCleared_hist s p hi, fun c hc => sampleCleared_class s p hc⟩, fun h => absurd h (by decide)⟩
    | true =>
      rw [if_pos rfl]
      simp only [rdN, rd_touchSession]
      exact ⟨(touchSession_ports ..).trans ((samplePort_ports ..).trans (sampleCleared_stores s p).1),
        fun a ha => (rd_touchSession ..).trans ((rd_samplePort_other _ _ _ a ha).trans (rd_sampleCleared_other s p a ha)),
        fun h => absurd h (by decide), fun _ c hc => sampleCleared_sampled s p hc⟩

end

section
/-! SUPPORT. Egress (R255 to R267): what a frame that starts leaves, which frame a free transmitter takes, and what becomes of a
frame that has left. -/

namespace Sys2Proof.Machine

/-! ### A frame starts (R257, R258) -/

/-- Port `p` sends an HTL frame of `n` bytes: it is on the wire for its wire time, its class counts it in `count`, and of the port
nothing else changes. -/
structure Sent (p n : Nat) (cls : TxClass) (se : Nat) (mq : Option Nat) (count : Nat) (s t : State) : Prop where
  wire : ∃ bytes, port t p = { port s p with
    tx := some ⟨cls, bytes, tileClk s + wireTime (ethBytes n), se, mq⟩, txFree := tileClk s + wireTime (ethBytes n) }
  counted : rd t count = plusOne (rd s count)
  step : TileStep p (count :: txRegs p) s t

theorem TileStep.bump {p a : Nat} {l : List Nat} {s t : State} (h : TileStep p l s t) (ha : a ∈ l) : TileStep p l s (bump t a) :=
  h.wr _ ha

theorem TileStep.bump64 {p lo hi : Nat} {l : List Nat} {s t : State} (h : TileStep p l s t) (n : Nat) (hlo : lo ∈ l)
    (hhi : hi ∈ l) : TileStep p l s (bump64 t lo hi n) :=
  (h.wr _ hlo).wr _ hhi

theorem tileStep_startTx (s : State) (p : Nat) (cls : TxClass) (htl : List Byte) (se : Nat) (mq : Option Nat) :
    TileStep p (txRegs p) s (startTx s p cls htl se mq) := by
  unfold startTx
  dsimp only
  split
  · exact ((TileStep.refl ..).setPort _).bump64 _ (by simp) (by simp)
  · exact ((TileStep.refl ..).setPort _).bump (by simp)

theorem sent_startTx (s : State) {p count : Nat} (cls : TxClass) (htl : List Byte) (se : Nat) (mq : Option Nat)
    (hcount : count ∉ txRegs p) : Sent p htl.length cls se mq count s (bump (startTx s p cls htl se mq) count) where
  wire := by
    rw [port_bump]
    unfold startTx
    dsimp only
    split
    · exact ⟨_, by rw [port_bump64, port_setPort_same]⟩
    · exact ⟨_, by rw [port_bump, port_setPort_same]⟩
  counted := by rw [rd_bump_same, (tileStep_startTx ..).regs _ hcount]
  step := ((tileStep_startTx ..).mono (List.subset_cons_self ..)).bump List.mem_cons_self

/-! ### Class T -/

/-- ORIGIN takes twelve bytes (R236). -/
theorem length_origin (a b c : Nat) : (beBytes 6 a ++ beBytes 4 b ++ beBytes 2 c).length = 12 := by
  simp only [beBytes, List.length_append, List.length_reverse, length_leBytes]

theorem length_putBytes_congr (bs : List Byte) (o : Nat) {v w : List Byte} (h : v.length = w.length) :
    (putBytes bs o v).length = (putBytes bs o w).length := by
  simp only [putBytes, List.length_append, List.length_drop, h]

/-- Length of a class T frame as it leaves: a time frame has taken ORIGIN. -/
def tLength (f : TFrame) : Nat :=
  if f.time then (putBytes f.bytes 16 (List.replicate 12 0)).length else f.bytes.length

theorem startT_sends (s : State) (p : Nat) (f : TFrame) (rest : List TFrame) :
    Sent p (tLength f) .t 0 none (Reg.TP.TX_FRAMES_T p) (setPort s p { port s p with tq := rest }) (startT s p f rest) := by
  have hlen (a b c : Nat) : tLength f =
      (if f.time then putBytes f.bytes 16 (beBytes 6 a ++ beBytes 4 b ++ beBytes 2 c) else f.bytes).length := by
    unfold tLength
    split
    · exact length_putBytes_congr _ _ (by rw [length_origin, List.length_replicate])
    · rfl
  rw [hlen]
  exact sent_startTx _ .t _ 0 none (by simp)

/-! ### Shapers and credits (R265, R266) -/

/-- Of port `p` the shaper and the credit change at most, and nothing else but the free values used. -/
structure Charged (p : Nat) (s t : State) : Prop where
  port : ∃ shaper credit, port t p = { port s p with shaper := shaper, credit := credit }
  step : TileStep p [] s t

theorem charged_settlePort (s : State) (p : Nat) : Charged p s (settlePort s p) :=
  ⟨⟨_, _, port_setPort_same ..⟩, otherPorts_setPort _ _ _, fun _ _ => rfl, rfl, rfl⟩

theorem charged_chargeShaper (s : State) (p l : Nat) : Charged p s (chargeShaper s p l) := by
  unfold chargeShaper
  split
  · exact ⟨⟨_, _, rfl⟩, .refl ..⟩
  · obtain ⟨⟨shaper, credit, hport⟩, hstep⟩ := charged_settlePort s p
    exact ⟨⟨_, _, by rw [port_setPort_same, hport]⟩, hstep.setPort _⟩

theorem charged_chargeCredit (s : State) (p l : Nat) : Charged p s (chargeCredit s p l) := by
  obtain ⟨⟨shaper, credit, hport⟩, hstep⟩ := charged_settlePort s p
  exact ⟨⟨_, _, by rw [chargeCredit, port_setPort_same, hport]⟩, hstep.setPort _⟩

/-! ### Classes C and M -/

/-- The head of a session leaves once the session's tags, the aggregate and what SESS_CFG shows have been brought up to it. -/
theorem startC_sends (s : State) (p se : Nat) (x : CSession) (r : CReq) : ∃ u, (port u p).tq = (port s p).tq ∧
    TileStep p [Reg.TP.WFQ_V p, Reg.TP.SESS_CFG p se] s u ∧
    Sent p r.frame.length .c se none (Reg.TP.TX_FRAMES_C p) u (startC s p se x r) := by
  unfold startC
  dsimp only
  generalize hu : setSession s p se _ = u
  generalize hv : wr u (Reg.TP.WFQ_V p) _ = v
  generalize hw : chargeShaper v p _ = w
  have htq : (port v p).tq = (port s p).tq := by rw [← hv, port_wr, ← hu, setSession, port_setPort_same]
  have hcharged : Charged p v w := hw ▸ charged_chargeShaper ..
  have hwstep : TileStep p [Reg.TP.WFQ_V p, Reg.TP.SESS_CFG p se] s w := by
    refine TileStep.trans ?_ (hcharged.step.mono (List.nil_subset _))
    rw [← hv, ← hu]
    exact (tileStep_setSession ..).wr _ (by simp)
  obtain ⟨shaper, credit, hport⟩ := hcharged.port
  exact ⟨_, by rw [port_wr, port_wr, hport, htq], (hwstep.wr _ (by simp)).wr _ (by simp),
    sent_startTx _ .c _ se none (by simp)⟩

theorem txFramesC_not_mem (p se : Nat) : Reg.TP.TX_FRAMES_C p ∉ [Reg.TP.WFQ_V p, Reg.TP.SESS_CFG p se] := by
  simp only [Reg.TP.TX_FRAMES_C, Reg.TP.WFQ_V, Reg.TP.SESS_CFG, List.mem_cons, List.not_mem_nil, or_false]
  omega

/-- A lantern leaves once the credit has been charged for it. -/
theorem startM_lantern_sends (s : State) (p : Nat) (f : MFrame) : ∃ u, (port u p).lantern = none ∧ (port u p).mq = (port s p).mq ∧
    TileStep p [] s u ∧ ∃ n, Sent p n .m 0 none (Reg.TP.TX_FRAMES_M p) u (startM s p f none) := by
  unfold startM
  dsimp only
  generalize hu : chargeCredit s p _ = u
  have hcharged : Charged p s u := hu ▸ charged_chargeCredit ..
  obtain ⟨shaper, credit, hport⟩ := hcharged.port
  exact ⟨_, by rw [port_setPort_same]; rfl, by rw [port_setPort_same, hport]; rfl, hcharged.step.setPort _, _,
    sent_startTx _ .m _ 0 none (by simp)⟩

/-! ### The choice of the next frame (R256) -/

theorem egressSelect_selects {s : State} {p : Nat} (hlit : Lit s) (hp : p < 256) :
    exec (.egressSelect p) s = .next (selectFrame s p) := by
  change execEgressSelect p s = _
  rw [execEgressSelect, live_awake hlit.1, if_pos hp]

theorem selectFrame_rests {s : State} {p : Nat} (h : portOn s p = false ∨ (port s p).tx.isSome = true) : selectFrame s p = s := by
  rw [selectFrame]
  refine if_pos ?_
  rcases h with h | h <;> simp [h]

section
variable {s : State} {p : Nat} (hlit : Lit s) (hon : portOn s p = true) (hfree : (port s p).tx = none)
include hlit hon hfree

theorem selectFrame_pixel (hpixel : pixelFirst s p = true) : selectFrame s p = s := by
  simp [selectFrame, hon, hfree, hlit.2, hpixel]

theorem selectFrame_classT {f : TFrame} {rest : List TFrame} (hpixel : pixelFirst s p = false) (htq : (port s p).tq = f :: rest) :
    selectFrame s p = startT s p f rest := by
  simp [selectFrame, hon, hfree, hlit.2, hpixel, htq]

theorem selectFrame_lower (hpixel : pixelFirst s p = false) (htq : (port s p).tq = []) : selectFrame s p = selectCM s p := by
  simp [selectFrame, hon, hfree, hlit.2, hpixel, htq]

end

theorem selectCM_session {s : State} {p se : Nat} {x : CSession} {r : CReq} {rest : List (Nat × CSession × CReq)}
    (hopen : shaperOpen s p = true) (hback : backlogged (port s p) = (se, x, r) :: rest)
    (hfits : gateFit s p (ethBytes r.frame.length) (gateWindow s p 0) = .fits) : selectCM s p = startC s p se x r := by
  have hfirst : selectC p (gateWindow s p 0) s (backlogged (port s p)) = (true, startC s p se x r) := by
    rw [hback, selectC, hfits]
  rw [selectCM, if_pos hopen, hfirst, if_pos rfl]

theorem selectCM_lantern {s : State} {p : Nat} {f : MFrame} (hback : backlogged (port s p) = []) (hopen : creditOpen s p = true)
    (hlantern : (port s p).lantern = some f)
    (hfits : gateFit s p (ethBytes f.bytes.length) (gateWindow s p 1) = .fits) : selectCM s p = startM s p f none := by
  have hnone : (if shaperOpen s p then selectC p (gateWindow s p 0) s (backlogged (port s p)) else (false, s)) = (false, s) := by
    rw [hback, selectC, ite_self]
  rw [selectCM, hnone]
  dsimp only
  rw [if_neg Bool.false_ne_true, if_pos hopen, selectM, hlantern]
  dsimp only
  rw [hfits]

/-! ### A frame has left (R256, R257, R267) -/

/-- The descriptor of a frame of the firmware queue is completed, and the queue may read the next one. -/
def descCompleted (s : State) (p : Nat) : Option Nat → State
  | some i => mqComplete (setPort s p { port s p with mqBusy := false }) p i 1
  | none => s

theorem txFrameDone_waits {s : State} {p : Nat} {x : TxFrame} (hlit : Lit s) (htx : (port s p).tx = some x)
    (hearly : tileClk s < x.stop) : exec (.txFrameDone p) s = .next s := by
  change execTxFrameDone p s = _
  rw [execTxFrameDone, wall_lit hlit, htx]
  exact congrArg _ (if_pos hearly)

/-- A frame that has left frees the transmitter, whether or not a pixel frame counts as delayed by it. -/
theorem txFrameDone_frees {s : State} {p : Nat} {x : TxFrame} (hlit : Lit s) (htx : (port s p).tx = some x)
    (hleft : x.stop ≤ tileClk s) : ∃ u, (port u p).tx = none ∧ TileStep p [Reg.TP.P_BLOCKED p] s u ∧
      exec (.txFrameDone p) s = .next (descCompleted u p x.mq) := by
  change ∃ u, _ ∧ _ ∧ execTxFrameDone p s = _
  rw [execTxFrameDone, wall_lit hlit, htx]
  dsimp only
  rw [if_neg (Nat.not_lt.mpr hleft)]
  refine ⟨_, ?_, ?_, rfl⟩
  · split
    · split
      · rw [port_raiseE, port_bump, port_setPort_same, port_setPort_same]
      · rw [port_setPort_same]
    · rw [port_setPort_same]
  · have hfreed : TileStep p [Reg.TP.P_BLOCKED p] s (setPort s p { port s p with tx := none }) := (TileStep.refl ..).setPort _
    split
    · split
      · exact ((hfreed.setPort _).bump (List.mem_singleton_self _)).raiseE _ _
      · exact hfreed
    · exact hfreed

/-- The ring's place is read from three registers of the port. -/
theorem mqDesc_congr {s t : State} {p : Nat} (hhi : rd t (Reg.TP.MQ_RING_HI p) = rd s (Reg.TP.MQ_RING_HI p))
    (hlo : rd t (Reg.TP.MQ_RING_LO p) = rd s (Reg.TP.MQ_RING_LO p)) (hcfg : rd t (Reg.TP.MQ_CFG p) = rd s (Reg.TP.MQ_CFG p))
    (i : Nat) : mqDesc t p i = mqDesc s p i := by
  simp only [mqDesc, mqBase, rdN, rdF, hhi, hlo, hcfg]

/-- A completed descriptor has its last word written, and CONS passes it. -/
theorem mqComplete_leaves (s : State) (p i w : Nat) : rdF (mqComplete s p i w) (Reg.TP.MQ_IDX p) 31 16 = (i + 1) % 65536 ∧
    (mqComplete s p i w).ports = s.ports ∧ RegsExcept [Reg.TP.MQ_IDX p] s (mqComplete s p i w) ∧
    MemoryExcept [(mqDesc s p i + 0x0C, 4)] s (mqComplete s p i w) ∧
    (mqDesc s p i + 0x10 ≤ memBytes → memRead (mqComplete s p i w) (mqDesc s p i + 0x0C) 4 = leBytes 4 w) := by
  have hlen := length_leBytes 4 w
  have hregs (b : Nat) : rd (devWrite s (mqDesc s p i + 0x0C) (leBytes 4 w)) b = rd s b := by
    rw [devWrite_frame]
    rfl
  unfold mqComplete
  refine ⟨rdF_wrF_upper .., by rw [wrF_ports, devWrite_frame], fun b hb => ?_, ?_, fun h => ?_⟩
  · rw [rd_wrF, if_neg (by simpa using hb), hregs]
  · have hwrite := devWrite_except s (mqDesc s p i + 0x0C) (leBytes 4 w)
    rw [hlen] at hwrite
    exact hwrite.trans (m := []) (.of_same (sameMemory_of_stores (wrF_mem ..) (wrF_hostMem ..)))
  · have hread := memRead_devWrite_append s (mqDesc s p i + 0x0C) [] (leBytes 4 w) (by omega)
      (by rw [List.nil_append, hlen]; omega)
    rw [List.nil_append, List.length_nil, Nat.add_zero, hlen] at hread
    rw [memRead, wrF_mem, ← memRead, hread]

/-- The frame of descriptor `i` has left, and a pixel frame may have counted as delayed by it: the queue is free, and its descriptor
is completed with word 1. -/
theorem descCompleted_leaves {s u : State} {p : Nat} (h : TileStep p [Reg.TP.P_BLOCKED p] s u) (i : Nat) :
    port (descCompleted u p (some i)) p = { port u p with mqBusy := false } ∧ OtherPorts p s (descCompleted u p (some i)) ∧
      rdF (descCompleted u p (some i)) (Reg.TP.MQ_IDX p) 31 16 = (i + 1) % 65536 ∧
      RegsExcept [Reg.TP.P_BLOCKED p, Reg.TP.MQ_IDX p] s (descCompleted u p (some i)) ∧
      MemoryExcept [(mqDesc s p i + 0x0C, 4)] s (descCompleted u p (some i)) ∧
      (mqDesc s p i + 0x10 ≤ memBytes → memRead (descCompleted u p (some i)) (mqDesc s p i + 0x0C) 4 = leBytes 4 1) := by
  have hfreed : TileStep p [Reg.TP.P_BLOCKED p] s (setPort u p { port u p with mqBusy := false }) := h.setPort _
  have hdesc : mqDesc (setPort u p { port u p with mqBusy := false }) p i = mqDesc s p i :=
    mqDesc_congr (hfreed.regs _ (by simp)) (hfreed.regs _ (by simp)) (hfreed.regs _ (by simp)) i
  obtain ⟨hcons, hports, hregs, hmem, hword⟩ := mqComplete_leaves (setPort u p { port u p with mqBusy := false }) p i 1
  rw [hdesc] at hmem hword
  refine ⟨?_, hfreed.others.trans (.of_ports hports), hcons, fun a ha => ?_, ?_, hword⟩
  · rw [descCompleted, port_of_ports hports, port_setPort_same]
  · simp only [List.mem_cons, List.not_mem_nil, or_false, not_or] at ha
    exact (hregs a (by simpa using ha.2)).trans (hfreed.regs a (by simpa using ha.1))
  · exact MemoryExcept.trans (l := []) (.of_same hfreed.sameMemory) hmem

end Sys2Proof.Machine
end

section
/-! The statements of 11_egress_scheduling: the order in which a free transmitter takes its frames. -/

open Sys2Proof Sys2Proof.Machine

/-- Settles O40: a free transmitter's choice falls through class T, the sessions and the lantern, each start is a frame on the wire
that its class counts, and a frame that has left frees it. -/
theorem egressOrder : Obligations.EgressOrder := by
  refine ⟨fun s p hlit hp => ⟨fun hrest => ?_, fun hon hfree => ⟨fun hpixel => ?_, fun f rest hpixel htq => ?_, fun htq hpixel =>
      ⟨fun se x r rest _ hopen hback hfits => ?_, fun f hback hopen hlantern hfits => ?_⟩⟩, rfl⟩,
    fun s p x hlit htx => ⟨txFrameDone_waits hlit htx, fun hleft => ?_⟩⟩
  · rw [egressSelect_selects hlit hp, selectFrame_rests hrest]
  · rw [egressSelect_selects hlit hp, selectFrame_pixel hlit hon hfree hpixel]
  · rw [egressSelect_selects hlit hp, selectFrame_classT hlit hon hfree hpixel htq]
    obtain ⟨⟨bytes, hwire⟩, hcount, hstep⟩ := startT_sends s p f rest
    refine ⟨_, _, rfl, by rw [hwire], rfl, by rw [hwire, port_setPort_same], by rw [hcount, rd_setPort], rfl, ?_⟩
    have hleft := (TileStep.setPort (.refl ..) _).trans hstep
    exact ⟨hleft.others, hleft.regs⟩
  · rw [egressSelect_selects hlit hp, selectFrame_lower hlit hon hfree hpixel htq, selectCM_session hopen hback hfits]
    obtain ⟨u, hutq, hready, ⟨bytes, hwire⟩, hcount, hstep⟩ := startC_sends s p se x r
    exact ⟨_, _, rfl, by rw [hwire], rfl, rfl, by rw [hwire, hutq, htq], hready.others.trans hstep.others,
      by rw [hcount, hready.regs _ (txFramesC_not_mem p se)], ((hready.mono (by simp)).trans (hstep.mono (by simp))).regs⟩
  · rw [egressSelect_selects hlit hp, selectFrame_lower hlit hon hfree hpixel htq, selectCM_lantern hback hopen hlantern hfits]
    obtain ⟨u, hnone, hmq, hready, n, ⟨bytes, hwire⟩, hcount, hstep⟩ := startM_lantern_sends s p f
    exact ⟨_, _, rfl, by rw [hwire], rfl, rfl, by rw [hwire, hnone], by rw [hwire, hmq], hready.others.trans hstep.others,
      by rw [hcount, hready.regs _ List.not_mem_nil], ((hready.mono (by simp)).trans hstep).regs⟩
  · obtain ⟨u, hufree, hstep, hexec⟩ := txFrameDone_frees hlit htx hleft
    cases hmq : x.mq with
    | none =>
      rw [hmq] at hexec
      exact ⟨u, hexec, hufree, hstep.others, fun _ => ⟨hstep.sameMemory, hstep.regs⟩, fun _ h => (nomatch h)⟩
    | some i =>
      rw [hmq] at hexec
      obtain ⟨hport, hothers, hcons, hregs, hmem, hword⟩ := descCompleted_leaves hstep i
      refine ⟨_, hexec, by rw [hport, hufree], hothers, fun h => (nomatch h), ?_⟩
      rintro _ ⟨⟩
      exact ⟨by rw [hport], hcons, hregs, hmem, hword⟩

end

section
/-! SUPPORT. Time (R272 to R281): what an accepted write comes down to, what a capture latches, and what a step of the counter leaves
alone. -/

namespace Sys2Proof.Machine

/-! ### Registers left alone -/

theorem RegsExcept.refl (l : List Nat) (s : State) : RegsExcept l s s := fun _ _ => rfl

theorem RegsExcept.trans {l : List Nat} {s t u : State} (h : RegsExcept l s t) (k : RegsExcept l t u) : RegsExcept l s u :=
  fun a ha => (k a ha).trans (h a ha)

theorem RegsExcept.mono {l m : List Nat} {s t : State} (h : RegsExcept l s t) (hsub : l ⊆ m) : RegsExcept m s t :=
  fun a ha => h a fun hl => ha (hsub hl)

theorem RegsExcept.wr {l : List Nat} {s t : State} {a : Nat} (h : RegsExcept l s t) (v : Word) (ha : a ∈ l) :
    RegsExcept l s (wr t a v) :=
  fun b hb => (rd_wr_other _ _ _ _ (ne_of_mem_of_not_mem ha hb).symm).trans (h b hb)

theorem RegsExcept.of_regs {l : List Nat} {s t u : State} (h : RegsExcept l s t) (hregs : u.regs = t.regs) : RegsExcept l s u :=
  fun a ha => (congrArg (fun m => Store.get resetWord m a) hregs).trans (h a ha)

theorem RegsExcept.touchSession {l : List Nat} {s t r : State} {a : Agent} {pg : Nat}
    (h : RegsExcept l s t) : RegsExcept l s (touchSession r a pg t) :=
  h.of_regs (touchSession_regs ..)

theorem RegsExcept.raiseE {l : List Nat} {s t : State} {pg b : Nat} (h : RegsExcept l s t) : RegsExcept l s (raiseE t pg b) :=
  h.of_regs (raiseE_regs ..)

/-- A command that is a write of a register and is accepted has its effect. -/
theorem live_guarded {s t : State} {a : Agent} {addr : Nat} {v : Word} {k : LockKind} (hawake : Awake s)
    (hacc : Accepts s a addr k) : live s (guarded s a addr v k t) = .next (touchSession s a (pageOf addr) t) := by
  rw [live_awake hawake, guarded_accepted hacc]

/-! ### The increment (R274) -/

/-- An increment of less than 4 ns written in its two registers is the one in force. -/
theorem increment_written (s : State) {inc : Nat} (h : inc < 2 ^ 64) :
    increment (wr (wr s Reg.TIM.INC_NS (w32 (inc / 2 ^ 32))) Reg.TIM.INC_FRAC (w32 inc)) = inc := by
  simp only [increment, rdN, rd_wr_same, rd_wr_other _ _ _ _ (show Reg.TIM.INC_NS ≠ Reg.TIM.INC_FRAC by decide)]
  simp only [w32, BitVec.toNat_ofNat]
  omega

theorem increment_touchSession (s : State) (a : Agent) (pg : Nat) (t : State) : increment (touchSession s a pg t) = increment t := by
  simp only [increment, rdN, rd_touchSession]

theorem clampI_bounds {lo hi : Int} (v : Int) (h : lo ≤ hi) : lo ≤ clampI lo hi v ∧ clampI lo hi v ≤ hi := by
  unfold clampI
  split
  · exact ⟨le_refl _, h⟩
  · split <;> omega

/-! ### Captures (R275, R366) -/

/-- The registers that a capture writes. -/
abbrev capRegs : List Nat :=
  [Reg.TIM.CAP_STATUS, Reg.TIM.CAP_SEC_LO, Reg.TIM.CAP_SEC_HI, Reg.TIM.CAP_NS, Reg.TIM.CAP_FRAC]

/-- The CAP registers of `t` hold the counter as `s` has it, with VALID and their source. -/
structure Captured (source : Nat) (s t : State) : Prop where
  status : rd t Reg.TIM.CAP_STATUS = w32 (1 + 2 * source)
  sec : rd64 t Reg.TIM.CAP_SEC_LO Reg.TIM.CAP_SEC_HI = nowNs s / 1000000000 % 2 ^ 48
  ns : rdN t Reg.TIM.CAP_NS = nowNs s % 1000000000
  frac : rdN t Reg.TIM.CAP_FRAC = s.time.count % 2 ^ 32
  regs : RegsExcept (capRegs ++ [Reg.EVF.MERGED, Reg.EVF.LAST_MERGED]) s t

/-- The counter latched, before the capture line's pulse. -/
def counterLatched (s : State) (source : Nat) : State :=
  let sec := nowNs s / 1000000000
  wr (wr (wr (wr (wr s Reg.TIM.CAP_SEC_HI (w32 (sec / 2 ^ 32 % 2 ^ 16))) Reg.TIM.CAP_SEC_LO (w32 sec))
    Reg.TIM.CAP_NS (w32 (nowNs s % 1000000000))) Reg.TIM.CAP_FRAC (w32 s.time.count)) Reg.TIM.CAP_STATUS (w32 (1 + 2 * source))

theorem capture_eq (s : State) (source : Nat) : capture s source = pulse (counterLatched s source) 29 := (rfl)

theorem rd_counterLatched (s : State) (source b : Nat) : rd (counterLatched s source) b =
    if b = Reg.TIM.CAP_STATUS then w32 (1 + 2 * source) else if b = Reg.TIM.CAP_FRAC then w32 s.time.count
    else if b = Reg.TIM.CAP_NS then w32 (nowNs s % 1000000000)
    else if b = Reg.TIM.CAP_SEC_LO then w32 (nowNs s / 1000000000)
    else if b = Reg.TIM.CAP_SEC_HI then w32 (nowNs s / 1000000000 / 2 ^ 32 % 2 ^ 16) else rd s b := by
  simp only [counterLatched, rd_wr]

theorem capture_captured (s : State) (source : Nat) : Captured source s (capture s source) := by
  have hread {b : Nat} (hb : b ∈ capRegs) : rd (capture s source) b = rd (counterLatched s source) b := by
    rw [capture_eq, rd_pulse _ _ b ((by decide : ∀ b ∈ capRegs, b ∉ [Reg.EVF.MERGED, Reg.EVF.LAST_MERGED]) b hb)]
  have hlo : rd (capture s source) Reg.TIM.CAP_SEC_LO = w32 (nowNs s / 1000000000) := by
    rw [hread (by decide), rd_counterLatched]; rfl
  have hhi : rd (capture s source) Reg.TIM.CAP_SEC_HI = w32 (nowNs s / 1000000000 / 2 ^ 32 % 2 ^ 16) := by
    rw [hread (by decide), rd_counterLatched]; rfl
  have hns : rd (capture s source) Reg.TIM.CAP_NS = w32 (nowNs s % 1000000000) := by
    rw [hread (by decide), rd_counterLatched]; rfl
  have hfrac : rd (capture s source) Reg.TIM.CAP_FRAC = w32 s.time.count := by
    rw [hread (by decide), rd_counterLatched]; rfl
  refine ⟨by rw [hread (by decide), rd_counterLatched]; rfl, ?_, ?_, ?_, ?_⟩
  · simp only [rd64, rdN, hlo, hhi, w32, BitVec.toNat_ofNat]
    omega
  · rw [rdN, hns, toNat_w32 (by omega)]
  · rw [rdN, hfrac, w32, BitVec.toNat_ofNat]
  · have hlatched : RegsExcept capRegs s (counterLatched s source) := by
      refine (((((RegsExcept.refl _ s).wr _ ?_).wr _ ?_).wr _ ?_).wr _ ?_).wr _ ?_ <;> decide
    rw [capture_eq]
    exact (hlatched.mono (by simp)).trans ((rd_pulse _ _).mono (by simp))

/-- A line armed for capture (R275). -/
def lineArmed (s : State) (v : Word) : State :=
  { wrB (wrCfg s Reg.TIM.CAP_CTRL (v &&& 0x3FF)) Reg.TIM.CAP_STATUS 0 false with time := { s.time with capSeen := false } }

theorem lineArmed_regs (s : State) (v : Word) : RegsExcept [Reg.TIM.CAP_CTRL, Reg.TIM.CAP_STATUS] s (lineArmed s v) :=
  .of_regs (t := wrB (wrCfg s Reg.TIM.CAP_CTRL (v &&& 0x3FF)) Reg.TIM.CAP_STATUS 0 false)
    (((RegsExcept.refl _ s).wr _ (by decide)).wr _ (by decide)) rfl

theorem captureArm_arms {s : State} {a : Agent} {v : Word} (hawake : Awake s) (hacc : Accepts s a Reg.TIM.CAP_CTRL .cfg)
    (harm : bit v 9 = true) : exec (.captureArm a v) s = .next (touchSession s a Page.TIM (lineArmed s v)) := by
  refine (live_guarded hawake hacc).trans ?_
  rw [harm]
  rfl

/-- The armed line has pulsed, and is armed no more. -/
def lineDisarmed (s : State) : State :=
  wrCfg { s with time := { s.time with capSeen := false } } Reg.TIM.CAP_CTRL (setBit (rd s Reg.TIM.CAP_CTRL) 9 false)

theorem captureEvent_captures {s : State} (hawake : Awake s) (hseen : s.time.capSeen = true)
    (harmed : rdB s Reg.TIM.CAP_CTRL 9 = true) : exec .captureEvent s = .next (capture (lineDisarmed s) 1) := by
  change live s _ = _
  rw [hseen, harmed]
  exact live_awake hawake

/-! ### Steps (R277 to R281) -/

theorem PortsOnly.foldl {α : Type} {f : State → α → State} (h : ∀ s a, PortsOnly s (f s a)) (l : List α) (s : State) :
    PortsOnly s (l.foldl f s) := by
  induction l generalizing s with
  | nil => rfl
  | cons a l ih => exact (h s a).trans (ih _)

theorem portsOnly_queueTimeAll (s : State) : PortsOnly s (queueTimeAll s) := by
  unfold queueTimeAll
  split
  · exact .foldl portsOnly_queueTime _ s
  · rfl

/-- Publishing slots writes no register and leaves the clock. -/
theorem publish_leaves (s : State) (n : Nat) : (publish s n).regs = s.regs ∧ (publish s n).time = s.time := by
  unfold publish
  split <;> exact ⟨rfl, rfl⟩

theorem rd_publish (s : State) (n b : Nat) : rd (publish s n) b = rd s b := by
  rw [rd, (publish_leaves s n).1, rd]

/-- No slot is in progress, RESYNC shows. -/
def resyncShown (s : State) : State := wrB (wrB s Reg.TIM.TIM_STATUS 1 false) Reg.TIM.TIM_STATUS 2 true

/-- A step of the counter lets phase instants show in PH_RUN and RESYNC alone (R280). -/
theorem stepPhases_leaves (s : State) (d : Int) : (stepPhases s d).time = s.time ∧
    RegsExcept [Reg.TIM.TIM_STATUS] s (stepPhases s d) ∧
    rdB (stepPhases s d) Reg.TIM.TIM_STATUS 0 = rdB s Reg.TIM.TIM_STATUS 0 := by
  unfold stepPhases
  split
  · have hread (b : Nat) : rd (publish { resyncShown s with grid := { s.grid with cur := none } } (nowNsUp s + ms50)) b =
        rd (resyncShown s) b := rd_publish ..
    refine ⟨(publish_leaves ..).2, fun b hb => (hread b).trans ?_, (congrArg (bit · 0) (hread _)).trans ?_⟩
    · exact ((RegsExcept.refl _ s).wr _ (by decide)).wr _ (by decide) b hb
    · rw [resyncShown, rd_wrB, if_pos rfl, bit_setBit_other _ _ _ _ (by decide) (by decide), rd_wrB, if_pos rfl,
        bit_setBit_other _ _ _ _ (by decide) (by decide), rdB]
  · exact ⟨rfl, .refl _ _, rfl⟩

/-- STEP.GO asks for the counter value that the registers give, an offset or an instant (R277). -/
theorem step_requested {s : State} {a : Agent} {v : Word} {c : Int} (hawake : Awake s) (hacc : Accepts s a Reg.TIM.STEP .cmd)
    (hgo : bit v 0 = true)
    (hofs : bit v 1 = false → c = s.time.count + (toSigned 48 (stepSec s) * 1000000000 + toSigned 32 (rdN s Reg.TIM.STEP_NS)) * 2 ^ 32)
    (habs : bit v 1 = true → c = ((stepSec s * 1000000000 + rdN s Reg.TIM.STEP_NS) * 2 ^ 32 : Nat)) :
    exec (if bit v 1 then .stepAbsolute a v else .stepOffset a v) s =
      .next (touchSession s a Page.TIM (stepRequest s (bit v 1) c)) := by
  cases hset : bit v 1 with
  | false =>
    refine (live_guarded hawake hacc).trans ?_
    rw [hgo, hset, hofs hset]
    rfl
  | true =>
    refine (live_guarded hawake hacc).trans ?_
    rw [hgo, hset, habs hset]
    rfl

/-- A step asked for: more than JUMP_MAX from the counter, once the time is valid (R278). -/
def jumps (s : State) (c : Int) : Prop :=
  rdB s Reg.TIM.TIM_STATUS 0 = true ∧ rdN s Reg.TIM.JUMP_MAX * 1000 * 2 ^ 32 < (c - s.time.count).natAbs

theorem stepRequest_refused {s : State} {c : Int} (abs : Bool) (h : jumps s c) : stepRequest s abs c = raiseE (enterHoldover
    (wr64 (bump s Reg.TIM.STEP_REFUSED) Reg.TIM.LAST_REFUSED_LO Reg.TIM.LAST_REFUSED_HI
      (wrapTo 64 ((c - s.time.count).tdiv (2 ^ 32)))) 2) Page.TIM 1 := if_pos h

/-- What a refused step leaves (R278): the count of the refusal, the offset refused, and holdover with cause 2. -/
theorem stepRequest_refuses {s : State} {c : Int} (abs : Bool) (h : jumps s c) :
    ((stepRequest s abs c).time = s.time ∧ (stepRequest s abs c).ports = s.ports ∧ (stepRequest s abs c).grid = s.grid) ∧
    rd (stepRequest s abs c) Reg.TIM.STEP_REFUSED = plusOne (rd s Reg.TIM.STEP_REFUSED) ∧
    rd (stepRequest s abs c) Reg.TIM.SYNC_STATE = 10 ∧
    RegsExcept [Reg.TIM.STEP_REFUSED, Reg.TIM.LAST_REFUSED_LO, Reg.TIM.LAST_REFUSED_HI, Reg.TIM.SYNC_STATE] s
      (stepRequest s abs c) := by
  rw [stepRequest_refused abs h]
  refine ⟨⟨raiseE_time .., raiseE_ports .., raiseE_grid ..⟩, ?_, ?_, RegsExcept.raiseE ?_⟩
  · rw [rd_raiseE, enterHoldover, wrCfg, wr64, rd_wr_other _ _ _ _ (by decide), rd_wr_other _ _ _ _ (by decide),
      rd_wr_other _ _ _ _ (by decide), rd_bump_same]
  · exact (rd_raiseE ..).trans (rd_wr_same ..)
  · refine ((((RegsExcept.refl _ s).wr _ ?_).wr _ ?_).wr _ ?_).wr _ ?_ <;> decide

/-- The counter moved to `c`, counted, TIME_VALID set by an absolute step. -/
def counterMoved (s : State) (abs : Bool) (c : Int) : State :=
  let t := bump { s with time := { s.time with count := (c % counterModulus).toNat, steps := s.time.steps + 1 } } Reg.TIM.STEP_COUNT
  if abs then wrB t Reg.TIM.TIM_STATUS 0 true else t

theorem stepRequest_taken {s : State} {c : Int} (abs : Bool) (h : ¬ jumps s c) :
    stepRequest s abs c = queueTimeAll (stepPhases (counterMoved s abs c) (c - s.time.count)) := if_neg h

theorem counterMoved_leaves (s : State) (abs : Bool) (c : Int) :
    (counterMoved s abs c).time = { s.time with count := (c % counterModulus).toNat, steps := s.time.steps + 1 } ∧
    RegsExcept [Reg.TIM.STEP_COUNT, Reg.TIM.TIM_STATUS] s (counterMoved s abs c) ∧
    rd (counterMoved s abs c) Reg.TIM.STEP_COUNT = plusOne (rd s Reg.TIM.STEP_COUNT) ∧
    rdB (counterMoved s abs c) Reg.TIM.TIM_STATUS 0 = (rdB s Reg.TIM.TIM_STATUS 0 || abs) := by
  have hcounted : RegsExcept [Reg.TIM.STEP_COUNT, Reg.TIM.TIM_STATUS] s (counterMoved s false c) :=
    (RegsExcept.refl _ s).wr _ (by decide)
  cases abs with
  | false =>
    exact ⟨rfl, hcounted, rd_bump_same _ _, (congrArg (bit · 0) (rd_bump_other _ (by decide))).trans (Bool.or_false _).symm⟩
  | true =>
    refine ⟨rfl, hcounted.wr _ (by decide), (rd_wr_other _ _ _ _ (by decide)).trans (rd_bump_same _ _), ?_⟩
    refine (congrArg (bit · 0) (rd_wr_same ..)).trans ?_
    rw [bit_setBit_same _ _ _ (by decide), Bool.or_true]

/-- What an accepted step leaves (R277, R279): the clock with the new count, and every period's last multiple as it was. -/
theorem stepRequest_moves {s : State} {c : Int} (abs : Bool) (h : ¬ jumps s c) :
    (stepRequest s abs c).time = { s.time with count := (c % counterModulus).toNat, steps := s.time.steps + 1 } ∧
    rd (stepRequest s abs c) Reg.TIM.STEP_COUNT = plusOne (rd s Reg.TIM.STEP_COUNT) ∧
    rdB (stepRequest s abs c) Reg.TIM.TIM_STATUS 0 = (rdB s Reg.TIM.TIM_STATUS 0 || abs) ∧
    RegsExcept [Reg.TIM.STEP_COUNT, Reg.TIM.TIM_STATUS] s (stepRequest s abs c) := by
  obtain ⟨htime, hregs, hcount, hvalid⟩ := counterMoved_leaves s abs c
  obtain ⟨ptime, pregs, pvalid⟩ := stepPhases_leaves (counterMoved s abs c) (c - s.time.count)
  rw [stepRequest_taken abs h, portsOnly_queueTimeAll]
  exact ⟨ptime.trans htime, (pregs _ (by decide)).trans hcount, pvalid.trans hvalid, hregs.trans (pregs.mono (by decide))⟩

end Sys2Proof.Machine
end

section
/-! The statements of 12_time_and_phase_alignment. -/

open Sys2Proof Sys2Proof.Machine

/-- Settles O42: each write is its effect on the registers it names; a capture is the counter latched, a step stepRequest's two
outcomes. -/
theorem counterCapturesAndSteps : Obligations.CounterCapturesAndSteps := by
  refine ⟨fun s hawake => ⟨_, live_awake hawake, rfl, rfl, rfl⟩, fun s a v hawake hacc => ?_,
    fun s a v hawake => ⟨fun hacc hgo => ?_, fun hacc harm => ?_⟩,
    fun s hawake => ⟨fun hseen harmed => ?_, fun hseen => ?_, fun hpin hover => ?_, fun hearly => ?_⟩,
    fun s a v c hawake hacc hgo hofs habs => ?_⟩
  · refine ⟨_, live_guarded hawake hacc, ?_, fun hfree => ?_, fun hfrozen => ?_⟩
    · rw [touchSession_time]
      split <;> rfl
    · have hofs := clampI_bounds (lo := -8589935) (hi := 8589935) (toSigned 32 v.toNat) (by decide)
      rw [hfree, if_neg Bool.false_ne_true]
      refine ⟨?_, (((RegsExcept.refl _ s).wr _ (by decide)).wr _ (by decide)).touchSession⟩
      rw [increment_touchSession, increment_written _ (by omega)]
      omega
    · rw [hfrozen, if_pos rfl]
      have hkeep {b : Nat} (hb : b ≠ Reg.TIM.INC_HELD) : rd (bump s Reg.TIM.INC_HELD) b = rd s b := rd_bump_other s hb
      exact ⟨by rw [increment_touchSession, increment, increment, rdN, rdN, rdN, rdN, hkeep (by decide), hkeep (by decide)], by rw [rd_touchSession, rd_bump_same],
        ((RegsExcept.refl _ s).wr _ (by decide)).touchSession⟩
  · have hcap := capture_captured s 0
    refine ⟨_, live_guarded hawake hacc, ?_⟩
    rw [hgo, if_pos rfl]
    exact ⟨by rw [rd_touchSession, hcap.status]; rfl, by rw [rd64, rdN, rdN, rd_touchSession, rd_touchSession]; exact hcap.sec,
      by rw [rdN, rd_touchSession]; exact hcap.ns, by rw [rdN, rd_touchSession]; exact hcap.frac, hcap.regs.touchSession⟩
  · refine ⟨_, captureArm_arms hawake hacc harm, (rd_touchSession ..).trans ?_, ?_, by rw [touchSession_time]; rfl, ?_⟩
    · exact (rd_wr_other _ _ _ _ (by decide)).trans (rd_wr_same ..)
    · rw [rdB, rd_touchSession]
      exact (congrArg (bit · 0) (rd_wr_same ..)).trans (bit_setBit_same _ _ _ (by decide))
    · exact (lineArmed_regs s v).touchSession
  · have hcap := capture_captured (lineDisarmed s) 1
    refine ⟨_, captureEvent_captures hawake hseen harmed, hcap.status, ?_, hcap.ns, ?_⟩
    · rw [rdB, hcap.regs _ (by decide)]
      exact (congrArg (bit · 9) (rd_wr_same ..)).trans (bit_setBit_same _ _ _ (by decide))
    · exact ((RegsExcept.refl _ s).wr _ (by decide)).trans (hcap.regs.mono (by decide))
  · change live s _ = _
    rw [hseen]
    exact live_awake hawake
  · refine ⟨_, ?_, rfl⟩
    change live s _ = _
    rw [hpin, hover]
    exact live_awake hawake
  · change live s _ = _
    rw [hearly, Bool.and_false]
    exact live_awake hawake
  · refine ⟨_, step_requested hawake hacc hgo hofs habs, ?_⟩
    refine ⟨?_, fun hnear => ?_, fun hvalid hfar => ?_⟩
    · rw [touchSession_time]
      by_cases hjump : jumps s c
      · rw [stepRequest_refused _ hjump, raiseE_time]; rfl
      · rw [(stepRequest_moves _ hjump).1]
    · have hjump : ¬ jumps s c := fun ⟨hvalid, hfar⟩ =>
        hnear.elim (fun hv => Bool.false_ne_true (hv.symm.trans hvalid)) fun hle => Nat.not_lt.mpr hle hfar
      obtain ⟨htime, hcount, hvalid, hregs⟩ := stepRequest_moves (bit v 1) hjump
      exact ⟨by rw [touchSession_time, htime], by rw [rd_touchSession, hcount], by rw [rdB, rd_touchSession]; exact hvalid,
        hregs.touchSession⟩
    · obtain ⟨⟨htime, hports, hgrid⟩, hcount, hstate, hregs⟩ := stepRequest_refuses (bit v 1) ⟨hvalid, hfar⟩
      rw [touchSession_time, touchSession_ports, touchSession_grid, rd_touchSession, rd_touchSession]
      exact ⟨htime, hcount, hstate, hports, hgrid, hregs.touchSession⟩
end

section
/-! SUPPORT. Service ports, PTP and holdover (R282 to R286, R298): what becomes of a frame at a service port, of a PTP message, and what a
write of SYNC_STATE leaves. -/

namespace Sys2Proof.Machine

/-! ### Service ports (R284) -/

section
variable {s : State} {i : Nat} {f : NetFrame} (hawake : Awake s)
include hawake

theorem svLinkChange_takes (up lock : Bool) (hi : i < 2) : ∃ t, exec (.svLinkChange i up lock) s = .next t ∧
    t = { wr s (Reg.SV.PORT_STATUS i) (w32 (up.toNat + 2 * lock.toNat)) with icu := t.icu } := by
  refine ⟨_, live_awake hawake, ?_⟩
  rw [if_pos hi]
  split
  · exact raiseE_frame ..
  · rfl

theorem svFrameRx_down (hlink : svLink s i = false) : exec (.svFrameRx i f) s = .next s := by
  refine (live_awake hawake).trans ?_
  rw [hlink, Bool.and_false]
  rfl

variable (hi : i < 2) (hlink : svLink s i = true)
include hi hlink

theorem svFrameRx_fcsError (hfcs : f.fcsError = true) :
    exec (.svFrameRx i f) s = .next (bump (bump s (Reg.SV.RX_FRAMES i)) (Reg.SV.RX_FCS_ERR i)) := by
  refine (live_awake hawake).trans ?_
  rw [hlink, decide_eq_true hi, hfcs]
  rfl

variable (hfcs : f.fcsError = false) (hcalm : safe s (Page.SV i) = false)
include hfcs hcalm

theorem svFrameRx_ptp (hen : rdB s (Reg.SV.PORT_CTRL i) 1 = true) (hptp : isPtp f = true) :
    exec (.svFrameRx i f) s = .next (bump (bump s (Reg.SV.RX_FRAMES i)) (Reg.SV.PTP_RX i)) := by
  have hbit : bit (rd s (Reg.SV.PORT_CTRL i)) 1 = true := hen
  refine (live_awake hawake).trans ?_
  rw [hlink, decide_eq_true hi, hfcs, hcalm, hbit, hptp]
  rfl

theorem svFrameRx_drops (hptp : isPtp f = false) (hplace : isPlacement s f = false) (hfwd : rdB s (Reg.SV.PORT_CTRL i) 3 = false) :
    exec (.svFrameRx i f) s = .next (bump (bump s (Reg.SV.RX_FRAMES i)) (Reg.SV.FWD_DROP i)) := by
  have hbit : bit (rd s (Reg.SV.PORT_CTRL i)) 3 = false := hfwd
  refine (live_awake hawake).trans ?_
  rw [hlink, decide_eq_true hi, hfcs, hcalm, hbit, hptp, hplace, Bool.and_false, Bool.and_false]
  rfl

end

/-! ### Frames handed to firmware (R406) -/

theorem sramStore_regs (s : State) (a : Nat) (bs : List Byte) : (sramStore s a bs).regs = s.regs := (rfl)

/-- A frame handed to firmware changes MGT SRAM and the ring's index, or counts in RX_DROP. -/
theorem fwReceive_leaves (s : State) (prt kind : Nat) (t : Option Int) (frame : List Byte) :
    (fwReceive s prt kind t frame).time = s.time ∧
      RegsExcept [Reg.MGT.RXQ_IDX, Reg.MGT.RX_DROP] s (fwReceive s prt kind t frame) := by
  unfold fwReceive
  dsimp only
  split
  · exact ⟨raiseE_time .., ((RegsExcept.refl _ s).wr _ (by decide)).raiseE⟩
  · exact ⟨rfl, RegsExcept.wr (t := sramStore (sramStore s _ _) _ _) (.of_regs (.refl _ s) ((sramStore_regs ..).trans (sramStore_regs ..))) _
      (by decide)⟩

/-! ### PTP messages (R282, R283, R285) -/

section
variable {s : State} {via : Via} {m : Ptp} {raw : List Byte} (hawake : Awake s)
include hawake

theorem ptpMessage_unheard (hport : ptpPort s via = false) : exec (.ptpMessage via m raw) s = .next s := by
  refine (live_awake hawake).trans ?_
  rw [hport]
  rfl

theorem ptpMessage_dropped (hport : ptpPort s via = true) (hpass : ptpPasses s m = false) :
    exec (.ptpMessage via m raw) s = .next (bump s Reg.TIM.PTP_DROP) := by
  refine (live_awake hawake).trans ?_
  rw [hport, hpass]
  rfl

/-- A Sync accepted for the watch is counted and winds the watch up (R285). -/
def syncNoted (s : State) (via : Via) (m : Ptp) : State :=
  if syncAccepted s via m then { bump s Reg.TIM.SYNC_RX with time := { s.time with watch := some s.time.uptime } } else s

/-- A message that passes the filter, handed to firmware with its ingress time (R283). -/
def ptpHanded (s : State) (via : Via) (m : Ptp) (raw : List Byte) : State :=
  fwReceive (syncNoted s via m) (viaPort via).1 3 (if m.messageType < 4 then some (ingressTime s (viaPort via).2) else none) raw

theorem ptpMessage_handed (hport : ptpPort s via = true) (hpass : ptpPasses s m = true) :
    exec (.ptpMessage via m raw) s = .next (ptpHanded s via m raw) := by
  refine (live_awake hawake).trans ?_
  rw [hport, hpass]
  rfl

end

theorem syncNoted_regs (s : State) (via : Via) (m : Ptp) : RegsExcept [Reg.TIM.SYNC_RX] s (syncNoted s via m) := by
  unfold syncNoted
  split
  · exact .of_regs (t := bump s Reg.TIM.SYNC_RX) ((RegsExcept.refl _ s).wr _ (by decide)) rfl
  · exact .refl _ s

theorem syncNoted_sync {s : State} {via : Via} {m : Ptp} (h : syncAccepted s via m = true) : syncNoted s via m =
    { bump s Reg.TIM.SYNC_RX with time := { s.time with watch := some s.time.uptime } } := if_pos h

theorem syncNoted_other {s : State} {via : Via} {m : Ptp} (h : syncAccepted s via m = false) : syncNoted s via m = s :=
  if_neg (Bool.eq_false_iff.mp h)

theorem syncNoted_memory (s : State) (via : Via) (m : Ptp) :
    (syncNoted s via m).mem = s.mem ∧ (syncNoted s via m).hostMem = s.hostMem := by
  unfold syncNoted
  split <;> exact ⟨rfl, rfl⟩

theorem ptpHanded_leaves (s : State) (via : Via) (m : Ptp) (raw : List Byte) :
    (ptpHanded s via m raw).time = (syncNoted s via m).time ∧
      RegsExcept [Reg.MGT.RXQ_IDX, Reg.MGT.RX_DROP] (syncNoted s via m) (ptpHanded s via m raw) ∧
      SameMemory s (ptpHanded s via m raw) := by
  obtain ⟨htime, hregs⟩ := fwReceive_leaves (syncNoted s via m) (viaPort via).1 3
    (if m.messageType < 4 then some (ingressTime s (viaPort via).2) else none) raw
  obtain ⟨-, hmem, hhost, -⟩ := fwReceive_keep (syncNoted s via m) (viaPort via).1 3
    (if m.messageType < 4 then some (ingressTime s (viaPort via).2) else none) raw
  obtain ⟨nmem, nhost⟩ := syncNoted_memory s via m
  exact ⟨htime, hregs, sameMemory_of_stores (hmem.trans nmem) (hhost.trans nhost)⟩

/-! ### The Sync watch (R285) -/

section
variable {s : State} (hawake : Awake s)
include hawake

theorem syncTimeout_unwound (hwatch : s.time.watch = none) : exec .syncTimeout s = .next s := by
  refine (live_awake hawake).trans ?_
  rw [hwatch]
  rfl

variable {w : Nat} (hwatch : s.time.watch = some w)
include hwatch

theorem syncTimeout_early (hearly : overUs s w (rdN s Reg.TIM.SYNC_TMO) = false) : exec .syncTimeout s = .next s := by
  refine (live_awake hawake).trans ?_
  simp only [hwatch, hearly]
  rfl

theorem syncTimeout_over (hover : overUs s w (rdN s Reg.TIM.SYNC_TMO) = true) : exec .syncTimeout s = .next
    (bump (enterHoldover { s with time := { s.time with watch := none } } 1) Reg.TIM.SYNC_TIMEOUTS) := by
  refine (live_awake hawake).trans ?_
  simp only [hwatch, hover]
  rfl

end

/-! ### SYNC_STATE (R286, R298, R385) -/

theorem locked_of_accepts {s : State} {a : Agent} {addr : Nat} {k : LockKind} (h : Accepts s a addr k) :
    locked s (pageOf addr) k = false := by
  have hnone := h.2
  unfold writeRefusal at hnone
  split at hnone
  · cases hnone
  · split at hnone
    · cases hnone
    · exact Bool.eq_false_iff.mpr ‹_›

theorem syncStateWrite_accepted {s : State} {a : Agent} {v : Word} (hacc : Accepts s a Reg.TIM.SYNC_STATE .cfg) :
    syncStateWrite s a v = touchSession s a Page.TIM (writeSyncState s v) := by
  have hopen : locked s Page.TIM .cfg = false := locked_of_accepts hacc
  rw [syncStateWrite, hopen, Bool.and_false, if_neg Bool.false_ne_true, guarded_accepted hacc]
  rfl

/-- Under the page's CFG lock a write of 1 to HOLDOVER acts, with LOCKED as it stands. -/
theorem syncStateWrite_locked {s : State} {a : Agent} {v : Word} (hacc : Accepts s a Reg.TIM.SYNC_STATE .open)
    (hlock : locked s Page.TIM .cfg = true) (hend : bit v 1 = true) : syncStateWrite s a v =
      touchSession s a Page.TIM (writeSyncState s (setBit v 0 (rdB s Reg.TIM.SYNC_STATE 0))) := by
  rw [syncStateWrite, hend, hlock, Bool.and_self, if_pos rfl, guarded_accepted hacc]
  rfl

/-- The safe action that a write of SYNC_STATE leaves in force is that of a state that it makes ready (R388). -/
def holdReleased (s : State) (v : Word) : State := if bit v 1 then releaseSafe s Page.TIM else s

/-- HOLDOVER stays set. -/
def holdStays (s : State) (v : Word) : Bool := rdB s Reg.TIM.SYNC_STATE 1 && (!bit v 1 || safe (holdReleased s v) Page.TIM)

/-- What SYNC_STATE holds after a write: LOCKED, HOLDOVER and its cause. -/
def syncWord (s : State) (v : Word) : Word :=
  w32 ((bit v 0 && !holdStays s v).toNat + 2 * (holdStays s v).toNat +
    4 * (if holdStays s v then rdF s Reg.TIM.SYNC_STATE 3 2 else 0))

theorem holdReleased_frame (s : State) (v : Word) : holdReleased s v = { s with par := (holdReleased s v).par } := by
  unfold holdReleased
  split
  · exact releaseSafe_frame ..
  · rfl

theorem rd_holdReleased (s : State) (v : Word) (b : Nat) : rd (holdReleased s v) b = rd s b := by
  rw [holdReleased_frame]; rfl

theorem writeSyncState_eq (s : State) (v : Word) : writeSyncState s v =
    if rdB s Reg.TIM.SYNC_STATE 1 && !holdStays s v then
      { wr (holdReleased s v) Reg.TIM.SYNC_STATE (syncWord s v) with
        time := { (holdReleased s v).time with watch := some (holdReleased s v).time.uptime } }
    else wr (holdReleased s v) Reg.TIM.SYNC_STATE (syncWord s v) := by
  have hcause : rdF (holdReleased s v) Reg.TIM.SYNC_STATE 3 2 = rdF s Reg.TIM.SYNC_STATE 3 2 := by rw [rdF, rdF, rd_holdReleased]
  rw [syncWord, ← hcause]
  rfl

theorem writeSyncState_regs (s : State) (v : Word) :
    (writeSyncState s v).regs = (wr (holdReleased s v) Reg.TIM.SYNC_STATE (syncWord s v)).regs := by
  rw [writeSyncState_eq]
  split <;> rfl

theorem rd_writeSyncState (s : State) (v : Word) : rd (writeSyncState s v) Reg.TIM.SYNC_STATE = syncWord s v := by
  rw [rd, writeSyncState_regs]
  exact rd_wr_same ..

theorem writeSyncState_others (s : State) (v : Word) : RegsExcept [Reg.TIM.SYNC_STATE] s (writeSyncState s v) :=
  .of_regs (RegsExcept.wr (fun b _ => rd_holdReleased s v b) _ (by decide)) (writeSyncState_regs s v)

theorem writeSyncState_time (s : State) (v : Word) : (writeSyncState s v).time =
    if rdB s Reg.TIM.SYNC_STATE 1 && !holdStays s v then { s.time with watch := some s.time.uptime } else s.time := by
  rw [writeSyncState_eq, holdReleased_frame]
  split <;> rfl

theorem syncWord_locked (s : State) (v : Word) : bit (syncWord s v) 0 = (bit v 0 && !holdStays s v) := by
  rw [syncWord, bit_w32 _ (by decide)]
  cases bit v 0 <;> cases holdStays s v <;> simp <;> omega

theorem syncWord_holdover (s : State) (v : Word) : bit (syncWord s v) 1 = holdStays s v := by
  rw [syncWord, bit_w32 _ (by decide)]
  cases bit v 0 <;> cases holdStays s v <;> simp <;> omega

/-- A write of 1 to HOLDOVER ends it where no safe action is in force (R286). -/
theorem holdStays_ended {s : State} {v : Word} (hend : bit v 1 = true) (hcalm : safe s Page.TIM = false) : holdStays s v = false := by
  rw [holdStays, holdReleased, hend, if_pos rfl, safe_releaseSafe hcalm, Bool.not_true, Bool.or_false, Bool.and_false]

/-- It keeps it where a cause of the safe action stands (R388). -/
theorem holdStays_caused {s : State} (v : Word) (hcause : safeCause s Page.TIM = true) :
    holdStays s v = rdB s Reg.TIM.SYNC_STATE 1 := by
  have hsafe : safe (holdReleased s v) Page.TIM = true := by
    refine safe_of_cause (by decide) ?_
    rw [safeCause, rdB, rdB, rd_holdReleased, rd_holdReleased]
    exact hcause
  rw [holdStays, hsafe, Bool.or_true, Bool.and_true]

/-- A write of LOCKED leaves it. -/
theorem holdStays_kept {s : State} {v : Word} (hkeep : bit v 1 = false) : holdStays s v = rdB s Reg.TIM.SYNC_STATE 1 := by
  rw [holdStays, hkeep, Bool.not_false, Bool.true_or, Bool.and_true]

theorem syncWord_ended {s : State} {v : Word} (h : holdStays s v = false) : syncWord s v = w32 (bit v 0).toNat := by
  rw [syncWord, h]
  simp

end Sys2Proof.Machine
end

section
open Sys2Proof Sys2Proof.Machine

/-- Settles O43: a frame and a message go by the port's rules in their order; a write of SYNC_STATE leaves syncWord, whose HOLDOVER is
holdStays. -/
theorem servicePortsAndHoldover : Obligations.ServicePortsAndHoldover := by
  refine ⟨fun s i up lock hawake hi => ?_, fun s i f hawake hi => ⟨svFrameRx_down hawake, svFrameRx_fcsError hawake hi,
      fun hlink hfcs hcalm => ⟨svFrameRx_ptp hawake hi hlink hfcs hcalm, svFrameRx_drops hawake hi hlink hfcs hcalm⟩⟩,
    fun s via m raw hawake => ⟨ptpMessage_unheard hawake, ptpMessage_dropped hawake, fun hport hpass => ?_⟩,
    fun s hawake => ⟨syncTimeout_unwound hawake, fun w hwatch => ⟨syncTimeout_early hawake hwatch, fun hover => ?_⟩⟩,
    fun s a v hawake hacc hlock hend hcalm => ?_, fun s a v hawake hacc => ⟨fun hend => ?_, fun hkeep => ?_⟩⟩
  · obtain ⟨t, hexec, hframe⟩ := svLinkChange_takes hawake up lock hi
    refine ⟨t, hexec, ?_, ?_, by rw [hframe]; rfl⟩
    · rw [hframe]; exact rd_wr_same ..
    · rw [hframe]; exact .of_regs ((RegsExcept.refl _ s).wr _ List.mem_cons_self) rfl
  · obtain ⟨htime, hregs, hmem⟩ := ptpHanded_leaves s via m raw
    have hnoted := syncNoted_regs s via m
    have hcount := hregs Reg.TIM.SYNC_RX (by decide)
    refine ⟨_, ptpMessage_handed hawake hport hpass, hmem,
      (hnoted.mono (by decide)).trans (hregs.mono (by decide)), fun hsync => ?_, fun hother => ?_⟩
    · rw [htime, hcount, syncNoted_sync hsync]
      exact ⟨rfl, rd_bump_same s Reg.TIM.SYNC_RX⟩
    · rw [htime, hcount, syncNoted_other hother]
      exact ⟨rfl, rfl⟩
  · refine ⟨_, syncTimeout_over hawake hwatch hover, (rd_bump_other _ (by decide)).trans (rd_wr_same ..), rfl,
      (rd_bump_same ..).trans ?_, ?_⟩
    · exact congrArg plusOne (rd_wr_other _ _ _ _ (by decide))
    · exact RegsExcept.wr (RegsExcept.wr (fun _ _ => rfl) _ (by decide)) _ (by decide)
  · refine ⟨_, (live_awake hawake).trans (by rw [syncStateWrite_locked hacc hlock hend]), ?_⟩
    have hended : holdStays s (setBit v 0 (rdB s Reg.TIM.SYNC_STATE 0)) = false :=
      holdStays_ended ((bit_setBit_other _ _ _ _ (by decide) (by decide)).trans hend) hcalm
    refine ⟨?_, ?_, (writeSyncState_others s _).touchSession⟩
    · rw [rdB, rd_touchSession, rd_writeSyncState, syncWord_holdover, hended]
    · rw [rdB, rd_touchSession, rd_writeSyncState, syncWord_locked, hended, bit_setBit_same _ _ _ (by decide)]
      exact Bool.and_true _
  · refine ⟨_, (live_awake hawake).trans (by rw [syncStateWrite_accepted hacc]), (writeSyncState_others s v).touchSession,
      fun hcalm => ?_, fun hcause => ?_⟩
    · have hended := holdStays_ended hend hcalm
      refine ⟨by rw [rd_touchSession, rd_writeSyncState, syncWord_ended hended], fun hwas => ?_⟩
      rw [touchSession_time, writeSyncState_time, hwas, hended]
      rfl
    · rw [rdB, rd_touchSession, rd_writeSyncState, syncWord_holdover, holdStays_caused v hcause]
  · refine ⟨_, (live_awake hawake).trans (by rw [syncStateWrite_accepted hacc]), (writeSyncState_others s v).touchSession, ?_, ?_, ?_⟩
    · rw [touchSession_time, writeSyncState_time, holdStays_kept hkeep, Bool.and_not_self]
      rfl
    · rw [rdB, rd_touchSession, rd_writeSyncState, syncWord_holdover, holdStays_kept hkeep]
    · rw [rdB, rd_touchSession, rd_writeSyncState, syncWord_locked, holdStays_kept hkeep]

end

section
/-! SUPPORT. Phases (R292 to R297): what a write of TIM_CTRL leaves, a slot that starts, and a change of offsets. -/

namespace Sys2Proof.Machine

/-! ### The grid (R291, R292) -/

/-- The registers of TIM that starting and stopping the phases changes. -/
abbrev runRegs : List Nat := [Reg.TIM.TIM_CTRL, Reg.TIM.TIM_STATUS, Reg.TIM.SLOT_MIN]

theorem curGrid_of_regs {s t : State} (h : RegsExcept runRegs s t) : curGrid t = curGrid s := by
  have hofs : ((List.range 8).map fun i => rd t (Reg.TIM.PH_OFS i)) = (List.range 8).map fun i => rd s (Reg.TIM.PH_OFS i) :=
    List.map_congr_left fun i hi => h _ ((by decide : ∀ i, i < 8 → Reg.TIM.PH_OFS i ∉ runRegs) i (List.mem_range.mp hi))
  rw [curGrid, curGrid, h _ (by decide), h _ (by decide), hofs]

theorem slotMin_of_regs {s t : State} (h : RegsExcept runRegs s t) : slotMin t = slotMin s := by
  rw [slotMin, slotMin, curGrid_of_regs h]

theorem firstSlotFrame_of_regs {s t : State} (h : RegsExcept runRegs s t) (hgrid : t.grid = s.grid) (g : GridP) (n : Nat) :
    firstSlotFrame t g n = firstSlotFrame s g n := by
  have hat (k : Nat) : gridAt t k = gridAt s k := by
    rw [gridAt, gridAt, curGrid_of_regs h, hgrid, h _ (by decide)]
  simp only [firstSlotFrame, hgrid, hat]

/-- Slots are published from the first frame at or after the instant given (R293). -/
theorem publish_grid {s : State} {g : GridP} (n : Nat) (hgrid : curGrid s = some g) :
    (publish s n).grid.next = some (firstSlotFrame s g n, 0) ∧ (publish s n).grid.cur = s.grid.cur := by
  simp only [publish, hgrid, forgetFrom, and_self]

/-! ### TIM_CTRL (R293, R297) -/

theorem gridFault_lt {g : Option GridP} {c : Nat} (h : gridFault g = some c) : c < 16 := by
  unfold gridFault at h
  (repeat' split at h) <;> cases h <;> decide

theorem phRefusal_lt {s : State} {c : Nat} (h : phRefusal s = some c) : c < 16 := by
  unfold phRefusal at h
  split at h
  · exact gridFault_lt h
  · cases h; decide

/-- TIM_CTRL stored, the pulse pin low where PPS_EN is 0 (R276). -/
def ctrlStored (s : State) (v : Word) : State :=
  { wrCfg s Reg.TIM.TIM_CTRL (v &&& 0xF) with time := { s.time with pps := s.time.pps && bit v 3 } }

/-- TIM_CTRL stored and the grid found valid. -/
def gridPassed (s : State) (v : Word) : State := showSlotMin (wrF (ctrlStored s v) Reg.TIM.TIM_STATUS 7 4 0)

/-- TIM_CTRL stored but for PH_EN, with a cause in PH_REFUSE. -/
def gridRefused (s : State) (v : Word) (c : Nat) : State :=
  raiseE (wrF (wrCfg (ctrlStored s v) Reg.TIM.TIM_CTRL (v &&& 0xE)) Reg.TIM.TIM_STATUS 7 4 c) Page.TIM 2

/-- TIM_CTRL stored, no slot published, PH_RUN clear. -/
def phasesStopped (s : State) (v : Word) : State :=
  { wrF (ctrlStored s v) Reg.TIM.TIM_STATUS 2 1 0 with grid := { s.grid with next := none, leads := [] } }

section
variable {s : State} {v : Word}

theorem writeTimCtrl_stops (hoff : bit v 0 = false) : writeTimCtrl s v = phasesStopped s v := by
  unfold writeTimCtrl
  rw [hoff]
  rfl

theorem writeTimCtrl_runs (hen : bit v 0 = true) (hon : rdB s Reg.TIM.TIM_CTRL 0 = true) : writeTimCtrl s v = ctrlStored s v := by
  unfold writeTimCtrl
  rw [hen, hon]
  rfl

theorem writeTimCtrl_refused {c : Nat} (hen : bit v 0 = true) (hoff : rdB s Reg.TIM.TIM_CTRL 0 = false)
    (hcause : phRefusal s = some c) : writeTimCtrl s v = gridRefused s v c := by
  unfold writeTimCtrl
  rw [hen, hoff, hcause]
  rfl

theorem writeTimCtrl_starts (hen : bit v 0 = true) (hoff : rdB s Reg.TIM.TIM_CTRL 0 = false) (hnone : phRefusal s = none) :
    writeTimCtrl s v = publish (gridPassed s v) (nowNsUp s + ms50) := by
  unfold writeTimCtrl
  rw [hen, hoff, hnone]
  rfl

end

theorem rd_ctrlStored (s : State) (v : Word) (b : Nat) :
    rd (ctrlStored s v) b = if b = Reg.TIM.TIM_CTRL then v &&& 0xF else rd s b := rd_wr ..

theorem ctrlStored_regs (s : State) (v : Word) : RegsExcept runRegs s (ctrlStored s v) :=
  fun b hb => (rd_ctrlStored s v b).trans (if_neg fun h => hb (by rw [h]; decide))

theorem gridPassed_regs (s : State) (v : Word) : RegsExcept runRegs s (gridPassed s v) :=
  ((ctrlStored_regs s v).wr _ (by decide)).wr _ (by decide)

theorem gridRefused_regs (s : State) (v : Word) (c : Nat) : RegsExcept runRegs s (gridRefused s v c) :=
  (((ctrlStored_regs s v).wr _ (by decide)).wr _ (by decide)).raiseE

/-- The outcomes of a write with PH_EN = 1 change no other register. -/
theorem writeTimCtrl_regs (s : State) {v : Word} (hen : bit v 0 = true) : RegsExcept runRegs s (writeTimCtrl s v) := by
  cases hon : rdB s Reg.TIM.TIM_CTRL 0 with
  | true => exact writeTimCtrl_runs hen hon ▸ ctrlStored_regs s v
  | false =>
    cases hcause : phRefusal s with
    | some c => exact writeTimCtrl_refused hen hon hcause ▸ gridRefused_regs s v c
    | none =>
      rw [writeTimCtrl_starts hen hon hcause]
      exact (gridPassed_regs s v).of_regs (publish_leaves ..).1

theorem gridPassed_shows (s : State) (v : Word) : rd (gridPassed s v) Reg.TIM.TIM_CTRL = v &&& 0xF ∧
    rd (gridPassed s v) Reg.TIM.SLOT_MIN = w32 (slotMin s) ∧ rdF (gridPassed s v) Reg.TIM.TIM_STATUS 7 4 = 0 := by
  have hregs : RegsExcept runRegs s (wrF (ctrlStored s v) Reg.TIM.TIM_STATUS 7 4 0) := (ctrlStored_regs s v).wr _ (by decide)
  refine ⟨?_, ?_, ?_⟩
  · rw [gridPassed, showSlotMin, rd_wr_other _ _ _ _ (by decide), rd_wrF, if_neg (by decide), rd_ctrlStored, if_pos rfl]
  · rw [gridPassed, showSlotMin, rd_wr_same, slotMin_of_regs hregs]
  · rw [gridPassed, showSlotMin, rdF, rd_wr_other _ _ _ _ (by decide), rd_wrF, if_pos rfl, fld_setFld_same _ _ _ _ (by decide) (by decide)]
    rfl

theorem gridRefused_shows (s : State) (v : Word) {c : Nat} (hc : c < 16) :
    rd (gridRefused s v c) Reg.TIM.TIM_CTRL = v &&& 0xE ∧ rdF (gridRefused s v c) Reg.TIM.TIM_STATUS 7 4 = c := by
  refine ⟨?_, ?_⟩
  · rw [gridRefused, rd_raiseE, rd_wrF, if_neg (by decide), wrCfg, rd_wr_same]
  · rw [gridRefused, rdF, rd_raiseE, rd_wrF, if_pos rfl, fld_setFld_same _ _ _ _ (by decide) (by decide)]
    exact Nat.mod_eq_of_lt hc

theorem phasesStopped_regs (s : State) (v : Word) : RegsExcept [Reg.TIM.TIM_CTRL, Reg.TIM.TIM_STATUS] s (phasesStopped s v) := by
  refine .of_regs (t := wrF (ctrlStored s v) Reg.TIM.TIM_STATUS 2 1 0) (RegsExcept.wr (fun b hb => ?_) _ (by decide)) rfl
  exact (rd_ctrlStored s v b).trans (if_neg fun h => hb (by rw [h]; decide))

theorem phasesStopped_shows (s : State) (v : Word) : rd (phasesStopped s v) Reg.TIM.TIM_CTRL = v &&& 0xF ∧
    rdF (phasesStopped s v) Reg.TIM.TIM_STATUS 2 1 = 0 := by
  refine ⟨(rd_wr_other _ _ _ _ (by decide)).trans (rd_wr_same ..), ?_⟩
  exact (congrArg (fld · 2 1) (rd_wr_same ..)).trans (fld_setFld_same _ _ _ _ (by decide) (by decide))

/-! ### A slot starts (R293) -/

theorem notify_grid (s : State) (l : Nat) : (notify s l).grid = s.grid :=
  foldl_keep (fun s => s.grid) _ (fun s _ => by split <;> rfl) _ s

/-- A pulse leaves the phase grid. -/
theorem pulse_grid (s : State) (l : Nat) : (pulse s l).grid = s.grid := by
  rcases pulse_cases s l with h | h | ⟨e, h⟩ <;> rw [h]
  · rw [raiseE_grid, wr_grid, bump_grid]
  · rw [notify_grid]

/-- Slot (k, n) in progress, the next one published, before the phase's pulse. -/
def slotStarted (s : State) (k n : Nat) : State :=
  wrF { s with
    grid := { s.grid with
      cur := some (k, n)
      next := some (nextSlot s k n)
      leads := (((nextSlot s k n).1, (nextSlot s k n).2, rdN s Reg.LYR.LATCH_LEAD) :: s.grid.leads).take 16
      count := s.grid.count + 1 }
    twn := { s.twn with slotF := [] } } Reg.TIM.TIM_STATUS 2 1 1

section
variable {s : State} {k n : Nat} (hawake : Awake s)
include hawake

theorem phaseStart_idle (h : s.grid.next ≠ some (k, n) ∨ reached s (slotStart s k n * 1000) = false) :
    exec (.phaseStart k n) s = .next s := by
  refine (live_awake hawake).trans ?_
  rcases h with hother | hearly
  · rw [beq_false_of_ne hother]; rfl
  · rw [hearly, Bool.and_false]; rfl

theorem phaseStart_starts (hnext : s.grid.next = some (k, n)) (hdue : reached s (slotStart s k n * 1000) = true) :
    exec (.phaseStart k n) s = .next (pulse (slotStarted s k n) n) := by
  refine (live_awake hawake).trans ?_
  rw [hnext, hdue, beq_self_eq_true]
  rfl

end

theorem rd_slotStarted (s : State) (k n b : Nat) : rd (slotStarted s k n) b =
    if b = Reg.TIM.TIM_STATUS then setFld (rd s Reg.TIM.TIM_STATUS) 2 1 1 else rd s b := rd_wrF ..

/-- A field written as one bit set and one clear. -/
theorem bit_setFld_run (w : Word) : bit (setFld w 2 1 1) 1 = true ∧ bit (setFld w 2 1 1) 2 = false := by
  have h := fld_setFld_same w 2 1 1 (by decide) (by decide)
  unfold fld at h
  unfold bit
  rw [Nat.testBit_eq_decide_div_mod_eq, Nat.testBit_eq_decide_div_mod_eq, decide_eq_true_eq, decide_eq_false_iff_not]
  omega

/-! ### A change of offsets (R294) -/

theorem ofsRefusal_lt {s : State} {c : Nat} (h : ofsRefusal s = some c) : c < 16 := by
  unfold ofsRefusal at h
  split at h
  · cases h; decide
  · dsimp only at h
    split at h
    · cases h
      exact gridFault_lt ‹_›
    · split at h
      · split at h <;> cases h
        decide
      · cases h; decide

/-- The NEXT values wait for frame `k`. -/
def offsetsPended (s : State) (k : Nat) : State :=
  { wr s Reg.TIM.OFS_STATUS 1 with grid := { s.grid with pend := some ⟨k, (nextOffsets s).1, (nextOffsets s).2⟩ } }

/-- The change is refused, with a cause in OFS_REFUSE. -/
def offsetsRefused (s : State) (c : Nat) : State := raiseE (wrF s Reg.TIM.OFS_STATUS 7 4 c) Page.TIM 3

section
variable {s : State} {a : Agent} {v : Word} (hawake : Awake s) (hacc : Accepts s a Reg.TIM.OFS_APPLY .cmd) (hgo : bit v 0 = true)
include hawake hacc hgo

theorem offsetApplyGo_pends {g : GridP} (hnone : ofsRefusal s = none) (hgrid : curGrid s = some g) :
    exec (.offsetApplyGo a v) s = .next (touchSession s a Page.TIM (offsetsPended s (applyFrame s g))) := by
  refine (live_guarded hawake hacc).trans ?_
  rw [hgo, if_pos rfl, hnone, hgrid]
  rfl

theorem offsetApplyGo_refused (hcause : ofsRefusal s ≠ none ∨ curGrid s = none) :
    exec (.offsetApplyGo a v) s = .next (touchSession s a Page.TIM (offsetsRefused s ((ofsRefusal s).getD 2))) := by
  refine (live_guarded hawake hacc).trans ?_
  rw [hgo, if_pos rfl]
  cases hofs : ofsRefusal s with
  | some c => rfl
  | none =>
    rw [hcause.resolve_left (not_not.mpr hofs)]
    rfl

end

theorem offsetsPended_regs (s : State) (k : Nat) : RegsExcept [Reg.TIM.OFS_STATUS] s (offsetsPended s k) :=
  .of_regs (t := wr s Reg.TIM.OFS_STATUS 1) ((RegsExcept.refl _ s).wr _ (by decide)) rfl

theorem offsetsRefused_regs (s : State) (c : Nat) : RegsExcept [Reg.TIM.OFS_STATUS] s (offsetsRefused s c) :=
  ((RegsExcept.refl _ s).wr _ (by decide)).raiseE

theorem offsetsRefused_shows (s : State) {c : Nat} (hc : c < 16) : rdF (offsetsRefused s c) Reg.TIM.OFS_STATUS 7 4 = c ∧
    rdB (offsetsRefused s c) Reg.TIM.OFS_STATUS 0 = rdB s Reg.TIM.OFS_STATUS 0 := by
  rw [offsetsRefused, rdF, rdB, rd_raiseE, rd_wrF, if_pos rfl, fld_setFld_same _ _ _ _ (by decide) (by decide),
    bit_setFld_other _ _ _ _ _ (by decide) (by decide) (by decide)]
  exact ⟨Nat.mod_eq_of_lt hc, rfl⟩

/-- The values of a change stand in FRAME_OFS and PH_OFS. -/
def offsetsWritten (s : State) (o : OfsPend) : State :=
  o.ofs.zipIdx.foldl (fun t e => wrCfg t (Reg.TIM.PH_OFS e.2) e.1)
    (wrCfg { s with grid := { s.grid with pend := none } } Reg.TIM.FRAME_OFS o.fofs)

/-- The change has ended. -/
def offsetsApplied (s : State) (o : OfsPend) : State := showSlotMin (wrB (offsetsWritten s o) Reg.TIM.OFS_STATUS 0 false)

theorem offsetApplyEffect_early {s : State} {o : OfsPend} (hawake : Awake s) (hpend : s.grid.pend = some o)
    (hearly : reached s (slotStart s o.frame 0 * 1000) = false) : exec .offsetApplyEffect s = .next s := by
  refine (live_awake hawake).trans ?_
  rw [hpend]
  dsimp only
  rw [hearly]
  rfl

theorem offsetApplyEffect_applies {s : State} {o : OfsPend} (hawake : Awake s) (hpend : s.grid.pend = some o)
    (hdue : reached s (slotStart s o.frame 0 * 1000) = true) :
    exec .offsetApplyEffect s = .next (offsetsApplied s o) := by
  refine (live_awake hawake).trans ?_
  rw [hpend]
  dsimp only
  rw [hdue]
  rfl

/-- PH_OFS written from a list of values. -/
theorem rd_phOfsWritten_other {l : List Word} {j b : Nat} (s : State) (h : ∀ i, i < l.length → b ≠ Reg.TIM.PH_OFS (j + i)) :
    rd ((l.zipIdx j).foldl (fun t e => wrCfg t (Reg.TIM.PH_OFS e.2) e.1) s) b = rd s b := by
  induction l generalizing s j with
  | nil => rfl
  | cons w l ih =>
    rw [List.zipIdx_cons, List.foldl_cons, ih]
    · exact rd_wr_other _ _ _ _ (h 0 (Nat.succ_pos _))
    · intro i hi
      rw [Nat.add_assoc, Nat.add_comm 1]
      exact h (i + 1) (Nat.succ_lt_succ hi)

theorem rd_phOfsWritten {l : List Word} {i : Nat} (s : State) (j : Nat) (hi : i < l.length) :
    rd ((l.zipIdx j).foldl (fun t e => wrCfg t (Reg.TIM.PH_OFS e.2) e.1) s) (Reg.TIM.PH_OFS (j + i)) = l.getD i 0 := by
  induction l generalizing s i j with
  | nil => exact absurd hi (Nat.not_lt_zero _)
  | cons w l ih =>
    rw [List.zipIdx_cons, List.foldl_cons]
    cases i with
    | zero => exact (rd_phOfsWritten_other _ fun i _ => by simp only [Reg.TIM.PH_OFS]; omega).trans (rd_wr_same ..)
    | succ i =>
      rw [show j + (i + 1) = j + 1 + i by omega, List.getD_cons_succ]
      exact ih _ _ (Nat.lt_of_succ_lt_succ hi)

theorem offsetsWritten_grid (s : State) (o : OfsPend) : (offsetsWritten s o).grid = { s.grid with pend := none } :=
  foldl_keep (fun s => s.grid) (fun t (e : Word × Nat) => wrCfg t (Reg.TIM.PH_OFS e.2) e.1) (fun _ _ => rfl) _ _

theorem rd_offsetsWritten_phOfs (s : State) {o : OfsPend} {i : Nat} (hi : i < o.ofs.length) :
    rd (offsetsWritten s o) (Reg.TIM.PH_OFS i) = o.ofs.getD i 0 := by
  have h := rd_phOfsWritten (wrCfg { s with grid := { s.grid with pend := none } } Reg.TIM.FRAME_OFS o.fofs) 0 hi
  rwa [Nat.zero_add] at h

theorem rd_offsetsWritten_other (s : State) {o : OfsPend} {b : Nat} (h : ∀ i, i < o.ofs.length → b ≠ Reg.TIM.PH_OFS i) :
    rd (offsetsWritten s o) b = if b = Reg.TIM.FRAME_OFS then o.fofs else rd s b := by
  rw [offsetsWritten, rd_phOfsWritten_other _ fun i hi => by rw [Nat.zero_add]; exact h i hi]
  exact rd_wr ..

/-- The registers that a change of offsets writes. -/
abbrev offsetRegs : List Nat :=
  Reg.TIM.FRAME_OFS :: Reg.TIM.OFS_STATUS :: Reg.TIM.SLOT_MIN :: (List.range 8).map Reg.TIM.PH_OFS

theorem phOfs_mem_offsetRegs {i : Nat} (hi : i < 8) : Reg.TIM.PH_OFS i ∈ offsetRegs := by
  simp [offsetRegs, hi]

theorem offsetsApplied_leaves (s : State) {o : OfsPend} (hlen : o.ofs.length = 8) :
    (offsetsApplied s o).grid = { s.grid with pend := none } ∧ rd (offsetsApplied s o) Reg.TIM.FRAME_OFS = o.fofs ∧
    (∀ i, i < 8 → rd (offsetsApplied s o) (Reg.TIM.PH_OFS i) = o.ofs.getD i 0) ∧
    rdB (offsetsApplied s o) Reg.TIM.OFS_STATUS 0 = false ∧ RegsExcept offsetRegs s (offsetsApplied s o) := by
  have hkept {b : Nat} (hstatus : b ≠ Reg.TIM.OFS_STATUS) (hmin : b ≠ Reg.TIM.SLOT_MIN) :
      rd (offsetsApplied s o) b = rd (offsetsWritten s o) b := by
    rw [offsetsApplied, showSlotMin, rd_wr_other _ _ _ _ hmin, rd_wrB, if_neg hstatus]
  have hfofs (i : Nat) (hi : i < o.ofs.length) : Reg.TIM.FRAME_OFS ≠ Reg.TIM.PH_OFS i :=
    (by decide : ∀ i, i < 8 → Reg.TIM.FRAME_OFS ≠ Reg.TIM.PH_OFS i) i (hlen ▸ hi)
  refine ⟨offsetsWritten_grid s o, ?_, fun i hi => ?_, ?_, fun b hb => ?_⟩
  · rw [hkept (by decide) (by decide), rd_offsetsWritten_other s hfofs, if_pos rfl]
  · obtain ⟨hstatus, hmin⟩ : Reg.TIM.PH_OFS i ≠ Reg.TIM.OFS_STATUS ∧ Reg.TIM.PH_OFS i ≠ Reg.TIM.SLOT_MIN :=
      (by decide : ∀ i, i < 8 → Reg.TIM.PH_OFS i ≠ Reg.TIM.OFS_STATUS ∧ Reg.TIM.PH_OFS i ≠ Reg.TIM.SLOT_MIN) i hi
    rw [hkept hstatus hmin, rd_offsetsWritten_phOfs s (hlen.symm ▸ hi)]
  · rw [offsetsApplied, showSlotMin, rdB, rd_wr_other _ _ _ _ (by decide), rd_wrB, if_pos rfl, bit_setBit_same _ _ _ (by decide)]
  · have hne {x : Nat} (hx : x ∈ offsetRegs) : b ≠ x := fun h => hb (h ▸ hx)
    rw [hkept (hne (by decide)) (hne (by decide)),
      rd_offsetsWritten_other s fun i hi => hne (phOfs_mem_offsetRegs (hlen ▸ hi)), if_neg (hne (by decide))]

end Sys2Proof.Machine
end

section
open Sys2Proof Sys2Proof.Machine

/-- Settles O44: a write of TIM_CTRL has the four outcomes of its support lemmas, a slot and a change of offsets act at their instants. -/
theorem phasesRun : Obligations.PhasesRun := by
  refine ⟨fun s a v hawake hacc => ⟨fun hen => ⟨_, live_guarded hawake hacc, (writeTimCtrl_regs s hen).touchSession,
        fun hon => ?_, fun c hoff hcause => ?_, fun g hoff hnone hgrid => ?_⟩,
      fun hoff => ⟨_, live_guarded hawake hacc, ?_⟩⟩,
    fun s k n hawake => ⟨phaseStart_idle hawake, fun hnext hdue => ?_⟩, fun s a v hawake hacc hgo => ?_,
    fun s o hawake hpend hlen => ⟨offsetApplyEffect_early hawake hpend, fun hdue => ?_⟩⟩
  · rw [rd_touchSession, touchSession_grid, writeTimCtrl_runs hen hon]
    exact ⟨rd_wr_same .., rfl⟩
  · obtain ⟨hctrl, hshown⟩ := gridRefused_shows s v (phRefusal_lt hcause)
    rw [rdF, rd_touchSession, rd_touchSession, touchSession_grid, writeTimCtrl_refused hen hoff hcause]
    exact ⟨hctrl, hshown, raiseE_grid ..⟩
  · obtain ⟨hctrl, hmin, hshown⟩ := gridPassed_shows s v
    have hregs := gridPassed_regs s v
    obtain ⟨hnext, hcur⟩ := publish_grid (nowNsUp s + ms50) ((curGrid_of_regs hregs).trans hgrid)
    rw [rdF, rd_touchSession, rd_touchSession, rd_touchSession, touchSession_grid, writeTimCtrl_starts hen hoff hnone, rd_publish,
      rd_publish, rd_publish]
    exact ⟨hctrl, hnext.trans (by rw [firstSlotFrame_of_regs hregs rfl]), hmin, hcur, hshown⟩
  · obtain ⟨hctrl, hshown⟩ := phasesStopped_shows s v
    rw [writeTimCtrl_stops hoff, rdF, issuing, rd_touchSession, rd_touchSession, touchSession_grid]
    exact ⟨hctrl, rfl, hshown, (phasesStopped_regs s v).touchSession⟩
  · have hpulse := rd_pulse (slotStarted s k n) n
    obtain ⟨hrun, hresync⟩ := bit_setFld_run (rd s Reg.TIM.TIM_STATUS)
    have hstatus : rd (pulse (slotStarted s k n) n) Reg.TIM.TIM_STATUS = setFld (rd s Reg.TIM.TIM_STATUS) 2 1 1 :=
      (hpulse _ (by decide)).trans (rd_slotStarted .. |>.trans (if_pos rfl))
    refine ⟨_, phaseStart_starts hawake hnext hdue, ?_⟩
    rw [rdB, rdB, hstatus, pulse_grid]
    refine ⟨rfl, rfl, hrun, hresync, rfl, RegsExcept.trans (fun b hb => ?_) (hpulse.mono (by simp))⟩
    exact (rd_slotStarted ..).trans (if_neg fun h => hb (by rw [h]; exact List.mem_cons_self))
  · have hrefused (h : ofsRefusal s ≠ none ∨ curGrid s = none) := offsetApplyGo_refused hawake hacc hgo h
    cases hcause : ofsRefusal s with
    | some c =>
      rw [hcause] at hrefused
      obtain ⟨hshown, hpending⟩ := offsetsRefused_shows s (ofsRefusal_lt hcause)
      refine ⟨_, hrefused (.inl (by simp)), (offsetsRefused_regs s c).touchSession, fun _ h => (nomatch h), ?_⟩
      rintro _ ⟨⟩
      rw [rdF, rdB, rd_touchSession, touchSession_grid]
      exact ⟨hshown, hpending, raiseE_grid ..⟩
    | none =>
      cases hgrid : curGrid s with
      | none =>
        rw [hcause] at hrefused
        exact ⟨_, hrefused (.inr hgrid), (offsetsRefused_regs s 2).touchSession, fun _ _ h => (nomatch h), fun _ h => (nomatch h)⟩
      | some g =>
        refine ⟨_, offsetApplyGo_pends hawake hacc hgo hcause hgrid, (offsetsPended_regs s _).touchSession, ?_, fun _ h => (nomatch h)⟩
        rintro _ - ⟨⟩
        rw [rd_touchSession, touchSession_grid]
        exact ⟨rd_wr_same s Reg.TIM.OFS_STATUS 1, rfl⟩
  · obtain ⟨hgrid, hfofs, hofs, hpending, hregs⟩ := offsetsApplied_leaves s hlen
    exact ⟨_, offsetApplyEffect_applies hawake hpend hdue, hgrid, hfofs, hofs, hpending, hregs⟩

end

section
/-! SUPPORT. The pair's agreement (R279, R305 to R320): what is sent, which mirrored operations an instant takes out, and what they
leave alone. -/

namespace Sys2Proof.Machine

/-! ### Records sent (R302, R304) -/

/-- A device that takes part sends each record under the next number. -/
theorem sendRecord_on {s : State} (type e : Nat) (payload : List Byte) (hon : twnOn s = true) : sendRecord s type e payload =
    { s with twn := { s.twn with
      rseq := (s.twn.rseq + 1) % 2 ^ 32, sent := twinFrame s (recordBytes s type s.twn.rseq e payload) } } := by
  rw [sendRecord, hon]
  rfl

theorem sendRecord_leaves (s : State) (type e : Nat) (payload : List Byte) :
    sendRecord s type e payload = { s with twn := (sendRecord s type e payload).twn } ∧
    (sendRecord s type e payload).twn.ops = s.twn.ops ∧ (sendRecord s type e payload).twn.ownH = s.twn.ownH := by
  unfold sendRecord
  split <;> exact ⟨rfl, rfl, rfl⟩

/-- One that has seen no role clash sends the records of the agreement too. -/
theorem mirrorRecord_on {s : State} (type e : Nat) (payload : List Byte) (hon : twnOn s = true) (hclash : twnClash s = false) :
    (mirrorRecord s type e payload).twn.rseq = (s.twn.rseq + 1) % 2 ^ 32 := by
  rw [mirrorRecord, hclash, if_neg Bool.false_ne_true, sendRecord_on _ _ _ hon]

theorem mirrorRecord_leaves (s : State) (type e : Nat) (payload : List Byte) :
    mirrorRecord s type e payload = { s with twn := (mirrorRecord s type e payload).twn } ∧
    (mirrorRecord s type e payload).twn.ops = s.twn.ops := by
  unfold mirrorRecord
  split
  · exact ⟨rfl, rfl⟩
  · exact ⟨(sendRecord_leaves ..).1, (sendRecord_leaves ..).2.1⟩

/-! ### Commits (R311) -/

/-- The pending operations changed. -/
def withOps (s : State) (l : List MirPend) : State := { s with twn := { s.twn with ops := l } }

/-- The payload of a DIGEST record (R306). -/
def digestPayload (o : MirPend) (d : Word) : List Byte :=
  beBytes 1 o.origin.toNat ++ [0, 0, 0] ++ beBytes 4 o.rseq ++ beBytes 4 d.toNat

section
variable {s : State} {o : MirPend} {rest : List MirPend} {m x : Word} (hlit : Lit s) (hops : s.twn.ops = o :: rest)
    (hop : o.op = .commit m x)
include hlit hops hop

theorem digestSend_first (hnone : o.own = none) (hdue : came s o.e = true) : exec .digestSend s = .next
    (mirrorRecord (withOps s ({ o with own := some (digestOf s m) } :: rest)) 5 o.e (digestPayload o (digestOf s m))) := by
  change execDigestSend s = _
  simp only [execDigestSend, hops, List.find?_cons, hnone, hdue, hop, replaceFirst, Option.isNone_none, Bool.and_self, if_true]
  exact wall_lit hlit

theorem digestCompare_first (hown : o.own.isSome = true) (hdue : came s (o.e + mirrorDelay s) = true) :
    exec .digestCompare s = .next (compareDigest (withOps s rest) o m x) := by
  change execDigestCompare s = _
  simp only [execDigestCompare, hops, List.find?_cons, hown, hdue, hop, Bool.and_self, List.erase_cons_head]
  exact wall_lit hlit

end

theorem digestSend_idle {s : State} (hlit : Lit s) (h : ∀ o, o ∈ s.twn.ops → came s o.e = false) : exec .digestSend s = .next s := by
  refine (wall_lit hlit).trans ?_
  rw [List.find?_eq_none.mpr]
  intro o ho
  rw [h o ho, Bool.and_false, Bool.false_and]
  exact Bool.false_ne_true

theorem digestCompare_idle {s : State} (hlit : Lit s) (h : ∀ o, o ∈ s.twn.ops → came s (o.e + mirrorDelay s) = false) :
    exec .digestCompare s = .next s := by
  refine (wall_lit hlit).trans ?_
  rw [List.find?_eq_none.mpr]
  intro o ho
  rw [h o ho, Bool.and_false, Bool.false_and]
  exact Bool.false_ne_true

theorem compareDigest_enters {s : State} {o : MirPend} (l : List MirPend) (m x : Word) (h : agreeRefusal s o = 0) :
    compareDigest (withOps s l) o m x =
      enterCommit (withOps s l) m x true (o.e + mirrorDelay s + rdF s Reg.TWN.CHECK_ALLOW 12 0 * 1000) :=
  if_pos h

theorem setDiverge_leaves (s : State) (v : Bool) : (setDiverge s v).twn = { s.twn with diverge := v, equal := 0 } ∧
    (setDiverge s v).lyr = s.lyr ∧ RegsExcept [Reg.TWN.TWN_STATUS] s (setDiverge s v) :=
  ⟨rfl, rfl, RegsExcept.wr (.wr (.of_regs (.refl _ s) rfl) _ (by decide)) _ (by decide)⟩

/-- The refusal of a commit is counted and shown. -/
def refusalShown (s : State) (info : Nat) : State := wr (bump s Reg.TWN.AGREE_REFUSED) Reg.TWN.AGREE_INFO (w32 info)

theorem compareDigest_refuses {s : State} {o : MirPend} (m x : Word) (h : agreeRefusal s o ≠ 0) : ∃ info,
    compareDigest s o m x = refusalShown s info ∨ compareDigest s o m x = setDiverge (refusalShown s info) true := by
  refine ⟨2 ^ 31 + (o.origin.toNat + 16 * agreeRefusal s o + 256 * (o.rseq % 65536)), ?_⟩
  unfold compareDigest
  dsimp only
  rw [if_neg h]
  split
  · exact .inr rfl
  · exact .inl rfl

theorem compareDigest_refused {s : State} {o : MirPend} (m x : Word) (h : agreeRefusal s o ≠ 0) :
    (compareDigest s o m x).twn.ops = s.twn.ops ∧ (compareDigest s o m x).lyr = s.lyr ∧
    rd (compareDigest s o m x) Reg.TWN.AGREE_REFUSED = plusOne (rd s Reg.TWN.AGREE_REFUSED) ∧
    RegsExcept [Reg.TWN.AGREE_REFUSED, Reg.TWN.AGREE_INFO, Reg.TWN.TWN_STATUS] s (compareDigest s o m x) := by
  obtain ⟨info, hout⟩ := compareDigest_refuses m x h
  have hcount : rd (refusalShown s info) Reg.TWN.AGREE_REFUSED = plusOne (rd s Reg.TWN.AGREE_REFUSED) :=
    (rd_wr_other _ _ _ _ (by decide)).trans (rd_bump_same ..)
  have hregs : RegsExcept [Reg.TWN.AGREE_REFUSED, Reg.TWN.AGREE_INFO, Reg.TWN.TWN_STATUS] s (refusalShown s info) :=
    ((RegsExcept.refl _ s).wr _ (by decide)).wr _ (by decide)
  rcases hout with hout | hout <;> rw [hout]
  · exact ⟨rfl, rfl, hcount, hregs⟩
  · obtain ⟨htwn, hlyr, hstatus⟩ := setDiverge_leaves (refusalShown s info) true
    exact ⟨by rw [htwn]; rfl, hlyr, (hstatus _ (by decide)).trans hcount, hregs.trans (hstatus.mono (by decide))⟩

/-! ### Cancels (R71, R310) -/

/-- No queued request belongs to a group of the mask. -/
def QueueClear (m : Word) (s : State) : Prop := ∀ r, r ∈ s.lyr.queue → r.mask &&& m = 0

/-- Requests that stay keep their groups. -/
theorem mem_removeReqs {gone : CommitReq → Bool} {l : List CommitReq} {hit : Bool} {r : CommitReq}
    (h : r ∈ removeReqs gone hit l) : ∃ q, q ∈ l ∧ gone q = false ∧ r.mask = q.mask := by
  induction l generalizing hit with
  | nil => exact absurd h List.not_mem_nil
  | cons q l ih =>
    unfold removeReqs at h
    split at h
    next =>
      obtain ⟨p, hp, hstays, hmask⟩ := ih h
      exact ⟨p, List.mem_cons_of_mem _ hp, hstays, hmask⟩
    next hgone =>
      rcases List.mem_cons.mp h with rfl | h
      · exact ⟨q, List.mem_cons_self, Bool.eq_false_iff.mpr hgone, by split <;> rfl⟩
      · obtain ⟨p, hp, hstays, hmask⟩ := ih h
        exact ⟨p, List.mem_cons_of_mem _ hp, hstays, hmask⟩

theorem cancelGroups_clear (s : State) (m : Word) : QueueClear m (cancelGroups s m) := by
  intro r hr
  obtain ⟨q, -, hstays, hmask⟩ := mem_removeReqs hr
  rw [hmask]
  simpa using hstays

theorem QueueClear.cancelGroups {m : Word} {s : State} (h : QueueClear m s) (n : Word) : QueueClear m (cancelGroups s n) := by
  intro r hr
  obtain ⟨q, hq, -, hmask⟩ := mem_removeReqs hr
  rw [hmask]
  exact h q hq

/-- A mirrored cancel takes effect. -/
def cancelTaken (s : State) (o : MirPend) : State :=
  match o.op with
  | .cancel m => cancelGroups s m
  | _ => s

theorem settleCancels_eq (s : State) (t : Int) : settleCancels s t =
    (s.twn.ops.filter (cancelDue t)).foldl cancelTaken (withOps s (s.twn.ops.filter fun o => !cancelDue t o)) := (rfl)

theorem cancelTaken_frame (s : State) (o : MirPend) : cancelTaken s o = { s with lyr := (cancelTaken s o).lyr } := by
  unfold cancelTaken
  split <;> rfl

theorem settleCancels_leaves (s : State) (t : Int) :
    (settleCancels s t).twn.ops = s.twn.ops.filter (fun o => !cancelDue t o) ∧ (settleCancels s t).regs = s.regs := by
  rw [settleCancels_eq]
  exact ⟨foldl_keep (fun s => s.twn.ops) _ (fun s o => by rw [cancelTaken_frame]) _ _,
    foldl_keep (fun s => s.regs) _ (fun s o => by rw [cancelTaken_frame]) _ _⟩

theorem QueueClear.foldl {m : Word} (l : List MirPend) {s : State} (h : QueueClear m s) : QueueClear m (l.foldl cancelTaken s) := by
  induction l generalizing s with
  | nil => exact h
  | cons o l ih =>
    refine ih ?_
    unfold cancelTaken
    split
    · exact h.cancelGroups _
    · exact h

/-- The first cancel due leaves no request of its groups, and the cancels after it bring none back. -/
theorem settleCancels_clears {s : State} {t : Int} {o : MirPend} {rest : List MirPend} {m : Word}
    (hdue : s.twn.ops.filter (cancelDue t) = o :: rest) (hop : o.op = .cancel m) : QueueClear m (settleCancels s t) := by
  rw [settleCancels_eq, hdue, List.foldl_cons]
  refine QueueClear.foldl _ ?_
  unfold cancelTaken
  rw [hop]
  exact cancelGroups_clear _ m

/-! ### Placements (R79, R312) -/

/-- Recording placements changes awnings and registers of their page alone. -/
structure PlaceStep (s t : State) : Prop where
  frame : t = { s with regs := t.regs, par := t.par, awn := t.awn }
  regs : ∀ b, pageOf b ≠ Page.AWN → rd t b = rd s b

theorem PlaceStep.refl (s : State) : PlaceStep s s := ⟨rfl, fun _ _ => rfl⟩

theorem PlaceStep.trans {s t u : State} (h : PlaceStep s t) (k : PlaceStep t u) : PlaceStep s u :=
  ⟨k.frame.trans (by rw [h.frame]), fun b hb => (k.regs b hb).trans (h.regs b hb)⟩

theorem PlaceStep.wr {s t : State} {a : Nat} (h : PlaceStep s t) (v : Word) (ha : pageOf a = Page.AWN) : PlaceStep s (wr t a v) :=
  h.trans ⟨rfl, fun _ hb => rd_wr_other _ _ _ _ fun hba => hb (hba ▸ ha)⟩

/-- An awning's registers lie in its page. -/
theorem pageOf_awning {p : Place} {off : Nat} (h : off < 0x200) : pageOf (0x41100 + off + 0x40 * p.id) = Page.AWN := by
  have hid : p.id < 8 := Nat.mod_lt _ (by decide)
  unfold pageOf
  simp only [Page.AWN]
  omega

theorem placeStep_recordPlace (s : State) (p : Place) : PlaceStep s (recordPlace s p) := by
  have hset (y : Awning) : PlaceStep s (setAwning s p.id y) := ⟨rfl, fun _ _ => rd_setAwning ..⟩
  have hstatus : pageOf (Reg.AWN.A_STATUS p.id) = Page.AWN := pageOf_awning (off := 0x18) (by decide)
  have hcount : pageOf (Reg.AWN.RX_OK p.id) = Page.AWN := pageOf_awning (off := 0x2C) (by decide)
  rw [recordPlace_eq]
  split
  · exact (PlaceStep.refl s).wr _ (pageOf_awning (off := 0x34) (by decide))
  · exact (((((hset _).wr _ hcount).wr _ hstatus).wr _ hstatus).wr _ hstatus).wr _ hstatus

/-- A mirrored placement is recorded. -/
def placeTaken (s : State) (o : MirPend) : State :=
  match o.op with
  | .place _ raw => recordPlace s ⟨raw⟩
  | _ => s

theorem settlePlaces_eq (s : State) (t : Int) : settlePlaces s t =
    (s.twn.ops.filter (placeDue t)).foldl placeTaken (withOps s (s.twn.ops.filter fun o => !placeDue t o)) := (rfl)

theorem placeStep_foldl (l : List MirPend) (s : State) : PlaceStep s (l.foldl placeTaken s) := by
  induction l generalizing s with
  | nil => exact .refl s
  | cons o l ih =>
    refine PlaceStep.trans ?_ (ih _)
    unfold placeTaken
    split
    · exact placeStep_recordPlace ..
    · exact .refl s

theorem settlePlaces_step (s : State) (t : Int) :
    PlaceStep (withOps s (s.twn.ops.filter fun o => !placeDue t o)) (settlePlaces s t) := placeStep_foldl ..

theorem settlePlaces_none {s : State} {t : Int} (h : s.twn.ops.filter (placeDue t) = []) :
    settlePlaces s t = withOps s (s.twn.ops.filter fun o => !placeDue t o) := by
  rw [settlePlaces_eq, h]
  rfl

/-! ### Fences (R313) -/

/-- The matches that wait changed. -/
def withReady (s : State) (l : List (Nat × Nat × Nat × Nat)) : State := { s with twn := { s.twn with ready := l } }

theorem fencePairReady_first {s : State} {e : Nat × Nat × Nat × Nat} {rest : List (Nat × Nat × Nat × Nat)} (hlit : Lit s)
    (hready : s.twn.ready = e :: rest) (hdue : came s e.2.2.2 = true) : exec .fencePairReady s =
      .next (makePaired (withReady s rest) e) := by
  have hfirst : (e :: rest).find? (fun e => came s e.2.2.2) = some e := List.find?_cons_of_pos hdue
  refine (wall_lit hlit).trans ?_
  rw [hready, hfirst]
  dsimp only
  rw [List.erase_cons_head]
  rfl

theorem fencePairReady_idle {s : State} (hlit : Lit s) (h : ∀ e, e ∈ s.twn.ready → came s e.2.2.2 = false) :
    exec .fencePairReady s = .next s := by
  refine (wall_lit hlit).trans ?_
  rw [List.find?_eq_none.mpr]
  intro e he
  rw [h e he]
  exact Bool.false_ne_true

theorem makePaired_leaves (s : State) (e : Nat × Nat × Nat × Nat) : (makePaired s e).twn = s.twn ∧ (makePaired s e).regs = s.regs ∧
    OtherStreams e.1 s (makePaired s e) := by
  unfold makePaired
  dsimp only
  split
  · exact ⟨rfl, rfl, fun j hj => stream_setStream_other _ _ _ _ hj⟩
  · exact ⟨rfl, rfl, fun _ _ => rfl⟩

/-- A buffer that still holds the frame of the match is pair-ready from the match's instant. -/
theorem makePaired_pairs {s : State} {e : Nat × Nat × Nat × Nat} (hfenced : ((stream s e.1).buf e.2.1).mode = .fenced)
    (hseq : ((stream s e.1).buf e.2.1).seq = e.2.2.1) : ((stream (makePaired s e) e.1).buf e.2.1).pairAt = some e.2.2.2 := by
  unfold makePaired
  dsimp only
  rw [hfenced, hseq, beq_self_eq_true, beq_self_eq_true, Bool.and_self, if_pos rfl, stream_setStream_same, buf_setBuf_same]

/-! ### HEALTH and TIME (R279, R317, R320) -/

/-- The HEALTH of a slot as this device compares it (R316). -/
def healthOf (s : State) (c : PhaseCtx) : Health := ⟨pseq c.k c.n, actCrc s, awnCrc s, calCrc s, fenceMatch s⟩

/-- A HEALTH record sent and kept, the join instant with it. -/
def healthSent (s : State) (h : Health) (e : Nat) (body : List Byte) (join : Option Nat) : State :=
  let t := sendRecord s 1 e body
  { t with twn := { t.twn with ownH := (h :: t.twn.ownH).take 32, joinAt := join } }

/-- This device's CRCs and impairments shown. -/
def healthShown (s : State) (h : Health) (imp : Nat) : State :=
  wrF (wrB (wr (wr (wr s Reg.TWN.OWN_ACT_CRC h.act) Reg.TWN.OWN_AWN_CRC h.awn) Reg.TWN.OWN_CAL_CRC h.cal)
    Reg.TWN.TWN_STATUS 9 (decide (imp ≠ 0))) Reg.TWN.TWN_STATUS 13 10 imp

/-- Mirrored placements due are recorded first, then the record is sent and shown, and the pair judged if it is complete. -/
theorem sendHealth_eq (s : State) (c : PhaseCtx) : ∃ e body join imp, sendHealth s c =
    judgePair (healthShown (healthSent (settlePlaces s (healthAt s c)) (healthOf (settlePlaces s (healthAt s c)) c) e body join)
      (healthOf (settlePlaces s (healthAt s c)) c) imp) (pseq c.k c.n) := ⟨_, _, _, _, rfl⟩

/-- The numbers of records sent and the HEALTH kept stay, and so does every register but TWN_STATUS. -/
structure PairStep (s t : State) : Prop where
  ownH : t.twn.ownH = s.twn.ownH
  rseq : t.twn.rseq = s.twn.rseq
  regs : RegsExcept [Reg.TWN.TWN_STATUS] s t

theorem PairStep.trans {s t u : State} (h : PairStep s t) (k : PairStep t u) : PairStep s u :=
  ⟨k.ownH.trans h.ownH, k.rseq.trans h.rseq, h.regs.trans k.regs⟩

theorem PairStep.of_regs {s t : State} (hregs : t.regs = s.regs) (hown : t.twn.ownH = s.twn.ownH)
    (hrseq : t.twn.rseq = s.twn.rseq) : PairStep s t :=
  ⟨hown, hrseq, .of_regs (.refl _ s) hregs⟩

theorem pairStep_setDiverge (s : State) (v : Bool) : PairStep s (setDiverge s v) := by
  obtain ⟨htwn, -, hregs⟩ := setDiverge_leaves s v
  exact ⟨by rw [htwn], by rw [htwn], hregs⟩

/-- A complete pair is judged in the joining count and DIVERGE alone (R316, R318). -/
theorem pairStep_judgePair (s : State) (p : Nat) : PairStep s (judgePair s p) := by
  unfold judgePair
  split
  · exact .of_regs rfl rfl rfl
  · dsimp only
    generalize hu : (if twnState s = 2 then _ else s) = u
    have hcounted : PairStep s u := by
      rw [← hu]
      split <;> exact .of_regs rfl rfl rfl
    refine hcounted.trans ?_
    split
    · split
      · exact pairStep_setDiverge ..
      · exact .of_regs rfl rfl rfl
    · generalize (if (healthPair s (pseqBefore s p)).isSome then u.twn.equal else 0) + 1 = n
      split
      · exact pairStep_setDiverge ..
      · exact .of_regs rfl rfl rfl

/-- CRCs are taken of the layers' active bank and of the calibration page, which placements leave (R307). -/
theorem crcs_of_placeStep {s t : State} (hlyr : t.lyr = s.lyr) (hregs : ∀ b, pageOf b ≠ Page.AWN → rd t b = rd s b) :
    actCrc t = actCrc s ∧ calCrc t = calCrc s := by
  refine ⟨by simp only [actCrc, activeDesc, hlyr], ?_⟩
  simp only [calCrc, rd64, rdN, hregs _ (show pageOf Reg.CAL.SEL_ACTIVE_LO ≠ Page.AWN by decide),
    hregs _ (show pageOf Reg.CAL.SEL_ACTIVE_HI ≠ Page.AWN by decide), hregs _ (show pageOf Reg.CAL.CAL_CTRL ≠ Page.AWN by decide)]

theorem healthShown_crcs (s : State) (h : Health) (imp : Nat) : rd (healthShown s h imp) Reg.TWN.OWN_ACT_CRC = h.act ∧
    rd (healthShown s h imp) Reg.TWN.OWN_CAL_CRC = h.cal := by
  constructor <;>
    simp only [healthShown, rd_wrF, rd_wrB, rd_wr, if_true, if_neg (show Reg.TWN.OWN_ACT_CRC ≠ Reg.TWN.TWN_STATUS by decide),
      if_neg (show Reg.TWN.OWN_CAL_CRC ≠ Reg.TWN.TWN_STATUS by decide), if_neg (show Reg.TWN.OWN_ACT_CRC ≠ Reg.TWN.OWN_AWN_CRC by decide),
      if_neg (show Reg.TWN.OWN_ACT_CRC ≠ Reg.TWN.OWN_CAL_CRC by decide)]

/-- What a HEALTH sent leaves (R316, R317). -/
theorem sendHealth_leaves {s : State} (c : PhaseCtx) (hon : twnOn s = true) : ∃ h : Health,
    rd (sendHealth s c) Reg.TWN.OWN_ACT_CRC = actCrc s ∧ rd (sendHealth s c) Reg.TWN.OWN_CAL_CRC = calCrc s ∧
    (sendHealth s c).twn.ownH = (h :: s.twn.ownH).take 32 ∧ h.pseq = pseq c.k c.n ∧ h.act = actCrc s ∧
    (sendHealth s c).twn.rseq = (s.twn.rseq + 1) % 2 ^ 32 := by
  obtain ⟨e, body, join, imp, hsend⟩ := sendHealth_eq s c
  have hplaced := settlePlaces_step s (healthAt s c)
  generalize settlePlaces s (healthAt s c) = u at hsend hplaced
  have htwn : u.twn = { s.twn with ops := s.twn.ops.filter fun o => !placeDue (healthAt s c) o } := by rw [hplaced.frame]; rfl
  obtain ⟨hact, hcal⟩ := crcs_of_placeStep (s := s) (t := u) (by rw [hplaced.frame]; rfl) hplaced.regs
  have huon : twnOn u = true := by rw [twnOn, rdB, hplaced.regs _ (by decide)]; exact hon
  obtain ⟨hshact, hshcal⟩ := healthShown_crcs (healthSent u (healthOf u c) e body join) (healthOf u c) imp
  have hjudged := pairStep_judgePair (healthShown (healthSent u (healthOf u c) e body join) (healthOf u c) imp) (pseq c.k c.n)
  have hsent : (healthSent u (healthOf u c) e body join).twn.ownH = (healthOf u c :: s.twn.ownH).take 32 ∧
      (healthSent u (healthOf u c) e body join).twn.rseq = (s.twn.rseq + 1) % 2 ^ 32 := by
    rw [healthSent, sendRecord_on _ _ _ huon, htwn]
    exact ⟨rfl, rfl⟩
  rw [hsend]
  exact ⟨healthOf u c, (hjudged.regs _ (by decide)).trans (hshact.trans hact), (hjudged.regs _ (by decide)).trans (hshcal.trans hcal),
    hjudged.ownH.trans hsent.1, rfl, hact, hjudged.rseq.trans hsent.2⟩

section
variable {s : State} {k n : Nat} {c : PhaseCtx} (hlit : Lit s) (hctx : findCtx s k n = some c)
include hlit hctx

theorem healthSend_idle (h : twnOn s = false ∨ (s.twn.ownH.any fun h => h.pseq == pseq k n) = true ∨
    reached s (healthAt s c) = false) : exec (.healthSend k n) s = .next s := by
  refine (wall_lit hlit).trans ?_
  rw [hctx]
  dsimp only
  rcases h with h | h | h <;> rw [h] <;> simp

theorem healthSend_sends (hon : twnOn s = true) (hnew : (s.twn.ownH.any fun h => h.pseq == pseq k n) = false)
    (hdue : reached s (healthAt s c) = true) : exec (.healthSend k n) s = .next (sendHealth s c) := by
  refine (wall_lit hlit).trans ?_
  rw [hctx]
  dsimp only
  rw [hon, hnew, hdue]
  rfl

end

/-- The payload of a TIME record: this instant, and the partner's last with its ingress time (R306, R320). -/
def timePayload (s : State) : List Byte :=
  recTime (nowNs s) ++ recTime (s.twn.echo.getD (0, 0)).1 ++ recTime (s.twn.echo.getD (0, 0)).2 ++ [0, 0]

theorem timePayload_first {s : State} (h : s.twn.echo = none) : timePayload s = recTime (nowNs s) ++ List.replicate 22 0 := by
  rw [timePayload, h, List.append_assoc, List.append_assoc]
  rfl

/-- The last multiple of TIME_PER moved on (R279). -/
def timeNoted (s : State) (m : Nat) : State := { s with time := { s.time with twn := m } }

section
variable {s : State} {m : Nat} (hlit : Lit s) (hm : m = nextMultiple s.time.twn (rdF s Reg.TWN.TIME_PER 13 0))
include hlit hm

theorem twinTimeSend_idle (h : twnOn s = false ∨ nowNs s < m) : exec .twinTimeSend s = .next s := by
  refine (wall_lit hlit).trans ?_
  rw [← hm]
  rcases h with h | h
  · rw [h]; rfl
  · rw [decide_eq_false (Nat.not_le.mpr h), Bool.and_false]; rfl

theorem twinTimeSend_sends (hon : twnOn s = true) (hdue : m ≤ nowNs s) : exec .twinTimeSend s =
    .next (sendRecord (timeNoted s m) 2 m (timePayload s)) := by
  refine (wall_lit hlit).trans ?_
  rw [← hm, hon, decide_eq_true hdue]
  rfl

end

end Sys2Proof.Machine
end

section
open Sys2Proof Sys2Proof.Machine

/-- Settles O46: the first commit due has its digest sent or compared; cancels, placements, fences, HEALTH and TIME take effect as
their support lemmas have it. -/
theorem twinAgreement : Obligations.TwinAgreement := by
  refine ⟨fun s o rest m x hlit hops hop => ⟨fun hnone hdue => ?_, fun hown hdue => ⟨fun hagree => ?_, fun hrefuse => ?_⟩⟩,
    fun s hlit => ⟨digestSend_idle hlit, digestCompare_idle hlit, ?_, ?_, fun e rest hready hdue => ?_, fencePairReady_idle hlit⟩,
    fun s k n c hlit hctx => ⟨healthSend_idle hlit hctx, fun hon hnew hdue => ?_⟩,
    fun s m hlit hm => ⟨twinTimeSend_idle hlit hm, fun hon hdue => ?_⟩⟩
  · obtain ⟨hframe, hkept⟩ := mirrorRecord_leaves (withOps s ({ o with own := some (digestOf s m) } :: rest)) 5 o.e
      (digestPayload o (digestOf s m))
    refine ⟨_, digestSend_first hlit hops hop hnone hdue, hkept, by rw [hframe]; rfl, by rw [hframe]; rfl,
      fun hon hclash => mirrorRecord_on (s := withOps s _) _ _ _ hon hclash⟩
  · rw [digestCompare_first hlit hops hop hown hdue, compareDigest_enters rest m x hagree]
    rfl
  · obtain ⟨hkept, hlyr, hcount, hregs⟩ := compareDigest_refused (s := withOps s rest) m x hrefuse
    exact ⟨_, digestCompare_first hlit hops hop hown hdue, hkept, hlyr, hcount, hregs⟩
  · obtain ⟨hkept, hregs⟩ := settleCancels_leaves s (nowPs s)
    exact ⟨_, wall_lit hlit, hkept, hregs, fun _ _ _ hfilter hcancel => settleCancels_clears hfilter hcancel⟩
  · have hstep := settlePlaces_step s (nowPs s)
    exact ⟨_, wall_lit hlit, by rw [hstep.frame]; rfl, fun hnone => by rw [settlePlaces_none hnone]; exact ⟨rfl, rfl⟩⟩
  · obtain ⟨htwn, hregs, hothers⟩ := makePaired_leaves (withReady s rest) e
    exact ⟨_, fencePairReady_first hlit hready hdue, by rw [htwn]; rfl, hregs, hothers, makePaired_pairs (s := withReady s rest)⟩
  · obtain ⟨h, hleft⟩ := sendHealth_leaves c hon
    exact ⟨_, h, healthSend_sends hlit hctx hon hnew hdue, hleft⟩
  · refine ⟨_, twinTimeSend_sends hlit hm hon hdue, ?_⟩
    rw [sendRecord_on (s := timeNoted s m) _ _ _ hon]
    refine ⟨rfl, rfl, rfl, fun hfirst => ?_⟩
    rw [timePayload_first hfirst]
    rfl

end

section
/-! SUPPORT. The management cluster (R290, R403, R405, R406): accesses of firmware, watchdogs, restarts, and frames posted and sent. -/

namespace Sys2Proof.Machine

/-! ### Firmware's accesses (R403) -/

theorem padTo_length (n : Nat) (bs : List Byte) : (padTo n bs).length = n := by
  rw [padTo, List.length_take, List.length_append, List.length_replicate]
  omega

/-- Bytes written inside device memory read back. -/
theorem memRead_memWrite (s : State) {a : Nat} {bs : List Byte} (h : inMem a bs.length = true) :
    memRead (memWrite s a bs) a bs.length = bs := by
  refine List.ext_getElem (memRead_length ..) fun i hi hi' => ?_
  have hbyte := (memWrite_bytes s a bs h).1 i hi'
  simpa [memRead, Store.slice, memByte, byteAt, hi'] using hbyte

/-- A write inside device memory changes no byte outside its range. -/
theorem memWrite_except (s : State) {a : Nat} {bs : List Byte} (h : inMem a bs.length = true) :
    MemoryExcept [(a, bs.length)] s (memWrite s a bs) :=
  ⟨fun b hb => (memWrite_bytes s a bs h).2 b (hb _ (List.mem_singleton_self _)), fun _ _ => rfl⟩

theorem endStep_frame (s : State) (k : Nat) : endStep s k = { s with mgt := (endStep s k).mgt } := by
  unfold endStep
  split <;> rfl

theorem rd_endStep (s : State) (k b : Nat) : rd (endStep s k) b = rd s b := by
  rw [endStep_frame]
  rfl

/-- The trusted core's firmware runs as core 4. -/
def trusted (s : State) (core : Nat) : Bool := core == 4 && s.sec.booted

/-- The answer to firmware's read. -/
def fwAnswered (s : State) (bs : List Byte) : State := { s with out := { s.out with fw := bs } }

/-- What an access refused leaves: a fault counted, unless it was the trusted core's. -/
def fwRefused (s : State) (core addr : Nat) (write : Bool) : State :=
  if trusted s core then endStep s core else fwFault (endStep s core) core addr write

section
variable {s : State} {core addr len : Nat} (hawake : Awake s) (hruns : (trusted s core || mayAccess s core) = true)
include hawake hruns

theorem fwMemoryAccess_of_runs (write : Bool) (data : List Byte) : exec (.fwMemoryAccess core addr write len data) s =
    .next (if ((trusted s core || inWindow s addr len write) && inMem addr len) = true then
        (if write then memWrite (endStep s core) addr (padTo len data)
          else fwAnswered (noteRead (endStep s core) addr len) (memRead (endStep s core) addr len))
      else (if write then fwRefused s core addr write else fwAnswered (fwRefused s core addr write) (List.replicate len 0))) := by
  have hnot : ¬ (!(trusted s core || mayAccess s core)) = true := by rw [hruns]; decide
  exact (live_awake hawake).trans (congrArg _ (if_neg hnot))

theorem fwMemoryAccess_reads (data : List Byte) (hopen : (trusted s core || inWindow s addr len false) = true)
    (hin : inMem addr len = true) : ∃ t, exec (.fwMemoryAccess core addr false len data) s = .next t ∧
      t.out.fw = memRead s addr len ∧ SameMemory s t := by
  have hframe := endStep_frame s core
  refine ⟨fwAnswered (noteRead (endStep s core) addr len) (memRead (endStep s core) addr len), ?_, ?_, ?_⟩
  · rw [fwMemoryAccess_of_runs hawake hruns, hopen, hin]
    rfl
  · rw [hframe]
    rfl
  · obtain ⟨-, hmem, hhost, -⟩ := noteRead_keep (endStep s core) addr len
    refine sameMemory_of_stores (hmem.trans ?_) (hhost.trans ?_) <;> rw [hframe]

theorem fwMemoryAccess_writes (data : List Byte) (hopen : (trusted s core || inWindow s addr len true) = true)
    (hin : inMem addr len = true) : ∃ t, exec (.fwMemoryAccess core addr true len data) s = .next t ∧
      memRead t addr len = padTo len data ∧ MemoryExcept [(addr, len)] s t ∧ t.regs = s.regs := by
  have hframe := endStep_frame s core
  have hlen := padTo_length len data
  have hpad : inMem addr (padTo len data).length = true := by rw [hlen, hin]
  refine ⟨memWrite (endStep s core) addr (padTo len data), ?_, ?_, ?_, ?_⟩
  · rw [fwMemoryAccess_of_runs hawake hruns, hopen, hin]
    rfl
  · simpa only [hlen] using memRead_memWrite (endStep s core) hpad
  · have hexcept := memWrite_except (endStep s core) hpad
    rw [hlen] at hexcept
    have hsame : SameMemory s (endStep s core) := by rw [hframe]; exact sameMemory_of_stores rfl rfl
    exact (MemoryExcept.of_same (l := []) hsame).trans hexcept
  · rw [memWrite_frame, hframe]

theorem fwMemoryAccess_refused (write : Bool) (data : List Byte) (htrust : trusted s core = false)
    (hshut : inWindow s addr len write = false) : exec (.fwMemoryAccess core addr write len data) s =
      .next (if write then fwFault (endStep s core) core addr write
        else fwAnswered (fwFault (endStep s core) core addr write) (List.replicate len 0)) := by
  rw [fwMemoryAccess_of_runs hawake hruns, fwRefused, htrust, hshut]
  rfl

end

/-- The registers that a refused access writes. -/
abbrev fwFaultRegs : List Nat := [Reg.MGT.FW_FAULT, Reg.MGT.FW_FAULT_INFO, Reg.MGT.FW_FAULT_ADDR_LO, Reg.MGT.FW_FAULT_ADDR_HI]

/-- A refused access written down as the first one. -/
def faultNoted (s : State) (core a : Nat) (write : Bool) : State :=
  wr (wr64 s Reg.MGT.FW_FAULT_ADDR_LO Reg.MGT.FW_FAULT_ADDR_HI a) Reg.MGT.FW_FAULT_INFO (w32 (2 ^ 31 + (core % 4 + 4 * write.toNat)))

theorem fwFault_eq (s : State) (core a : Nat) (write : Bool) : fwFault s core a write =
    raiseE (if rdB (bump s Reg.MGT.FW_FAULT) Reg.MGT.FW_FAULT_INFO 31 then bump s Reg.MGT.FW_FAULT
      else faultNoted (bump s Reg.MGT.FW_FAULT) core a write) Page.MGT 1 := (rfl)

theorem fwFault_counts (s : State) (core a : Nat) (write : Bool) :
    rd (fwFault s core a write) Reg.MGT.FW_FAULT = plusOne (rd s Reg.MGT.FW_FAULT) ∧
      rdB (fwFault s core a write) Reg.MGT.FW_FAULT_INFO 31 = true ∧ RegsExcept fwFaultRegs s (fwFault s core a write) := by
  have hbump : RegsExcept fwFaultRegs s (bump s Reg.MGT.FW_FAULT) := (RegsExcept.refl _ s).wr _ (by decide)
  rw [fwFault_eq]
  split
  next hold => exact ⟨(rd_raiseE ..).trans (rd_bump_same ..), by rw [rdB, rd_raiseE]; exact hold, hbump.raiseE⟩
  next =>
    have hvalid : bit (w32 (2 ^ 31 + (core % 4 + 4 * write.toNat))) 31 = true := by
      have hwrite := Bool.toNat_le write
      rw [bit_w32 _ (by decide), decide_eq_true_iff]
      omega
    refine ⟨?_, ?_, (((hbump.wr _ ?_).wr _ ?_).wr _ ?_).raiseE⟩
    · rw [rd_raiseE, faultNoted, wr64, rd_wr_other _ _ _ _ (by decide), rd_wr_other _ _ _ _ (by decide),
        rd_wr_other _ _ _ _ (by decide), rd_bump_same]
    · rw [rdB, rd_raiseE, faultNoted, rd_wr_same]
      exact hvalid
    all_goals decide

theorem fwFault_stores (s : State) (core a : Nat) (write : Bool) :
    (fwFault s core a write).mem = s.mem ∧ (fwFault s core a write).hostMem = s.hostMem := by
  rw [fwFault_eq, raiseE_mem, raiseE_hostMem]
  split <;> exact ⟨rfl, rfl⟩

/-- A read that is refused answers zeros, a write is dropped, and either counts. -/
theorem fwMemoryAccess_faults {s : State} {core addr len : Nat} (write : Bool) (data : List Byte) (hawake : Awake s)
    (hruns : mayAccess s core = true) (htrust : trusted s core = false) (hshut : inWindow s addr len write = false) :
    ∃ t, exec (.fwMemoryAccess core addr write len data) s = .next t ∧
      rd t Reg.MGT.FW_FAULT = plusOne (rd s Reg.MGT.FW_FAULT) ∧ rdB t Reg.MGT.FW_FAULT_INFO 31 = true ∧
      (write = false → t.out.fw = List.replicate len 0) ∧ SameMemory s t ∧ RegsExcept fwFaultRegs s t := by
  obtain ⟨hcount, hinfo, hregs⟩ := fwFault_counts (endStep s core) core addr write
  obtain ⟨hmem, hhost⟩ := fwFault_stores (endStep s core) core addr write
  have hframe := endStep_frame s core
  have hexec := fwMemoryAccess_refused hawake (by rw [hruns, Bool.or_true]) write data htrust hshut
  have hkept : SameMemory s (fwFault (endStep s core) core addr write) := by
    refine sameMemory_of_stores (hmem.trans ?_) (hhost.trans ?_) <;> rw [hframe]
  have hothers : RegsExcept fwFaultRegs s (fwFault (endStep s core) core addr write) :=
    fun b hb => (hregs b hb).trans (rd_endStep ..)
  rw [rd_endStep] at hcount
  cases write with
  | true => exact ⟨_, hexec, hcount, hinfo, nofun, hkept, hothers⟩
  | false => exact ⟨_, hexec, hcount, hinfo, fun _ => rfl, hkept, hothers.of_regs rfl⟩

/-! ### Watchdogs (R405) -/

/-- One core's period begins anew where its bit is written. -/
def kickOne (v : Word) (s : State) (k : Nat) : State :=
  if bit v k then { s with mgt := { s.mgt with kicked := Store.set zeroN s.mgt.kicked k s.time.uptime } } else s

theorem kickOne_leaves (v : Word) (s : State) (k : Nat) :
    (kickOne v s k).regs = s.regs ∧ (kickOne v s k).time = s.time ∧
      ∀ j, Store.get zeroN (kickOne v s k).mgt.kicked j =
        if j = k ∧ bit v j = true then s.time.uptime else Store.get zeroN s.mgt.kicked j := by
  unfold kickOne
  split
  next hbit =>
    refine ⟨rfl, rfl, fun j => ?_⟩
    dsimp only
    rw [Store.get_set]
    by_cases hj : j = k
    · rw [if_pos hj, if_pos ⟨hj, hj ▸ hbit⟩]
    · rw [if_neg hj, if_neg fun h => hj h.1]
  next hbit => exact ⟨rfl, rfl, fun j => (if_neg fun ⟨hj, hwritten⟩ => hbit (hj ▸ hwritten)).symm⟩

theorem foldl_kickOne (v : Word) (l : List Nat) (s : State) :
    (l.foldl (kickOne v) s).regs = s.regs ∧ ∀ j, Store.get zeroN (l.foldl (kickOne v) s).mgt.kicked j =
      if j ∈ l ∧ bit v j = true then s.time.uptime else Store.get zeroN s.mgt.kicked j := by
  induction l generalizing s with
  | nil => exact ⟨rfl, fun j => (if_neg fun h => List.not_mem_nil h.1).symm⟩
  | cons k l ih =>
    obtain ⟨hregs, htime, hone⟩ := kickOne_leaves v s k
    obtain ⟨hrest, hkicked⟩ := ih (kickOne v s k)
    refine ⟨hrest.trans hregs, fun j => (hkicked j).trans ?_⟩
    rw [htime, hone]
    by_cases hl : j ∈ l
    · by_cases hbit : bit v j = true <;> simp [hl, hbit]
    · simp [hl]

theorem writeKick_kicks (s : State) (v : Word) : (writeKick s v).regs = s.regs ∧ ∀ k, k < 4 →
    Store.get zeroN (writeKick s v).mgt.kicked k = if bit v k then s.time.uptime else Store.get zeroN s.mgt.kicked k := by
  obtain ⟨hregs, hkicked⟩ := foldl_kickOne v (List.range 4) s
  refine ⟨hregs, fun k hk => (hkicked k).trans ?_⟩
  simp only [List.mem_range, hk, true_and]

theorem rd_haltFor (s : State) (k cause : Nat) : rd (haltFor s k cause) Reg.MGT.CORE_STATUS =
    setBit (setBit (rd s Reg.MGT.CORE_STATUS) k false) (4 + k) true := by
  refine (rd_wr_same ..).trans ?_
  rw [wrB, rd_wr_same]

/-- A core that halts runs no more, shows HALTED, and waits for its restart. -/
theorem haltFor_halts (s : State) {k : Nat} (cause : Nat) (hk : k < 4) :
    running (haltFor s k cause) k = false ∧ rdB (haltFor s k cause) Reg.MGT.CORE_STATUS (4 + k) = true ∧
      (haltFor s k cause).mgt.waiting = s.mgt.waiting ++ [(k, cause)] ∧
      RegsExcept [Reg.MGT.CORE_STATUS] s (haltFor s k cause) := by
  refine ⟨?_, ?_, rfl, .of_regs (((RegsExcept.refl _ s).wr _ (by decide)).wr _ (by decide)) rfl⟩
  · rw [running, rdB, rd_haltFor, bit_setBit_other _ _ _ _ (by omega) (by omega), bit_setBit_same _ _ _ (by omega), Bool.and_false]
  · rw [rdB, rd_haltFor, bit_setBit_same _ _ _ (by omega)]

section
variable {s : State} {k : Nat} (hawake : Awake s)
include hawake

theorem watchdogExpiry_halts (hwatch : watched s k = true)
    (hdue : elapsedUs s (Store.get zeroN s.mgt.kicked k) (1000 * rdF s Reg.MGT.WDT_MS 15 0) = true) :
    exec (.watchdogExpiry k) s = .next (haltFor s k 0) := by
  refine (live_awake hawake).trans ?_
  rw [hwatch, hdue]
  rfl

theorem watchdogExpiry_early
    (hearly : elapsedUs s (Store.get zeroN s.mgt.kicked k) (1000 * rdF s Reg.MGT.WDT_MS 15 0) = false) :
    exec (.watchdogExpiry k) s = .next s := by
  refine (live_awake hawake).trans ?_
  rw [hearly, Bool.and_false]
  rfl

theorem coreFault_halts (hruns : running s k = true) : exec (.coreFault k) s = .next (haltFor s k 1) := by
  refine (live_awake hawake).trans ?_
  rw [hruns]
  rfl

theorem coreFault_halted (hhalted : running s k = false) : exec (.coreFault k) s = .next s := by
  refine (live_awake hawake).trans ?_
  rw [hhalted]
  rfl

end

/-! ### Restarts (R405) -/

/-- The completions for a restarted core reach the interrupt controller alone. -/
theorem completeCore_frame (s : State) (k : Nat) : completeCore s k = { s with icu := (completeCore s k).icu } := by
  suffices h : ∃ c, completeCore s k = { s with icu := c } by
    obtain ⟨c, h⟩ := h
    rw [h]
  refine List.foldlRecOn (motive := fun t => ∃ c, t = { s with icu := c }) _ _ ⟨s.icu, rfl⟩ fun t ⟨c, ht⟩ i _ => ?_
  subst ht
  split
  · exact ⟨_, rfl⟩
  · exact ⟨c, rfl⟩

theorem audit_mgt (s : State) (kind agent role : Nat) (args : List Byte) : (audit s kind agent role args).mgt = s.mgt := by
  have hlose : ∀ u : State, (audit.lose u).mgt = u.mgt := fun u => by rw [audit.lose, raiseE_mgt, bump_mgt]
  unfold audit
  dsimp only
  split
  · split
    · rfl
    · split
      · rfl
      · rw [hlose]
  · rw [hlose]

theorem restartRecord_leaves (s : State) (k cause n : Nat) : (restartRecord s k cause n).mgt = s.mgt ∧
    ∀ b, b ≠ Reg.AUD.LOST → rd (restartRecord s k cause n) b = rd s b :=
  ⟨audit_mgt .., fun b => rd_audit _ _ _ _ _ b⟩

theorem running_restartRecord (s : State) (j k cause n : Nat) : running (restartRecord s k cause n) j = running s j := by
  rw [running, running, rdB, rdB, (restartRecord_leaves ..).2 _ (by decide)]

/-- The restarts of a core in the last 60 s. -/
def recentRestarts (s : State) (k : Nat) : List (Nat × Nat) :=
  s.mgt.restarts.filter fun e => e.1 == k && !elapsedUs s e.2 60000000

theorem recentRestarts_none {s : State} (k : Nat) (h : s.mgt.restarts = []) : recentRestarts s k = [] := by
  rw [recentRestarts, h, List.filter_nil]

theorem recentRestarts_all {s : State} {k : Nat} (h : ∀ e, e ∈ s.mgt.restarts → e.1 = k ∧ elapsedUs s e.2 60000000 = false) :
    recentRestarts s k = s.mgt.restarts := by
  refine List.filter_eq_self.mpr fun e he => ?_
  obtain ⟨hcore, hrecent⟩ := h e he
  rw [hcore, hrecent, BEq.rfl]
  rfl

/-- A halted core's restart is taken up: its sources complete, and it waits no more. -/
def restartTaken (s : State) (k : Nat) : State :=
  { s with icu := (completeCore s k).icu, mgt := { s.mgt with waiting := s.mgt.waiting.filter fun e => e.1 != k } }

/-- A restart counted, beside those of the last 60 s. -/
def restartKept (s : State) (k : Nat) : State :=
  { restartTaken s k with mgt := { (restartTaken s k).mgt with
      restarts := (s.mgt.restarts.filter fun e => e.1 != k) ++ recentRestarts s k ++ [(k, s.time.uptime)] } }

/-- The core runs again and its restart shows. -/
def restartShown (s : State) (k cause : Nat) : State :=
  raiseE (wr (bump (startCore (restartKept s k) k) Reg.MGT.RESTARTS) Reg.MGT.LAST_RESTART (w32 (2 ^ 31 + (k + 4 * cause)))) Page.MGT 0

theorem codeIntact_restartTaken (s : State) (k : Nat) : codeIntact (restartTaken s k) = codeIntact s := (rfl)

theorem restartTaken_waiting (s : State) (k : Nat) : ((restartTaken s k).mgt.waiting.any fun e => e.1 == k) = false := by
  refine List.any_eq_false.mpr fun e he => ?_
  have hother := (List.mem_filter.mp he).2
  simpa using hother

section
variable {s : State} {k c : Nat} (hawake : Awake s) (hwait : (s.mgt.waiting.find? fun e => e.1 == k) = some (k, c))
include hawake hwait

theorem coreRestart_gives_up (hmany : 4 ≤ (recentRestarts s k).length) : exec (.coreRestart k) s = .next
    (restartRecord (wrB (restartTaken s k) Reg.MGT.CORE_STATUS (8 + k) true) k c (recentRestarts s k).length) := by
  refine (live_awake hawake).trans ?_
  rw [hwait]
  dsimp only
  rw [completeCore_frame]
  exact congrArg _ (if_pos hmany)

theorem coreRestart_refused (hfew : (recentRestarts s k).length < 4) (hcode : codeIntact s = false) :
    exec (.coreRestart k) s = .next (restartRecord (restartTaken s k) k c (recentRestarts s k).length) := by
  have hlost : (!codeIntact (restartTaken s k)) = true := by rw [codeIntact_restartTaken, hcode]; rfl
  refine (live_awake hawake).trans ?_
  rw [hwait]
  dsimp only
  rw [completeCore_frame]
  exact congrArg _ ((if_neg (Nat.not_le.mpr hfew)).trans (if_pos hlost))

theorem coreRestart_restarts (hfew : (recentRestarts s k).length < 4) (hcode : codeIntact s = true) :
    exec (.coreRestart k) s = .next (restartRecord (restartShown s k c) k c ((recentRestarts s k).length + 1)) := by
  have hintact : ¬ (!codeIntact (restartTaken s k)) = true := by rw [codeIntact_restartTaken, hcode]; decide
  refine (live_awake hawake).trans ?_
  rw [hwait]
  dsimp only
  rw [completeCore_frame]
  exact congrArg _ ((if_neg (Nat.not_le.mpr hfew)).trans (if_neg hintact))

end

theorem restartShown_leaves (s : State) {k : Nat} (c : Nat) (hk : k < 4) :
    running (restartShown s k c) k = true ∧ rdB (restartShown s k c) Reg.MGT.CORE_STATUS (4 + k) = false ∧
      rd (restartShown s k c) Reg.MGT.RESTARTS = plusOne (rd s Reg.MGT.RESTARTS) ∧
      rd (restartShown s k c) Reg.MGT.LAST_RESTART = w32 (2 ^ 31 + (k + 4 * c)) ∧
      Store.get zeroN (restartShown s k c).mgt.kicked k = s.time.uptime ∧
      (restartShown s k c).mgt.waiting = (restartTaken s k).mgt.waiting := by
  have hstatus : rd (restartShown s k c) Reg.MGT.CORE_STATUS =
      setBit (setBit (rd s Reg.MGT.CORE_STATUS) k true) (4 + k) false := by
    rw [restartShown, rd_raiseE, rd_wr_other _ _ _ _ (by decide), rd_bump_other _ (by decide)]
    refine (rd_wr_same ..).trans ?_
    rw [wrB, rd_wr_same]
    rfl
  refine ⟨?_, ?_, ?_, ?_, ?_, ?_⟩
  · rw [running, rdB, hstatus, bit_setBit_other _ _ _ _ (by omega) (by omega), bit_setBit_same _ _ _ (by omega),
      decide_eq_true hk, Bool.and_true]
  · rw [rdB, hstatus, bit_setBit_same _ _ _ (by omega)]
  · rw [restartShown, rd_raiseE, rd_wr_other _ _ _ _ (by decide), rd_bump_same]
    refine congrArg plusOne ?_
    exact (rd_wr_other _ _ _ _ (by decide)).trans (rd_wr_other _ _ _ _ (by decide))
  · rw [restartShown, rd_raiseE, rd_wr_same]
  · rw [restartShown, raiseE_mgt]
    exact Store.get_set_same ..
  · rw [restartShown, raiseE_mgt]
    rfl

/-! ### Firmware's transmit ring (R290, R406) -/

theorem writeTxqIdx_leaves (s : State) (v : Word) : rdF (writeTxqIdx s v) Reg.MGT.TXQ_IDX 15 0 = fld v 15 0 ∧
    rdF (writeTxqIdx s v) Reg.MGT.TXQ_IDX 31 16 = rdF s Reg.MGT.TXQ_IDX 31 16 ∧
    RegsExcept [Reg.MGT.TXQ_IDX] s (writeTxqIdx s v) := by
  have hregs : (writeTxqIdx s v).regs = (wrF s Reg.MGT.TXQ_IDX 15 0 (fld v 15 0)).regs := by
    unfold writeTxqIdx
    dsimp only
    split <;> rfl
  have hword : rd (writeTxqIdx s v) Reg.MGT.TXQ_IDX = setFld (rd s Reg.MGT.TXQ_IDX) 15 0 (fld v 15 0) := by
    rw [rd, hregs]
    exact rd_wr_same ..
  refine ⟨?_, ?_, ((RegsExcept.refl _ s).wr _ (List.mem_singleton_self _)).of_regs hregs⟩
  · rw [rdF, hword, fld_setFld_same _ _ _ _ (by decide) (by decide)]
    exact Nat.mod_mod _ _
  · rw [rdF, hword, fld_setFld_other _ _ (by decide) (by decide) (.inr (by decide)), rdF]

theorem writeTxqIdx_off {s : State} (v : Word) (hoff : rdB s Reg.MGT.TXQ_CFG 0 = false) : (writeTxqIdx s v).mgt = s.mgt := by
  rw [writeTxqIdx, hoff]
  rfl

/-- A write of PROD leaves the ring's place and size. -/
theorem txqDesc_wrF (s : State) (v i : Nat) :
    txqSize (wrF s Reg.MGT.TXQ_IDX 15 0 v) = txqSize s ∧ txqDesc (wrF s Reg.MGT.TXQ_IDX 15 0 v) i = txqDesc s i := by
  have hsize : txqSize (wrF s Reg.MGT.TXQ_IDX 15 0 v) = txqSize s := by
    rw [txqSize, txqSize, rdF, rdF, wrF, rd_wr_other _ _ _ _ (by decide)]
  exact ⟨hsize, by rw [txqDesc, txqDesc, hsize, rdN, rdN, wrF, rd_wr_other _ _ _ _ (by decide)]⟩

theorem writeTxqIdx_posts {s : State} {old n : Nat} (v : Word) (hon : rdB s Reg.MGT.TXQ_CFG 0 = true)
    (hold : old = rdF s Reg.MGT.TXQ_IDX 15 0)
    (hn : n = min (wrapTo 16 ((fld v 15 0 : Int) - old)) (2 ^ rdF s Reg.MGT.TXQ_CFG 4 1)) : (writeTxqIdx s v).mgt =
      { s.mgt with txBusy := s.mgt.txBusy ++ (List.range n).map fun j =>
        (beAt (sramRead s (txqDesc s (old + j)) 4) 2 1, beAt (sramRead s (txqDesc s (old + j)) 4) 3 1 % 2, (old + j) % 65536) } := by
  have hsize := (txqDesc_wrF s (fld v 15 0) 0).1
  have hdesc := fun i => (txqDesc_wrF s (fld v 15 0) i).2
  rw [writeTxqIdx, hon, if_pos rfl, ← hold, txqPost]
  simp only [hsize, hdesc]
  rw [show txqSize s = 2 ^ rdF s Reg.MGT.TXQ_CFG 4 1 from rfl, ← hn]
  rfl

/-- Tegress of a frame whose descriptor is `desc` (R290). -/
def sentAt (s : State) (p kind : Nat) (desc : List Byte) : Int :=
  egressTime s (if kind = 1 then 272 + p else 256 + p) - netWireTime kind (leAt desc 0 2 % 16384)

/-- The bytes of a frame as it leaves, with its time in it where one-step insertion is asked for. -/
def sentBytes (s : State) (desc : List Byte) (t : Int) : List Byte :=
  if (leAt desc 4 4).testBit 1 then
    oneStep (sramRead s (leAt desc 8 4) (leAt desc 0 2 % 16384)) ((leAt desc 4 4).testBit 2) t
  else sramRead s (leAt desc 8 4) (leAt desc 0 2 % 16384)

/-- The descriptor of a frame sent, at SRAM address `d`: its time, where that is asked for, and DONE. -/
def descriptorDone (s : State) (d : Nat) (desc : List Byte) (t : Int) : State :=
  sramStore (if (leAt desc 4 4).testBit 0 then
      sramStore (sramStore s (d + 0x10) (leBytes 6 (splitTime t).1)) (d + 0x18)
        (leBytes 4 (splitTime t).2.1 ++ leBytes 2 (splitTime t).2.2)
    else s) (d + 0x16) (leBytes 1 (beAt desc 0x16 1 / 2 * 2 + 1))

/-- A frame has left the wire and is taken off. -/
def frameLeft (s : State) (f : List Byte) (e : Nat × Nat × Nat) : State :=
  { s with out := { s.out with net := f }, mgt := { s.mgt with txBusy := s.mgt.txBusy.erase e } }

/-- A frame counts on an SV port. -/
def frameCounted (s : State) (p kind : Nat) : State := if kind = 1 then bump s (Reg.SV.TX_FRAMES p) else s

theorem sramStore_txBusy (s : State) (a : Nat) (bs : List Byte) : (sramStore s a bs).mgt.txBusy = s.mgt.txBusy := (rfl)

theorem descriptorDone_leaves (s : State) (d : Nat) (desc : List Byte) (t : Int) :
    (descriptorDone s d desc t).mgt.txBusy = s.mgt.txBusy ∧ (descriptorDone s d desc t).regs = s.regs ∧
      (descriptorDone s d desc t).mem = s.mem ∧ (descriptorDone s d desc t).hostMem = s.hostMem := by
  unfold descriptorDone
  split <;> simp only [sramStore_txBusy, sramStore_regs, sramStore_keep, and_self]

theorem frameCounted_leaves (s : State) (p kind : Nat) : (frameCounted s p kind).mgt = s.mgt ∧
    (frameCounted s p kind).mem = s.mem ∧ (frameCounted s p kind).hostMem = s.hostMem ∧
      RegsExcept [Reg.SV.TX_FRAMES p] s (frameCounted s p kind) := by
  unfold frameCounted
  split
  · exact ⟨bump_mgt .., bump_mem .., bump_hostMem .., (RegsExcept.refl _ s).wr _ (List.mem_singleton_self _)⟩
  · exact ⟨rfl, rfl, rfl, RegsExcept.refl _ s⟩

/-- CONS moves, and PROD stays. -/
theorem txqRetire_leaves (s : State) : (txqRetire s).mgt = s.mgt ∧ (txqRetire s).mem = s.mem ∧ (txqRetire s).hostMem = s.hostMem ∧
    rdF (txqRetire s) Reg.MGT.TXQ_IDX 15 0 = rdF s Reg.MGT.TXQ_IDX 15 0 ∧ RegsExcept [Reg.MGT.TXQ_IDX] s (txqRetire s) := by
  obtain ⟨n, hn⟩ : ∃ n, txqRetire s = wrF s Reg.MGT.TXQ_IDX 31 16 n := ⟨_, rfl⟩
  rw [hn]
  refine ⟨wrF_mgt .., wrF_mem .., wrF_hostMem .., ?_, (RegsExcept.refl _ s).wr _ (List.mem_singleton_self _)⟩
  rw [rdF, rd_wrF, if_pos rfl, fld_setFld_other _ _ (by decide) (by decide) (.inl (by decide)), rdF]

section
variable {s : State} {p kind : Nat} (hawake : Awake s)
include hawake

theorem transmitDone_idle (hnone : (s.mgt.txBusy.find? fun e => e.1 == p && e.2.1 == kind) = none) :
    exec (.transmitDone p kind) s = .next s := by
  refine (live_awake hawake).trans ?_
  rw [hnone]

variable {e : Nat × Nat × Nat} (hsome : (s.mgt.txBusy.find? fun e => e.1 == p && e.2.1 == kind) = some e)
include hsome

theorem transmitDone_sent {d : Nat} {desc : List Byte} {t : Int} (hd : d = txqDesc s e.2.2) (hdesc : desc = sramRead s d 32)
    (ht : t = sentAt s p kind desc) : exec (.transmitDone p kind) s =
      .next (txqRetire (frameCounted (frameLeft (descriptorDone s d desc t) (sentBytes s desc t) e) p kind)) := by
  refine (live_awake hawake).trans ?_
  rw [hsome]
  subst hd hdesc ht
  rfl

theorem transmitDone_takes_off (hp : p < 16) :
    ∃ t, exec (.transmitDone p kind) s = .next t ∧ t.mgt.txBusy = s.mgt.txBusy.erase e ∧ SameMemory s t ∧
      rdF t Reg.MGT.TXQ_IDX 15 0 = rdF s Reg.MGT.TXQ_IDX 15 0 ∧ RegsExcept [Reg.MGT.TXQ_IDX, Reg.SV.TX_FRAMES p] s t := by
  have hexec := transmitDone_sent hawake hsome rfl rfl rfl
  generalize sramRead s (txqDesc s e.2.2) 32 = desc at hexec
  generalize sentAt s p kind desc = t, txqDesc s e.2.2 = d at hexec
  obtain ⟨hbusy, hregs, hmem, hhost⟩ := descriptorDone_leaves s d desc t
  obtain ⟨hcmgt, hcmem, hchost, hcregs⟩ := frameCounted_leaves (frameLeft (descriptorDone s d desc t) (sentBytes s desc t) e) p kind
  generalize frameCounted (frameLeft (descriptorDone s d desc t) (sentBytes s desc t) e) p kind = u at hexec hcmgt hcmem hchost hcregs
  obtain ⟨hrmgt, hrmem, hrhost, hprod, hrregs⟩ := txqRetire_leaves u
  have hcounted : RegsExcept [Reg.SV.TX_FRAMES p] s u := ((RegsExcept.refl _ s).of_regs hregs).trans hcregs
  have hapart : Reg.MGT.TXQ_IDX ∉ [Reg.SV.TX_FRAMES p] := by
    rw [List.mem_singleton]
    show (0x2C0164 : Nat) ≠ 0x22109C + 0x1000 * p
    omega
  refine ⟨_, hexec, ?_, sameMemory_of_stores (hrmem.trans (hcmem.trans hmem)) (hrhost.trans (hchost.trans hhost)), ?_,
    (hcounted.mono (by simp)).trans (hrregs.mono (by simp))⟩
  · rw [hrmgt, hcmgt]
    exact congrArg (List.erase · e) hbusy
  · rw [hprod, rdF, hcounted _ hapart, rdF]

end

end Sys2Proof.Machine
end

section
open Sys2Proof Sys2Proof.Machine

/-- Settles O57: an access meets its window or is a fault, a core that halts waits for its restart, and the ring posts and retires
frames as its support lemmas have it. -/
theorem managementCores : Obligations.ManagementCores := by
  refine ⟨fun s core addr len data hawake hcore hmay => ⟨fun hin => ⟨fun hread => ?_, fun hwrite => ?_⟩, fun write hshut => ?_⟩,
    fun s addr len data hawake hbooted hin => ?_,
    fun s a v hawake => ⟨fun hacc => ?_, fun hacc => ?_⟩,
    fun s k hawake hk => ⟨fun hwatch => ⟨fun hdue => ?_, watchdogExpiry_early hawake⟩, fun hruns => ?_, coreFault_halted hawake,
      fun c hwait hnone hcode => ?_, fun c hwait hnone hcode => ?_, fun c l hwait hl hmany hrecent => ?_⟩,
    fun s p kind hawake => ⟨transmitDone_idle hawake, fun e => transmitDone_takes_off hawake⟩⟩
  · exact fwMemoryAccess_reads hawake (by rw [hmay, Bool.or_true]) data (by rw [hread, Bool.or_true]) hin
  · exact fwMemoryAccess_writes hawake (by rw [hmay, Bool.or_true]) data (by rw [hwrite, Bool.or_true]) hin
  · have htrust : trusted s core = false := by rw [trusted, beq_eq_false_iff_ne.mpr (by omega), Bool.false_and]
    exact fwMemoryAccess_faults write data hawake hmay htrust hshut
  · have htrust : trusted s 4 = true := by rw [trusted, hbooted]; rfl
    have hany (b : Bool) : (trusted s 4 || b) = true := by rw [htrust, Bool.true_or]
    exact ⟨fwMemoryAccess_reads hawake (hany _) data (hany _) hin, fwMemoryAccess_writes hawake (hany _) data (hany _) hin⟩
  · obtain ⟨hregs, hkicked⟩ := writeKick_kicks s v
    exact ⟨_, live_guarded hawake hacc, by rw [touchSession_regs, hregs], fun k hk => by rw [touchSession_mgt, hkicked k hk]⟩
  · obtain ⟨hprod, hcons, hregs⟩ := writeTxqIdx_leaves s v
    refine ⟨_, live_guarded hawake hacc, ?_, ?_, hregs.touchSession, fun hoff => ?_, fun old n hon hold hn => ?_⟩
    · rw [rdF, rd_touchSession, ← rdF, hprod]
    · rw [rdF, rd_touchSession, ← rdF, hcons]
    · rw [touchSession_mgt, writeTxqIdx_off v hoff]
    · rw [touchSession_mgt, writeTxqIdx_posts v hon hold hn]
  · exact ⟨_, watchdogExpiry_halts hawake hwatch hdue, haltFor_halts s 0 hk⟩
  · obtain ⟨hhalted, -, hwaits, hregs⟩ := haltFor_halts s 1 hk
    exact ⟨_, coreFault_halts hawake hruns, hhalted, hwaits, hregs⟩
  · have hfew : (recentRestarts s k).length < 4 := by rw [recentRestarts_none k hnone]; decide
    obtain ⟨hmgt, hregs⟩ := restartRecord_leaves (restartTaken s k) k c (recentRestarts s k).length
    refine ⟨_, coreRestart_refused hawake hwait hfew hcode, running_restartRecord .., ?_, hregs _ (by decide), ?_⟩
    · rw [hmgt]
      exact hnone
    · rw [hmgt, restartTaken_waiting]
  · have hfew : (recentRestarts s k).length < 4 := by rw [recentRestarts_none k hnone]; decide
    obtain ⟨hmgt, hregs⟩ := restartRecord_leaves (restartShown s k c) k c ((recentRestarts s k).length + 1)
    obtain ⟨hruns, hhalted, hcount, hlast, hkicked, hwaiting⟩ := restartShown_leaves s c hk
    refine ⟨_, coreRestart_restarts hawake hwait hfew hcode, (running_restartRecord ..).trans hruns, ?_,
      (hregs _ (by decide)).trans hcount, (hregs _ (by decide)).trans hlast, ?_, ?_⟩
    · rw [rdB, hregs _ (by decide), ← rdB, hhalted]
    · rw [hmgt, hkicked]
    · rw [hmgt, hwaiting, restartTaken_waiting]
  · have hall : recentRestarts s k = l := (recentRestarts_all fun e he => hrecent e (hl ▸ he)).trans hl
    obtain ⟨hmgt, hregs⟩ := restartRecord_leaves (wrB (restartTaken s k) Reg.MGT.CORE_STATUS (8 + k) true) k c
      (recentRestarts s k).length
    refine ⟨_, coreRestart_gives_up hawake hwait (by rwa [hall]), ?_, ?_, ?_⟩
    · rw [running_restartRecord, running, rdB, rd_wrB, if_pos rfl, bit_setBit_other _ _ _ _ (by omega) (by omega)]
      rfl
    · rw [rdB, hregs _ (by decide), rd_wrB, if_pos rfl, bit_setBit_same _ _ _ (by omega)]
    · rw [hmgt]
      exact hl

end

section
/-! SUPPORT. Every command: which of device memory, host memory and the one-time-programmable store it leaves alone, that both memories
stay canonical, and that host memory stays as it is while bus mastering is disabled (R374, R375, R380, R396). -/

namespace Sys2Proof.Machine

/-! ### What every command keeps -/

/-- Commands whose own effect can reach host memory. -/
def writesHostMemory : Instr → Bool
  | .registerWrite _ _ _ | .parityMismatch _ _ | .pageDisable _ _ _ | .pageEnable _ _ _ | .pageSoftReset _ _ _ | .pcieLinkChange _
  | .fencePublish _ _ | .txFrameDone _ | .sessionComplete _ _ | .mqDescReadDone _ _ _ | .dmaGo _ _ _ | .dmaDescComplete _ _
  | .dmaResponseError _ _ _ _ _ | .dmaTimeout _ _ _ _ _ | .dmaAbort _ _ _ _ _ _ | .irqOffer _ | .moderationExpiry _ | .d0Entry
  | .configurationWrite _ _ | .tapAccess _ => true
  | _ => false

/-- Commands that program the one-time-programmable store (R396, R415, R420). -/
def writesFuses : Instr → Bool
  | .tcBoot | .fwkey => true
  | _ => false

/-- What command `c` keeps between `s` and `t`. -/
structure Keeps (c : Instr) (s t : State) : Prop where
  mem : writesMemory c = false → t.mem = s.mem
  host : writesHostMemory c = false → t.hostMem = s.hostMem
  otp : writesFuses c = false → t.otp = s.otp

variable {c : Instr} {s : State} {o : Host.Outcome State Fault Refusal} {P : State → Prop}

theorem keeps_everything
    (h : ∃ t, o = .next t ∧ t.pending = s.pending ∧ t.mem = s.mem ∧ t.hostMem = s.hostMem ∧ t.otp = s.otp ∧ P t) :
    ∃ t, o = .next t ∧ Keeps c s t :=
  h.imp fun _ ⟨ht, _, hmem, hhost, hotp, _⟩ => ⟨ht, fun _ => hmem, fun _ => hhost, fun _ => hotp⟩

theorem keeps_all_but_config
    (h : ∃ t, o = .next t ∧ t.pending = s.pending ∧ t.mem = s.mem ∧ t.hostMem = s.hostMem ∧ t.otp = s.otp) :
    ∃ t, o = .next t ∧ Keeps c s t :=
  h.imp fun _ ⟨ht, _, hmem, hhost, hotp⟩ => ⟨ht, fun _ => hmem, fun _ => hhost, fun _ => hotp⟩

theorem keeps_all_but_otp (hc : writesFuses c = true)
    (h : ∃ t, o = .next t ∧ t.pending = s.pending ∧ t.mem = s.mem ∧ t.hostMem = s.hostMem ∧ P t) :
    ∃ t, o = .next t ∧ Keeps c s t :=
  h.imp fun _ ⟨ht, _, hmem, hhost, _⟩ => ⟨ht, fun _ => hmem, fun _ => hhost, by simp [hc]⟩

theorem keeps_all_but_mem (hc : writesMemory c = true)
    (h : ∃ t, o = .next t ∧ t.pending = s.pending ∧ t.hostMem = s.hostMem ∧ t.otp = s.otp ∧ P t) :
    ∃ t, o = .next t ∧ Keeps c s t :=
  h.imp fun _ ⟨ht, _, hhost, hotp, _⟩ => ⟨ht, by simp [hc], fun _ => hhost, fun _ => hotp⟩

theorem keeps_all_but_memories (hc : writesMemory c = true) (hh : writesHostMemory c = true)
    (h : ∃ t, o = .next t ∧ t.pending = s.pending ∧ t.otp = s.otp ∧ P t) : ∃ t, o = .next t ∧ Keeps c s t :=
  h.imp fun _ ⟨ht, _, hotp, _⟩ => ⟨ht, by simp [hc], by simp [hh], fun _ => hotp⟩

/-- Every command answers a next state with what it keeps, by the keep lemma of its meaning. -/
theorem exec_keeps (c : Instr) (s : State) : ∃ t, exec c s = .next t ∧ Keeps c s t := by
  cases c with
  | registerWrite => exact (execRegisterWrite_keep ..).imp fun _ ⟨ht, _, hotp⟩ => ⟨ht, nofun, nofun, fun _ => hotp⟩
  | rcRead => exact keeps_everything (execRcRead_keep ..)
  | w1cWrite => exact keeps_everything (execW1cWrite_keep ..)
  | partialAccess => exact keeps_everything (execPartialAccess_keep ..)
  | indDataRead => exact keeps_everything (execIndDataRead_keep ..)
  | indDataWrite => exact keeps_everything (execIndDataWrite_keep ..)
  | pageLockWrite => exact keeps_everything (execPageLockWrite_keep ..)
  | parityMismatch => exact keeps_all_but_memories rfl rfl (execParityMismatch_keep ..)
  | pageDisable => exact keeps_all_but_memories rfl rfl (execPageDisable_keep ..)
  | pageEnable => exact keeps_all_but_memories rfl rfl (execPageEnable_keep ..)
  | pageSoftReset => exact keeps_all_but_memories rfl rfl (execPageSoftReset_keep ..)
  | softResetDone => exact keeps_everything (execSoftResetDone_keep ..)
  | bar2Read => exact keeps_everything (execBar2Read_keep ..)
  | bar2Write => exact keeps_all_but_mem rfl (execBar2Write_keep ..)
  | pcieLinkChange => exact keeps_all_but_memories rfl rfl (execPcieLinkChange_keep ..)
  | igLinkChange => exact keeps_everything (execIgLinkChange_keep ..)
  | igFrameRx => exact keeps_everything (execIgFrameRx_keep ..)
  | bufferAssign => exact keeps_everything (execBufferAssign_keep ..)
  | frameCloseTimeout => exact keeps_everything (execFrameCloseTimeout_keep ..)
  | fencePublish => exact keeps_all_but_memories rfl rfl (execFencePublish_keep ..)
  | streamEnable => exact keeps_everything (execStreamEnable_keep ..)
  | streamDisable => exact keeps_everything (execStreamDisable_keep ..)
  | ingestEnable => exact keeps_everything (execIngestEnable_keep ..)
  | ingestDisable => exact keeps_everything (execIngestDisable_keep ..)
  | sdiLockChange => exact keeps_everything (execSdiLockChange_keep ..)
  | sdiFrameRx => exact keeps_everything (execSdiFrameRx_keep ..)
  | commit => exact keeps_everything (execCommit_keep ..)
  | commitCheckDone => exact keeps_everything (execCommitCheckDone_keep ..)
  | commitCancel => exact keeps_everything (execCommitCancel_keep ..)
  | layerLatch => exact keeps_everything (execLayerLatch_keep ..)
  | placementPacket => exact keeps_everything (execPlacementPacket_keep ..)
  | awningGroupLatch => exact keeps_everything (execAwningGroupLatch_keep ..)
  | spanBuildStart => exact keeps_everything (execSpanBuildStart_keep ..)
  | spanBuildDone => exact keeps_everything (execSpanBuildDone_keep ..)
  | spanSwap => exact keeps_everything (execSpanSwap_keep ..)
  | fetchRelease => exact keeps_everything (execFetchRelease_keep ..)
  | fetchDataReturn => exact keeps_everything (execFetchDataReturn_keep ..)
  | fabricSlotGrant => exact keeps_all_but_mem rfl (execFabricSlotGrant_keep ..)
  | arbitrationWindowEnd => exact keeps_everything (execArbitrationWindowEnd_keep ..)
  | recheckGo => exact keeps_everything (execRecheckGo_keep ..)
  | recheckDone => exact keeps_everything (execRecheckDone_keep ..)
  | contextGranuleReturn => exact keeps_everything (execContextGranuleReturn_keep ..)
  | calEnable => exact keeps_everything (execCalEnable_keep ..)
  | flipGo => exact keeps_everything (execFlipGo_keep ..)
  | scrubCheck => exact keeps_all_but_mem rfl (execScrubCheck_keep ..)
  | bandEnter => exact keeps_everything (execBandEnter_keep ..)
  | compositionStepDone => exact keeps_everything (execCompositionStepDone_keep ..)
  | bandDeadline => exact keeps_everything (execBandDeadline_keep ..)
  | gsFillGo => exact keeps_everything (execGsFillGo_keep ..)
  | gsFillDone => exact keeps_everything (execGsFillDone_keep ..)
  | seqRestart => exact keeps_everything (execSeqRestart_keep ..)
  | nop => exact keeps_everything (execNop_keep ..)
  | set => exact keeps_everything (execSet_keep ..)
  | add => exact keeps_everything (execAdd_keep ..)
  | loop => exact keeps_everything (execLoop_keep ..)
  | endloop => exact keeps_everything (execEndloop_keep ..)
  | waitBand => exact keeps_everything (execWaitBand_keep ..)
  | waitBandRelease => exact keeps_everything (execWaitBandRelease_keep ..)
  | waitTime => exact keeps_everything (execWaitTime_keep ..)
  | waitTimeRelease => exact keeps_everything (execWaitTimeRelease_keep ..)
  | waitEvent => exact keeps_everything (execWaitEvent_keep ..)
  | waitEventRelease => exact keeps_everything (execWaitEventRelease_keep ..)
  | waitEventTimeout => exact keeps_everything (execWaitEventTimeout_keep ..)
  | send => exact keeps_everything (execSend_keep ..)
  | pixelFrameStart => exact keeps_everything (execPixelFrameStart_keep ..)
  | close => exact keeps_everything (execClose_keep ..)
  | closeRelease => exact keeps_everything (execCloseRelease_keep ..)
  | signal => exact keeps_everything (execSignal_keep ..)
  | seqEnd => exact keeps_everything (execSeqEnd_keep ..)
  | loadCheckGo => exact keeps_everything (execLoadCheckGo_keep ..)
  | loadCheckDone => exact keeps_everything (execLoadCheckDone_keep ..)
  | swapGo => exact keeps_everything (execSwapGo_keep ..)
  | swapCancel => exact keeps_everything (execSwapCancel_keep ..)
  | seqEnable => exact keeps_everything (execSeqEnable_keep ..)
  | seqDisable => exact keeps_everything (execSeqDisable_keep ..)
  | tileLinkChange => exact keeps_everything (execTileLinkChange_keep ..)
  | tileFrameRx => exact keeps_everything (execTileFrameRx_keep ..)
  | farOkLoss => exact keeps_everything (execFarOkLoss_keep ..)
  | timeFrameTick => exact keeps_everything (execTimeFrameTick_keep ..)
  | lanternQueue => exact keeps_everything (execLanternQueue_keep ..)
  | egressSelect => exact keeps_everything (execEgressSelect_keep ..)
  | txFrameDone => exact keeps_all_but_memories rfl rfl (execTxFrameDone_keep ..)
  | gateWindowOpen => exact keeps_everything (execGateWindowOpen_keep ..)
  | sessionDoorbell => exact keeps_everything (execSessionDoorbell_keep ..)
  | sessionDescReadDone => exact keeps_everything (execSessionDescReadDone_keep ..)
  | sessionAckTimeout => exact keeps_everything (execSessionAckTimeout_keep ..)
  | sessionComplete => exact keeps_all_but_memories rfl rfl (execSessionComplete_keep ..)
  | mqDoorbell => exact keeps_everything (execMqDoorbell_keep ..)
  | mqDescReadDone => exact keeps_all_but_memories rfl rfl (execMqDescReadDone_keep ..)
  | queueSample => exact keeps_everything (execQueueSample_keep ..)
  | sampleClear => exact keeps_everything (execSampleClear_keep ..)
  | timeCounterTick => exact keeps_everything (execTimeCounterTick_keep ..)
  | incOfsWrite => exact keeps_everything (execIncOfsWrite_keep ..)
  | captureGo => exact keeps_everything (execCaptureGo_keep ..)
  | captureArm => exact keeps_everything (execCaptureArm_keep ..)
  | captureEvent => exact keeps_everything (execCaptureEvent_keep ..)
  | ppsEnd => exact keeps_everything (execPpsEnd_keep ..)
  | stepOffset => exact keeps_everything (execStepOffset_keep ..)
  | stepAbsolute => exact keeps_everything (execStepAbsolute_keep ..)
  | svLinkChange => exact keeps_everything (execSvLinkChange_keep ..)
  | svFrameRx => exact keeps_everything (execSvFrameRx_keep ..)
  | ptpMessage => exact keeps_everything (execPtpMessage_keep ..)
  | syncTimeout => exact keeps_everything (execSyncTimeout_keep ..)
  | holdoverEnd => exact keeps_everything (execHoldoverEnd_keep ..)
  | lockedWrite => exact keeps_everything (execLockedWrite_keep ..)
  | phaseEnable => exact keeps_everything (execPhaseEnable_keep ..)
  | phaseDisable => exact keeps_everything (execPhaseDisable_keep ..)
  | phaseStart => exact keeps_everything (execPhaseStart_keep ..)
  | offsetApplyGo => exact keeps_everything (execOffsetApplyGo_keep ..)
  | offsetApplyEffect => exact keeps_everything (execOffsetApplyEffect_keep ..)
  | twinEnable => exact keeps_everything (execTwinEnable_keep ..)
  | twinDisable => exact keeps_everything (execTwinDisable_keep ..)
  | twinLinkChange => exact keeps_everything (execTwinLinkChange_keep ..)
  | healthRecord => exact keeps_everything (execHealthRecord_keep ..)
  | timeRecord => exact keeps_everything (execTimeRecord_keep ..)
  | commitRecord => exact keeps_everything (execCommitRecord_keep ..)
  | cancelRecord => exact keeps_everything (execCancelRecord_keep ..)
  | digestRecord => exact keeps_everything (execDigestRecord_keep ..)
  | flipRecord => exact keeps_everything (execFlipRecord_keep ..)
  | placeRecord => exact keeps_everything (execPlaceRecord_keep ..)
  | fenceRecord => exact keeps_everything (execFenceRecord_keep ..)
  | digestSend => exact keeps_everything (execDigestSend_keep ..)
  | digestCompare => exact keeps_everything (execDigestCompare_keep ..)
  | mirroredCancelApply => exact keeps_everything (execMirroredCancelApply_keep ..)
  | placeApply => exact keeps_everything (execPlaceApply_keep ..)
  | fencePairReady => exact keeps_everything (execFencePairReady_keep ..)
  | healthSend => exact keeps_everything (execHealthSend_keep ..)
  | twinTimeSend => exact keeps_everything (execTwinTimeSend_keep ..)
  | peerLoss => exact keeps_everything (execPeerLoss_keep ..)
  | searchTimeout => exact keeps_everything (execSearchTimeout_keep ..)
  | join => exact keeps_everything (execJoin_keep ..)
  | phaseYield => exact keeps_everything (execPhaseYield_keep ..)
  | bltCopy => exact keeps_all_but_mem rfl (execBltCopy_keep ..)
  | bltFill => exact keeps_all_but_mem rfl (execBltFill_keep ..)
  | bltCopyBlend => exact keeps_all_but_mem rfl (execBltCopyBlend_keep ..)
  | bltCopyConvert => exact keeps_all_but_mem rfl (execBltCopyConvert_keep ..)
  | bltAbort => exact keeps_all_but_mem rfl (execBltAbort_keep ..)
  | bltDone => exact keeps_all_but_mem rfl (execBltDone_keep ..)
  | bltMemError => exact keeps_all_but_mem rfl (execBltMemError_keep ..)
  | dmaGo => exact keeps_all_but_memories rfl rfl (execDmaGo_keep ..)
  | dmaTrigger => exact keeps_everything (execDmaTrigger_keep ..)
  | dmaDescFetchDone => exact keeps_everything (execDmaDescFetchDone_keep ..)
  | dmaDescCheck => exact keeps_everything (execDmaDescCheck_keep ..)
  | dmaDescComplete => exact keeps_all_but_memories rfl rfl (execDmaDescComplete_keep ..)
  | dmaResponseError => exact keeps_all_but_memories rfl rfl (execDmaResponseError_keep ..)
  | dmaTimeout => exact keeps_all_but_memories rfl rfl (execDmaTimeout_keep ..)
  | dmaDrainDone => exact keeps_everything (execDmaDrainDone_keep ..)
  | dmaAbort => exact keeps_all_but_memories rfl rfl (execDmaAbort_keep ..)
  | dmaErrClear => exact keeps_everything (execDmaErrClear_keep ..)
  | irqInputRise => exact keeps_everything (execIrqInputRise_keep ..)
  | irqOffer => exact keeps_all_but_memories rfl rfl (execIrqOffer_keep ..)
  | moderationExpiry => exact keeps_all_but_memories rfl rfl (execModerationExpiry_keep ..)
  | offerWithdraw => exact keeps_everything (execOfferWithdraw_keep ..)
  | claim => exact keeps_everything (execClaim_keep ..)
  | hostClaim => exact keeps_everything (execHostClaim_keep ..)
  | cpl => exact keeps_everything (execCpl_keep ..)
  | hostCpl => exact keeps_everything (execHostCpl_keep ..)
  | swSourceSet => exact keeps_everything (execSwSourceSet_keep ..)
  | swSourceClear => exact keeps_everything (execSwSourceClear_keep ..)
  | d0Entry => exact keeps_all_but_memories rfl rfl (execD0Entry_keep ..)
  | swPulse => exact keeps_everything (execSwPulse_keep ..)
  | tcBoot => exact keeps_all_but_otp rfl (execTcBoot_keep ..)
  | auditRecordWrite => exact keeps_everything (execAuditRecordWrite_keep ..)
  | imageUpdate => exact keeps_everything (execImageUpdate_keep ..)
  | imageUpdateDone => exact keeps_everything (execImageUpdateDone_keep ..)
  | attest => exact keeps_everything (execAttest_keep ..)
  | attestDone => exact keeps_everything (execAttestDone_keep ..)
  | fwMemoryAccess => exact keeps_all_but_mem rfl (execFwMemoryAccess_keep ..)
  | wdtKick => exact keeps_everything (execWdtKick_keep ..)
  | watchdogExpiry => exact keeps_everything (execWatchdogExpiry_keep ..)
  | coreFault => exact keeps_everything (execCoreFault_keep ..)
  | coreRestart => exact keeps_everything (execCoreRestart_keep ..)
  | txqDoorbell => exact keeps_everything (execTxqDoorbell_keep ..)
  | sessionChallenge => exact keeps_everything (execSessionChallenge_keep ..)
  | challengeReady => exact keeps_everything (execChallengeReady_keep ..)
  | challengeExpiry => exact keeps_everything (execChallengeExpiry_keep ..)
  | sessionOpen => exact keeps_everything (execSessionOpen_keep ..)
  | sessionVerifyDone => exact keeps_everything (execSessionVerifyDone_keep ..)
  | sessionClose => exact keeps_everything (execSessionClose_keep ..)
  | sessionIdleTimeout => exact keeps_everything (execSessionIdleTimeout_keep ..)
  | sessionMaxTimeout => exact keeps_everything (execSessionMaxTimeout_keep ..)
  | reqSubmit => exact keeps_everything (execReqSubmit_keep ..)
  | reqApprove => exact keeps_everything (execReqApprove_keep ..)
  | approvalVerifyDone => exact keeps_everything (execApprovalVerifyDone_keep ..)
  | reqWithdraw => exact keeps_everything (execReqWithdraw_keep ..)
  | reqTimeout => exact keeps_everything (execReqTimeout_keep ..)
  | rights => exact keeps_everything (execRights_keep ..)
  | enrol => exact keeps_everything (execEnrol_keep ..)
  | fwkey => exact keeps_all_but_otp rfl (execFwkey_keep ..)
  | debug => exact keeps_everything (execDebug_keep ..)
  | jump => exact keeps_everything (execJump_keep ..)
  | debugRelock => exact keeps_everything (execDebugRelock_keep ..)
  | powerOnReset => exact (execPowerOnReset_keep s).imp fun _ ⟨ht, _, hhost, hotp⟩ => ⟨ht, nofun, fun _ => hhost, fun _ => hotp⟩
  | resetPin => exact keeps_all_but_config (execResetPin_keep ..)
  | devRst => exact keeps_all_but_config (execDevRst_keep ..)
  | resetRelease => exact keeps_everything (execResetRelease_keep ..)
  | sramInitDone => exact keeps_everything (execSramInitDone_keep ..)
  | hbmTrained => exact keeps_everything (execHbmTrained_keep ..)
  | refSysLoss => exact keeps_all_but_config (execRefSysLoss_keep ..)
  | octetPllUnlock => exact keeps_everything (execOctetPllUnlock_keep ..)
  | igPllUnlock => exact keeps_everything (execIgPllUnlock_keep ..)
  | refSdiLoss => exact keeps_everything (execRefSdiLoss_keep ..)
  | refAonLoss => exact keeps_everything (execRefAonLoss_keep ..)
  | pcieDomainReset => exact keeps_all_but_config (execPcieDomainReset_keep ..)
  | supplyDip => exact keeps_all_but_config (execSupplyDip_keep ..)
  | thermalTrip => exact keeps_all_but_config (execThermalTrip_keep ..)
  | hbmRetrain => exact keeps_everything (execHbmRetrain_keep ..)
  | standbyEnter => exact keeps_everything (execStandbyEnter_keep ..)
  | standbyLeave => exact keeps_everything (execStandbyLeave_keep ..)
  | standbyTransitionDone => exact keeps_everything (execStandbyTransitionDone_keep ..)
  | railSample => exact keeps_everything (execRailSample_keep ..)
  | malformedRecord => exact keeps_everything (execMalformedRecord_keep ..)
  | configurationWrite => exact (execConfigurationWrite_keep ..).imp fun _ ⟨ht, _, hotp⟩ => ⟨ht, nofun, nofun, fun _ => hotp⟩
  | tapAccess => exact keeps_all_but_memories rfl rfl (execTapAccess_keep ..)
  | transmitDone => exact keeps_everything (execTransmitDone_keep ..)
  | hbmRetrainingDone => exact keeps_everything (execHbmRetrainingDone_keep ..)
  | octetPllRelock => exact keeps_everything (execOctetPllRelock_keep ..)
  | igPllRelock => exact keeps_everything (execIgPllRelock_keep ..)
  | refSdiReturn => exact keeps_everything (execRefSdiReturn_keep ..)
  | refAonReturn => exact keeps_everything (execRefAonReturn_keep ..)
  | pcieDomainRelease => exact keeps_everything (execPcieDomainRelease_keep ..)
  | completionTimeout => exact keeps_everything (execCompletionTimeout_keep ..)
  | sessionLockoutEnd => exact keeps_everything (execSessionLockoutEnd_keep ..)
  | powerSample => exact keeps_everything (execPowerSample_keep ..)
  | temperatureSample => exact keeps_everything (execTemperatureSample_keep ..)
  | frequencyMeasurement => exact keeps_everything (execFrequencyMeasurement_keep ..)

/-- What a next state of a command has kept. -/
theorem keeps_of_next {c : Instr} {s t : State} (ht : exec c s = .next t) : Keeps c s t := by
  obtain ⟨u, hu, h⟩ := exec_keeps c s
  cases hu.symm.trans ht
  exact h

/-! ### The memories stay canonical (R374, R455) -/

theorem exec_keeps_mem_wf {c : Instr} {s t : State} (h : Memory.wf s.mem = true) (ht : exec c s = .next t) :
    Memory.wf t.mem = true := by
  cases c with
  | registerWrite => exact execRegisterWrite_memwf (h := h) (ht := ht) ..
  | parityMismatch => exact execParityMismatch_memwf (h := h) (ht := ht) ..
  | pageDisable => exact execPageDisable_memwf (h := h) (ht := ht) ..
  | pageEnable => exact execPageEnable_memwf (h := h) (ht := ht) ..
  | pageSoftReset => exact execPageSoftReset_memwf (h := h) (ht := ht) ..
  | bar2Write => exact execBar2Write_memwf (h := h) (ht := ht) ..
  | pcieLinkChange => exact execPcieLinkChange_memwf (h := h) (ht := ht) ..
  | fencePublish => exact execFencePublish_memwf (h := h) (ht := ht) ..
  | fabricSlotGrant => exact execFabricSlotGrant_memwf (h := h) (ht := ht) ..
  | scrubCheck => exact execScrubCheck_memwf (h := h) (ht := ht) ..
  | txFrameDone => exact execTxFrameDone_memwf (h := h) (ht := ht) ..
  | sessionComplete => exact execSessionComplete_memwf (h := h) (ht := ht) ..
  | mqDescReadDone => exact execMqDescReadDone_memwf (h := h) (ht := ht) ..
  | bltCopy => exact execBltCopy_memwf (h := h) (ht := ht) ..
  | bltFill => exact execBltFill_memwf (h := h) (ht := ht) ..
  | bltCopyBlend => exact execBltCopyBlend_memwf (h := h) (ht := ht) ..
  | bltCopyConvert => exact execBltCopyConvert_memwf (h := h) (ht := ht) ..
  | bltAbort => exact execBltAbort_memwf (h := h) (ht := ht) ..
  | bltDone => exact execBltDone_memwf (h := h) (ht := ht) ..
  | bltMemError => exact execBltMemError_memwf (h := h) (ht := ht) ..
  | dmaGo => exact execDmaGo_memwf (h := h) (ht := ht) ..
  | dmaDescComplete => exact execDmaDescComplete_memwf (h := h) (ht := ht) ..
  | dmaResponseError => exact execDmaResponseError_memwf (h := h) (ht := ht) ..
  | dmaTimeout => exact execDmaTimeout_memwf (h := h) (ht := ht) ..
  | dmaAbort => exact execDmaAbort_memwf (h := h) (ht := ht) ..
  | irqOffer => exact execIrqOffer_memwf (h := h) (ht := ht) ..
  | moderationExpiry => exact execModerationExpiry_memwf (h := h) (ht := ht) ..
  | d0Entry => exact execD0Entry_memwf (h := h) (ht := ht) ..
  | fwMemoryAccess => exact execFwMemoryAccess_memwf (h := h) (ht := ht) ..
  | powerOnReset => exact execPowerOnReset_memwf (h := h) (ht := ht) ..
  | configurationWrite => exact execConfigurationWrite_memwf (h := h) (ht := ht) ..
  | tapAccess => exact execTapAccess_memwf (h := h) (ht := ht) ..
  | _ => rw [(keeps_of_next ht).mem rfl]; exact h

theorem exec_keeps_hostMem_wf {c : Instr} {s t : State} (h : Memory.wf s.hostMem = true) (ht : exec c s = .next t) :
    Memory.wf t.hostMem = true := by
  cases c with
  | registerWrite => exact execRegisterWrite_hostwf (h := h) (ht := ht) ..
  | parityMismatch => exact execParityMismatch_hostwf (h := h) (ht := ht) ..
  | pageDisable => exact execPageDisable_hostwf (h := h) (ht := ht) ..
  | pageEnable => exact execPageEnable_hostwf (h := h) (ht := ht) ..
  | pageSoftReset => exact execPageSoftReset_hostwf (h := h) (ht := ht) ..
  | pcieLinkChange => exact execPcieLinkChange_hostwf (h := h) (ht := ht) ..
  | fencePublish => exact execFencePublish_hostwf (h := h) (ht := ht) ..
  | txFrameDone => exact execTxFrameDone_hostwf (h := h) (ht := ht) ..
  | sessionComplete => exact execSessionComplete_hostwf (h := h) (ht := ht) ..
  | mqDescReadDone => exact execMqDescReadDone_hostwf (h := h) (ht := ht) ..
  | dmaGo => exact execDmaGo_hostwf (h := h) (ht := ht) ..
  | dmaDescComplete => exact execDmaDescComplete_hostwf (h := h) (ht := ht) ..
  | dmaResponseError => exact execDmaResponseError_hostwf (h := h) (ht := ht) ..
  | dmaTimeout => exact execDmaTimeout_hostwf (h := h) (ht := ht) ..
  | dmaAbort => exact execDmaAbort_hostwf (h := h) (ht := ht) ..
  | irqOffer => exact execIrqOffer_hostwf (h := h) (ht := ht) ..
  | moderationExpiry => exact execModerationExpiry_hostwf (h := h) (ht := ht) ..
  | d0Entry => exact execD0Entry_hostwf (h := h) (ht := ht) ..
  | configurationWrite => exact execConfigurationWrite_hostwf (h := h) (ht := ht) ..
  | tapAccess => exact execTapAccess_hostwf (h := h) (ht := ht) ..
  | _ => rw [(keeps_of_next ht).host rfl]; exact h

/-! ### Bus mastering disabled (R374, R375) -/

theorem exec_keeps_hostMem {c : Instr} {s t : State} (hc : ∀ x b, c ≠ .configurationWrite x b)
    (h : s.pcie.cfg.busMaster = false) (ht : exec c s = .next t) : t.hostMem = s.hostMem := by
  cases c with
  | configurationWrite x b => exact absurd rfl (hc x b)
  | registerWrite => exact execRegisterWrite_host (h := h) (ht := ht) ..
  | parityMismatch => exact execParityMismatch_host (h := h) (ht := ht) ..
  | pageDisable => exact execPageDisable_host (h := h) (ht := ht) ..
  | pageEnable => exact execPageEnable_host (h := h) (ht := ht) ..
  | pageSoftReset => exact execPageSoftReset_host (h := h) (ht := ht) ..
  | pcieLinkChange => exact execPcieLinkChange_host (h := h) (ht := ht) ..
  | fencePublish => exact execFencePublish_host (h := h) (ht := ht) ..
  | txFrameDone => exact execTxFrameDone_host (h := h) (ht := ht) ..
  | sessionComplete => exact execSessionComplete_host (h := h) (ht := ht) ..
  | mqDescReadDone => exact execMqDescReadDone_host (h := h) (ht := ht) ..
  | dmaGo => exact execDmaGo_host (h := h) (ht := ht) ..
  | dmaDescComplete => exact execDmaDescComplete_host (h := h) (ht := ht) ..
  | dmaResponseError => exact execDmaResponseError_host (h := h) (ht := ht) ..
  | dmaTimeout => exact execDmaTimeout_host (h := h) (ht := ht) ..
  | dmaAbort => exact execDmaAbort_host (h := h) (ht := ht) ..
  | irqOffer => exact execIrqOffer_host (h := h) (ht := ht) ..
  | moderationExpiry => exact execModerationExpiry_host (h := h) (ht := ht) ..
  | d0Entry => exact execD0Entry_host (h := h) (ht := ht) ..
  | tapAccess => exact execTapAccess_host (h := h) (ht := ht) ..
  | _ => exact (keeps_of_next ht).host rfl

/-- What reaches host memory is among what reaches memory at all. -/
theorem writesHostMemory_false {c : Instr} (h : writesMemory c = false) : writesHostMemory c = false := by
  revert h
  cases c <;> simp [writesMemory, writesHostMemory]

/-! ### A step is its front command -/

/-- A next state of a step is the state itself, or what the front command answers on the queue's rest. -/
theorem step_next_cases {s t : State} (ht : step s = .next t) :
    t = s ∨ ∃ c rest, s.pending = c :: rest ∧ exec c { s with pending := rest } = .next t := by
  unfold step at ht
  split at ht
  · exact .inl (Host.Outcome.next.inj ht).symm
  · exact .inr ⟨_, _, ‹_›, ht⟩

/-! ### The one-time-programmable store (R396, R415, R420) -/

/-- The fuses of `p` as a later state `q` has them: the minimum version, the EPOCH and the marks of the image keys have not gone back,
and the makers' hashes and the secret stand. -/
structure FusesGrow (p q : OtpSt) : Prop where
  bound : q.epoch ≤ 16384
  epoch : p.epoch ≤ q.epoch
  svn : p.svnMin ≤ q.svnMin
  svnBound : p.svnMin ≤ 63 → q.svnMin ≤ 63
  makers : q.makers = p.makers
  secret : q.secret = p.secret
  keys : ∀ i, ((Store.get (fun _ => ⟨[], false, false⟩) p.fwKeys i : FwKey).programmed = true →
      (Store.get (fun _ => ⟨[], false, false⟩) q.fwKeys i : FwKey).programmed = true) ∧
    ((Store.get (fun _ => ⟨[], false, false⟩) p.fwKeys i : FwKey).revoked = true →
      (Store.get (fun _ => ⟨[], false, false⟩) q.fwKeys i : FwKey).revoked = true)

theorem FusesGrow.refl {p : OtpSt} (h : p.epoch ≤ 16384) : FusesGrow p p :=
  ⟨h, le_rfl, le_rfl, id, rfl, rfl, fun _ => ⟨id, id⟩⟩

/-- FWKEY programs a key and keeps its REVOKED mark, or revokes a key and keeps its PROGRAMMED mark (R415). -/
theorem execFwkey_fusesGrow {s t : State} (h : s.otp.epoch ≤ 16384) (ht : execFwkey s = .next t) : FusesGrow s.otp t.otp := by
  unfold execFwkey live at ht
  cases ht
  split
  · exact .refl h
  · cases approved s 3 with
    | none => exact .refl h
    | some r =>
      simp only [applied_keep]
      refine ⟨h, le_rfl, le_rfl, id, rfl, rfl, fun i => ?_⟩
      rw [Store.get_set]
      split
      · next hi =>
        subst hi
        split <;> simp [fwKey]
      · exact ⟨id, id⟩

theorem bootConfig_otp (s : State) : (bootConfig s).otp = { s.otp with epoch := min 16384 (s.otp.epoch + 1) } := by
  unfold bootConfig
  dsimp only
  split <;> split <;> simp

/-- `t` is `s` with another state of the trusted core. -/
def SecOnly (s t : State) : Prop := ∃ x, t = { s with sec := x }

theorem SecOnly.refl (s : State) : SecOnly s s := ⟨s.sec, rfl⟩

theorem SecOnly.trans {s t u : State} : SecOnly s t → SecOnly t u → SecOnly s u
  | ⟨_, ht⟩, ⟨y, hu⟩ => ⟨y, by rw [hu, ht]⟩

theorem SecOnly.foldl {α : Type} {f : State → α → State} (hf : ∀ s a, SecOnly s (f s a)) (l : List α) (s : State) :
    SecOnly s (l.foldl f s) := by
  induction l generalizing s with
  | nil => exact .refl s
  | cons a l ih => exact (hf s a).trans (ih (f s a))

theorem extend_secOnly (s : State) (m : Nat) (d : List Byte) : SecOnly s (extend s m d) := ⟨_, rfl⟩

/-- The measurements of a boot are noted in the trusted core's state alone (R400). -/
theorem bootMeasure_secOnly (s : State) (img : Option (List Byte)) : SecOnly s (bootMeasure s img) := by
  have hcfg (u : State) : SecOnly u (if rdB u Reg.SEC.SEC_STATUS 6 then u else extend u 4 (sha256 (cfgBlock u).bytes)) := by
    split
    · exact .refl u
    · exact extend_secOnly ..
  have hbase := (extend_secOnly s 0 ((List.range 32).map Config.romHashByte)).trans (hcfg _)
  cases img with
  | none => exact hbase
  | some m =>
    refine (hbase.trans (extend_secOnly ..)).trans (.foldl (fun u c => ?_) ..)
    split
    · exact extend_secOnly ..
    · split
      · exact extend_secOnly ..
      · exact .refl u

/-- Steps 1 and 2 of a boot: the board data and the configuration (R398). -/
def bootConfigured (s : State) : State := bootConfig (bootBoard s)

/-- The trusted core as booted, with the measurements made, before the image's own steps. -/
def bootMeasured (s : State) : State :=
  let u := bootConfigured s
  let m := bootMeasure u ((bootSlot u).map (imageSlot u))
  { m with sec := { m.sec with booted := true } }

theorem bootMeasured_sec (s : State) : ∃ x, x.booted = true ∧ bootMeasured s = { bootConfigured s with sec := x } := by
  obtain ⟨x, hx⟩ := bootMeasure_secOnly (bootConfigured s) ((bootSlot (bootConfigured s)).map (imageSlot (bootConfigured s)))
  exact ⟨{ x with booted := true }, rfl, by unfold bootMeasured; dsimp only; rw [hx]⟩

theorem bootConfigured_otp (s : State) : (bootConfigured s).otp = { s.otp with epoch := min 16384 (s.otp.epoch + 1) } := by
  rw [bootConfigured, bootConfig_otp, (bootBoard_keep s).2.2.2.1]

/-- SVN of an image that boots and the minimum version. -/
def svnWord (s : State) (svn : Nat) : Word := w32 (svn % 256 + 256 * s.otp.svnMin)

/-- A boot from image slot `i`. -/
def bootFrom (s : State) (i : Nat) : State :=
  let svn := imageSvn (imageSlot (bootMeasured s) i)
  let t := bootImage (bootMeasured s) i
  epochRecord (wr t Reg.SEC.SVN (svnWord t svn)) i svn

/-- A boot without an image. -/
def bootBare (s : State) : State :=
  epochRecord (wr (bootMeasured s) Reg.SEC.SVN (w32 (256 * (bootMeasured s).otp.svnMin))) 0xFF 0

theorem execTcBoot_from {s : State} {i : Nat} (h : Awake s) (hcold : s.sec.booted = false)
    (hi : bootSlot (bootConfigured s) = some i) : execTcBoot s = .next (bootFrom s i) := by
  unfold bootConfigured at hi
  simp only [execTcBoot, live_awake h, hcold, Bool.false_eq_true, if_false, hi, bootFrom, bootMeasured, bootConfigured, svnWord]

theorem execTcBoot_bare {s : State} (h : Awake s) (hcold : s.sec.booted = false)
    (hi : bootSlot (bootConfigured s) = none) : execTcBoot s = .next (bootBare s) := by
  unfold bootConfigured at hi
  simp only [execTcBoot, live_awake h, hcold, Bool.false_eq_true, if_false, hi, bootBare, bootMeasured, bootConfigured]

theorem execTcBoot_again {s : State} (h : s.sec.booted = true) : execTcBoot s = .next s := by
  unfold execTcBoot live
  rw [h]
  simp

/-- Only an image that verifies sets the minimum version, and its SVN is at most 63 (R398). -/
theorem bootImage_otp (s : State) (i : Nat) :
    (bootImage s i).otp = s.otp ∨ (bootImage s i).otp = { s.otp with svnMin := max s.otp.svnMin (imageSvn (imageSlot s i)) } := by
  unfold bootImage
  dsimp only
  split
  · right; simp [foldl_keep (fun s : State => s.otp)]
  · left; simp [foldl_keep (fun s : State => s.otp)]

theorem imageSvn_le_of_bootSlot {s : State} {i : Nat} (h : bootSlot s = some i) : imageSvn (imageSlot s i) ≤ 63 := by
  have hok := List.find?_some h
  unfold imageOk at hok
  simp only [Bool.and_eq_true, decide_eq_true_eq] at hok
  exact hok.1.2

theorem execTcBoot_fusesGrow {s t : State} (h : s.otp.epoch ≤ 16384) (ht : execTcBoot s = .next t) : FusesGrow s.otp t.otp := by
  by_cases hheld : Awake s
  swap
  · rw [execTcBoot, live_held (by simpa using hheld)] at ht
    cases ht
    exact .refl h
  cases hcold : s.sec.booted with
  | true =>
    rw [execTcBoot_again hcold] at ht
    cases ht
    exact .refl h
  | false =>
    obtain ⟨x, -, hmeasured⟩ := bootMeasured_sec s
    have hotp : (bootMeasured s).otp = { s.otp with epoch := min 16384 (s.otp.epoch + 1) } := by
      rw [hmeasured]; exact bootConfigured_otp s
    have hgrow (v : Nat) (hv : s.otp.svnMin ≤ v) (hbound : s.otp.svnMin ≤ 63 → v ≤ 63) :
        FusesGrow s.otp { s.otp with epoch := min 16384 (s.otp.epoch + 1), svnMin := v } :=
      ⟨Nat.min_le_left .., by simp only; omega, hv, hbound, rfl, rfl, fun _ => ⟨id, id⟩⟩
    cases hslot : bootSlot (bootConfigured s) with
    | none =>
      rw [execTcBoot_bare hheld hcold hslot] at ht
      cases ht
      rw [bootBare, (epochRecord_keep ..).2.2.2.1, wr_otp, hotp]
      exact hgrow _ le_rfl id
    | some i =>
      have hsvn : imageSvn (imageSlot (bootMeasured s) i) ≤ 63 := by
        rw [hmeasured]; exact imageSvn_le_of_bootSlot hslot
      rw [execTcBoot_from hheld hcold hslot] at ht
      cases ht
      rw [bootFrom, (epochRecord_keep ..).2.2.2.1, wr_otp]
      obtain he | he := bootImage_otp (bootMeasured s) i <;> rw [he, hotp]
      · exact hgrow _ le_rfl id
      · exact hgrow _ (Nat.le_max_left ..) fun hle => Nat.max_le.mpr ⟨hle, hsvn⟩

/-- Every command lets the fuses grow only (R396). -/
theorem exec_fusesGrow {c : Instr} {s t : State} (h : s.otp.epoch ≤ 16384) (ht : exec c s = .next t) : FusesGrow s.otp t.otp := by
  cases hc : writesFuses c with
  | false => rw [(keeps_of_next ht).otp hc]; exact .refl h
  | true =>
    cases c with
    | tcBoot => exact execTcBoot_fusesGrow h ht
    | fwkey => exact execFwkey_fusesGrow h ht
    | _ => cases hc

end Sys2Proof.Machine
end

section
open Sys2Proof Sys2Proof.Machine

/-- Settles O1: step's two branches. -/
theorem stepRunsFrontCommand : Obligations.StepRunsFrontCommand := by
  refine ⟨fun s c rest h => ?_, fun s h => ?_⟩
  · simp [step, h]
  · simp [step, h]

/-- Settles O3: a step is its front command, and no command spoils the canonical form of either memory. -/
theorem memoryStaysCanonical : Obligations.MemoryStaysCanonical := by
  intro s t hmem hhost ht
  obtain rfl | ⟨c, rest, -, hexec⟩ := step_next_cases ht
  · exact ⟨hmem, hhost⟩
  · exact ⟨exec_keeps_mem_wf (s := { s with pending := rest }) hmem hexec,
      exec_keeps_hostMem_wf (s := { s with pending := rest }) hhost hexec⟩

/-- Settles O5: what each command keeps, by the table of keep lemmas and by those for bus mastering disabled. -/
theorem memoryFrames : Obligations.MemoryFrames := by
  refine ⟨fun c s t hc ht => ?_, fun c s t hc h ht a => ?_⟩
  · have hkeeps := keeps_of_next ht
    have hhost : t.hostMem = s.hostMem := hkeeps.host (writesHostMemory_false hc)
    exact ⟨fun a => by rw [memByte, hkeeps.mem hc, memByte], fun a => by rw [hostByte, hhost, hostByte]⟩
  · rw [hostByte, exec_keeps_hostMem hc h ht, hostByte]

/-- Settles O6: only TC_BOOT and FWKEY program the fuses, and each lets them grow only. -/
theorem fusesNeverClear : Obligations.FusesNeverClear := by
  intro s t hepoch ht
  have hgrow : FusesGrow s.otp t.otp := by
    obtain rfl | ⟨c, rest, -, hexec⟩ := step_next_cases ht
    · exact .refl hepoch
    · exact exec_fusesGrow (s := { s with pending := rest }) hepoch hexec
  exact ⟨hgrow.bound, hgrow.epoch, hgrow.svn, hgrow.svnBound, hgrow.makers, hgrow.secret, hgrow.keys⟩

end

section
/-! SUPPORT. Runs of register updates, and what the sensors of AON leave (R438 to R440). -/

namespace Sys2Proof.Machine

/-! ### Runs of register updates -/

/-- Update register `addr r` by `g r`, for each `r` of a list in turn. -/
def updateEach (addr : Nat → Nat) (g : Nat → Word → Word) (l : List Nat) (s : State) : State :=
  l.foldl (fun s r => wr s (addr r) (g r (rd s (addr r)))) s

section
variable {addr : Nat → Nat} (g : Nat → Word → Word)

theorem rd_updateEach_other {l : List Nat} {b : Nat} (s : State) (hb : b ∉ l.map addr) :
    rd (updateEach addr g l s) b = rd s b :=
  foldl_unseen (rd · b) (P := fun _ => True) (fun _ _ _ => trivial)
    (fun _ _ hr _ => rd_wr_other _ _ _ _ fun h => hb (h ▸ List.mem_map_of_mem hr)) trivial

theorem rd_updateEach {l : List Nat} {r : Nat} (s : State) (hinj : Function.Injective addr) (hl : l.Nodup) (hr : r ∈ l) :
    rd (updateEach addr g l s) (addr r) = g r (rd s (addr r)) :=
  foldl_own (rd · (addr r)) (P := fun _ => True) (Q := fun x y => y = g r x) (fun _ _ _ => trivial)
    (fun _ _ => rd_wr_same ..) (fun _ _ _ _ hne => rd_wr_other _ _ _ _ fun h => hne (hinj h).symm) hl hr trivial

theorem updateEach_regsOnly (l : List Nat) (s : State) : RegsOnly s (updateEach addr g l s) := by
  induction l generalizing s with
  | nil => rfl
  | cons r l ih => exact (regsOnly_wr s _ _).trans (ih _)

theorem updateEach_regsExcept (l : List Nat) (s : State) : RegsExcept (l.map addr) s (updateEach addr g l s) :=
  fun _ hb => rd_updateEach_other g s hb

end

theorem toNat_w32_min {m n : Nat} (hm : m < 2 ^ 32) : (w32 (min m n)).toNat = min m n :=
  Nat.mod_eq_of_lt (lt_of_le_of_lt (Nat.min_le_left ..) hm)

/-- A pair of registers reads as the value written to it. -/
theorem rd64_wr64_same (s : State) {lo hi v : Nat} (h : lo ≠ hi) (hv : v < 2 ^ 64) : rd64 (wr64 s lo hi v) lo hi = v := by
  simp only [rd64, wr64, rdN, rd_wr_same, rd_wr_other _ _ _ _ h, w32, BitVec.toNat_ofNat]
  omega

theorem rd_wr64_other (s : State) {lo hi b : Nat} (v : Nat) (hlo : b ≠ lo) (hhi : b ≠ hi) : rd (wr64 s lo hi v) b = rd s b := by
  rw [wr64, rd_wr_other _ _ _ _ hhi, rd_wr_other _ _ _ _ hlo]

theorem regsOnly_peak (s : State) (a v : Nat) : RegsOnly s (peak s a v) := by
  unfold peak
  split
  · exact regsOnly_wr ..
  · rfl

/-! ### The hottest sensor (R438) -/

/-- The hottest die sensor is one of the sensors, at its index, and none is hotter. -/
theorem hottest_spec {dies : List (BitVec 16)} (h : 0 < dies.length) :
    dies[(hottest dies).2]? = some (hottest dies).1 ∧ ∀ y ∈ dies, y.toInt ≤ (hottest dies).1.toInt := by
  have hfold (l : List (BitVec 16 × Nat)) (m : BitVec 16 × Nat) :
      let r := l.foldl (fun m e => if m.1.toInt < e.1.toInt then e else m) m
      (r = m ∨ r ∈ l) ∧ m.1.toInt ≤ r.1.toInt ∧ ∀ e ∈ l, e.1.toInt ≤ r.1.toInt := by
    induction l generalizing m with
    | nil => simp
    | cons e l ih =>
      have hstep := ih (if m.1.toInt < e.1.toInt then e else m)
      rw [List.foldl_cons]
      split at hstep <;> grind
  have hzip (e : BitVec 16 × Nat) (he : e ∈ dies.zip (List.range dies.length)) : dies[e.2]? = some e.1 := by
    obtain ⟨i, hi, rfl⟩ := List.mem_iff_getElem.mp he
    simp only [List.length_zip, List.length_range, Nat.min_self] at hi
    simp [hi]
  obtain ⟨hmem, -, hle⟩ := hfold (dies.zip (List.range dies.length)) (dies.headD 0, 0)
  refine ⟨?_, fun y hy => ?_⟩
  · obtain heq | hin := hmem
    · rw [hottest, heq]
      cases dies with
      | nil => cases h
      | cons y l => rfl
    · exact hzip _ hin
  · obtain ⟨i, hi, rfl⟩ := List.mem_iff_getElem.mp hy
    refine hle (dies[i], i) (List.mem_iff_getElem.mpr ⟨i, by simpa using hi, by simp⟩)

/-! ### Samples -/

/-- RAIL_SAMPLE is a run of nine voltages and one of six currents. -/
theorem railSample_shows (s : State) (mv ma : List Nat) : ∃ t, exec (.railSample mv ma) s = .next t ∧
    (∀ r, r < 9 → rdN t (Reg.PWR.RAIL_V r) = min 0xFFFF (mv.getD r 0)) ∧
    (∀ r, r < 6 → rdN t (Reg.PWR.RAIL_I r) = min 0xFFFFF (ma.getD r 0)) ∧
    RegsExcept ((List.range 9).map Reg.PWR.RAIL_V ++ (List.range 6).map Reg.PWR.RAIL_I) s t ∧ RegsOnly s t := by
  let volts := updateEach Reg.PWR.RAIL_V (fun r _ => w32 (min 0xFFFF (mv.getD r 0))) (List.range 9) s
  refine ⟨updateEach Reg.PWR.RAIL_I (fun r _ => w32 (min 0xFFFFF (ma.getD r 0))) (List.range 6) volts, rfl,
    fun r hr => ?_, fun r hr => ?_, fun b hb => ?_, (updateEach_regsOnly ..).trans (updateEach_regsOnly ..)⟩
  · have hother : Reg.PWR.RAIL_V r ∉ (List.range 6).map Reg.PWR.RAIL_I := by
      simp only [List.mem_map, not_exists, not_and, Reg.PWR.RAIL_V, Reg.PWR.RAIL_I]
      omega
    rw [rdN, rd_updateEach_other _ _ hother, rd_updateEach _ _ (fun i j h => by simpa using h) List.nodup_range
      (List.mem_range.mpr hr), toNat_w32_min (by decide)]
  · rw [rdN, rd_updateEach _ _ (fun i j h => by simpa using h) List.nodup_range (List.mem_range.mpr hr),
      toNat_w32_min (by decide)]
  · rw [List.mem_append, not_or] at hb
    rw [rd_updateEach_other _ _ hb.2, rd_updateEach_other _ _ hb.1]

theorem powerSample_shows (s : State) (mw mj : Nat) : ∃ t, exec (.powerSample mw mj) s = .next t ∧
    rdN t Reg.PWR.POWER = min 0xFFFFF mw ∧ rdN t Reg.PWR.POWER_PEAK = max (rdN s Reg.PWR.POWER_PEAK) (min 0xFFFFF mw) ∧
    rd64 t Reg.PWR.ENERGY_LO Reg.PWR.ENERGY_HI = min (2 ^ 64 - 1) (rd64 s Reg.PWR.ENERGY_LO Reg.PWR.ENERGY_HI + mj) ∧
    RegsExcept [Reg.PWR.POWER, Reg.PWR.POWER_PEAK, Reg.PWR.ENERGY_LO, Reg.PWR.ENERGY_HI] s t ∧ RegsOnly s t := by
  have hp : min 0xFFFFF mw < 2 ^ 32 := by omega
  refine ⟨_, rfl, ?_, ?_, rd64_wr64_same _ (by decide) (by omega), fun b hb => ?_,
    ((regsOnly_wr ..).trans (regsOnly_peak ..)).trans ((regsOnly_wr ..).trans (regsOnly_wr ..))⟩
  · rw [rdN, rd_wr64_other _ _ (by decide) (by decide), rd_peak_other _ _ (by decide), rd_wr_same, toNat_w32_min (by decide)]
  · rw [rdN, rd_wr64_other _ _ (by decide) (by decide), ← rdN, rdN_peak_same _ _ hp, rdN, rd_wr_other _ _ _ _ (by decide), rdN]
  · simp only [List.mem_cons, List.not_mem_nil, or_false, not_or] at hb
    obtain ⟨hpower, hpeak, hlo, hhi⟩ := hb
    rw [rd_wr64_other _ _ hlo hhi, rd_peak_other _ _ hpeak, rd_wr_other _ _ _ _ hpower]

/-- The peak and the stacks' fields after a temperature sample, on the state that shows the maximum. -/
def temperaturesShown (s : State) (dies : List (BitVec 16)) (hbms : List Nat) : State :=
  let h := hottest dies
  let t := wr s Reg.PWR.TEMP_MAX (w32 (h.1.toNat + 2 ^ 16 * (h.2 % 16)))
  let t := if toSigned 16 (rdF t Reg.PWR.TEMP_PEAK 15 0) < h.1.toInt then wr t Reg.PWR.TEMP_PEAK (w32 h.1.toNat) else t
  updateEach Reg.MEM.MEM_STATUS (fun k w => setFld w 15 8 (min 255 (hbms.getD k 0))) (List.range 4) t

theorem mem_status_injective : Function.Injective Reg.MEM.MEM_STATUS := fun i j h => by simpa using h

theorem temperaturesShown_status (s : State) (dies : List (BitVec 16)) (hbms : List Nat) {k : Nat} (hk : k < 4) :
    rdF (temperaturesShown s dies hbms) (Reg.MEM.MEM_STATUS k) 15 8 = min 255 (hbms.getD k 0) := by
  rw [temperaturesShown, rdF, rd_updateEach _ _ mem_status_injective List.nodup_range (List.mem_range.mpr hk),
    fld_setFld_same _ _ _ _ (by decide) (by decide)]
  omega

theorem rd_temperaturesShown (s : State) (dies : List (BitVec 16)) (hbms : List Nat) :
    RegsExcept (Reg.PWR.TEMP_MAX :: Reg.PWR.TEMP_PEAK :: (List.range 4).map Reg.MEM.MEM_STATUS) s
      (temperaturesShown s dies hbms) ∧
    rd (temperaturesShown s dies hbms) Reg.PWR.TEMP_MAX = w32 ((hottest dies).1.toNat + 2 ^ 16 * ((hottest dies).2 % 16)) := by
  refine ⟨fun b hb => ?_, ?_⟩
  · simp only [List.mem_cons, not_or] at hb
    obtain ⟨hmax, hpeak, hstatus⟩ := hb
    rw [temperaturesShown, rd_updateEach_other _ _ hstatus]
    split
    · rw [rd_wr_other _ _ _ _ hpeak, rd_wr_other _ _ _ _ hmax]
    · rw [rd_wr_other _ _ _ _ hmax]
  · rw [temperaturesShown, rd_updateEach_other _ _ (by decide)]
    split
    · rw [rd_wr_other _ _ _ _ (by decide), rd_wr_same]
    · rw [rd_wr_same]

theorem temperaturesShown_regsOnly (s : State) (dies : List (BitVec 16)) (hbms : List Nat) :
    RegsOnly s (temperaturesShown s dies hbms) := by
  unfold temperaturesShown
  refine RegsOnly.trans ?_ (updateEach_regsOnly ..)
  split
  · exact (regsOnly_wr ..).trans (regsOnly_wr ..)
  · exact regsOnly_wr ..

theorem temperatureSample_shows (s : State) {dies : List (BitVec 16)} (hbms : List Nat) (h : dies.length = 16) : ∃ t,
    exec (.temperatureSample dies hbms) s = .next t ∧
    (∃ (i : Nat) (x : BitVec 16), dies[i]? = some x ∧ rdF t Reg.PWR.TEMP_MAX 15 0 = x.toNat ∧ rdF t Reg.PWR.TEMP_MAX 19 16 = i ∧
      t.rst = { s.rst with cool := decide (x.toInt < 1680)
                           hot := if 2000 ≤ x.toInt then some (s.rst.hot.getD s.time.uptime) else none } ∧
      ∀ y, y ∈ dies → y.toInt ≤ x.toInt) ∧
    (∀ k, k < 4 → rdF t (Reg.MEM.MEM_STATUS k) 15 8 = min 255 (hbms.getD k 0)) ∧
    RegsExcept (Reg.PWR.TEMP_MAX :: Reg.PWR.TEMP_PEAK :: (List.range 4).map Reg.MEM.MEM_STATUS) s t := by
  obtain ⟨hat, hle⟩ := hottest_spec (dies := dies) (by omega)
  obtain ⟨hregs, hmax⟩ := rd_temperaturesShown s dies hbms
  have honly := temperaturesShown_regsOnly s dies hbms
  have hindex : (hottest dies).2 < 16 := by
    obtain ⟨hlt, -⟩ := List.getElem?_eq_some_iff.mp hat
    omega
  have hword : (hottest dies).1.toNat < 2 ^ 16 := (hottest dies).1.isLt
  have hmaxN : (rd (temperaturesShown s dies hbms) Reg.PWR.TEMP_MAX).toNat = (hottest dies).1.toNat + 2 ^ 16 * (hottest dies).2 := by
    rw [hmax, w32, BitVec.toNat_ofNat]
    omega
  refine ⟨_, rfl, ⟨_, _, hat, ?_, ?_, ?_, hle⟩, fun k hk => temperaturesShown_status s dies hbms hk, hregs⟩
  · change fld (rd (temperaturesShown s dies hbms) _) 15 0 = _
    rw [fld, hmaxN]
    omega
  · change fld (rd (temperaturesShown s dies hbms) _) 19 16 = _
    rw [fld, hmaxN]
    omega
  · change ({ (temperaturesShown s dies hbms).rst with
      cool := decide ((hottest dies).1.toInt < 105 * 16)
      hot := if tripTemp ≤ (hottest dies).1.toInt then
        some ((temperaturesShown s dies hbms).rst.hot.getD (temperaturesShown s dies hbms).time.uptime) else none } : ResetSt) = _
    rw [honly]
    rfl

theorem frequencyMeasurement_shows (s : State) (khz : List Nat) : ∃ t, exec (.frequencyMeasurement khz) s = .next t ∧
    (∀ d, d < 70 → rdN t (Reg.CRU.DOM_FREQ d) = min 0xFFFFFF (khz.getD d 0)) ∧
    RegsExcept ((List.range 70).map Reg.CRU.DOM_FREQ) s t := by
  refine ⟨updateEach Reg.CRU.DOM_FREQ (fun d _ => w32 (min 0xFFFFFF (khz.getD d 0))) (List.range 70) s, rfl, fun d hd => ?_,
    updateEach_regsExcept _ _ s⟩
  rw [rdN, rd_updateEach _ _ (fun i j h => by simpa using h) List.nodup_range (List.mem_range.mpr hd), toNat_w32_min (by decide)]

theorem completionTimeout_counts {s : State} (h : Awake s) : ∃ t, exec .completionTimeout s = .next t ∧
    rd t Reg.GBL.HOST_CPL_TMO = plusOne (rd s Reg.GBL.HOST_CPL_TMO) ∧ RegsExcept [Reg.GBL.HOST_CPL_TMO] s t ∧
    t = { s with regs := t.regs, par := t.par, icu := t.icu } := by
  refine ⟨raiseE (bump s Reg.GBL.HOST_CPL_TMO) Page.GBL 2, live_awake h, by rw [rd_raiseE, rd_bump_same],
    ((RegsExcept.refl _ s).wr _ (by simp)).raiseE, ?_⟩
  rw [raiseE_frame]
  rfl

end Sys2Proof.Machine
end

section
open Sys2Proof Sys2Proof.Machine

/-- Settles O60: each sample is a run of updates of its own registers; the temperature's maximum is the hottest sensor's. -/
theorem sensorsAndTimeouts : Obligations.SensorsAndTimeouts := by
  refine ⟨railSample_shows, powerSample_shows, fun s dies hbms h => temperatureSample_shows s hbms h, frequencyMeasurement_shows,
    fun s => ⟨_, _, rfl, rfl, rfl, rfl⟩, fun s h => completionTimeout_counts h⟩
end

section
/-! SUPPORT. Device resets (R429 to R439): what a reset leaves, with its cause, of every register and part of the block. -/

namespace Sys2Proof.Machine

theorem get_foldl_setEach {α : Type} [DecidableEq α] (d f : Nat → α) (l : List Nat) (m : Store α) (i : Nat) :
    Store.get d (l.foldl (fun m k => Store.set d m k (f k)) m) i = if i ∈ l then f i else Store.get d m i := by
  induction l generalizing m with
  | nil => simp
  | cons k l ih =>
    rw [List.foldl_cons, ih, Store.get_set]
    by_cases hl : i ∈ l
    · simp [hl]
    · by_cases hk : i = k <;> simp [hl, hk]

/-- A device reset keeps the words of keptRegs, and every other register goes to its reset word (R431). -/
theorem rd_deviceReset (s : State) (x : Nat) : rd (deviceReset s) x = if x ∈ keptRegs then rd s x else resetWord x :=
  get_foldl_setEach resetWord (rd s) keptRegs [] x

/-- `t` is `s` after a device reset with cause `b`, held until its release (R431, R439). -/
structure ResetBy (b : Nat) (s t : State) : Prop where
  held : t.rst.held = true
  otp : t.otp = s.otp
  nor : t.nor = s.nor
  memory : SameMemory s t
  pending : t.pending = s.pending
  cause : rd t Reg.CRU.RESET_CAUSE = setBit (rd s Reg.CRU.RESET_CAUSE) b true
  reset : ∀ x, x ∉ keptRegs → rd t x = resetWord x
  kept : ∀ x, x ∈ keptRegs → x ≠ Reg.CRU.RESET_CAUSE → rd t x = rd s x
  sec : t.sec = State.reset.sec
  ports : t.ports = []
  pcieUp : t.rst.pcieUp = false

theorem resetFor_resets (s : State) (b : Nat) : ResetBy b s (resetFor s b) where
  held := rfl
  otp := rfl
  nor := rfl
  memory := ⟨fun _ => rfl, fun _ => rfl⟩
  pending := rfl
  cause := by rw [resetFor, rd_wrB, if_pos rfl, rd_deviceReset, if_pos (by decide)]
  reset x hx := by
    have hne : x ≠ Reg.CRU.RESET_CAUSE := by rintro rfl; exact hx (by decide)
    rw [resetFor, rd_wrB, if_neg hne, rd_deviceReset, if_neg hx]
  kept x hx hne := by rw [resetFor, rd_wrB, if_neg hne, rd_deviceReset, if_pos hx]
  sec := rfl
  ports := rfl
  pcieUp := rfl

/-- What a cause notes beside the reset itself. -/
theorem ResetBy.withRst {b : Nat} {s t : State} (h : ResetBy b s t) {r : ResetSt} (hheld : r.held = true) (hup : r.pcieUp = false) :
    ResetBy b s { t with rst := r } :=
  { h with held := hheld, pcieUp := hup }

/-! ### Causes -/

theorem thermalTrip_resets {s : State} {u : Nat} (hhot : s.rst.hot = some u)
    (hdue : s.rst.held = true ∨ elapsedUs s u 1000 = true) :
    exec .thermalTrip s = .next { resetFor s 5 with rst := { (resetFor s 5).rst with tripped := true, cool := false } } := by
  change execThermalTrip s = _
  have hdue : (s.rst.held || elapsedUs s u 1000) = true := by simpa using hdue
  simp only [execThermalTrip, hhot, hdue, if_true]

theorem thermalTrip_early {s : State}
    (h : ∀ u, s.rst.hot = some u → s.rst.held = false ∧ elapsedUs s u 1000 = false) : exec .thermalTrip s = .next s := by
  change execThermalTrip s = _
  unfold execThermalTrip
  cases hhot : s.rst.hot with
  | none => rfl
  | some u =>
    obtain ⟨hheld, hearly⟩ := h u hhot
    simp only [hheld, hearly, Bool.or_false, Bool.false_eq_true, if_false]

theorem resetPin_resets {s : State} {ns : Nat} (hns : 1000 ≤ ns) (h : s.rst.tripped = false ∨ s.rst.cool = true) :
    exec (.resetPin ns) s = .next { resetFor s 1 with rst := { (resetFor s 1).rst with tripped := false } } := by
  change execResetPin ns s = _
  have hfree : (s.rst.tripped && !s.rst.cool) = false := by
    obtain h | h := h <;> simp [h]
  simp only [execResetPin, hfree, Bool.false_eq_true, if_false, if_pos hns]

theorem resetPin_ignored {s : State} {ns : Nat} (h : ns < 100 ∨ s.rst.tripped = true ∧ s.rst.cool = false) :
    exec (.resetPin ns) s = .next s := by
  change execResetPin ns s = _
  unfold execResetPin
  dsimp only
  split
  · rfl
  · next hfree =>
    obtain h | ⟨htrip, hcool⟩ := h
    · rw [if_neg (by omega), if_pos h]
    · simp [htrip, hcool] at hfree

/-- An accepted write of DEV_RST by other than firmware does what the value asks (R439). -/
theorem devRst_accepted {s : State} {a : Agent} (v : Word) (h : Awake s) (hacc : Accepts s a Reg.CRU.DEV_RST .cmd)
    (ha : a ≠ .fw) : exec (.devRst a v) s = .next (touchSession s a (pageOf Reg.CRU.DEV_RST) (writeDevRst s v)) := by
  have hfw : (a == .fw) = false := by simpa using ha
  change execDevRst a v s = _
  rw [execDevRst, live_guarded h hacc, hfw, if_neg (by decide)]

theorem devRst_firmware {s : State} (v : Word) (h : Awake s) (hacc : Accepts s .fw Reg.CRU.DEV_RST .cmd) :
    exec (.devRst .fw v) s =
      .next (touchSession s .fw (pageOf Reg.CRU.DEV_RST) (refuseWrite s .fw Reg.CRU.DEV_RST v 0)) := live_guarded h hacc

/-- With no session open there is none to count as active. -/
theorem touchSession_closed {s t : State} (a : Agent) (pg : Nat) (h : t.sec.sess = none) : touchSession s a pg t = t := by
  rw [touchSession, h]

theorem devRst_resets {s : State} (h : Awake s) (hacc : Accepts s .host Reg.CRU.DEV_RST .cmd) (hsafe : safe s Page.CRU = false) :
    exec (.devRst .host 0xA5C3) s = .next (resetFor s 2) := by
  have heffect : writeDevRst s 0xA5C3 = resetFor s 2 := by rw [writeDevRst, if_pos ⟨rfl, by rw [hsafe]; rfl⟩]
  rw [devRst_accepted _ h hacc (by decide), heffect, touchSession_closed]
  rfl

/-! ### Refused writes (R384, R385) -/

/-- A refusal counts on its page. -/
theorem rd_refuseWrite_count (s : State) (a : Agent) (addr : Nat) (v : Word) (c : Nat)
    (hlost : Reg.HDR.PAGE_LOCK_VIOL (pageOf addr) ≠ Reg.AUD.LOST) :
    rd (refuseWrite s a addr v c) (Reg.HDR.PAGE_LOCK_VIOL (pageOf addr)) =
      plusOne (rd s (Reg.HDR.PAGE_LOCK_VIOL (pageOf addr))) := by
  rw [refuseWrite, rd_audit _ _ _ _ _ _ hlost, rd_wrB, if_neg, rd_bump_same]
  simp [Reg.HDR.PAGE_LOCK_VIOL, Reg.HDR.PAGE_ERR]

theorem audit_lose_rst (s : State) : (audit.lose s).rst = s.rst := raiseE_rst ..

theorem audit_rst (s : State) (kind agent role : Nat) (args : List Byte) : (audit s kind agent role args).rst = s.rst := by
  unfold audit
  dsimp only
  split
  · split
    · rfl
    · split
      · rfl
      · rw [audit_lose_rst]
  · rw [audit_lose_rst]

/-! ### The release (R432) -/

theorem resetRelease_waits {s : State} (h : s.rst.held = false ∨ s.rst.tripped = true) : exec .resetRelease s = .next s := by
  change execResetRelease s = _
  have hstays : (s.rst.held && !s.rst.tripped) = false := by
    obtain h | h := h <;> simp [h]
  simp only [execResetRelease, hstays, Bool.false_eq_true, if_false]

theorem resetRelease_releases {s : State} (hheld : s.rst.held = true) (htrip : s.rst.tripped = false) :
    exec .resetRelease s = .next { s with
      rst := { s.rst with held := false, por := false, refSys := true, sysLock := true, octets := 0xFFFFFFFF, igs := 0xFFFF } } := by
  change execResetRelease s = _
  rw [execResetRelease, hheld, htrip]
  rfl

end Sys2Proof.Machine
end

section
open Sys2Proof Sys2Proof.Machine

/-- Settles O58: each cause is a device reset, with what it notes beside in the resets' own state. -/
theorem deviceResets : Obligations.DeviceResets := by
  have hanswer {s t : State} {c : Instr} {b : Nat} (hexec : exec c s = .next t) (hreset : ResetBy b s t)
      (htrip : c = .thermalTrip → t.rst.tripped = true ∧ t.rst.cool = false) (href : c = .refSysLoss .ref → t.rst.refSys = false) :=
    (⟨t, hexec, hreset.held, hreset.otp, hreset.nor, hreset.memory, hreset.pending, hreset.cause, hreset.reset, hreset.kept,
      hreset.sec, hreset.ports, hreset.pcieUp, htrip, href⟩ :
      ∃ t, exec c s = .next t ∧ t.rst.held = true ∧ t.otp = s.otp ∧ t.nor = s.nor ∧ SameMemory s t ∧
        t.pending = s.pending ∧ rd t Reg.CRU.RESET_CAUSE = setBit (rd s Reg.CRU.RESET_CAUSE) b true ∧
        (∀ x, x ∉ keptRegs → rd t x = resetWord x) ∧ (∀ x, x ∈ keptRegs → x ≠ Reg.CRU.RESET_CAUSE → rd t x = rd s x) ∧
        t.sec = State.reset.sec ∧ t.ports = [] ∧ t.rst.pcieUp = false ∧
        (c = .thermalTrip → t.rst.tripped = true ∧ t.rst.cool = false) ∧ (c = .refSysLoss .ref → t.rst.refSys = false))
  refine ⟨fun s c b hc => ?_, fun s => ⟨_, rfl, rfl, rfl, rfl, rfl, fun _ => rfl, fun _ => rfl, rfl⟩,
    fun s h => thermalTrip_early h, fun s ns h => resetPin_ignored h,
    fun s a v hawake hacc => ⟨fun hv ha => ?_, fun ha => ?_⟩, fun s => ⟨resetRelease_waits, fun hheld htrip => ?_⟩⟩
  · obtain ⟨rfl, rfl⟩ | ⟨rfl, rfl⟩ | ⟨rfl, rfl⟩ | ⟨u, hhot, hdue, rfl, rfl⟩ | ⟨ns, rfl, hns, hfree, rfl⟩ |
      ⟨hawake, hacc, hsafe, rfl, rfl⟩ := hc
    · exact hanswer (c := .refSysLoss .pll) rfl (resetFor_resets s 3) nofun nofun
    · exact hanswer (c := .refSysLoss .ref) rfl ((resetFor_resets s 4).withRst rfl rfl) nofun fun _ => rfl
    · exact hanswer (c := .supplyDip) rfl (resetFor_resets s 6) nofun nofun
    · exact hanswer (thermalTrip_resets hhot hdue) ((resetFor_resets s 5).withRst rfl rfl) (fun _ => ⟨rfl, rfl⟩) nofun
    · exact hanswer (resetPin_resets hns hfree) ((resetFor_resets s 1).withRst rfl rfl) nofun nofun
    · exact hanswer (devRst_resets hawake hacc hsafe) (resetFor_resets s 2) nofun nofun
  · rw [devRst_accepted v hawake hacc ha, writeDevRst, if_neg fun h => hv h.1]
  · subst ha
    refine ⟨_, devRst_firmware v hawake hacc, ?_, ?_⟩
    · rw [touchSession_rst, refuseWrite, audit_rst]
      rfl
    · rw [rd_touchSession]
      exact rd_refuseWrite_count s .fw Reg.CRU.DEV_RST v 0 (by decide)
  · exact ⟨_, resetRelease_releases hheld htrip, rfl, rfl, rfl, rfl, rfl⟩

end

section
/-! SUPPORT. STANDBY_ENTER on a store of ports that is not canonical: the entry that hides another of the same key goes to its reset
value, and the hidden one shows. -/

namespace Sys2Proof.Machine

/-- A port whose only difference from reset is a SEND in progress. -/
def sendingPort : TilePort := { TilePort.reset with send := some ⟨0, false, 0, 0, 0, 0, 0, 0, 0, false⟩ }

/-- The block at reset, but that its store of ports lists port 0 twice: in front a port that sends, behind it one whose link is up. -/
def twiceListed : State := { State.reset with ports := [(0, sendingPort), (0, { TilePort.reset with linkUp := true })] }

/-- Entering STANDBY takes the port in front to its reset value, which is not listed, so port 0 reads as the entry behind it. -/
theorem linkUp_enterStandby_twiceListed :
    (port (enterStandby (wr twiceListed Reg.CRU.PWR_CTRL 1)) 0).linkUp = true := by decide +kernel

/-- An accepted write of PWR_CTRL.STANDBY in ACTIVE, outside CRU's safe action, enters STANDBY (R436). -/
theorem standbyEnter_enters {s : State} {a : Agent} {v : Word} (h : Awake s) (hacc : Accepts s a Reg.CRU.PWR_CTRL .cfg)
    (hsafe : safe s Page.CRU = false) (hv : bit v 0 = true) (hpwr : s.rst.pwr = .active) :
    exec (.standbyEnter a v) s =
      .next (touchSession s a (pageOf Reg.CRU.PWR_CTRL) (enterStandby (wr s Reg.CRU.PWR_CTRL (v &&& 1)))) := by
  have heffect : writePwrCtrl s v = enterStandby (wr s Reg.CRU.PWR_CTRL (v &&& 1)) := by
    simp only [writePwrCtrl, hsafe, applyPwr, wr_rst, hpwr, hv, Bool.false_eq_true, if_false, if_true]
  change execStandbyEnter a v s = _
  rw [execStandbyEnter, live_guarded h hacc, heffect]

end Sys2Proof.Machine
end

section
open Sys2Proof Sys2Proof.Machine

/-- Refutes O59: STANDBY_ENTER does not take down the link of a port that its store lists twice. The statement admits such a store,
since it asks for no canonical form of the ports. -/
theorem not_clocksLinksAndStandby : ¬ Obligations.ClocksLinksAndStandby := by
  rintro ⟨-, -, -, -, hstandby⟩
  have hacc : Accepts twiceListed .tc Reg.CRU.PWR_CTRL .cfg := by decide
  obtain ⟨henter, -⟩ := hstandby twiceListed .tc 1 rfl hacc (by decide)
  obtain ⟨t, ht, -, -, -, -, -, hports⟩ := henter (by decide) rfl
  obtain ⟨-, -, hlink⟩ := hports 0 (by decide)
  rw [standbyEnter_enters rfl hacc (by decide) (by decide) rfl] at ht
  rw [← Host.Outcome.next.inj ht, port, touchSession_ports, ← port, show (1 : Word) &&& 1 = 1 from rfl,
    linkUp_enterStandby_twiceListed] at hlink
  exact Bool.noConfusion hlink

end

section
/-! SUPPORT. Interrupt sources (R354 to R361): completions, software flags, and when no source of a target is active. -/

namespace Sys2Proof.Machine

@[simp] theorem srcSt_touchSession (s : State) (a : Agent) (pg : Nat) (t : State) (i : Nat) :
    srcSt (touchSession s a pg t) i = srcSt t i := by simp only [srcSt, touchSession_icu]

theorem setSrc_icu (s : State) (i : Nat) (x : SrcState) : setSrc s i x = { s with icu := (setSrc s i x).icu } := rfl

/-- An accepted write whose effect is in the interrupt controller alone leaves the rest but for the session. -/
theorem touchSession_icuOnly {r s t : State} (a : Agent) (pg : Nat) (h : t = { s with icu := t.icu }) :
    touchSession r a pg t = { s with icu := (touchSession r a pg t).icu, sec := (touchSession r a pg t).sec } := by
  rw [touchSession_frame, h]

/-! ### Completions (R361) -/

theorem completeFor_holder {s : State} {k : Nat} {v : Word} (hactive : (srcSt s (fld v 9 0)).active = true)
    (hholder : (srcSt s (fld v 9 0)).holder = k) : completeFor s k v = completeSrc s (fld v 9 0) := by
  simp only [completeFor, hactive, hholder, BEq.rfl, Bool.and_self, if_true]

theorem completeFor_spurious {s : State} {k : Nat} {v : Word}
    (h : (srcSt s (fld v 9 0)).active = false ∨ (srcSt s (fld v 9 0)).holder ≠ k) :
    completeFor s k v = bump s Reg.ICU.SPURIOUS_CPL := by
  rw [completeFor, if_neg]
  obtain h | h := h <;> simp [h]

/-- A target that holds no source active runs at 0x100 (R357). -/
theorem runPri_idle {s : State} {k : Nat} (h : ∀ i, (srcSt s i).active = true → (srcSt s i).holder ≠ k) : runPri s k = 0x100 := by
  have hnone : ((listedSources s).filter fun i => (srcSt s i).active && (srcSt s i).holder == k) = [] := by
    rw [List.filter_eq_nil_iff]
    intro i _
    simpa using h i
  rw [runPri, hnone]
  rfl

theorem runPri_touchSession (s : State) (a : Agent) (pg : Nat) (t : State) (k : Nat) :
    runPri (touchSession s a pg t) k = runPri t k := by
  simp only [runPri, listedSources, srcPri, srcCfg, srcSt_touchSession, touchSession_icu]

/-- The address that a target's completions are written to. -/
def completionReg (k : Nat) : Nat := if k < 5 then Reg.ICU.CPL k else Reg.ICU.HOST_CPL

/-- A completion written by `a` for target `k`: CPLk for the cores and the trusted core, HOST_CPL for the host. -/
theorem completion_accepted {s : State} {a : Agent} {c : Instr} {k : Nat} {v : Word} (h : Awake s)
    (hc : k < 5 ∧ c = .cpl a k v ∧ Accepts s a (Reg.ICU.CPL k) .cmd ∨ k = 5 ∧ c = .hostCpl a v ∧ Accepts s a Reg.ICU.HOST_CPL .cmd) :
    exec c s = .next (touchSession s a (pageOf (completionReg k)) (completeFor s k v)) := by
  obtain ⟨hk, rfl, hacc⟩ | ⟨rfl, rfl, hacc⟩ := hc
  · change execCpl a k v s = _
    rw [execCpl, if_pos hk, live_guarded h hacc, completionReg, if_pos hk]
  · exact live_guarded h hacc

/-! ### Software sources (R354) -/

theorem inputOf_software {s : State} {i : Nat} (h : 768 ≤ i) (h' : i < 1024) : inputOf s i = Store.get noB s.icu.sw i := by
  rw [inputOf, if_pos ⟨h, h'⟩]

theorem fld_source_lt (v : Word) : fld v 9 0 < 1024 := by
  unfold fld
  omega

theorem noteFall_sw (s : State) (i : Nat) : (noteFall s i).icu.sw = s.icu.sw := by
  unfold noteFall
  split <;> rfl

/-- What the controller last saw of an input is all that a fall changes of a source. -/
theorem noteFall_srcSt (s : State) (i j : Nat) :
    { srcSt (noteFall s i) j with level := false } = { srcSt s j with level := false } := by
  unfold noteFall
  split
  · rw [srcSt_setSrc]
    split
    · next h => subst h; rfl
    · rfl
  · rfl

/-- A write of SW_SET with a software source sets its flag and leaves the states of the sources but for the level last seen. -/
theorem writeSwSet_sets {s : State} {v : Word} (h : 768 ≤ fld v 9 0) :
    (writeSwSet s v).icu.sw = Store.set noB s.icu.sw (fld v 9 0) (!bit v 31) ∧
    writeSwSet s v = { s with icu := (writeSwSet s v).icu } ∧
    ∀ j, { srcSt (writeSwSet s v) j with level := false } = { srcSt s j with level := false } := by
  unfold writeSwSet
  dsimp only
  rw [if_neg (by omega)]
  split
  · exact ⟨rfl, rfl, fun j => rfl⟩
  · exact ⟨noteFall_sw .., noteFall_frame .., fun j => noteFall_srcSt _ _ j⟩

theorem writeSwSet_ignored {s : State} {v : Word} (h : fld v 9 0 < 768) : writeSwSet s v = s := if_pos h

end Sys2Proof.Machine
end

section
open Sys2Proof Sys2Proof.Machine

/-- Settles O51: the write is completeFor for its target, which completes the source or counts. -/
theorem completionsGoToTheHolder : Obligations.CompletionsGoToTheHolder := by
  intro s a c k v hawake hc
  have hexec := completion_accepted hawake hc
  refine ⟨fun hactive hholder => ?_, fun hnot => ?_⟩
  · rw [completeFor_holder hactive hholder] at hexec
    have hself : srcSt (completeSrc s (fld v 9 0)) (fld v 9 0) = { srcSt s (fld v 9 0) with
        active := false, holder := 7, pending := (srcSt s (fld v 9 0)).pending || inputOf s (fld v 9 0)
        level := inputOf s (fld v 9 0) } := srcSt_setSrc_same ..
    have hother (j : Nat) (hj : j ≠ fld v 9 0) : srcSt (completeSrc s (fld v 9 0)) j = srcSt s j := srcSt_setSrc_other _ _ _ _ hj
    refine ⟨_, hexec, touchSession_icuOnly _ _ (setSrc_icu ..), ?_, ?_, ?_, fun j hj => ?_, fun hidle => ?_⟩
    · rw [srcSt_touchSession, hself]
    · rw [srcSt_touchSession, hself]
    · rw [srcSt_touchSession, hself]
    · rw [srcSt_touchSession, hother j hj]
    · rw [runPri_touchSession]
      refine runPri_idle fun j hj => ?_
      by_cases h : j = fld v 9 0
      · rw [h, hself] at hj
        cases hj
      · rw [hother j h] at hj ⊢
        exact hidle j h hj
  · rw [completeFor_spurious hnot] at hexec
    refine ⟨_, hexec, ?_, ?_, RegsExcept.touchSession ((RegsExcept.refl _ s).wr _ (by simp))⟩
    · rw [touchSession_icu, bump_icu]
    · rw [rd_touchSession, rd_bump_same]

/-- Settles O52: a write of SW_SET sets one flag, which is the source's input; a completion looks at that input again. -/
theorem softwareSourceFlags : Obligations.SoftwareSourceFlags := by
  refine ⟨fun s a v hawake hacc => ⟨fun hsrc => ?_, fun hsrc => ?_⟩, fun s a v hawake hacc hsrc hflag hactive hholder => ?_⟩
  · obtain ⟨hsw, hframe, hstates⟩ := writeSwSet_sets (s := s) hsrc
    refine ⟨_, _, live_guarded hawake hacc, live_guarded hawake hacc, rfl, touchSession_icuOnly _ _ hframe, ?_, ?_,
      fun i hi hi' hne => ?_, fun j => ?_⟩
    · rw [touchSession_icu, hsw, Store.get_set_same]
    · rw [inputOf_software hsrc (fld_source_lt v), touchSession_icu, hsw, Store.get_set_same]
    · rw [inputOf_software hi hi', inputOf_software hi hi', touchSession_icu, hsw, Store.get_set_other _ _ _ _ _ hne]
    · rw [srcSt_touchSession, hstates j]
  · have hexec : live s (guarded s a Reg.ICU.SW_SET v .cmd (writeSwSet s v)) =
        .next (touchSession s a (pageOf Reg.ICU.SW_SET) s) := by
      rw [live_guarded hawake hacc, writeSwSet_ignored hsrc]
    exact ⟨hexec, hexec⟩
  · have hexec := completion_accepted (k := 5) (v := v) hawake (.inr ⟨rfl, rfl, hacc⟩)
    rw [completeFor_holder hactive hholder] at hexec
    refine ⟨_, hexec, ?_, ?_⟩
    · rw [srcSt_touchSession, completeSrc, srcSt_setSrc_same, inputOf_software hsrc (fld_source_lt v), hflag, Bool.or_true]
    · rw [srcSt_touchSession, completeSrc, srcSt_setSrc_same]

end

section
/-! SUPPORT. The interrupt controller's flow (R356 to R365): rises, offers, claims, and the messages of the host's vectors. -/

namespace Sys2Proof.Machine

/-! ### Messages (R362 to R365) -/

theorem sendVector_masked {s : State} {v : Nat} (h : vectorMasked s v = true) : sendVector s v = setPba s v true := if_pos h

theorem sendVector_holds {s : State} {v : Nat} (h : vectorMasked s v = false) (hstay : mayLeave s = false) :
    sendVector s v = askL0 (setHeld s v true) := by
  simp only [sendVector, h, hstay, Bool.false_eq_true, if_false, Bool.not_false, if_true]

theorem held_setHeld (s : State) (v : Nat) (b : Bool) : Store.get noB (setHeld s v b).icu.held v = b := by simp [setHeld]

theorem pba_setPba (s : State) (v : Nat) (b : Bool) : Store.get noB (setPba s v b).icu.pba v = b := by simp [setPba]

theorem timer_setTimer (s : State) (v n : Nat) : Store.get zeroN (setTimer s v n).icu.timers v = n := by simp [setTimer]

/-- The address in host memory of a vector's message. -/
def messageAddr (s : State) (v : Nat) : Nat := ((msixWord s v 0).toNat + 2 ^ 32 * (msixWord s v 1).toNat) % hostBase

/-- A vector's message written to host memory, its pending bit clear. -/
def messageSent (s : State) (v : Nat) : State :=
  devWrite (setPba s v false) (hostBase + messageAddr s v) (leBytes 4 (msixWord s v 2).toNat)

/-- A message that leaves is written to its address, and starts the vector's timer where moderation is on. -/
theorem sendVector_leaves {s : State} {v : Nat} (h : vectorMasked s v = false) (hgo : mayLeave s = true) :
    sendVector s v = messageSent s v ∨ ∃ n, sendVector s v = setTimer (messageSent s v) v n := by
  simp only [sendVector, h, hgo, Bool.not_true, Bool.false_eq_true, if_false]
  split
  · exact .inl rfl
  · exact .inr ⟨_, rfl⟩

theorem messageSent_frame (s : State) (v : Nat) :
    messageSent s v = { setPba s v false with hostMem := (messageSent s v).hostMem } :=
  devWrite_past _ _ (by have := memBytes_le_hostBase; omega)

/-- What sending messages leaves alone: registers, the sources, the link and its power management events, and, while messages may
leave, which vectors are held; while they may not, memory. -/
structure Flushes (s t : State) : Prop where
  regs : t.regs = s.regs
  par : t.par = s.par
  src : t.icu.src = s.icu.src
  link : t.pcie.link = s.pcie.link
  pme : t.pcie.pmeStatus = s.pcie.pmeStatus ∧ t.pcie.pmeSent = s.pcie.pmeSent
  held : mayLeave s = true → t.icu.held = s.icu.held
  memory : mayLeave s = false → t.mem = s.mem ∧ t.hostMem = s.hostMem

theorem safe_congr {s t : State} (hregs : t.regs = s.regs) (hpar : t.par = s.par) (pg : Nat) : safe t pg = safe s pg := by
  simp only [safe, safeCause, rdB, rd, hregs, hpar]

theorem icuOn_congr {s t : State} (hregs : t.regs = s.regs) (hpar : t.par = s.par) : icuOn t = icuOn s := by
  rw [icuOn, safe_congr hregs hpar, rdB, rd, hregs]
  rfl

theorem mayLeave_congr {s t : State} (hregs : t.regs = s.regs) (hpar : t.par = s.par) (hlink : t.pcie.link = s.pcie.link) :
    mayLeave t = mayLeave s := by
  rw [mayLeave, icuOn_congr hregs hpar, hlink]
  rfl

theorem Flushes.mayLeave {s t : State} (h : Flushes s t) : mayLeave t = mayLeave s := mayLeave_congr h.regs h.par h.link

theorem Flushes.refl (s : State) : Flushes s s := ⟨rfl, rfl, rfl, rfl, ⟨rfl, rfl⟩, fun _ => rfl, fun _ => ⟨rfl, rfl⟩⟩

theorem Flushes.trans {s t u : State} (h : Flushes s t) (k : Flushes t u) : Flushes s u where
  regs := k.regs.trans h.regs
  par := k.par.trans h.par
  src := k.src.trans h.src
  link := k.link.trans h.link
  pme := ⟨k.pme.1.trans h.pme.1, k.pme.2.trans h.pme.2⟩
  held hgo := (k.held (h.mayLeave.trans hgo)).trans (h.held hgo)
  memory hstay := by
    obtain ⟨hmem, hhost⟩ := h.memory hstay
    obtain ⟨kmem, khost⟩ := k.memory (h.mayLeave.trans hstay)
    exact ⟨kmem.trans hmem, khost.trans hhost⟩

theorem Flushes.foldl {α : Type} {f : State → α → State} (hf : ∀ s a, Flushes s (f s a)) (l : List α) (s : State) :
    Flushes s (l.foldl f s) := by
  induction l generalizing s with
  | nil => exact .refl s
  | cons a l ih => exact (hf s a).trans (ih (f s a))

theorem flushes_setPba (s : State) (v : Nat) (b : Bool) : Flushes s (setPba s v b) :=
  ⟨rfl, rfl, rfl, rfl, ⟨rfl, rfl⟩, fun _ => rfl, fun _ => ⟨rfl, rfl⟩⟩

theorem flushes_askL0 (s : State) : Flushes s (askL0 s) := by
  unfold askL0
  split
  · exact ⟨rfl, rfl, rfl, rfl, ⟨rfl, rfl⟩, fun _ => rfl, fun _ => ⟨rfl, rfl⟩⟩
  · exact .refl s

theorem flushes_messageSent {s : State} (v : Nat) (h : mayLeave s = true) : Flushes s (messageSent s v) := by
  rw [messageSent_frame]
  exact ⟨rfl, rfl, rfl, rfl, ⟨rfl, rfl⟩, fun _ => rfl, fun hstay => absurd (h.symm.trans hstay) (by decide)⟩

theorem flushes_sendVector (s : State) (v : Nat) : Flushes s (sendVector s v) := by
  cases hmask : vectorMasked s v with
  | true => rw [sendVector_masked hmask]; exact flushes_setPba ..
  | false =>
    cases hgo : mayLeave s with
    | false =>
      rw [sendVector_holds hmask hgo]
      have hheld : Flushes s (setHeld s v true) :=
        ⟨rfl, rfl, rfl, rfl, ⟨rfl, rfl⟩, fun h => absurd (hgo.symm.trans h) (by decide), fun _ => ⟨rfl, rfl⟩⟩
      exact hheld.trans (flushes_askL0 _)
    | true =>
      have hsent := flushes_messageSent v hgo
      obtain heq | ⟨n, heq⟩ := sendVector_leaves hmask hgo <;> rw [heq]
      · exact hsent
      · exact { hsent with }

theorem flushes_flushPba (s : State) : Flushes s (flushPba s) := by
  refine .foldl (fun u v => ?_) _ s
  split
  · split
    · exact flushes_sendVector ..
    · exact flushes_askL0 _
  · exact .refl u

/-- Releasing a vector leaves the registers, the link and whether messages may leave. -/
theorem mayLeave_setHeld (s : State) (v : Nat) (b : Bool) : mayLeave (setHeld s v b) = mayLeave s := mayLeave_congr rfl rfl rfl

/-- One vector of flushHeld. -/
def releaseHeld (all : Bool) (s : State) (v : Nat) : State :=
  if Store.get noB s.icu.held v && (all || Store.get zeroN s.icu.timers v == 0) then sendVector (setHeld s v false) v else s

theorem flushHeld_eq (all : Bool) (s : State) : flushHeld all s = flushPba ((List.range 64).foldl (releaseHeld all) s) := rfl

theorem releaseHeld_leaves (all : Bool) (s : State) (v : Nat) :
    (releaseHeld all s v).regs = s.regs ∧ (releaseHeld all s v).par = s.par ∧ (releaseHeld all s v).pcie.link = s.pcie.link ∧
      (mayLeave s = false → (releaseHeld all s v).mem = s.mem ∧ (releaseHeld all s v).hostMem = s.hostMem) := by
  unfold releaseHeld
  split
  · have h := flushes_sendVector (setHeld s v false) v
    exact ⟨h.regs, h.par, h.link, fun hstay => h.memory ((mayLeave_setHeld ..).trans hstay)⟩
  · exact ⟨rfl, rfl, rfl, fun _ => ⟨rfl, rfl⟩⟩

theorem mayLeave_releaseHeld (all : Bool) (s : State) (v : Nat) : mayLeave (releaseHeld all s v) = mayLeave s := by
  obtain ⟨hregs, hpar, hlink, -⟩ := releaseHeld_leaves all s v
  exact mayLeave_congr hregs hpar hlink

/-- While messages may leave, every vector that is released is held no more. -/
theorem releaseHeld_held {s : State} (v w : Nat) (h : mayLeave s = true) :
    Store.get noB (releaseHeld true s v).icu.held w = (if w = v then false else Store.get noB s.icu.held w) := by
  unfold releaseHeld
  split
  · rw [(flushes_sendVector _ v).held ((mayLeave_setHeld ..).trans h), setHeld, Store.get_set]
  · next hheld =>
    simp only [Bool.true_or, Bool.and_true, Bool.not_eq_true] at hheld
    split
    · next hw => rw [hw, hheld]
    · rfl

theorem flushHeld_held {s : State} {w : Nat} (hw : w < 64) (h : mayLeave s = true) :
    Store.get noB (flushHeld true s).icu.held w = false := by
  have hstill : mayLeave ((List.range 64).foldl (releaseHeld true) s) = true :=
    (foldl_keep mayLeave _ (mayLeave_releaseHeld true) _ s).trans h
  rw [flushHeld_eq, (flushes_flushPba _).held hstill]
  exact foldl_own (fun t => Store.get noB t.icu.held w) (P := fun t => mayLeave t = true) (Q := fun _ y => y = false)
    (fun t v ht => (mayLeave_releaseHeld true t v).trans ht) (fun t ht => by rw [releaseHeld_held _ _ ht, if_pos rfl])
    (fun t v _ ht hne => by rw [releaseHeld_held _ _ ht, if_neg (Ne.symm hne)]) List.nodup_range (List.mem_range.mpr hw) h

theorem flushHeld_leaves (all : Bool) (s : State) : (flushHeld all s).regs = s.regs ∧ (flushHeld all s).pcie.link = s.pcie.link ∧
    (mayLeave s = false → SameMemory s (flushHeld all s)) := by
  have hflush := flushes_flushPba ((List.range 64).foldl (releaseHeld all) s)
  have hregs := foldl_keep State.regs _ (fun t v => (releaseHeld_leaves all t v).1) (List.range 64) s
  have hlink := foldl_keep (fun t : State => t.pcie.link) _ (fun t v => (releaseHeld_leaves all t v).2.2.1) (List.range 64) s
  have hgo := foldl_keep mayLeave _ (mayLeave_releaseHeld all) (List.range 64) s
  rw [flushHeld_eq]
  refine ⟨hflush.regs.trans hregs, hflush.link.trans hlink, fun hstay => ?_⟩
  have hmemory := foldl_unseen (f := releaseHeld all) (fun t => (t.mem, t.hostMem)) (P := fun t => mayLeave t = false)
    (fun t v ht => (mayLeave_releaseHeld all t v).trans ht) (l := List.range 64)
    (fun t v _ ht => by
      obtain ⟨-, -, -, hmemory⟩ := releaseHeld_leaves all t v
      exact Prod.ext_iff.mpr (hmemory ht)) hstay
  obtain ⟨hmem, hhost⟩ := Prod.mk.inj hmemory
  obtain ⟨kmem, khost⟩ := hflush.memory (hgo.trans hstay)
  exact sameMemory_of_stores (kmem.trans hmem) (khost.trans hhost)

/-! ### Rises (R356) -/

section
variable {s : State} {i : Nat} (h : Awake s)
include h

theorem irqInputRise_reserved (hreal : sourceReal i = false) : exec (.irqInputRise i) s = .next s := by
  change execIrqInputRise i s = _
  simp only [execIrqInputRise, live_awake h, hreal, Bool.not_false, if_true]

theorem irqInputRise_pends (hreal : sourceReal i = true)
    (hrise : inputOf s i = true ∧ ((srcSt s i).active = false ∨ (srcSt s i).level = false) ∨ Store.get noB s.icu.risen i = true) :
    exec (.irqInputRise i) s = .next (setSrc { s with icu := { s.icu with risen := Store.set noB s.icu.risen i false } } i
      { srcSt s i with pending := true, level := inputOf s i }) := by
  have hrise : (Store.get noB s.icu.risen i || (inputOf s i && !((srcSt s i).active && (srcSt s i).level))) = true := by
    obtain ⟨hin, hseen⟩ | hevent := hrise
    · obtain hseen | hseen := hseen <;> simp [hin, hseen]
    · simp [hevent]
  change execIrqInputRise i s = _
  simp only [execIrqInputRise, live_awake h, hreal, hrise, Bool.not_true, Bool.false_eq_true, if_false, if_true]

theorem irqInputRise_stays (hreal : sourceReal i = true) (hevent : Store.get noB s.icu.risen i = false)
    (hin : inputOf s i = false ∨ (srcSt s i).active = true ∧ (srcSt s i).level = true) :
    exec (.irqInputRise i) s = .next (noteFall s i) := by
  have hrise : (Store.get noB s.icu.risen i || (inputOf s i && !((srcSt s i).active && (srcSt s i).level))) = false := by
    obtain hin | ⟨hactive, hlevel⟩ := hin
    · simp [hevent, hin]
    · simp [hevent, hactive, hlevel]
  change execIrqInputRise i s = _
  simp only [execIrqInputRise, live_awake h, hreal, hrise, Bool.not_true, Bool.false_eq_true, if_false]

end

theorem noteFall_self (s : State) (i : Nat) :
    srcSt (noteFall s i) i = { srcSt s i with level := inputOf s i && (srcSt s i).level } := by
  unfold noteFall
  split
  · next hfall =>
    rw [Bool.and_eq_true, Bool.not_eq_true'] at hfall
    rw [srcSt_setSrc_same, hfall.2, Bool.false_and]
  · next hstays =>
    have hlevel : (inputOf s i && (srcSt s i).level) = (srcSt s i).level := by
      cases hin : inputOf s i <;> simp_all
    rw [hlevel]

theorem noteFall_other (s : State) {i j : Nat} (hj : j ≠ i) : srcSt (noteFall s i) j = srcSt s j := by
  unfold noteFall
  split
  · exact srcSt_setSrc_other _ _ _ _ hj
  · rfl

/-! ### Offers (R358, R362) -/

/-- A source that may be offered (R358). -/
structure Offerable (s : State) (i : Nat) : Prop where
  real : sourceReal i = true
  pending : (srcSt s i).pending = true
  active : (srcSt s i).active = false
  offer : (srcSt s i).offer = none
  unmasked : bit (srcCfg s i) 8 = true
  on : icuOn s = true

theorem Offerable.guard {s : State} {i : Nat} (hoffer : Offerable s i) : (sourceReal i && (srcSt s i).pending &&
    !(srcSt s i).active && (srcSt s i).offer.isNone && bit (srcCfg s i) 8 && icuOn s) = true := by
  simp [hoffer.real, hoffer.pending, hoffer.active, hoffer.offer, hoffer.unmasked, hoffer.on]

/-- The states of a source on offer to `k`. -/
def offered (s : State) (i k : Nat) : State := setSrc s i { srcSt s i with offer := some k }

section
variable {s : State} {i : Nat} (h : Awake s)
include h

theorem irqOffer_ignored (hnot : (srcSt s i).pending = false ∨ (srcSt s i).active = true ∨ (srcSt s i).offer.isSome = true ∨
    bit (srcCfg s i) 8 = false ∨ icuOn s = false) : exec (.irqOffer i) s = .next s := by
  have hguard : (sourceReal i && (srcSt s i).pending && !(srcSt s i).active && (srcSt s i).offer.isNone && bit (srcCfg s i) 8 &&
      icuOn s) = false := by
    rw [← Option.not_isSome]
    obtain hnot | hnot | hnot | hnot | hnot := hnot <;> simp [hnot]
  change execIrqOffer i s = _
  simp only [execIrqOffer, live_awake h, hguard, Bool.false_eq_true, if_false]

variable (hoffer : Offerable s i)
include hoffer

theorem irqOffer_core {k : Nat} {tie : Bool} (htarget : fld (srcCfg s i) 10 9 = 1) (hcore : chooseCore s i = some (k, tie))
    (hrank : outranks s i k = true) : exec (.irqOffer i) s =
      .next (setSrc (if tie then { s with icu := { s.icu with lastTie := k } } else s) i { srcSt s i with offer := some k }) := by
  change execIrqOffer i s = _
  simp only [execIrqOffer, live_awake h, hoffer.guard, htarget, hcore, hrank, if_true]

theorem irqOffer_tc (htarget : fld (srcCfg s i) 10 9 = 2) (hon : targetOn s 4 = true) (hrank : outranks s i 4 = true) :
    exec (.irqOffer i) s = .next (offered s i 4) := by
  change execIrqOffer i s = _
  simp only [execIrqOffer, live_awake h, hoffer.guard, htarget, hon, hrank, Bool.and_self, if_true, offered]

theorem irqOffer_host (htarget : fld (srcCfg s i) 10 9 = 3) :
    exec (.irqOffer i) s = .next (dueVector (offered s i 5) (vectorOf i)) := by
  change execIrqOffer i s = _
  simp only [execIrqOffer, live_awake h, hoffer.guard, htarget, if_true, offered]

end

/-! ### Vectors that become due (R362 to R365) -/

theorem notePme_pcie (s : State) : ∃ p : Bool × Nat, notePme s = { s with pcie := { s.pcie with pmeStatus := p.1, pmeSent := p.2 } } := by
  unfold notePme
  split
  · exact ⟨(true, s.pcie.pmeSent + 1), rfl⟩
  · exact ⟨(s.pcie.pmeStatus, s.pcie.pmeSent), rfl⟩

theorem notePme_notes {s : State} (hd : s.pcie.link.dstate = 3) (hen : s.pcie.cfg.pmeEn = true) :
    (notePme s).pcie.pmeStatus = true ∧ (notePme s).pcie.pmeSent = s.pcie.pmeSent + 1 := by
  rw [notePme, if_pos ⟨hd, hen⟩]
  exact ⟨rfl, rfl⟩

section
variable {s : State} {v : Nat}

theorem dueVector_masked (h : vectorMasked s v = true) : dueVector s v = setPba (notePme s) v true := by
  obtain ⟨p, hp⟩ := notePme_pcie s
  rw [dueVector, hp]
  exact if_pos h

theorem dueVector_carried (h : vectorMasked s v = false) (hjust : justSent s v = true) : dueVector s v = notePme s := by
  obtain ⟨p, hp⟩ := notePme_pcie s
  rw [dueVector, hp]
  exact (if_neg (Bool.eq_false_iff.mp h)).trans (if_pos hjust)

theorem dueVector_timed (h : vectorMasked s v = false) (hjust : justSent s v = false) (htimer : Store.get zeroN s.icu.timers v ≠ 0) :
    dueVector s v = setHeld (notePme s) v true := by
  obtain ⟨p, hp⟩ := notePme_pcie s
  rw [dueVector, hp]
  exact ((if_neg (Bool.eq_false_iff.mp h)).trans (if_neg (Bool.eq_false_iff.mp hjust))).trans (if_pos htimer)

theorem dueVector_sends (h : vectorMasked s v = false) (htimer : Store.get zeroN s.icu.timers v = 0) :
    dueVector s v = sendVector (notePme s) v := by
  have hjust : justSent s v = false := by simp [justSent, htimer]
  obtain ⟨p, hp⟩ := notePme_pcie s
  rw [dueVector, hp]
  exact ((if_neg (Bool.eq_false_iff.mp h)).trans (if_neg (Bool.eq_false_iff.mp hjust))).trans (if_neg (not_not.mpr htimer))

/-- A vector that becomes due leaves the registers and the sources alone, and the events noted before it. -/
theorem dueVector_leaves (s : State) (v : Nat) : (dueVector s v).regs = s.regs ∧ (dueVector s v).icu.src = s.icu.src ∧
    (dueVector s v).pcie.pmeStatus = (notePme s).pcie.pmeStatus ∧ (dueVector s v).pcie.pmeSent = (notePme s).pcie.pmeSent := by
  have hnote : (notePme s).regs = s.regs ∧ (notePme s).icu.src = s.icu.src := by
    obtain ⟨p, hp⟩ := notePme_pcie s
    rw [hp]
    exact ⟨rfl, rfl⟩
  obtain ⟨hregs, hsrc⟩ := hnote
  cases hmask : vectorMasked s v with
  | true => rw [dueVector_masked hmask]; exact ⟨hregs, hsrc, rfl, rfl⟩
  | false =>
    by_cases htimer : Store.get zeroN s.icu.timers v = 0
    · have h := flushes_sendVector (notePme s) v
      rw [dueVector_sends hmask htimer]
      exact ⟨h.regs.trans hregs, h.src.trans hsrc, h.pme⟩
    · cases hjust : justSent s v with
      | true => rw [dueVector_carried hmask hjust]; exact ⟨hregs, hsrc, rfl, rfl⟩
      | false => rw [dueVector_timed hmask hjust htimer]; exact ⟨hregs, hsrc, rfl, rfl⟩

theorem sameMemory_notePme (s : State) : SameMemory s (notePme s) := by
  obtain ⟨p, hp⟩ := notePme_pcie s
  rw [hp]
  exact sameMemory_of_stores rfl rfl

/-- What a PME noted changes of the tests a vector's message passes: nothing. -/
theorem notePme_tests (s : State) (v : Nat) : vectorMasked (notePme s) v = vectorMasked s v ∧ mayLeave (notePme s) = mayLeave s ∧
    messageAddr (notePme s) v = messageAddr s v ∧ msixWord (notePme s) v 2 = msixWord s v 2 ∧
    (notePme s).pcie.cfg.busMaster = s.pcie.cfg.busMaster := by
  obtain ⟨p, hp⟩ := notePme_pcie s
  rw [hp]
  exact ⟨rfl, rfl, rfl, rfl, rfl⟩

/-- A due vector waits for its timer, or for the controller, the function or the link (R362 to R365). -/
theorem dueVector_held (h : vectorMasked s v = false) (hwait : Store.get zeroN s.icu.timers v ≠ 0 ∨ mayLeave s = false)
    (hjust : justSent s v = false) :
    Store.get noB (dueVector s v).icu.held v = true ∧ SameMemory s (dueVector s v) := by
  by_cases htimer : Store.get zeroN s.icu.timers v = 0
  · have hstay : mayLeave s = false := hwait.resolve_left (not_not.mpr htimer)
    obtain ⟨hmask, hleave, -⟩ := notePme_tests s v
    rw [dueVector_sends h htimer, sendVector_holds (s := notePme s) (hmask.trans h) (hleave.trans hstay), askL0_frame]
    exact ⟨held_setHeld .., sameMemory_notePme s⟩
  · rw [dueVector_timed h hjust htimer]
    exact ⟨held_setHeld .., sameMemory_notePme s⟩

theorem askL0_asks (hon : icuOn s = true) (hd : s.pcie.link.dstate ≠ 3) (hl : s.pcie.link.aspm ≠ 0) :
    (askL0 s).pcie.l0Asked = true := by
  rw [askL0, if_pos ⟨hon, hd, hl⟩]

/-- In L1 a due vector asks for a return to L0 (R364). -/
theorem dueVector_asksL0 (h : vectorMasked s v = false) (htimer : Store.get zeroN s.icu.timers v = 0) (hon : icuOn s = true)
    (hd : s.pcie.link.dstate ≠ 3) (hl : s.pcie.link.aspm ≠ 0) : (dueVector s v).pcie.l0Asked = true := by
  have hstay : mayLeave s = false := by simp [mayLeave, hl]
  obtain ⟨hmask, hleave, -⟩ := notePme_tests s v
  have hon : icuOn (setHeld (notePme s) v true) = true ∧ (notePme s).pcie.link = s.pcie.link := by
    obtain ⟨p, hp⟩ := notePme_pcie s
    rw [hp]
    exact ⟨hon, rfl⟩
  rw [dueVector_sends h htimer, sendVector_holds (s := notePme s) (hmask.trans h) (hleave.trans hstay)]
  exact askL0_asks (s := setHeld (notePme s) v true) hon.1 (hon.2.symm ▸ hd) (hon.2.symm ▸ hl)

theorem messageSent_writes (s : State) (v : Nat) (hbus : s.pcie.cfg.busMaster = true) :
    (∀ j, j < 4 → hostByte (messageSent s v) (messageAddr s v + j) = byteAt (leBytes 4 (msixWord s v 2).toNat) j) ∧
      MemoryExcept [(hostBase + messageAddr s v, 4)] s (messageSent s v) := by
  have hbytes : (leBytes 4 (msixWord s v 2).toNat).length = 4 := length_leBytes ..
  obtain ⟨hwritten, -⟩ := hostByte_devWrite (s := setPba s v false) (a := hostBase + messageAddr s v)
    (leBytes 4 (msixWord s v 2).toNat) (by omega) hbus
  have hexcept := devWrite_except (setPba s v false) (hostBase + messageAddr s v) (leBytes 4 (msixWord s v 2).toNat)
  rw [hbytes] at hwritten hexcept
  rw [Nat.add_sub_cancel_left] at hwritten
  have hsame : SameMemory s (setPba s v false) := sameMemory_of_stores rfl rfl
  exact ⟨hwritten, (MemoryExcept.of_same (l := []) hsame).trans hexcept⟩

/-- A due vector whose message leaves writes it, and nothing else, to host memory (R362). -/
theorem dueVector_writes (h : vectorMasked s v = false) (htimer : Store.get zeroN s.icu.timers v = 0) (hgo : mayLeave s = true)
    (hbus : s.pcie.cfg.busMaster = true) :
    (∀ j, j < 4 → hostByte (dueVector s v) (messageAddr s v + j) = byteAt (leBytes 4 (msixWord s v 2).toNat) j) ∧
      MemoryExcept [(hostBase + messageAddr s v, 4)] s (dueVector s v) := by
  obtain ⟨hmask, hleave, haddr, hword, hmaster⟩ := notePme_tests s v
  have hsent := messageSent_writes (notePme s) v (hmaster.trans hbus)
  rw [haddr, hword] at hsent
  have hexcept := (MemoryExcept.of_same (l := []) (sameMemory_notePme s)).trans hsent.2
  rw [dueVector_sends h htimer]
  obtain heq | ⟨n, heq⟩ := sendVector_leaves (s := notePme s) (v := v) (hmask.trans h) (hleave.trans hgo) <;> rw [heq]
  · exact ⟨hsent.1, hexcept⟩
  · generalize messageSent (notePme s) v = u at hsent hexcept
    exact ⟨hsent.1, hexcept⟩

end

/-! ### Claims (R359, R363) -/

/-- The offers that fall back when target `k` takes a source. -/
def fallBack (k : Nat) (s : State) (j : Nat) : State :=
  if (srcSt s j).offer == some k && !outranks s j k then setSrc s j { srcSt s j with offer := none, withdraw := none } else s

theorem fallBack_other {k : Nat} (s : State) (j : Nat) {i : Nat} (h : (srcSt s i).offer ≠ some k) :
    srcSt (fallBack k s j) i = srcSt s i := by
  unfold fallBack
  split
  · next hj =>
    refine srcSt_setSrc_other _ _ _ _ ?_
    rintro rfl
    simp only [Bool.and_eq_true, beq_iff_eq] at hj
    exact h hj.1
  · rfl

theorem foldl_fallBack_other {k : Nat} (l : List Nat) (s : State) {i : Nat} (h : (srcSt s i).offer ≠ some k) :
    srcSt (l.foldl (fallBack k) s) i = srcSt s i := by
  induction l generalizing s with
  | nil => rfl
  | cons j l ih =>
    have hj := fallBack_other s j h
    rw [List.foldl_cons, ih _ (by rwa [hj]), hj]

theorem foldl_fallBack_icuOnly (k : Nat) (l : List Nat) (s : State) :
    l.foldl (fallBack k) s = { s with icu := (l.foldl (fallBack k) s).icu } := by
  induction l generalizing s with
  | nil => rfl
  | cons j l ih =>
    have hj : fallBack k s j = { s with icu := (fallBack k s j).icu } := by
      unfold fallBack
      split <;> rfl
    rw [List.foldl_cons, ih, hj]

/-- A source that a target takes is active there; sources that are not on offer to the target stay as they are (R359). -/
theorem activate_takes (s : State) (i k : Nat) :
    srcSt (activate s i k) i = ⟨inputOf s i, false, true, k, none, none⟩ ∧
    (∀ j, j ≠ i → (srcSt s j).offer ≠ some k → srcSt (activate s i k) j = srcSt s j) ∧
    activate s i k = { s with icu := (activate s i k).icu } := by
  unfold activate
  dsimp only
  have hself : srcSt (setSrc s i ⟨inputOf s i, false, true, k, none, none⟩) i = ⟨inputOf s i, false, true, k, none, none⟩ :=
    srcSt_setSrc_same ..
  have hother (j : Nat) (hj : j ≠ i) : srcSt (setSrc s i ⟨inputOf s i, false, true, k, none, none⟩) j = srcSt s j :=
    srcSt_setSrc_other _ _ _ _ hj
  split
  · exact ⟨hself, fun j hj _ => hother j hj, rfl⟩
  · refine ⟨?_, fun j hj hoffer => ?_, ?_⟩
    · exact (foldl_fallBack_other _ _ (by rw [hself]; exact nofun)).trans hself
    · exact (foldl_fallBack_other _ _ (by rwa [hother j hj])).trans (hother j hj)
    · exact foldl_fallBack_icuOnly k _ (setSrc s i ⟨inputOf s i, false, true, k, none, none⟩)

theorem claimOf_none {s : State} {k : Nat} {mine : Nat → Bool}
    (h : mostUrgent s ((listedSources s).filter fun i => offeredTo s k i && mine i) = none) : claimOf s k mine = (0, s) := by
  rw [claimOf, h]

theorem claimOf_some {s : State} {k i : Nat} {mine : Nat → Bool}
    (h : mostUrgent s ((listedSources s).filter fun i => offeredTo s k i && mine i) = some i) :
    claimOf s k mine = (w32 (2 ^ 31 + (i + 2 ^ 16 * srcPri s i)), activate s i k) := by
  rw [claimOf, h]

/-- A claim of target `k`, by CLAIMk or by HOST_CLAIM of a vector, answers claimOf's word on claimOf's state. -/
theorem claim_answers {s : State} {a : Agent} {c : Instr} {k : Nat} {mine : Nat → Bool} (h : Awake s)
    (hc : k < 5 ∧ c = .claim a k ∧ (∀ i, mine i = true) ∨
      k = 5 ∧ ∃ v, v < 64 ∧ c = .hostClaim a v ∧ ∀ i, mine i = (vectorOf i == v)) :
    exec c s = .next (answer (claimOf s k mine).2 a (claimOf s k mine).1) := by
  obtain ⟨hk, rfl, hmine⟩ | ⟨rfl, v, hv, rfl, hmine⟩ := hc
  · obtain rfl : mine = fun _ => true := funext hmine
    change execClaim a k s = _
    simp only [execClaim, live_awake h, if_pos hk]
  · obtain rfl : mine = fun i => vectorOf i == v := funext hmine
    change execHostClaim a v s = _
    simp only [execHostClaim, live_awake h, if_pos hv]

/-! ### Ends of offers and timers (R360, R362) -/

theorem offerWithdraw_due {s : State} {i e : Nat} (h : Awake s) (he : (srcSt s i).withdraw = some e) (hdue : e ≤ mgmtClk s) :
    exec (.offerWithdraw i) s = .next (setSrc s i { srcSt s i with offer := none, withdraw := none }) := by
  change execOfferWithdraw i s = _
  simp only [execOfferWithdraw, live_awake h, he, if_pos hdue]

theorem offerWithdraw_early {s : State} {i e : Nat} (h : Awake s) (he : (srcSt s i).withdraw = some e) (hearly : mgmtClk s < e) :
    exec (.offerWithdraw i) s = .next s := by
  change execOfferWithdraw i s = _
  simp only [execOfferWithdraw, live_awake h, he, if_neg (Nat.not_le.mpr hearly)]

theorem moderationExpiry_early {s : State} {v : Nat} (h : Awake s) (hearly : mgmtClk s < Store.get zeroN s.icu.timers v) :
    exec (.moderationExpiry v) s = .next s := by
  have hguard : (decide (v < 64) && Store.get zeroN s.icu.timers v != 0 && decide (Store.get zeroN s.icu.timers v ≤ mgmtClk s)) = false := by
    rw [decide_eq_false (Nat.not_le.mpr hearly), Bool.and_false]
  change execModerationExpiry v s = _
  simp only [execModerationExpiry, live_awake h, hguard, Bool.false_eq_true, if_false]

theorem moderationExpiry_due {s : State} {v : Nat} (h : Awake s) (hv : v < 64) (hruns : Store.get zeroN s.icu.timers v ≠ 0)
    (hdue : Store.get zeroN s.icu.timers v ≤ mgmtClk s) : exec (.moderationExpiry v) s =
      .next (if Store.get noB s.icu.held v then sendVector (setHeld (setTimer s v 0) v false) v else setTimer s v 0) := by
  have hguard : (decide (v < 64) && Store.get zeroN s.icu.timers v != 0 && decide (Store.get zeroN s.icu.timers v ≤ mgmtClk s)) = true := by
    simp [hv, hruns, hdue]
  change execModerationExpiry v s = _
  simp only [execModerationExpiry, live_awake h, hguard, if_true]

/-! ### The way back to D0 (R365) -/

theorem d0Entry_elsewhere {s : State} (h : Awake s) (hd : s.pcie.link.dstate ≠ 3) : exec .d0Entry s = .next s := by
  change execD0Entry s = _
  simp only [execD0Entry, live_awake h, if_neg hd]

/-- The function in D0 over a link in L0. -/
def inD0 (s : State) : State := { s with pcie := { s.pcie with link := { s.pcie.link with dstate := 0, aspm := 0 } } }

theorem d0Entry_flushes {s : State} (h : Awake s) (hd : s.pcie.link.dstate = 3) : exec .d0Entry s = .next (flushHeld true (inD0 s)) := by
  change execD0Entry s = _
  simp only [execD0Entry, live_awake h, if_pos hd, inD0]

theorem mayLeave_inD0 (s : State) : mayLeave (inD0 s) = icuOn s := by
  change (icuOn s && (0 : Nat) != 3 && (0 : Nat) == 0) = _
  simp

end Sys2Proof.Machine
end

section
open Sys2Proof Sys2Proof.Machine

/-- Settles O50: each command of the flow by its own lemma; what a host vector does is dueVector's four cases. -/
theorem interruptFlow : Obligations.InterruptFlow := by
  refine ⟨fun s i hawake => ⟨fun hreal hrise => ?_, irqInputRise_reserved hawake, fun hreal hevent hin => ?_,
      irqOffer_ignored hawake, fun hreal hpending hactive hoffer hmask hon => ?_⟩,
    fun s a c k mine hawake hc => ?_,
    fun s i hawake => ⟨fun e he => ⟨offerWithdraw_due hawake he, offerWithdraw_early hawake he⟩,
      fun hi hruns => ⟨moderationExpiry_early hawake, fun hdue => ?_⟩⟩,
    fun s hawake => ⟨d0Entry_elsewhere hawake, fun hd => ?_⟩,
    fun s a v hawake hacc => ⟨fun hline => ?_, fun hline => ?_⟩⟩
  · exact ⟨_, irqInputRise_pends hawake hreal hrise, srcSt_setSrc_same .., fun j hj => srcSt_setSrc_other _ _ _ _ hj, rfl⟩
  · exact ⟨_, irqInputRise_stays hawake hreal hevent hin, noteFall_self .., fun j hj => noteFall_other s hj, noteFall_frame ..⟩
  · have hready : Offerable s i := ⟨hreal, hpending, hactive, hoffer, hmask, hon⟩
    refine ⟨fun k tie htarget hcore hrank => ?_, irqOffer_tc hawake hready, fun htarget => ?_⟩
    · refine ⟨_, irqOffer_core hawake hready htarget hcore hrank, srcSt_setSrc_same .., fun j hj => ?_, ?_⟩
      · rw [srcSt_setSrc_other _ _ _ _ hj]
        split <;> rfl
      · split <;> rfl
    · obtain ⟨hregs, hsrc, hstatus, hsent⟩ := dueVector_leaves (offered s i 5) (vectorOf i)
      refine ⟨_, irqOffer_host hawake hready htarget, ?_, hregs, fun hd hen => ?_,
        fun hm htimer hd hl => dueVector_asksL0 (s := offered s i 5) hm htimer hon hd hl, fun hm => ?_,
        dueVector_held (s := offered s i 5), fun hm hjust => ?_, ?_⟩
      · rw [srcSt, hsrc]
        exact congrArg SrcState.offer (srcSt_setSrc_same s i _)
      · obtain ⟨hnoted, hcount⟩ := notePme_notes (s := offered s i 5) hd hen
        exact ⟨hstatus.trans hnoted, hsent.trans hcount⟩
      · rw [dueVector_masked (s := offered s i 5) hm]
        exact ⟨pba_setPba .., sameMemory_notePme (offered s i 5)⟩
      · rw [dueVector_carried (s := offered s i 5) hm hjust]
        obtain ⟨p, hp⟩ := notePme_pcie (offered s i 5)
        exact ⟨by rw [hp]; rfl, sameMemory_notePme (offered s i 5)⟩
      · rintro h rfl hm htimer hgo hbus
        exact dueVector_writes (s := offered s i 5) hm htimer hgo hbus
  · refine ⟨_, claim_answers hawake hc, ?_, fun hnone => ?_, fun i hsome => ?_⟩
    · cases hmost : mostUrgent s ((listedSources s).filter fun i => offeredTo s k i && mine i) with
      | none => rw [claimOf_none hmost]; rfl
      | some i =>
        obtain ⟨-, -, hframe⟩ := activate_takes s i k
        rw [claimOf_some hmost]
        dsimp only
        rw [hframe]
        rfl
    · rw [claimOf_none hnone]
      exact ⟨rfl, answer_word ..⟩
    · obtain ⟨hself, hother, -⟩ := activate_takes s i k
      rw [claimOf_some hsome]
      exact ⟨hself, answer_word .., hother⟩
  · have hflush := flushes_sendVector (setHeld (setTimer s i 0) i false) i
    refine ⟨_, moderationExpiry_due hawake hi hruns hdue, ?_, fun hheld => ?_, fun hgo => ?_, fun hheld hstay hm => ?_⟩
    · split
      · exact hflush.regs
      · rfl
    · rw [hheld, if_neg (by decide)]
      exact ⟨timer_setTimer .., sameMemory_of_stores rfl rfl⟩
    · split
      · cases hm : vectorMasked s i with
        | true =>
          rw [sendVector_masked (s := setHeld (setTimer s i 0) i false) hm]
          exact held_setHeld (setTimer s i 0) i false
        | false =>
          have hgo : mayLeave s = true := hgo.resolve_right (by rw [hm]; decide)
          rw [hflush.held hgo]
          exact held_setHeld ..
      · next hheld => exact Bool.eq_false_iff.mpr hheld
    · rw [if_pos hheld, sendVector_holds (s := setHeld (setTimer s i 0) i false) hm hstay, askL0_frame]
      exact ⟨held_setHeld .., sameMemory_of_stores rfl rfl⟩
  · obtain ⟨hregs, hlink, hmemory⟩ := flushHeld_leaves true (inD0 s)
    refine ⟨_, d0Entry_flushes hawake hd, by rw [hlink]; rfl, hregs, fun hon v hv => ?_, fun hoff => ?_⟩
    · exact flushHeld_held hv ((mayLeave_inD0 s).trans hon)
    · exact hmemory ((mayLeave_inD0 s).trans hoff)
  · change live s (guarded s a Reg.EVF.SW_PULSE v .cmd (writeSwPulse s v)) = _
    rw [live_guarded hawake hacc, writeSwPulse, if_pos hline]
  · change live s (guarded s a Reg.EVF.SW_PULSE v .cmd (writeSwPulse s v)) = _
    rw [live_guarded hawake hacc, writeSwPulse, if_neg hline]

end

section
/-! SUPPORT. Audit records (R416 to R418) and sessions (R408, R409): what queuing a record leaves alone, what an accepted write of the
session registers comes down to, and how an OPEN ends. -/

namespace Sys2Proof.Machine

/-! ### Fields written and read back -/

theorem rdF_wrF_same (s : State) (a v : Nat) {hi lo : Nat} (h : lo ≤ hi) (h32 : hi < 32) :
    rdF (wrF s a hi lo v) a hi lo = v % 2 ^ (hi + 1 - lo) := by
  rw [rdF, wrF, rd_wr_same, fld_setFld_same _ _ _ _ h h32]

theorem rdF_congr {s t : State} {a : Nat} (hi lo : Nat) (h : rd t a = rd s a) : rdF t a hi lo = rdF s a hi lo := by
  rw [rdF, h, rdF]

/-! ### Queuing a record -/

/-- What queuing an audit record reaches: the queue, the count of lost events and its cause. -/
def AuditStep (s t : State) : Prop := t = { s with regs := t.regs, par := t.par, icu := t.icu, aud := t.aud }

theorem auditStep_lose (s : State) : AuditStep s (audit.lose s) := by
  rw [AuditStep, audit.lose, raiseE_frame]
  rfl

theorem auditStep_audit (s : State) (kind agent role : Nat) (args : List Byte) : AuditStep s (audit s kind agent role args) := by
  have hlose (q : AudSt) : AuditStep s (audit.lose { s with aud := q }) := by
    have h := auditStep_lose { s with aud := q }
    rw [AuditStep] at h ⊢
    rw [h]
  unfold audit
  dsimp only
  split
  · split
    · rfl
    · split
      · rfl
      · exact hlose _
  · exact hlose _

section
variable (s : State) (kind agent role : Nat) (args : List Byte)

@[simp] theorem audit_sec : (audit s kind agent role args).sec = s.sec := by rw [auditStep_audit s kind agent role args]

@[simp] theorem audit_time : (audit s kind agent role args).time = s.time := by rw [auditStep_audit s kind agent role args]

@[simp] theorem audit_nor : (audit s kind agent role args).nor = s.nor := by rw [auditStep_audit s kind agent role args]

theorem RegsExcept.audit {l : List Nat} {s t : State} (h : RegsExcept l s t) (hl : Reg.AUD.LOST ∈ l) :
    RegsExcept l s (audit t kind agent role args) :=
  fun b hb => (rd_audit _ _ _ _ _ _ (ne_of_mem_of_not_mem hl hb).symm).trans (h b hb)

end

/-! ### The session -/

/-- An accepted write touches nothing of the trusted core but the open session's activity. -/
theorem touchSession_sec (s : State) (a : Agent) (pg : Nat) (t : State) :
    (touchSession s a pg t).sec = { t.sec with sess := (touchSession s a pg t).sec.sess } := by
  unfold touchSession
  split
  · split <;> rfl
  · rfl

theorem closeSession_sec (s : State) (agent role reason : Nat) :
    (closeSession s agent role reason).sec = { s.sec with sess := none } := by
  unfold closeSession
  split
  · exact audit_sec ..
  · next hnone => rw [← hnone]

theorem closeSession_time (s : State) (agent role reason : Nat) : (closeSession s agent role reason).time = s.time := by
  unfold closeSession
  split
  · exact audit_time ..
  · rfl

theorem RegsExcept.closeSession {l : List Nat} {s t : State} (h : RegsExcept l s t) (hl : Reg.AUD.LOST ∈ l)
    (agent role reason : Nat) : RegsExcept l s (closeSession t agent role reason) := by
  unfold Machine.closeSession
  split
  · exact RegsExcept.audit _ _ _ _ (h.of_regs rfl) hl
  · exact h

theorem closeSession_regs (s : State) (agent role reason : Nat) : RegsExcept [Reg.AUD.LOST] s (closeSession s agent role reason) :=
  (RegsExcept.refl _ s).closeSession (by simp) _ _ _

/-! ### An OPEN that fails (R408, R422) -/

theorem failOpen_sec (s : State) (slot r : Nat) : (failOpen s slot r).sec = s.sec :=
  (raiseE_sec ..).trans (audit_sec ..)

theorem failOpen_shows (s : State) (slot : Nat) {r : Nat} (hr : r < 16) :
    rdF (failOpen s slot r) Reg.SEC.SESS_STATUS 15 12 = r ∧
      rd (failOpen s slot r) Reg.SEC.SESS_FAILS = plusOne (rd s Reg.SEC.SESS_FAILS) ∧
      RegsExcept [Reg.SEC.SESS_STATUS, Reg.SEC.SESS_FAILS, Reg.AUD.LOST] s (failOpen s slot r) := by
  have hrd {b : Nat} (hb : b ≠ Reg.AUD.LOST) :
      rd (failOpen s slot r) b = rd (sessResult (bump s Reg.SEC.SESS_FAILS) r) b := by
    rw [failOpen, rd_raiseE, rd_audit _ _ _ _ _ _ hb]
  refine ⟨?_, ?_, ?_⟩
  · rw [rdF_congr _ _ (hrd (by decide)), sessResult, rdF_wrF_same _ _ _ (by decide) (by decide)]
    exact Nat.mod_eq_of_lt hr
  · rw [hrd (by decide), sessResult, wrF, rd_wr_other _ _ _ _ (by decide), rd_bump_same]
  · have hwritten := ((RegsExcept.refl [Reg.SEC.SESS_STATUS, Reg.SEC.SESS_FAILS, Reg.AUD.LOST] s).wr
      (a := Reg.SEC.SESS_FAILS) (w32 (min 0xFFFFFFFF (rdN s Reg.SEC.SESS_FAILS + 1))) (by simp)).wr
      (a := Reg.SEC.SESS_STATUS) (setFld (rd (bump s Reg.SEC.SESS_FAILS) Reg.SEC.SESS_STATUS) 15 12 r) (by simp)
    exact (RegsExcept.audit _ _ _ _ hwritten (by simp)).raiseE

/-! ### Writes of SESS_CTRL (R408, R409) -/

section
variable {s : State} {a : Agent} {v : Word} (hawake : Awake s) (hacc : Accepts s a Reg.SEC.SESS_CTRL .cmd)
include hawake hacc

theorem sessionChallenge_asks (hchal : bit v 0 = true) (hopen : bit v 1 = false) (hclose : bit v 2 = false) (hidle : s.sec.opening = none) :
    exec (.sessionChallenge a v) s = .next (touchSession s a (pageOf Reg.SEC.SESS_CTRL)
      { s with sec := { s.sec with chalReq := some (fld v 7 4), chal := none } }) := by
  have heffect : writeSessCtrl s a v = { s with sec := { s.sec with chalReq := some (fld v 7 4), chal := none } } := by
    simp only [writeSessCtrl, hchal, hopen, hclose, hidle, Option.isSome_none, Bool.false_eq_true, if_false, if_true]
  rw [← heffect]
  exact live_guarded hawake hacc

theorem sessionOpen_starts (hchal : bit v 0 = false) (hopen : bit v 1 = true) (hclose : bit v 2 = false) (hidle : s.sec.opening = none)
    (hfree : s.sec.lockedAt = none) : exec (.sessionOpen a v) s =
      .next (touchSession s a (pageOf Reg.SEC.SESS_CTRL) { s with sec := { s.sec with opening := some (fld v 7 4) } }) := by
  have heffect : writeSessCtrl s a v = { s with sec := { s.sec with opening := some (fld v 7 4) } } := by
    simp only [writeSessCtrl, hchal, hopen, hclose, hidle, hfree, Option.isSome_none, Bool.false_eq_true, if_false, if_true]
  rw [← heffect]
  exact live_guarded hawake hacc

theorem sessionOpen_lockedOut (hchal : bit v 0 = false) (hopen : bit v 1 = true) (hclose : bit v 2 = false)
    (hidle : s.sec.opening = none) (hlocked : s.sec.lockedAt.isSome = true) :
    exec (.sessionOpen a v) s = .next (touchSession s a (pageOf Reg.SEC.SESS_CTRL) (failOpen s (fld v 7 4) 4)) := by
  have heffect : writeSessCtrl s a v = failOpen s (fld v 7 4) 4 := by
    simp only [writeSessCtrl, hchal, hopen, hclose, hidle, hlocked, Option.isSome_none, Bool.false_eq_true, if_false, if_true]
  rw [← heffect]
  exact live_guarded hawake hacc

theorem sessionClose_closes (hchal : bit v 0 = false) (hopen : bit v 1 = false) (hclose : bit v 2 = true) :
    exec (.sessionClose a v) s =
      .next (touchSession s a (pageOf Reg.SEC.SESS_CTRL) (closeSession s (agentCode a) (roleFor s a) 0)) := by
  have heffect : writeSessCtrl s a v = closeSession s (agentCode a) (roleFor s a) 0 := by
    simp only [writeSessCtrl, hchal, hopen, hclose, Bool.false_eq_true, if_false, if_true]
  rw [← heffect]
  exact live_guarded hawake hacc

end

/-! ### The trusted core's answers and its clocks (R408, R409) -/

section
variable {s : State} (hawake : Awake s)
include hawake

theorem challengeReady_brings {slot : Nat} (nonce : List Byte) (hreq : s.sec.chalReq = some slot) :
    exec (.challengeReady nonce) s = .next { s with sec := { s.sec with
      chalReq := none, chal := some ⟨slot, padTo 32 nonce, s.time.uptime⟩, nonce := padTo 32 nonce } } := by
  change execChallengeReady nonce s = _
  rw [execChallengeReady, hreq, live_awake hawake]

theorem challengeExpiry_due {c : Challenge} (hchal : s.sec.chal = some c) (hidle : s.sec.opening = none) :
    exec .challengeExpiry s = .next (if elapsedUs s c.at_ 60000000 then { s with sec := { s.sec with chal := none } } else s) := by
  change execChallengeExpiry s = _
  simp only [execChallengeExpiry, hchal, hidle, live_awake hawake, Option.isNone_none, Bool.true_and]

theorem sessionLockoutEnd_due {u : Nat} (hlocked : s.sec.lockedAt = some u) :
    exec .sessionLockoutEnd s =
      .next (if elapsedUs s u 60000000 then { s with sec := { s.sec with lockedAt := none, fails := 0 } } else s) := by
  change execSessionLockoutEnd s = _
  rw [execSessionLockoutEnd, hlocked, live_awake hawake]

theorem sessionIdleTimeout_due {x : Session} (hsess : s.sec.sess = some x) :
    exec .sessionIdleTimeout s = .next (if elapsedUs s x.active (1000000 * rdF s Reg.SEC.SESS_IDLE 16 0) then closeSession s 2 0 1 else s) := by
  change execSessionIdleTimeout s = _
  rw [execSessionIdleTimeout, hsess, live_awake hawake]

theorem sessionMaxTimeout_due {x : Session} (hsess : s.sec.sess = some x) :
    exec .sessionMaxTimeout s = .next (if elapsedUs s x.opened (60000000 * rdF s Reg.SEC.SESS_MAX 10 0) then closeSession s 2 0 2 else s) := by
  change execSessionMaxTimeout s = _
  rw [execSessionMaxTimeout, hsess, live_awake hawake]

end

/-- The trusted core as a verified OPEN finds it: no OPEN in verification, the challenge used up. -/
def openEnded (s : State) : State := { s with sec := { s.sec with opening := none, chal := none } }

/-- A failed OPEN's place in the row of failures; the eighth starts the lockout. -/
def openMissed (s : State) : State :=
  { openEnded s with sec := { (openEnded s).sec with
    fails := s.sec.fails + 1, lockedAt := if s.sec.fails + 1 = 8 then some s.time.uptime else s.sec.lockedAt } }

theorem sessionVerifyDone_opens {s : State} {slot : Nat} (hawake : Awake s) (hopening : s.sec.opening = some slot)
    (hgood : sessVerdict s slot = 0) : exec .sessionVerifyDone s = .next (openAs (openEnded s) slot) := by
  change execSessionVerifyDone s = _
  rw [execSessionVerifyDone, hopening, live_awake hawake]
  simp only [hgood, if_true]
  rfl

theorem sessionVerifyDone_fails {s : State} {slot : Nat} (hawake : Awake s) (hopening : s.sec.opening = some slot)
    (hbad : sessVerdict s slot ≠ 0) :
    exec .sessionVerifyDone s = .next (failOpen (openMissed s) slot (sessVerdict s slot)) := by
  change execSessionVerifyDone s = _
  rw [execSessionVerifyDone, hopening, live_awake hawake]
  simp only [hbad, if_false]
  rfl

theorem sessVerdict_lt (s : State) (slot : Nat) : sessVerdict s slot < 16 := by
  unfold sessVerdict
  dsimp only
  (repeat' split) <;> decide

/-- A session opened now in a slot, in a state where any older one is closed. -/
def sessOpened (s : State) (role slot : Nat) : State :=
  { s with sec := { s.sec with sess := some ⟨role, slot, s.time.uptime, s.time.uptime⟩, fails := 0 } }

theorem openAs_eq (s : State) (slot : Nat) : openAs s slot =
    raiseE (audit (sessResult (sessOpened (closeSession s 2 0 3) (keySlot s slot).role slot) 0) 0x04 2 0
      [BitVec.ofNat 8 slot, BitVec.ofNat 8 (keySlot s slot).role]) Page.SEC 0 := rfl

/-- A verified OPEN leaves a session of the slot's role, opened now. -/
theorem openAs_leaves (s : State) (slot : Nat) :
    (openAs s slot).sec = { s.sec with sess := some ⟨(keySlot s slot).role, slot, s.time.uptime, s.time.uptime⟩, fails := 0 } ∧
      rdF (openAs s slot) Reg.SEC.SESS_STATUS 15 12 = 0 ∧ RegsExcept [Reg.SEC.SESS_STATUS, Reg.AUD.LOST] s (openAs s slot) := by
  refine ⟨?_, ?_, ?_⟩ <;> rw [openAs_eq]
  · rw [raiseE_sec, audit_sec, sessResult, wrF_sec, sessOpened, closeSession_sec, closeSession_time]
  · rw [rdF_congr _ _ (rd_raiseE ..), rdF_congr _ _ (rd_audit _ _ _ _ _ _ (by decide)), sessResult,
      rdF_wrF_same _ _ _ (by decide) (by decide), Nat.zero_mod]
  · have hclosed := (RegsExcept.refl [Reg.SEC.SESS_STATUS, Reg.AUD.LOST] s).closeSession (by simp) 2 0 3
    have hopened := hclosed.of_regs (u := sessOpened (closeSession s 2 0 3) (keySlot s slot).role slot) rfl
    exact (RegsExcept.audit _ _ _ _ (hopened.wr _ (by simp)) (by simp)).raiseE

end Sys2Proof.Machine
end

section
open Sys2Proof Sys2Proof.Machine

/-- Settles O54: each command's effect, read off its equation. -/
theorem sessionsOpenAndClose : Obligations.SessionsOpenAndClose := by
  refine ⟨fun s a v hawake hacc => ⟨fun h0 h1 h2 hidle => ?_, fun h0 h1 h2 hidle => ⟨fun hfree => ?_, fun hlocked => ?_⟩,
    fun h0 h1 h2 => ?_⟩, fun s hawake => ⟨fun slot nonce hreq => ?_, fun c hchal hidle => ?_, fun slot hopening =>
    ⟨fun hgood => ?_, fun hbad => ?_⟩, fun u hlocked => ?_, fun x hsess => ?_⟩⟩
  · refine ⟨_, sessionChallenge_asks hawake hacc h0 h1 h2 hidle, ?_, ?_, touchSession_regs ..⟩ <;> rw [touchSession_sec]
  · refine ⟨_, sessionOpen_starts hawake hacc h0 h1 h2 hidle hfree, ?_, touchSession_regs ..⟩
    rw [touchSession_sec]
  · obtain ⟨hresult, hcount, -⟩ := failOpen_shows s (fld v 7 4) (r := 4) (by decide)
    refine ⟨_, sessionOpen_lockedOut hawake hacc h0 h1 h2 hidle hlocked, ?_, ?_, ?_⟩
    · rw [touchSession_sec, failOpen_sec]
      exact hidle
    · rw [rdF_congr _ _ (rd_touchSession ..), hresult]
    · rw [rd_touchSession, hcount]
  · have hclosed : (closeSession s (agentCode a) (roleFor s a) 0).sec.sess = none := by rw [closeSession_sec]
    refine ⟨_, sessionClose_closes hawake hacc h0 h1 h2, ?_, (closeSession_regs _ _ _ _).touchSession⟩
    rw [touchSession_closed _ _ hclosed, hclosed]
  · exact ⟨_, challengeReady_brings hawake nonce hreq, rfl, rfl, rfl, rfl⟩
  · rw [challengeExpiry_due hawake hchal hidle]
    exact ⟨fun hdue => ⟨_, by rw [if_pos hdue], rfl⟩, fun hearly => by rw [hearly, if_neg (by decide)]⟩
  · obtain ⟨hsec, hresult, hregs⟩ := openAs_leaves (openEnded s) slot
    refine ⟨_, _, sessionVerifyDone_opens hawake hopening hgood, by rw [hsec], rfl, rfl, rfl, rfl, by rw [hsec], by rw [hsec]; rfl,
      by rw [hsec]; rfl, hresult, hregs⟩
  · obtain ⟨hresult, hcount, hregs⟩ := failOpen_shows (openMissed s) slot (sessVerdict_lt s slot)
    have hsec := failOpen_sec (openMissed s) slot (sessVerdict s slot)
    refine ⟨_, sessionVerifyDone_fails hawake hopening hbad, by rw [hsec]; rfl, by rw [hsec]; rfl, by rw [hsec]; rfl,
      by rw [hsec]; rfl, hresult, hcount, fun hfails => ?_, hregs⟩
    rw [hsec, openMissed, hfails]
    rfl
  · rw [sessionLockoutEnd_due hawake hlocked]
    exact ⟨fun hdue => ⟨_, by rw [if_pos hdue], rfl⟩, fun hearly => by rw [hearly, if_neg (by decide)]⟩
  · have hclosed (reason : Nat) : (closeSession s 2 0 reason).sec.sess = none := by rw [closeSession_sec]
    rw [sessionIdleTimeout_due hawake hsess, sessionMaxTimeout_due hawake hsess]
    refine ⟨fun hdue => ?_, fun hearly => by rw [hearly, if_neg (by decide)], fun hdue => ?_,
      fun hearly => by rw [hearly, if_neg (by decide)]⟩
    · exact ⟨_, by rw [if_pos hdue], hclosed 1, closeSession_regs _ _ _ _⟩
    · exact ⟨_, by rw [if_pos hdue], hclosed 2, closeSession_regs _ _ _ _⟩

end

section
/-! SUPPORT. Requests (R411 to R415): what each write of REQ_CTRL comes down to, what applying an approved request leaves, and the
configuration block it rewrites. -/

namespace Sys2Proof.Machine

/-! ### RESULT (R422) -/

theorem reqResult_shows (s : State) {r : Nat} (hr : r < 16) :
    rdF (reqResult s r) Reg.SEC.REQ_STATUS 7 4 = r ∧ RegsExcept [Reg.SEC.REQ_STATUS] s (reqResult s r) :=
  ⟨(rdF_wrF_same _ _ _ (by decide) (by decide)).trans (Nat.mod_eq_of_lt hr), (RegsExcept.refl _ s).wr _ (by simp)⟩

/-! ### Submission (R411, R413, R414) -/

/-- The digest of a request submitted now (R414). -/
def newDigest (s : State) (nr : List Byte) : List Byte :=
  sha256 (reqBody s ++ leBytes 2 ((s.sec.reqId + 1) % 65536) ++ idBytes ++ epochBytes s ++ padTo 32 nr)

/-- The request that a SUBMIT makes pending. -/
def newRequest (s : State) (nr : List Byte) : Request :=
  ⟨(s.sec.reqId + 1) % 65536, reqBody s, newDigest s nr, [], none, s.time.uptime⟩

theorem submit_sec {s : State} (a : Agent) (nr : List Byte) (hsess : s.sec.sess.isSome = true) (hreq : s.sec.req = none)
    (hvalid : reqInvalid s (reqBody s) = false) : (submit s a nr).sec =
      { s.sec with reqId := (s.sec.reqId + 1) % 65536, digest := newDigest s nr, req := some (newRequest s nr) } := by
  have hnone : s.sec.sess.isNone = false := by rw [← Option.not_isSome, hsess]; rfl
  unfold submit
  simp only [hnone, hreq, hvalid, Option.isSome_none, Bool.false_eq_true, if_false, audit_sec, wr_sec]
  rfl

/-- What a SUBMIT without a session, with a request pending, or of a body that R413 refuses shows. -/
theorem submit_refused {s : State} (a : Agent) (nr : List Byte) {c : Nat} (h : s.sec.sess = none ∧ c = 5 ∨
    s.sec.sess.isSome = true ∧ s.sec.req.isSome = true ∧ c = 8 ∨
    s.sec.sess.isSome = true ∧ s.sec.req = none ∧ reqInvalid s (reqBody s) = true ∧ c = 6) :
    submit s a nr = reqResult s c ∧ c < 16 := by
  unfold submit
  obtain ⟨hsess, rfl⟩ | ⟨hsess, hreq, rfl⟩ | ⟨hsess, hreq, hinvalid, rfl⟩ := h
  · simp [hsess]
  · have hnone : s.sec.sess.isNone = false := by rw [← Option.not_isSome, hsess]; rfl
    simp [hnone, hreq]
  · have hnone : s.sec.sess.isNone = false := by rw [← Option.not_isSome, hsess]; rfl
    simp [hnone, hreq, hinvalid]

/-! ### Writes of REQ_CTRL (R414) -/

section
variable {s : State} {a : Agent} {v : Word} (hawake : Awake s) (hacc : Accepts s a Reg.SEC.REQ_CTRL .cmd)
include hawake hacc

theorem reqSubmit_submits (nr : List Byte) (hsubmit : bit v 0 = true) (happrove : bit v 1 = false) (hwithdraw : bit v 2 = false) :
    exec (.reqSubmit a v nr) s = .next (touchSession s a (pageOf Reg.SEC.REQ_CTRL) (submit s a nr)) := by
  have heffect : writeReqCtrl s a v nr = submit s a nr := by
    simp only [writeReqCtrl, hsubmit, happrove, hwithdraw, Bool.false_eq_true, if_false, if_true]
  rw [← heffect]
  exact live_guarded hawake hacc

theorem reqApprove_verifies {r : Request} (hsubmit : bit v 0 = false) (happrove : bit v 1 = true) (hwithdraw : bit v 2 = false)
    (hreq : s.sec.req = some r) (hidle : r.busy = none) (hnew : (r.approvals.any fun e => e.1 == fld v 7 4) = false) :
    exec (.reqApprove a v) s = .next (touchSession s a (pageOf Reg.SEC.REQ_CTRL)
      { s with free := s.free + 32, sec := { s.sec with req := some { r with busy := some (fld v 7 4) } } }) := by
  have heffect : writeReqFree s a v =
      { s with free := s.free + 32, sec := { s.sec with req := some { r with busy := some (fld v 7 4) } } } := by
    simp only [writeReqFree, writeReqCtrl, approve, hsubmit, happrove, hwithdraw, hreq, hidle, hnew, Option.isSome_none,
      Bool.false_eq_true, if_false, if_true]
  rw [← heffect]
  exact live_guarded hawake hacc

/-- The state in which a withdrawal ends the request: a free nonce used up, RESULT 0. -/
def withdrawing (s : State) : State := reqResult { s with free := s.free + 32 } 0

theorem reqWithdraw_ends {r : Request} (hsubmit : bit v 0 = false) (happrove : bit v 1 = false) (hwithdraw : bit v 2 = true)
    (hsess : s.sec.sess.isSome = true) (hreq : s.sec.req = some r) :
    ∃ role, exec (.reqWithdraw a v) s =
      .next (touchSession s a (pageOf Reg.SEC.REQ_CTRL) (endRequest (withdrawing s) (agentCode a) role 1)) := by
  have hnone : s.sec.sess.isNone = false := by rw [← Option.not_isSome, hsess]; rfl
  have heffect : ∃ role, writeReqFree s a v = endRequest (withdrawing s) (agentCode a) role 1 := by
    simp only [writeReqFree, writeReqCtrl, withdrawReq, hsubmit, happrove, hwithdraw, hnone, hreq, Option.isNone_some,
      Bool.false_eq_true, if_false, if_true]
    exact ⟨_, rfl⟩
  obtain ⟨role, heffect⟩ := heffect
  exact ⟨role, heffect ▸ live_guarded hawake hacc⟩

end

/-- The end of a pending request: it is gone, and no register changes but the count of lost audit events. -/
theorem endRequest_leaves {s : State} {r : Request} (agent role reason : Nat) (hreq : s.sec.req = some r) :
    (endRequest s agent role reason).sec = { s.sec with req := none } ∧
      RegsExcept [Reg.AUD.LOST] s (endRequest s agent role reason) := by
  simp only [endRequest, hreq]
  refine ⟨by rw [raiseE_sec, audit_sec], ?_⟩
  have hbefore := (RegsExcept.refl [Reg.AUD.LOST] s).of_regs (u := { s with sec := { s.sec with req := none } }) rfl
  exact (RegsExcept.audit _ _ _ _ hbefore (by simp)).raiseE

/-! ### Approvals (R414) -/

section
variable {s : State} {r : Request} (hawake : Awake s) (hreq : s.sec.req = some r)
include hawake hreq

/-- A request after the verification of an approval by `slot`. -/
def afterApproval (s : State) (r : Request) (slot : Nat) : Request :=
  { r with
    busy := none
    approvals := if approvalVerdict s r.digest slot = 0 then r.approvals ++ [(slot, (keySlot s slot).role)] else r.approvals }

theorem approvalVerifyDone_records {slot : Nat} (hbusy : r.busy = some slot) : exec .approvalVerifyDone s =
    .next (approveRecord { s with sec := { s.sec with req := some (afterApproval s r slot) } } r.id slot
      (approvalVerdict s r.digest slot)) := by
  change execApprovalVerifyDone s = _
  simp only [execApprovalVerifyDone, hreq, hbusy, live_awake hawake, afterApproval]

theorem approvalVerifyDone_idle (hbusy : r.busy = none) : exec .approvalVerifyDone s = .next s := by
  change execApprovalVerifyDone s = _
  simp only [execApprovalVerifyDone, hreq, hbusy, live_awake hawake]

theorem reqTimeout_due : exec .reqTimeout s =
    .next (if overUs s r.since (1000000 * rdF s Reg.SEC.REQ_TMO 16 0) && !enoughApprovals s r then endRequest s 2 0 0 else s) := by
  change execReqTimeout s = _
  simp only [execReqTimeout, hreq, live_awake hawake]

end

theorem approvalVerdict_lt (s : State) (d : List Byte) (slot : Nat) : approvalVerdict s d slot < 16 := by
  unfold approvalVerdict
  dsimp only
  (repeat' split) <;> decide

theorem approveRecord_leaves (s : State) (id slot : Nat) {r : Nat} (hr : r < 16) :
    (approveRecord s id slot r).sec = s.sec ∧ rdF (approveRecord s id slot r) Reg.SEC.REQ_STATUS 7 4 = r := by
  refine ⟨audit_sec .., ?_⟩
  rw [approveRecord, rdF_congr _ _ (rd_audit _ _ _ _ _ _ (by decide)), (reqResult_shows s hr).1]

/-! ### Approved requests (R415) -/

theorem approved_short {s : State} {r : Request} (op : Nat) (hreq : s.sec.req = some r) (h : enoughApprovals s r = false) :
    approved s op = none := by
  simp only [approved, hreq, h, Bool.false_eq_true, and_false, if_false]

theorem approved_some {s : State} {r : Request} {op : Nat} (hreq : s.sec.req = some r) (hop : beAt r.body 0 1 = op)
    (h : enoughApprovals s r = true) : approved s op = some r := by
  simp only [approved, hreq, h, hop, and_self, if_true]

/-- What an applied request leaves: it is over, and besides only its record reaches the registers. -/
theorem applied_leaves (s : State) (r : Request) (arg : Nat) :
    (applied s r arg).sec = { s.sec with req := none } ∧ (applied s r arg).otp = s.otp ∧ (applied s r arg).nor = s.nor ∧
      RegsExcept [Reg.AUD.LOST] s (applied s r arg) := by
  have hbefore := (RegsExcept.refl [Reg.AUD.LOST] s).of_regs (u := { s with sec := { s.sec with req := none } }) rfl
  exact ⟨(raiseE_sec ..).trans (audit_sec ..), (raiseE_otp ..).trans (audit_keep ..).2.2.2.1, (raiseE_nor ..).trans (audit_nor ..),
    (RegsExcept.audit _ _ _ _ hbefore (by simp)).raiseE⟩

theorem measOf_extend_same (s : State) {m : Nat} (d : List Byte) (h : m < 8) : measOf (extend s m d) m = sha256 (measOf s m ++ d) := by
  rw [measOf, extend, List.getD_eq_getElem?_getD, List.getElem?_map, List.getElem?_range h]
  simp

/-- The measurements after a change of the configuration to `s`. -/
def configMeasured (s : State) : List (List Byte) := (extend s 4 (sha256 (cfgBlock s).bytes)).sec.meas

/-- The state with CFG_GEN one up. -/
def nextGen (s : State) : State := wr s Reg.SEC.CFG_GEN (w32 (rdN s Reg.SEC.CFG_GEN + 1))

/-- What a change of the configuration block leaves (R395, R423): CFG_GEN rises and the measurements are extended; both copies are
rewritten, or, where the NOR operation fails, stay. -/
theorem newConfig_leaves (s : State) (ok : Bool) : ∃ m, (newConfig s ok).sec = { s.sec with meas := m } ∧
    rd (newConfig s ok) Reg.SEC.CFG_GEN = w32 (rdN s Reg.SEC.CFG_GEN + 1) ∧
    (ok = false → (newConfig s ok).nor = s.nor ∧ rd (newConfig s ok) Reg.AUD.NOR_ERR = plusOne (rd s Reg.AUD.NOR_ERR)) ∧
    (ok = true → (newConfig s ok).nor = { s.nor with cfg0 := some (cfgBlock (nextGen s)), cfg1 := some (cfgBlock (nextGen s)) }) := by
  cases ok with
  | true => exact ⟨_, rfl, rd_wr_same .., nofun, fun _ => rfl⟩
  | false =>
    have heq : newConfig s false = extend (norFail (nextGen s)) 4 (sha256 (cfgBlock (nextGen s)).bytes) := rfl
    have hrd (b : Nat) : rd (newConfig s false) b = rd (norFail (nextGen s)) b := by rw [heq]; rfl
    refine ⟨(newConfig s false).sec.meas, ?_, ?_, fun _ => ⟨?_, ?_⟩, nofun⟩
    · have hsec : (norFail (nextGen s)).sec = s.sec := raiseE_sec ..
      rw [heq, extend, hsec]
    · rw [hrd, norFail, rd_raiseE, rd_bump_other _ (by decide), rd_wrB, if_neg (by decide), nextGen, rd_wr_same]
    · rw [heq, extend, norFail, raiseE_nor]
      rfl
    · rw [hrd, norFail, rd_raiseE, rd_bump_same, rd_wrB, if_neg (by decide), nextGen, rd_wr_other _ _ _ _ (by decide)]

/-- The rights map with the pages from `first` to `last` at a rights word. -/
def rightsSet (m : Store Nat) (first last word : Nat) : Store Nat :=
  (List.range (last + 1 - first)).foldl (fun m i => Store.set factoryRights m (first + i) word) m

theorem get_rightsSet (m : Store Nat) (first last word pg : Nat) : Store.get factoryRights (rightsSet m first last word) pg =
    if first ≤ pg ∧ pg ≤ last then word else Store.get factoryRights m pg := by
  have hnamed : pg ∈ (List.range (last + 1 - first)).map (first + ·) ↔ first ≤ pg ∧ pg ≤ last := by
    rw [List.mem_map]
    constructor
    · rintro ⟨i, hi, rfl⟩
      have := List.mem_range.mp hi
      omega
    · intro h
      exact ⟨pg - first, List.mem_range.mpr (by omega), by omega⟩
  have h := get_foldl_setEach factoryRights (fun _ => word) ((List.range (last + 1 - first)).map (first + ·)) m pg
  rw [List.foldl_map] at h
  rw [rightsSet, h]
  simp only [hnamed]

/-- The key slot that an ENROL writes. -/
def enrolled (s : State) (r : Request) : KeySlot :=
  if beAt r.body 2 1 = 0 then noKey 0
  else ⟨beAt r.body 2 1, nextSeq s % 2 ^ 32, bytesAt r.body 4 32, bytesAt r.body 36 24⟩

/-- The image key that a FWKEY leaves. -/
def programmedKey (s : State) (r : Request) : FwKey :=
  if beAt r.body 2 1 = 0 then ⟨bytesAt r.body 4 32, true, (fwKey s (beAt r.body 1 1)).revoked⟩
  else { fwKey s (beAt r.body 1 1) with revoked := true }

/-- An image key as a FWKEY leaves it. -/
def keyProgrammed (s : State) (r : Request) : State :=
  { s with otp := { s.otp with
      fwKeys := Store.set (fun _ => ⟨[], false, false⟩) s.otp.fwKeys (beAt r.body 1 1) (programmedKey s r) } }

theorem fwKey_keyProgrammed (s : State) (r : Request) : fwKey (keyProgrammed s r) (beAt r.body 1 1) = programmedKey s r ∧
    ∀ i, i ≠ beAt r.body 1 1 → fwKey (keyProgrammed s r) i = fwKey s i :=
  ⟨Store.get_set_same .., fun _ hi => Store.get_set_other _ _ _ _ _ hi⟩

/-- The new rights map in force, before the configuration block is rewritten. -/
def rightsRewritten (s : State) (r : Request) : State :=
  { s with sec := { s.sec with rights := rightsSet s.sec.rights (leAt r.body 4 2) (leAt r.body 6 2) (((beAt r.body 8 1) &&& 0x73) + 4) } }

/-- The new key table in force, before the configuration block is rewritten. -/
def keyRewritten (s : State) (r : Request) : State :=
  { s with sec := { s.sec with keys := Store.set noKey s.sec.keys (beAt r.body 1 1) (enrolled s r) } }

/-- An ENROL applied, before a session of a revoked slot closes. -/
def enrolApplied (s : State) (r : Request) (ok : Bool) : State :=
  applied (newConfig (keyRewritten s r) ok) r (rdN (newConfig (keyRewritten s r) ok) Reg.SEC.CFG_GEN)

section
variable {s : State} {r : Request} (hawake : Awake s)
include hawake

theorem approved_none_rests (hnone : ∀ op, approved s op = none) : (∀ ok, exec (.rights ok) s = .next s ∧ exec (.enrol ok) s = .next s) ∧
    exec .fwkey s = .next s ∧ exec .debug s = .next s ∧ exec .jump s = .next s := by
  refine ⟨fun ok => ⟨?_, ?_⟩, ?_, ?_, ?_⟩
  · change execRights s ok = _
    rw [execRights, hnone, live_awake hawake]
  · change execEnrol s ok = _
    rw [execEnrol, hnone, live_awake hawake]
  · change execFwkey s = _
    rw [execFwkey, hnone, live_awake hawake]
  · change execDebug s = _
    rw [execDebug, hnone, live_awake hawake]
  · change execJump s = _
    rw [execJump, hnone, live_awake hawake]

theorem rights_applies (ok : Bool) (h : approved s 1 = some r) : exec (.rights ok) s =
    .next (applied (newConfig (rightsRewritten s r) ok) r (rdN (newConfig (rightsRewritten s r) ok) Reg.SEC.CFG_GEN)) := by
  change execRights s ok = _
  rw [execRights, h, live_awake hawake]
  rfl

theorem enrol_applies (ok : Bool) (h : approved s 2 = some r) : exec (.enrol ok) s =
    .next (if beAt r.body 2 1 = 0 && sessSlot s == beAt r.body 1 1 then closeSession (enrolApplied s r ok) 2 0 4
      else enrolApplied s r ok) := by
  change execEnrol s ok = _
  rw [execEnrol, h, live_awake hawake]
  rfl

theorem fwkey_applies (h : approved s 3 = some r) :
    exec .fwkey s = .next (applied (keyProgrammed s r) r (beAt r.body 1 1)) := by
  change execFwkey s = _
  rw [execFwkey, h, live_awake hawake]
  rfl

/-- The TAP open at the level that a DEBUG names. -/
def tapOpened (s : State) (level : Nat) : State := wrF (wrB s Reg.SEC.SEC_STATUS 2 true) Reg.SEC.SEC_STATUS 4 3 level

theorem debug_applies (h : approved s 4 = some r) : exec .debug s =
    .next (applied (extend (tapOpened s (beAt r.body 1 1)) 7 (sha256 r.body)) r (beAt r.body 1 1)) := by
  change execDebug s = _
  rw [execDebug, h, live_awake hawake]
  rfl

theorem jump_applies (h : approved s 5 = some r) :
    exec .jump s = .next (applied (wr s Reg.TIM.JUMP_MAX (w32 (leAt r.body 4 4))) r (leAt r.body 4 4)) := by
  change execJump s = _
  rw [execJump, h, live_awake hawake]

end

theorem tapOpened_leaves (s : State) (level : Nat) : rdB (tapOpened s level) Reg.SEC.SEC_STATUS 2 = true ∧
    rdF (tapOpened s level) Reg.SEC.SEC_STATUS 4 3 = level % 4 ∧ RegsExcept [Reg.SEC.SEC_STATUS] s (tapOpened s level) := by
  refine ⟨?_, rdF_wrF_same _ _ _ (by decide) (by decide), ((RegsExcept.refl _ s).wr _ (by simp)).wr _ (by simp)⟩
  rw [rdB, tapOpened, wrF, rd_wr_same, bit_setFld_other _ _ _ _ _ (by decide) (by decide) (by decide), wrB, rd_wr_same,
    bit_setBit_same _ _ _ (by decide)]

/-- What an ENROL leaves of the trusted core's state: the slot's key, its measurements and no request. -/
theorem enrolApplied_leaves (s : State) (r : Request) (ok : Bool) : ∃ m, (enrolApplied s r ok).sec =
    { s.sec with keys := Store.set noKey s.sec.keys (beAt r.body 1 1) (enrolled s r), meas := m, req := none } := by
  obtain ⟨m, hsec, -⟩ := newConfig_leaves (keyRewritten s r) ok
  exact ⟨m, by rw [enrolApplied, (applied_leaves ..).1, hsec]; rfl⟩

/-! ### DEBUG_RELOCK (R415) -/

theorem debugRelock_closes {s : State} {a : Agent} {v : Word} (hawake : Awake s) (hacc : Accepts s a Reg.SEC.DEBUG_RELOCK .cmd)
    (hgo : bit v 0 = true) (hsess : s.sec.sess.isSome = true) :
    exec (.debugRelock a v) s = .next (touchSession s a (pageOf Reg.SEC.DEBUG_RELOCK)
      (audit (wrF s Reg.SEC.SEC_STATUS 4 2 0) 0x0F (agentCode a) (roleFor s a) [])) := by
  have hnone : s.sec.sess.isNone = false := by rw [← Option.not_isSome, hsess]; rfl
  have heffect : writeRelock s a v = audit (wrF s Reg.SEC.SEC_STATUS 4 2 0) 0x0F (agentCode a) (roleFor s a) [] := by
    simp only [writeRelock, hgo, hnone, Bool.not_true, Bool.false_eq_true, if_false]
  rw [← heffect]
  exact live_guarded hawake hacc

end Sys2Proof.Machine
end

section
open Sys2Proof Sys2Proof.Machine

/-- Settles O55: each write and each answer of the trusted core by its equation; an applied request by what its operation rewrites. -/
theorem requestsTakeTwo : Obligations.RequestsTakeTwo := by
  refine ⟨fun s a v nr hawake hacc => ⟨fun h0 h1 h2 => ⟨fun hsess hreq hvalid => ?_, fun c hc => ?_⟩,
    fun r h0 h1 h2 hreq hidle hnew => ?_, fun r h0 h1 h2 hsess hreq => ?_⟩,
    fun s r hawake hreq => ⟨fun slot hbusy => ?_, approvalVerifyDone_idle hawake hreq, fun hover hshort => ?_, fun hearly => ?_,
      fun hshort => approved_none_rests hawake fun op => approved_short op hreq hshort,
      fun henough => ⟨fun ok hop => ?_, fun ok hop => ?_, fun hop => ?_, fun hop => ?_, fun hop => ?_⟩⟩,
    fun s a v hawake hacc hgo hsess => ⟨_, debugRelock_closes hawake hacc hgo hsess, ?_, ?_⟩⟩
  · have hsec := submit_sec a nr hsess hreq hvalid
    refine ⟨_, newRequest s nr, reqSubmit_submits hawake hacc nr h0 h1 h2, by rw [touchSession_sec, hsec], rfl, rfl, rfl, rfl, ?_, ?_⟩
    · rw [touchSession_sec, hsec, newRequest]
    · rw [newRequest, newDigest]
  · obtain ⟨heq, hc⟩ := submit_refused a nr hc
    obtain ⟨hresult, hregs⟩ := reqResult_shows s hc
    refine ⟨_, reqSubmit_submits hawake hacc nr h0 h1 h2, ?_, ?_, ?_⟩ <;> rw [heq]
    · rw [touchSession_sec]
      rfl
    · rw [rdF_congr _ _ (rd_touchSession ..), hresult]
    · exact hregs.touchSession
  · refine ⟨_, reqApprove_verifies hawake hacc h0 h1 h2 hreq hidle hnew, ?_, touchSession_regs ..⟩
    rw [touchSession_sec]
  · obtain ⟨role, hexec⟩ := reqWithdraw_ends hawake hacc h0 h1 h2 hsess hreq
    obtain ⟨hsec, hregs⟩ := endRequest_leaves (s := withdrawing s) (agentCode a) role 1 hreq
    refine ⟨_, hexec, ?_, ?_⟩
    · rw [touchSession_sec, hsec]
    · rw [rdF_congr _ _ (rd_touchSession ..), rdF_congr _ _ (hregs _ (by decide)), withdrawing, (reqResult_shows _ (by decide)).1]
  · obtain ⟨hsec, hresult⟩ := approveRecord_leaves { s with sec := { s.sec with req := some (afterApproval s r slot) } } r.id slot
      (approvalVerdict_lt s r.digest slot)
    exact ⟨_, approvalVerifyDone_records hawake hreq hbusy, hresult, by rw [hsec]; rfl⟩
  · obtain ⟨hsec, hregs⟩ := endRequest_leaves 2 0 0 hreq
    exact ⟨_, by rw [reqTimeout_due hawake hreq, hover, hshort]; rfl, by rw [hsec], hregs⟩
  · rw [reqTimeout_due hawake hreq, hearly]
    rfl
  · obtain ⟨m, hsec, hgen, hfails, hwrites⟩ := newConfig_leaves (rightsRewritten s r) ok
    obtain ⟨happlied, -, hnor, hregs⟩ := applied_leaves (newConfig (rightsRewritten s r) ok) r
      (rdN (newConfig (rightsRewritten s r) ok) Reg.SEC.CFG_GEN)
    have hsec := happlied.trans (congrArg (fun x : SecSt => { x with req := none }) hsec)
    refine ⟨_, rights_applies hawake ok (approved_some hreq hop henough), by rw [hsec], fun hok => ?_, fun hok => ?_, ?_,
      by rw [hsec]; rfl, fun pg => ?_⟩
    · obtain ⟨hstay, hcount⟩ := hfails hok
      exact ⟨hnor.trans hstay, (hregs _ (by decide)).trans hcount⟩
    · refine ⟨_, hnor.trans (hwrites hok), ?_, by rw [hsec]; rfl, by rw [hsec]; rfl⟩
      rw [rdN, hregs _ (by decide), hgen, cfgBlock, nextGen, rdN, rd_wr_same]
    · exact (hregs _ (by decide)).trans hgen
    · rw [rightsWord, hsec]
      exact get_rightsSet ..
  · obtain ⟨m, hsec⟩ := enrolApplied_leaves s r ok
    have hleft (x : Option Session) (t : State) (ht : t.sec = { (enrolApplied s r ok).sec with sess := x }) :
        t.sec.req = none ∧ t.sec.rights = s.sec.rights ∧ keySlot t (beAt r.body 1 1) = enrolled s r ∧
          ∀ i, i ≠ beAt r.body 1 1 → keySlot t i = keySlot s i := by
      rw [hsec] at ht
      refine ⟨by rw [ht], by rw [ht], by rw [keySlot, ht]; exact Store.get_set_same .., fun i hi => ?_⟩
      rw [keySlot, ht]
      exact Store.get_set_other _ _ _ _ _ hi
    have hkey : (beAt r.body 2 1 ≠ 0 → (enrolled s r).seq = nextSeq s % 2 ^ 32) ∧ (enrolled s r).role = beAt r.body 2 1 ∧
        (beAt r.body 2 1 ≠ 0 → (enrolled s r).key = bytesAt r.body 4 32) := by
      unfold enrolled
      split
      · next hrole => exact ⟨fun h => absurd hrole h, hrole.symm, fun h => absurd hrole h⟩
      · exact ⟨fun _ => rfl, rfl, fun _ => rfl⟩
    obtain ⟨hseq, hrole, hbytes⟩ := hkey
    rw [enrol_applies hawake ok (approved_some hreq hop henough)]
    by_cases hmine : (beAt r.body 2 1 = 0 && sessSlot s == beAt r.body 1 1) = true
    · have hclosed := closeSession_sec (enrolApplied s r ok) 2 0 4
      obtain ⟨hgone, hrights, hself, hother⟩ := hleft _ _ hclosed
      rw [if_pos hmine]
      exact ⟨_, rfl, hgone, hrights, by rwa [hself], by rwa [hself], by rwa [hself], hother, fun _ _ => by rw [hclosed]⟩
    · obtain ⟨hgone, hrights, hself, hother⟩ := hleft _ (enrolApplied s r ok) rfl
      rw [if_neg hmine]
      refine ⟨_, rfl, hgone, hrights, by rwa [hself], by rwa [hself], by rwa [hself], hother, fun h h' => absurd ?_ hmine⟩
      rw [h, h']
      simp
  · obtain ⟨hsec, hotp, -⟩ := applied_leaves (keyProgrammed s r) r (beAt r.body 1 1)
    have hfw (i : Nat) : fwKey (applied (keyProgrammed s r) r (beAt r.body 1 1)) i = fwKey (keyProgrammed s r) i := by
      rw [fwKey, hotp, fwKey]
    obtain ⟨hself, hother⟩ := fwKey_keyProgrammed s r
    refine ⟨_, fwkey_applies hawake (approved_some hreq hop henough), by rw [hsec], fun h => ?_, fun h => ?_,
      fun i hi => (hfw i).trans (hother i hi)⟩
    · rw [hfw, hself, programmedKey, if_pos h]
      exact ⟨rfl, rfl⟩
    · rw [hfw, hself, programmedKey, if_neg h]
  · obtain ⟨hopen, hlevel, hregs⟩ := tapOpened_leaves s (beAt r.body 1 1)
    obtain ⟨hsec, -, -, happlied⟩ := applied_leaves (extend (tapOpened s (beAt r.body 1 1)) 7 (sha256 r.body)) r (beAt r.body 1 1)
    have hstatus := happlied Reg.SEC.SEC_STATUS (by decide)
    refine ⟨_, debug_applies hawake (approved_some hreq hop henough), by rw [hsec], ?_, ?_, ?_, ?_⟩
    · rw [rdB, hstatus]
      exact hopen
    · rw [rdF_congr _ _ hstatus]
      exact hlevel
    · rw [measOf, hsec]
      exact measOf_extend_same (tapOpened s (beAt r.body 1 1)) _ (by decide)
    · exact ((hregs.mono (by simp)).of_regs rfl).trans (happlied.mono (by simp))
  · obtain ⟨hsec, -, -, happlied⟩ := applied_leaves (wr s Reg.TIM.JUMP_MAX (w32 (leAt r.body 4 4))) r (leAt r.body 4 4)
    refine ⟨_, jump_applies hawake (approved_some hreq hop henough), by rw [hsec], (happlied _ (by decide)).trans (rd_wr_same ..), ?_⟩
    exact ((RegsExcept.refl _ s).wr _ (by simp)).trans (happlied.mono (by simp))
  · rw [rdF_congr _ _ (rd_touchSession ..), rdF_congr _ _ (rd_audit _ _ _ _ _ _ (by decide)), rdF_wrF_same _ _ _ (by decide) (by decide),
      Nat.zero_mod]
  · exact (RegsExcept.audit _ _ _ _ ((RegsExcept.refl _ s).wr _ (by simp)) (by simp)).touchSession

end

section
/-! SUPPORT. Reads of device memory that meet no error, boot (R398, R400, R420, R452), the audit log (R418), image update (R399) and
attestation (R401). -/

namespace Sys2Proof.Machine

/-! ### Reads of device memory (R455) -/

/-- What a read of device memory reaches: the counters of its stacks and their cause. -/
def NotedOnly (s t : State) : Prop := t = { s with regs := t.regs, par := t.par, icu := t.icu }

theorem notedOnly_readWord32 (s : State) (a : Nat) : NotedOnly s (readWord32 s a .ok).2 := by
  unfold readWord32
  simp only [show (Ecc.ok == Ecc.uncorrectable) = false from rfl, show (Ecc.ok == Ecc.corrected) = false from rfl, Bool.false_eq_true,
    if_false]
  split
  · rw [NotedOnly, raiseE_frame]
    rfl
  · rfl

theorem notedOnly_noteRead (s : State) (a n : Nat) : NotedOnly s (noteRead s a n) := by
  refine List.foldlRecOn (motive := NotedOnly s) _ _ (by rfl) fun t ht i _ => ?_
  have h := notedOnly_readWord32 t (a / 32 * 32 + 32 * i)
  rw [NotedOnly] at ht h ⊢
  rw [h, ht]

/-- A read that meets no error notes nothing. -/
theorem noteRead_clean {s : State} {a n : Nat} (h : memPoisoned s a n = false) : noteRead s a n = s := by
  rw [memPoisoned, List.any_eq_false] at h
  refine List.foldlRecOn (motive := fun t => t = s) _ _ rfl fun t ht i hi => ?_
  have hword : (a / 32 * 32 + 32 * i) / 32 = a / 32 + i := by omega
  rw [ht, readWord32_clean (by rw [hword]; simpa using h i hi)]

/-! ### Boot (R398, R400, R420) -/

/-- What a step of a boot leaves alone: the NOR device, the presets that the lanes have taken, BOOT_OK and the cores' state. -/
structure BootSteady (s t : State) : Prop where
  nor : t.nor = s.nor
  presets : t.rst.presets = s.rst.presets
  bootOk : rdB t Reg.SEC.SEC_STATUS 0 = rdB s Reg.SEC.SEC_STATUS 0
  cores : rd t Reg.MGT.CORE_STATUS = rd s Reg.MGT.CORE_STATUS

theorem BootSteady.refl (s : State) : BootSteady s s := ⟨rfl, rfl, rfl, rfl⟩

theorem BootSteady.trans {s t u : State} (h : BootSteady s t) (k : BootSteady t u) : BootSteady s u :=
  ⟨k.nor.trans h.nor, k.presets.trans h.presets, k.bootOk.trans h.bootOk, k.cores.trans h.cores⟩

theorem BootSteady.keep {s t u : State} (h : BootSteady s t) (hregs : u.regs = t.regs) (hnor : u.nor = t.nor)
    (hrst : u.rst = t.rst) : BootSteady s u :=
  h.trans ⟨hnor, by rw [hrst], by rw [rdB, rd, hregs, ← rd, ← rdB], by rw [rd, hregs, ← rd]⟩

theorem BootSteady.wr {s t : State} (h : BootSteady s t) {a : Nat} (v : Word) (hsec : Reg.SEC.SEC_STATUS ≠ a)
    (hmgt : Reg.MGT.CORE_STATUS ≠ a) : BootSteady s (wr t a v) :=
  h.trans ⟨rfl, rfl, by rw [rdB, rd_wr_other _ _ _ _ hsec, ← rdB], rd_wr_other _ _ _ _ hmgt⟩

theorem BootSteady.status {s t : State} (h : BootSteady s t) {b : Nat} (v : Bool) (hb : b < 32) (h0 : b ≠ 0) :
    BootSteady s (wrB t Reg.SEC.SEC_STATUS b v) :=
  h.trans ⟨rfl, rfl, by rw [rdB, rd_wrB, if_pos rfl, bit_setBit_other _ _ _ _ hb h0.symm, ← rdB], by rw [rd_wrB, if_neg (by decide)]⟩

theorem bootSteady_showLog (s : State) : BootSteady s (showLog s) := by
  have hhash {w : Nat} (hw : w ∈ List.range 8) : Reg.SEC.SEC_STATUS ≠ Reg.AUD.HEAD_HASH w ∧ Reg.MGT.CORE_STATUS ≠ Reg.AUD.HEAD_HASH w := by
    have := List.mem_range.mp hw
    unfold Reg.AUD.HEAD_HASH Reg.SEC.SEC_STATUS Reg.MGT.CORE_STATUS
    omega
  refine List.foldlRecOn (motive := BootSteady s) _ _ ?_ fun t ht w hw => ht.wr _ (hhash hw).1 (hhash hw).2
  refine BootSteady.wr (.wr (.wr (.wr (.refl s) _ ?_ ?_) _ ?_ ?_) _ ?_ ?_) _ ?_ ?_ <;> decide

/-- The log's head and the state of the anchor shown, before the configuration block is loaded (R420). -/
def anchorShown (s : State) (e w : Word) (fails safe full : Bool) : State :=
  wrB (wrB (wrB (wr (showLog (wr s Reg.AUD.EPOCH e)) Reg.AUD.AUD_STATUS w) Reg.SEC.SEC_STATUS 5 fails) Reg.SEC.SEC_STATUS 6 safe)
    Reg.SEC.SEC_STATUS 7 full

theorem bootSteady_anchorShown (s : State) (e w : Word) (fails safe full : Bool) : BootSteady s (anchorShown s e w fails safe full) := by
  have hshown : BootSteady s (showLog (wr s Reg.AUD.EPOCH e)) :=
    ((BootSteady.refl s).wr e (by decide) (by decide)).trans (bootSteady_showLog _)
  exact (((hshown.wr w (by decide) (by decide)).status fails (by decide) (by decide)).status safe (by decide) (by decide)).status full
    (by decide) (by decide)

theorem bootConfig_shape (s : State) : ∃ a o e w fails safe full x v, bootConfig s =
    wr { anchorShown { s with aud := a, otp := o } e w fails safe full with sec := x } Reg.SEC.CFG_GEN v := by
  unfold bootConfig
  dsimp only
  split <;> split <;> exact ⟨_, _, _, _, _, _, _, _, _, rfl⟩

theorem bootSteady_bootConfig (s : State) : BootSteady s (bootConfig s) := by
  obtain ⟨a, o, e, w, fails, safe, full, x, v, hshape⟩ := bootConfig_shape s
  have hbefore : BootSteady s { s with aud := a, otp := o } := ⟨rfl, rfl, rfl, rfl⟩
  have hshown := hbefore.trans (bootSteady_anchorShown _ e w fails safe full)
  rw [hshape]
  generalize anchorShown _ e w fails safe full = u at hshown
  exact (hshown.keep (u := { u with sec := x }) rfl rfl rfl).wr v (by decide) (by decide)

theorem BootSteady.secOnly {s t : State} (h : SecOnly s t) : BootSteady s t := by
  obtain ⟨x, rfl⟩ := h
  exact ⟨rfl, rfl, rfl, rfl⟩

theorem bootSteady_epochRecord (s : State) (slot svn : Nat) : BootSteady s (epochRecord s slot svn) := by
  have hrst : (epochRecord s slot svn).rst = s.rst := audit_rst ..
  refine ⟨audit_nor .., by rw [hrst], ?_, rd_audit _ _ _ _ _ _ (by decide)⟩
  rw [epochRecord, rdB, rd_audit _ _ _ _ _ _ (by decide), ← rdB]

theorem presets_bootBoard (s : State) :
    (bootBoard s).rst.presets = (takePresets s (boardOk s) (List.range 330)).rst.presets := by
  unfold bootBoard
  dsimp only
  generalize takePresets s (boardOk s) (List.range 330) = u
  split <;> rfl

/-- The board data step gives each lane its preset (R452). -/
theorem lanePreset_bootBoard (s : State) {l : Nat} (h : l < 330) : lanePreset (bootBoard s) l = boardPreset s (boardOk s) l := by
  rw [lanePreset, presets_bootBoard, takePresets, get_foldl_setEach, if_pos (List.mem_range.mpr h)]

/-- The board data step sets of SEC_STATUS only BOARD_OK. -/
theorem bootBoard_leaves (s : State) : (bootBoard s).nor = s.nor ∧
    rdB (bootBoard s) Reg.SEC.SEC_STATUS 0 = rdB s Reg.SEC.SEC_STATUS 0 ∧
    rd (bootBoard s) Reg.MGT.CORE_STATUS = rd s Reg.MGT.CORE_STATUS := by
  have htaken : (takePresets s (boardOk s) (List.range 330)).nor = s.nor ∧ (takePresets s (boardOk s) (List.range 330)).regs = s.regs :=
    ⟨rfl, rfl⟩
  unfold bootBoard
  dsimp only
  generalize takePresets s (boardOk s) (List.range 330) = u at htaken
  obtain ⟨hnor, hregs⟩ := htaken
  have hrd (a : Nat) : rd u a = rd s a := by rw [rd, hregs, ← rd]
  split <;>
    exact ⟨hnor, by rw [rdB, rd_wrB, if_pos rfl, bit_setBit_other _ _ _ _ (by decide) (by decide), rdB, ← hrd]; rfl,
      by rw [rd_wrB, if_neg (by decide), ← hrd]; rfl⟩

/-- A boot up to its measurements: the lanes have their presets, the image slots, BOOT_OK and the cores are as before. -/
theorem bootMeasured_leaves (s : State) : (bootMeasured s).nor = s.nor ∧
    (∀ l, l < 330 → lanePreset (bootMeasured s) l = boardPreset s (boardOk s) l) ∧
    rdB (bootMeasured s) Reg.SEC.SEC_STATUS 0 = rdB s Reg.SEC.SEC_STATUS 0 ∧
    rd (bootMeasured s) Reg.MGT.CORE_STATUS = rd s Reg.MGT.CORE_STATUS := by
  obtain ⟨x, -, hmeasured⟩ := bootMeasured_sec s
  obtain ⟨hnor, hok, hcores⟩ := bootBoard_leaves s
  obtain ⟨knor, kpresets, kok, kcores⟩ := (bootSteady_bootConfig (bootBoard s)).trans (.secOnly (t := bootMeasured s) ⟨x, hmeasured⟩)
  refine ⟨knor.trans hnor, fun l hl => ?_, kok.trans hok, kcores.trans hcores⟩
  rw [lanePreset, kpresets]
  exact lanePreset_bootBoard s hl

/-- Whether an image verifies rests on the image keys and the minimum version alone (R397). -/
theorem imageOk_congr {s t : State} (hkeys : t.otp.fwKeys = s.otp.fwKeys) (hsvn : t.otp.svnMin = s.otp.svnMin) (img : List Byte) :
    imageOk t img = imageOk s img := by
  simp only [imageOk, fwKey, hkeys, hsvn]

/-- The slot that boots is chosen among the preferred one and the other, as before the boot (R398). -/
theorem bootSlot_bootConfigured (s : State) : bootSlot (bootConfigured s) = bootSlot s := by
  have hnor : (bootConfigured s).nor = s.nor := (bootSteady_bootConfig (bootBoard s)).nor.trans (bootBoard_leaves s).1
  have hslot (i : Nat) : imageSlot (bootConfigured s) i = imageSlot s i := by rw [imageSlot, hnor, ← imageSlot]
  have hotp := bootConfigured_otp s
  have hok (img : List Byte) : imageOk (bootConfigured s) img = imageOk s img := imageOk_congr (by rw [hotp]) (by rw [hotp]) img
  simp only [bootSlot, hslot, hok, hnor]

theorem bootSlot_none {s : State} (ha : imageOk s s.nor.slotA = false) (hb : imageOk s s.nor.slotB = false) : bootSlot s = none := by
  have hslot (i : Nat) : imageOk s (imageSlot s i) = false := by
    unfold imageSlot
    split
    · exact hb
    · exact ha
  rw [bootSlot, List.find?_eq_none]
  intro i _
  rw [hslot]
  decide

theorem bootSlot_some {s : State} (hpref : s.nor.preferred < 2) (h : imageOk s s.nor.slotA = true ∨ imageOk s s.nor.slotB = true) :
    ∃ i, bootSlot s = some i := by
  rw [← Option.isSome_iff_exists, bootSlot, List.find?_isSome]
  obtain hzero | hone : s.nor.preferred = 0 ∨ s.nor.preferred = 1 := by omega
  · obtain h | h := h
    · exact ⟨0, by simp [hzero], h⟩
    · exact ⟨1, by simp [hzero], h⟩
  · obtain h | h := h
    · exact ⟨0, by simp [hone], h⟩
    · exact ⟨1, by simp [hone], h⟩

/-- One component of an image loaded. -/
def loadComponent (m : List Byte) (t : State) (c : Component) : State :=
  if c.type = 1 then
    { t with sec := { t.sec with sram := Store.setList memDefault t.sec.sram c.load ((c.data m).take (tcSramBytes - c.load)) } }
  else if c.type = 2 ∨ c.type = 3 then sramWrite t c.load (c.data m)
  else t

/-- A component's load leaves registers, NOR and resets alone. -/
theorem loadComponents_leaves (s : State) (m : List Byte) : (loadComponents s m).regs = s.regs ∧ (loadComponents s m).nor = s.nor ∧
    (loadComponents s m).rst = s.rst ∧ (loadComponents s m).sec.booted = s.sec.booted := by
  have hone (t : State) (c : Component) : (fun t : State => (t.regs, t.nor, t.rst, t.sec.booted)) (loadComponent m t c) =
      (t.regs, t.nor, t.rst, t.sec.booted) := by
    unfold loadComponent
    split
    · rfl
    · split <;> rfl
  have hloaded := foldl_keep (fun t : State => (t.regs, t.nor, t.rst, t.sec.booted)) (loadComponent m) hone (components m) s
  simp only [Prod.mk.injEq] at hloaded
  exact hloaded

theorem rdB_startCore (s : State) {j k : Nat} (hj : j < 4) (hk : k < 4) : rdB (startCore s j) Reg.MGT.CORE_STATUS k =
    if k = j then true else rdB s Reg.MGT.CORE_STATUS k := by
  have hrd : rd (startCore s j) Reg.MGT.CORE_STATUS = setBit (setBit (rd s Reg.MGT.CORE_STATUS) j true) (4 + j) false := by
    change rd (wrB (wrB s Reg.MGT.CORE_STATUS j true) Reg.MGT.CORE_STATUS (4 + j) false) Reg.MGT.CORE_STATUS = _
    rw [rd_wrB, if_pos rfl, rd_wrB, if_pos rfl]
  rw [rdB, hrd, bit_setBit_other _ _ _ _ (by omega) (by omega)]
  split
  · next hself => rw [hself, bit_setBit_same _ _ _ (by omega)]
  · next hother => rw [bit_setBit_other _ _ _ _ (by omega) hother, ← rdB]

theorem rdB_startCores (s : State) {k : Nat} (hk : k < 4) :
    rdB ((List.range 4).foldl startCore s) Reg.MGT.CORE_STATUS k = true := by
  have hrange {i : Nat} (hi : i ∈ List.range 4) : i < 4 := List.mem_range.mp hi
  refine foldl_own (f := startCore) (fun t => rdB t Reg.MGT.CORE_STATUS k) (P := fun _ => True) (Q := fun _ y => y = true) (i := k)
    (fun _ _ _ => trivial) (fun t _ => ?_) (fun t j hj _ hne => ?_) List.nodup_range (List.mem_range.mpr hk) trivial
  · rw [rdB_startCore t hk hk, if_pos rfl]
  · rw [rdB_startCore t (hrange hj) hk, if_neg hne.symm]

/-- The cores started one after another touch nothing of NOR, the resets and the trusted core. -/
theorem startCores_leaves (s : State) : ((List.range 4).foldl startCore s).nor = s.nor ∧
    ((List.range 4).foldl startCore s).rst = s.rst ∧ ((List.range 4).foldl startCore s).sec = s.sec := by
  have h := foldl_keep (fun t : State => (t.nor, t.rst, t.sec)) startCore (fun _ _ => rfl) (List.range 4) s
  simp only [Prod.mk.injEq] at h
  exact h

/-- The state in which an image's cores have started. -/
def imageStarted (s : State) (i : Nat) : State :=
  (List.range 4).foldl startCore
    (wr (loadComponents s (imageSlot s i)) Reg.MGT.WDT_MS (w32 (leAt (imageSlot s i) 0x18 4 % 65536)))

theorem imageStarted_leaves (s : State) (i : Nat) : (imageStarted s i).rst = s.rst ∧ (imageStarted s i).sec.booted = s.sec.booted ∧
    ∀ k, k < 4 → rdB (imageStarted s i) Reg.MGT.CORE_STATUS k = true := by
  obtain ⟨-, hrst, hsec⟩ := startCores_leaves
    (wr (loadComponents s (imageSlot s i)) Reg.MGT.WDT_MS (w32 (leAt (imageSlot s i) 0x18 4 % 65536)))
  obtain ⟨-, -, hloadRst, hloadSec⟩ := loadComponents_leaves s (imageSlot s i)
  rw [imageStarted, hrst, hsec, wr_rst, wr_sec]
  exact ⟨hloadRst, hloadSec, fun k hk => rdB_startCores _ hk⟩

theorem bootImage_shape (s : State) (i : Nat) : ∃ q, bootImage s i =
    { wrB (wrB (imageStarted s i) Reg.SEC.SEC_STATUS 0 true) Reg.SEC.SEC_STATUS 1 (i == 1) with otp := q } := by
  unfold bootImage imageStarted
  dsimp only
  generalize List.foldl startCore _ (List.range 4) = u
  split
  · exact ⟨_, rfl⟩
  · exact ⟨_, rfl⟩

/-- An image that boots shows BOOT_OK with its cores running (R398). -/
theorem bootImage_leaves (s : State) (i : Nat) : (bootImage s i).rst = s.rst ∧ (bootImage s i).sec.booted = s.sec.booted ∧
    rdB (bootImage s i) Reg.SEC.SEC_STATUS 0 = true ∧ ∀ k, k < 4 → rdB (bootImage s i) Reg.MGT.CORE_STATUS k = true := by
  obtain ⟨q, hq⟩ := bootImage_shape s i
  obtain ⟨hrst, hbooted, hcores⟩ := imageStarted_leaves s i
  rw [hq]
  generalize imageStarted s i = u at hrst hbooted hcores
  have hrd (a : Nat) : rd { wrB (wrB u Reg.SEC.SEC_STATUS 0 true) Reg.SEC.SEC_STATUS 1 (i == 1) with otp := q } a =
      rd (wrB (wrB u Reg.SEC.SEC_STATUS 0 true) Reg.SEC.SEC_STATUS 1 (i == 1)) a := rfl
  refine ⟨hrst, hbooted, ?_, fun k hk => ?_⟩
  · rw [rdB, hrd, rd_wrB, if_pos rfl, bit_setBit_other _ _ _ _ (by decide) (by decide), rd_wrB, if_pos rfl,
      bit_setBit_same _ _ _ (by decide)]
  · rw [rdB, hrd, rd_wrB, if_neg (by decide), rd_wrB, if_neg (by decide), ← rdB, hcores k hk]

/-- A boot's record is queued: what the boot made stays. -/
theorem epochRecord_leaves (s : State) (w : Word) (slot svn : Nat) : (epochRecord (wr s Reg.SEC.SVN w) slot svn).sec = s.sec ∧
    (epochRecord (wr s Reg.SEC.SVN w) slot svn).otp = s.otp ∧ BootSteady s (epochRecord (wr s Reg.SEC.SVN w) slot svn) :=
  ⟨audit_sec .., (epochRecord_keep ..).2.2.2.1,
    ((BootSteady.refl s).wr w (by decide) (by decide)).trans (bootSteady_epochRecord ..)⟩

theorem bootBare_leaves (s : State) : (bootBare s).sec.booted = (bootMeasured s).sec.booted ∧
    (bootBare s).otp.epoch = (bootMeasured s).otp.epoch ∧ (bootBare s).rst.presets = (bootMeasured s).rst.presets ∧
    rdB (bootBare s) Reg.SEC.SEC_STATUS 0 = rdB (bootMeasured s) Reg.SEC.SEC_STATUS 0 ∧
    rd (bootBare s) Reg.MGT.CORE_STATUS = rd (bootMeasured s) Reg.MGT.CORE_STATUS := by
  rw [bootBare]
  obtain ⟨hsec, hotp, hsteady⟩ := epochRecord_leaves (bootMeasured s) (w32 (256 * (bootMeasured s).otp.svnMin)) 0xFF 0
  exact ⟨congrArg SecSt.booted hsec, congrArg OtpSt.epoch hotp, hsteady.presets, hsteady.bootOk, hsteady.cores⟩

theorem bootFrom_leaves (s : State) (i : Nat) : (bootFrom s i).sec.booted = (bootMeasured s).sec.booted ∧
    (bootFrom s i).otp.epoch = (bootMeasured s).otp.epoch ∧ (bootFrom s i).rst.presets = (bootMeasured s).rst.presets ∧
    rdB (bootFrom s i) Reg.SEC.SEC_STATUS 0 = true ∧ ∀ k, k < 4 → rdB (bootFrom s i) Reg.MGT.CORE_STATUS k = true := by
  have hfrom : bootFrom s i = epochRecord (wr (bootImage (bootMeasured s) i) Reg.SEC.SVN
    (svnWord (bootImage (bootMeasured s) i) (imageSvn (imageSlot (bootMeasured s) i)))) i (imageSvn (imageSlot (bootMeasured s) i)) := rfl
  rw [hfrom]
  obtain ⟨hsec, hotp, hsteady⟩ := epochRecord_leaves (bootImage (bootMeasured s) i)
    (svnWord (bootImage (bootMeasured s) i) (imageSvn (imageSlot (bootMeasured s) i))) i (imageSvn (imageSlot (bootMeasured s) i))
  obtain ⟨hrst, hbooted, hok, hcores⟩ := bootImage_leaves (bootMeasured s) i
  have hepoch : (bootImage (bootMeasured s) i).otp.epoch = (bootMeasured s).otp.epoch := by
    obtain h | h := bootImage_otp (bootMeasured s) i <;> rw [h]
  refine ⟨(congrArg SecSt.booted hsec).trans hbooted, (congrArg OtpSt.epoch hotp).trans hepoch,
    hsteady.presets.trans (by rw [hrst]), hsteady.bootOk.trans hok, fun k hk => ?_⟩
  rw [rdB, hsteady.cores, ← rdB, hcores k hk]

/-! ### The audit log (R418) -/

/-- The hash of the record written next. -/
def nextHash (s : State) (r : AudRec) : List Byte :=
  sha256 ((if s.aud.next = 0 then firstHash else s.aud.head) ++ recordContent s.aud.next r)

/-- The log region as the next record finds it: at a sector's first record the oldest sector is erased. -/
def logErased (s : State) : Store (List Byte) :=
  if s.aud.next % 1024 = 0 then
    s.nor.log.filter fun e => !(decide (s.aud.next % logPlaces ≤ e.1) && decide (e.1 < s.aud.next % logPlaces + 1024))
  else s.nor.log

/-- The log region with the next record in its place. -/
def logExtended (s : State) (r : AudRec) : Store (List Byte) :=
  Store.set (fun _ => []) (logErased s) (s.aud.next % logPlaces) (recordContent s.aud.next r ++ nextHash s r)

theorem get_logExtended (s : State) (r : AudRec) :
    Store.get (fun _ => []) (logExtended s r) (s.aud.next % logPlaces) = recordContent s.aud.next r ++ nextHash s r :=
  Store.get_set_same ..

/-- The queue's first record written. -/
def recordWritten (s : State) (r : AudRec) (rest : List AudRec) : State :=
  { s with
    nor := { s.nor with log := logExtended s r }
    aud := { s.aud with queue := rest, next := s.aud.next + 1, head := nextHash s r } }

section
variable {s : State} {r : AudRec} {rest : List AudRec} (hawake : Awake s) (hqueue : s.aud.queue = r :: rest)
  (hbooted : s.sec.booted = true) (hsafe : safe s Page.AUD = false)
include hawake hqueue hbooted hsafe

theorem auditRecordWrite_writes :
    exec (.auditRecordWrite true) s = .next (showLog (wrB (recordWritten s r rest) Reg.AUD.AUD_STATUS 1 true)) := by
  change execAuditRecordWrite true s = _
  simp only [execAuditRecordWrite, hqueue, hbooted, hsafe, live_awake hawake, Bool.not_true, Bool.or_self, Bool.false_eq_true, if_false]
  rfl

theorem auditRecordWrite_fails : exec (.auditRecordWrite false) s = .next (norFail s) := by
  change execAuditRecordWrite false s = _
  simp only [execAuditRecordWrite, hqueue, hbooted, hsafe, live_awake hawake, Bool.not_true, Bool.not_false, Bool.or_self, Bool.false_eq_true,
    if_false, if_true]

end

theorem auditRecordWrite_idle {s : State} (ok : Bool) (hawake : Awake s) (hqueue : s.aud.queue = []) :
    exec (.auditRecordWrite ok) s = .next s := by
  change execAuditRecordWrite ok s = _
  simp only [execAuditRecordWrite, hqueue, live_awake hawake]

theorem regsOnly_showLog (s : State) : RegsOnly s (showLog s) := by
  refine List.foldlRecOn (motive := RegsOnly s) _ _ ?_ fun t ht w _ => ht.trans (regsOnly_wr ..)
  exact (((regsOnly_wr ..).trans (regsOnly_wr ..)).trans (regsOnly_wr ..)).trans (regsOnly_wr ..)

/-- A failed NOR operation is counted, and a cause; the copies in NOR and the audit queue stay (R423). -/
theorem norFail_leaves (s : State) : (norFail s).aud = s.aud ∧ (norFail s).nor = s.nor ∧ (norFail s).sec = s.sec ∧
    rd (norFail s) Reg.AUD.NOR_ERR = plusOne (rd s Reg.AUD.NOR_ERR) ∧
    RegsExcept [Reg.AUD.AUD_STATUS, Reg.AUD.NOR_ERR] s (norFail s) := by
  refine ⟨raiseE_aud .., raiseE_nor .., raiseE_sec .., ?_, ?_⟩
  · rw [norFail, rd_raiseE, rd_bump_same, rd_wrB, if_neg (by decide)]
  · exact (((RegsExcept.refl _ s).wr (a := Reg.AUD.AUD_STATUS) _ (by simp)).wr (a := Reg.AUD.NOR_ERR) _ (by simp)).raiseE

/-! ### Image update (R399) and attestation (R401) -/

section
variable {s : State} {a : Agent} {v : Word} (hawake : Awake s)
include hawake

/-- The address and length that UPD_CTRL takes. -/
def updateAsked (s : State) : Nat × Nat :=
  (rdF s Reg.SEC.UPD_ADDR_HI 4 0 * 2 ^ 32 + rdF s Reg.SEC.UPD_ADDR_LO 31 12 * 4096, rdF s Reg.SEC.UPD_LEN 23 0)

theorem imageUpdate_starts (hacc : Accepts s a Reg.SEC.UPD_CTRL .cmd) (hgo : bit v 0 = true) (hrole : 2 ≤ sessRole s)
    (hidle : s.sec.update = none) : exec (.imageUpdate a v) s =
      .next (touchSession s a (pageOf Reg.SEC.UPD_CTRL) { s with sec := { s.sec with update := some (updateAsked s) } }) := by
  have heffect : writeUpdCtrl s v = { s with sec := { s.sec with update := some (updateAsked s) } } := by
    simp only [writeUpdCtrl, hgo, hidle, Nat.not_lt.mpr hrole, Bool.not_true, Option.isSome_none, Bool.false_eq_true, if_false, updateAsked]
  rw [← heffect]
  exact live_guarded hawake hacc

theorem imageUpdate_refused (hacc : Accepts s a Reg.SEC.UPD_CTRL .cmd) (hgo : bit v 0 = true) (hrole : sessRole s < 2) :
    exec (.imageUpdate a v) s = .next (touchSession s a (pageOf Reg.SEC.UPD_CTRL) (updResult s 5)) := by
  have heffect : writeUpdCtrl s v = updResult s 5 := by
    simp only [writeUpdCtrl, hgo, hrole, Bool.not_true, Bool.false_eq_true, if_false, if_true]
  rw [← heffect]
  exact live_guarded hawake hacc

theorem attest_takes (hacc : Accepts s a Reg.SEC.ATTEST .cmd) (hgo : bit v 0 = true) (hidle : s.sec.attNonce = none) :
    exec (.attest a v) s = .next (touchSession s a (pageOf Reg.SEC.ATTEST)
      (wrB { s with sec := { s.sec with attNonce := some (winBytes s 0x2040 32) } } Reg.SEC.ATT_STATUS 1 false)) := by
  have heffect : writeAttest s v =
      wrB { s with sec := { s.sec with attNonce := some (winBytes s 0x2040 32) } } Reg.SEC.ATT_STATUS 1 false := by
    simp only [writeAttest, hgo, hidle, Option.isNone_none, Bool.and_self, if_true]
  rw [← heffect]
  exact live_guarded hawake hacc

/-- A report made, before its record is queued. -/
def reportMade (s : State) (n : List Byte) : State :=
  wrB { s with sec := { s.sec with attNonce := none, report := reportBody s n } } Reg.SEC.ATT_STATUS 1 true

theorem attestDone_reports {n : List Byte} (hnonce : s.sec.attNonce = some n) : exec .attestDone s =
    .next (raiseE (audit (reportMade s n) 0x0C 2 0 (List.replicate 4 0 ++ n.take 4)) Page.SEC 5) := by
  change execAttestDone s = _
  simp only [execAttestDone, hnonce, live_awake hawake, reportMade]

/-- An update over, its image read. -/
def updateRead (s : State) (addr len : Nat) : State := noteRead { s with sec := { s.sec with update := none } } addr len

/-- The image written to a slot, which is preferred from then on. -/
def slotWritten (n : NorSt) (i : Nat) (img : List Byte) : NorSt :=
  if i = 1 then { n with slotB := img, preferred := 1 } else { n with slotA := img, preferred := 0 }

/-- An update that ends well, before its record is queued. -/
def updateShown (s : State) (i : Nat) (img : List Byte) : State :=
  wrF (updResult { s with nor := slotWritten s.nor i img } 0) Reg.SEC.UPD_STATUS 8 8 i

variable {addr len : Nat} (hupdate : s.sec.update = some (addr, len))
include hupdate

theorem imageUpdateDone_fails (hbad : 0xC00000 < len ∨ inMem addr len = false ∨ imageOk s (memRead s addr len) = false) (ok : Bool) :
    exec (.imageUpdateDone ok) s = .next (updResult (updateRead s addr len) 9) := by
  have hotp : (updateRead s addr len).otp = s.otp := (noteRead_keep ..).2.2.2.1
  have hok : imageOk (updateRead s addr len) (memRead s addr len) = imageOk s (memRead s addr len) :=
    imageOk_congr (by rw [hotp]) (by rw [hotp]) _
  have hnot : ¬ (len ≤ 0xC00000 ∧ inMem addr len = true ∧ (!memPoisoned (updateRead s addr len) addr len) = true ∧
      imageOk (updateRead s addr len) (memRead s addr len) = true) := by
    rw [hok]
    rintro ⟨hlen, hin, -, himage⟩
    obtain h | h | h := hbad
    · omega
    · rw [hin] at h
      cases h
    · rw [himage] at h
      cases h
  change execImageUpdateDone s ok = _
  rw [execImageUpdateDone, hupdate, live_awake hawake]
  exact congrArg _ (if_neg hnot)

section
variable (hlen : len ≤ 0xC00000) (hin : inMem addr len = true) (hclean : memPoisoned s addr len = false)
  (hgood : imageOk s (memRead s addr len) = true)
include hlen hin hclean hgood

theorem imageUpdateDone_good (ok : Bool) : exec (.imageUpdateDone ok) s =
    .next (if ok = false then updResult (norFail { s with sec := { s.sec with update := none } }) 9
      else audit (updateShown { s with sec := { s.sec with update := none } } (updateSlot s) (memRead s addr len)) 0x0E 2 0
        [BitVec.ofNat 8 (updateSlot s), BitVec.ofNat 8 (imageSvn (memRead s addr len))]) := by
  have hread : noteRead { s with sec := { s.sec with update := none } } addr len = { s with sec := { s.sec with update := none } } :=
    noteRead_clean hclean
  have hpoison : memPoisoned { s with sec := { s.sec with update := none } } addr len = false := hclean
  have himage : imageOk { s with sec := { s.sec with update := none } } (memRead s addr len) = true :=
    (imageOk_congr rfl rfl _).trans hgood
  change execImageUpdateDone s ok = _
  simp only [execImageUpdateDone, hupdate, live_awake hawake, hread, hlen, hin, hpoison, himage, Bool.not_false, and_self, if_true]
  cases ok <;> rfl

end

end

theorem updateShown_leaves (s : State) (i : Nat) (img : List Byte) : (updateShown s i img).sec = s.sec ∧
    (updateShown s i img).nor = slotWritten s.nor i img ∧ rdF (updateShown s i img) Reg.SEC.UPD_STATUS 7 4 = 0 := by
  refine ⟨rfl, rfl, ?_⟩
  rw [updateShown, rdF, wrF, rd_wr_same, fld_setFld_other _ _ (by decide) (by decide) (by decide), updResult, wrF, rd_wr_same,
    fld_setFld_same _ _ _ _ (by decide) (by decide), Nat.zero_mod]

theorem updResult_shows (s : State) {r : Nat} (hr : r < 16) : rdF (updResult s r) Reg.SEC.UPD_STATUS 7 4 = r ∧
    RegsExcept [Reg.SEC.UPD_STATUS] s (updResult s r) :=
  ⟨(rdF_wrF_same _ _ _ (by decide) (by decide)).trans (Nat.mod_eq_of_lt hr), (RegsExcept.refl _ s).wr _ (by simp)⟩

end Sys2Proof.Machine
end

section
open Sys2Proof Sys2Proof.Machine

/-- Settles O56: the boot by its steps, the log, the update and the report each by the equation of its command. -/
theorem bootLogUpdateAttest : Obligations.BootLogUpdateAttest := by
  refine ⟨fun s hawake => ⟨execTcBoot_again, fun hcold => ?_, fun hqueue ok => auditRecordWrite_idle ok hawake hqueue,
    fun r rest hqueue hbooted hsafe => ⟨?_, ?_⟩⟩, fun s a v hawake => ⟨fun hacc hgo => ⟨fun hrole hidle => ?_, fun hrole => ?_⟩,
      fun hacc hgo hidle => ?_⟩, fun s hawake => ⟨fun addr len hupdate => ⟨fun ⟨hlen, hin, hclean, hgood⟩ => ⟨?_, ?_⟩, fun hbad ok => ?_⟩,
        fun n hnonce => ?_⟩⟩
  · obtain ⟨x, hx, hmeasured⟩ := bootMeasured_sec s
    have hbooted : (bootMeasured s).sec.booted = true := by rw [hmeasured]; exact hx
    have hepoch : (bootMeasured s).otp.epoch = min 16384 (s.otp.epoch + 1) := by rw [hmeasured]; exact congrArg OtpSt.epoch (bootConfigured_otp s)
    obtain ⟨-, hpresets, hstatus, hcores⟩ := bootMeasured_leaves s
    cases hslot : bootSlot (bootConfigured s) with
    | none =>
      have hexec : exec .tcBoot s = .next (bootBare s) := execTcBoot_bare hawake hcold hslot
      obtain ⟨kbooted, kepoch, kpresets, kstatus, kcores⟩ := bootBare_leaves s
      refine ⟨_, hexec, kbooted.trans hbooted, kepoch.trans hepoch, memoryFrames.1 _ _ _ rfl hexec, fun l hl => ?_,
        fun _ _ => ⟨kstatus.trans hstatus, fun k _ => ?_⟩, fun hpref hsome => ?_⟩
      · rw [lanePreset, kpresets]
        exact hpresets l hl
      · rw [running, rdB, kcores, hcores, ← rdB, ← running]
      · obtain ⟨i, hi⟩ := bootSlot_some hpref hsome
        rw [bootSlot_bootConfigured, hi] at hslot
        cases hslot
    | some i =>
      have hexec : exec .tcBoot s = .next (bootFrom s i) := execTcBoot_from hawake hcold hslot
      obtain ⟨kbooted, kepoch, kpresets, kstatus, kcores⟩ := bootFrom_leaves s i
      refine ⟨_, hexec, kbooted.trans hbooted, kepoch.trans hepoch, memoryFrames.1 _ _ _ rfl hexec, fun l hl => ?_,
        fun ha hb => ?_, fun _ _ => ⟨kstatus, fun k hk => ?_⟩⟩
      · rw [lanePreset, kpresets]
        exact hpresets l hl
      · rw [bootSlot_bootConfigured, bootSlot_none ha hb] at hslot
        cases hslot
      · rw [running, kcores k hk, decide_eq_true hk, Bool.and_self]
  · have hshown := regsOnly_showLog (wrB (recordWritten s r rest) Reg.AUD.AUD_STATUS 1 true)
    have hexec := auditRecordWrite_writes hawake hqueue hbooted hsafe
    refine ⟨_, hexec, ?_, ?_, ?_, ?_, ?_, memoryFrames.1 _ _ _ rfl hexec⟩
    · rw [hshown]; rfl
    · rw [hshown]; rfl
    · rw [hshown]; rfl
    · rw [hshown]; exact get_logExtended s r
    · rw [hshown]; rfl
  · obtain ⟨haud, hnor, -, hcount, hregs⟩ := norFail_leaves s
    exact ⟨_, auditRecordWrite_fails hawake hqueue hbooted hsafe, haud, hnor, hcount, hregs⟩
  · refine ⟨_, updateAsked s, imageUpdate_starts hawake hacc hgo hrole hidle, ?_, rfl, touchSession_regs ..⟩
    rw [touchSession_sec]
  · obtain ⟨hresult, hregs⟩ := updResult_shows s (r := 5) (by decide)
    refine ⟨_, imageUpdate_refused hawake hacc hgo hrole, ?_, ?_, hregs.touchSession⟩
    · rw [touchSession_sec]; rfl
    · rw [rdF_congr _ _ (rd_touchSession ..), hresult]
  · refine ⟨_, attest_takes hawake hacc hgo hidle, ?_, ?_, ?_⟩
    · rw [touchSession_sec]; rfl
    · rw [rdB, rd_touchSession, rd_wrB, if_pos rfl, bit_setBit_same _ _ _ (by decide)]
    · refine RegsExcept.touchSession ?_
      rw [wrB]
      exact ((RegsExcept.refl _ s).of_regs rfl).wr _ (by simp)
  · obtain ⟨-, hnor, hsec, hcount, -⟩ := norFail_leaves { s with sec := { s.sec with update := none } }
    obtain ⟨hresult, hregs⟩ := updResult_shows (norFail { s with sec := { s.sec with update := none } }) (r := 9) (by decide)
    have hexec := imageUpdateDone_good hawake hupdate hlen hin hclean hgood false
    refine ⟨_, hexec, ?_, hnor, hresult, ?_, memoryFrames.1 _ _ _ rfl hexec⟩
    · exact congrArg SecSt.update hsec
    · exact (hregs _ (by decide)).trans hcount
  · obtain ⟨hsec, hnor, hresult⟩ := updateShown_leaves { s with sec := { s.sec with update := none } } (updateSlot s) (memRead s addr len)
    have hexec := imageUpdateDone_good hawake hupdate hlen hin hclean hgood true
    rw [if_neg (by decide)] at hexec
    refine ⟨_, hexec, by rw [audit_sec, hsec], ?_, ?_, fun hslot => ?_, memoryFrames.1 _ _ _ rfl hexec⟩
    · rw [rdF_congr _ _ (rd_audit _ _ _ _ _ _ (by decide)), hresult]
    · rw [imageSlot, audit_nor, hnor, slotWritten]
      split <;> rfl
    · rw [audit_nor, hnor, slotWritten]
      split
      · next h => rw [h]
      · change 0 = updateSlot s
        omega
  · have hread := notedOnly_noteRead { s with sec := { s.sec with update := none } } addr len
    obtain ⟨hresult, -⟩ := updResult_shows (updateRead s addr len) (r := 9) (by decide)
    have hexec := imageUpdateDone_fails hawake hupdate hbad ok
    refine ⟨_, hexec, ?_, ?_, hresult, memoryFrames.1 _ _ _ rfl hexec⟩
    · rw [updResult, wrF, wr_sec, updateRead, hread]
    · rw [updResult, wrF, wr_nor, updateRead, hread]
  · refine ⟨_, attestDone_reports hawake hnonce, ?_, ?_, ?_, ?_⟩
    · rw [raiseE_sec, audit_sec]; rfl
    · rw [raiseE_sec, audit_sec]; rfl
    · rw [rdB, rd_raiseE, rd_audit _ _ _ _ _ _ (by decide), reportMade, rd_wrB, if_pos rfl, bit_setBit_same _ _ _ (by decide)]
    · have hmade := ((RegsExcept.refl [Reg.SEC.ATT_STATUS, Reg.AUD.LOST] s).of_regs
        (u := { s with sec := { s.sec with attNonce := none, report := reportBody s n } }) rfl).wr (a := Reg.SEC.ATT_STATUS)
        (setBit (rd s Reg.SEC.ATT_STATUS) 1 true) (by simp)
      exact (RegsExcept.audit _ _ _ _ hmade (by simp)).raiseE

end

section
/-! SUPPORT. Refused writes (R384, R385) and accesses through the indirect windows (R383). -/

namespace Sys2Proof.Machine

/-! ### Header registers -/

/-- A header register is none of a page's own. -/
theorem header_ne {pg off b : Nat} (hoff : off < 0x80) (hb : 0x80 ≤ b % 0x1000) : 0x1000 * pg + off ≠ b := by
  rintro rfl
  omega

theorem header_apart {pg off off' : Nat} (h : off ≠ off') : 0x1000 * pg + off ≠ 0x1000 * pg + off' := by omega

/-! ### Refused writes (R384, R385) -/

/-- The registers that note a refusal on a page. -/
def refusalCounted (s : State) (pg : Nat) : State := wrB (bump s (Reg.HDR.PAGE_LOCK_VIOL pg)) (Reg.HDR.PAGE_ERR pg) 1 true

/-- The arguments of WRITE_REFUSED. -/
def refusedArgs (s : State) (a : Agent) (addr : Nat) (v : Word) (cause : Nat) : List Byte :=
  leBytes 2 (pageOf addr) ++ leBytes 2 (addr % 0x1000) ++ leBytes 4 v.toNat ++
    [BitVec.ofNat 8 cause, BitVec.ofNat 8 (if a == .host then sessSlot s else 0xFF)]

theorem byteAt_refusedArgs (s : State) (a : Agent) (addr : Nat) (v : Word) (cause : Nat) :
    byteAt (padTo 12 (refusedArgs s a addr v cause)) 8 = BitVec.ofNat 8 cause := rfl

theorem refuseWrite_eq (s : State) (a : Agent) (addr : Nat) (v : Word) (cause : Nat) : refuseWrite s a addr v cause =
    audit (refusalCounted s (pageOf addr)) 0x02 (agentCode a) (if a == .host then sessRole s else 0)
      (refusedArgs s a addr v cause) := rfl

/-- With room in the queue and nothing lost a record joins it (R418). -/
theorem audit_queues {s : State} (kind agent role : Nat) (args : List Byte) (hroom : s.aud.queue.length < 256) (hnone : s.aud.lost = 0) :
    (audit s kind agent role args).aud.queue =
      s.aud.queue ++ [⟨kind, agent, role, padTo 12 args, (auditTime s).1, (auditTime s).2⟩] := by
  unfold audit
  dsimp only
  rw [if_pos hroom, if_pos hnone]

/-- What a refused write leaves: its count, its error bit, and its record (R384, R385). -/
theorem refuseWrite_leaves (s : State) (a : Agent) (addr : Nat) (v : Word) (cause : Nat) :
    refuseWrite s a addr v cause = { s with
      regs := (refuseWrite s a addr v cause).regs, par := (refuseWrite s a addr v cause).par
      aud := (refuseWrite s a addr v cause).aud, icu := (refuseWrite s a addr v cause).icu } ∧
    rd (refuseWrite s a addr v cause) (Reg.HDR.PAGE_LOCK_VIOL (pageOf addr)) =
      plusOne (rd s (Reg.HDR.PAGE_LOCK_VIOL (pageOf addr))) ∧
    rdB (refuseWrite s a addr v cause) (Reg.HDR.PAGE_ERR (pageOf addr)) 1 = true ∧
    RegsExcept [Reg.HDR.PAGE_LOCK_VIOL (pageOf addr), Reg.HDR.PAGE_ERR (pageOf addr), Reg.AUD.LOST] s (refuseWrite s a addr v cause) := by
  have hlost {off : Nat} (hoff : off < 0x80) : 0x1000 * pageOf addr + off ≠ Reg.AUD.LOST := header_ne hoff (by decide)
  refine ⟨?_, rd_refuseWrite_count s a addr v cause (hlost (by decide)), ?_, ?_⟩
  · have haudit := auditStep_audit (refusalCounted s (pageOf addr)) 0x02 (agentCode a) (if a == .host then sessRole s else 0)
      (refusedArgs s a addr v cause)
    rw [AuditStep, ← refuseWrite_eq] at haudit
    exact haudit
  · rw [refuseWrite_eq, rdB, rd_audit _ _ _ _ _ _ (hlost (by decide)), refusalCounted, rd_wrB, if_pos rfl,
      bit_setBit_same _ _ _ (by decide)]
  · rw [refuseWrite_eq]
    exact RegsExcept.audit _ _ _ _ (((RegsExcept.refl _ s).wr _ (by simp)).wr _ (by simp)) (by simp)

/-! ### The indirect windows (R383) -/

theorem indDataRead_walks {s : State} {a : Agent} {pg : Nat} {k : PageKind} {f i : Nat} (e : Ecc) (hawake : Awake s)
    (hpg : pageInfo pg = some (k, f, i)) : exec (.indDataRead a pg e) s =
      .next (indAdvance (answer (windowMeets s a k i (indOff s a pg) e).2 a (windowMeets s a k i (indOff s a pg) e).1) a pg) := by
  change execIndDataRead a pg e s = _
  rw [execIndDataRead, hpg, live_awake hawake]

theorem indDataWrite_guarded {s : State} {a : Agent} {pg : Nat} {k : PageKind} {f i : Nat} (v : Word) (hawake : Awake s)
    (hpg : pageInfo pg = some (k, f, i)) :
    exec (.indDataWrite a pg v) s = .next (indGuarded s a pg v (windowWrite s a k i (indOff s a pg) v)) := by
  change execIndDataWrite a pg v s = _
  rw [execIndDataWrite, hpg, live_awake hawake]

theorem indAddr_congr {s t : State} (h : t.ptrs = s.ptrs) (a : Agent) (pg : Nat) : indAddr t a pg = indAddr s a pg := by
  rw [indAddr, h, indAddr]

/-- An advance of a pointer in a state with the same pointers as `s`. -/
theorem indAdvance_from {s t : State} (a : Agent) {pg : Nat} (hpg : pg < 0x1000) (h : t.ptrs = s.ptrs) :
    indAddr (indAdvance t a pg) a pg = (indAddr s a pg + indStride s a pg) % 2 ^ 32 ∧
      ∀ b q, q < 0x1000 → (b ≠ a ∨ q ≠ pg) → indAddr (indAdvance t a pg) b q = indAddr s b q := by
  have hstride : indStride t a pg = indStride s a pg := by rw [indStride, h, indStride]
  refine ⟨by rw [indAdvance_same, indAddr_congr h, hstride], fun b q hq hother => ?_⟩
  rw [indAdvance_other t a b pg q hpg hq hother, indAddr_congr h]

end Sys2Proof.Machine
end

section
open Sys2Proof Sys2Proof.Machine

/-- Settles O9: the write goes through lock CFG, where a refusal is refuseWrite. -/
theorem refusedWriteRecorded : Obligations.RefusedWriteRecorded := by
  intro s a addr v k i r hawake hmsix h4 hoff hpg hrow hacc hown
  have hbody : exec (.registerWrite a addr v) s = .next (writeBody s a addr v) := by
    rw [← writeReg_body hmsix h4 hoff hpg]
    exact live_awake hawake
  have hexec (hnot : (!rstBusy s (pageOf addr) && (writeRefusal s a (pageOf addr) .cfg).isNone) = false) :
      exec (.registerWrite a addr v) s = .next (guarded s a addr v .cfg (acceptReg s k i r addr v)) := by
    rw [hbody]
    simp only [writeBody, hrow, hown, hacc]
    rw [if_neg]
    intro hjump
    rw [Bool.and_assoc, hnot, Bool.and_false] at hjump
    cases hjump
  refine ⟨fun c hrefused => ?_, fun hbusy => ?_⟩
  · have hcause : writeRefusal s a (pageOf addr) .cfg = some c := hrefused.2
    obtain ⟨hframe, hcount, herr, hregs⟩ := refuseWrite_leaves s a addr v c
    refine ⟨_, ?_, hframe, hcount, herr, hregs, fun hroom hnone => ?_⟩
    · rw [hexec (by rw [hcause, Option.isNone_some, Bool.and_false]), guarded_refused hrefused]
    · rw [refuseWrite_eq]
      exact ⟨_, audit_queues _ _ _ _ hroom hnone, rfl, rfl, byteAt_refusedArgs ..⟩
  · rw [hexec (by rw [hbusy]; rfl), guarded_busy hbusy]

/-- Settles O12: no window moves a pointer, so the accessing agent's advances from where it stood. -/
theorem indirectWindowWalks : Obligations.IndirectWindowWalks := by
  intro s a pg k f i hawake hpg hinfo
  refine ⟨fun e => ?_, fun v hfree => ?_, fun v hbusy => ?_⟩
  · obtain ⟨hself, hother⟩ := indAdvance_from (s := s)
      (t := answer (windowMeets s a k i (indOff s a pg) e).2 a (windowMeets s a k i (indOff s a pg) e).1) a hpg
      (windowMeets_ptrs ..)
    exact ⟨_, indDataRead_walks e hawake hinfo, answer_word .., hself, hother⟩
  · have hpage : pageOf (Reg.HDR.IND_DATA pg) = pg := pageOf_header _ _ (by decide)
    have hwalk : indGuarded s a pg v (windowWrite s a k i (indOff s a pg) v) =
        indAdvance (guarded s a (Reg.HDR.IND_DATA pg) v .ind (windowWrite s a k i (indOff s a pg) v)) a pg := by
      rw [indGuarded, hfree, if_neg (by decide)]
    have heffect : (guarded s a (Reg.HDR.IND_DATA pg) v .ind (windowWrite s a k i (indOff s a pg) v)).ptrs = s.ptrs := by
      unfold guarded
      split
      · rfl
      · split
        · exact refuseWrite_ptrs ..
        · rw [touchSession_ptrs, windowWrite_ptrs]
    obtain ⟨hself, hother⟩ := indAdvance_from a hpg heffect
    refine ⟨_, by rw [indDataWrite_guarded v hawake hinfo, hwalk], hself, hother, fun haccept => ?_, fun c hrefuse => ?_⟩
    · rw [guarded_accepted ⟨by rw [hpage, hfree], by rw [hpage, haccept]⟩, hpage]
    · rw [guarded_refused (c := c) ⟨by rw [hpage, hfree], by rw [hpage, hrefuse]⟩]
  · rw [indDataWrite_guarded v hawake hinfo, indGuarded, hbusy, if_pos rfl]

end

section
/-! SUPPORT. What stopping the blitter and the DMA channels writes of the registers (R334, R340, R342, R346), and what a page's safe
action leaves of its header (R388). -/

namespace Sys2Proof.Machine

theorem RegsExcept.bump64 {l : List Nat} {s t : State} {lo hi : Nat} (h : RegsExcept l s t) (n : Nat) (hlo : lo ∈ l) (hhi : hi ∈ l) :
    RegsExcept l s (bump64 t lo hi n) := (h.wr _ hlo).wr _ hhi

/-! ### Streams that end (R340) -/

/-- A stream that ends is noted with those that it met, in the channels and the blitter alone. -/
theorem endStream_frame (s : State) (ch : Nat) (l : List Shape) :
    endStream s ch l = { s with dma := (endStream s ch l).dma, blt := (endStream s ch l).blt } := by
  suffices h : ∃ d b, endStream s ch l = { s with dma := d, blt := b } by
    obtain ⟨d, b, h⟩ := h
    rw [h]
  unfold endStream
  extract_lets note t
  have ht : ∃ d, t = { s with dma := d } := by
    refine List.foldlRecOn (motive := fun t => ∃ d, t = { s with dma := d }) (List.range 16) note (b := s) ⟨s.dma, rfl⟩
      fun t ⟨d, ht⟩ c _ => ?_
    subst ht
    unfold note
    dsimp only
    split
    · exact ⟨Store.set _ d c _, rfl⟩
    · exact ⟨d, rfl⟩
  obtain ⟨d, ht⟩ := ht
  rw [ht]
  split
  · exact ⟨_, _, rfl⟩
  · exact ⟨_, _, rfl⟩

theorem endStream_regs (s : State) (ch : Nat) (l : List Shape) : (endStream s ch l).regs = s.regs := by rw [endStream_frame]

theorem leaveStream_frame (s : State) (ch : Nat) :
    leaveStream s ch = { s with dma := (leaveStream s ch).dma, blt := (leaveStream s ch).blt } := by
  unfold leaveStream
  split
  · exact endStream_frame ..
  · rfl

theorem leaveStream_regs (s : State) (ch : Nat) : (leaveStream s ch).regs = s.regs := by rw [leaveStream_frame]

/-! ### The blitter -/

theorem writePart_regs (s : State) (o : BltOp) (n : Nat) :
    RegsExcept [Reg.BLT.BYTES_LO, Reg.BLT.BYTES_HI] s (writePart s o n) :=
  ((RegsExcept.refl _ s).of_regs rfl).bump64 _ (by simp) (by simp)

theorem runRows_regs (n : Nat) (s : State) (o : BltOp) :
    RegsExcept [Reg.BLT.BYTES_LO, Reg.BLT.BYTES_HI] s (runRows n s o).1 := by
  induction n generalizing s o with
  | zero => exact .refl _ s
  | succ n ih =>
    unfold runRows
    split
    · exact .refl _ s
    · exact (writePart_regs s o _).trans (ih _ _)

/-- The registers that a running operation writes as it goes on and as it stops (R334). -/
def bltRegs : List Nat := [Reg.BLT.STATUS, Reg.BLT.BYTES_LO, Reg.BLT.BYTES_HI]

theorem advanceBlt_regs (s : State) (o : BltOp) (rows : Nat) : RegsExcept bltRegs s (advanceBlt s o rows).1 := by
  have hrows : RegsExcept bltRegs s (runRows (rows - o.rows) s o).1 := (runRows_regs _ _ _).mono (by simp [bltRegs])
  exact (hrows.of_regs rfl).wr _ (by simp [bltRegs])

theorem stopBlt_regs (s : State) (o : BltOp) (rows bytes : Nat) : RegsExcept bltRegs s (stopBlt s o rows bytes).1 := by
  have hended (t : State) (q : BltOp) (ht : RegsExcept bltRegs s t) :
      RegsExcept bltRegs s (wrB (endBlt t q) Reg.BLT.STATUS 0 false) :=
    (ht.of_regs (endStream_regs { t with blt := none } 16 q.shapes)).wr _ (by simp [bltRegs])
  have hrows := advanceBlt_regs s o (done s rows)
  unfold stopBlt
  dsimp only
  refine hended _ _ ?_
  split
  · exact hrows.trans ((writePart_regs _ _ _).mono (by simp [bltRegs]))
  · exact hrows

theorem abortBlt_regs (s : State) (rows bytes : Nat) : RegsExcept (Reg.BLT.ERR :: bltRegs) s (abortBlt s rows bytes) := by
  unfold abortBlt
  split
  · exact ((stopBlt_regs _ _ _ _).mono (by simp)).wr _ (by simp)
  · exact .refl _ s

/-! ### DMA channels -/

theorem devWrite_regs (s : State) (a : Nat) (bs : List Byte) : (devWrite s a bs).regs = s.regs := by
  unfold devWrite
  split
  · rfl
  · split <;> rfl

theorem writeStream_regs (d : DmaDesc) (n : Nat) (s : State) (i : Nat) (bs : List Byte) : (writeStream d n s i bs).regs = s.regs := by
  induction n generalizing s i bs with
  | zero => rfl
  | succ n ih =>
    unfold writeStream
    split
    · rfl
    · exact (ih ..).trans (devWrite_regs ..)

/-- The registers that a channel writes as it moves and as it drains (R342, R346). -/
def dmaRegs (ch : Nat) : List Nat :=
  [Reg.DC.STATUS ch, Reg.DC.RESIDUAL ch, Reg.DC.BYTES_LO ch, Reg.DC.BYTES_HI ch, Reg.DMA.BYTES_LO, Reg.DMA.BYTES_HI]

/-- Where a stream stands once a command has brought it on. -/
def moveEnd (s : State) (ch : Nat) (d : DmaDesc) (upto : Nat) : Nat :=
  max (dmaCh s ch).moved (min (min (done s upto) d.total) (d.reach s))

/-- The bytes that a stream moves on. -/
def moveBytes (s : State) (ch : Nat) (d : DmaDesc) (upto : Nat) (hd : List Byte) : List Byte :=
  streamBytes s ch d (dmaCh s ch).moved (moveEnd s ch d upto) hd

/-- A stream's bytes written. -/
def streamMoved (s : State) (ch : Nat) (d : DmaDesc) (upto : Nat) (hd : List Byte) : State :=
  writeStream d (d.dLines + 1) { s with free := s.free + (moveBytes s ch d upto hd).length } (dmaCh s ch).moved
    (moveBytes s ch d upto hd)

/-- A stream's bytes counted on its channel and on the DMA page. -/
def streamCounted (s : State) (ch : Nat) (d : DmaDesc) (upto : Nat) (hd : List Byte) : State :=
  bump64 (bump64 (streamMoved s ch d upto hd) (Reg.DC.BYTES_LO ch) (Reg.DC.BYTES_HI ch) (moveBytes s ch d upto hd).length)
    Reg.DMA.BYTES_LO Reg.DMA.BYTES_HI (moveBytes s ch d upto hd).length

theorem moveTo_eq (s : State) (ch : Nat) (d : DmaDesc) (upto : Nat) (hd : List Byte) : moveTo s ch d upto hd =
    wr (setDma (streamCounted s ch d upto hd) ch { dmaCh (streamCounted s ch d upto hd) ch with moved := moveEnd s ch d upto })
      (Reg.DC.RESIDUAL ch) (w32 (min 0xFFFFFF (d.total - moveEnd s ch d upto))) := rfl

theorem moveTo_regs (s : State) (ch : Nat) (d : DmaDesc) (upto : Nat) (hd : List Byte) :
    RegsExcept (dmaRegs ch) s (moveTo s ch d upto hd) := by
  have hstream : RegsExcept (dmaRegs ch) s (streamMoved s ch d upto hd) :=
    (RegsExcept.refl _ s).of_regs (writeStream_regs d (d.dLines + 1) _ _ _)
  have hcounted : RegsExcept (dmaRegs ch) s (streamCounted s ch d upto hd) :=
    (hstream.bump64 _ (by simp [dmaRegs]) (by simp [dmaRegs])).bump64 _ (by simp [dmaRegs]) (by simp [dmaRegs])
  rw [moveTo_eq]
  generalize streamCounted s ch d upto hd = t at hcounted
  exact (hcounted.of_regs (setDma_regs ..)).wr _ (by simp [dmaRegs])

theorem drain_regs (s : State) (ch : Nat) (error : Bool) : RegsExcept [Reg.DC.STATUS ch] s (drain s ch error) := by
  have hleft := (RegsExcept.refl [Reg.DC.STATUS ch] s).of_regs (leaveStream_regs s ch)
  exact (hleft.wr _ (by simp)).of_regs rfl

theorem abortRun_regs (s : State) (ch moved : Nat) (hd : List Byte) : RegsExcept (dmaRegs ch) s (abortRun s ch moved hd) := by
  have hdrain (t : State) (ht : RegsExcept (dmaRegs ch) s t) : RegsExcept (dmaRegs ch) s (drain t ch false) :=
    ht.trans ((drain_regs t ch false).mono (by simp [dmaRegs]))
  unfold abortRun
  dsimp only
  split
  · exact .refl _ s
  · refine hdrain _ ?_
    split
    · exact moveTo_regs _ _ _ _ _
    · exact .refl _ s

/-! ### Headers under a safe action (R388) -/

/-- Every header register holds what it held. -/
def HeaderKept (s t : State) : Prop := ∀ a, a % 0x1000 < 0x80 → rd t a = rd s a

theorem HeaderKept.refl (s : State) : HeaderKept s s := fun _ _ => rfl

theorem HeaderKept.trans {s t u : State} (h : HeaderKept s t) (k : HeaderKept t u) : HeaderKept s u :=
  fun a ha => (k a ha).trans (h a ha)

theorem RegsExcept.headerKept {l : List Nat} {s t : State} (h : RegsExcept l s t) (hl : ∀ a ∈ l, 0x80 ≤ a % 0x1000) :
    HeaderKept s t := fun a ha => h a fun hmem => absurd (hl a hmem) (by omega)

theorem headerKept_of_regs {s t : State} (h : t.regs = s.regs) : HeaderKept s t := fun a _ => by rw [rd, h, rd]

theorem headerKept_stopChannel (s : State) (ch : Nat) : HeaderKept s (stopChannel s ch) := by
  refine (abortRun_regs s ch (dmaCh s ch).moved []).headerKept fun a ha => ?_
  simp only [dmaRegs, List.mem_cons, List.not_mem_nil, or_false] at ha
  obtain rfl | rfl | rfl | rfl | rfl | rfl := ha <;>
    simp only [Reg.DC.STATUS, Reg.DC.RESIDUAL, Reg.DC.BYTES_LO, Reg.DC.BYTES_HI, Reg.DMA.BYTES_LO, Reg.DMA.BYTES_HI] <;> omega

theorem holdSafe_regs (s : State) (pg : Nat) : (holdSafe s pg).regs = s.regs := by
  unfold holdSafe
  split
  · rfl
  · split
    · exact foldl_keep State.regs (fun s n => setSafe s (safeKey pg n) true) (fun _ _ => rfl) _ s
    · rfl

theorem headerKept_safeOnset (s : State) (pg : Nat) : HeaderKept s (safeOnset s pg) := by
  have hheld : HeaderKept s (holdSafe s pg) := headerKept_of_regs (holdSafe_regs s pg)
  unfold safeOnset
  dsimp only
  split
  · exact hheld.trans (headerKept_of_regs rfl)
  · exact hheld.trans (headerKept_of_regs (by rw [dropBuild_frame]))
  · exact hheld.trans (((RegsExcept.refl _ _).wr _ (List.mem_singleton_self Reg.TIM.SYNC_STATE)).headerKept (by decide))
  · exact hheld.trans ((abortBlt_regs _ 0 0).headerKept (by decide))
  · exact List.foldlRecOn (motive := HeaderKept s) _ _ hheld fun t ht c _ => ht.trans (headerKept_stopChannel t c)
  · exact hheld.trans (headerKept_stopChannel _ _)
  · exact hheld

end Sys2Proof.Machine
end

section
/-! SUPPORT. Partial accesses and parity (R379, R386, R387), PAGE_LOCK (R385), PAGE_CTRL and soft reset (R389, R390). -/

namespace Sys2Proof.Machine

/-! ### Partial accesses (R379) -/

/-- A partial access noted on its page and in GBL. -/
def accessNoted (s : State) (pg : Nat) : State := bump (wrB s (Reg.HDR.PAGE_ERR pg) 2 true) Reg.GBL.ACCESS_ERR

theorem accessNoted_leaves (s : State) (pg : Nat) : rdB (accessNoted s pg) (Reg.HDR.PAGE_ERR pg) 2 = true ∧
    rd (accessNoted s pg) Reg.GBL.ACCESS_ERR = plusOne (rd s Reg.GBL.ACCESS_ERR) ∧
    RegsExcept [Reg.HDR.PAGE_ERR pg, Reg.GBL.ACCESS_ERR] s (accessNoted s pg) := by
  have hne : Reg.HDR.PAGE_ERR pg ≠ Reg.GBL.ACCESS_ERR := header_ne (by decide) (by decide)
  refine ⟨?_, ?_, ((RegsExcept.refl _ s).wr (a := Reg.HDR.PAGE_ERR pg) _ (by simp)).wr (a := Reg.GBL.ACCESS_ERR) _ (by simp)⟩
  · rw [rdB, accessNoted, rd_bump_other _ hne, rd_wrB, if_pos rfl, bit_setBit_same _ _ _ (by decide)]
  · rw [accessNoted, rd_bump_same, rd_wrB, if_neg hne.symm]

theorem partialAccess_notes {s : State} (a : Agent) {addr : Nat} (write : Bool) (hawake : Awake s)
    (hpg : (pageInfo (pageOf addr)).isSome = true) :
    exec (.partialAccess a addr write) s = .next (accessNoted (if write then s else answer s a 0) (pageOf addr)) := by
  change execPartialAccess a addr write s = _
  rw [execPartialAccess, live_awake hawake]
  exact congrArg _ (if_pos hpg)

/-! ### Parity (R386, R387) -/

theorem parityCovers_off {pg off : Nat} (h : parityCovers pg off = true) : off ≠ 0x14 ∧ off ≠ 0x2C := by
  unfold parityCovers at h
  split at h
  · cases h
  · constructor <;> (rintro rfl; simp at h)

/-- A covered register with the upset in it. -/
def upset (s : State) (pg off : Nat) : State :=
  let t := wr { s with free := s.free + 1 } (0x1000 * pg + off)
    (rd s (0x1000 * pg + off) ^^^ (Config.freeWord s.free &&& upsetMask pg off))
  { t with par := { t.par with bad := Store.set noB t.par.bad (0x1000 * pg + off) true } }

/-- A mismatch noted, and the page's safe action in force (R387, R388). -/
def mismatched (s : State) (pg off : Nat) : State :=
  let t := recordParity (upset s pg off) pg off
  if safe s pg then t else safeOnset t pg

theorem parityMismatch_notes {s : State} {pg off : Nat} (hawake : Awake s) (hcovers : parityCovers pg off = true)
    (hgood : Store.get noB s.par.bad (0x1000 * pg + off) = false) : exec (.parityMismatch pg off) s =
      .next (if pg = Page.SEC ∨ pg = Page.AUD then audit (mismatched s pg off) 0x10 2 0 (leBytes 2 pg ++ leBytes 2 off)
        else mismatched s pg off) := by
  change execParityMismatch pg off s = _
  simp only [execParityMismatch, hcovers, hgood, Bool.not_false, Bool.and_self, if_true, live_awake hawake]
  rfl

theorem parityMismatch_rests {s : State} {pg off : Nat} (hawake : Awake s)
    (h : parityCovers pg off = false ∨ Store.get noB s.par.bad (0x1000 * pg + off) = true) :
    exec (.parityMismatch pg off) s = .next s := by
  have hnot : (parityCovers pg off && !Store.get noB s.par.bad (0x1000 * pg + off)) = false := by
    obtain h | h := h <;> simp [h]
  change execParityMismatch pg off s = _
  simp only [execParityMismatch, hnot, Bool.false_eq_true, if_false, live_awake hawake]

theorem rd_upset (s : State) (pg off b : Nat) : rd (upset s pg off) b = if b = 0x1000 * pg + off then
    rd s (0x1000 * pg + off) ^^^ (Config.freeWord s.free &&& upsetMask pg off) else rd s b :=
  rd_wr { s with free := s.free + 1 } (0x1000 * pg + off) _ b

theorem bad_upset (s : State) (pg off : Nat) : Store.get noB (upset s pg off).par.bad (0x1000 * pg + off) = true := by
  exact Store.get_set_same noB (wr { s with free := s.free + 1 } (0x1000 * pg + off)
    (rd s (0x1000 * pg + off) ^^^ (Config.freeWord s.free &&& upsetMask pg off))).par.bad (0x1000 * pg + off) true

/-- The record of a mismatch: PARITY set, the offset kept or noted (R387). -/
theorem recordParity_leaves (s : State) {pg off : Nat} (hoff : off < 0x1000) :
    RegsOnly s (recordParity s pg off) ∧
    rdB (recordParity s pg off) (Reg.HDR.PAGE_ERR pg) 0 = true ∧
    rdB (recordParity s pg off) (Reg.HDR.PAGE_PAR_ADDR pg) 31 = true ∧
    (bit (rd s (Reg.HDR.PAGE_PAR_ADDR pg)) 31 = true →
      rd (recordParity s pg off) (Reg.HDR.PAGE_PAR_ADDR pg) = rd s (Reg.HDR.PAGE_PAR_ADDR pg)) ∧
    (bit (rd s (Reg.HDR.PAGE_PAR_ADDR pg)) 31 = false →
      rd (recordParity s pg off) (Reg.HDR.PAGE_PAR_ADDR pg) = w32 (2 ^ 31 + off)) ∧
    RegsExcept [Reg.HDR.PAGE_ERR pg, Reg.HDR.PAGE_PAR_ADDR pg] s (recordParity s pg off) := by
  have hne : Reg.HDR.PAGE_PAR_ADDR pg ≠ Reg.HDR.PAGE_ERR pg := header_apart (by decide)
  have hvalid : bit (w32 (2 ^ 31 + off)) 31 = true := by
    rw [bit, toNat_w32 (by omega), Nat.testBit_two_pow_add_eq, Nat.testBit_lt_two_pow (by omega)]
    rfl
  unfold recordParity
  dsimp only
  cases hheld : rdB s (Reg.HDR.PAGE_PAR_ADDR pg) 31 with
  | true =>
    rw [if_pos rfl]
    refine ⟨regsOnly_wr .., ?_, ?_, fun _ => ?_, fun h => ?_, (RegsExcept.refl _ s).wr _ (by simp)⟩
    · rw [rdB, rd_wrB, if_pos rfl, bit_setBit_same _ _ _ (by decide)]
    · rw [rdB, rd_wrB, if_neg hne, ← rdB, hheld]
    · rw [rd_wrB, if_neg hne]
    · rw [← rdB, hheld] at h
      cases h
  | false =>
    rw [if_neg (by decide)]
    refine ⟨(regsOnly_wr ..).trans (regsOnly_wr ..), ?_, ?_, fun h => ?_, fun _ => ?_,
      ((RegsExcept.refl _ s).wr _ (by simp)).wr _ (by simp)⟩
    · rw [rdB, rd_wrB, if_pos rfl, bit_setBit_same _ _ _ (by decide)]
    · rw [rdB, rd_wrB, if_neg hne, rd_wr_same, hvalid]
    · rw [← rdB, hheld] at h
      cases h
    · rw [rd_wrB, if_neg hne, rd_wr_same]

/-- PARITY and the record of a mismatch's place stand in the header. -/
theorem HeaderKept.parity {s t : State} (h : HeaderKept s t) (pg : Nat) :
    rdB t (Reg.HDR.PAGE_ERR pg) 0 = rdB s (Reg.HDR.PAGE_ERR pg) 0 ∧
      rdB t (Reg.HDR.PAGE_PAR_ADDR pg) 31 = rdB s (Reg.HDR.PAGE_PAR_ADDR pg) 31 := by
  have hheader {off : Nat} (hoff : off < 0x80) : rd t (0x1000 * pg + off) = rd s (0x1000 * pg + off) := h _ (by omega)
  exact ⟨congrArg (bit · 0) (hheader (by decide)), congrArg (bit · 31) (hheader (by decide))⟩

/-- A mismatch keeps PARITY and the record of its place, whatever the page's safe action does. -/
theorem mismatched_header (s : State) {pg off : Nat} (hoff : off < 0x1000) :
    rdB (mismatched s pg off) (Reg.HDR.PAGE_ERR pg) 0 = true ∧ rdB (mismatched s pg off) (Reg.HDR.PAGE_PAR_ADDR pg) 31 = true := by
  obtain ⟨-, herr, hplace, -⟩ := recordParity_leaves (upset s pg off) (pg := pg) hoff
  have hkept : HeaderKept (recordParity (upset s pg off) pg off) (mismatched s pg off) := by
    unfold mismatched
    dsimp only
    split
    · exact .refl _
    · exact headerKept_safeOnset _ _
  obtain ⟨kerr, kplace⟩ := hkept.parity pg
  exact ⟨kerr.trans herr, kplace.trans hplace⟩

theorem safe_of_parity {s : State} {pg : Nat} (hacts : noSafeAction pg = false) (h : rdB s (Reg.HDR.PAGE_ERR pg) 0 = true) :
    safe s pg = true := by
  rw [safe, hacts, safeCause, h]
  rfl

/-- Where the page has no safe action, its onset does nothing (R388). -/
theorem safeOnset_none (s : State) {pg : Nat} (h : noSafeAction pg = true) : safeOnset s pg = s := by
  have hpg : pg = Page.GBL ∨ pg = Page.TLG ∨ pg = Page.TWN ∨ pg = Page.MGT := by simpa [noSafeAction] using h
  have hheld : holdSafe s pg = s := by rw [holdSafe, h, Bool.or_true, if_pos rfl]
  unfold safeOnset
  rw [hheld]
  obtain rfl | rfl | rfl | rfl := hpg <;> rfl

/-- On a page without a safe action, or in it already, a mismatch is the upset and its record alone. -/
theorem mismatched_upset (s : State) {pg off : Nat} (h : safe s pg = true ∨ noSafeAction pg = true) :
    mismatched s pg off = recordParity (upset s pg off) pg off := by
  unfold mismatched
  dsimp only
  split
  · rfl
  · next hcalm => exact safeOnset_none _ (h.resolve_left hcalm)

/-- The record of a mismatch leaves the mark of the register itself. -/
theorem bad_recordParity (s : State) {pg off b : Nat} (herr : b ≠ Reg.HDR.PAGE_ERR pg) (hplace : b ≠ Reg.HDR.PAGE_PAR_ADDR pg) :
    Store.get noB (recordParity s pg off).par.bad b = Store.get noB s.par.bad b := by
  unfold recordParity
  dsimp only
  split
  · exact Store.get_erase_other _ _ _ _ herr
  · exact (Store.get_erase_other _ _ _ _ herr).trans (Store.get_erase_other _ _ _ _ hplace)

/-! ### PAGE_LOCK (R385) -/

theorem audit_once (s : State) (kind agent role : Nat) (args : List Byte) : (audit s kind agent role args).par.once = s.par.once := by
  have hlose (u : State) : (audit.lose u).par.once = u.par.once := by
    rw [audit.lose, raiseE_par]
    rfl
  unfold audit
  dsimp only
  split
  · split
    · rfl
    · split
      · rfl
      · rw [hlose]
  · rw [hlose]

/-- PAGE_LOCK taken, before its record is queued. -/
def lockTaken (s : State) (pg : Nat) (v : Word) : State :=
  let t := wr s (Reg.HDR.PAGE_LOCK pg) (v &&& 0xF)
  { t with par := { t.par with once := Store.set noB t.par.once pg true } }

section
variable {s : State} {a : Agent} {pg : Nat} (v : Word) (hawake : Awake s) (hpg : (pageInfo pg).isSome = true)
  (hfree : rstBusy s pg = false) (hrights : rightsRefusal s a pg = none)
include hawake hpg hfree hrights

theorem pageLockWrite_takes (honce : Store.get noB s.par.once pg = false)
    (hgood : Store.get noB s.par.bad (Reg.HDR.PAGE_LOCK pg) = false) : exec (.pageLockWrite a pg v) s =
      .next (touchSession s a pg (audit (lockTaken s pg v) 0x03 (agentCode a) (roleFor s a)
        (leBytes 2 pg ++ [0, 0] ++ leBytes 4 (v &&& 0xF).toNat))) := by
  have hlisted : (pageInfo pg).isNone = false := by rw [← Option.not_isSome, hpg]; rfl
  change execPageLockWrite a pg v s = _
  rw [execPageLockWrite, live_awake hawake]
  simp only [writePageLock, hfree, hlisted, hrights, honce, hgood, Bool.or_self, Bool.false_eq_true, if_false]
  rfl

theorem pageLockWrite_refused (honce : Store.get noB s.par.once pg = true) :
    exec (.pageLockWrite a pg v) s = .next (refuseWrite s a (Reg.HDR.PAGE_LOCK pg) v 3) := by
  have hlisted : (pageInfo pg).isNone = false := by rw [← Option.not_isSome, hpg]; rfl
  change execPageLockWrite a pg v s = _
  rw [execPageLockWrite, live_awake hawake]
  simp only [writePageLock, hfree, hlisted, hrights, honce, Bool.or_self, Bool.true_or, Bool.false_eq_true, if_false, if_true]

end

/-! ### PAGE_CTRL (R389) -/

/-- An accepted write of PAGE_CTRL, whichever of its three rows it is. -/
theorem pageCtrl_accepted {s : State} {a : Agent} {pg : Nat} {v : Word} {c : Instr} (hawake : Awake s)
    (hpg : (pageInfo pg).isSome = true) (hacc : Accepts s a (Reg.HDR.PAGE_CTRL pg) .hdr)
    (hc : c = .pageEnable a pg v ∨ c = .pageDisable a pg v ∨ c = .pageSoftReset a pg v) :
    exec c s = .next (touchSession s a pg (writePageCtrl s pg v)) := by
  have hlisted : (pageInfo pg).isNone = false := by rw [← Option.not_isSome, hpg]; rfl
  have hexec : exec c s = live s (pageCtrl s a pg v) := by obtain rfl | rfl | rfl := hc <;> rfl
  rw [hexec, pageCtrl, hlisted, if_neg (by decide), live_guarded hawake hacc, pageOf_header _ _ (by decide)]

theorem writePageCtrl_enables {s : State} {pg : Nat} {v : Word} (hen : bit v 0 = true) (hrst : bit v 1 = false) :
    writePageCtrl s pg v = wr s (Reg.HDR.PAGE_CTRL pg) (v &&& 1) := by
  simp only [writePageCtrl, hen, hrst, Bool.true_or, Bool.false_and, if_true, Bool.false_eq_true, if_false]

theorem writePageCtrl_disables {s : State} {pg : Nat} {v : Word} (hen : bit v 0 = false) (hrst : bit v 1 = false) :
    writePageCtrl s pg v = if safe s pg then wr s (Reg.HDR.PAGE_CTRL pg) (v &&& 1)
      else safeOnset (wr s (Reg.HDR.PAGE_CTRL pg) (v &&& 1)) pg := by
  simp only [writePageCtrl, hen, hrst, Bool.false_or, Bool.false_and, Bool.false_eq_true, if_false]

theorem safe_disabled (s : State) {pg : Nat} {v : Word} (hen : bit v 0 = false) (hacts : noSafeAction pg = false) :
    safe (wr s (Reg.HDR.PAGE_CTRL pg) (v &&& 1)) pg = true := by
  have hoff : rdB (wr s (Reg.HDR.PAGE_CTRL pg) (v &&& 1)) (Reg.HDR.PAGE_CTRL pg) 0 = false := by
    rw [rdB, rd_wr_same, bit, BitVec.toNat_and, Nat.testBit_and, ← bit, hen, Bool.false_and]
  rw [safe, hacts, safeCause, hoff, Bool.not_false, Bool.or_true]
  rfl

/-! ### Soft reset (R390) -/

theorem get_filter {α : Type} (d : Nat → α) (p : Nat → Bool) (m : Store α) (k : Nat) :
    Store.get d (m.filter fun e => !p e.1) k = if p k then d k else Store.get d m k := by
  induction m with
  | nil => simp [Store.get]
  | cons e m ih =>
    obtain ⟨j, w⟩ := e
    by_cases hj : p j = true
    · rw [List.filter_cons_of_neg (by simp [hj]), ih]
      by_cases hk : k = j
      · simp [hk, hj]
      · simp [Store.get, Ne.symm hk]
    · rw [List.filter_cons_of_pos (by simpa using hj)]
      by_cases hk : j = k
      · subst hk
        simp [Store.get, hj]
      · simp [Store.get, hk, ih]

/-- The page's registers, pointers and mismatches at reset, and the page busy, before its block's own state returns to reset. -/
def pageCleared (s : State) (pg : Nat) : State :=
  { s with
    regs := s.regs.filter fun e => !softResets pg e.1
    ptrs := s.ptrs.filter fun e => e.1 % 4096 != pg
    par := { s.par with
      bad := s.par.bad.filter fun e => !softResets pg e.1
      busy := Store.set noB s.par.busy pg true } }

theorem softReset_listed {s : State} {pg : Nat} {k : PageKind} {f i : Nat} (h : pageInfo pg = some (k, f, i)) :
    softReset s pg = settleParity (resetBlock (pageCleared s pg) k i) pg := by
  simp only [softReset, h]
  rfl

theorem rd_pageCleared (s : State) (pg a : Nat) : rd (pageCleared s pg) a = if softResets pg a then resetWord a else rd s a :=
  get_filter resetWord (softResets pg) s.regs a

/-- The tile ports are the pages from 0x100 on. -/
theorem pageInfo_tp {pg f i : Nat} (h : pageInfo pg = some (.tp, f, i)) : pg = 0x100 + i ∧ i < 256 := by
  obtain ⟨d, hd, heq⟩ := Option.map_eq_some_iff.mp h
  have hmem := List.mem_of_find?_eq_some hd
  have hin := List.find?_some hd
  simp only [Prod.mk.injEq] at heq
  obtain ⟨hk, hf, hi⟩ := heq
  have hlisted : ∀ e ∈ pageDirectory, e.1 = .tp → e = (.tp, 0x100, 256) := by decide
  have htp := hlisted d hmem hk
  subst htp
  simp at hin hi
  omega

theorem setSdi_leaves (s : State) (i : Nat) (carrier lock : Bool) (lines : Nat) :
    (setSdi s i carrier lock lines).regs = s.regs ∧ (setSdi s i carrier lock lines).par = s.par := by
  have hdrop (u : State) (st : Nat) : (dropUnwritten u st).regs = u.regs ∧ (dropUnwritten u st).par = u.par :=
    ⟨foldl_keep State.regs (fun s (f : FencePend) => freeBuf s st f.buf) (fun _ _ => rfl) _ _,
      foldl_keep State.par (fun s (f : FencePend) => freeBuf s st f.buf) (fun _ _ => rfl) _ _⟩
  have habandon (u : State) (st : Nat) : (abandonFrames u st).par = u.par :=
    abandonFrames_leaves State.par (fun _ _ => rfl) (fun _ _ _ => rfl) u
  unfold setSdi
  dsimp only
  split
  · split
    · exact ⟨((hdrop _ _).1.trans (abandonFrames_regs ..)).trans (raiseE_regs ..), ((hdrop _ _).2.trans (habandon ..)).trans (raiseE_par ..)⟩
    · exact ⟨raiseE_regs .., raiseE_par ..⟩
  · exact ⟨rfl, rfl⟩

/-- The block's own reset reaches no register but a tile port's FAR_OK bit, and no page's busy mark. -/
theorem resetBlock_leaves (s : State) (k : PageKind) (i : Nat) :
    RegsExcept (if k = .tp then [Reg.TLG.FAR_OK (i / 32)] else []) s (resetBlock s k i) ∧ (resetBlock s k i).par.busy = s.par.busy := by
  cases k with
  | sd =>
    obtain ⟨hregs, hpar⟩ := setSdi_leaves s i false false 0
    exact ⟨(RegsExcept.refl _ s).of_regs hregs, congrArg ParSt.busy hpar⟩
  | tp => exact ⟨((RegsExcept.refl _ s).of_regs rfl).wr _ (by simp), rfl⟩
  | blt =>
    cases hblt : s.blt with
    | some o =>
      have heq : resetBlock s .blt i = endBlt s o := by simp only [resetBlock, hblt]
      rw [heq]
      exact ⟨(RegsExcept.refl _ s).of_regs (endStream_regs { s with blt := none } 16 o.shapes), by rw [endBlt, endStream_frame]⟩
    | none =>
      have heq : resetBlock s .blt i = s := by simp only [resetBlock, hblt]
      rw [heq]
      exact ⟨.refl _ s, rfl⟩
  | dc => exact ⟨(RegsExcept.refl _ s).of_regs (leaveStream_regs s i), by rw [resetBlock, setDma_par, leaveStream_frame]⟩
  | _ => exact ⟨.refl _ s, rfl⟩

/-- Judging a page's mismatches anew reaches PAGE_ERR and PAGE_PAR_ADDR (R387). -/
theorem settleParity_leaves (s : State) (pg : Nat) : RegsExcept [Reg.HDR.PAGE_ERR pg, Reg.HDR.PAGE_PAR_ADDR pg] s (settleParity s pg) ∧
    (settleParity s pg).par.busy = s.par.busy := by
  have hrecord (u : State) (off : Nat) : RegsExcept [Reg.HDR.PAGE_ERR pg, Reg.HDR.PAGE_PAR_ADDR pg] u (recordParity u pg off) ∧
      (recordParity u pg off).par.busy = u.par.busy := by
    unfold recordParity
    dsimp only
    split
    · exact ⟨(RegsExcept.refl _ u).wr _ (by simp), rfl⟩
    · exact ⟨((RegsExcept.refl _ u).wr _ (by simp)).wr _ (by simp), rfl⟩
  have hcleared : RegsExcept [Reg.HDR.PAGE_ERR pg, Reg.HDR.PAGE_PAR_ADDR pg] s (wr s (Reg.HDR.PAGE_PAR_ADDR pg) 0) :=
    (RegsExcept.refl _ s).wr _ (by simp)
  unfold settleParity
  split
  · exact ⟨.refl _ s, rfl⟩
  · dsimp only
    split
    · exact ⟨hcleared.trans (hrecord _ _).1, (hrecord _ _).2⟩
    · exact ⟨hcleared, rfl⟩

/-- A soft reset returns the page's registers and PAGE_IRQ_EN to their reset values and makes the page busy (R390). -/
theorem softReset_leaves (s : State) {pg : Nat} (hpg : (pageInfo pg).isSome = true) : rstBusy (softReset s pg) pg = true ∧
    (∀ off, 0x80 ≤ off → off < 0x1000 → rd (softReset s pg) (0x1000 * pg + off) = resetWord (0x1000 * pg + off)) ∧
    rd (softReset s pg) (Reg.HDR.PAGE_IRQ_EN pg) = 0x80000000 := by
  obtain ⟨⟨k, f, i⟩, hinfo⟩ := Option.isSome_iff_exists.mp hpg
  obtain ⟨hparity, kbusy⟩ := settleParity_leaves (resetBlock (pageCleared s pg) k i) pg
  obtain ⟨hblock, hbusy⟩ := resetBlock_leaves (pageCleared s pg) k i
  rw [softReset_listed hinfo]
  have hreset (off : Nat) (hoff : off < 0x1000) (hown : 0x80 ≤ off ∨ off = 0x1C) :
      rd (settleParity (resetBlock (pageCleared s pg) k i) pg) (0x1000 * pg + off) = resetWord (0x1000 * pg + off) := by
    have hmod : (0x1000 * pg + off) % 0x1000 = off := by omega
    have hclears : softResets pg (0x1000 * pg + off) = true := by
      rw [softResets, pageOf_header _ _ hoff, hmod]
      obtain h | h := hown <;> simp [h]
    have hfar : 0x1000 * pg + off ∉ (if k = .tp then [Reg.TLG.FAR_OK (i / 32)] else []) := by
      split
      · next hk =>
        obtain ⟨htp, hi⟩ := pageInfo_tp (hk ▸ hinfo)
        simp only [List.mem_singleton, Reg.TLG.FAR_OK]
        omega
      · exact List.not_mem_nil
    rw [hparity _ (by simp only [List.mem_cons, List.not_mem_nil, or_false, Reg.HDR.PAGE_ERR, Reg.HDR.PAGE_PAR_ADDR]; omega),
      hblock _ hfar, rd_pageCleared, if_pos hclears]
  refine ⟨?_, fun off hlow hoff => hreset off hoff (.inl hlow), ?_⟩
  · rw [rstBusy, kbusy, hbusy]
    exact Store.get_set_same noB s.par.busy pg true
  · rw [hreset 0x1C (by decide) (.inr rfl), resetWord_header hpg (by decide)]
    rfl

theorem softReset_leaves_of_write {s : State} {pg : Nat} {v : Word} (hrst : bit v 1 = true) (hhas : hasSoftReset pg = true) :
    ∃ u, writePageCtrl s pg v = softReset u pg := by
  unfold writePageCtrl
  simp only [hrst, hhas, Bool.and_self, if_true]
  exact ⟨_, rfl⟩

/-! ### The end of a soft reset (R390, R452) -/

/-- The page no longer busy. -/
def resetEnded (s : State) (pg : Nat) : State := { s with par := { s.par with busy := Store.set noB s.par.busy pg false } }

theorem softResetDone_ends {s : State} (pg : Nat) (hawake : Awake s) : ∃ m, exec (.softResetDone pg) s =
    .next { resetEnded s pg with rst := { s.rst with presets := m } } := by
  change ∃ m, execSoftResetDone pg s = _
  rw [execSoftResetDone, live_awake hawake]
  split
  · split
    · exact ⟨_, rfl⟩
    · exact ⟨_, rfl⟩
  · exact ⟨_, rfl⟩

theorem pageInfo_port {p : Nat} (hp : p < 256) : pageInfo (Page.TP p) = some (.tp, 0x100, p) := by
  have hlast : p + 256 < 512 := by omega
  simp [pageInfo, pageDirectory, Page.TP, Nat.add_comm 256 p, hlast]

theorem softResetDone_port {s : State} {p : Nat} (hawake : Awake s) (hp : p < 256) (hbusy : rstBusy s (Page.TP p) = true) :
    exec (.softResetDone (Page.TP p)) s =
      .next (takePresets (resetEnded s (Page.TP p)) (rdB s Reg.SEC.SEC_STATUS 8) [p]) := by
  change execSoftResetDone (Page.TP p) s = _
  rw [execSoftResetDone, live_awake hawake, pageInfo_port hp]
  simp only [hbusy, if_true]
  rfl

end Sys2Proof.Machine
end

section
open Sys2Proof Sys2Proof.Machine

/-- Settles O11: an access is noted in two registers; a mismatch is the upset, its record and the page's safe action, which leaves the
header as it is. -/
theorem pageErrors : Obligations.PageErrors := by
  refine ⟨fun s a addr write hawake hpg => ?_, fun s pg off hawake hoff hcovers hgood => ?_,
    fun s pg off hawake h => parityMismatch_rests hawake h, fun s pg off hawake hoff hcovers hgood hsec haud hcalm => ?_⟩
  · obtain ⟨herr, hcount, hregs⟩ := accessNoted_leaves (if write then s else answer s a 0) (pageOf addr)
    refine ⟨_, partialAccess_notes a write hawake hpg, ?_, herr, ?_, fun b hb => (hregs b hb).trans ?_, fun hwrite => ?_,
      fun hread => ?_⟩
    · cases write <;> rfl
    · cases write <;> exact hcount
    · cases write <;> rfl
    · subst hwrite; rfl
    · subst hread; exact answer_word s a 0
  · obtain ⟨herr, hplace⟩ := mismatched_header s (pg := pg) hoff
    have hkept (kind agent role : Nat) (args : List Byte) :
        HeaderKept (mismatched s pg off) (audit (mismatched s pg off) kind agent role args) :=
      (RegsExcept.audit _ _ _ _ (RegsExcept.refl _ _) (List.mem_singleton_self _)).headerKept (by decide)
    rw [parityMismatch_notes hawake hcovers hgood]
    split
    · obtain ⟨kerr, kplace⟩ := (hkept 0x10 2 0 (leBytes 2 pg ++ leBytes 2 off)).parity pg
      exact ⟨_, rfl, fun hacts => safe_of_parity hacts (kerr.trans herr), kerr.trans herr, kplace.trans hplace⟩
    · exact ⟨_, rfl, fun hacts => safe_of_parity hacts herr, herr, hplace⟩
  · obtain ⟨h14, h2c⟩ := parityCovers_off hcovers
    obtain ⟨honly, herr, -, hheld, hfirst, hregs⟩ := recordParity_leaves (upset s pg off) (pg := pg) hoff
    have hne : 0x1000 * pg + off ≠ Reg.HDR.PAGE_ERR pg ∧ 0x1000 * pg + off ≠ Reg.HDR.PAGE_PAR_ADDR pg :=
      ⟨header_apart h14, header_apart h2c⟩
    have hplace : rd (upset s pg off) (Reg.HDR.PAGE_PAR_ADDR pg) = rd s (Reg.HDR.PAGE_PAR_ADDR pg) := by
      rw [rd_upset, if_neg hne.2.symm]
    rw [hplace] at hheld hfirst
    refine ⟨_, by rw [parityMismatch_notes hawake hcovers hgood, if_neg (by simp [hsec, haud]), mismatched_upset s hcalm], ?_, ?_, herr,
      ?_, hheld, hfirst, fun b hb => ?_⟩
    · rw [honly]
      rfl
    · rw [hregs _ (by simp [h14, h2c]), rd_upset, if_pos rfl]
    · rw [bad_recordParity _ hne.1 hne.2]
      exact bad_upset s pg off
    · simp only [List.mem_cons, List.not_mem_nil, or_false, not_or] at hb
      rw [hregs b (by simp [hb]), rd_upset, if_neg hb.1]

/-- Settles O13: the lock is taken once or refused; a write of PAGE_CTRL stores, and may start the safe action or the soft reset. -/
theorem pageControlAndLock : Obligations.PageControlAndLock := by
  refine ⟨fun s a pg v hawake hpg hfree hrights hgood => ⟨fun honce => ?_, fun honce => ?_⟩,
    fun s a pg v hawake hpg hacc => ⟨fun hen hrst => ?_, fun hen hrst => ⟨?_, safe_disabled s hen⟩, fun hrst hhas => ?_⟩,
    fun s pg hawake => ?_⟩
  · have hlost : Reg.HDR.PAGE_LOCK pg ≠ Reg.AUD.LOST := header_ne (by decide) (by decide)
    have hexec := pageLockWrite_takes v hawake hpg hfree hrights honce hgood
    refine ⟨_, hexec, ?_, ?_, memoryFrames.1 _ _ _ rfl hexec, ?_⟩
    · rw [rd_touchSession, rd_audit _ _ _ _ _ _ hlost]
      exact rd_wr_same ..
    · rw [touchSession_par, audit_once]
      exact Store.get_set_same noB s.par.once pg true
    · have htaken : RegsExcept [Reg.HDR.PAGE_LOCK pg, Reg.AUD.LOST] s (lockTaken s pg v) :=
        ((RegsExcept.refl _ s).wr (a := Reg.HDR.PAGE_LOCK pg) (v &&& 0xF) (by simp)).of_regs rfl
      exact (RegsExcept.audit _ _ _ _ htaken (by simp)).touchSession
  · have hexec := pageLockWrite_refused v hawake hpg hfree hrights honce
    obtain ⟨-, hcount, -, hregs⟩ := refuseWrite_leaves s a (Reg.HDR.PAGE_LOCK pg) v 3
    rw [pageOf_header _ _ (by decide)] at hcount hregs
    refine ⟨_, hexec, hregs _ ?_, hcount, memoryFrames.1 _ _ _ rfl hexec⟩
    have hlost : Reg.HDR.PAGE_LOCK pg ≠ Reg.AUD.LOST := header_ne (by decide) (by decide)
    simp [hlost]
  · rw [pageCtrl_accepted hawake hpg hacc (.inl rfl), writePageCtrl_enables hen hrst]
  · rw [pageCtrl_accepted hawake hpg hacc (.inr (.inl rfl)), writePageCtrl_disables hen hrst]
  · obtain ⟨u, hu⟩ := softReset_leaves_of_write (s := s) hrst hhas
    exact ⟨_, by rw [pageCtrl_accepted hawake hpg hacc (.inr (.inr rfl)), hu], softReset_leaves u hpg⟩
  · obtain ⟨m, hexec⟩ := softResetDone_ends pg hawake
    refine ⟨_, hexec, Store.get_set_same noB s.par.busy pg false, rfl,
      fun q hq => Store.get_set_other noB s.par.busy pg q false hq, fun p hp hpg hbusy => ?_⟩
    subst hpg
    rw [softResetDone_port hawake hp hbusy] at hexec
    rw [← Host.Outcome.next.inj hexec]
    exact Store.get_set_same (fun _ => 3) ..

end

section
/-! SUPPORT. The accesses of the host and of JTAG (R373, R375, R391, R393): memory windows, configuration space, link and test port. -/

namespace Sys2Proof.Machine

/-! ### What the messages of the host's vectors leave of device memory and of the link -/

theorem askL0_L0 {s : State} (h : s.pcie.link.aspm = 0) : askL0 s = s := if_neg fun hc => hc.2.2 h

theorem askL0_mem (s : State) : (askL0 s).mem = s.mem := by rw [askL0_frame]

/-- Sending a vector's message leaves device memory, and in L0 the PCIe function's state. -/
theorem sendVector_mem_pcie (s : State) (v : Nat) : (sendVector s v).mem = s.mem ∧
    (s.pcie.link.aspm = 0 → (sendVector s v).pcie = s.pcie) := by
  cases hmask : vectorMasked s v with
  | true => rw [sendVector_masked hmask]; exact ⟨rfl, fun _ => rfl⟩
  | false =>
    cases hgo : mayLeave s with
    | false =>
      rw [sendVector_holds hmask hgo]
      exact ⟨askL0_mem _, fun h => by rw [askL0_L0 (s := setHeld s v true) h]; rfl⟩
    | true =>
      have hsent : (messageSent s v).mem = s.mem ∧ (messageSent s v).pcie = s.pcie := by
        rw [messageSent_frame]
        exact ⟨rfl, rfl⟩
      have hleft := sendVector_leaves hmask hgo
      generalize messageSent s v = u at hsent hleft
      obtain heq | ⟨n, heq⟩ := hleft <;> rw [heq]
      · exact ⟨hsent.1, fun _ => hsent.2⟩
      · exact ⟨hsent.1, fun _ => hsent.2⟩

/-- One vector of flushPba. -/
def sendPending (s : State) (v : Nat) : State :=
  if Store.get noB s.icu.pba v && !vectorMasked s v then if mayLeave s then sendVector s v else askL0 s else s

theorem flushPba_eq (s : State) : flushPba s = (List.range 64).foldl sendPending s := rfl

theorem sendPending_mem_pcie (s : State) (v : Nat) : (sendPending s v).mem = s.mem ∧
    (s.pcie.link.aspm = 0 → (sendPending s v).pcie = s.pcie) := by
  unfold sendPending
  split
  · split
    · exact sendVector_mem_pcie s v
    · exact ⟨askL0_mem s, fun h => by rw [askL0_L0 h]⟩
  · exact ⟨rfl, fun _ => rfl⟩

theorem releaseHeld_mem_pcie (all : Bool) (s : State) (v : Nat) : (releaseHeld all s v).mem = s.mem ∧
    (s.pcie.link.aspm = 0 → (releaseHeld all s v).pcie = s.pcie) := by
  unfold releaseHeld
  split
  · exact sendVector_mem_pcie (setHeld s v false) v
  · exact ⟨rfl, fun _ => rfl⟩

/-- A pass over vectors of which each leaves device memory, and the function's state in L0, leaves both. -/
theorem foldl_mem_pcie {f : State → Nat → State} (hf : ∀ s v, (f s v).mem = s.mem ∧ (s.pcie.link.aspm = 0 → (f s v).pcie = s.pcie))
    (l : List Nat) (s : State) : (l.foldl f s).mem = s.mem ∧ (s.pcie.link.aspm = 0 → (l.foldl f s).pcie = s.pcie) := by
  refine ⟨foldl_keep State.mem f (fun t v => (hf t v).1) l s, fun h => ?_⟩
  induction l generalizing s with
  | nil => rfl
  | cons v l ih =>
    have hfirst := (hf s v).2 h
    exact (ih (f s v) (by rw [hfirst]; exact h)).trans hfirst

theorem flushPba_mem_pcie (s : State) : (flushPba s).mem = s.mem ∧ (s.pcie.link.aspm = 0 → (flushPba s).pcie = s.pcie) := by
  rw [flushPba_eq]
  exact foldl_mem_pcie sendPending_mem_pcie _ s

theorem flushHeld_mem_pcie (all : Bool) (s : State) : (flushHeld all s).mem = s.mem ∧
    (s.pcie.link.aspm = 0 → (flushHeld all s).pcie = s.pcie) := by
  obtain ⟨hmem, hpcie⟩ := foldl_mem_pcie (releaseHeld_mem_pcie all) (List.range 64) s
  obtain ⟨kmem, kpcie⟩ := flushPba_mem_pcie ((List.range 64).foldl (releaseHeld all) s)
  rw [flushHeld_eq]
  exact ⟨kmem.trans hmem, fun h => (kpcie (by rw [hpcie h]; exact h)).trans (hpcie h)⟩

/-! ### BAR2 (R373) -/

theorem inMem_of_bar2 {s : State} {addr len : Nat} {w : Bool} (h : bar2Off s addr len w = false) : inMem addr len = true := by
  simp only [bar2Off, Bool.or_eq_false_iff, Bool.not_eq_false'] at h
  exact h.1.1.1

/-- A discarded access counts, and changes no other register. -/
theorem bar2Drop_counts (s : State) : rd (bar2Drop s) Reg.GBL.BAR2_UNMAPPED = plusOne (rd s Reg.GBL.BAR2_UNMAPPED) ∧
    RegsExcept [Reg.GBL.BAR2_UNMAPPED] s (bar2Drop s) := by
  refine ⟨?_, fun a ha => ?_⟩
  · rw [bar2Drop, rd_raiseE, rd_bump_same]
  · rw [bar2Drop, rd_raiseE, rd_bump_other _ (fun h => ha (List.mem_singleton.mpr h))]

theorem bar2Drop_out (s : State) : (bar2Drop s).out = s.out := by
  rw [bar2Drop, raiseE_out]
  rfl

theorem bar2Drop_memory (s : State) : SameMemory s (bar2Drop s) := by
  refine sameMemory_of_stores ?_ ?_
  · rw [bar2Drop, raiseE_mem]; rfl
  · rw [bar2Drop, raiseE_hostMem]; rfl

theorem noteRead_memory (s : State) (a n : Nat) : SameMemory s (noteRead s a n) := by
  obtain ⟨-, hmem, hhost, -⟩ := noteRead_keep s a n
  exact sameMemory_of_stores hmem hhost

theorem noteRead_out (s : State) (a n : Nat) : (noteRead s a n).out = s.out := by rw [notedOnly_noteRead]

section
variable {s : State} (hawake : Awake s)
include hawake

theorem bar2Write_off {addr : Nat} {data : List Byte} (h : bar2Off s addr data.length true = true) :
    exec (.bar2Write addr data) s = .next (bar2Drop s) := by
  refine (live_awake hawake).trans ?_
  rw [if_pos h]

theorem bar2Write_on {addr : Nat} {data : List Byte} (h : bar2Off s addr data.length true = false) :
    exec (.bar2Write addr data) s = .next (memWrite s addr data) := by
  refine (live_awake hawake).trans ?_
  rw [if_neg (Bool.eq_false_iff.mp h)]

theorem bar2Read_off {addr len : Nat} (h : bar2Off s addr len false = true) : exec (.bar2Read addr len) s =
    .next (bar2Drop { s with out := { s.out with bar2 := List.replicate len 0 } }) := by
  refine (live_awake hawake).trans ?_
  rw [if_pos h]

theorem bar2Read_on {addr len : Nat} (h : bar2Off s addr len false = false) : exec (.bar2Read addr len) s =
    .next (noteRead { s with out := { s.out with bar2 := memRead s addr len } } addr len) := by
  refine (live_awake hawake).trans ?_
  rw [if_neg (Bool.eq_false_iff.mp h)]

/-! ### Configuration space and link (R375, R391) -/

theorem configurationWrite_stores (c : PcieCfg) (clear : Bool) (hup : s.rst.pcieUp = true) :
    exec (.configurationWrite c clear) s = .next (flushPba { s with pcie := { s.pcie with
      cfg := { c with maxPayload := min 2 c.maxPayload, maxRead := min 5 c.maxRead }
      pmeStatus := s.pcie.pmeStatus && !clear } }) := by
  refine (live_awake hawake).trans ?_
  rw [if_pos hup]

end

/-- The link's new state, before the messages that waited for L0. -/
def linkTaken (s : State) (l : PcieLink) : State :=
  { s with pcie := { s.pcie with
    link := { l with dstate := if s.pcie.link.dstate = 3 then 3 else l.dstate }
    l0Asked := s.pcie.l0Asked && l.aspm != 0 } }

section
variable {s : State} (hawake : Awake s) (hup : s.rst.pcieUp = true) {l : PcieLink}
include hawake hup

theorem pcieLinkChange_back (h : s.pcie.link.aspm ≠ 0 ∧ l.aspm = 0) :
    exec (.pcieLinkChange l) s = .next (flushHeld false (linkTaken s l)) := by
  refine (live_awake hawake).trans ?_
  simp only [hup, Bool.not_true, Bool.false_eq_true, if_false]
  rw [if_pos h]
  rfl

theorem pcieLinkChange_stays (h : ¬ (s.pcie.link.aspm ≠ 0 ∧ l.aspm = 0)) : exec (.pcieLinkChange l) s = .next (linkTaken s l) := by
  refine (live_awake hawake).trans ?_
  simp only [hup, Bool.not_true, Bool.false_eq_true, if_false]
  rw [if_neg h]
  rfl

end

/-! ### The test port (R393, R414) -/

/-- A core that JTAG halts. -/
def debugHalted (s : State) (k : Nat) : State :=
  let t := wrB (wrB s Reg.MGT.CORE_STATUS k false) Reg.MGT.CORE_STATUS (4 + k) true
  { t with mgt := { t.mgt with dbgHalt := t.mgt.dbgHalt ++ [k] } }

/-- A core that JTAG lets run on. -/
def debugRuns (s : State) (k : Nat) : State :=
  let t := wrB (wrB s Reg.MGT.CORE_STATUS k true) Reg.MGT.CORE_STATUS (4 + k) false
  { t with mgt := { t.mgt with dbgHalt := t.mgt.dbgHalt.filter (· != k), stepped := [] } }

section
variable {s : State} (hawake : Awake s)
include hawake

theorem tapAccess_runs (op : TapOp) (h : tapNeeds op ≤ tapLevel s) : exec (.tapAccess op) s = .next (tapRun s op) := by
  refine (live_awake hawake).trans ?_
  rw [if_pos h]

theorem tapAccess_locked {op : TapOp} (h : tapLevel s < tapNeeds op) : exec (.tapAccess op) s = .next s := by
  refine (live_awake hawake).trans ?_
  rw [if_neg (Nat.not_le.mpr h)]

variable (hlevel : 2 ≤ tapLevel s)
include hlevel

theorem tapWrite_stores {addr : Nat} {data : List Byte} (h : inMem addr data.length = true) :
    exec (.tapAccess (.writeMem addr data)) s = .next (memWrite s addr data) := by
  exact (tapAccess_runs hawake (.writeMem addr data) hlevel).trans (congrArg Host.Outcome.next (if_pos h))

theorem tapRead_answers {addr len : Nat} (h : inMem addr len = true) : exec (.tapAccess (.readMem addr len)) s =
    .next (noteRead { s with out := { s.out with tap := memRead s addr len } } addr len) := by
  exact (tapAccess_runs hawake (.readMem addr len) hlevel).trans (congrArg Host.Outcome.next (if_pos h))

theorem tapHalt_halts {k : Nat} (h : running s k = true) : exec (.tapAccess (.haltCore k)) s = .next (debugHalted s k) := by
  exact (tapAccess_runs hawake (.haltCore k) hlevel).trans (congrArg Host.Outcome.next (if_pos h))

theorem tapRun_runs {k : Nat} (h : s.mgt.dbgHalt.contains k = true) :
    exec (.tapAccess (.runCore k)) s = .next (debugRuns s k) := by
  exact (tapAccess_runs hawake (.runCore k) hlevel).trans (congrArg Host.Outcome.next (if_pos h))

theorem tapStep_steps {k : Nat} (h : s.mgt.dbgHalt.contains k = true) :
    exec (.tapAccess (.stepCore k)) s = .next { s with mgt := { s.mgt with stepped := [k] } } := by
  exact (tapAccess_runs hawake (.stepCore k) hlevel).trans (congrArg Host.Outcome.next (if_pos h))

end

theorem debugHalted_regs (s : State) (k : Nat) : (debugHalted s k).regs =
    (wrB (wrB s Reg.MGT.CORE_STATUS k false) Reg.MGT.CORE_STATUS (4 + k) true).regs := by rw [debugHalted]

theorem debugRuns_regs (s : State) (k : Nat) : (debugRuns s k).regs =
    (wrB (wrB s Reg.MGT.CORE_STATUS k true) Reg.MGT.CORE_STATUS (4 + k) false).regs := by rw [debugRuns]

/-- Core `k`'s two bits of CORE_STATUS set: it runs or not, and no other core's RUNNING bit changes. -/
theorem running_status {s t : State} {k : Nat} (b : Bool) (hk : k < 4)
    (h : rd t Reg.MGT.CORE_STATUS = setBit (setBit (rd s Reg.MGT.CORE_STATUS) k b) (4 + k) !b) :
    running t k = b ∧ rdB t Reg.MGT.CORE_STATUS (4 + k) = !b ∧ ∀ j, j < 4 → j ≠ k → running t j = running s j := by
  refine ⟨?_, ?_, fun j hj hne => ?_⟩
  · rw [running, rdB, h, bit_setBit_other _ _ _ _ (by omega) (by omega), bit_setBit_same _ _ _ (by omega), decide_eq_true hk,
      Bool.true_and]
  · rw [rdB, h, bit_setBit_same _ _ _ (by omega)]
  · rw [running, rdB, h, bit_setBit_other _ _ _ _ (by omega) (by omega), bit_setBit_other _ _ _ _ (by omega) hne, ← rdB, ← running]

/-- Two writes of CORE_STATUS store both bits and touch no other register. -/
theorem coreStatus_written {s t : State} {k : Nat} (b c : Bool)
    (h : t.regs = (wrB (wrB s Reg.MGT.CORE_STATUS k b) Reg.MGT.CORE_STATUS (4 + k) c).regs) :
    rd t Reg.MGT.CORE_STATUS = setBit (setBit (rd s Reg.MGT.CORE_STATUS) k b) (4 + k) c ∧ RegsExcept [Reg.MGT.CORE_STATUS] s t := by
  refine ⟨?_, .of_regs (((RegsExcept.refl _ s).wr _ (by decide)).wr _ (by decide)) h⟩
  have hrd : rd t Reg.MGT.CORE_STATUS = rd (wrB (wrB s Reg.MGT.CORE_STATUS k b) Reg.MGT.CORE_STATUS (4 + k) c) Reg.MGT.CORE_STATUS := by
    simp only [rd, h]
  rw [hrd, rd_wrB, if_pos rfl, rd_wrB, if_pos rfl]

theorem tapBypass_delays (bits : List Bool) {i : Nat} (h : i < bits.length) :
    byteAt (((false :: bits).dropLast).map fun b => BitVec.ofNat 8 b.toNat) i =
      BitVec.ofNat 8 ((false :: bits).getD i false).toNat := by
  have hlen : i < (false :: bits).dropLast.length := by simpa using h
  have hpre : i < (false :: bits).length := by simp only [List.length_cons]; omega
  simp only [byteAt, List.getD_eq_getElem?_getD, List.getElem?_map, List.getElem?_eq_getElem hlen, List.getElem?_eq_getElem hpre,
    Option.map_some, Option.getD_some, List.getElem_dropLast]

/-- A write of MGT SRAM stores its bytes as far as the SRAM reaches, and no other byte changes. -/
theorem sramWrite_bytes (s : State) (addr : Nat) (data : List Byte) :
    (∀ i, i < data.length → addr + i < sramBytes → Store.get memDefault (sramWrite s addr data).mgt.sram (addr + i) = byteAt data i) ∧
      ∀ b, b < addr ∨ addr + data.length ≤ b ∨ sramBytes ≤ b →
        Store.get memDefault (sramWrite s addr data).mgt.sram b = Store.get memDefault s.mgt.sram b := by
  have hstored : (sramWrite s addr data).mgt.sram = Store.setList memDefault s.mgt.sram addr (data.take (sramBytes - addr)) := rfl
  refine ⟨fun i hi hin => ?_, fun b hb => ?_⟩ <;> rw [hstored, Store.get_setList]
  · rw [dif_pos (by rw [List.length_take]; omega)]
    simp [byteAt, hi]
  · rw [dif_neg (by rw [List.length_take]; omega)]

end Sys2Proof.Machine
end

section
open Sys2Proof Sys2Proof.Machine

/-- Settles O14: each access of the host and of JTAG, by the test it passes or fails. -/
theorem hostAccesses : Obligations.HostAccesses := by
  refine ⟨⟨fun s addr data hawake => ⟨fun hon => ?_, fun hoff => ?_⟩, fun s addr len hawake => ⟨fun hon => ?_, fun hoff => ?_⟩⟩,
    fun s c clear hawake hup => ?_, fun s l hawake hup => ?_, fun s addr data hawake hlevel hin => ?_,
    fun s addr len hawake hlevel hin => ?_, fun s addr hawake hlevel => ?_, fun s addr len data hawake hlevel => ⟨?_, ?_⟩,
    fun s k hawake hk hlevel => ⟨fun hruns => ?_, fun hhalted => ⟨?_, tapStep_steps hawake hlevel hhalted⟩⟩,
    fun s bits hawake => ⟨?_, ?_, fun hlevel => ?_⟩, fun s op hawake hlow => tapAccess_locked hawake hlow⟩
  · exact ⟨_, bar2Write_on hawake hon, memWrite_frame .., memWrite_bytes s addr data (inMem_of_bar2 hon)⟩
  · obtain ⟨hcount, hregs⟩ := bar2Drop_counts s
    exact ⟨_, bar2Write_off hawake hoff, bar2Drop_memory s, hcount, hregs⟩
  · refine ⟨_, bar2Read_on hawake hon, ?_, noteRead_memory ..⟩
    rw [noteRead_out]
  · obtain ⟨hcount, hregs⟩ := bar2Drop_counts { s with out := { s.out with bar2 := List.replicate len 0 } }
    refine ⟨_, bar2Read_off hawake hoff, ?_, hcount, hregs, bar2Drop_memory _⟩
    rw [bar2Drop_out]
  · refine ⟨_, configurationWrite_stores hawake c clear hup, ?_, ?_, ?_, fun a => ?_⟩
    · exact (flushPba_keep _).2.2
    · exact (flushes_flushPba _).pme.1
    · exact (flushes_flushPba _).regs
    · rw [memByte, (flushPba_mem_pcie _).1, memByte]
  · by_cases hback : s.pcie.link.aspm ≠ 0 ∧ l.aspm = 0
    · obtain ⟨hmem, hpcie⟩ := flushHeld_mem_pcie false (linkTaken s l)
      refine ⟨_, pcieLinkChange_back hawake hup hback, (hpcie hback.2).trans rfl, (flushHeld_leaves _ _).1, fun a => ?_,
        fun hstays => (hstays.elim hback.1 (absurd hback.2)).elim⟩
      rw [memByte, hmem]
      rfl
    · exact ⟨_, pcieLinkChange_stays hawake hup hback, rfl, rfl, fun _ => rfl, fun _ => rfl⟩
  · exact ⟨_, tapWrite_stores hawake hlevel hin, memWrite_frame .., memWrite_bytes s addr data hin⟩
  · refine ⟨_, tapRead_answers hawake hlevel hin, ?_, noteRead_memory ..⟩
    rw [noteRead_out]
  · exact ⟨_, tapAccess_runs hawake _ hlevel, rfl, rfl⟩
  · exact tapAccess_runs hawake _ hlevel
  · exact ⟨_, tapAccess_runs hawake _ hlevel, rfl, sramWrite_bytes s addr data⟩
  · obtain ⟨hstatus, hregs⟩ := coreStatus_written false true (debugHalted_regs s k)
    obtain ⟨hstops, hshown, hothers⟩ := running_status false hk hstatus
    exact ⟨_, tapHalt_halts hawake hlevel hruns, hstops, hshown, rfl, hothers, hregs⟩
  · obtain ⟨hstatus, hregs⟩ := coreStatus_written true false (debugRuns_regs s k)
    obtain ⟨hgoes, hshown, hothers⟩ := running_status true hk hstatus
    refine ⟨_, tapRun_runs hawake hlevel hhalted, hgoes, hshown, ?_, hothers, hregs⟩
    change (s.mgt.dbgHalt.filter (· != k)).contains k = false
    simp
  · exact tapAccess_runs hawake _ (Nat.zero_le _)
  · refine ⟨_, tapAccess_runs hawake _ (Nat.zero_le _), rfl, ?_, fun i hi => tapBypass_delays bits hi⟩
    change (((false :: bits).dropLast).map fun b => BitVec.ofNat 8 b.toNat).length = bits.length
    simp
  · exact tapAccess_runs hawake _ hlevel

end

section
/-! SUPPORT. The states of the pair (R301 to R319): what a change of STATE, of a status bit or of TWN_CTRL stores. -/

namespace Sys2Proof.Machine

/-! ### TWN_STATUS -/

theorem twnState_setTwnState (s : State) {n : Nat} (h : n < 8) : twnState (setTwnState s n) = n :=
  (rdF_wrF_same s Reg.TWN.TWN_STATUS n (by decide) (by decide)).trans (Nat.mod_eq_of_lt h)

/-- A status bit above STATE written leaves STATE. -/
theorem twnState_wrB (s : State) {b : Nat} (v : Bool) (hlow : 2 < b) (hb : b < 32) :
    twnState (wrB s Reg.TWN.TWN_STATUS b v) = twnState s := by
  rw [twnState, rdF, rd_wrB, if_pos rfl, setBit, fld_setFld_other _ _ (Nat.le_refl b) hb (.inl hlow)]
  rfl

theorem rdB_setTwnState (s : State) {b n : Nat} (h : 2 < b) : rdB (setTwnState s n) Reg.TWN.TWN_STATUS b = rdB s Reg.TWN.TWN_STATUS b := by
  rw [rdB, setTwnState, rd_wrF, if_pos rfl, bit_setFld_other _ _ _ _ _ (by decide) (by decide) (.inr h)]
  rfl

theorem twnState_congr {s t : State} (h : rd t Reg.TWN.TWN_STATUS = rd s Reg.TWN.TWN_STATUS) : twnState t = twnState s :=
  rdF_congr _ _ h

theorem regsExcept_setTwnState {l : List Nat} {s t : State} (n : Nat) (h : RegsExcept l s t) (hin : Reg.TWN.TWN_STATUS ∈ l) :
    RegsExcept l s (setTwnState t n) := h.wr _ hin

/-- SOLO entered: STATE says so, what belongs to the pair is forgotten, and no other register changes. -/
theorem goSolo_leaves (s : State) : twnState (goSolo s) = 4 ∧ (goSolo s).twn.joinAt = none ∧
    (∀ b, 2 < b → rdB (goSolo s) Reg.TWN.TWN_STATUS b = rdB s Reg.TWN.TWN_STATUS b) ∧
    RegsExcept [Reg.TWN.TWN_STATUS] s (goSolo s) :=
  ⟨twnState_setTwnState _ (by decide), rfl, fun _ hb => rdB_setTwnState _ hb,
    regsExcept_setTwnState 4 (.of_regs (.refl _ s) rfl) (List.mem_singleton_self _)⟩

/-! ### TWN_CTRL (R301, R302, R326) -/

/-- SEARCH entered by EN set. -/
def searchEntered (s : State) : State :=
  setTwnState { forgetPair s with
    twn := { (forgetPair s).twn with searchAt := s.time.uptime, heardAny := false, heardRun := false }
    time := { s.time with twn := max s.time.twn (nowNs s) } } 1

/-- OFF entered by EN cleared. -/
def offEntered (s : State) : State :=
  wrB (wrB (setTwnState (forgetPair (abandonMirrored s)) 0) Reg.TWN.TWN_STATUS 17 false) Reg.TWN.TWN_STATUS 5 false

section
variable {s : State} {v : Word}

theorem writeTwnCtrl_enters (hv : bit v 0 = true) (hoff : twnOn s = false) :
    writeTwnCtrl s v = searchEntered (wr s Reg.TWN.TWN_CTRL (v &&& 3)) := by
  refine if_pos ?_
  rw [hv, hoff]
  rfl

theorem writeTwnCtrl_leaves (hv : bit v 0 = false) (hon : twnOn s = true) :
    writeTwnCtrl s v = offEntered (wr s Reg.TWN.TWN_CTRL (v &&& 3)) := by
  refine (if_neg ?_).trans (if_pos ?_)
  · rw [hv, Bool.false_and]; decide
  · rw [hv, hon]; rfl

theorem writeTwnCtrl_stores (h : bit v 0 = twnOn s) : writeTwnCtrl s v = wr s Reg.TWN.TWN_CTRL (v &&& 3) := by
  refine (if_neg ?_).trans (if_neg ?_) <;> rw [h] <;> cases twnOn s <;> decide

end

theorem searchEntered_leaves (s : State) : twnState (searchEntered s) = 1 ∧ RegsExcept [Reg.TWN.TWN_STATUS] s (searchEntered s) :=
  ⟨twnState_setTwnState _ (by decide), regsExcept_setTwnState 1 (.of_regs (.refl _ s) rfl) (List.mem_singleton_self _)⟩

theorem offEntered_leaves (s : State) : twnState (offEntered s) = 0 ∧ twnClash (offEntered s) = false ∧
    rdB (offEntered s) Reg.TWN.TWN_STATUS 5 = false ∧ RegsExcept [Reg.TWN.TWN_STATUS] s (offEntered s) := by
  refine ⟨?_, ?_, ?_, ?_⟩
  · rw [offEntered, twnState_wrB _ _ (by decide) (by decide), twnState_wrB _ _ (by decide) (by decide),
      twnState_setTwnState _ (by decide)]
  · rw [offEntered, twnClash, rdB, rd_wrB, if_pos rfl, bit_setBit_other _ _ _ _ (by decide) (by decide), rd_wrB, if_pos rfl,
      bit_setBit_same _ _ _ (by decide)]
  · rw [offEntered, rdB, rd_wrB, if_pos rfl, bit_setBit_same _ _ _ (by decide)]
  · have hforgot : RegsExcept [Reg.TWN.TWN_STATUS] s (forgetPair (abandonMirrored s)) := .of_regs (.refl _ s) rfl
    exact ((regsExcept_setTwnState 0 hforgot (List.mem_singleton_self _)).wr _ (List.mem_singleton_self _)).wr _
      (List.mem_singleton_self _)

/-- A write of TWN_CTRL stores it, and changes TWN_STATUS beside it at most. -/
theorem writeTwnCtrl_regs (s : State) (v : Word) : rd (writeTwnCtrl s v) Reg.TWN.TWN_CTRL = v &&& 3 ∧
    RegsExcept [Reg.TWN.TWN_CTRL, Reg.TWN.TWN_STATUS] s (writeTwnCtrl s v) := by
  have hstored : RegsExcept [Reg.TWN.TWN_CTRL, Reg.TWN.TWN_STATUS] s (wr s Reg.TWN.TWN_CTRL (v &&& 3)) :=
    (RegsExcept.refl _ s).wr _ (by decide)
  have hread : rd (wr s Reg.TWN.TWN_CTRL (v &&& 3)) Reg.TWN.TWN_CTRL = v &&& 3 := rd_wr_same ..
  have hstep {t : State} (h : RegsExcept [Reg.TWN.TWN_STATUS] (wr s Reg.TWN.TWN_CTRL (v &&& 3)) t) :
      rd t Reg.TWN.TWN_CTRL = v &&& 3 ∧ RegsExcept [Reg.TWN.TWN_CTRL, Reg.TWN.TWN_STATUS] s t :=
    ⟨(h _ (by decide)).trans hread, hstored.trans (h.mono (by decide))⟩
  by_cases heq : bit v 0 = twnOn s
  · rw [writeTwnCtrl_stores heq]
    exact ⟨hread, hstored⟩
  · cases hv : bit v 0 with
    | true =>
      rw [writeTwnCtrl_enters hv (by cases h : twnOn s <;> simp_all)]
      exact hstep (searchEntered_leaves _).2
    | false =>
      rw [writeTwnCtrl_leaves hv (by cases h : twnOn s <;> simp_all)]
      exact hstep (offEntered_leaves _).2.2.2

/-- An accepted write of TWN_CTRL, whichever row it is. -/
theorem twinCtrl_accepted {s : State} {a : Agent} {v : Word} (hawake : Awake s) (hacc : Accepts s a Reg.TWN.TWN_CTRL .cfg) :
    exec (.twinEnable a v) s = .next (touchSession s a (pageOf Reg.TWN.TWN_CTRL) (writeTwnCtrl s v)) ∧
      exec (.twinDisable a v) s = .next (touchSession s a (pageOf Reg.TWN.TWN_CTRL) (writeTwnCtrl s v)) :=
  ⟨live_guarded hawake hacc, live_guarded hawake hacc⟩

/-! ### The partner lost, the search, the join (R314 to R316) -/

/-- The partner's loss noted: PEER_ALIVE clears and the loss counts. -/
def peerLost (s : State) : State := raiseE (bump (wrB s Reg.TWN.TWN_STATUS 5 false) Reg.TWN.PEER_LOST) Page.TWN 0

theorem peerLost_leaves (s : State) : twnState (peerLost s) = twnState s ∧ rdB (peerLost s) Reg.TWN.TWN_STATUS 5 = false ∧
    rd (peerLost s) Reg.TWN.PEER_LOST = plusOne (rd s Reg.TWN.PEER_LOST) ∧ (peerLost s).twn = s.twn ∧
    RegsExcept [Reg.TWN.TWN_STATUS, Reg.TWN.PEER_LOST] s (peerLost s) := by
  have hstatus : rd (peerLost s) Reg.TWN.TWN_STATUS = rd (wrB s Reg.TWN.TWN_STATUS 5 false) Reg.TWN.TWN_STATUS := by
    rw [peerLost, rd_raiseE, rd_bump_other _ (by decide)]
  refine ⟨(twnState_congr hstatus).trans (twnState_wrB _ _ (by decide) (by decide)), ?_, ?_, ?_, ?_⟩
  · rw [rdB, hstatus, rd_wrB, if_pos rfl, bit_setBit_same _ _ _ (by decide)]
  · rw [peerLost, rd_raiseE, rd_bump_same, rd_wrB, if_neg (by decide)]
  · rw [peerLost, raiseE_twn]; rfl
  · exact .of_regs (((RegsExcept.refl _ s).wr _ (by decide)).wr _ (by decide)) (raiseE_regs ..)

section
variable {s : State} (hawake : Awake s)
include hawake

theorem peerLoss_ignored (h : (s.twn.link0 = true ∨ s.twn.link1 = true) ∧ elapsedUs s s.twn.lastRec (peerTmo s) = false ∨
    twnOn s = false ∨ rdB s Reg.TWN.TWN_STATUS 5 = false) : exec .peerLoss s = .next s := by
  refine (live_awake hawake).trans (congrArg Host.Outcome.next (if_neg ?_))
  rw [Bool.not_eq_true]
  obtain ⟨hlink, hearly⟩ | hoff | hdead := h
  · obtain hlink | hlink := hlink <;> simp [hlink, hearly]
  · simp [hoff]
  · simp [hdead]

theorem peerLoss_loses (hon : twnOn s = true) (halive : rdB s Reg.TWN.TWN_STATUS 5 = true)
    (hlost : s.twn.link0 = false ∧ s.twn.link1 = false ∨ elapsedUs s s.twn.lastRec (peerTmo s) = true) :
    exec .peerLoss s = .next (if twnState s = 2 ∨ twnState s = 3 then goSolo (peerLost s)
      else if twnState s = 4 then forgetPair (peerLost s) else peerLost s) := by
  refine (live_awake hawake).trans (congrArg Host.Outcome.next (if_pos ?_))
  rw [hon, halive]
  obtain ⟨hdown0, hdown1⟩ | hgone := hlost
  · simp [hdown0, hdown1]
  · simp [hgone]

theorem searchTimeout_solo (hsearch : twnState s = 1) (hgone : elapsedUs s s.twn.searchAt (peerTmo s) = true)
    (hany : s.twn.heardAny = false) (hrun : s.twn.heardRun = false) : exec .searchTimeout s = .next (goSolo s) := by
  refine (live_awake hawake).trans (congrArg Host.Outcome.next (if_pos ?_))
  rw [hsearch, hgone, hany, hrun]
  cases twnRole s <;> rfl

theorem searchTimeout_ignored (h : twnState s ≠ 1 ∨ elapsedUs s s.twn.searchAt (peerTmo s) = false) :
    exec .searchTimeout s = .next s := by
  refine (live_awake hawake).trans (congrArg Host.Outcome.next (if_neg ?_))
  obtain hstate | hearly := h
  · rw [beq_false_of_ne hstate]; simp
  · rw [hearly]; simp

end

/-- PAIRED entered at the join instant `j`. -/
def joined (s : State) (j : Nat) : State :=
  raiseE (bump (setTwnState { s with twn := { s.twn with
    joinAt := none, pairFrom := some j, joiner := twnState s == 2, count := 0 } } 3) Reg.TWN.JOINS) Page.TWN 1

theorem joined_leaves (s : State) (j : Nat) : twnState (joined s j) = 3 ∧ (joined s j).twn.joinAt = none ∧
    (joined s j).twn.pairFrom = some j ∧ rd (joined s j) Reg.TWN.JOINS = plusOne (rd s Reg.TWN.JOINS) ∧
    RegsExcept [Reg.TWN.TWN_STATUS, Reg.TWN.JOINS] s (joined s j) := by
  refine ⟨?_, ?_, ?_, ?_, ?_⟩
  · refine (twnState_congr ?_).trans (twnState_setTwnState { s with twn := { s.twn with
      joinAt := none, pairFrom := some j, joiner := twnState s == 2, count := 0 } } (by decide))
    rw [joined, rd_raiseE, rd_bump_other _ (by decide)]
  · rw [joined, raiseE_twn]; rfl
  · rw [joined, raiseE_twn]; rfl
  · rw [joined, rd_raiseE, rd_bump_same, setTwnState, rd_wrF, if_neg (by decide)]
    rfl
  · refine .of_regs ?_ (raiseE_regs ..)
    exact (regsExcept_setTwnState 3 (.of_regs (.refl _ s) rfl) (by decide)).wr _ (by decide)

section
variable {s : State} {j : Nat} (hlit : Lit s) (hjoin : s.twn.joinAt = some j)
include hlit hjoin

theorem join_early (h : came s j = false) : exec .join s = .next s := by
  refine (wall_lit hlit).trans ?_
  rw [hjoin]
  dsimp only
  rw [h]
  rfl

theorem join_joins (h : came s j = true) (hstate : twnState s = 2 ∨ twnState s = 4) : exec .join s = .next (joined s j) := by
  refine (wall_lit hlit).trans ?_
  rw [hjoin]
  dsimp only
  rw [h]
  obtain hstate | hstate := hstate <;> rw [joined, hstate] <;> rfl

end

/-! ### Yielding (R319) -/

/-- A phase yielded to the partner. -/
def phaseYielded (s : State) (k n : Nat) : State :=
  raiseE (bump { s with twn := { s.twn with yielded := (k, n) :: s.twn.yielded.take 15 } } Reg.TWN.YIELD_PHASES) Page.TWN 3

theorem phaseYielded_leaves (s : State) (k n : Nat) : (phaseYielded s k n).twn.yielded.contains (k, n) = true ∧
    rd (phaseYielded s k n) Reg.TWN.YIELD_PHASES = plusOne (rd s Reg.TWN.YIELD_PHASES) ∧
    RegsExcept [Reg.TWN.YIELD_PHASES] s (phaseYielded s k n) := by
  refine ⟨?_, ?_, .of_regs (.wr (.of_regs (.refl _ s) rfl) _ (by decide)) (raiseE_regs ..)⟩
  · have hfirst : (phaseYielded s k n).twn.yielded = (k, n) :: s.twn.yielded.take 15 := by
      rw [phaseYielded, raiseE_twn]
      rfl
    rw [hfirst, List.contains_cons, beq_self_eq_true, Bool.true_or]
  · rw [phaseYielded, rd_raiseE, rd_bump_same]
    rfl

section
variable {s : State} {k n : Nat} {c : PhaseCtx} (hlit : Lit s) (hctx : findCtx s k n = some c)
include hlit hctx

theorem phaseYield_ignored (h : twnState s ≠ 3 ∨ reached s c.close = false ∨ s.twn.yielded.contains (k, n) = true ∨
    impCauses s k n = 0) : exec (.phaseYield k n) s = .next s := by
  refine (wall_lit hlit).trans ?_
  rw [hctx]
  refine congrArg Host.Outcome.next (if_neg ?_)
  rw [Bool.not_eq_true]
  obtain h | h | h | h := h
  · simp [beq_false_of_ne h]
  · simp [h]
  · simp only [h, Bool.not_true, Bool.and_false, Bool.false_and]
  · simp [h]

theorem phaseYield_yields (hon : twnOn s = true) (hpaired : twnState s = 3) (hclosed : reached s c.close = true)
    (hnew : s.twn.yielded.contains (k, n) = false) (himp : impCauses s k n ≠ 0)
    (hpeer : (s.twn.peerImp.find? fun e => e.1 == pseq k n) = some (pseq k n, true)) :
    exec (.phaseYield k n) s = .next (phaseYielded s k n) := by
  refine (wall_lit hlit).trans ?_
  rw [hctx]
  refine congrArg Host.Outcome.next (if_pos ?_)
  rw [hon, hpaired, hclosed, hnew, hpeer, bne_iff_ne.mpr himp]
  rfl

end

end Sys2Proof.Machine
end

section
open Sys2Proof Sys2Proof.Machine

/-- Settles O47: each command of the pair's states, by the condition it finds. -/
theorem twinStates : Obligations.TwinStates := by
  refine ⟨fun s a v hawake hacc => ?_, fun s up hawake => ⟨_, _, live_awake hawake, live_awake hawake, rfl, rfl⟩,
    fun s hawake => ⟨peerLoss_ignored hawake, fun hon halive hlost => ?_, fun hsearch hgone hany hrun => ?_,
      searchTimeout_ignored hawake, fun j hserdes hjoin => ⟨join_early ⟨hawake, hserdes⟩ hjoin, fun hcame hstate => ?_⟩⟩,
    fun s k n c hlit hctx => ⟨phaseYield_ignored hlit hctx, fun hon hpaired hclosed hnew himp hpeer => ?_⟩⟩
  · obtain ⟨henable, hdisable⟩ := twinCtrl_accepted (v := v) hawake hacc
    obtain ⟨hread, hregs⟩ := writeTwnCtrl_regs s v
    have hread : rd (touchSession s a (pageOf Reg.TWN.TWN_CTRL) (writeTwnCtrl s v)) Reg.TWN.TWN_CTRL = v &&& 3 :=
      (rd_touchSession ..).trans hread
    have hstate : twnState (touchSession s a (pageOf Reg.TWN.TWN_CTRL) (writeTwnCtrl s v)) = twnState (writeTwnCtrl s v) :=
      twnState_congr (rd_touchSession ..)
    refine ⟨fun hv => ⟨_, henable, hread, hregs.touchSession, fun hoff => ?_, fun hon => ?_⟩,
      fun hv => ⟨_, hdisable, hread, hregs.touchSession, fun hon => ?_⟩⟩
    · rw [hstate, touchSession_twn, writeTwnCtrl_enters hv hoff]
      exact ⟨(searchEntered_leaves _).1, rfl, rfl, rfl⟩
    · rw [hstate, touchSession_twn, writeTwnCtrl_stores (hv.trans hon.symm)]
      exact ⟨twnState_congr (rd_wr_other _ _ _ _ (by decide)), rfl⟩
    · obtain ⟨hoff, hclash, hdead, -⟩ := offEntered_leaves (wr s Reg.TWN.TWN_CTRL (v &&& 3))
      rw [hstate, twnClash, rdB, rdB, rd_touchSession, touchSession_twn, writeTwnCtrl_leaves hv hon]
      exact ⟨rfl, hoff, hclash, hdead⟩
  · obtain ⟨hkept, hdead, hcount, htwn, hregs⟩ := peerLost_leaves s
    refine ⟨_, peerLoss_loses hawake hon halive hlost, ?_⟩
    by_cases hpair : twnState s = 2 ∨ twnState s = 3
    · obtain ⟨hsolo, hforgot, hbits, hstep⟩ := goSolo_leaves (peerLost s)
      have hleft : twnState s = 2 ∨ twnState s = 3 ∨ twnState s = 4 := hpair.imp_right Or.inl
      rw [if_pos hpair, if_pos hleft, if_pos hpair]
      exact ⟨(hbits 5 (by decide)).trans hdead, (hstep _ (by decide)).trans hcount, hforgot, hsolo, hregs.trans (hstep.mono (by decide))⟩
    · rw [if_neg hpair, if_neg hpair]
      by_cases hsolo : twnState s = 4
      · rw [if_pos hsolo, if_pos (.inr (.inr hsolo))]
        exact ⟨hdead, hcount, rfl, hkept, hregs⟩
      · have hstays : ¬ (twnState s = 2 ∨ twnState s = 3 ∨ twnState s = 4) := by
          rintro (h | h | h)
          · exact hpair (.inl h)
          · exact hpair (.inr h)
          · exact hsolo h
        rw [if_neg hsolo, if_neg hstays, htwn]
        exact ⟨hdead, hcount, rfl, hkept, hregs⟩
  · obtain ⟨hsolo, -, -, hregs⟩ := goSolo_leaves s
    exact ⟨_, searchTimeout_solo hawake hsearch hgone hany hrun, hsolo, hregs⟩
  · exact ⟨_, join_joins ⟨hawake, hserdes⟩ hjoin hcame hstate, joined_leaves s j⟩
  · exact ⟨_, phaseYield_yields hlit hctx hon hpaired hclosed hnew himp hpeer, phaseYielded_leaves s k n⟩

end

section
/-! SUPPORT. Records received from the partner (R302 to R320): how a record is counted, noted and used. -/

namespace Sys2Proof.Machine

/-! ### Steps of the status register -/

/-- STATE, IMPAIRED or DIVERGE may change, and what the pair keeps of health; PEER_ALIVE, the partner's STATE, the windows and every
other register stay. -/
structure StatusStep (s t : State) : Prop where
  winA : t.twn.winA = s.twn.winA
  winB : t.twn.winB = s.twn.winB
  lastRec : t.twn.lastRec = s.twn.lastRec
  ops : t.twn.ops = s.twn.ops
  peerF : t.twn.peerF = s.twn.peerF
  regs : RegsExcept [Reg.TWN.TWN_STATUS] s t
  alive : rdB t Reg.TWN.TWN_STATUS 5 = rdB s Reg.TWN.TWN_STATUS 5
  peer : rdF t Reg.TWN.TWN_STATUS 8 6 = rdF s Reg.TWN.TWN_STATUS 8 6

theorem StatusStep.trans {s t u : State} (h : StatusStep s t) (k : StatusStep t u) : StatusStep s u :=
  ⟨k.winA.trans h.winA, k.winB.trans h.winB, k.lastRec.trans h.lastRec, k.ops.trans h.ops, k.peerF.trans h.peerF, h.regs.trans k.regs,
    k.alive.trans h.alive, k.peer.trans h.peer⟩

/-- A step that leaves the registers, and of the pair's state what a status step leaves. -/
theorem StatusStep.of_twn {s t : State} (hregs : t.regs = s.regs) (h : (t.twn.winA, t.twn.winB, t.twn.lastRec, t.twn.ops, t.twn.peerF) =
    (s.twn.winA, s.twn.winB, s.twn.lastRec, s.twn.ops, s.twn.peerF)) : StatusStep s t := by
  simp only [Prod.mk.injEq] at h
  obtain ⟨hA, hB, hlast, hops, hfences⟩ := h
  have hrd : rd t Reg.TWN.TWN_STATUS = rd s Reg.TWN.TWN_STATUS := by simp only [rd, hregs]
  exact ⟨hA, hB, hlast, hops, hfences, .of_regs (.refl _ s) hregs, by rw [rdB, hrd, rdB], rdF_congr _ _ hrd⟩

theorem StatusStep.refl (s : State) : StatusStep s s := .of_twn rfl rfl

theorem statusStep_setTwnState (s : State) (n : Nat) : StatusStep s (setTwnState s n) := by
  refine ⟨rfl, rfl, rfl, rfl, rfl, regsExcept_setTwnState n (.refl _ s) (List.mem_singleton_self _), rdB_setTwnState s (by decide), ?_⟩
  rw [rdF, setTwnState, rd_wrF, if_pos rfl, fld_setFld_other _ _ (by decide) (by decide) (.inr (by decide))]
  rfl

/-- IMPAIRED or DIVERGE written. -/
theorem statusStep_wrB (s : State) {b : Nat} (v : Bool) (hb : b = 9 ∨ b = 13) : StatusStep s (wrB s Reg.TWN.TWN_STATUS b v) := by
  refine ⟨rfl, rfl, rfl, rfl, rfl, RegsExcept.wr (.refl _ s) _ (List.mem_singleton_self _), ?_, ?_⟩
  · rw [rdB, rd_wrB, if_pos rfl, bit_setBit_other _ _ _ _ (by omega) (by omega)]
    rfl
  · rw [rdF, rd_wrB, if_pos rfl, setBit, fld_setFld_other _ _ (Nat.le_refl b) (by omega) (.inl (by omega))]
    rfl

theorem statusStep_setDiverge (s : State) (v : Bool) : StatusStep s (setDiverge s v) :=
  ((StatusStep.of_twn (s := s) (t := { s with twn := { s.twn with diverge := v, equal := 0 } }) rfl rfl).trans
    (statusStep_wrB _ v (.inr rfl))).trans (statusStep_wrB _ _ (.inl rfl))

theorem statusStep_goSolo (s : State) : StatusStep s (goSolo s) :=
  (StatusStep.of_twn (s := s) (t := forgetPair s) rfl rfl).trans (statusStep_setTwnState _ _)

theorem statusStep_goJoining (s : State) : StatusStep s (goJoining s) :=
  (StatusStep.of_twn (s := s) (t := forgetPair s) rfl rfl).trans (statusStep_setTwnState _ _)

theorem statusStep_meetPeer (s : State) (peer : Nat) : StatusStep s (meetPeer s peer) := by
  unfold meetPeer
  dsimp only
  split
  · split
    · exact (StatusStep.of_twn (s := s) (t := { s with twn := { s.twn with heardRun := true } }) rfl rfl).trans (statusStep_goJoining _)
    · exact .refl s
  · split
    · exact statusStep_goSolo s
    · exact .refl s
  · split
    · exact statusStep_goSolo s
    · exact .refl s
  · split
    · exact statusStep_goJoining s
    · exact .refl s
  · exact .refl s

theorem statusStep_judgePair (s : State) (p : Nat) : StatusStep s (judgePair s p) := by
  unfold judgePair
  split
  · exact .refl s
  · dsimp only
    generalize hu : (if twnState s = 2 then _ else s) = u
    have hcounted : StatusStep s u := by
      rw [← hu]
      split <;> exact .of_twn rfl rfl
    refine hcounted.trans ?_
    split
    · split
      · exact statusStep_setDiverge ..
      · exact .of_twn rfl rfl
    · generalize (if (healthPair s (pseqBefore s p)).isSome then u.twn.equal else 0) + 1 = n
      split
      · exact statusStep_setDiverge ..
      · exact .of_twn rfl rfl

/-! ### Records used (R307 to R320) -/

/-- The registers that a record used may change. -/
def recordRegs : List Nat := [Reg.TWN.TWN_STATUS, Reg.TWN.PEER_ACT_CRC, Reg.TWN.PEER_AWN_CRC, Reg.TWN.PEER_CAL_CRC, Reg.TWN.PEER_OFS,
  Reg.TWN.PEER_DLY]

/-- What a record used leaves: the windows, PEER_ALIVE, and every register but those of the partner. -/
structure UsedStep (s t : State) : Prop where
  winA : t.twn.winA = s.twn.winA
  winB : t.twn.winB = s.twn.winB
  lastRec : t.twn.lastRec = s.twn.lastRec
  regs : RegsExcept recordRegs s t
  alive : rdB t Reg.TWN.TWN_STATUS 5 = rdB s Reg.TWN.TWN_STATUS 5

theorem UsedStep.trans {s t u : State} (h : UsedStep s t) (k : UsedStep t u) : UsedStep s u :=
  ⟨k.winA.trans h.winA, k.winB.trans h.winB, k.lastRec.trans h.lastRec, h.regs.trans k.regs, k.alive.trans h.alive⟩

theorem StatusStep.used {s t : State} (h : StatusStep s t) : UsedStep s t :=
  ⟨h.winA, h.winB, h.lastRec, h.regs.mono (by decide), h.alive⟩

/-- A step that leaves the registers and the windows. -/
theorem UsedStep.of_twn {s t : State} (hregs : t.regs = s.regs) (h : (t.twn.winA, t.twn.winB, t.twn.lastRec) =
    (s.twn.winA, s.twn.winB, s.twn.lastRec)) : UsedStep s t := by
  simp only [Prod.mk.injEq] at h
  obtain ⟨hA, hB, hlast⟩ := h
  exact ⟨hA, hB, hlast, .of_regs (.refl _ s) hregs, by simp only [rdB, rd, hregs]⟩

/-- What a HEALTH record tells. -/
def healthHeard (r : List Byte) : Health :=
  ⟨beAt r 20 4, w32 (beAt r 28 4), w32 (beAt r 32 4), w32 (beAt r 36 4), (beAt r 25 1).testBit 2⟩

/-- The partner's CRCs and STATE shown. -/
def peerShown (s : State) (r : List Byte) : State :=
  wrF (wr (wr (wr s Reg.TWN.PEER_ACT_CRC (w32 (beAt r 28 4))) Reg.TWN.PEER_AWN_CRC (w32 (beAt r 32 4)))
    Reg.TWN.PEER_CAL_CRC (w32 (beAt r 36 4))) Reg.TWN.TWN_STATUS 8 6 (beAt r 24 1 % 8)

/-- The partner's health kept. -/
def healthKept (s : State) (r : List Byte) : State :=
  { s with twn := { s.twn with
    peerH := (healthHeard r :: s.twn.peerH).take 32
    peerImp := ((beAt r 20 4, beAt r 24 1 % 8 == 3 && !(beAt r 24 1).testBit 3) :: s.twn.peerImp).take 32 } }

/-- After the partner's CRCs and STATE are shown, a HEALTH record is judged by status steps alone. -/
theorem takeHealth_step (s : State) (r : List Byte) : StatusStep (peerShown s r) (takeHealth s r) := by
  have hkept : StatusStep (peerShown s r) (healthKept (peerShown s r) r) := .of_twn rfl rfl
  have hmet := hkept.trans (statusStep_meetPeer (healthKept (peerShown s r) r) (beAt r 24 1 % 8))
  have hheard : takeHealth s r = judgePair
      (if (beAt r 25 1).testBit 3 && twnState (meetPeer (healthKept (peerShown s r) r) (beAt r 24 1 % 8)) == 4 then
        { meetPeer (healthKept (peerShown s r) r) (beAt r 24 1 % 8) with
          twn := { (meetPeer (healthKept (peerShown s r) r) (beAt r 24 1 % 8)).twn with joinAt := some (recInstant r 40) } }
      else meetPeer (healthKept (peerShown s r) r) (beAt r 24 1 % 8)) (beAt r 20 4) := rfl
  rw [hheard]
  generalize meetPeer (healthKept (peerShown s r) r) (beAt r 24 1 % 8) = u at hmet
  refine StatusStep.trans ?_ (statusStep_judgePair _ _)
  split
  · exact hmet.trans (.of_twn rfl rfl)
  · exact hmet

theorem peerShown_shows (s : State) (r : List Byte) : rdN (peerShown s r) Reg.TWN.PEER_ACT_CRC = beAt r 28 4 ∧
    rdN (peerShown s r) Reg.TWN.PEER_AWN_CRC = beAt r 32 4 ∧ rdN (peerShown s r) Reg.TWN.PEER_CAL_CRC = beAt r 36 4 ∧
    rdF (peerShown s r) Reg.TWN.TWN_STATUS 8 6 = beAt r 24 1 % 8 := by
  have hword (o : Nat) : (w32 (beAt r o 4)).toNat = beAt r o 4 := toNat_w32 (beAt_lt r o 4)
  refine ⟨?_, ?_, ?_, ?_⟩
  · rw [rdN, peerShown, rd_wrF, if_neg (by decide), rd_wr_other _ _ _ _ (by decide), rd_wr_other _ _ _ _ (by decide), rd_wr_same, hword]
  · rw [rdN, peerShown, rd_wrF, if_neg (by decide), rd_wr_other _ _ _ _ (by decide), rd_wr_same, hword]
  · rw [rdN, peerShown, rd_wrF, if_neg (by decide), rd_wr_same, hword]
  · rw [peerShown, rdF_wrF_same _ _ _ (by decide) (by decide)]
    exact Nat.mod_mod ..

theorem usedStep_peerShown (s : State) (r : List Byte) : UsedStep s (peerShown s r) := by
  refine ⟨rfl, rfl, rfl, ((((RegsExcept.refl _ s).wr _ (by decide)).wr _ (by decide)).wr _ (by decide)).wr _ (by decide), ?_⟩
  rw [rdB, peerShown, rd_wrF, if_pos rfl, bit_setFld_other _ _ _ _ _ (by decide) (by decide) (by decide),
    rd_wr_other _ _ _ _ (by decide), rd_wr_other _ _ _ _ (by decide), rd_wr_other _ _ _ _ (by decide)]
  rfl

theorem usedStep_takeHealth (s : State) (r : List Byte) : UsedStep s (takeHealth s r) :=
  (usedStep_peerShown s r).trans (takeHealth_step s r).used

/-- PEER_OFS and PEER_DLY as a TIME record gives them (R320). -/
def peerOffset (s : State) (r : List Byte) : Int :=
  clampI (-2147483648) 2147483647 (8 * (((recInstant r 40 : Int) - recInstant r 30) - ((nowNs s : Int) - recInstant r 20)))

def peerDelay (s : State) (r : List Byte) : Int :=
  clampI 0 4294967295 (8 * (((recInstant r 40 : Int) - recInstant r 30) + ((nowNs s : Int) - recInstant r 20)))

/-- The partner's times shown. -/
def timesShown (s : State) (ofs dly : Word) : State := wr (wr s Reg.TWN.PEER_OFS ofs) Reg.TWN.PEER_DLY dly

/-- The instant of the partner's record kept for the echo. -/
def echoKept (s : State) (t3 : Nat) : State := { s with twn := { s.twn with echo := some (t3, nowNs s) } }

theorem takeTime_eq (s : State) (r : List Byte) : takeTime s r =
    echoKept (timesShown s (w32i (peerOffset s r)) (w32i (peerDelay s r))) (recInstant r 20) := by
  unfold takeTime echoKept timesShown peerOffset peerDelay
  rfl

theorem timesKept_leaves (s : State) (ofs dly : Word) (t3 : Nat) : UsedStep s (echoKept (timesShown s ofs dly) t3) ∧
    (echoKept (timesShown s ofs dly) t3).twn.echo = some (t3, nowNs s) ∧
    rd (echoKept (timesShown s ofs dly) t3) Reg.TWN.PEER_OFS = ofs ∧ rd (echoKept (timesShown s ofs dly) t3) Reg.TWN.PEER_DLY = dly := by
  have hshown : UsedStep s (timesShown s ofs dly) := by
    refine ⟨rfl, rfl, rfl, ((RegsExcept.refl _ s).wr _ (by decide)).wr _ (by decide), ?_⟩
    rw [rdB, timesShown, rd_wr_other _ _ _ _ (by decide), rd_wr_other _ _ _ _ (by decide)]
    rfl
  refine ⟨hshown.trans (.of_twn rfl rfl), rfl, ?_, ?_⟩
  · exact (rd_wr_other _ _ _ _ (by decide)).trans (rd_wr_same ..)
  · exact rd_wr_same ..

theorem takeTime_leaves (s : State) (r : List Byte) : UsedStep s (takeTime s r) ∧
    (takeTime s r).twn.echo = some (recInstant r 20, nowNs s) ∧
    rd (takeTime s r) Reg.TWN.PEER_OFS = w32i (peerOffset s r) ∧ rd (takeTime s r) Reg.TWN.PEER_DLY = w32i (peerDelay s r) := by
  rw [takeTime_eq]
  exact timesKept_leaves ..

theorem usedStep_pairFence (s : State) (f p : FenceRec) : UsedStep s (pairFence s f p) := by
  refine .of_twn rfl ?_
  unfold pairFence
  dsimp only
  split <;> rfl

theorem usedStep_addPeerFence (s : State) (p : FenceRec) : UsedStep s (addPeerFence s p) := by
  unfold addPeerFence
  split
  · next f _ =>
    have htaken : UsedStep s { s with twn := { s.twn with ownF := s.twn.ownF.erase f } } := .of_twn rfl rfl
    exact htaken.trans (usedStep_pairFence ..)
  · exact .of_twn rfl rfl

theorem usedStep_useRecord (s : State) (r : List Byte) : UsedStep s (useRecord s r) := by
  unfold useRecord
  dsimp only
  split
  · exact usedStep_takeHealth s r
  · exact (takeTime_leaves s r).1
  · exact .of_twn rfl rfl
  · exact .of_twn rfl rfl
  · exact .of_twn rfl rfl
  · exact .of_twn rfl rfl
  · exact .of_twn rfl rfl
  · exact usedStep_addPeerFence ..
  · exact .of_twn rfl rfl

/-! ### Receipt (R302, R304, R308) -/

/-- The register that counts the records of a link. -/
def recordCount (l : Nat) : Nat := if l = 0 then Reg.TWN.REC_RX0 else Reg.TWN.REC_RX1

/-- A record counted on its link. -/
def recordHeard (s : State) (l : Nat) : State := bump { s with twn := { s.twn with heardAny := true } } (recordCount l)

/-- A record noted on its link: the state in which it is found late or used. -/
def recordNoted (s : State) (l : Nat) (r : List Byte) : State := noteRecord (recordHeard s l) r

/-- The record's deadline is past. -/
def foundLate (s : State) (r : List Byte) : Bool :=
  match recDeadline s r with
  | some d => past s d
  | none => false

theorem foundLate_past {s : State} {r : List Byte} {d : Nat} (h : recDeadline s r = some d) : foundLate s r = past s d := by
  rw [foundLate, h]

/-- A record that came late. -/
def recordLate (s : State) : State := raiseE (setDiverge (bump s Reg.TWN.LATE_REC) true) Page.TWN 6

/-- A link's count is neither REC_BAD nor a register that a record noted, late or used changes. -/
theorem recordCount_apart (l : Nat) : recordCount l ∉ Reg.TWN.REC_BAD :: Reg.TWN.LATE_REC :: recordRegs := by
  unfold recordCount
  split <;> decide

theorem recordCount_ne {a : Nat} (l : Nat) (h : a ∈ Reg.TWN.REC_BAD :: Reg.TWN.LATE_REC :: recordRegs) : recordCount l ≠ a :=
  fun heq => recordCount_apart l (heq.symm ▸ h)

theorem recordHeard_counts (s : State) (l : Nat) : rd (recordHeard s l) (recordCount l) = plusOne (rd s (recordCount l)) ∧
    RegsExcept [recordCount l] s (recordHeard s l) :=
  ⟨rd_bump_same .., RegsExcept.wr (.of_regs (.refl _ s) rfl) _ (List.mem_singleton_self _)⟩

theorem rd_recordHeard (s : State) {l a : Nat} (h : a ∈ Reg.TWN.REC_BAD :: Reg.TWN.LATE_REC :: recordRegs) :
    rd (recordHeard s l) a = rd s a :=
  (recordHeard_counts s l).2 a fun hin => recordCount_apart l (List.mem_singleton.mp hin ▸ h)

theorem twnRole_recordHeard (s : State) (l : Nat) : twnRole (recordHeard s l) = twnRole s := by
  rw [twnRole, rdB, (recordHeard_counts s l).2 _ (by unfold recordCount; split <;> decide)]
  rfl

section
variable {s : State} {l : Nat} {r : List Byte}

theorem receiveRecord_malformed (h : recFormed r = false) : receiveRecord l r s = bump (recordHeard s l) Reg.TWN.REC_BAD := by
  simp only [receiveRecord, h, Bool.not_false, if_true]
  rfl

variable (hformed : recFormed r = true)
include hformed

theorem receiveRecord_own (hown : recOrigin r = twnRole s) :
    receiveRecord l r s = wrB (bump (recordHeard s l) Reg.TWN.REC_BAD) Reg.TWN.TWN_STATUS 17 true := by
  refine (if_neg (by rw [hformed]; decide)).trans (if_pos ?_)
  rw [beq_iff_eq, hown]
  exact (twnRole_recordHeard s l).symm

variable (hother : recOrigin r ≠ twnRole s)
include hother

theorem receiveRecord_again (hseen : (seqWindow s (recOrigin r)).contains (recSeq r) = true) :
    receiveRecord l r s = recordHeard s l := by
  refine (if_neg (by rw [hformed]; decide)).trans ((if_neg ?_).trans (if_pos hseen))
  rw [beq_iff_eq]
  exact fun h => hother (h.trans (twnRole_recordHeard s l))

theorem receiveRecord_first (hnew : (seqWindow s (recOrigin r)).contains (recSeq r) = false) :
    receiveRecord l r s = if foundLate (recordNoted s l r) r then recordLate (recordNoted s l r)
      else useRecord (recordNoted s l r) r := by
  refine (if_neg (by rw [hformed]; decide)).trans ((if_neg ?_).trans (if_neg (Bool.eq_false_iff.mp hnew)))
  rw [beq_iff_eq]
  exact fun h => hother (h.trans (twnRole_recordHeard s l))

end

/-- A record noted: it stands first in its origin's window, and the partner is alive. -/
theorem noteRecord_leaves (s : State) (r : List Byte) : rdB (noteRecord s r) Reg.TWN.TWN_STATUS 5 = true ∧
    seqWindow (noteRecord s r) (recOrigin r) = (recSeq r :: seqWindow s (recOrigin r)).take 1024 ∧
    (noteRecord s r).twn.lastRec = s.time.uptime ∧ (noteRecord s r).twn.ops = s.twn.ops ∧
    (noteRecord s r).twn.peerF = s.twn.peerF ∧ (noteRecord s r).twn.ownF = s.twn.ownF ∧ (noteRecord s r).time = s.time ∧
    RegsExcept [Reg.TWN.TWN_STATUS] s (noteRecord s r) := by
  refine ⟨?_, ?_, ?_, ?_, ?_, ?_, rfl, RegsExcept.wr (.of_regs (.refl _ s) rfl) _ (List.mem_singleton_self _)⟩
  · rw [noteRecord, rdB, rd_wrB, if_pos rfl, bit_setBit_same _ _ _ (by decide)]
  all_goals
    unfold noteRecord
    cases recOrigin r <;> rfl

theorem recordLate_leaves (s : State) : StatusStep (bump s Reg.TWN.LATE_REC) (recordLate s) ∧
    rdB (recordLate s) Reg.TWN.TWN_STATUS 13 = true := by
  have hdiverged := statusStep_setDiverge (bump s Reg.TWN.LATE_REC) true
  refine ⟨hdiverged.trans (.of_twn (raiseE_regs ..) (by rw [recordLate, raiseE_twn])), ?_⟩
  rw [rdB, recordLate, rd_raiseE, setDiverge, rd_wrB, if_pos rfl, bit_setBit_other _ _ _ _ (by decide) (by decide), rd_wrB, if_pos rfl,
    bit_setBit_same _ _ _ (by decide)]

section
variable (s : State) (l : Nat) (r : List Byte)

/-- Noting a record counts it, leaves the time and what waits, and of the registers changes its link's count and TWN_STATUS. -/
theorem recordNoted_leaves : rd (recordNoted s l r) (recordCount l) = plusOne (rd s (recordCount l)) ∧
    RegsExcept [recordCount l, Reg.TWN.TWN_STATUS] s (recordNoted s l r) ∧ (recordNoted s l r).twn.ops = s.twn.ops ∧
    (recordNoted s l r).twn.peerF = s.twn.peerF ∧ (recordNoted s l r).twn.ownF = s.twn.ownF ∧ (recordNoted s l r).time = s.time := by
  obtain ⟨hcount, hregs⟩ := recordHeard_counts s l
  obtain ⟨-, -, -, hops, hpeer, hown, htime, hnoted⟩ := noteRecord_leaves (recordHeard s l) r
  refine ⟨(hnoted _ ?_).trans hcount, (hregs.mono (by simp)).trans (hnoted.mono (by simp)), hops, hpeer, hown, htime⟩
  unfold recordCount
  split <;> decide

theorem rd_recordNoted {a : Nat} (ha : a ∉ [Reg.TWN.REC_RX0, Reg.TWN.REC_RX1, Reg.TWN.TWN_STATUS]) :
    rd (recordNoted s l r) a = rd s a := by
  refine (recordNoted_leaves s l r).2.1 a fun hin => ha ?_
  unfold recordCount at hin
  split at hin <;> simp_all

/-- Noting a record leaves deadlines, and whether they are past. -/
theorem recordNoted_deadline : recDeadline (recordNoted s l r) r = recDeadline s r ∧
    ∀ d, past (recordNoted s l r) d = past s d := by
  obtain ⟨-, -, -, -, -, htime⟩ := recordNoted_leaves s l r
  refine ⟨?_, fun d => ?_⟩
  · simp only [recDeadline, mirrorDelay, rdF, rd_recordNoted s l r (a := Reg.TWN.MIRROR_DELAY) (by decide)]
  · rw [past, increment, rdN, rdN, htime, rd_recordNoted s l r (by decide), rd_recordNoted s l r (by decide)]
    rfl

end

section
variable {s : State} {l : Nat} {r : List Byte} (hformed : recFormed r = true) (hother : recOrigin r ≠ twnRole s)
  (hnew : (seqWindow s (recOrigin r)).contains (recSeq r) = false)
include hformed hother hnew

theorem receiveRecord_late {d : Nat} (hdeadline : recDeadline s r = some d) (hpast : past s d = true) :
    receiveRecord l r s = recordLate (recordNoted s l r) := by
  obtain ⟨hsame, htest⟩ := recordNoted_deadline s l r
  rw [receiveRecord_first hformed hother hnew, if_pos]
  rw [foundLate_past (hsame.trans hdeadline), htest, hpast]

theorem receiveRecord_used (htime : ∀ d, recDeadline s r = some d → past s d = false) :
    receiveRecord l r s = useRecord (recordNoted s l r) r := by
  obtain ⟨hsame, htest⟩ := recordNoted_deadline s l r
  rw [receiveRecord_first hformed hother hnew, if_neg]
  cases hdeadline : recDeadline s r with
  | none => simp [foundLate, hsame, hdeadline]
  | some d => simp [foundLate_past (hsame.trans hdeadline), htest, htime d hdeadline]

end

/-! ### Uses by TYPE -/

section
variable {s : State} {r : List Byte}

theorem useRecord_health (h : recType r = 1) : useRecord s r = takeHealth s r := by simp only [useRecord, h]

theorem useRecord_time (h : recType r = 2) : useRecord s r = takeTime s r := by simp only [useRecord, h]

/-- The operation that a record of TYPE 3, 4, 6 or 7 mirrors. -/
def MirrorsOp (r : List Byte) (op : MirOp) : Prop :=
  recType r = 3 ∧ op = .commit (w32 (beAt r 20 4)) (w32 (beAt r 24 1 % 16)) ∨ recType r = 4 ∧ op = .cancel (w32 (beAt r 20 4)) ∨
    recType r = 6 ∧ op = .flip (beAt r 20 8) ∨ recType r = 7 ∧ op = .place (w32 (beAt r 20 4)) (bytesAt r 24 48)

theorem useRecord_waits {op : MirOp} (h : MirrorsOp r op) :
    useRecord s r = addOp s ⟨recOrigin r, recSeq r, recE r, op, none, none⟩ := by
  rcases h with ⟨htype, rfl⟩ | ⟨htype, rfl⟩ | ⟨htype, rfl⟩ | ⟨htype, rfl⟩ <;> simp only [useRecord, htype]

/-- A DIGEST stands with the first commit pending, if that is the one it names. -/
theorem useRecord_digest (h : recType r = 5) {o : MirPend} {rest : List MirPend} {m x : Word} (hops : s.twn.ops = o :: rest)
    (horigin : o.origin = (beAt r 20 1).testBit 0) (hseq : o.rseq = beAt r 24 4) (hop : o.op = .commit m x) :
    (useRecord s r).twn.ops = { o with peer := some (w32 (beAt r 28 4)) } :: rest := by
  simp only [useRecord, h, hops, replaceFirst, horigin, hseq, hop, beq_self_eq_true, Bool.and_self, if_true]

theorem useRecord_fence (h : recType r = 8) (hnone : s.twn.ownF = []) : (useRecord s r).twn.peerF = s.twn.peerF ++
    [⟨beAt r 20 1 % 64, (beAt r 21 1).testBit 1, w32 (beAt r 24 4), recInstant r 28, recE r, (beAt r 21 1).testBit 0, 0, 0, false⟩] := by
  simp only [useRecord, h, addPeerFence, hnone, List.find?_nil]

end

/-! ### The rows of records -/

/-- A record's row receives it where the link hears and TYPE is the row's. -/
theorem exec_recordRow {s : State} {l ty : Nat} {r : List Byte} {c : Instr} (hawake : Awake s)
    (hrow : (c, ty) ∈ [(Instr.healthRecord l r, 1), (.timeRecord l r, 2), (.commitRecord l r, 3), (.cancelRecord l r, 4),
      (.digestRecord l r, 5), (.flipRecord l r, 6), (.placeRecord l r, 7), (.fenceRecord l r, 8)]) :
    exec c s = .next (typedRecord ty l r s) := by
  simp only [List.mem_cons, Prod.mk.injEq, List.not_mem_nil, or_false] at hrow
  rcases hrow with ⟨rfl, rfl⟩ | ⟨rfl, rfl⟩ | ⟨rfl, rfl⟩ | ⟨rfl, rfl⟩ | ⟨rfl, rfl⟩ | ⟨rfl, rfl⟩ | ⟨rfl, rfl⟩ | ⟨rfl, rfl⟩ <;>
    exact live_awake hawake

theorem typedRecord_deaf {s : State} {l ty : Nat} {r : List Byte} (h : linkHears s l = false) : typedRecord ty l r s = s := by
  rw [typedRecord, h]
  rfl

theorem typedRecord_hears {s : State} {l ty : Nat} {r : List Byte} (h : linkHears s l = true) (hty : recType r = ty) :
    typedRecord ty l r s = receiveRecord l r s := by
  rw [typedRecord, h, hty, beq_self_eq_true]
  rfl

theorem malformedRecord_ignored {s : State} {l : Nat} {r : List Byte} (hawake : Awake s)
    (h : linkHears s l = false ∨ recFormed r = true) : exec (.malformedRecord l r) s = .next s := by
  refine (live_awake hawake).trans (congrArg Host.Outcome.next (if_neg ?_))
  obtain h | h := h <;> rw [h] <;> simp

theorem malformedRecord_received {s : State} {l : Nat} {r : List Byte} (hawake : Awake s) (h : linkHears s l = true)
    (hbad : recFormed r = false) : exec (.malformedRecord l r) s = .next (receiveRecord l r s) := by
  refine (live_awake hawake).trans (congrArg Host.Outcome.next (if_pos ?_))
  rw [h, hbad]
  rfl

/-- The registers a record that enters the window may change. -/
theorem regsExcept_recordNoted {s t : State} {l : Nat} {r : List Byte}
    (h : RegsExcept (Reg.TWN.LATE_REC :: recordRegs) (recordNoted s l r) t) :
    RegsExcept [recordCount l, Reg.TWN.TWN_STATUS, Reg.TWN.LATE_REC, Reg.TWN.PEER_ACT_CRC, Reg.TWN.PEER_AWN_CRC, Reg.TWN.PEER_CAL_CRC,
      Reg.TWN.PEER_OFS, Reg.TWN.PEER_DLY] s t := by
  obtain ⟨-, hregs, -⟩ := recordNoted_leaves s l r
  refine (hregs.mono ?_).trans (h.mono ?_)
  · simp
  · simp [recordRegs]

end Sys2Proof.Machine
end

section
open Sys2Proof Sys2Proof.Machine

/-- Settles O45: a record of any row is counted, then judged in R308's order, and used by its TYPE. -/
theorem twinRecords : Obligations.TwinRecords := by
  intro s l r c ty hawake hrow htype
  have hexec := exec_recordRow hawake hrow
  refine ⟨fun hdeaf => ⟨by rw [hexec, typedRecord_deaf hdeaf], malformedRecord_ignored hawake (.inl hdeaf)⟩, ?_⟩
  intro hhears rx hrx
  obtain rfl : rx = recordCount l := hrx
  rw [typedRecord_hears hhears htype] at hexec
  obtain ⟨hcount, hregs⟩ := recordHeard_counts s l
  have hbadCount : rd (bump (recordHeard s l) Reg.TWN.REC_BAD) (recordCount l) = plusOne (rd s (recordCount l)) :=
    (rd_bump_other _ (recordCount_ne l List.mem_cons_self)).trans hcount
  have hbad : rd (bump (recordHeard s l) Reg.TWN.REC_BAD) Reg.TWN.REC_BAD = plusOne (rd s Reg.TWN.REC_BAD) := by
    rw [rd_bump_same, rd_recordHeard s List.mem_cons_self]
  refine ⟨fun hformed => malformedRecord_ignored hawake (.inr hformed), fun hbroken => ⟨?_, _, hexec, ?_⟩,
    fun hformed hown => ⟨_, hexec, ?_⟩, fun hformed hother hseen => ⟨_, hexec, ?_⟩, fun hformed hother hnew => ⟨_, hexec, ?_⟩⟩
  · rw [malformedRecord_received hawake hhears hbroken, hexec]
  · rw [receiveRecord_malformed hbroken]
    exact ⟨hbadCount, hbad, rfl, RegsExcept.wr (hregs.mono (by simp)) _ (by simp)⟩
  · rw [receiveRecord_own hformed hown]
    refine ⟨?_, ?_, ?_, ?_⟩
    · rw [rd_wrB, if_neg (recordCount_ne l (by decide))]
      exact hbadCount
    · rw [rd_wrB, if_neg (by decide)]
      exact hbad
    · rw [twnClash, rdB, rd_wrB, if_pos rfl, bit_setBit_same _ _ _ (by decide)]
    · exact RegsExcept.wr (RegsExcept.wr (hregs.mono (by simp)) _ (by simp)) _ (by simp)
  · rw [receiveRecord_again hformed hother hseen]
    exact ⟨hcount, rfl, hregs⟩
  · obtain ⟨hnotedCount, -, hops, hpeerF, hownF, htime⟩ := recordNoted_leaves s l r
    obtain ⟨halive, hwindow, hlast, -⟩ := noteRecord_leaves (recordHeard s l) r
    have hlateReg : rd (recordNoted s l r) Reg.TWN.LATE_REC = rd s Reg.TWN.LATE_REC := rd_recordNoted s l r (by decide)
    have hwindowOf {t : State} (hA : t.twn.winA = (recordNoted s l r).twn.winA) (hB : t.twn.winB = (recordNoted s l r).twn.winB) :
        seqWindow t (recOrigin r) = (recSeq r :: seqWindow s (recOrigin r)).take 1024 := by
      rw [seqWindow, hA, hB]
      exact hwindow
    by_cases hlate : ∃ d, recDeadline s r = some d ∧ past s d = true
    · obtain ⟨d, hdeadline, hpast⟩ := hlate
      rw [receiveRecord_late hformed hother hnew hdeadline hpast]
      obtain ⟨hstep, hdiverge⟩ := recordLate_leaves (recordNoted s l r)
      have hstored : RegsExcept (Reg.TWN.LATE_REC :: recordRegs) (recordNoted s l r) (recordLate (recordNoted s l r)) :=
        (RegsExcept.wr (.refl _ _) _ List.mem_cons_self).trans (hstep.regs.mono (by decide))
      refine ⟨(hstored _ ?_).trans hnotedCount, ?_, hwindowOf hstep.winA hstep.winB, hstep.lastRec.trans hlast,
        regsExcept_recordNoted hstored, fun _ _ _ => ⟨?_, hdiverge, hstep.ops.trans hops, hstep.peerF.trans hpeerF⟩,
        fun htimely => absurd hpast (by rw [htimely d hdeadline]; decide)⟩
      · exact fun h => recordCount_apart l (List.mem_cons_of_mem _ h)
      · rw [hstep.alive, rdB, rd_bump_other _ (by decide), ← rdB]
        exact halive
      · rw [hstep.regs _ (by decide), rd_bump_same, hlateReg]
    · have htimely : ∀ d, recDeadline s r = some d → past s d = false := fun d hdeadline => by
        rw [← Bool.not_eq_true]
        exact fun hpast => hlate ⟨d, hdeadline, hpast⟩
      rw [receiveRecord_used hformed hother hnew htimely]
      have hstep := usedStep_useRecord (recordNoted s l r) r
      refine ⟨(hstep.regs _ ?_).trans hnotedCount, hstep.alive.trans halive, hwindowOf hstep.winA hstep.winB, hstep.lastRec.trans hlast,
        regsExcept_recordNoted (hstep.regs.mono (List.subset_cons_self ..)),
        fun d hdeadline hpast => absurd hpast (by rw [htimely d hdeadline]; decide),
        fun _ => ⟨(hstep.regs _ (by decide)).trans hlateReg, fun hty => ?_, fun hty => ?_, fun op hop => ?_,
          fun o rest m x hty ho horigin hseq hcommit => ?_, fun hty hnone => ?_⟩⟩
      · exact fun h => recordCount_apart l (List.mem_cons_of_mem _ (List.mem_cons_of_mem _ h))
      · rw [useRecord_health (htype.trans hty)]
        obtain ⟨hact, hawn, hcal, hstate⟩ := peerShown_shows (recordNoted s l r) r
        have hjudged := takeHealth_step (recordNoted s l r) r
        have hkept {a : Nat} (ha : a ∉ [Reg.TWN.TWN_STATUS]) :
            rdN (takeHealth (recordNoted s l r) r) a = rdN (peerShown (recordNoted s l r) r) a := by
          rw [rdN, hjudged.regs a ha, rdN]
        exact ⟨(hkept (by decide)).trans hact, (hkept (by decide)).trans hawn, (hkept (by decide)).trans hcal, hjudged.peer.trans hstate⟩
      · rw [useRecord_time (htype.trans hty)]
        obtain ⟨-, hecho, hofs, hdly⟩ := takeTime_leaves (recordNoted s l r) r
        have hnow : nowNs (recordNoted s l r) = nowNs s := by rw [nowNs, htime, nowNs]
        rw [peerOffset, hnow] at hofs
        rw [peerDelay, hnow] at hdly
        rw [hnow] at hecho
        exact ⟨hecho, hofs, hdly⟩
      · have hmirrors : MirrorsOp r op := by
          rw [← htype] at hop
          exact hop
        rw [useRecord_waits hmirrors, ← hops]
        rfl
      · exact useRecord_digest (htype.trans hty) (hops.trans ho) horigin hseq hcommit
      · rw [useRecord_fence (htype.trans hty) (hownF.trans hnone), hpeerF]

end

section
/-! SUPPORT. DMA channels (R337 to R346): what a stop, a move and a pulse leave of the channels, of memory and of the registers. -/

namespace Sys2Proof.Machine

theorem MemoryExcept.refl (l : List (Nat × Nat)) (s : State) : MemoryExcept l s s := ⟨fun _ _ => rfl, fun _ _ => rfl⟩

/-- Two steps that keep to the same ranges keep to them together. -/
theorem MemoryExcept.chain {l : List (Nat × Nat)} {s t u : State} (h : MemoryExcept l s t) (k : MemoryExcept l t u) :
    MemoryExcept l s u := ⟨fun a ha => (k.1 a ha).trans (h.1 a ha), fun a ha => (k.2 a ha).trans (h.2 a ha)⟩

/-! ### Channels that are only noted something -/

/-- A channel that sees a trigger, or a stream that it met, and is otherwise as before. -/
def Beside (x y : DmaCh) : Prop := ∃ trig met, y = { x with trig := trig, met := met }

theorem Beside.refl (x : DmaCh) : Beside x x := ⟨x.trig, x.met, rfl⟩

theorem Beside.trans {x y z : DmaCh} (h : Beside x y) (k : Beside y z) : Beside x z := by
  obtain ⟨_, _, rfl⟩ := h
  obtain ⟨trig, met, rfl⟩ := k
  exact ⟨trig, met, rfl⟩

/-- Every channel but `ch` is at most noted something. -/
def Others (ch : Nat) (s t : State) : Prop := ∀ c, c ≠ ch → Beside (dmaCh s c) (dmaCh t c)

theorem Others.refl (ch : Nat) (s : State) : Others ch s s := fun _ _ => .refl _

theorem Others.trans {ch : Nat} {s t u : State} (h : Others ch s t) (k : Others ch t u) : Others ch s u :=
  fun c hc => (h c hc).trans (k c hc)

theorem Others.of_same {ch : Nat} {s t : State} (h : OtherChannels ch s t) : Others ch s t := fun c hc => (h c hc).symm ▸ .refl _

theorem Others.of_all {ch : Nat} {s t : State} (h : ∀ c, Beside (dmaCh s c) (dmaCh t c)) : Others ch s t := fun c _ => h c

theorem Others.runs {ch : Nat} {s t : State} (h : Others ch s t) : OtherRuns ch s t := fun c hc => by
  obtain ⟨_, _, heq⟩ := h c hc
  rw [heq]
  exact ⟨rfl, rfl⟩

theorem dmaCh_congr {s t : State} (h : t.dma = s.dma) (c : Nat) : dmaCh t c = dmaCh s c := by rw [dmaCh, h, dmaCh]

/-- A fold over the channels in which each step only notes something. -/
theorem beside_foldl {f : State → Nat → State} (h : ∀ s i c, Beside (dmaCh s c) (dmaCh (f s i) c)) (l : List Nat) (s : State) (c : Nat) :
    Beside (dmaCh s c) (dmaCh (l.foldl f s) c) := by
  induction l generalizing s with
  | nil => exact .refl _
  | cons i l ih => exact (h s i c).trans (ih (f s i))

theorem beside_setDma (s : State) (i c : Nat) {x : DmaCh} (h : Beside (dmaCh s i) x) : Beside (dmaCh s c) (dmaCh (setDma s i x) c) := by
  rw [dmaCh_setDma]
  split
  · next hc => rw [hc]; exact h
  · exact .refl _

theorem beside_notify (s : State) (l c : Nat) : Beside (dmaCh s c) (dmaCh (notify s l) c) := by
  refine beside_foldl (fun s i c => ?_) (List.range 16) s c
  split
  · exact beside_setDma s i c ⟨true, (dmaCh s i).met, rfl⟩
  · exact .refl _

/-- A pulse is at most a trigger to a channel. -/
theorem beside_pulse (s : State) (l c : Nat) : Beside (dmaCh s c) (dmaCh (pulse s l) c) := by
  rcases pulse_cases s l with h | h | ⟨e, h⟩ <;> rw [h]
  · exact .refl _
  · simp only [dmaCh_raiseE, dmaCh_wr, dmaCh_bump]
    exact .refl _
  · exact beside_notify { s with evf := e } l c

theorem pulse_memory (s : State) (l : Nat) : SameMemory s (pulse s l) := by
  obtain ⟨-, hmem, hhost, -⟩ := pulse_keep s l
  exact sameMemory_of_stores hmem hhost

/-! ### Streams that end (R340) -/

/-- One channel of those that note a stream's end. -/
def noteEnd (ch : Nat) (l : List Shape) (s : State) (c : Nat) : State :=
  if c != ch && (dmaCh s c).phase == .move then setDma s c { dmaCh s c with met := (dmaCh s c).met ++ l } else s

theorem endStream_dma (s : State) (ch : Nat) (l : List Shape) :
    (endStream s ch l).dma = ((List.range 16).foldl (noteEnd ch l) s).dma := by
  unfold endStream
  dsimp only
  split <;> rfl

theorem noteEnd_others (ch : Nat) (l : List Shape) (s : State) (i c : Nat) : Beside (dmaCh s c) (dmaCh (noteEnd ch l s i) c) := by
  unfold noteEnd
  split
  · exact beside_setDma s i c ⟨_, _, rfl⟩
  · exact .refl _

theorem noteEnd_own (ch : Nat) (l : List Shape) (s : State) (i : Nat) : dmaCh (noteEnd ch l s i) ch = dmaCh s ch := by
  unfold noteEnd
  split
  · next h =>
    rw [Bool.and_eq_true, bne_iff_ne] at h
    exact dmaCh_setDma_other _ _ _ _ (Ne.symm h.1)
  · rfl

theorem endStream_own (s : State) (ch : Nat) (l : List Shape) : dmaCh (endStream s ch l) ch = dmaCh s ch := by
  rw [dmaCh, endStream_dma]
  exact foldl_keep (fun t => dmaCh t ch) _ (noteEnd_own ch l) _ s

theorem endStream_others (s : State) (ch : Nat) (l : List Shape) (c : Nat) : Beside (dmaCh s c) (dmaCh (endStream s ch l) c) := by
  rw [dmaCh_congr (endStream_dma s ch l)]
  exact beside_foldl (noteEnd_others ch l) _ s c

theorem leaveStream_own (s : State) (ch : Nat) : dmaCh (leaveStream s ch) ch = dmaCh s ch := by
  unfold leaveStream
  split
  · exact endStream_own ..
  · rfl

theorem leaveStream_others (s : State) (ch : Nat) : Others ch s (leaveStream s ch) := by
  unfold leaveStream
  split
  · exact fun c _ => endStream_others _ _ _ c
  · exact .refl _ _

/-- A channel that moves nothing ends no stream. -/
theorem leaveStream_still {s : State} {ch : Nat} (h : (dmaCh s ch).phase ≠ .move) : leaveStream s ch = s := by
  unfold leaveStream
  split
  · next hmove _ => exact absurd hmove h
  · rfl

theorem leaveStream_memory (s : State) (ch : Nat) : SameMemory s (leaveStream s ch) := by
  rw [leaveStream_frame]
  exact sameMemory_of_stores rfl rfl

/-! ### Stops (R344, R346) -/

theorem drain_own (s : State) (ch : Nat) (error : Bool) :
    dmaCh (drain s ch error) ch = { dmaCh s ch with phase := .drain, ahead := none, error := error } := by
  unfold drain
  dsimp only
  rw [dmaCh_setDma_same, leaveStream_own]

theorem drain_others (s : State) (ch : Nat) (error : Bool) : Others ch s (drain s ch error) :=
  (leaveStream_others s ch).trans (.of_same fun c hc => by
    unfold drain
    dsimp only
    rw [dmaCh_setDma_other _ _ _ _ hc, dmaCh_wrB])

/-- A channel that moves nothing stops unseen by the others. -/
theorem drain_still {s : State} {ch : Nat} (error : Bool) (h : (dmaCh s ch).phase ≠ .move) : OtherChannels ch s (drain s ch error) := by
  intro c hc
  unfold drain
  dsimp only
  rw [dmaCh_setDma_other _ _ _ _ hc, dmaCh_wrB, leaveStream_still h]

theorem drain_memory (s : State) (ch : Nat) (error : Bool) : SameMemory s (drain s ch error) := by
  have hleft := leaveStream_memory s ch
  unfold drain
  dsimp only
  generalize leaveStream s ch = u at hleft
  exact hleft

/-- The registers that a recorded error writes. -/
def errRegs (ch : Nat) : List Nat := [Reg.DC.ERR ch, Reg.DC.ERR_ADDR_LO ch, Reg.DC.ERR_ADDR_HI ch]

/-- An error recorded shows its bit, and leaves the channels, memory and every other register. -/
theorem noteErr_leaves (s : State) (ch b addr : Nat) (hb : b < 32) : rdB (noteErr s ch b addr) (Reg.DC.ERR ch) b = true ∧
    (noteErr s ch b addr).dma = s.dma ∧ SameMemory s (noteErr s ch b addr) ∧ RegsExcept (errRegs ch) s (noteErr s ch b addr) := by
  have hmarked : RegsExcept (errRegs ch) s (wrB s (Reg.DC.ERR ch) b true) := (RegsExcept.refl _ s).wr _ (by simp [errRegs])
  have hbit : rdB (wrB s (Reg.DC.ERR ch) b true) (Reg.DC.ERR ch) b = true := by
    rw [rdB, rd_wrB, if_pos rfl, bit_setBit_same _ _ _ hb]
  unfold noteErr
  dsimp only
  split
  · refine ⟨?_, rfl, sameMemory_of_stores rfl rfl, (hmarked.wr _ (by simp [errRegs])).wr _ (by simp [errRegs])⟩
    have hkept := rd_wr64_other (wrB s (Reg.DC.ERR ch) b true) (lo := Reg.DC.ERR_ADDR_LO ch) (hi := Reg.DC.ERR_ADDR_HI ch)
      (b := Reg.DC.ERR ch) (addr % 2 ^ 64) (by simp) (by simp)
    exact (congrArg (bit · b) hkept).trans hbit
  · exact ⟨hbit, rfl, sameMemory_of_stores rfl rfl, hmarked⟩

/-- What an error that stops a run leaves. -/
structure Failed (ch b : Nat) (s t : State) : Prop where
  own : dmaCh t ch = { dmaCh s ch with phase := .drain, ahead := none, error := true }
  others : Others ch s t
  still : (dmaCh s ch).phase ≠ .move → OtherChannels ch s t
  memory : SameMemory s t
  shown : rdB t (Reg.DC.ERR ch) b = true
  regs : RegsExcept (Reg.DC.STATUS ch :: errRegs ch) s t

theorem failRun_fails (s : State) (ch addr : Nat) {b : Nat} (hb : b < 32) : Failed ch b s (failRun s ch b addr) := by
  obtain ⟨hshown, hdma, hmemory, hregs⟩ := noteErr_leaves s ch b addr hb
  have hsame (c : Nat) : dmaCh (noteErr s ch b addr) c = dmaCh s c := dmaCh_congr hdma c
  have hdrained := drain_memory (noteErr s ch b addr) ch true
  have hstatus := drain_regs (noteErr s ch b addr) ch true
  refine ⟨?_, ?_, fun hstill c hc => ?_, ⟨?_, ?_⟩, ?_, ?_⟩
  · rw [failRun, drain_own, hsame]
  · exact (Others.of_same fun c _ => hsame c).trans (drain_others _ _ _)
  · rw [failRun, drain_still true (by rw [hsame]; exact hstill) c hc, hsame]
  · exact fun a => (hdrained.1 a).trans (hmemory.1 a)
  · exact fun a => (hdrained.2 a).trans (hmemory.2 a)
  · rw [rdB, failRun, hstatus _ (by simp)]
    exact hshown
  · exact (hregs.mono (by simp)).trans (hstatus.mono (by simp))

/-! ### Moving (R340, R342) -/

/-- The lines of a descriptor's destination. -/
def dstLines (d : DmaDesc) : List (Nat × Nat) :=
  (List.range d.dLines).map fun i => (streamAddr d.dst d.dLen d.dStep (i * d.dLen), d.dLen)

theorem writeStream_frame (d : DmaDesc) (n : Nat) (s : State) (i : Nat) (bs : List Byte) : writeStream d n s i bs =
    { s with
      mem := (writeStream d n s i bs).mem
      poison := (writeStream d n s i bs).poison
      hostMem := (writeStream d n s i bs).hostMem } := by
  suffices h : ∃ m p h, writeStream d n s i bs = { s with mem := m, poison := p, hostMem := h } by
    obtain ⟨m, p, h, heq⟩ := h
    rw [heq]
  induction n generalizing s i bs with
  | zero => exact ⟨_, _, _, rfl⟩
  | succ n ih =>
    unfold writeStream
    split
    · exact ⟨_, _, _, rfl⟩
    · dsimp only
      obtain ⟨m, p, h, heq⟩ := ih (devWrite s (streamAddr d.dst d.dLen d.dStep i) (bs.take (d.dLen - i % d.dLen)))
        (i + (d.dLen - i % d.dLen)) (bs.drop (d.dLen - i % d.dLen))
      rw [heq, devWrite_frame]
      exact ⟨m, p, h, rfl⟩

/-- A piece of a stream within one line lies in the line, also where the line starts below address 0. -/
theorem streamAddr_inLine (d : DmaDesc) {i n : Nat} (hlen : 0 < d.dLen) (hn : n ≤ d.dLen - i % d.dLen) :
    streamAddr d.dst d.dLen d.dStep (i / d.dLen * d.dLen) ≤ streamAddr d.dst d.dLen d.dStep i ∧
      streamAddr d.dst d.dLen d.dStep i + n ≤ streamAddr d.dst d.dLen d.dStep (i / d.dLen * d.dLen) + d.dLen := by
  have hmod : i % d.dLen < d.dLen := Nat.mod_lt _ hlen
  unfold streamAddr
  rw [Nat.mul_div_cancel _ hlen, Nat.mul_mod_left]
  generalize (d.dst : Int) + (i / d.dLen : Nat) * d.dStep = line
  omega

/-- A stream's bytes, as far as the descriptor reaches, are written in the destination's lines alone. -/
theorem writeStream_except (d : DmaDesc) (n : Nat) (s : State) (i : Nat) (bs : List Byte) (hlen : 0 < d.dLen)
    (hend : i + bs.length ≤ d.dLen * d.dLines) : MemoryExcept (dstLines d) s (writeStream d n s i bs) := by
  induction n generalizing s i bs with
  | zero => exact .refl _ _
  | succ n ih =>
    unfold writeStream
    split
    · exact .refl _ _
    · next hne =>
      have hpos : 0 < bs.length := List.length_pos_of_ne_nil (fun h => hne (by rw [h]; rfl))
      have htake : (bs.take (d.dLen - i % d.dLen)).length ≤ d.dLen - i % d.dLen := List.length_take_le ..
      obtain ⟨hlow, hhigh⟩ := streamAddr_inLine d hlen htake
      refine MemoryExcept.chain ?_ (ih _ _ _ ?_)
      · refine (devWrite_except s _ _).mono fun x hx => ?_
        rw [List.mem_singleton] at hx
        subst hx
        refine ⟨_, List.mem_map.mpr ⟨i / d.dLen, List.mem_range.mpr ?_, rfl⟩, hlow, hhigh⟩
        exact Nat.div_lt_of_lt_mul (by omega)
      · rw [List.length_drop]
        have hmod : i % d.dLen < d.dLen := Nat.mod_lt _ hlen
        by_cases hshort : bs.length ≤ d.dLen - i % d.dLen
        · have hrow : i / d.dLen < d.dLines := Nat.div_lt_of_lt_mul (by omega)
          have hline : d.dLen * (i / d.dLen + 1) ≤ d.dLen * d.dLines := Nat.mul_le_mul_left _ hrow
          have hsplit := Nat.div_add_mod i d.dLen
          rw [Nat.mul_add, Nat.mul_one] at hline
          omega
        · omega

section
variable (s : State) (ch : Nat) (d : DmaDesc) (upto : Nat) (hd : List Byte)

theorem streamCounted_dma : (streamCounted s ch d upto hd).dma = s.dma := by
  unfold streamCounted streamMoved
  rw [bump64_dma, bump64_dma, writeStream_frame]

theorem moveTo_own : dmaCh (moveTo s ch d upto hd) ch = { dmaCh s ch with moved := moveEnd s ch d upto } := by
  rw [moveTo_eq, dmaCh_wr, dmaCh_setDma_same, dmaCh_congr (streamCounted_dma s ch d upto hd)]

theorem moveTo_others : OtherChannels ch s (moveTo s ch d upto hd) := by
  intro c hc
  rw [moveTo_eq, dmaCh_wr, dmaCh_setDma_other _ _ _ _ hc, dmaCh_congr (streamCounted_dma s ch d upto hd)]

theorem moveTo_residual : rd (moveTo s ch d upto hd) (Reg.DC.RESIDUAL ch) = w32 (min 0xFFFFFF (d.total - moveEnd s ch d upto)) := by
  rw [moveTo_eq, rd_wr_same]

theorem moveTo_mem : (moveTo s ch d upto hd).mem = (streamMoved s ch d upto hd).mem ∧
    (moveTo s ch d upto hd).hostMem = (streamMoved s ch d upto hd).hostMem := by
  rw [moveTo_eq, wr_mem, wr_hostMem, setDma_mem, setDma_hostMem]
  unfold streamCounted
  rw [bump64_mem, bump64_mem, bump64_hostMem, bump64_hostMem]
  exact ⟨rfl, rfl⟩

theorem length_moveBytes : (moveBytes s ch d upto hd).length = moveEnd s ch d upto - (dmaCh s ch).moved := by
  rw [moveBytes, streamBytes, List.length_map, List.length_range]

end

/-- A formed descriptor has a line length, and as many bytes at its destination as at its source. -/
theorem formed_lines {d : DmaDesc} (h : d.formed = true) : 0 < d.dLen ∧ d.total = d.dLen * d.dLines := by
  simp only [DmaDesc.formed, Bool.and_eq_true, bne_iff_ne, beq_iff_eq] at h
  obtain ⟨⟨⟨⟨-, hlen⟩, -⟩, htotal⟩, -⟩ := h
  exact ⟨by omega, htotal⟩

/-- Moving a formed descriptor's stream on changes bytes of its destination's lines alone. -/
theorem moveTo_memory (s : State) (ch : Nat) {d : DmaDesc} (upto : Nat) (hd : List Byte) (hformed : d.formed = true) :
    MemoryExcept (dstLines d) s (moveTo s ch d upto hd) := by
  obtain ⟨hlen, htotal⟩ := formed_lines hformed
  obtain ⟨hmem, hhost⟩ := moveTo_mem s ch d upto hd
  have hmoved : MemoryExcept (dstLines d) s (streamMoved s ch d upto hd) := by
    by_cases hbytes : moveBytes s ch d upto hd = []
    · unfold streamMoved
      rw [hbytes, writeStream]
      exact .of_same (sameMemory_of_stores rfl rfl)
    · refine MemoryExcept.chain (t := { s with free := s.free + (moveBytes s ch d upto hd).length })
        (.of_same (sameMemory_of_stores rfl rfl)) (writeStream_except d _ _ _ _ hlen ?_)
      have hsome : 0 < (moveBytes s ch d upto hd).length := List.length_pos_of_ne_nil hbytes
      rw [length_moveBytes] at hsome ⊢
      have hend : moveEnd s ch d upto ≤ max (dmaCh s ch).moved d.total := by
        unfold moveEnd
        omega
      omega
  exact hmoved.chain (.of_same (sameMemory_of_stores hmem hhost))

end Sys2Proof.Machine
end

section
/-! SUPPORT. DMA channels (R338 to R346): the commands of a channel, by its phase. -/

namespace Sys2Proof.Machine

/-! ### Starting (R338) -/

/-- The registers that a start writes. -/
def startRegs (ch : Nat) : List Nat :=
  [Reg.DC.HOP_COUNT ch, Reg.DC.RESIDUAL ch, Reg.DC.STATUS ch, Reg.DC.CUR_DESC_LO ch, Reg.DC.CUR_DESC_HI ch]

/-- What a start leaves. -/
structure Started (ch : Nat) (s t : State) : Prop where
  phase : (dmaCh t ch).phase = .fetch
  status : rd t (Reg.DC.STATUS ch) = 1
  low : rd t (Reg.DC.CUR_DESC_LO ch) = rd s (Reg.DC.DESC_PTR_LO ch)
  high : rd t (Reg.DC.CUR_DESC_HI ch) = rd s (Reg.DC.DESC_PTR_HI ch)
  hops : rd t (Reg.DC.HOP_COUNT ch) = 0
  others : OtherChannels ch s t
  memory : SameMemory s t
  regs : RegsExcept (startRegs ch) s t

/-- A pair of words joined and cut again is the pair. -/
theorem w32_join (lo hi : Word) : w32 (lo.toNat + 2 ^ 32 * hi.toNat) = lo ∧ w32 ((lo.toNat + 2 ^ 32 * hi.toNat) / 2 ^ 32) = hi := by
  have hlo := lo.isLt
  have hhi := hi.isLt
  constructor <;> (apply BitVec.eq_of_toNat_eq; rw [w32, BitVec.toNat_ofNat]; omega)

/-- The registers of a channel that starts. -/
def startShown (s : State) (ch a : Nat) : State :=
  wr64 (wr (wr (wr s (Reg.DC.HOP_COUNT ch) 0) (Reg.DC.RESIDUAL ch) 0) (Reg.DC.STATUS ch) 1) (Reg.DC.CUR_DESC_LO ch)
    (Reg.DC.CUR_DESC_HI ch) a

theorem startShown_shows (s : State) (ch a : Nat) : rd (startShown s ch a) (Reg.DC.STATUS ch) = 1 ∧
    rd (startShown s ch a) (Reg.DC.CUR_DESC_LO ch) = w32 a ∧ rd (startShown s ch a) (Reg.DC.CUR_DESC_HI ch) = w32 (a / 2 ^ 32) ∧
    rd (startShown s ch a) (Reg.DC.HOP_COUNT ch) = 0 ∧ RegsExcept (startRegs ch) s (startShown s ch a) := by
  refine ⟨?_, ?_, ?_, ?_, (((((RegsExcept.refl _ s).wr _ ?_).wr _ ?_).wr _ ?_).wr _ ?_).wr _ ?_⟩
  · simp [startShown, wr64, rd_wr]
  · simp [startShown, wr64, rd_wr]
  · simp [startShown, wr64]
  · simp [startShown, wr64, rd_wr]
  all_goals simp [startRegs]

/-- The channel that a start leaves. -/
def startedCh (x : DmaCh) (clk : Nat) : DmaCh :=
  { x with phase := .fetch, desc := none, ahead := none, moved := 0, error := false, since := clk, tmos := [], late := [] }

/-- The address of the first descriptor. -/
def firstDesc (s : State) (ch : Nat) : Nat := rdN s (Reg.DC.DESC_PTR_LO ch) + 2 ^ 32 * rdN s (Reg.DC.DESC_PTR_HI ch)

theorem startRun_eq (s : State) (ch : Nat) : startRun s ch = setDma (startShown s ch (firstDesc s ch)) ch
    (startedCh (dmaCh (startShown s ch (firstDesc s ch)) ch) (fabClk (startShown s ch (firstDesc s ch)))) := by
  unfold startRun startShown startedCh firstDesc
  rfl

theorem startShown_leaves (s : State) (ch a : Nat) : (startShown s ch a).dma = s.dma ∧ SameMemory s (startShown s ch a) := by
  refine ⟨?_, sameMemory_of_stores ?_ ?_⟩ <;> simp [startShown]

theorem startRun_starts (s : State) (ch : Nat) : Started ch s (startRun s ch) := by
  obtain ⟨hstatus, hlow, hhigh, hhops, hregs⟩ := startShown_shows s ch (firstDesc s ch)
  obtain ⟨hdma, hmemory⟩ := startShown_leaves s ch (firstDesc s ch)
  obtain ⟨hjoinLow, hjoinHigh⟩ := w32_join (rd s (Reg.DC.DESC_PTR_LO ch)) (rd s (Reg.DC.DESC_PTR_HI ch))
  rw [← rdN, ← rdN, ← firstDesc] at hjoinLow hjoinHigh
  rw [startRun_eq]
  generalize startShown s ch (firstDesc s ch) = u at hstatus hlow hhigh hhops hregs hmemory hdma
  refine ⟨by rw [dmaCh_setDma_same, startedCh], hstatus, hlow.trans hjoinLow, hhigh.trans hjoinHigh, hhops, fun c hc => ?_, hmemory, hregs⟩
  rw [dmaCh_setDma_other _ _ _ _ hc, dmaCh_congr hdma]

/-- A start is a start where the session's clock runs on. -/
theorem Started.touchSession {ch : Nat} {s t : State} (h : Started ch s t) (a : Agent) (pg : Nat) :
    Started ch s (touchSession s a pg t) := by
  obtain ⟨hphase, hstatus, hlow, hhigh, hhops, hothers, hmemory, hregs⟩ := h
  have hsame (c : Nat) : dmaCh (Machine.touchSession s a pg t) c = dmaCh t c := dmaCh_congr (touchSession_dma ..) c
  refine ⟨by rw [hsame, hphase], ?_, ?_, ?_, ?_, fun c hc => (hsame c).trans (hothers c hc), ?_, hregs.touchSession⟩
  · rw [rd_touchSession, hstatus]
  · rw [rd_touchSession, hlow]
  · rw [rd_touchSession, hhigh]
  · rw [rd_touchSession, hhops]
  · exact ⟨fun b => (by simp only [memByte, touchSession_mem] : memByte _ b = memByte t b).trans (hmemory.1 b),
      fun b => (by simp only [hostByte, touchSession_hostMem] : hostByte _ b = hostByte t b).trans (hmemory.2 b)⟩

/-- The trigger seen is used up. -/
def untriggered (s : State) (ch : Nat) : State := setDma s ch { dmaCh s ch with trig := false }

/-- A start after a trigger is a start of the state before. -/
theorem Started.of_untriggered {ch : Nat} {s t : State} (h : Started ch (untriggered s ch) t) : Started ch s t :=
  ⟨h.phase, h.status, h.low, h.high, h.hops, fun c hc => (h.others c hc).trans (dmaCh_setDma_other _ _ _ _ hc), h.memory, h.regs⟩

theorem dmaTrigger_seen {s : State} {ch : Nat} (hlit : Lit s) (htrig : (dmaCh s ch).trig = true) : exec (.dmaTrigger ch) s =
    .next (if canStart s ch then startRun (untriggered s ch) ch else bump (untriggered s ch) (Reg.DC.TRIG_MISSED ch)) := by
  refine (wall_lit hlit).trans ?_
  rw [htrig]
  rfl

theorem dmaTrigger_unseen {s : State} {ch : Nat} (hawake : Awake s) (htrig : (dmaCh s ch).trig = false) :
    exec (.dmaTrigger ch) s = .next s := by
  refine (live_awake hawake).trans ?_
  rw [htrig]
  split <;> rfl

section
variable {s : State} {a : Agent} {ch : Nat} {v : Word} (hawake : Awake s) (hch : ch < 16)
  (hacc : Accepts s a (Reg.DC.CH_CMD ch) .cmd)
include hawake hch hacc

theorem dmaGo_accepted (hgo : bit v 0 = true) (hkeep : bit v 1 = false) : exec (.dmaGo a ch v) s =
    .next (touchSession s a (pageOf (Reg.DC.CH_CMD ch))
      (if canStart s ch then startRun s ch else bump s (Reg.DC.GO_IGNORED ch))) := by
  change live s (if ch < 16 then guarded s a (Reg.DC.CH_CMD ch) v .cmd (writeChCmd s ch v 0 []) else s) = _
  rw [if_pos hch, live_guarded hawake hacc, writeChCmd, hgo, hkeep]
  rfl

theorem dmaAbort_accepted {moved : Nat} {hd : List Byte} (hgo : bit v 0 = false) (habort : bit v 1 = true) (hruns : chState s ch = 1) :
    exec (.dmaAbort a ch false v moved hd) s =
      .next (touchSession s a (pageOf (Reg.DC.CH_CMD ch)) (abortRun s ch moved hd)) := by
  change live s (if ch < 16 then guarded s a (Reg.DC.CH_CMD ch) v .cmd (writeChCmd s ch v moved hd) else s) = _
  rw [if_pos hch, live_guarded hawake hacc, writeChCmd, hgo, habort, hruns]
  rfl

end

/-! ### Fetching and checking (R341) -/

section
variable {s : State} {ch : Nat} {hd : List Byte} (hlit : Lit s)
include hlit

theorem fetchDone_good (hphase : (dmaCh s ch).phase = .fetch) (hin : curDesc s ch < memBytes)
    (hclean : memPoisoned s (curDesc s ch) 64 = false) : exec (.dmaDescFetchDone ch .ok hd) s = .next (setDma s ch
      { dmaCh s ch with phase := .check, desc := some (dmaDescOf (memRead s (curDesc s ch) 64)), ahead := none, moved := 0 }) := by
  refine (wall_lit hlit).trans ?_
  simp [hphase, hin, hclean, devAccessible, devRead, adopt]

theorem fetchDone_early (hearly : tmoPast s ch (dmaCh s ch).since = false) :
    exec (.dmaDescFetchDone ch .timeout hd) s = .next s := by
  refine (wall_lit hlit).trans ?_
  rw [hearly]
  rfl

theorem fetchDone_late (hphase : (dmaCh s ch).phase = .fetch) (hlate : tmoPast s ch (dmaCh s ch).since = true) :
    exec (.dmaDescFetchDone ch .timeout hd) s = .next (failRun s ch 3 (curDesc s ch)) := by
  refine (wall_lit hlit).trans ?_
  simp [hphase, hlate, adopt]

/-- The descriptor's length shown as what remains. -/
def residualShown (s : State) (ch n : Nat) : State := wr s (Reg.DC.RESIDUAL ch) (w32 (min 0xFFFFFF n))

variable {d : DmaDesc} (hphase : (dmaCh s ch).phase = .check) (hdesc : (dmaCh s ch).desc = some d)
include hphase hdesc

theorem descCheck_passes (hformed : d.formed = true) (hgood : badLine s ch d = none) : exec (.dmaDescCheck ch) s =
    .next (setDma (residualShown s ch d.total) ch { dmaCh s ch with phase := .move, moved := 0, met := [], since := fabClk s }) := by
  refine (wall_lit hlit).trans ?_
  simp only [hphase, hdesc, hformed, hgood, Bool.not_true, Bool.false_eq_true, if_false]
  rfl

theorem descCheck_fails (hbad : d.formed = false ∨ (badLine s ch d).isSome = true) :
    ∃ addr, exec (.dmaDescCheck ch) s = .next (failRun (residualShown s ch d.total) ch (if d.formed then 7 else 5) addr) := by
  cases hformed : d.formed with
  | false =>
    refine ⟨curDesc s ch, (wall_lit hlit).trans ?_⟩
    simp only [hphase, hdesc, hformed, Bool.not_false, if_true]
    rfl
  | true =>
    obtain ⟨x, hx⟩ := Option.isSome_iff_exists.mp (hbad.resolve_left (by rw [hformed]; decide))
    refine ⟨wrapTo 64 x, (wall_lit hlit).trans ?_⟩
    simp only [hphase, hdesc, hformed, hx, Bool.not_true, Bool.false_eq_true, if_false]
    rfl

end

/-! ### Moving, its errors and its end (R342 to R346) -/

section
variable {s : State} {ch : Nat} {hd : List Byte} {d : DmaDesc} (hlit : Lit s) (hphase : (dmaCh s ch).phase = .move)
  (hdesc : (dmaCh s ch).desc = some d)
include hlit hphase hdesc

theorem descComplete_poisoned (h : sourcePoisoned s ch d = true) : exec (.dmaDescComplete ch hd) s = .next s := by
  refine (wall_lit hlit).trans ?_
  simp only [hphase, hdesc, h, if_true]

theorem descComplete_blocked {x : Int × Nat} (h : sourcePoisoned s ch d = false) (hblocked : d.blocked s = some x) :
    exec (.dmaDescComplete ch hd) s =
      .next (failRun (residualShown (moveTo s ch d d.total hd) ch d.total) ch 7 (wrapTo 64 x.1)) := by
  refine (wall_lit hlit).trans ?_
  simp only [hphase, hdesc, h, hblocked, Bool.false_eq_true, if_false]
  rfl

theorem descComplete_finishes (h : sourcePoisoned s ch d = false) (hblocked : d.blocked s = none) :
    exec (.dmaDescComplete ch hd) s = .next (finishDesc (moveTo s ch d d.total hd) ch d) := by
  refine (wall_lit hlit).trans ?_
  simp only [hphase, hdesc, h, hblocked, Bool.false_eq_true, if_false]

theorem responseError_stops {kind : RespKind} {addr moved : Nat} (hlate : (dmaCh s ch).late.contains addr = false) :
    exec (.dmaResponseError ch kind addr moved hd) s = .next (failRun (meetResp (moveTo s ch d moved hd) kind addr) ch
      (respBit kind (d.total - (dmaCh (meetResp (moveTo s ch d moved hd) kind addr) ch).moved)) addr) := by
  refine (wall_lit hlit).trans ?_
  simp only [hphase, hdesc, hlate, Bool.false_eq_true, if_false]

/-- A timed-out request noted as one whose response may come late. -/
def lateNoted (s : State) (ch addr : Nat) : State := setDma s ch { dmaCh s ch with late := (dmaCh s ch).late ++ [addr] }

theorem dmaTimeout_stops {addr moved issued : Nat} (hsince : (dmaCh s ch).since ≤ issued) (hpast : tmoPast s ch issued = true) :
    exec (.dmaTimeout ch addr moved hd issued) s = .next (lateNoted (failRun (moveTo s ch d moved hd) ch 3 addr) ch addr) := by
  refine (wall_lit hlit).trans ?_
  have hon : ¬ (issued < (dmaCh s ch).since ∨ (!tmoPast s ch issued) = true) := by
    rw [hpast]
    simpa using hsince
  rw [if_neg hon]
  simp only [hphase, hdesc]
  rfl

end

section
variable {s : State} {ch : Nat} {hd : List Byte} (hlit : Lit s)
include hlit

theorem responseError_late {kind : RespKind} {addr moved : Nat} (hlate : (dmaCh s ch).late.contains addr = true) :
    exec (.dmaResponseError ch kind addr moved hd) s =
      .next (setDma s ch { dmaCh s ch with late := (dmaCh s ch).late.erase addr }) := by
  refine (wall_lit hlit).trans ?_
  rw [if_pos hlate]

theorem dmaTimeout_early {addr moved issued : Nat} (h : issued < (dmaCh s ch).since ∨ tmoPast s ch issued = false) :
    exec (.dmaTimeout ch addr moved hd issued) s = .next s := by
  refine (wall_lit hlit).trans (congrArg Host.Outcome.next (if_pos ?_))
  rwa [Bool.not_eq_true']

theorem drainDone_idle (h : (dmaCh s ch).phase ≠ .drain) : exec (.dmaDrainDone ch) s = .next s := by
  refine (wall_lit hlit).trans (congrArg Host.Outcome.next (if_neg ?_))
  rw [beq_false_of_ne h]
  decide

/-- A drain at its end. -/
def drained (s : State) (ch : Nat) (error : Bool) : State :=
  setDma (wr s (Reg.DC.STATUS ch) (if error then 2 else 3)) ch { dmaCh s ch with phase := .idle }

theorem drainDone_ends (h : (dmaCh s ch).phase = .drain) : exec (.dmaDrainDone ch) s = .next
    (if (dmaCh s ch).error then raiseE (drained s ch (dmaCh s ch).error) (Page.DC ch) 0 else drained s ch (dmaCh s ch).error) := by
  refine (wall_lit hlit).trans (congrArg Host.Outcome.next (if_pos ?_))
  rw [h]
  rfl

end

theorem drained_leaves (s : State) (ch : Nat) (error : Bool) : (dmaCh (drained s ch error) ch).phase = .idle ∧
    chState (drained s ch error) ch = (if error then 2 else 3) ∧ RegsExcept [Reg.DC.STATUS ch] s (drained s ch error) ∧
    OtherChannels ch s (drained s ch error) ∧ SameMemory s (drained s ch error) := by
  refine ⟨by rw [drained, dmaCh_setDma_same], ?_, ?_, fun c hc => ?_, sameMemory_of_stores rfl rfl⟩
  · have hstatus : rd (drained s ch error) (Reg.DC.STATUS ch) = (if error then 2 else 3) := rd_wr_same ..
    rw [chState, rdF, hstatus]
    cases error <;> rfl
  · exact ((RegsExcept.refl _ s).wr _ (List.mem_singleton_self _)).of_regs rfl
  · rw [drained, dmaCh_setDma_other _ _ _ _ hc, dmaCh_wr]

/-! ### Errors cleared (R338) -/

theorem errClear_accepted {s : State} {a : Agent} {ch : Nat} {v : Word} (hawake : Awake s) (hch : ch < 16)
    (hacc : Accepts s a (Reg.DC.ERR ch) .open) :
    exec (.dmaErrClear a ch v) s = .next (touchSession s a (pageOf (Reg.DC.ERR ch)) (writeDmaErr s ch v)) := by
  change live s (if ch < 16 then guarded s a (Reg.DC.ERR ch) v .open (writeDmaErr s ch v) else s) = _
  rw [if_pos hch, live_guarded hawake hacc]

theorem writeDmaErr_leaves (s : State) (ch : Nat) (v : Word) :
    rd (writeDmaErr s ch v) (Reg.DC.ERR ch) = rd s (Reg.DC.ERR ch) &&& ~~~v ∧
    RegsExcept [Reg.DC.ERR ch, Reg.DC.STATUS ch] s (writeDmaErr s ch v) ∧ (writeDmaErr s ch v).dma = s.dma ∧
    (rd s (Reg.DC.ERR ch) &&& ~~~v = 0 → (chState s ch = 2 ∨ chState s ch = 3) → chState (writeDmaErr s ch v) ch = 0) ∧
    (rd s (Reg.DC.ERR ch) &&& ~~~v ≠ 0 → rd (writeDmaErr s ch v) (Reg.DC.STATUS ch) = rd s (Reg.DC.STATUS ch)) := by
  have hkept : rd (wr s (Reg.DC.ERR ch) (rd s (Reg.DC.ERR ch) &&& ~~~v)) (Reg.DC.STATUS ch) = rd s (Reg.DC.STATUS ch) :=
    rd_wr_other _ _ _ _ (by simp)
  have hstate : chState (wr s (Reg.DC.ERR ch) (rd s (Reg.DC.ERR ch) &&& ~~~v)) ch = chState s ch := rdF_congr _ _ hkept
  have hleft : RegsExcept [Reg.DC.ERR ch, Reg.DC.STATUS ch] s (wr s (Reg.DC.ERR ch) (rd s (Reg.DC.ERR ch) &&& ~~~v)) :=
    (RegsExcept.refl _ s).wr _ (by simp)
  unfold writeDmaErr
  dsimp only
  rw [hstate]
  split
  · next hclear =>
    refine ⟨?_, hleft.wr _ (by simp), rfl, fun _ _ => ?_, fun hsome => absurd hclear.1 hsome⟩
    · rw [rd_wr_other _ _ _ _ (by simp), rd_wr_same]
    · rw [chState, rdF, rd_wr_same]
      rfl
  · next hstays =>
    exact ⟨rd_wr_same .., hleft, rfl, fun hzero hstopped => absurd ⟨hzero, hstopped⟩ hstays, fun _ => hkept⟩

end Sys2Proof.Machine
end

section
/-! SUPPORT. DMA channels (R340 to R343): a descriptor's completion, and what a single line's copy leaves at its destination. -/

namespace Sys2Proof.Machine

/-! ### One line copied (R340) -/

theorem moveEnd_all {s : State} {ch : Nat} {d : DmaDesc} (hserdes : serdesOn s = true) (hblocked : d.blocked s = none) :
    moveEnd s ch d d.total = max (dmaCh s ch).moved d.total := by
  rw [moveEnd, done, if_pos hserdes, DmaDesc.reach, hblocked]
  simp

/-- The bytes of a single line that no other stream meets are its source's. -/
theorem moveBytes_line {s : State} {ch : Nat} {d : DmaDesc} (hd : List Byte) (hserdes : serdesOn s = true)
    (hblocked : d.blocked s = none) (hformed : d.formed = true) (hsrc : d.sLines = 1) (hdst : d.dLines = 1)
    (hsrcIn : d.src + d.sLen ≤ memBytes) (hfirst : (dmaCh s ch).moved = 0)
    (hapart : ∀ b, d.dst ≤ b → b < d.dst + d.dLen → inOtherStream s ch d b = false) :
    moveBytes s ch d d.total hd = memRead s d.src d.sLen := by
  obtain ⟨hlen, htotal⟩ := formed_lines hformed
  have hall : d.total = d.sLen := by rw [DmaDesc.total, hsrc, Nat.mul_one]
  have hsame : d.sLen = d.dLen := by rw [← hall, htotal, hdst, Nat.mul_one]
  rw [moveBytes, moveEnd_all hserdes hblocked, hfirst, Nat.zero_max, hall, streamBytes, memRead, Store.slice, Nat.sub_zero]
  refine List.map_congr_left fun j hj => ?_
  have hj : j < d.sLen := List.mem_range.mp hj
  have hline {base : Nat} {step : Int} {len : Nat} (h : j < len) : streamAddr base len step j = base + j := by
    rw [streamAddr, Nat.div_eq_of_lt h, Nat.mod_eq_of_lt h]
    omega
  dsimp only
  rw [Nat.zero_add, hline (hsame ▸ hj), hapart _ (by omega) (by omega), if_neg (by decide), sourceByte, hline hj,
    if_pos (by omega)]

theorem streamMoved_line {s : State} {ch : Nat} {d : DmaDesc} (hd : List Byte) (hserdes : serdesOn s = true)
    (hblocked : d.blocked s = none) (hformed : d.formed = true) (hsrc : d.sLines = 1) (hdst : d.dLines = 1)
    (hsrcIn : d.src + d.sLen ≤ memBytes) (hdstIn : d.dst + d.dLen ≤ memBytes) (hfirst : (dmaCh s ch).moved = 0)
    (hapart : ∀ b, d.dst ≤ b → b < d.dst + d.dLen → inOtherStream s ch d b = false) :
    memRead (streamMoved s ch d d.total hd) d.dst d.dLen = memRead s d.src d.sLen := by
  obtain ⟨hlen, htotal⟩ := formed_lines hformed
  have hsame : d.sLen = d.dLen := by
    rw [DmaDesc.total, hsrc, hdst, Nat.mul_one, Nat.mul_one] at htotal
    exact htotal
  have hbytes := moveBytes_line hd hserdes hblocked hformed hsrc hdst hsrcIn hfirst hapart
  have hlength : (memRead s d.src d.sLen).length = d.dLen := by simp [memRead, Store.slice, hsame]
  rw [streamMoved, hbytes, hfirst, hdst]
  generalize memRead s d.src d.sLen = bs at hlength
  have hsome : bs.isEmpty = false := by rw [List.isEmpty_eq_false_iff_exists_mem]; exact List.exists_mem_of_length_pos (by omega)
  have hwritten : writeStream d (1 + 1) { s with free := s.free + bs.length } 0 bs =
      memWrite { s with free := s.free + bs.length } d.dst bs := by
    have haddr : streamAddr d.dst d.dLen d.dStep 0 = d.dst := by simp [streamAddr]
    have hrest : bs.drop (d.dLen - 0 % d.dLen) = [] := List.drop_of_length_le (by rw [Nat.zero_mod]; omega)
    have hpiece : bs.take (d.dLen - 0 % d.dLen) = bs := List.take_of_length_le (by rw [Nat.zero_mod]; omega)
    rw [writeStream, hsome, if_neg (by decide)]
    dsimp only
    rw [haddr, hrest, hpiece, writeStream, List.isEmpty_nil, if_pos rfl, devWrite, if_pos (by omega)]
  rw [hwritten, ← hlength]
  exact memRead_memWrite _ (by rw [inMem, decide_eq_true_eq]; omega)

/-! ### A descriptor complete (R342, R343) -/

/-- A complete descriptor's event and the end of its stream. -/
def streamDone (s : State) (ch : Nat) (d : DmaDesc) : State := leaveStream (if d.evt then pulse s (160 + ch) else s) ch

/-- What a pulse and a stream's end leave: channels noted at most, memory, and every register of a page below EVF. -/
structure QuietStep (s t : State) : Prop where
  channels : ∀ c, Beside (dmaCh s c) (dmaCh t c)
  memory : SameMemory s t
  regs : ∀ a, a < 0x260000 → rd t a = rd s a

theorem SameMemory.trans {s t u : State} (h : SameMemory s t) (k : SameMemory t u) : SameMemory s u :=
  ⟨fun a => (k.1 a).trans (h.1 a), fun a => (k.2 a).trans (h.2 a)⟩

theorem QuietStep.refl (s : State) : QuietStep s s := ⟨fun _ => .refl _, ⟨fun _ => rfl, fun _ => rfl⟩, fun _ _ => rfl⟩

theorem QuietStep.trans {s t u : State} (h : QuietStep s t) (k : QuietStep t u) : QuietStep s u :=
  ⟨fun c => (h.channels c).trans (k.channels c), h.memory.trans k.memory, fun a ha => (k.regs a ha).trans (h.regs a ha)⟩

theorem quietStep_pulse (s : State) (l : Nat) : QuietStep s (pulse s l) := by
  refine ⟨beside_pulse s l, pulse_memory s l, fun a ha => rd_pulse s l a fun hin => ?_⟩
  obtain rfl | rfl : a = Reg.EVF.MERGED ∨ a = Reg.EVF.LAST_MERGED := by simpa using hin
  · exact absurd ha (by decide)
  · exact absurd ha (by decide)

/-- A channel's registers lie below the page EVF. -/
theorem dcReg_low {ch off : Nat} (hch : ch < 16) (hoff : off < 0x24A000) : off + 0x1000 * ch < 0x260000 := by omega

theorem quietStep_streamDone (s : State) (ch : Nat) (d : DmaDesc) : QuietStep s (streamDone s ch d) := by
  have hleft (t : State) : QuietStep t (leaveStream t ch) := by
    refine ⟨fun c => ?_, leaveStream_memory t ch, fun a _ => by rw [rd, leaveStream_regs, rd]⟩
    by_cases hc : c = ch
    · rw [hc, leaveStream_own]
      exact .refl _
    · exact leaveStream_others t ch c hc
  unfold streamDone
  split
  · exact (quietStep_pulse s _).trans (hleft _)
  · exact hleft s

/-- The last descriptor's run ended. -/
def runEnded (s : State) (ch : Nat) : State :=
  bump (pulse (setDma (wr s (Reg.DC.STATUS ch) 0) ch { dmaCh s ch with phase := .idle, ahead := none }) (144 + ch)) (Reg.DC.RUNS ch)

/-- A hop counted, NEXT the current descriptor. -/
def hopped (s : State) (ch : Nat) (d : DmaDesc) : State :=
  wr64 (wrF s (Reg.DC.HOP_COUNT ch) 15 0 (rdF s (Reg.DC.HOP_COUNT ch) 15 0 + 1)) (Reg.DC.CUR_DESC_LO ch) (Reg.DC.CUR_DESC_HI ch) d.next

/-- The descriptor after a hop is adopted, or fetched where it was not read ahead. -/
def nextTaken (s : State) (ch : Nat) : Option (FetchEnd × Option DmaDesc) → State
  | some f => adopt s ch f.1 f.2
  | none => setDma s ch { dmaCh s ch with phase := .fetch, desc := none, since := fabClk s }

section
variable {s : State} {ch : Nat} {d : DmaDesc}

theorem finishDesc_ends (h : d.last = true) : finishDesc s ch d = runEnded (streamDone s ch d) ch := by
  rw [finishDesc, h]
  rfl

theorem finishDesc_stops (h : d.last = false)
    (hmax : rdF (streamDone s ch d) (Reg.DC.HOP_COUNT ch) 15 0 = rdF (streamDone s ch d) (Reg.DC.HOP_MAX ch) 15 0) :
    finishDesc s ch d = failRun (streamDone s ch d) ch 4 d.next := by
  rw [finishDesc, h]
  exact if_pos hmax

theorem finishDesc_hops (h : d.last = false)
    (hmax : rdF (streamDone s ch d) (Reg.DC.HOP_COUNT ch) 15 0 ≠ rdF (streamDone s ch d) (Reg.DC.HOP_MAX ch) 15 0) :
    finishDesc s ch d = nextTaken (hopped (streamDone s ch d) ch d) ch (dmaCh (streamDone s ch d) ch).ahead := by
  rw [finishDesc, h]
  refine (if_neg hmax).trans ?_
  unfold streamDone
  dsimp only
  split <;> (next hahead => rw [hahead]; rfl)

end

theorem runEnded_leaves (s : State) {ch : Nat} (hch : ch < 16) : (dmaCh (runEnded s ch) ch).phase = .idle ∧
    rd (runEnded s ch) (Reg.DC.STATUS ch) = 0 ∧ rd (runEnded s ch) (Reg.DC.RUNS ch) = plusOne (rd s (Reg.DC.RUNS ch)) ∧
    rd (runEnded s ch) (Reg.DC.RESIDUAL ch) = rd s (Reg.DC.RESIDUAL ch) ∧ Others ch s (runEnded s ch) ∧ SameMemory s (runEnded s ch) := by
  have hquiet := quietStep_pulse (setDma (wr s (Reg.DC.STATUS ch) 0) ch { dmaCh s ch with phase := .idle, ahead := none }) (144 + ch)
  have hidle : (dmaCh (setDma (wr s (Reg.DC.STATUS ch) 0) ch { dmaCh s ch with phase := .idle, ahead := none }) ch).phase = .idle := by
    rw [dmaCh_setDma_same]
  have hothers : OtherChannels ch s (setDma (wr s (Reg.DC.STATUS ch) 0) ch { dmaCh s ch with phase := .idle, ahead := none }) :=
    fun c hc => by rw [dmaCh_setDma_other _ _ _ _ hc, dmaCh_wr]
  have hregs (a : Nat) : rd (setDma (wr s (Reg.DC.STATUS ch) 0) ch { dmaCh s ch with phase := .idle, ahead := none }) a =
      rd (wr s (Reg.DC.STATUS ch) 0) a := rfl
  have hmemory : SameMemory s (setDma (wr s (Reg.DC.STATUS ch) 0) ch { dmaCh s ch with phase := .idle, ahead := none }) :=
    sameMemory_of_stores rfl rfl
  unfold runEnded
  generalize setDma (wr s (Reg.DC.STATUS ch) 0) ch _ = u at hquiet hidle hothers hregs hmemory
  have hsame (c : Nat) : dmaCh (bump (pulse u (144 + ch)) (Reg.DC.RUNS ch)) c = dmaCh (pulse u (144 + ch)) c := dmaCh_bump ..
  refine ⟨?_, ?_, ?_, ?_, fun c hc => ?_, hmemory.trans hquiet.memory⟩
  · obtain ⟨_, _, heq⟩ := hquiet.channels ch
    rw [hsame, heq]
    exact hidle
  · rw [rd_bump_other _ (by simp), hquiet.regs _ (dcReg_low hch (by decide)), hregs, rd_wr_same]
  · rw [rd_bump_same, hquiet.regs _ (dcReg_low hch (by decide)), hregs, rd_wr_other _ _ _ _ (by simp)]
  · rw [rd_bump_other _ (by simp), hquiet.regs _ (dcReg_low hch (by decide)), hregs, rd_wr_other _ _ _ _ (by simp)]
  · rw [hsame]
    exact (Others.of_same hothers c hc).trans (hquiet.channels c)

/-- What the next descriptor's adoption leaves: the other channels, memory, and every register but STATUS and those of an error. -/
structure NextStep (ch : Nat) (s t : State) : Prop where
  others : Others ch s t
  memory : SameMemory s t
  regs : RegsExcept (Reg.DC.STATUS ch :: errRegs ch) s t

theorem nextStep_setDma (s : State) (ch : Nat) (x : DmaCh) : NextStep ch s (setDma s ch x) :=
  ⟨.of_same fun _ hc => dmaCh_setDma_other _ _ _ _ hc, sameMemory_of_stores rfl rfl, .of_regs (.refl _ s) rfl⟩

theorem nextStep_failRun (s : State) (ch addr : Nat) {b : Nat} (hb : b < 32) : NextStep ch s (failRun s ch b addr) := by
  have hfailed := failRun_fails s ch addr hb
  exact ⟨hfailed.others, hfailed.memory, hfailed.regs⟩

theorem nextStep_adopt (s : State) (ch : Nat) (res : FetchEnd) (e : Option DmaDesc) : NextStep ch s (adopt s ch res e) := by
  unfold adopt
  dsimp only
  split
  · exact nextStep_setDma ..
  · exact nextStep_failRun s ch _ (by decide)
  · split
    · exact nextStep_failRun s ch _ (by decide)
    · exact nextStep_failRun s ch _ (by decide)

theorem nextStep_nextTaken (s : State) (ch : Nat) (f : Option (FetchEnd × Option DmaDesc)) : NextStep ch s (nextTaken s ch f) := by
  unfold nextTaken
  split
  · exact nextStep_adopt ..
  · exact nextStep_setDma ..

theorem hopped_leaves (s : State) (ch : Nat) (d : DmaDesc) :
    rdF (hopped s ch d) (Reg.DC.HOP_COUNT ch) 15 0 = (rdF s (Reg.DC.HOP_COUNT ch) 15 0 + 1) % 65536 ∧
    curDesc (hopped s ch d) ch = d.next % 2 ^ 64 ∧ (hopped s ch d).dma = s.dma ∧ SameMemory s (hopped s ch d) := by
  refine ⟨?_, ?_, rfl, sameMemory_of_stores rfl rfl⟩
  · have hkept := rd_wr64_other (wrF s (Reg.DC.HOP_COUNT ch) 15 0 (rdF s (Reg.DC.HOP_COUNT ch) 15 0 + 1)) (lo := Reg.DC.CUR_DESC_LO ch)
      (hi := Reg.DC.CUR_DESC_HI ch) (b := Reg.DC.HOP_COUNT ch) d.next (by simp) (by simp)
    exact (rdF_congr 15 0 hkept).trans (rdF_wrF_same _ _ _ (by decide) (by decide))
  · simp only [curDesc, rd64, rdN, hopped, wr64, rd_wr_same, rd_wr_other _ _ _ _ (show Reg.DC.CUR_DESC_LO ch ≠ Reg.DC.CUR_DESC_HI ch by simp),
      w32, BitVec.toNat_ofNat]
    omega

section
variable {s : State} {ch : Nat} {d : DmaDesc} (hch : ch < 16)
include hch

theorem rd_streamDone {off : Nat} (hoff : off < 0x24A000) : rd (streamDone s ch d) (off + 0x1000 * ch) = rd s (off + 0x1000 * ch) :=
  (quietStep_streamDone s ch d).regs _ (dcReg_low hch hoff)

theorem hops_streamDone : rdF (streamDone s ch d) (Reg.DC.HOP_COUNT ch) 15 0 = rdF s (Reg.DC.HOP_COUNT ch) 15 0 ∧
    rdF (streamDone s ch d) (Reg.DC.HOP_MAX ch) 15 0 = rdF s (Reg.DC.HOP_MAX ch) 15 0 :=
  ⟨rdF_congr _ _ (rd_streamDone hch (by decide)), rdF_congr _ _ (rd_streamDone hch (by decide))⟩

/-- The end of a last descriptor ends the run. -/
theorem finishDesc_last (h : d.last = true) : (dmaCh (finishDesc s ch d) ch).phase = .idle ∧
    rd (finishDesc s ch d) (Reg.DC.STATUS ch) = 0 ∧ rd (finishDesc s ch d) (Reg.DC.RUNS ch) = plusOne (rd s (Reg.DC.RUNS ch)) ∧
    rd (finishDesc s ch d) (Reg.DC.RESIDUAL ch) = rd s (Reg.DC.RESIDUAL ch) := by
  obtain ⟨hphase, hstatus, hruns, hresidual, -⟩ := runEnded_leaves (streamDone s ch d) hch
  rw [finishDesc_ends h]
  exact ⟨hphase, hstatus, hruns.trans (congrArg plusOne (rd_streamDone hch (by decide))), hresidual.trans (rd_streamDone hch (by decide))⟩

/-- At HOP_MAX another descriptor's end stops the run. -/
theorem finishDesc_max (h : d.last = false) (hmax : rdF s (Reg.DC.HOP_COUNT ch) 15 0 = rdF s (Reg.DC.HOP_MAX ch) 15 0) :
    (dmaCh (finishDesc s ch d) ch).phase = .drain ∧ (dmaCh (finishDesc s ch d) ch).error = true ∧
      rdB (finishDesc s ch d) (Reg.DC.ERR ch) 4 = true := by
  obtain ⟨hcount, hlimit⟩ := hops_streamDone (s := s) (d := d) hch
  have hfailed := failRun_fails (streamDone s ch d) ch d.next (b := 4) (by decide)
  rw [finishDesc_stops h (hcount.trans (hmax.trans hlimit.symm)), hfailed.own]
  exact ⟨rfl, rfl, hfailed.shown⟩

/-- Below HOP_MAX it counts a hop and goes on with NEXT. -/
theorem finishDesc_next (h : d.last = false) (hmax : rdF s (Reg.DC.HOP_COUNT ch) 15 0 ≠ rdF s (Reg.DC.HOP_MAX ch) 15 0) :
    rdF (finishDesc s ch d) (Reg.DC.HOP_COUNT ch) 15 0 = (rdF s (Reg.DC.HOP_COUNT ch) 15 0 + 1) % 65536 ∧
    curDesc (finishDesc s ch d) ch = d.next % 2 ^ 64 ∧
    ((dmaCh s ch).ahead = none → (dmaCh (finishDesc s ch d) ch).phase = .fetch ∧ (dmaCh (finishDesc s ch d) ch).desc = none) ∧
    ∀ e, (dmaCh s ch).ahead = some (.ok, some e) →
      (dmaCh (finishDesc s ch d) ch).phase = .check ∧ (dmaCh (finishDesc s ch d) ch).desc = some e := by
  obtain ⟨hcount, hlimit⟩ := hops_streamDone (s := s) (d := d) hch
  have hahead : (dmaCh (streamDone s ch d) ch).ahead = (dmaCh s ch).ahead := by
    obtain ⟨_, _, heq⟩ := (quietStep_streamDone s ch d).channels ch
    rw [heq]
  obtain ⟨hhop, hcur, -⟩ := hopped_leaves (streamDone s ch d) ch d
  have hstep := nextStep_nextTaken (hopped (streamDone s ch d) ch d) ch (dmaCh s ch).ahead
  rw [finishDesc_hops h (fun heq => hmax (hcount.symm.trans (heq.trans hlimit))), hahead]
  refine ⟨?_, ?_, fun hnone => ?_, fun e hsome => ?_⟩
  · rw [rdF_congr 15 0 (hstep.regs _ (by simp [errRegs])), hhop, hcount]
  · rw [curDesc, rd64, rdN, rdN, hstep.regs _ (by simp [errRegs]), hstep.regs _ (by simp [errRegs])]
    exact hcur
  · rw [hnone, nextTaken, dmaCh_setDma_same]
    exact ⟨rfl, rfl⟩
  · rw [hsome, nextTaken]
    dsimp only [adopt]
    rw [dmaCh_setDma_same]
    exact ⟨rfl, rfl⟩

/-- A descriptor's end leaves memory, and notes at most the end of its stream in the other channels. -/
theorem finishDesc_leaves (s : State) (d : DmaDesc) : Others ch s (finishDesc s ch d) ∧ SameMemory s (finishDesc s ch d) := by
  have hquiet := quietStep_streamDone s ch d
  have hbefore : Others ch s (streamDone s ch d) := .of_all hquiet.channels
  cases hlast : d.last with
  | true =>
    obtain ⟨-, -, -, -, hothers, hmemory⟩ := runEnded_leaves (streamDone s ch d) hch
    rw [finishDesc_ends hlast]
    exact ⟨hbefore.trans hothers, hquiet.memory.trans hmemory⟩
  | false =>
    by_cases hmax : rdF (streamDone s ch d) (Reg.DC.HOP_COUNT ch) 15 0 = rdF (streamDone s ch d) (Reg.DC.HOP_MAX ch) 15 0
    · have hfailed := failRun_fails (streamDone s ch d) ch d.next (b := 4) (by decide)
      rw [finishDesc_stops hlast hmax]
      exact ⟨hbefore.trans hfailed.others, hquiet.memory.trans hfailed.memory⟩
    · obtain ⟨-, -, hdma, hmemory⟩ := hopped_leaves (streamDone s ch d) ch d
      have hstep := nextStep_nextTaken (hopped (streamDone s ch d) ch d) ch (dmaCh (streamDone s ch d) ch).ahead
      rw [finishDesc_hops hlast hmax]
      exact ⟨hbefore.trans ((Others.of_same fun c _ => dmaCh_congr hdma c).trans hstep.others),
        hquiet.memory.trans (hmemory.trans hstep.memory)⟩

end

/-! ### Errors met (R344, R391, R392) -/

/-- A read of a word leaves the streams that run. -/
theorem readWord32_streams (s : State) (a : Nat) (e : Ecc) :
    (readWord32 s a e).2.dma = s.dma ∧ (readWord32 s a e).2.blt = s.blt := by
  unfold readWord32
  dsimp only
  split <;> split <;> split <;> simp

/-- What an error response is counted as leaves the channels and memory. -/
theorem meetResp_leaves (s : State) (kind : RespKind) (addr : Nat) : (meetResp s kind addr).dma = s.dma ∧
    SameMemory s (meetResp s kind addr) := by
  unfold meetResp
  split
  · obtain ⟨-, hmem, hhost, -⟩ := readWord32_keep s (addr / 32 * 32) .uncorrectable
    exact ⟨(readWord32_streams ..).1, sameMemory_of_stores hmem hhost⟩
  · split
    · obtain ⟨-, hmem, hhost, -⟩ := noteHostErr_keep s addr
      refine ⟨?_, sameMemory_of_stores hmem hhost⟩
      unfold noteHostErr
      split
      · rw [raiseE_dma]; rfl
      · rfl
    · exact ⟨rfl, sameMemory_of_stores rfl rfl⟩

end Sys2Proof.Machine
end

section
/-! SUPPORT. DMA channels: what a stop after a move leaves. -/

namespace Sys2Proof.Machine

/-- A stop of a moving channel, with what it moved before: the run drains, the other runs go on, and memory changed in the
destination's lines alone. -/
structure Stopped (ch : Nat) (d : DmaDesc) (error : Bool) (s t : State) : Prop where
  phase : (dmaCh t ch).phase = .drain
  error : (dmaCh t ch).error = error
  runs : OtherRuns ch s t
  memory : MemoryExcept (dstLines d) s t

section
variable {s : State} {ch : Nat} {d : DmaDesc} (hformed : d.formed = true)
include hformed

/-- A run that fails after a move, with `f` done in between that leaves channels and memory. -/
theorem stopped_failRun (upto : Nat) (hd : List Byte) {f : State → State} (hf : ∀ t, (f t).dma = t.dma ∧ SameMemory t (f t)) {b : Nat}
    (addr : Nat) (hb : b < 32) : Stopped ch d true s (failRun (f (moveTo s ch d upto hd)) ch b addr) := by
  obtain ⟨hdma, hsame⟩ := hf (moveTo s ch d upto hd)
  have hfailed := failRun_fails (f (moveTo s ch d upto hd)) ch addr hb
  have hbefore : Others ch s (f (moveTo s ch d upto hd)) :=
    .of_same fun c hc => (dmaCh_congr hdma c).trans (moveTo_others s ch d upto hd c hc)
  refine ⟨?_, ?_, (hbefore.trans hfailed.others).runs, ?_⟩
  · rw [hfailed.own]
  · rw [hfailed.own]
  · exact ((moveTo_memory s ch upto hd hformed).chain (.of_same hsame)).chain (.of_same hfailed.memory)

theorem stopped_abort {moved : Nat} {hd : List Byte} (hphase : (dmaCh s ch).phase = .move) (hdesc : (dmaCh s ch).desc = some d)
    (hruns : chState s ch = 1) : Stopped ch d false s (abortRun s ch moved hd) := by
  have habort : abortRun s ch moved hd = drain (moveTo s ch d moved hd) ch false := by
    unfold abortRun
    simp only [hphase, hdesc, hruns, ne_eq, not_true_eq_false, false_or, reduceCtorEq, if_false]
  have hbefore : Others ch s (moveTo s ch d moved hd) := .of_same (moveTo_others s ch d moved hd)
  rw [habort]
  refine ⟨?_, ?_, (hbefore.trans (drain_others _ _ _)).runs, ?_⟩
  · rw [drain_own]
  · rw [drain_own]
  · exact (moveTo_memory s ch moved hd hformed).chain (.of_same (drain_memory ..))

end

/-- A stop noted in the channel's own list of late responses is the same stop. -/
theorem Stopped.lateNoted {ch : Nat} {d : DmaDesc} {error : Bool} {s t : State} (h : Stopped ch d error s t) (addr : Nat) :
    Stopped ch d error s (lateNoted t ch addr) := by
  refine ⟨?_, ?_, fun c hc => ?_, h.memory.chain (.of_same (sameMemory_of_stores rfl rfl))⟩
  · rw [Machine.lateNoted, dmaCh_setDma_same]
    exact h.phase
  · rw [Machine.lateNoted, dmaCh_setDma_same]
    exact h.error
  · rw [Machine.lateNoted, dmaCh_setDma_other _ _ _ _ hc]
    exact h.runs c hc

theorem Stopped.touchSession {ch : Nat} {d : DmaDesc} {error : Bool} {s t : State} (h : Stopped ch d error s t) (a : Agent) (pg : Nat) :
    Stopped ch d error s (touchSession s a pg t) := by
  have hsame (c : Nat) : dmaCh (Machine.touchSession s a pg t) c = dmaCh t c := dmaCh_congr (touchSession_dma ..) c
  refine ⟨by rw [hsame, h.phase], by rw [hsame, h.error], fun c hc => by rw [hsame]; exact h.runs c hc, ?_⟩
  exact h.memory.chain (.of_same (sameMemory_of_stores (touchSession_mem ..) (touchSession_hostMem ..)))

theorem respBit_lt (kind : RespKind) (n : Nat) : respBit kind n < 32 := by
  unfold respBit
  split
  · decide
  · split <;> decide
  · decide

/-- What a channel that has moved to its descriptor's end has left to move: nothing. -/
theorem moveTo_all {s : State} {ch : Nat} {d : DmaDesc} (hd : List Byte) (hserdes : serdesOn s = true) (hblocked : d.blocked s = none) :
    rd (moveTo s ch d d.total hd) (Reg.DC.RESIDUAL ch) = 0 := by
  rw [moveTo_residual, moveEnd_all hserdes hblocked, Nat.sub_eq_zero_of_le (Nat.le_max_right ..), Nat.min_zero]
  rfl

/-- Hops and runs are not counted by a move. -/
theorem rd_moveTo {s : State} {ch : Nat} {d : DmaDesc} {upto : Nat} {hd : List Byte} {a : Nat}
    (ha : a = Reg.DC.HOP_COUNT ch ∨ a = Reg.DC.HOP_MAX ch ∨ a = Reg.DC.RUNS ch) : rd (moveTo s ch d upto hd) a = rd s a := by
  refine moveTo_regs s ch d upto hd a ?_
  rcases ha with rfl | rfl | rfl <;>
    simp only [dmaRegs, Reg.DC.HOP_COUNT, Reg.DC.HOP_MAX, Reg.DC.RUNS, Reg.DC.STATUS, Reg.DC.RESIDUAL, Reg.DC.BYTES_LO, Reg.DC.BYTES_HI,
      Reg.DMA.BYTES_LO, Reg.DMA.BYTES_HI, List.mem_cons, List.not_mem_nil, or_false] <;>
    omega

theorem rd_lateNoted (s : State) (ch addr a : Nat) : rd (lateNoted s ch addr) a = rd s a := rfl

/-! ### The commands of a moving channel -/

section
variable {s : State} {ch : Nat} {hd : List Byte} {d : DmaDesc} (hlit : Lit s) (hphase : (dmaCh s ch).phase = .move)
  (hdesc : (dmaCh s ch).desc = some d) (hformed : d.formed = true)
include hlit hphase hdesc hformed

/-- Host memory no longer reachable stops the run (R337). -/
theorem descComplete_stops {x : Int × Nat} (hclean : sourcePoisoned s ch d = false) (hblocked : d.blocked s = some x) :
    ∃ t, exec (.dmaDescComplete ch hd) s = .next t ∧ Stopped ch d true s t ∧ rdB t (Reg.DC.ERR ch) 7 = true :=
  ⟨_, descComplete_blocked hlit hphase hdesc hclean hblocked,
    stopped_failRun hformed d.total hd (f := fun t => residualShown t ch d.total) (fun _ => ⟨rfl, sameMemory_of_stores rfl rfl⟩) _
      (by decide),
    (failRun_fails _ ch _ (by decide)).shown⟩

/-- What a complete descriptor leaves (R342, R343). -/
structure Completed (s : State) (ch : Nat) (d : DmaDesc) (t : State) : Prop where
  runs : OtherRuns ch s t
  memory : MemoryExcept (dstLines d) s t
  max : d.last = false → rdF s (Reg.DC.HOP_COUNT ch) 15 0 = rdF s (Reg.DC.HOP_MAX ch) 15 0 →
    (dmaCh t ch).phase = .drain ∧ (dmaCh t ch).error = true ∧ rdB t (Reg.DC.ERR ch) 4 = true
  next : d.last = false → rdF s (Reg.DC.HOP_COUNT ch) 15 0 ≠ rdF s (Reg.DC.HOP_MAX ch) 15 0 →
    rdF t (Reg.DC.HOP_COUNT ch) 15 0 = (rdF s (Reg.DC.HOP_COUNT ch) 15 0 + 1) % 65536 ∧ curDesc t ch = d.next % 2 ^ 64 ∧
    ((dmaCh s ch).ahead = none → (dmaCh t ch).phase = .fetch ∧ (dmaCh t ch).desc = none) ∧
    ∀ e, (dmaCh s ch).ahead = some (.ok, some e) → (dmaCh t ch).phase = .check ∧ (dmaCh t ch).desc = some e
  last : d.last = true → (dmaCh t ch).phase = .idle ∧ rd t (Reg.DC.STATUS ch) = 0 ∧
    rd t (Reg.DC.RUNS ch) = plusOne (rd s (Reg.DC.RUNS ch)) ∧ rd t (Reg.DC.RESIDUAL ch) = 0
  line : d.sLines = 1 → d.dLines = 1 → d.src + d.sLen ≤ memBytes → d.dst + d.dLen ≤ memBytes → (dmaCh s ch).moved = 0 →
    (∀ b, d.dst ≤ b → b < d.dst + d.dLen → inOtherStream s ch d b = false) → memRead t d.dst d.dLen = memRead s d.src d.sLen

theorem descComplete_completes (hch : ch < 16) (hclean : sourcePoisoned s ch d = false) (hopen : d.blocked s = none) :
    ∃ t, exec (.dmaDescComplete ch hd) s = .next t ∧ Completed s ch d t := by
  have hmoved := moveTo_memory s ch d.total hd hformed
  obtain ⟨hothers, hmemory⟩ := finishDesc_leaves hch (moveTo s ch d d.total hd) d
  have hown := moveTo_own s ch d d.total hd
  have hhops : rdF (moveTo s ch d d.total hd) (Reg.DC.HOP_COUNT ch) 15 0 = rdF s (Reg.DC.HOP_COUNT ch) 15 0 :=
    rdF_congr _ _ (rd_moveTo (.inl rfl))
  have hmax : rdF (moveTo s ch d d.total hd) (Reg.DC.HOP_MAX ch) 15 0 = rdF s (Reg.DC.HOP_MAX ch) 15 0 :=
    rdF_congr _ _ (rd_moveTo (.inr (.inl rfl)))
  refine ⟨_, descComplete_finishes hlit hphase hdesc hclean hopen, ((Others.of_same (moveTo_others s ch d d.total hd)).trans hothers).runs,
    hmoved.chain (.of_same hmemory), fun hmore heq => ?_, fun hmore hne => ?_, fun hlast => ?_,
    fun hsrc hdst hsrcIn hdstIn hfirst hapart => ?_⟩
  · exact finishDesc_max hch hmore (hhops.trans (heq.trans hmax.symm))
  · obtain ⟨hcount, hcur, hfetch, hcheck⟩ := finishDesc_next hch hmore (fun heq => hne (hhops.symm.trans (heq.trans hmax)))
    rw [hown] at hfetch hcheck
    exact ⟨hcount.trans (by rw [hhops]), hcur, hfetch, hcheck⟩
  · obtain ⟨hidle, hstatus, hruns, hresidual⟩ := finishDesc_last (s := moveTo s ch d d.total hd) hch hlast
    exact ⟨hidle, hstatus, hruns.trans (congrArg plusOne (rd_moveTo (.inr (.inr rfl)))), hresidual.trans (moveTo_all hd hlit.2 hopen)⟩
  · have hbytes := streamMoved_line hd hlit.2 hopen hformed hsrc hdst hsrcIn hdstIn hfirst hapart
    obtain ⟨hmem, -⟩ := moveTo_mem s ch d d.total hd
    rw [← hbytes]
    refine List.map_congr_left fun i _ => ?_
    exact (hmemory.1 _).trans (congrArg (Store.get memDefault · _) hmem)

theorem responseError_errs {kind : RespKind} {addr moved : Nat} (hlate : (dmaCh s ch).late.contains addr = false) :
    ∃ t, exec (.dmaResponseError ch kind addr moved hd) s = .next t ∧ Stopped ch d true s t ∧ rdB t (Reg.DC.ERR ch)
      (respBit kind (d.total - max (dmaCh s ch).moved (min (min moved d.total) (d.reach s)))) = true := by
  have hmoved : (dmaCh (meetResp (moveTo s ch d moved hd) kind addr) ch).moved =
      max (dmaCh s ch).moved (min (min moved d.total) (d.reach s)) := by
    rw [dmaCh_congr (meetResp_leaves ..).1, moveTo_own, moveEnd, done, if_pos hlit.2]
  have hexec := responseError_stops (hd := hd) (kind := kind) (moved := moved) hlit hphase hdesc hlate
  rw [hmoved] at hexec
  exact ⟨_, hexec, stopped_failRun hformed moved hd (f := fun t => meetResp t kind addr) (fun t => meetResp_leaves t kind addr) addr
    (respBit_lt ..), (failRun_fails _ ch _ (respBit_lt ..)).shown⟩

theorem dmaTimeout_errs {addr moved issued : Nat} (hsince : (dmaCh s ch).since ≤ issued) (hpast : tmoPast s ch issued = true) :
    ∃ t, exec (.dmaTimeout ch addr moved hd issued) s = .next t ∧ Stopped ch d true s t ∧
      (dmaCh t ch).late = (dmaCh s ch).late ++ [addr] ∧ rdB t (Reg.DC.ERR ch) 3 = true := by
  have hstopped : Stopped ch d true s (failRun (moveTo s ch d moved hd) ch 3 addr) :=
    stopped_failRun hformed moved hd (f := id) (fun _ => ⟨rfl, fun _ => rfl, fun _ => rfl⟩) addr (by decide)
  have hfailed := failRun_fails (moveTo s ch d moved hd) ch addr (b := 3) (by decide)
  refine ⟨_, dmaTimeout_stops hlit hphase hdesc hsince hpast, hstopped.lateNoted addr, ?_, ?_⟩
  · rw [lateNoted, dmaCh_setDma_same, hfailed.own, moveTo_own]
  · rw [rdB, rd_lateNoted]
    exact hfailed.shown

theorem dmaAbort_stops (hch : ch < 16) {a : Agent} {v : Word} {moved : Nat} (hacc : Accepts s a (Reg.DC.CH_CMD ch) .cmd) (hgo : bit v 0 = false)
    (habort : bit v 1 = true) (hruns : chState s ch = 1) :
    ∃ t, exec (.dmaAbort a ch false v moved hd) s = .next t ∧ Stopped ch d false s t :=
  ⟨_, dmaAbort_accepted hlit.1 hch hacc hgo habort hruns, (stopped_abort hformed hphase hdesc hruns).touchSession a _⟩

end

/-! ### Commands of the other phases -/

section
variable {s : State} {ch : Nat}

theorem dmaStart_starts (hch : ch < 16) {c : Instr} (hawake : Awake s) (hstart : canStart s ch = true)
    (hc : c = Instr.dmaTrigger ch ∧ (dmaCh s ch).trig = true ∧ serdesOn s = true ∨ (∃ a v, c = .dmaGo a ch v ∧
      Accepts s a (Reg.DC.CH_CMD ch) .cmd ∧ bit v 0 = true ∧ bit v 1 = false)) : ∃ t, exec c s = .next t ∧ Started ch s t := by
  rcases hc with ⟨rfl, htrig, hserdes⟩ | ⟨a, v, rfl, hacc, hgo, hkeep⟩
  · exact ⟨_, by rw [dmaTrigger_seen ⟨hawake, hserdes⟩ htrig, if_pos hstart], (startRun_starts (untriggered s ch) ch).of_untriggered⟩
  · exact ⟨_, by rw [dmaGo_accepted hawake hch hacc hgo hkeep, if_pos hstart], (startRun_starts s ch).touchSession a _⟩

theorem dmaGo_ignored (hch : ch < 16) {a : Agent} {v : Word} (hawake : Awake s) (hacc : Accepts s a (Reg.DC.CH_CMD ch) .cmd) (hgo : bit v 0 = true)
    (hkeep : bit v 1 = false) (hnot : canStart s ch = false) : exec (.dmaGo a ch v) s =
      .next (touchSession s a (pageOf (Reg.DC.CH_CMD ch)) (bump s (Reg.DC.GO_IGNORED ch))) := by
  rw [dmaGo_accepted hawake hch hacc hgo hkeep, if_neg (Bool.eq_false_iff.mp hnot)]

theorem dmaTrigger_missed (hlit : Lit s) (htrig : (dmaCh s ch).trig = true) (hnot : canStart s ch = false) :
    exec (.dmaTrigger ch) s = .next (bump (untriggered s ch) (Reg.DC.TRIG_MISSED ch)) := by
  rw [dmaTrigger_seen hlit htrig, if_neg (Bool.eq_false_iff.mp hnot)]

end

/-- A descriptor that is not good stops the run before it moves. -/
theorem descCheck_stops {s : State} {ch : Nat} {d : DmaDesc} (hlit : Lit s) (hphase : (dmaCh s ch).phase = .check)
    (hdesc : (dmaCh s ch).desc = some d) (hbad : d.formed = false ∨ (badLine s ch d).isSome = true) :
    ∃ t, exec (.dmaDescCheck ch) s = .next t ∧ (dmaCh t ch).phase = .drain ∧ (dmaCh t ch).error = true ∧
      rdB t (Reg.DC.ERR ch) (if d.formed then 7 else 5) = true ∧ OtherChannels ch s t ∧ SameMemory s t := by
  obtain ⟨addr, hexec⟩ := descCheck_fails hlit hphase hdesc hbad
  have hsame (c : Nat) : dmaCh (residualShown s ch d.total) c = dmaCh s c := dmaCh_wr ..
  have hmemory : SameMemory s (residualShown s ch d.total) := sameMemory_of_stores rfl rfl
  have hfailed := failRun_fails (residualShown s ch d.total) ch addr (b := if d.formed then 7 else 5) (by split <;> decide)
  have hstill := hfailed.still (by rw [hsame, hphase]; decide)
  refine ⟨_, hexec, ?_, ?_, hfailed.shown, fun c hc => (hstill c hc).trans (hsame c), hmemory.trans hfailed.memory⟩
  · rw [hfailed.own]
  · rw [hfailed.own]

theorem descCheck_moves {s : State} {ch : Nat} {d : DmaDesc} (hlit : Lit s) (hphase : (dmaCh s ch).phase = .check)
    (hdesc : (dmaCh s ch).desc = some d) (hformed : d.formed = true) (hgood : badLine s ch d = none) :
    ∃ t, exec (.dmaDescCheck ch) s = .next t ∧ (dmaCh t ch).phase = .move ∧ (dmaCh t ch).moved = 0 ∧
      rdN t (Reg.DC.RESIDUAL ch) = min 0xFFFFFF d.total ∧ RegsExcept [Reg.DC.RESIDUAL ch] s t ∧ OtherChannels ch s t ∧
      SameMemory s t := by
  have hshown : rd (residualShown s ch d.total) (Reg.DC.RESIDUAL ch) = w32 (min 0xFFFFFF d.total) := rd_wr_same ..
  have hregs : RegsExcept [Reg.DC.RESIDUAL ch] s (residualShown s ch d.total) := RegsExcept.wr (.refl _ s) _ (List.mem_singleton_self _)
  have hsame (c : Nat) : dmaCh (residualShown s ch d.total) c = dmaCh s c := dmaCh_wr ..
  have hmemory : SameMemory s (residualShown s ch d.total) := sameMemory_of_stores rfl rfl
  refine ⟨_, descCheck_passes hlit hphase hdesc hformed hgood, ?_⟩
  generalize residualShown s ch d.total = u at hshown hregs hsame hmemory
  refine ⟨by rw [dmaCh_setDma_same], by rw [dmaCh_setDma_same], ?_, hregs.of_regs rfl, fun c hc => ?_, hmemory⟩
  · change (rd u (Reg.DC.RESIDUAL ch)).toNat = _
    rw [hshown, toNat_w32 (by omega)]
  · rw [dmaCh_setDma_other _ _ _ _ hc, hsame]

theorem drainDone_leaves {s : State} {ch : Nat} (hlit : Lit s) (hdrain : (dmaCh s ch).phase = .drain) :
    ∃ t, exec (.dmaDrainDone ch) s = .next t ∧ (dmaCh t ch).phase = .idle ∧
      chState t ch = (if (dmaCh s ch).error then 2 else 3) ∧ RegsExcept [Reg.DC.STATUS ch] s t ∧ OtherChannels ch s t ∧
      SameMemory s t := by
  obtain ⟨hidle, hstate, hregs, hothers, hmemory⟩ := drained_leaves s ch (dmaCh s ch).error
  refine ⟨_, drainDone_ends hlit hdrain, ?_⟩
  generalize drained s ch (dmaCh s ch).error = u at hidle hstate hregs hothers hmemory
  split
  · next herror =>
    rw [if_pos herror] at hstate
    refine ⟨?_, ?_, hregs.of_regs (raiseE_regs ..), fun c hc => ?_, hmemory.trans ?_⟩
    · rw [dmaCh_raiseE]; exact hidle
    · rw [chState, rdF, rd_raiseE]; exact hstate
    · rw [dmaCh_raiseE]; exact hothers c hc
    · exact sameMemory_of_stores (raiseE_mem ..) (raiseE_hostMem ..)
  · next herror =>
    rw [if_neg herror] at hstate
    exact ⟨hidle, hstate, hregs, hothers, hmemory⟩

end Sys2Proof.Machine
end

section
open Sys2Proof Sys2Proof.Machine

/-- Settles O49: each command of a channel by the phase it finds; what is written lies in the destination's lines. -/
theorem dmaChannels : Obligations.DmaChannels := by
  refine ⟨fun s ch hawake hch => ⟨fun c hc hstart => ?_, fun a v hacc hgo hkeep hnot => ?_, fun htrig hserdes hnot => ?_,
      dmaTrigger_unseen hawake⟩,
    fun s ch hd hlit hch => ⟨fun hphase => ⟨fun hin hclean => ?_, fetchDone_early hlit, fun hlate => ?_⟩,
      fun d hphase hdesc => ⟨descCheck_moves hlit hphase hdesc, descCheck_stops hlit hphase hdesc⟩,
      fun d lines hphase hdesc hformed hlines => ?_, drainDone_idle hlit, drainDone_leaves hlit⟩,
    fun s a ch v hawake hch hacc => ?_⟩
  · obtain ⟨t, hexec, hphase, hstatus, hlow, hhigh, hhops, hothers, hmemory, hregs⟩ := dmaStart_starts hch hawake hstart hc
    exact ⟨t, hexec, hphase, hstatus, hlow, hhigh, hhops, hothers, hmemory, hregs⟩
  · refine ⟨_, dmaGo_ignored hch hawake hacc hgo hkeep hnot, touchSession_dma .., ?_, ?_⟩
    · rw [rd_touchSession, rd_bump_same]
    · exact ((RegsExcept.refl _ s).wr _ (List.mem_singleton_self _)).touchSession
  · refine ⟨_, dmaTrigger_missed ⟨hawake, hserdes⟩ htrig hnot, ?_, rd_bump_same ..,
      RegsExcept.wr (.of_regs (.refl _ s) rfl) _ (List.mem_singleton_self _)⟩
    rw [dmaCh_bump, untriggered, dmaCh_setDma_same]
  · refine ⟨_, fetchDone_good hlit hphase hin hclean, ?_, ?_, rfl, fun c hc => dmaCh_setDma_other _ _ _ _ hc, sameMemory_of_stores rfl rfl⟩
    · rw [dmaCh_setDma_same]
    · rw [dmaCh_setDma_same]
  · have hfailed := failRun_fails s ch (curDesc s ch) (b := 3) (by decide)
    refine ⟨_, fetchDone_late hlit hphase hlate, ?_, ?_, hfailed.shown, hfailed.still (by rw [hphase]; decide), hfailed.memory⟩
    · rw [hfailed.own]
    · rw [hfailed.own]
  · obtain rfl : lines = dstLines d := hlines
    refine ⟨descComplete_poisoned hlit hphase hdesc, fun x hclean hblocked => ?_, fun hclean hopen => ?_,
      fun kind addr moved hlate => responseError_late hlit hlate, fun kind addr moved hlate => ?_,
      fun addr issued moved hearly => dmaTimeout_early hlit hearly, fun addr issued moved hsince hpast => ?_,
      fun a v moved hacc hgo habort hruns => ?_⟩
    · obtain ⟨t, hexec, ⟨hdrain, herror, hothers, hmemory⟩, hshown⟩ := descComplete_stops hlit hphase hdesc hformed hclean hblocked
      exact ⟨t, hexec, hdrain, herror, hshown, hothers, hmemory⟩
    · obtain ⟨t, hexec, hothers, hmemory, hmax, hnext, hlast, hline⟩ := descComplete_completes hlit hphase hdesc hformed hch hclean hopen
      exact ⟨t, hexec, hothers, hmemory, hmax, hnext, hlast, hline⟩
    · obtain ⟨t, hexec, ⟨hdrain, herror, hothers, hmemory⟩, hshown⟩ := responseError_errs hlit hphase hdesc hformed hlate
      exact ⟨t, hexec, hdrain, herror, hothers, hmemory, hshown⟩
    · obtain ⟨t, hexec, ⟨hdrain, herror, hothers, hmemory⟩, hlate, hshown⟩ := dmaTimeout_errs hlit hphase hdesc hformed hsince hpast
      exact ⟨t, hexec, hdrain, herror, hlate, hshown, hothers, hmemory⟩
    · obtain ⟨t, hexec, hdrain, herror, hothers, hmemory⟩ := dmaAbort_stops hlit hphase hdesc hformed hch hacc hgo habort hruns
      exact ⟨t, hexec, hdrain, herror, hothers, hmemory⟩
  · obtain ⟨herr, hregs, hdma, hclear, hstays⟩ := writeDmaErr_leaves s ch v
    refine ⟨_, errClear_accepted hawake hch hacc, ?_, hregs.touchSession, ?_, fun hzero hstopped => ?_, fun hsome => ?_⟩
    · rw [rd_touchSession, herr]
    · rw [touchSession_dma, hdma]
    · rw [chState, rdF, rd_touchSession]
      exact hclear hzero hstopped
    · rw [rd_touchSession, hstays hsome]

end

section
/-! SUPPORT. The blitter's rows (R330 to R335): where they are written, what they hold, and what running them leaves. -/

namespace Sys2Proof.Machine

/-! ### Words in error (R455) -/

/-- No word of device memory is in error. -/
def Clean (s : State) : Prop := ∀ w, Store.get noB s.poison w = false

theorem clean_of_nil {s : State} (h : s.poison = []) : Clean s := fun w => by rw [h]; rfl

theorem Clean.memPoisoned {s : State} (h : Clean s) (a n : Nat) : memPoisoned s a n = false := by
  rw [Machine.memPoisoned, List.any_eq_false]
  intro i _
  rw [h]
  decide

theorem Clean.rowPoisoned {s : State} (h : Clean s) (o : BltOp) (r : Nat) : rowPoisoned s o r = false := by
  rw [Machine.rowPoisoned, h.memPoisoned, h.memPoisoned, Bool.and_false, Bool.and_false]
  rfl

theorem healed_clean {p : Store Bool} (h : ∀ w, Store.get noB p w = false) (a n w : Nat) : Store.get noB (healed p a n) w = false := by
  unfold healed
  refine List.foldlRecOn (motive := fun p => ∀ w, Store.get noB p w = false) _ _ h (fun p hp i _ w => ?_) w
  rw [Store.get_set]
  split
  · rfl
  · exact hp w

/-! ### Bytes written -/

/-- A write of bytes at any address changes no byte outside its range. -/
theorem memWrite_within (s : State) (a : Nat) (bs : List Byte) : MemoryExcept [(a, bs.length)] s (memWrite s a bs) := by
  refine ⟨fun b hb => ?_, fun _ _ => rfl⟩
  have hout : b < a ∨ a + bs.length ≤ b := hb _ (List.mem_singleton_self _)
  have hlen := List.length_take_le (memBytes - a) bs
  have hfull := List.length_take_le' (memBytes - a) bs
  rw [memByte, memWrite, Store.get_setList, dif_neg (by omega), memByte]

/-- A piece of what was written reads as that piece. -/
theorem memRead_piece (s : State) {a i k : Nat} {bs : List Byte} (hin : a + bs.length ≤ memBytes) (hik : i + k ≤ bs.length) :
    memRead (memWrite s a bs) (a + i) k = (bs.drop i).take k := by
  obtain ⟨hbytes, -⟩ := memWrite_bytes s a bs (decide_eq_true hin)
  refine List.ext_getElem (by rw [memRead_length, List.length_take, List.length_drop]; omega) fun j hj _ => ?_
  rw [memRead_length] at hj
  have hbyte := hbytes (i + j) (by omega)
  simp only [memRead, Store.slice, List.getElem_map, List.getElem_range, List.getElem_take, List.getElem_drop]
  rw [Nat.add_assoc]
  refine hbyte.trans ?_
  rw [byteAt, List.getD_eq_getElem?_getD, List.getElem?_eq_getElem (by omega), Option.getD_some]

/-- Bytes read the same where memory is the same. -/
theorem memRead_congr {s t : State} {a n : Nat} (h : ∀ i, i < n → memByte t (a + i) = memByte s (a + i)) :
    memRead t a n = memRead s a n :=
  List.map_congr_left fun i hi => h i (List.mem_range.mp hi)

theorem SameMemory.memRead {s t : State} (h : SameMemory s t) (a n : Nat) : memRead t a n = memRead s a n :=
  memRead_congr fun _ _ => h.1 _

/-- The `u`-th of equally long pieces. -/
theorem flatMap_piece {α : Type} {f : Nat → List α} {n k u : Nat} (hlen : ∀ i, (f i).length = k) (hu : u < n) :
    (((List.range n).flatMap f).drop (k * u)).take k = f u := by
  induction u generalizing f n with
  | zero =>
    obtain ⟨m, rfl⟩ := Nat.exists_eq_add_one_of_ne_zero (Nat.ne_of_gt hu)
    rw [List.range_succ_eq_map, List.flatMap_cons, Nat.mul_zero, List.drop_zero, List.take_left' (hlen 0)]
  | succ u ih =>
    obtain ⟨m, rfl⟩ := Nat.exists_eq_add_one_of_ne_zero (Nat.ne_of_gt (Nat.zero_lt_of_lt hu))
    rw [List.range_succ_eq_map, List.flatMap_cons, List.flatMap_map, Nat.mul_succ, Nat.add_comm, ← List.drop_drop,
      List.drop_left' (hlen 0)]
    exact ih (fun i => hlen (i + 1)) (Nat.lt_of_succ_lt_succ hu)

/-! ### Streams that cross a row (R340) -/

theorem movingShapes_congr {s t : State} (h : t.dma = s.dma) (ch : Nat) : movingShapes t ch = movingShapes s ch := by
  simp only [movingShapes, dmaCh_congr h]

theorem crossed_congr {s t : State} {o q : BltOp} (hdma : t.dma = s.dma) (hmet : q.met = o.met) (a : Nat) :
    crossed t q a = crossed s o a := by rw [crossed, movingShapes_congr hdma, hmet, crossed]

/-- Bytes that no stream crosses are written as they are. -/
theorem bltBytes_uncrossed {s : State} {o : BltOp} {a : Nat} {bs : List Byte}
    (h : ∀ i, i < bs.length → crossed s o (a + i) = false) : bltBytes s o a bs = bs := by
  have heach : ∀ e ∈ bs.zipIdx, (if (movingShapes s 16 ++ o.met).any (fun x => x.has (a + e.2)) then Config.freeByte (s.free + e.2)
      else e.1) = e.1 := fun e he => by
    have hlt : e.2 < bs.length := (List.mem_zipIdx' he).1
    exact if_neg (Bool.eq_false_iff.mp (h e.2 hlt))
  exact (List.map_congr_left heach).trans (List.zipIdx_map_fst 0 bs)

theorem length_bltBytes (s : State) (o : BltOp) (a : Nat) (bs : List Byte) : (bltBytes s o a bs).length = bs.length := by
  rw [bltBytes, List.length_map, List.length_zipIdx]

/-! ### Rows run -/

/-- The rows of an operation's destination. -/
def dstRows (o : BltOp) : List (Nat × Nat) := (List.range o.h).map fun r => (o.dst.rowAt r, rowBytes o.dst.fmt o.w)

theorem rowOf_lt {o : BltOp} {i : Nat} (h : i < o.h) : o.rowOf i < o.h := by
  unfold BltOp.rowOf
  split <;> omega

/-- A part of the next row written changes the row's bytes, and of the rest the count of bytes. -/
theorem writePart_frame (s : State) (o : BltOp) (n : Nat) : writePart s o n = { s with
    free := (writePart s o n).free
    regs := (writePart s o n).regs
    par := (writePart s o n).par
    mem := (writePart s o n).mem
    poison := (writePart s o n).poison } := rfl

theorem writePart_mem (s : State) (o : BltOp) (n : Nat) : (writePart s o n).mem = (memWrite s (o.dst.rowAt (o.rowOf o.rows))
    (bltBytes s o (o.dst.rowAt (o.rowOf o.rows)) ((bltRow s o (o.rowOf o.rows)).take n))).mem := rfl

theorem writePart_memory (s : State) (o : BltOp) {n : Nat} (hrow : o.rows < o.h) (hn : n ≤ rowBytes o.dst.fmt o.w) :
    MemoryExcept (dstRows o) s (writePart s o n) := by
  refine MemoryExcept.chain ((memWrite_within s (o.dst.rowAt (o.rowOf o.rows)) _).mono fun x hx => ?_)
    (.of_same (sameMemory_of_stores (writePart_mem s o n) rfl))
  rw [List.mem_singleton] at hx
  subst hx
  refine ⟨_, List.mem_map.mpr ⟨_, List.mem_range.mpr (rowOf_lt hrow), rfl⟩, Nat.le_refl _, ?_⟩
  have hlen := List.length_take_le n (bltRow s o (o.rowOf o.rows))
  rw [length_bltBytes]
  dsimp only
  omega

theorem Clean.writePart {s : State} (h : Clean s) (o : BltOp) (n : Nat) : Clean (writePart s o n) :=
  fun w => healed_clean h _ _ w

/-- An operation with the same parameters, at another row. -/
def SameOp (o q : BltOp) : Prop := q = { o with rows := q.rows }

/-- What running rows leaves: the operation's parameters, the streams, the clocks, host memory, and every byte outside the
destination's rows. -/
structure RowsRun (o : BltOp) (s t : State) (q : BltOp) : Prop where
  op : SameOp o q
  frame : t = { s with free := t.free, regs := t.regs, par := t.par, mem := t.mem, poison := t.poison }
  memory : MemoryExcept (dstRows o) s t

theorem RowsRun.refl (s : State) (o : BltOp) : RowsRun o s s o := ⟨rfl, rfl, .refl _ s⟩

/-- A row more. -/
def nextRow (o : BltOp) : BltOp := { o with rows := o.rows + 1 }

theorem runRows_stops {n : Nat} {s : State} {o : BltOp} (h : o.h ≤ o.rows ∨ rowPoisoned s o (o.rowOf o.rows) = true) :
    runRows (n + 1) s o = (s, o) := by rw [runRows, if_pos h]

theorem runRows_goes {n : Nat} {s : State} {o : BltOp} (h : ¬ (o.h ≤ o.rows ∨ rowPoisoned s o (o.rowOf o.rows) = true)) :
    runRows (n + 1) s o = runRows n (writePart s o (rowBytes o.dst.fmt o.w)) (nextRow o) := by
  rw [runRows, if_neg h]
  rfl

theorem runRows_runs (n : Nat) (s : State) (o : BltOp) : RowsRun o s (runRows n s o).1 (runRows n s o).2 ∧
    o.rows ≤ (runRows n s o).2.rows ∧ (runRows n s o).2.rows ≤ o.rows + n := by
  induction n generalizing s o with
  | zero => exact ⟨.refl s o, Nat.le_refl _, Nat.le_refl _⟩
  | succ n ih =>
    by_cases hstop : o.h ≤ o.rows ∨ rowPoisoned s o (o.rowOf o.rows) = true
    · rw [runRows_stops hstop]
      exact ⟨.refl s o, Nat.le_refl _, Nat.le_add_right ..⟩
    · obtain ⟨⟨hop, hframe, hmemory⟩, hlow, hhigh⟩ := ih (writePart s o (rowBytes o.dst.fmt o.w)) (nextRow o)
      rw [runRows_goes hstop]
      have hrow : o.rows < o.h := Nat.not_le.mp fun h => hstop (.inl h)
      refine ⟨⟨hop, ?_, (writePart_memory s o hrow (Nat.le_refl _)).chain hmemory⟩, ?_, ?_⟩
      · rw [hframe, writePart_frame]
      · exact Nat.le_trans (Nat.le_succ _) hlow
      · have hnext : (nextRow o).rows = o.rows + 1 := rfl
        omega

/-- Without words in error all rows asked for are written. -/
theorem runRows_all (n : Nat) {s : State} {o : BltOp} (hclean : Clean s) (hn : o.h ≤ o.rows + n) : o.h ≤ (runRows n s o).2.rows := by
  induction n generalizing s o with
  | zero => exact hn
  | succ n ih =>
    by_cases hend : o.h ≤ o.rows
    · rw [runRows_stops (.inl hend)]
      exact hend
    · have hgo : ¬ (o.h ≤ o.rows ∨ rowPoisoned s o (o.rowOf o.rows) = true) := by
        rw [hclean.rowPoisoned]
        simpa using hend
      rw [runRows_goes hgo]
      refine ih (o := nextRow o) (hclean.writePart o _) ?_
      have hnext : (nextRow o).rows = o.rows + 1 ∧ (nextRow o).h = o.h := ⟨rfl, rfl⟩
      omega

/-! ### What the rows hold -/

/-- Distinct rows lie apart where a row is no longer than the stride. -/
theorem rowAt_apart (x : BltSurf) {r q : Nat} (n : Nat) (hne : r ≠ q) (hstride : n ≤ x.stride) :
    x.rowAt r + n ≤ x.rowAt q ∨ x.rowAt q + n ≤ x.rowAt r := by
  have hstep {i j : Nat} (hij : i < j) : x.rowAt i + n ≤ x.rowAt j := by
    have hmul : (x.y + i + 1) * x.stride ≤ (x.y + j) * x.stride := Nat.mul_le_mul_right _ (by omega)
    rw [Nat.add_mul, Nat.one_mul] at hmul
    unfold BltSurf.rowAt
    omega
  obtain h | h := Nat.lt_or_gt_of_ne hne
  · exact .inl (hstep h)
  · exact .inr (hstep h)

theorem SameOp.rowOf {o q : BltOp} (h : SameOp o q) (i : Nat) : q.rowOf i = o.rowOf i := by rw [h]; rfl

/-- Every row stands somewhere in the row order. -/
theorem exists_rowOf {o : BltOp} {r : Nat} (h : r < o.h) : ∃ i, i < o.h ∧ o.rowOf i = r := by
  cases hup : o.up with
  | true => exact ⟨o.h - 1 - r, by omega, by simp only [BltOp.rowOf, hup, if_true]; omega⟩
  | false => exact ⟨r, h, by simp only [BltOp.rowOf, hup, Bool.false_eq_true, if_false]⟩

theorem rowOf_injective {o : BltOp} {i j : Nat} (hi : i < o.h) (hj : j < o.h) (h : o.rowOf i = o.rowOf j) : i = j := by
  unfold BltOp.rowOf at h
  split at h <;> omega

/-- The rows that an operation writes are given by `val` in every state that it passes. -/
structure WritesRows (s : State) (o : BltOp) (val : Nat → List Byte) : Prop where
  length : ∀ r, r < o.h → (val r).length = rowBytes o.dst.fmt o.w
  inside : ∀ r, r < o.h → o.dst.rowAt r + rowBytes o.dst.fmt o.w ≤ memBytes
  stride : rowBytes o.dst.fmt o.w ≤ o.dst.stride
  row : ∀ t q r, t.dma = s.dma → MemoryExcept (dstRows o) s t → SameOp o q → r < o.h →
    bltBytes t q (o.dst.rowAt r) ((bltRow t q r).take (rowBytes o.dst.fmt o.w)) = val r

/-- The rows already run hold their values. -/
def RowsHeld (o : BltOp) (val : Nat → List Byte) (t : State) (q : BltOp) : Prop :=
  ∀ i, i < o.h → i < q.rows → memRead t (o.dst.rowAt (o.rowOf i)) (rowBytes o.dst.fmt o.w) = val (o.rowOf i)

theorem writePart_holds {s t : State} {o q : BltOp} {val : Nat → List Byte} (h : WritesRows s o val) (hdma : t.dma = s.dma)
    (hmemory : MemoryExcept (dstRows o) s t) (hop : SameOp o q) (hrow : q.rows < o.h) (hheld : RowsHeld o val t q) :
    RowsHeld o val (writePart t q (rowBytes o.dst.fmt o.w)) (nextRow q) := by
  obtain ⟨hlength, hinside, hstride, hval⟩ := h
  have hsurf : q.dst = o.dst := by rw [hop]
  have hnow : q.rowOf q.rows = o.rowOf q.rows := hop.rowOf _
  have hmem : (writePart t q (rowBytes o.dst.fmt o.w)).mem =
      (memWrite t (o.dst.rowAt (o.rowOf q.rows)) (val (o.rowOf q.rows))).mem := by
    rw [writePart_mem, hnow, hsurf, hval t q _ hdma hmemory hop (rowOf_lt hrow)]
  have hread (a n : Nat) : memRead (writePart t q (rowBytes o.dst.fmt o.w)) a n =
      memRead (memWrite t (o.dst.rowAt (o.rowOf q.rows)) (val (o.rowOf q.rows))) a n := by rw [memRead, hmem, memRead]
  have hlen := hlength _ (rowOf_lt hrow)
  have hin : inMem (o.dst.rowAt (o.rowOf q.rows)) (val (o.rowOf q.rows)).length = true := by
    rw [hlen]
    exact decide_eq_true (hinside _ (rowOf_lt hrow))
  intro i hi hbefore
  rw [hread]
  by_cases hself : i = q.rows
  · rw [hself, ← hlen]
    exact memRead_memWrite t hin
  · have hearlier : i < q.rows := Nat.lt_of_le_of_ne (Nat.le_of_lt_succ hbefore) hself
    rw [← hheld i hi hearlier]
    have hne : o.rowOf i ≠ o.rowOf q.rows := fun heq => hself (rowOf_injective hi hrow heq)
    have hapart := rowAt_apart o.dst _ hne hstride
    exact memRead_congr fun j hj => (memWrite_bytes t _ _ hin).2 _ (by rw [hlen]; omega)

theorem runRows_holds (n : Nat) {s t : State} {o q : BltOp} {val : Nat → List Byte} (h : WritesRows s o val) (hdma : t.dma = s.dma)
    (hmemory : MemoryExcept (dstRows o) s t) (hop : SameOp o q) (hheld : RowsHeld o val t q) :
    RowsHeld o val (runRows n t q).1 (runRows n t q).2 := by
  induction n generalizing t q with
  | zero => exact hheld
  | succ n ih =>
    have hsame : q.h = o.h ∧ q.dst = o.dst ∧ q.w = o.w := by rw [hop]; exact ⟨rfl, rfl, rfl⟩
    obtain ⟨hh, hdst, hw⟩ := hsame
    have hrows : dstRows q = dstRows o := by rw [dstRows, hh, hdst, hw, dstRows]
    by_cases hstop : q.h ≤ q.rows ∨ rowPoisoned t q (q.rowOf q.rows) = true
    · rw [runRows_stops hstop]
      exact hheld
    · have hrow : q.rows < q.h := Nat.not_le.mp fun hle => hstop (.inl hle)
      have hwritten := writePart_memory t q hrow (Nat.le_refl _)
      rw [hrows] at hwritten
      rw [runRows_goes hstop]
      refine ih ?_ (hmemory.chain hwritten) ?_ ?_
      · rw [writePart_frame]
        exact hdma
      · rw [SameOp, nextRow, hop]
      · rw [hdst, hw]
        exact writePart_holds h hdma hmemory hop (hh ▸ hrow) hheld

/-- An operation run to its end from its first row holds every row. -/
theorem runRows_fills {s : State} {o : BltOp} {val : Nat → List Byte} (h : WritesRows s o val) (hclean : Clean s) (hfirst : o.rows = 0)
    {r : Nat} (hr : r < o.h) : memRead (runRows (o.h - o.rows) s o).1 (o.dst.rowAt r) (rowBytes o.dst.fmt o.w) = val r := by
  obtain ⟨i, hi, rfl⟩ := exists_rowOf hr
  have hheld : RowsHeld o val s o := fun i _ hlt => absurd hlt (by omega)
  exact runRows_holds (o.h - o.rows) h rfl (.refl _ s) (show SameOp o o from rfl) hheld i hi
    (Nat.lt_of_lt_of_le hi (runRows_all _ hclean (by omega)))

/-! ### FILL and COPY (R330, R333) -/

/-- No byte of a destination row is in another stream's footprint. -/
def Uncrossed (s : State) (o : BltOp) : Prop :=
  ∀ r i, r < o.h → i < rowBytes o.dst.fmt o.w → crossed s o (o.dst.rowAt r + i) = false

/-- A row of full length that no stream crosses is written as it is. -/
theorem writtenRow {s t : State} {o q : BltOp} {r : Nat} {bs : List Byte} (hun : Uncrossed s o) (hdma : t.dma = s.dma) (hop : SameOp o q)
    (hr : r < o.h) (hrow : bltRow t q r = bs) (hlen : bs.length = rowBytes o.dst.fmt o.w) :
    bltBytes t q (o.dst.rowAt r) ((bltRow t q r).take (rowBytes o.dst.fmt o.w)) = bs := by
  have hmet : q.met = o.met := by rw [hop]
  rw [hrow, List.take_of_length_le (Nat.le_of_eq hlen)]
  exact bltBytes_uncrossed fun i hi => (crossed_congr hdma hmet _).trans (hun r i hr (hlen ▸ hi))

theorem writesRows_fill {s : State} {o : BltOp} (hop : o.op = 1) (hun : Uncrossed s o)
    (hwidth : rowBytes o.dst.fmt o.w = o.w / unitPx o.dst.fmt * o.fill.length) (hstride : rowBytes o.dst.fmt o.w ≤ o.dst.stride)
    (hin : ∀ r, r < o.h → o.dst.rowAt r + rowBytes o.dst.fmt o.w ≤ memBytes) :
    WritesRows s o fun _ => (List.replicate (o.w / unitPx o.dst.fmt) o.fill).flatten := by
  have hlen : (List.replicate (o.w / unitPx o.dst.fmt) o.fill).flatten.length = rowBytes o.dst.fmt o.w := by
    rw [List.length_flatten, List.map_replicate, List.sum_replicate_nat, hwidth]
  refine ⟨fun _ _ => hlen, hin, hstride, fun t q r hdma _ hsame hr => writtenRow hun hdma hsame hr ?_ hlen⟩
  rw [hsame, bltRow]
  simp only [hop]

theorem writesRows_copy {s : State} {o : BltOp} (hop : o.op = 0) (hfmt : o.src.fmt = o.dst.fmt) (hun : Uncrossed s o)
    (hstride : rowBytes o.dst.fmt o.w ≤ o.dst.stride) (hin : ∀ r, r < o.h → o.dst.rowAt r + rowBytes o.dst.fmt o.w ≤ memBytes)
    (hapart : ∀ r q, r < o.h → q < o.h → o.src.rowAt r + rowBytes o.dst.fmt o.w ≤ o.dst.rowAt q ∨
      o.dst.rowAt q + rowBytes o.dst.fmt o.w ≤ o.src.rowAt r) :
    WritesRows s o fun r => memRead s (o.src.rowAt r) (rowBytes o.dst.fmt o.w) := by
  refine ⟨fun _ _ => memRead_length .., hin, hstride, fun t q r hdma hmemory hsame hr => writtenRow hun hdma hsame hr ?_ (memRead_length ..)⟩
  have hrow : bltRow t q r = memRead t (o.src.rowAt r) (rowBytes o.src.fmt o.w) := by
    rw [hsame, bltRow]
    simp only [hop]
  rw [hrow, hfmt]
  refine memRead_congr fun i hi => hmemory.1 _ fun x hx => ?_
  obtain ⟨k, hk, rfl⟩ := List.mem_map.mp hx
  have hout := hapart r k hr (List.mem_range.mp hk)
  dsimp only
  omega

/-! ### The last row of COPY_BLEND and COPY_CONVERT (R331, R332) -/

theorem length_unitOf (f : Nat) (samples : List Nat) : (unitOf f samples).length = unitBytes f := length_leBytes ..

/-- A unit of a row that is its units one after another, written last. -/
theorem lastRow_unit {s : State} {o : BltOp} {f u : Nat} {unit : Nat → List Byte} (hclean : Clean s) (hlast : o.rows + 1 = o.h)
    (hf : f = o.dst.fmt) (hu : u < o.w / unitPx f) (hwidth : rowBytes f o.w = o.w / unitPx f * unitBytes f)
    (hin : o.dst.rowAt (o.rowOf o.rows) + rowBytes f o.w ≤ memBytes)
    (hun : ∀ i, i < rowBytes f o.w → crossed s o (o.dst.rowAt (o.rowOf o.rows) + i) = false)
    (hlen : ∀ v, (unit v).length = unitBytes f) (hrow : bltRow s o (o.rowOf o.rows) = (List.range (o.w / unitPx f)).flatMap unit) :
    memRead (runRows (o.h - o.rows) s o).1 (o.dst.rowAt (o.rowOf o.rows) + unitBytes f * u) (unitBytes f) = unit u := by
  subst hf
  have hgo : ¬ (o.h ≤ o.rows ∨ rowPoisoned s o (o.rowOf o.rows) = true) := by
    rw [hclean.rowPoisoned]
    simp only [Bool.false_eq_true, or_false]
    omega
  have hone : o.h - o.rows = 0 + 1 := by omega
  rw [hone, runRows_goes hgo, runRows]
  have hfull : ((List.range (o.w / unitPx o.dst.fmt)).flatMap unit).length = rowBytes o.dst.fmt o.w := by
    rw [List.length_flatMap, hwidth, List.map_congr_left (fun v _ => hlen v), List.map_const', List.length_range,
      List.sum_replicate_nat]
  have hbytes : bltBytes s o (o.dst.rowAt (o.rowOf o.rows)) ((bltRow s o (o.rowOf o.rows)).take (rowBytes o.dst.fmt o.w)) =
      (List.range (o.w / unitPx o.dst.fmt)).flatMap unit := by
    rw [hrow, List.take_of_length_le (Nat.le_of_eq hfull)]
    exact bltBytes_uncrossed fun i hi => hun i (hfull ▸ hi)
  have hmem := writePart_mem s o (rowBytes o.dst.fmt o.w)
  rw [hbytes] at hmem
  rw [memRead, hmem, ← memRead, memRead_piece s (by rw [hfull]; exact hin), flatMap_piece hlen hu]
  rw [hfull, hwidth, Nat.mul_comm _ (unitBytes _), ← Nat.mul_succ]
  exact Nat.mul_le_mul_left _ hu

theorem bltRow_blend {s : State} {o : BltOp} {r : Nat} (h : o.op = 2) : bltRow s o r =
    (List.range (o.w / unitPx o.dst.fmt)).flatMap fun u => blendUnit s o r (unitPx o.dst.fmt * u) := by
  simp only [bltRow, h]

theorem bltRow_convert {s : State} {o : BltOp} {r : Nat} (h : o.op = 3) : bltRow s o r =
    (List.range (o.w / unitPx o.dst.fmt)).flatMap fun u => convertUnit s o r (unitPx o.dst.fmt * u) := by
  simp only [bltRow, h]

theorem length_convertUnit (s : State) (o : BltOp) (r i : Nat) : (convertUnit s o r i).length = unitBytes o.dst.fmt := by
  unfold convertUnit
  dsimp only
  split
  · exact length_unitOf ..
  · split <;> exact length_unitOf ..

/-- A blended pixel, channel by channel (R332). -/
theorem blendUnit_eq {s : State} {o : BltOp} {r i f : Nat} {sv dv : Nat → Int} (hf : f = o.dst.fmt)
    (hsrc : ∀ c, sv c = bltChan s o.src ((o.src.x + i : Nat) : Int) ((o.src.y + r : Nat) : Int) c)
    (hdst : ∀ c, dv c = bltChan s o.dst ((o.dst.x + i : Nat) : Int) ((o.dst.y + r : Nat) : Int) c) :
    blendUnit s o r i = unitOf f ((List.range 4).map fun c =>
      packChan f c (clampI (-1048576) 1048575 (if c = 3 then
          clampI 0 0x10000 (sv 3) + r16 (clampI 0 0x10000 (dv 3) * (0x10000 - clampI 0 0x10000 (sv 3)))
        else if o.premul then sv c + r16 (dv c * (0x10000 - clampI 0 0x10000 (sv 3)))
        else r16 (sv c * clampI 0 0x10000 (sv 3) + dv c * (0x10000 - clampI 0 0x10000 (sv 3)))))) := by
  subst hf
  obtain rfl : sv = fun c => bltChan s o.src ((o.src.x + i : Nat) : Int) ((o.src.y + r : Nat) : Int) c := funext hsrc
  obtain rfl : dv = fun c => bltChan s o.dst ((o.dst.x + i : Nat) : Int) ((o.dst.y + r : Nat) : Int) c := funext hdst
  simp only [blendUnit, List.range_succ, List.range_zero, List.nil_append, List.cons_append, List.map_cons, List.map_nil,
    Nat.reduceEqDiff, if_true, if_false, OfNat.zero_ne_ofNat, OfNat.one_ne_ofNat]

/-- A converted unit of a format that is not 4:2:2 (R331). -/
theorem convertUnit_eq {s : State} {o : BltOp} {r i f : Nat} {sv : Nat → Nat → Int} (hf : f = o.dst.fmt)
    (hsrc : ∀ j c, sv j c = bltChan s o.src ((o.src.x + i + j : Nat) : Int) ((o.src.y + r : Nat) : Int) c) (hplain : fmt422 f = false) :
    convertUnit s o r i = unitOf f ((if f = 5 then [1, 0, 2] else [0, 1, 2, 3]).map fun c => packChan f c (sv 0 c)) := by
  subst hf
  simp only [convertUnit, hplain, Bool.false_eq_true, if_false, hsrc]
  split <;> rfl

/-- A converted unit of a 4:2:2 format: each pair's chroma and both pixels' luma (R331). -/
theorem convertUnit_pairs {s : State} {o : BltOp} {r i f : Nat} {sv : Nat → Nat → Int} (hf : f = o.dst.fmt)
    (hsrc : ∀ j c, sv j c = bltChan s o.src ((o.src.x + i + j : Nat) : Int) ((o.src.y + r : Nat) : Int) c) (hpair : fmt422 f = true) :
    convertUnit s o r i = unitOf f ((List.range (unitPx f / 2)).flatMap fun q =>
      let ch (c : Nat) : Nat := packChan f c (pairChroma s o.src ((o.src.x + i + 2 * q : Nat) : Int) ((o.src.y + r : Nat) : Int) c)
      [ch 1, packChan f 0 (sv (2 * q) 0), ch 2, packChan f 0 (sv (2 * q + 1) 0)]) := by
  subst hf
  simp only [convertUnit, hpair, if_true, hsrc]

end Sys2Proof.Machine
end

section
/-! SUPPORT. The blitter's commands (R327 to R335): GO, the end of an operation, its abort and memory errors. -/

namespace Sys2Proof.Machine

/-! ### The operation brought on -/

theorem advanceBlt_leaves (s : State) (o : BltOp) (rows : Nat) :
    (advanceBlt s o rows).1 = setBlt (runRows (rows - o.rows) s o).1 (runRows (rows - o.rows) s o).2 ∧
    (advanceBlt s o rows).2 = (runRows (rows - o.rows) s o).2 := by
  unfold advanceBlt
  exact ⟨rfl, rfl⟩

theorem setBlt_blt (s : State) (o : BltOp) : (setBlt s o).blt = some o := by rw [setBlt, wrF_blt]

theorem setBlt_memory (s : State) (o : BltOp) : SameMemory s (setBlt s o) :=
  sameMemory_of_stores (by rw [setBlt, wrF_mem]) (by rw [setBlt, wrF_hostMem])

/-- Bringing an operation on keeps its parameters and writes its destination's rows alone. -/
theorem advanceBlt_runs (s : State) (o : BltOp) (rows : Nat) : SameOp o (advanceBlt s o rows).2 ∧
    (advanceBlt s o rows).1.blt = some (advanceBlt s o rows).2 ∧ MemoryExcept (dstRows o) s (advanceBlt s o rows).1 := by
  obtain ⟨⟨hop, -, hmemory⟩, -⟩ := runRows_runs (rows - o.rows) s o
  obtain ⟨hstate, hnow⟩ := advanceBlt_leaves s o rows
  rw [hstate, hnow]
  exact ⟨hop, setBlt_blt .., hmemory.chain (.of_same (setBlt_memory ..))⟩

theorem SameOp.dstRows {o q : BltOp} (h : SameOp o q) : dstRows q = dstRows o := by rw [h]; rfl

/-! ### GO (R327, R329) -/

/-- A GO while an operation runs. -/
def goBusy (s : State) : State := bump (wrB s Reg.BLT.ERR 0 true) Reg.BLT.GO_IGNORED

/-- A GO refused for cause `why`. -/
def goRefused (s : State) (why : Nat) : State := raiseE (wrB (wrF s Reg.BLT.STATUS 7 4 why) Reg.BLT.ERR 1 true) Page.BLT 1

/-- The status of an operation that starts: BUSY, the row order, staging, and the last cause. -/
def goStatus (s : State) : Nat :=
  1 + 4 * (captureBlt s).up.toNat + 8 * (captureBlt s).staged.toNat + 16 * rdF s Reg.BLT.STATUS 7 4

/-- An operation started. -/
def goStarted (s : State) (rows : Nat) : State :=
  (advanceBlt (wr s Reg.BLT.STATUS (w32 (goStatus s))) (captureBlt s) (done s rows)).1

section
variable {s : State} (hsafe : safe s Page.BLT = false)
include hsafe

theorem goBlt_busy {o : BltOp} (rows : Nat) (h : s.blt = some o) : goBlt s rows = goBusy s := by
  rw [goBlt, hsafe, h]
  rfl

theorem goBlt_refused (rows : Nat) (h : s.blt = none) (hwhy : (captureBlt s).refusal ≠ 0) :
    goBlt s rows = goRefused s (captureBlt s).refusal := by
  rw [goBlt, hsafe, h]
  exact if_pos hwhy

theorem goBlt_starts (rows : Nat) (h : s.blt = none) (hwhy : (captureBlt s).refusal = 0) : goBlt s rows = goStarted s rows := by
  rw [goBlt, hsafe, h]
  exact if_neg (not_not.mpr hwhy)

end

/-- GO of the operation that BLT_CTRL names. -/
theorem bltGo_accepted {s : State} {a : Agent} {v : Word} {rows op : Nat} {c : Instr} (hawake : Awake s)
    (hrow : (c, op) ∈ [(Instr.bltCopy a v rows, 0), (.bltFill a v rows, 1), (.bltCopyBlend a v rows, 2), (.bltCopyConvert a v rows, 3)])
    (hctrl : rdF s Reg.BLT.BLT_CTRL 1 0 = op) (hacc : Accepts s a Reg.BLT.GO .cmd) (hgo : bit v 0 = true) (hkeep : bit v 1 = false) :
    exec c s = .next (touchSession s a (pageOf Reg.BLT.GO) (goBlt s rows)) := by
  have hexec : exec c s = bltGo op a v rows s := by
    simp only [List.mem_cons, Prod.mk.injEq, List.not_mem_nil, or_false] at hrow
    rcases hrow with ⟨rfl, rfl⟩ | ⟨rfl, rfl⟩ | ⟨rfl, rfl⟩ | ⟨rfl, rfl⟩ <;> rfl
  rw [hexec, bltGo, if_pos hctrl, live_guarded hawake hacc, writeBltGo, hgo, hkeep]
  rfl

/-- GO of another operation's row. -/
theorem bltGo_other {s : State} {a : Agent} {v : Word} {rows op : Nat} {c : Instr} (hawake : Awake s)
    (hrow : (c, op) ∈ [(Instr.bltCopy a v rows, 0), (.bltFill a v rows, 1), (.bltCopyBlend a v rows, 2), (.bltCopyConvert a v rows, 3)])
    (hctrl : rdF s Reg.BLT.BLT_CTRL 1 0 ≠ op) : exec c s = .next s := by
  have hexec : exec c s = bltGo op a v rows s := by
    simp only [List.mem_cons, Prod.mk.injEq, List.not_mem_nil, or_false] at hrow
    rcases hrow with ⟨rfl, rfl⟩ | ⟨rfl, rfl⟩ | ⟨rfl, rfl⟩ | ⟨rfl, rfl⟩ <;> rfl
  rw [hexec, bltGo, if_neg hctrl, live_awake hawake]

theorem goBusy_leaves (s : State) : rdB (goBusy s) Reg.BLT.ERR 0 = true ∧
    rd (goBusy s) Reg.BLT.GO_IGNORED = plusOne (rd s Reg.BLT.GO_IGNORED) ∧
    RegsExcept [Reg.BLT.ERR, Reg.BLT.GO_IGNORED] s (goBusy s) ∧ SameMemory s (goBusy s) := by
  refine ⟨?_, ?_, ((RegsExcept.refl _ s).wr _ (by decide)).wr _ (by decide), sameMemory_of_stores ?_ ?_⟩
  · rw [goBusy, rdB, rd_bump_other _ (by decide), rd_wrB, if_pos rfl, bit_setBit_same _ _ _ (by decide)]
  · rw [goBusy, rd_bump_same, rd_wrB, if_neg (by decide)]
  · rw [goBusy, bump_mem, wrB_mem]
  · rw [goBusy, bump_hostMem, wrB_hostMem]

theorem refusal_lt (o : BltOp) : o.refusal < 16 := by
  have hcause {c : Prop} [Decidable c] {m n : Nat} (hm : m < 16) (hn : n < 16) : (if c then m else n) < 16 := by
    split
    · exact hm
    · exact hn
  exact hcause (by decide) (hcause (by decide) (hcause (by decide) (hcause (by decide) (hcause (by decide)
    (hcause (by decide) (hcause (by decide) (by decide)))))))

theorem goRefused_leaves (s : State) {why : Nat} (hwhy : why < 16) : (goRefused s why).blt = s.blt ∧
    rdB (goRefused s why) Reg.BLT.ERR 1 = true ∧ rdF (goRefused s why) Reg.BLT.STATUS 7 4 = why ∧
    RegsExcept [Reg.BLT.ERR, Reg.BLT.STATUS] s (goRefused s why) ∧ SameMemory s (goRefused s why) := by
  have hregs (a : Nat) : rd (goRefused s why) a = rd (wrB (wrF s Reg.BLT.STATUS 7 4 why) Reg.BLT.ERR 1 true) a := rd_raiseE ..
  refine ⟨?_, ?_, ?_, ?_, sameMemory_of_stores ?_ ?_⟩
  · rw [goRefused, raiseE_blt]; rfl
  · rw [rdB, hregs, rd_wrB, if_pos rfl, bit_setBit_same _ _ _ (by decide)]
  · rw [rdF, hregs, rd_wrB, if_neg (by decide), ← rdF, rdF_wrF_same _ _ _ (by decide) (by decide)]
    exact Nat.mod_eq_of_lt hwhy
  · exact RegsExcept.of_regs (((RegsExcept.refl _ s).wr _ (by decide)).wr _ (by decide)) (raiseE_regs ..)
  · rw [goRefused, raiseE_mem]; rfl
  · rw [goRefused, raiseE_hostMem]; rfl

/-- The rows done reach the status alone. -/
theorem rdB_setBlt (s : State) (o : BltOp) {b : Nat} (h : b < 16) :
    rdB (setBlt s o) Reg.BLT.STATUS b = rdB s Reg.BLT.STATUS b := by
  rw [rdB, setBlt, rd_wrF, if_pos rfl, bit_setFld_other _ _ _ _ _ (by decide) (by decide) (.inl h)]
  rfl

theorem rd_runRows (n : Nat) (s : State) (o : BltOp) {a : Nat} (ha : a ∉ [Reg.BLT.BYTES_LO, Reg.BLT.BYTES_HI]) :
    rd (runRows n s o).1 a = rd s a := runRows_regs n s o a ha

/-- An operation that has started runs with the parameters captured, BUSY shown. -/
theorem goStarted_leaves (s : State) (rows : Nat) : ∃ q, (goStarted s rows).blt = some q ∧ { q with rows := 0 } = captureBlt s ∧
    q.rows ≤ rows ∧ rdB (goStarted s rows) Reg.BLT.STATUS 0 = true ∧ RegsExcept bltRegs s (goStarted s rows) ∧
    MemoryExcept (dstRows (captureBlt s)) s (goStarted s rows) := by
  have hbusy : rdB (wr s Reg.BLT.STATUS (w32 (goStatus s))) Reg.BLT.STATUS 0 = true := by
    rw [rdB, rd_wr_same, bit, w32, BitVec.toNat_ofNat, Nat.testBit_zero, decide_eq_true_eq]
    unfold goStatus
    omega
  have hstart : RegsExcept bltRegs s (wr s Reg.BLT.STATUS (w32 (goStatus s))) := (RegsExcept.refl _ s).wr _ (by decide)
  have hmemory : SameMemory s (wr s Reg.BLT.STATUS (w32 (goStatus s))) := sameMemory_of_stores rfl rfl
  have hfirst : (captureBlt s).rows = 0 := rfl
  unfold goStarted
  generalize wr s Reg.BLT.STATUS (w32 (goStatus s)) = u at hbusy hstart hmemory
  generalize captureBlt s = o at hfirst
  obtain ⟨hop, hblt, hwritten⟩ := advanceBlt_runs u o (done s rows)
  obtain ⟨-, -, hrows⟩ := runRows_runs (done s rows - o.rows) u o
  have hdone : done s rows ≤ rows := by unfold done; split <;> omega
  refine ⟨_, hblt, ?_, ?_, ?_, hstart.trans (advanceBlt_regs u o (done s rows)), (MemoryExcept.of_same hmemory).chain hwritten⟩
  · rw [hop, ← hfirst]
  · rw [(advanceBlt_leaves u o _).2]
    omega
  · rw [(advanceBlt_leaves u o _).1, rdB_setBlt _ _ (by decide), rdB, rd_runRows _ _ _ (by decide)]
    exact hbusy

/-! ### The end of an operation (R334) -/

/-- The operation ended: nothing runs, and BUSY clears. -/
def bltEnded (s : State) (o : BltOp) : State := wrB (endBlt s o) Reg.BLT.STATUS 0 false

theorem bltEnded_leaves (s : State) (o : BltOp) : (bltEnded s o).blt = none ∧ rdB (bltEnded s o) Reg.BLT.STATUS 0 = false ∧
    SameMemory s (bltEnded s o) ∧ RegsExcept [Reg.BLT.STATUS] s (bltEnded s o) := by
  have hended : (endBlt s o).blt = none := by
    have hkept := foldl_keep State.blt (noteEnd 16 o.shapes) (fun t c => by unfold noteEnd; split <;> rfl) (List.range 16)
      { s with blt := none }
    unfold endBlt endStream
    dsimp only
    split
    · next q hq => exact absurd (hkept.symm.trans hq) (by simp)
    · exact hkept
  have hregs : (endBlt s o).regs = s.regs := endStream_regs { s with blt := none } 16 o.shapes
  have hmemory : SameMemory s (endBlt s o) := by
    rw [endBlt, endStream_frame]
    exact sameMemory_of_stores rfl rfl
  unfold bltEnded
  generalize endBlt s o = u at hended hregs hmemory
  refine ⟨hended, ?_, hmemory, RegsExcept.wr (.of_regs (.refl _ s) hregs) _ (List.mem_singleton_self _)⟩
  rw [rdB, rd_wrB, if_pos rfl, bit_setBit_same _ _ _ (by decide)]

/-- DONE shown, the operation counted, and the pulse of its end. -/
def bltCounted (s : State) : State := raiseE (pulse (bump (wrB s Reg.BLT.STATUS 1 true) Reg.BLT.OPS_DONE) 128) Page.BLT 0

theorem notify_blt (s : State) (l : Nat) : (notify s l).blt = s.blt := foldl_keep State.blt _ (fun s _ => by split <;> rfl) _ s

theorem pulse_blt (s : State) (l : Nat) : (pulse s l).blt = s.blt := by
  rcases pulse_cases s l with h | h | ⟨e, h⟩ <;> rw [h]
  · rw [raiseE_blt]; rfl
  · rw [notify_blt]

theorem bltCounted_leaves (s : State) : (bltCounted s).blt = s.blt ∧ rdB (bltCounted s) Reg.BLT.STATUS 0 = rdB s Reg.BLT.STATUS 0 ∧
    rdB (bltCounted s) Reg.BLT.STATUS 1 = true ∧ rd (bltCounted s) Reg.BLT.OPS_DONE = plusOne (rd s Reg.BLT.OPS_DONE) ∧
    SameMemory s (bltCounted s) ∧
    RegsExcept [Reg.BLT.STATUS, Reg.BLT.OPS_DONE, Reg.EVF.MERGED, Reg.EVF.LAST_MERGED] s (bltCounted s) := by
  have hbefore : RegsExcept [Reg.BLT.STATUS, Reg.BLT.OPS_DONE, Reg.EVF.MERGED, Reg.EVF.LAST_MERGED] s
      (bump (wrB s Reg.BLT.STATUS 1 true) Reg.BLT.OPS_DONE) := ((RegsExcept.refl _ s).wr _ (by decide)).wr _ (by decide)
  have hstatus : rd (bump (wrB s Reg.BLT.STATUS 1 true) Reg.BLT.OPS_DONE) Reg.BLT.STATUS = setBit (rd s Reg.BLT.STATUS) 1 true := by
    rw [rd_bump_other _ (by decide), rd_wrB, if_pos rfl]
  have hcount : rd (bump (wrB s Reg.BLT.STATUS 1 true) Reg.BLT.OPS_DONE) Reg.BLT.OPS_DONE = plusOne (rd s Reg.BLT.OPS_DONE) := by
    rw [rd_bump_same, rd_wrB, if_neg (by decide)]
  have hblt : (bump (wrB s Reg.BLT.STATUS 1 true) Reg.BLT.OPS_DONE).blt = s.blt := by rw [bump_blt, wrB_blt]
  have hmemory : SameMemory s (bump (wrB s Reg.BLT.STATUS 1 true) Reg.BLT.OPS_DONE) :=
    sameMemory_of_stores (by rw [bump_mem, wrB_mem]) (by rw [bump_hostMem, wrB_hostMem])
  unfold bltCounted
  generalize bump (wrB s Reg.BLT.STATUS 1 true) Reg.BLT.OPS_DONE = u at hbefore hstatus hcount hblt hmemory
  have hpulsed := rd_pulse u 128
  have hrd {a : Nat} (ha : a ∉ [Reg.EVF.MERGED, Reg.EVF.LAST_MERGED]) : rd (raiseE (pulse u 128) Page.BLT 0) a = rd u a :=
    (rd_raiseE ..).trans (hpulsed a ha)
  refine ⟨?_, ?_, ?_, ?_, (hmemory.trans (pulse_memory u 128)).trans (sameMemory_of_stores (raiseE_mem ..) (raiseE_hostMem ..)), ?_⟩
  · rw [raiseE_blt, pulse_blt, hblt]
  · rw [rdB, hrd (by decide), hstatus, bit_setBit_other _ _ _ _ (by decide) (by decide), ← rdB]
  · rw [rdB, hrd (by decide), hstatus, bit_setBit_same _ _ _ (by decide)]
  · rw [hrd (by decide), hcount]
  · exact (hbefore.trans (hpulsed.mono (by decide))).of_regs (raiseE_regs ..)

/-- The operation run to its last row. -/
def bltRun (s : State) (o : BltOp) : State := (runRows (o.h - o.rows) s o).1

/-- The operation complete. -/
def bltFinished (s : State) (o : BltOp) : State := bltCounted (bltEnded (advanceBlt s o o.h).1 (advanceBlt s o o.h).2)

theorem bltDone_finishes {s : State} {o : BltOp} (hlit : Lit s) (hblt : s.blt = some o) (hclean : Clean s) :
    exec .bltDone s = .next (bltFinished s o) := by
  have hall : ¬ (advanceBlt s o o.h).2.rows < o.h := by
    rw [(advanceBlt_leaves s o o.h).2]
    exact Nat.not_lt.mpr (runRows_all (o.h - o.rows) hclean (by omega))
  refine (wall_lit hlit).trans ?_
  rw [hblt]
  exact congrArg Host.Outcome.next (if_neg hall)

theorem bltDone_idle {s : State} (hlit : Lit s) (hblt : s.blt = none) : exec .bltDone s = .next s := by
  refine (wall_lit hlit).trans ?_
  rw [hblt]

theorem bltFinished_leaves (s : State) (o : BltOp) : (bltFinished s o).blt = none ∧ rdB (bltFinished s o) Reg.BLT.STATUS 0 = false ∧
    rdB (bltFinished s o) Reg.BLT.STATUS 1 = true ∧ rd (bltFinished s o) Reg.BLT.OPS_DONE = plusOne (rd s Reg.BLT.OPS_DONE) ∧
    RegsExcept [Reg.BLT.STATUS, Reg.BLT.BYTES_LO, Reg.BLT.BYTES_HI, Reg.BLT.OPS_DONE, Reg.EVF.MERGED, Reg.EVF.LAST_MERGED] s
      (bltFinished s o) ∧ SameMemory (bltRun s o) (bltFinished s o) := by
  have hrun := advanceBlt_regs s o o.h
  have hset : SameMemory (bltRun s o) (advanceBlt s o o.h).1 := setBlt_memory ..
  unfold bltFinished
  generalize advanceBlt s o o.h = r at hrun hset
  obtain ⟨hnone, hbusy, hmemory, hregs⟩ := bltEnded_leaves r.1 r.2
  generalize bltEnded r.1 r.2 = u at hnone hbusy hmemory hregs
  obtain ⟨hblt, hidle, hdone, hcount, hcounted, hcountRegs⟩ := bltCounted_leaves u
  refine ⟨hblt.trans hnone, hidle.trans hbusy, hdone, hcount.trans ?_, ?_, hset.trans (hmemory.trans hcounted)⟩
  · rw [hregs _ (by decide), hrun _ (by decide)]
  · exact ((hrun.mono (by decide)).trans (hregs.mono (by decide))).trans (hcountRegs.mono (by decide))

theorem bltFinished_memory (s : State) (o : BltOp) : MemoryExcept (dstRows o) s (bltFinished s o) := by
  obtain ⟨⟨-, -, hmemory⟩, -⟩ := runRows_runs (o.h - o.rows) s o
  obtain ⟨-, -, -, -, -, hsame⟩ := bltFinished_leaves s o
  exact hmemory.chain (.of_same hsame)

/-! ### Stops (R334, R335) -/

/-- The rows done by a stop, and a part of the next. -/
def bltBroken (s : State) (o : BltOp) (rows bytes : Nat) : State :=
  if (advanceBlt s o (done s rows)).2.rows < (advanceBlt s o (done s rows)).2.h then
    writePart (advanceBlt s o (done s rows)).1 (advanceBlt s o (done s rows)).2 (min (done s bytes) (rowBytes o.dst.fmt o.w - 1))
  else (advanceBlt s o (done s rows)).1

theorem stopBlt_eq (s : State) (o : BltOp) (rows bytes : Nat) : stopBlt s o rows bytes =
    (bltEnded (bltBroken s o rows bytes) (advanceBlt s o (done s rows)).2, (advanceBlt s o (done s rows)).2) := rfl

theorem bltBroken_memory (s : State) (o : BltOp) (rows bytes : Nat) : MemoryExcept (dstRows o) s (bltBroken s o rows bytes) := by
  obtain ⟨hop, -, hmemory⟩ := advanceBlt_runs s o (done s rows)
  have hrows := hop.dstRows
  have hwidth : rowBytes (advanceBlt s o (done s rows)).2.dst.fmt (advanceBlt s o (done s rows)).2.w = rowBytes o.dst.fmt o.w := by
    rw [hop]
  unfold bltBroken
  generalize advanceBlt s o (done s rows) = r at hmemory hrows hwidth
  split
  · next hlt =>
    have hpart := writePart_memory r.1 r.2 hlt (n := min (done s bytes) (rowBytes o.dst.fmt o.w - 1)) (by rw [hwidth]; omega)
    rw [hrows] at hpart
    exact hmemory.chain hpart
  · exact hmemory

theorem stopBlt_stops (s : State) (o : BltOp) (rows bytes : Nat) : (stopBlt s o rows bytes).1.blt = none ∧
    rdB (stopBlt s o rows bytes).1 Reg.BLT.STATUS 0 = false ∧ MemoryExcept (dstRows o) s (stopBlt s o rows bytes).1 := by
  have hbroken := bltBroken_memory s o rows bytes
  rw [stopBlt_eq]
  generalize bltBroken s o rows bytes = u at hbroken
  obtain ⟨hnone, hbusy, hmemory, -⟩ := bltEnded_leaves u (advanceBlt s o (done s rows)).2
  exact ⟨hnone, hbusy, hbroken.chain (.of_same hmemory)⟩

/-- A word read notes what it meets in the registers of the memory pages alone. -/
theorem rd_readWord32 (s : State) (a : Nat) (e : Ecc) {b : Nat} (hb : 0x9000 ≤ b) : rd (readWord32 s a e).2 b = rd s b := by
  have hstack : pseudoChannel a / 32 < 4 := Nat.div_lt_of_lt_mul (pseudoChannel_lt a)
  have hcorr : b ≠ Reg.MEM.ECC_CORR (pseudoChannel a / 32) := by simp only [Reg.MEM.ECC_CORR]; omega
  have huncorr : b ≠ Reg.MEM.ECC_UNCORR (pseudoChannel a / 32) := by simp only [Reg.MEM.ECC_UNCORR]; omega
  have hlow : b ≠ Reg.MEM.LAST_UNCORR_LO (pseudoChannel a / 32) := by simp only [Reg.MEM.LAST_UNCORR_LO]; omega
  have hhigh : b ≠ Reg.MEM.LAST_UNCORR_HI (pseudoChannel a / 32) := by simp only [Reg.MEM.LAST_UNCORR_HI]; omega
  have hmet (t : State) (ht : rd t b = rd s b) :
      rd (raiseE (wr (wr (bump t (Reg.MEM.ECC_UNCORR (pseudoChannel a / 32))) (Reg.MEM.LAST_UNCORR_LO (pseudoChannel a / 32))
        (w32 (a / 256 * 256))) (Reg.MEM.LAST_UNCORR_HI (pseudoChannel a / 32)) (w32 (2 ^ 31 + a / 2 ^ 32 % 32)))
        (Page.MEM (pseudoChannel a / 32)) 0) b = rd s b := by
    rw [rd_raiseE, rd_wr_other _ _ _ _ hhigh, rd_wr_other _ _ _ _ hlow, rd_bump_other _ huncorr, ht]
  unfold readWord32
  dsimp only
  generalize hu : (if (e == Ecc.corrected) = true then _ else _ : State) = u
  have hkept : rd u b = rd s b := by
    rw [← hu]
    split
    · rw [rd_bump_other _ hcorr]
      split <;> rfl
    · split <;> rfl
  split
  · exact hmet u hkept
  · exact hkept

/-- An error of memory shown. -/
def bltErrShown (s : State) (write : Bool) (row : Word) : State :=
  raiseE (wr (wrB s Reg.BLT.ERR (if write then 3 else 2) true) Reg.BLT.ERR_ROW row) Page.BLT 2

theorem bltErrShown_leaves (s : State) (write : Bool) (row : Word) : (bltErrShown s write row).blt = s.blt ∧
    rdB (bltErrShown s write row) Reg.BLT.STATUS 0 = rdB s Reg.BLT.STATUS 0 ∧
    rdB (bltErrShown s write row) Reg.BLT.ERR (if write then 3 else 2) = true ∧ SameMemory s (bltErrShown s write row) := by
  have hrd (a : Nat) (ha : a ≠ Reg.BLT.ERR_ROW) : rd (bltErrShown s write row) a =
      rd (wrB s Reg.BLT.ERR (if write then 3 else 2) true) a := (rd_raiseE ..).trans (rd_wr_other _ _ _ _ ha)
  refine ⟨?_, ?_, ?_, sameMemory_of_stores ?_ ?_⟩
  · rw [bltErrShown, raiseE_blt]; rfl
  · rw [rdB, hrd _ (by decide), rd_wrB, if_neg (by decide), ← rdB]
  · rw [rdB, hrd _ (by decide), rd_wrB, if_pos rfl, bit_setBit_same _ _ _ (by split <;> decide)]
  · rw [bltErrShown, raiseE_mem]; rfl
  · rw [bltErrShown, raiseE_hostMem]; rfl

/-- What a failed read counts in memory's own registers. -/
def bltErrMet (s : State) (write : Bool) (addr : Nat) : State :=
  if write then s else (readWord32 s (addr / 32 * 32) .uncorrectable).2

theorem bltErrMet_leaves (s : State) (write : Bool) (addr : Nat) : (bltErrMet s write addr).blt = s.blt ∧
    rdB (bltErrMet s write addr) Reg.BLT.STATUS 0 = rdB s Reg.BLT.STATUS 0 ∧ SameMemory s (bltErrMet s write addr) := by
  unfold bltErrMet
  split
  · exact ⟨rfl, rfl, fun _ => rfl, fun _ => rfl⟩
  · obtain ⟨-, hmem, hhost, -⟩ := readWord32_keep s (addr / 32 * 32) .uncorrectable
    exact ⟨(readWord32_streams ..).2, by rw [rdB, rd_readWord32 _ _ _ (by decide), rdB], sameMemory_of_stores hmem hhost⟩

theorem bltMemError_stops {s : State} {o : BltOp} (hlit : Lit s) (hblt : s.blt = some o) (write : Bool) (rows bytes addr : Nat) :
    ∃ row, exec (.bltMemError write rows bytes addr) s =
      .next (bltErrShown (bltErrMet (stopBlt s o rows bytes).1 write addr) write row) := by
  refine ⟨w32 ((o.dst.y + (stopBlt s o rows bytes).2.rowOf (stopBlt s o rows bytes).2.rows) % 65536), (wall_lit hlit).trans ?_⟩
  rw [hblt]
  rfl

theorem bltMemError_idle {s : State} (hlit : Lit s) (hblt : s.blt = none) (write : Bool) (rows bytes addr : Nat) :
    exec (.bltMemError write rows bytes addr) s = .next s := by
  refine (wall_lit hlit).trans ?_
  rw [hblt]

section
variable {s : State} {a : Agent} {v : Word} {rows bytes : Nat} (hawake : Awake s) (hacc : Accepts s a Reg.BLT.GO .cmd)
  (hgo : bit v 0 = false) (habort : bit v 1 = true)
include hawake hacc hgo habort

theorem bltAbort_idle (hblt : s.blt = none) :
    exec (.bltAbort a v rows bytes) s = .next (touchSession s a (pageOf Reg.BLT.GO) s) := by
  refine (live_guarded hawake hacc).trans ?_
  rw [writeBltGo, hgo, habort, hblt]
  rfl

theorem bltAbort_stops {o : BltOp} (hblt : s.blt = some o) : exec (.bltAbort a v rows bytes) s =
    .next (touchSession s a (pageOf Reg.BLT.GO) (wrB (stopBlt s o rows bytes).1 Reg.BLT.ERR 4 true)) := by
  refine (live_guarded hawake hacc).trans ?_
  rw [writeBltGo, hgo, habort]
  simp only [hblt, Option.isSome_some, Bool.and_self, if_true, Bool.false_eq_true, if_false, abortBlt]

end

theorem touchSession_memory (s : State) (a : Agent) (pg : Nat) (t : State) : SameMemory t (touchSession s a pg t) :=
  sameMemory_of_stores (touchSession_mem ..) (touchSession_hostMem ..)

end Sys2Proof.Machine
end

section
open Sys2Proof Sys2Proof.Machine

/-- Settles O48: GO by what it meets, the end, abort and errors of an operation by the rows that it runs. -/
theorem blitterOperations : Obligations.BlitterOperations := by
  refine ⟨fun s a v rows op c hawake hrow => ⟨bltGo_other hawake hrow, fun hctrl hacc hgo hkeep hsafe => ?_⟩,
    fun s hlit => ⟨fun hnone => ⟨bltDone_idle hlit hnone, bltMemError_idle hlit hnone⟩, fun o hblt => ⟨fun hpoison => ?_, ?_⟩⟩,
    fun s a v rows bytes hawake hacc hgo habort => ⟨bltAbort_idle hawake hacc hgo habort, fun o hblt => ?_⟩⟩
  · have hexec := bltGo_accepted hawake hrow hctrl hacc hgo hkeep
    refine ⟨fun o hblt => ?_, fun hnone hwhy => ?_, fun hnone hwhy => ?_⟩
    · obtain ⟨herr, hcount, hregs, hmemory⟩ := goBusy_leaves s
      rw [goBlt_busy hsafe rows hblt] at hexec
      refine ⟨_, hexec, ?_, ?_, ?_, hregs.touchSession, hmemory.trans (touchSession_memory ..)⟩
      · rw [touchSession_blt]
        exact hblt
      · rw [rdB, rd_touchSession]
        exact herr
      · rw [rd_touchSession, hcount]
    · obtain ⟨hblt, herr, hstatus, hregs, hmemory⟩ := goRefused_leaves s (refusal_lt (captureBlt s))
      rw [goBlt_refused hsafe rows hnone hwhy] at hexec
      refine ⟨_, hexec, ?_, ?_, ?_, hregs.touchSession, hmemory.trans (touchSession_memory ..)⟩
      · rw [touchSession_blt, hblt, hnone]
      · rw [rdB, rd_touchSession]
        exact herr
      · rw [rdF, rd_touchSession]
        exact hstatus
    · obtain ⟨q, hblt, hop, hrows, hbusy, hregs, hmemory⟩ := goStarted_leaves s rows
      rw [goBlt_starts hsafe rows hnone hwhy] at hexec
      refine ⟨_, q, hexec, ?_, hop, hrows, ?_, hregs.touchSession, ?_⟩
      · rw [touchSession_blt, hblt]
      · rw [rdB, rd_touchSession]
        exact hbusy
      · have hsame : dstRows (captureBlt s) = dstRows q := by rw [← hop]; rfl
        rw [hsame] at hmemory
        exact hmemory.chain (.of_same (touchSession_memory ..))
  · have hclean := clean_of_nil hpoison
    obtain ⟨hnone, hbusy, hdone, hcount, hregs, hsame⟩ := bltFinished_leaves s o
    refine ⟨_, bltDone_finishes hlit hblt hclean, hnone, hbusy, hdone, hcount, hregs, bltFinished_memory s o,
      fun hop _ hfirst hun hwidth hstride hin r hr => ?_, fun hop hfmt hfirst hstride hun hin hapart r hr => ?_,
      fun r u f hlast hr hf hu hwidth hin hun => ⟨fun sv dv hop hsrc hdst => ?_,
        fun sv hop hsrc => ⟨fun hplain => ?_, fun hpair => ?_⟩⟩⟩
    · rw [hsame.memRead]
      exact runRows_fills (writesRows_fill hop hun hwidth hstride hin) hclean hfirst hr
    · rw [hsame.memRead]
      exact runRows_fills (writesRows_copy hop hfmt hun hstride hin hapart) hclean hfirst hr
    · subst hr hf
      rw [hsame.memRead]
      exact (lastRow_unit hclean hlast rfl hu hwidth hin hun (fun _ => length_unitOf ..) (bltRow_blend hop)).trans
        (blendUnit_eq rfl hsrc hdst)
    · subst hr hf
      rw [hsame.memRead]
      exact (lastRow_unit hclean hlast rfl hu hwidth hin hun (fun _ => length_convertUnit ..) (bltRow_convert hop)).trans
        (convertUnit_eq rfl hsrc hplain)
    · subst hr hf
      rw [hsame.memRead]
      exact (lastRow_unit hclean hlast rfl hu hwidth hin hun (fun _ => length_convertUnit ..) (bltRow_convert hop)).trans
        (convertUnit_pairs rfl hsrc hpair)
  · intro write rows bytes addr
    obtain ⟨row, hexec⟩ := bltMemError_stops hlit hblt write rows bytes addr
    obtain ⟨hnone, hbusy, hmemory⟩ := stopBlt_stops s o rows bytes
    obtain ⟨hmetBlt, hmetBusy, hmet⟩ := bltErrMet_leaves (stopBlt s o rows bytes).1 write addr
    obtain ⟨hshownBlt, hshownBusy, herr, hshown⟩ := bltErrShown_leaves (bltErrMet (stopBlt s o rows bytes).1 write addr) write row
    exact ⟨_, hexec, hshownBlt.trans (hmetBlt.trans hnone), hshownBusy.trans (hmetBusy.trans hbusy), herr,
      (hmemory.chain (.of_same hmet)).chain (.of_same hshown)⟩
  · obtain ⟨hnone, hbusy, hmemory⟩ := stopBlt_stops s o rows bytes
    have hregs := stopBlt_regs s o rows bytes
    have hexec := bltAbort_stops (rows := rows) (bytes := bytes) hawake hacc hgo habort hblt
    generalize (stopBlt s o rows bytes).1 = u at hnone hbusy hmemory hregs hexec
    have hmarked : RegsExcept [Reg.BLT.STATUS, Reg.BLT.BYTES_LO, Reg.BLT.BYTES_HI, Reg.BLT.ERR] s (wrB u Reg.BLT.ERR 4 true) :=
      (hregs.mono (by decide)).wr _ (by decide)
    have hwritten : MemoryExcept (dstRows o) s (wrB u Reg.BLT.ERR 4 true) := hmemory.chain (.of_same (sameMemory_of_stores rfl rfl))
    refine ⟨_, hexec, ?_, ?_, ?_, hmarked.touchSession, hwritten.chain (.of_same (touchSession_memory ..))⟩
    · rw [touchSession_blt]
      exact hnone
    · rw [rdB, rd_touchSession, rd_wrB, if_neg (by decide)]
      exact hbusy
    · rw [rdB, rd_touchSession, rd_wrB, if_pos rfl, bit_setBit_same _ _ _ (by decide)]

end
